-- ==== Sys2Proof/Word.lean ====
section
/-! DEFINITION. The byte of the hub's wires and memories. Register fields and counts are natural numbers kept below 2^width by the one operation that writes them. -/

namespace Sys2Proof

/-- One byte of a wire format or of a memory. -/
abbrev Byte := BitVec 8

end Sys2Proof
end

