-- ==== Sys2Proof/Wire.lean ====
section
/-! DEFINITION. What crosses the hub's edges and is carried as an operand of a command: the Glenlink cell and control block of chapter 02 of spec/, the lane-layer blocks of chapter 03, and a unit of chapter 01. -/

namespace Sys2Proof

/-- A Glenlink cell between its CRC and its meaning (Table 2.2, R60). -/
structure Cell where
  lseq : Nat
  vc : Nat
  /-- KIND bit 4: a continuation cell. -/
  cont : Bool
  /-- KIND bits 3:0, the unit kind of Table 1.4. -/
  kind : Nat
  plane : Nat
  tid : Nat
  len : Nat
  useq : Nat
  /-- Bytes 8 to 15: the timestamp word or the continuation word. -/
  tsw : Nat
  /-- Bytes 16 to 251. -/
  payload : List Byte
deriving DecidableEq, Repr

/-- What a host read addresses: the outbound windows of BAR2 and BAR3, the MSI-X table and PBA of BAR4 and BAR5, or the function's configuration space (Tables 9.1 and 9.2). -/
inductive HostSpace where
  | windows | msix | config
deriving DecidableEq, Repr

/-- The place of a host read: the space and the offset in it. -/
structure HostPlace where
  space : HostSpace
  off : Nat
deriving DecidableEq, Repr

/-- The last two words of an MSI-X table entry as the host writes them: the message data, and the vector's mask bit. -/
structure MsixWord where
  data : Nat
  masked : Bool
deriving DecidableEq, Repr

/-- What a configuration write sets beside Bus Master Enable, the payload sizes and MSI-X Enable: the MSI-X function mask, and whole registers of the header by their offset, the base address registers among them. -/
structure HostConf where
  funcMask : Bool
  regs : List (Nat × Nat)
deriving DecidableEq, Repr

/-- A request of the host to the function, beside the accesses to BAR0, which are register accesses on the host bridge path (R294). -/
inductive HostReq where
  | write (off attr : Nat) (data : List (Option (BitVec 8)))
  | read (space : HostSpace) (off len host attr : Nat)
  | atomic (off op size operand compare host attr : Nat)
  | lockedRead (off len host attr : Nat)
  | unlock
  | config (bme mps mrrs : Nat) (msixEn : Bool) (conf : HostConf)
  | vector (v addr data : Nat) (masked : Bool)
deriving DecidableEq, Repr

/-- A request on EP0: whether the hub is addressed or the function, and the error that endpoint memory shows on it (0 none, 1 corrected, 2 uncorrectable). -/
structure Ep0Target where
  hub : Bool
  ecc : Nat
deriving DecidableEq, Repr

/-- A stage of a CSR_WRITE vendor request on EP0 (Table 11.2, R353). -/
inductive CtlStage where
  | setup
  | data (word : Nat)
  | status
deriving DecidableEq, Repr

/-- What the host sends to an OUT endpoint (R349, R357): a PING, or a packet under a data toggle. -/
inductive OutToken where
  | ping
  | packet (toggle : Nat)
deriving DecidableEq, Repr

/-- Who asks for the use of a key slot: an access path, and, on ENGINE, the logical engine whose image asks (R420). -/
structure KeyUser where
  path : Nat
  eng : Nat
deriving DecidableEq, Repr

/-- A fetch of scan-out: the steps of 256 bytes that were left in the buffer, and the DRAM errors corrected during it. -/
structure FetchRun where
  fill : Nat
  corr : Nat
deriving DecidableEq, Repr

/-- What befalls an engine: a trap, or an uncorrectable error of its local memory; and the errors of it that were corrected before. -/
structure EngineErr where
  trap : Bool
  corr : Nat
deriving DecidableEq, Repr

/-- The terms a CAP block carries (Table 2.3). -/
structure CapTerms where
  maj : Nat
  min : Nat
  maxVcs : Nat
  role : Nat
  seen : Bool
  caps : Nat
  nodeId : Nat
deriving DecidableEq, Repr

/-- The content of a HEALTH block (R114). -/
structure HealthTerms where
  lane : Nat
  use : Nat
  learn : Bool
  pred : Bool
  eyeH : Nat
  eyeV : Nat
  errs : Nat
deriving DecidableEq, Repr

/-- A control block of Table 2.3 or a lane-layer block of Table 3.1. -/
inductive Ctl where
  | idle
  | ack (cum base map : Nat)
  | credit (vc limit : Nat)
  | time (sub id stamp : Nat)
  | health (h : HealthTerms)
  | cap (t : CapTerms)
  | align (lane pos mcnt bip : Nat)
  | train (lane step : Nat) (ready : Bool) (maxRate preset maxWidth : Nat) (spareEn : Bool) (pass : Nat)
  | substReq (lane kind rseq : Nat)
  | switch (src dst pos rseq : Nat)
deriving DecidableEq, Repr

/-- A unit outside the planes: its kind, tunnel, payload, and for a unit that comes off a trunk the sequence number and timestamp word it carries (R33, R34). -/
structure UnitMsg where
  tid : Nat
  kind : Nat
  payload : List Byte
  seq : Nat
  tsw : Nat
deriving DecidableEq, Repr

/-- What a training step learns (R105, R106): the peer's MAX_RATE, MAX_WIDTH and SPARE_EN, the transmit presets it requests, the lanes that passed CHECK at this receiver and at the peer's, and the deskew of each lane in blocks. -/
structure TrainInfo where
  peerRate : Nat
  peerWidth : Nat
  peerSpare : Bool
  preset0 : Nat
  preset1 : Nat
  presetS : Nat
  passRx : Nat
  passTx : Nat
  deskew0 : Nat
  deskew1 : Nat
  deskewS : Nat
deriving DecidableEq, Repr

/-- A lane's 1 ms measurement (R110): EYE_H in 1/128 UI, EYE_V in mV, and the window's BIP-8 and sync header errors. -/
structure LaneSample where
  lane : Nat
  eyeH : Nat
  eyeV : Nat
  errs : Nat
deriving DecidableEq, Repr

/-- An upset in one plane's copy of a tunnel map entry, brought by the outside world before a lookup or a scrub: a single-bit error, an uncorrectable error, or other words with good check bits (R41, R43). -/
inductive MapUpset where
  | single (plane index : Nat)
  | uncorrectable (plane index : Nat)
  | words (plane index w0 w1 w2 w3 : Nat)
deriving DecidableEq, Repr

/-- What a sink reports: its DPCD maximum rate in kHz and lanes, bits per component, PSR support, and the link rates an eDP sink lists, in kHz. -/
structure DspSink where
  rate : Nat
  lanes : Nat
  bpc : Nat
  psr : Bool
  rates : List Nat
deriving DecidableEq, Repr

/-- What a controller reports of a namespace (R268): its NSID, size in blocks, LBA data size and metadata size in bytes, and whether end-to-end protection is on. -/
structure NsInfo where
  nsid : Nat
  blocks : Nat
  lba : Nat
  metaSize : Nat
  prot : Bool
deriving DecidableEq, Repr

/-- What a bring-up step of R274 finds: whether it succeeded; the link's width and generation; MQES and MPSMIN of CAP; the I/O queue pairs granted; and the active namespaces. -/
structure RpFinding where
  ok : Bool
  width : Nat
  gen : Nat
  mqes : Nat
  mpsmin : Nat
  granted : Nat
  spaces : List NsInfo
deriving DecidableEq, Repr

end Sys2Proof
end

