-- ==== Sys2Proof/Syntax.lean ====
section
/-! DEFINITION. The commands of the hub: one constructor for each row of spec/opcode_table.json, with the operands the row needs: which instance it acts on, on which access path a register write arrives, and what the outside world brings with the event. -/

namespace Sys2Proof

/-- The commands of the block, one per row of spec/opcode_table.json, in the table's order. -/
inductive Instr where
  /-- REGISTER_WRITE (R9): A CSR write to a register that has no row of its own sets the field as its access type gives. -/
  | registerWrite (path addr data be : Nat)
  /-- LATCHING_READ (R7): A read of the _LO register of a 64-bit pair, or of the register named as a group's latching read, latches the _HI half of that pair or group. -/
  | latchingRead (path addr be : Nat)
  /-- HI_WRITE_APPLY (R8): A write to the _HI register of a writable 64-bit pair applies both halves together. -/
  | hiWriteApply (path addr data : Nat)
  /-- SOFT_RESET_REQUEST (R550): A write of 1 to PAGE_CTL.SRST starts a page soft reset, which waits while the page has a command in progress. -/
  | softResetRequest (path page data : Nat)
  /-- SOFT_RESET_ACT (R550): Once the page's BUSY is 0, the page soft reset clears what the page's chapter gives, PAGE_IRQ_STAT and the capture registers. -/
  | softResetAct (page : Nat)
  /-- PAGE_LOCK (R11): A write of 1 to PAGE_CTL.LOCK makes the page's RWL fields read-only until the next reset that restores the page's registers. -/
  | pageLock (path page data : Nat)
  /-- PAGE_IRQ_FORCE (R551): A write to PAGE_IRQ_FORCE sets each PAGE_IRQ_STAT bit written 1 below IRQ_COUNT. -/
  | pageIrqForce (path page data : Nat)
  /-- UNIT_INGRESS (R40): A unit arriving at an ingress point is looked up once in the tunnel map, and then timestamped, policed, numbered, cut into cells and entered into the planes. -/
  | unitIngress (sp : Nat) (u : UnitMsg) (upsets : List MapUpset)
  /-- FENCE_ARRIVAL (R25): A copy of a FENCE unit reaches the head of its plane's egress queue, and the egress holds the queue until the fence is complete. -/
  | fenceArrival (p q : Nat)
  /-- FENCE_TIMEOUT (R28): A FENCE unit still incomplete TMAP_FENCE_TMO after its first copy arrived is completed by timeout, counted and journalled. -/
  | fenceTimeout (q tid : Nat)
  /-- SCRUB_PASS (R43): Every 100 ms the scrubber compares the two map copies and overwrites a differing copy with the authority plane's. -/
  | scrubPass (upsets : List MapUpset)
  /-- TMAP_READ_A (R45): READ_A copies plane A's committed entry at INDEX into TMAP_DATA. -/
  | tmapReadA (path : Nat)
  /-- TMAP_READ_B (R45): READ_B copies plane B's committed entry at INDEX into TMAP_DATA. -/
  | tmapReadB (path : Nat)
  /-- TMAP_STAGE (R46): STAGE places TMAP_DATA in the edit set as the new content of INDEX, opening the set for the path if none is open. -/
  | tmapStage (path : Nat)
  /-- TMAP_COMMIT (R47): COMMIT checks the edit set in the order of R47 and either refuses it or starts the commit under the Ringmaster's grant. -/
  | tmapCommit (path : Nat)
  /-- TMAP_COMMIT_APPLY (R48): A granted commit makes every staged entry take effect at one cell-slot boundary on both planes and closes the edit set. -/
  | tmapCommitApply
  /-- TMAP_COMMIT_PAIR_TIMEOUT (R49): A commit that has waited 1 ms with no live management pair is refused with NO_AUTHORITY. -/
  | tmapCommitPairTimeout
  /-- TMAP_DISCARD (R45): DISCARD empties the open edit set, or completes with OK when none is open. -/
  | tmapDiscard (path : Nat)
  /-- TMAP_READ_STAGED (R45): READ_STAGED returns the staged content of INDEX, or plane A's committed entry when INDEX is not staged. -/
  | tmapReadStaged (path : Nat)
  /-- CELL_RECEIVED (R68): A cell arriving on a trunk link is accepted, held, counted as a duplicate or discarded as a sequence error by its link sequence number. -/
  | cellReceived (n lane : Nat) (raw : List Byte) (fault : Bool)
  /-- ACK_TIMER_EXPIRY (R76): ACK_TMO passing since the first untriggered cell triggers an ACK and re-arms the timer while a hole is open. -/
  | ackTimerExpiry (n : Nat)
  /-- ACK_SEND (R77): A triggered ACK departs with the receiver's state at departure, in enough ACK blocks to cover the holes. -/
  | ackSend (n : Nat)
  /-- ACK_RECEIVED (R72): A valid ACK block frees replay entries up to CUM and resends the selectively NAKed sequences. -/
  | ackReceived (n cumv base map : Nat) (rtt : Option Nat)
  /-- CELL_TRANSMIT (R84): At a cell slot the transmitter sends a resend or a new cell of a VC with credit, with its next link sequence number. -/
  | cellTransmit (n ecc : Nat)
  /-- REPLAY_TIMER_EXPIRY (R74): The replay timer expires, the oldest outstanding cell is resent, and REPLAY_LIMIT consecutive expiries take the link out of UP. -/
  | replayTimerExpiry (n : Nat)
  /-- CREDIT_RECEIVED (R83): A CREDIT block's LIMIT is taken for its VC, or discarded as stale. -/
  | creditReceived (n v limit : Nat)
  /-- CREDIT_REFRESH (R82): Every CRED_REFRESH the receiver sends a CREDIT block for every agreed VC. -/
  | creditRefresh (n : Nat)
  /-- CTL_ERR (R65): A control block whose CRC-8 fails or whose type is unknown is discarded and counted. -/
  | ctlErr (n : Nat) (raw : List Byte)
  /-- CAP_BLOCK_SEND (R86): Every 1 µs in CAP the link sends a CAP block, with SEEN set once a valid peer CAP has been received. -/
  | capBlockSend (n : Nat)
  /-- CAP_RECEIVED (R86): A valid peer CAP block is checked against the terms of R89 and may take the link to UP or HALT. -/
  | capReceived (n : Nat) (t : CapTerms)
  /-- CAP_TIMEOUT (R86): 10 ms in CAP without a valid peer CAP block takes the link to DOWN with cause CAP_TIMEOUT. -/
  | capTimeout (n : Nat)
  /-- LINK_DOWN_DWELL (R105): With EN 1 and 1 ms passed since entry to DOWN, the link enters TRAIN. -/
  | linkDownDwell (n : Nat)
  /-- LINK_EN_WRITE (R96): A write of TRK_LCFG.EN enables the link, or disables it by DRAIN from UP and at once from any other state. -/
  | linkEnWrite (path n data : Nat)
  /-- LINK_DRAIN_TIMEOUT (R96): At the end of TRK_DRAIN the remaining cells are discarded and the link goes to DOWN with cause DISABLED. -/
  | linkDrainTimeout (n : Nat)
  /-- LINK_RETRAIN (R97): TRK_LCMD RETRAIN takes the link to DOWN with cause RETRAIN and then to TRAIN. -/
  | linkRetrain (path n : Nat)
  /-- TRAIN_STEP_DONE (R105): A training step ends and the next step begins, ASSIGN ending in CAP. -/
  | trainStepDone (n : Nat) (t : TrainInfo)
  /-- TRAIN_STEP_TIMEOUT (R105): A training step that exceeds its limit fails the attempt, which is counted. -/
  | trainStepTimeout (n : Nat)
  /-- TRAIN_RETRY (R105): 50 ms after a failed attempt, training restarts at DETECT. -/
  | trainRetry (n : Nat)
  /-- LANE_HEALTH_SAMPLE (R110): Every 1 ms the receiver measures each active lane's eye margins and error counts and may declare a predictive trigger. -/
  | laneHealthSample (n : Nat) (ms : List LaneSample)
  /-- HEALTH_SEND (R114): Every 1 ms a Glenlink 2.1 end sends one HEALTH block for each receive lane. -/
  | healthSend (n : Nat)
  /-- HEALTH_RECEIVED (R114): A received HEALTH block updates TRK_PEER_HEALTH. -/
  | healthReceived (n : Nat) (h : HealthTerms)
  /-- LANE_HARD_FAIL (R111): Loss of signal, lock, sync headers or ALIGN blocks declares an active lane hard-failed, starting substitution or taking the link out of UP. -/
  | laneHardFail (n lane : Nat)
  /-- SUBST_REQ_REPEAT (R115): Every 1 µs until SWITCH arrives the receiver repeats its SUBST_REQ. -/
  | substReqRepeat (n : Nat)
  /-- SUBST_REQ_RECEIVED (R116): On the first valid SUBST_REQ the transmitter ends the cell in progress, sends SWITCH and moves the failing position onto the spare. -/
  | substReqReceived (n lane rseq : Nat)
  /-- SWITCH_RECEIVED (R116): On SWITCH the receiver rebinds the position to the spare from the next block and records the substitution. -/
  | switchReceived (n src dst pos rseq ns : Nat)
  /-- SUBST_TIMEOUT (R119): No SWITCH within 20 µs of the first SUBST_REQ takes the link out of UP with cause LANE. -/
  | substTimeout (n : Nat)
  /-- SPARE_LOST (R109): A spare that loses lock or crosses predictive thresholds becomes retired. -/
  | spareLost (n : Nat)
  /-- LEARNING_DONE (R113): After 60 s of link time in UP the learning period ends and the baseline margins are stored. -/
  | learningDone (n : Nat)
  /-- LANE_SUBSTITUTE (R115): TRK_LANECMD SUBSTITUTE requests a predictive substitution of the named receive lane, refused during learning. -/
  | laneSubstitute (path n lane : Nat)
  /-- LANE_REQUALIFY (R120): TRK_LANECMD REQUALIFY starts the requalification test of a retired lane at once. -/
  | laneRequalify (path n lane : Nat)
  /-- LANE_RELEARN (R113): TRK_LANECMD RELEARN restarts the learning period now in UP, or at the next entry to UP. -/
  | laneRelearn (path n : Nat)
  /-- REQUALIFIED (R120): A retired lane that has held lock without errors for REQUAL_TIME becomes the spare. -/
  | requalified (n lane : Nat)
  /-- ALT_MODE_WRITE (R123): A write of TRK_ALTCFG.MODE takes an alternate lane mode, only while EN is 0 and the link is DOWN. -/
  | altModeWrite (path n data : Nat)
  /-- UNIT_ENTER_PLANE (R129): An adapter, engine or management ingress point enters a unit into a plane once the plane can allocate all its cells. -/
  | unitEnterPlane (sp : Nat)
  /-- CELL_SLOT_MATCH (R138): In each cell slot the central scheduler matches ingress to egress ports and transfers one cell per matched pair. -/
  | cellSlotMatch (p : Nat)
  /-- SCHED_STALL (R140): 16 cell slots without a match while an eligible VOQ exists make the plane report a scheduler fault. -/
  | schedStall (p : Nat)
  /-- EGRESS_CELL_BOUNDARY (R171): At each cell boundary an egress port sends the next cell from the first ready service level. -/
  | egressCellBoundary (n ecc : Nat)
  /-- PLANE_FATAL_ERROR (R135): An uncorrectable error in a cell entry, descriptor, queue or the free list is reported as fatal, and the plane is declared failed. -/
  | planeFatalError (p : Nat)
  /-- PLANE_POWER_LOST (R151): Loss of a PLANE domain's power or clock is detected by AON and the plane is declared failed with cause POWER. -/
  | planePowerLost (p : Nat)
  /-- PLANE_HEARTBEAT_MISS (R151): HB_MISS consecutive missed plane heartbeats declare the plane failed with cause HEARTBEAT. -/
  | planeHeartbeatMiss (p missed : Nat)
  /-- PLANE_DISABLE (R154): A write of SWx_CFG.EN 0 declares the plane failed with cause COMMAND and takes it to OFF, cancelling any restart. -/
  | planeDisable (path p data : Nat)
  /-- PLANE_ENABLE (R155): A write of SWx_CFG.EN 1 starts the plane's entry into service from OFF. -/
  | planeEnable (path p data : Nat)
  /-- PLANE_RESTART_BEGIN (R154): Once every port has been told of the failure, a plane with AUTO_RESTART begins a restart unless its hourly limit is reached. -/
  | planeRestartBegin (p : Nat)
  /-- PLANE_RESTART_CMD (R154): SWx_CMD RESTART restarts a FAILED plane with EN 1, and is refused in any other state. -/
  | planeRestartCmd (path p : Nat)
  /-- PLANE_ENTER_SERVICE (R155): A restarting plane completes its reload and reservations and enters service as STANDBY. -/
  | planeEnterService (p : Nat)
  /-- SHEEPDOG_SWEEP_START (R144): Every 10 ms Sheepdog starts a sweep of the cell buffer. -/
  | sheepdogSweepStart (p : Nat)
  /-- SHEEPDOG_VISIT (R145): Sheepdog visits one cell, compares its counts and acts on its finding from the second sweep on. -/
  | sheepdogVisit (p : Nat) (upset : Option (Bool × Nat × Nat))
  /-- SHEEPDOG_SWEEP_END (R145): At the end of a sweep Sheepdog compares the free list with the free cells found and rebuilds it or reports a fault. -/
  | sheepdogSweepEnd (p : Nat) (upset : Int)
  /-- MCG_READ (R142): READ copies this plane's committed group word into SWx_MCG_DATA. -/
  | mcgRead (path p : Nat)
  /-- MCG_STAGE (R142): STAGE places SWx_MCG_DATA in the multicast edit set as the new word of a group. -/
  | mcgStage (path p : Nat)
  /-- MCG_COMMIT (R142): COMMIT checks the multicast edit set and either refuses it or starts the commit under the Ringmaster's grant. -/
  | mcgCommit (path p : Nat)
  /-- MCG_COMMIT_APPLY (R142): A granted group commit takes effect at one cell-slot boundary on both planes and advances both commit counters. -/
  | mcgCommitApply
  /-- MCG_COMMIT_PAIR_TIMEOUT (R49): A group commit that has waited 1 ms with no live pair is refused with NO_AUTHORITY. -/
  | mcgCommitPairTimeout
  /-- MCG_DISCARD (R142): DISCARD empties the multicast edit set, or completes with OK when none is open. -/
  | mcgDiscard (path p : Nat)
  /-- MCG_READ_STAGED (R142): READ_STAGED returns the staged group word, or the committed word when not staged. -/
  | mcgReadStaged (path p : Nat)
  /-- REPLICA_MISMATCH (R156): A Ringmaster replica that disagrees is reloaded, counted, and masked after 16 disagreements in 1 s. -/
  | replicaMismatch (r : Nat)
  /-- AUTHORITY_CLAIM (R158): A plane's claim of authority is decided by the vote of Table 4.7 and may grant authority, demote a plane or count a dispute. -/
  | authorityClaim (a b : Bool)
  /-- PAIR_HEARTBEAT (R163): A management pair's heartbeat as STANDBY while no pair is live, or at its first heartbeat after reset, makes it live. -/
  | pairHeartbeat (a b : Bool)
  /-- PAIR_HEARTBEAT_MISS (R163): PAIR_HB_MISS missed heartbeats treat a pair as halted and make the other pair live if it is STANDBY. -/
  | pairHeartbeatMiss (p missed pc0 pc1 : Nat)
  /-- PAIR_HALT (R393): A lockstep disagreement, uncorrectable memory error or watchdog fault halts a pair, which is recorded and the other pair made live. -/
  | pairHalt (p cause corr : Nat) (pcs : Nat × Nat)
  /-- RGM_HANDOVER (R165): RGM_CMD HANDOVER gives authority to the other plane, waiting for any commit in progress to complete. -/
  | rgmHandover (path : Nat)
  /-- RGM_SWAP_LIVE (R162): RGM_CMD SWAP_LIVE makes the other pair live, or the STANDBY pair live when no pair is live. -/
  | rgmSwapLive (path : Nat)
  /-- PARK_SCAN (R176): Every 1 µs each plane moves parked units whose Δ has fallen below the horizon into their Carousel slots. -/
  | parkScan (p : Nat)
  /-- CAROUSEL_SLOT_END (R177): At the boundary ending each slot the Carousel hands that slot's units to the port's pinned send list. -/
  | carouselSlotEnd (n slot : Nat)
  /-- MISS_DEADLINE (R178): A handed protection unit that has found no room in the pinned send list by its deadline is missed, discarded and journalled. -/
  | missDeadline (n : Nat)
  /-- REFILL_BOUNDARY (R184): Every 1 µs all allotment and policer buckets refill and pending record, policer, release, SET and STEP changes take effect. -/
  | refillBoundary
  /-- SCH_Q_READ (R168): SCH_Q_CMD READ fills SCH_Q_CFG, SCH_Q_DEPTH and SCH_Q_FTAG for the indexed queue pair. -/
  | schQRead (path : Nat)
  /-- SCH_Q_WRITE (R168): SCH_Q_CMD WRITE assigns a queue pair's port and class, refused with NOT_EMPTY while either queue holds a unit. -/
  | schQWrite (path : Nat)
  /-- SCH_AL_READ (R185): SCH_AL_CMD READ returns the allotment record in force with its buckets. -/
  | schAlRead (path : Nat)
  /-- SCH_AL_WRITE (R194): SCH_AL_CMD WRITE stages a record for the next refill boundary, refused with BAD_RATE when PEAK_RATE is below RSV_RATE. -/
  | schAlWrite (path : Nat)
  /-- SCH_AL_READ_PENDING (R185): SCH_AL_CMD READ_PENDING returns a written record not yet in force, or the record in force. -/
  | schAlReadPending (path : Nat)
  /-- SCH_POL_READ (R193): SCH_POL_CMD READ returns the indexed policer and its counts. -/
  | schPolRead (path : Nat)
  /-- SCH_POL_WRITE (R194): SCH_POL_CMD WRITE stages a policer for the next refill boundary, refused with BAD_RATE when PIR is below CIR. -/
  | schPolWrite (path : Nat)
  /-- SCH_POL_CLEAR_CNT (R199): SCH_POL_CMD CLEAR_CNT clears the indexed policer's counters. -/
  | schPolClearCnt (path : Nat)
  /-- SCH_REL_SET (R191): A write to SCH_REL_SET requests release of each group written 1. -/
  | schRelSet (path w data : Nat)
  /-- SCH_REL_CLR (R191): A write to SCH_REL_CLR requests reclaim of each group written 1. -/
  | schRelClr (path w data : Nat)
  /-- SAMPLER_VISIT (R195): Every 976.5625 ns each plane's sampler visits one queue and updates its statistics and histograms. -/
  | samplerVisit (p : Nat)
  /-- SCH_SMP_READ (R196): SCH_SMP_CMD READ copies the indexed queue's statistics into the sampler registers. -/
  | schSmpRead (path : Nat)
  /-- SCH_SMP_CLEAR (R196): SCH_SMP_CMD CLEAR empties the indexed queue's statistics. -/
  | schSmpClear (path : Nat)
  /-- HIST_SEL_WRITE (R197): A write to SCH_HIST_SEL[h] selects what histogram h follows and clears it. -/
  | histSelWrite (path h data : Nat)
  /-- TIM_NOW_READ (R202): A read of TIM_NOW_NS latches the seconds count of the same instant. -/
  | timNowRead (path : Nat)
  /-- TIME_SET (R205): TIM_CMD SET requests that panel time be loaded at the next refill boundary, subject to R206 and R209. -/
  | timeSet (path : Nat)
  /-- TIME_STEP (R205): TIM_CMD STEP requests a signed step of panel time at the next refill boundary, subject to R206 and R209. -/
  | timeStep (path : Nat)
  /-- TIME_SLEW (R208): TIM_CMD SLEW replaces the slew remainder with TIM_SLEW, applied over time at TIM_SLEW_RATE. -/
  | timeSlew (path : Nat)
  /-- SLEW_ABORT (R208): TIM_CMD SLEW_ABORT sets the slew remainder to 0. -/
  | slewAbort (path : Nat)
  /-- TIME_CAPTURE (R233): TIM_CMD CAPTURE takes a software capture of panel time into capture 2. -/
  | timeCapture (path : Nat)
  /-- FADJ_WRITE (R204): A write to TIM_FADJ changes the frequency correction within 8 ns, refused while the follower is engaged. -/
  | fadjWrite (path data : Nat)
  /-- SOURCE_QUALIFIED (R210): A time source qualifying is taken at once if none is in use, or after TIM_SRC_HOLD if of higher priority. -/
  | sourceQualified (k : Nat)
  /-- SOURCE_DISQUALIFIED (R210): Loss of the source in use moves the hub to the next qualified slot or to HOLDOVER. -/
  | sourceDisqualified (k : Nat)
  /-- SOURCE_HOLD_EXPIRY (R210): A higher-priority source that has stayed qualified for TIM_SRC_HOLD becomes the source in use. -/
  | sourceHoldExpiry (k : Nat)
  /-- PTP_QUAL_WRITE (R211): A write to TIM_PTP_QUAL with QUAL 1 qualifies PTP and restarts its 2 s timer. -/
  | ptpQualWrite (path data : Nat)
  /-- PTP_TMO (R211): 2 s without a write of QUAL 1 disqualifies PTP. -/
  | ptpTmo
  /-- IRIG_FRAME (R212): A decoded IRIG-B frame qualifies or disqualifies the source and, when in use, gives a follower sample. -/
  | irigFrame (err : Bool) (code year day hour min sec : Nat) (localOfs : Int)
  /-- IRIG_FAULT (R211): Two consecutive missing IRIG-B frames disqualify the source. -/
  | irigFault
  /-- PPS_EDGE (R214): A 1PPS input edge is captured and qualifies, disqualifies or gives a follower sample. -/
  | ppsEdge
  /-- PPS_FAULT (R211): No 1PPS edge for 1.1 s disqualifies the source. -/
  | ppsFault
  /-- HOLD_TIME_EXPIRY (R577): HOLD_TIME after entry to HOLDOVER with no source followed, the time state becomes FREE. -/
  | holdTimeExpiry
  /-- EXCHANGE_ORIGINATE (R220): Every 1 ms each end of a link in UP sends TIME subtype 0 with its departure time, and on 2.1 its subtype 4 trim. -/
  | exchangeOriginate (n : Nat)
  /-- TIME_SYMBOL_RECEIVED (R220): A received TIME subtype 0 is answered with subtypes 1, 2 and 3. -/
  | timeSymbolReceived (n lane id : Nat)
  /-- TIME_ECHO_RECEIVED (R222): The returned echo gives the originator d and θ, a kept or discarded measurement and, on a trunk source, a follower sample. -/
  | timeEchoReceived (n lane sub id stamp : Nat)
  /-- EXCHANGE_TIMEOUT (R223): An echo not returned within 100 µs discards the measurement. -/
  | exchangeTimeout (n : Nat)
  /-- ASYM_TRIM_RECEIVED (R225): A received TIME subtype 4 updates the peer's asymmetry trim. -/
  | asymTrimReceived (n stamp : Nat)
  /-- PPS_OUT_RISE (R228): PPS_OUT rises as the nanoseconds count passes 0, unless gated. -/
  | ppsOutRise
  /-- PPS_OUT_FALL (R228): PPS_OUT falls WIDTH ms after it rose. -/
  | ppsOutFall
  /-- JOURNAL_ENTRY_WRITE (R231): A queued journal entry is written into the ring, overwriting or being lost when the ring is full. -/
  | journalEntryWrite
  /-- JNL_TAIL_WRITE (R579): A write to MON_JNL_TAIL sets the tail and hence the fill. -/
  | jnlTailWrite (path data : Nat)
  /-- JNL_DATA_READ (R579): A read of MON_JNL_DATA word 3 with AUTOADV advances the tail while FILL is above 0. -/
  | jnlDataRead (path : Nat)
  /-- JNL_SW_WRITE (R8): A write to MON_JNL_SW_HI appends a firmware journal entry. -/
  | jnlSwWrite (path data : Nat)
  /-- MODE_SET (R246): A MODE_SET unit is checked and either refused or scheduled for MODE_CHANGE at the next frame start. -/
  | modeSet (u : UnitMsg)
  /-- RECT_RAW (R243): A RECT_RAW unit writes its pixels into the front or back buffer. -/
  | rectRaw (u : UnitMsg)
  /-- RECT_TILE (R244): A RECT_TILE unit decodes its tile records into the front or back buffer. -/
  | rectTile (u : UnitMsg)
  /-- CURSOR (R248): A CURSOR unit sets the cursor for the next frame start. -/
  | cursor (u : UnitMsg)
  /-- FLIP (R247): A FLIP unit swaps the buffers at the next frame start, with an optional copy. -/
  | flip (u : UnitMsg)
  /-- DISPLAY_FENCE (R249): A display FENCE or kind-0x01 FENCE completes once earlier units are applied, replying FENCE_DONE for a display FENCE. -/
  | displayFence (u : UnitMsg)
  /-- FRAME_START (R238): At a source's frame start pending flips, cursor, clone and output enable changes take effect. -/
  | frameStart (i : Nat)
  /-- PSR_STANDBY (R258): At the end of the PSR entry frame the fetcher stops, the tolerance is withdrawn and main links go to standby. -/
  | psrStandby (i : Nat)
  /-- MODE_CHANGE_DONE (R246): MODE_CHANGE completes and the adapter replies MODE_DONE. -/
  | modeChangeDone (i : Nat)
  /-- COPY_DONE (R247): A flip's copy into the back buffer completes and the next unit of the source may be applied. -/
  | copyDone (i : Nat)
  /-- FETCH_START (R253): A scan-out buffer falling to DSP_FETCH_LO starts the fetcher, which reads until the buffer is full. -/
  | fetchStart (i : Nat) (run : FetchRun)
  /-- FETCH_DRAM_UNCORR (R256): An uncorrectable DRAM error on a fetch shows 16 background pixels and is counted and journalled. -/
  | fetchDramUncorr (addr : Nat)
  /-- LATENCY_TOLERANCE_UPDATE (R254): Every 1 µs the adapter states its latency tolerance to the DRAM controller. -/
  | latencyToleranceUpdate (f0 f1 : Nat)
  /-- UNDERRUN (R255): An output reaching an unfetched pixel repeats the last pixel or shows background for the line and counts the underrun. -/
  | underrun (i : Nat) (whole : Bool)
  /-- HPD_PLUG (R261): HPD going high starts output link training. -/
  | hpdPlug (o : Nat) (sink : DspSink)
  /-- HPD_UNPLUG (R261): HPD low for more than 2 ms takes the output to NO_SINK. -/
  | hpdUnplug (o : Nat)
  /-- IRQ_HPD (R261): An HPD pulse of 0.5 ms to 1 ms makes the hub read the sink's link status and retrain if lost. -/
  | irqHpd (o : Nat) (lost : Bool)
  /-- OUTPUT_TRAIN_ATTEMPT_DONE (R260): A link training attempt ends, succeeding or trying the next combination or entering FAILED. -/
  | outputTrainAttemptDone (o : Nat) (ok : Bool)
  /-- AUX_NATIVE_READ (R263): DSP_AUX_CMD NATIVE_READ starts a DPCD read when the AUX channel is free. -/
  | auxNativeRead (path o data : Nat)
  /-- AUX_NATIVE_WRITE (R263): DSP_AUX_CMD NATIVE_WRITE starts a DPCD write when the AUX channel is free. -/
  | auxNativeWrite (path o data : Nat)
  /-- AUX_I2C_READ (R263): DSP_AUX_CMD I2C_READ starts an I2C-over-AUX read. -/
  | auxI2cRead (path o data : Nat)
  /-- AUX_I2C_WRITE (R263): DSP_AUX_CMD I2C_WRITE starts an I2C-over-AUX write. -/
  | auxI2cWrite (path o data : Nat)
  /-- AUX_REPLY (R263): An AUX reply completes the command, or a DEFER retries it up to seven attempts. -/
  | auxReply (o code : Nat) (data : List Byte)
  /-- AUX_TIMEOUT (R263): No AUX reply within 400 µs ends the attempt. -/
  | auxTimeout (o : Nat)
  /-- SOURCE_DISABLE (R264): A write of DSP_SRC_CFG.EN 0 starts the source's drain. -/
  | sourceDisable (path i data : Nat)
  /-- SOURCE_DRAIN_TIMEOUT (R264): At the end of DSP_DRAIN remaining units are discarded, FENCEs aborted and the source disabled. -/
  | sourceDrainTimeout (i : Nat)
  /-- STO_COMMAND_UNIT (R280): A command unit taken at SP17 is checked and refused or submitted to the controller. -/
  | stoCommandUnit (u : UnitMsg) (port dram : Nat)
  /-- STO_DATA_UNIT (R278): The data unit following a WRITE is copied into its slot and the command submitted, or completes with DATA_MISSING. -/
  | stoDataUnit (u : UnitMsg) (port dram : Nat)
  /-- STO_DATA_TIMEOUT (R278): No unit following a WRITE within STO_DATA_TMO completes it with DATA_MISSING. -/
  | stoDataTimeout (b : Nat)
  /-- NVME_COMPLETION (R281): A controller completion entry is translated and sent to the owner, with read data first for a READ. -/
  | nvmeCompletion (b slot sc dnr dram : Nat) (data : List Byte)
  /-- STO_FENCE (R282): A FENCE unit on a request tunnel holds later commands until every earlier completion is entered. -/
  | stoFence (u : UnitMsg) (port : Nat)
  /-- STO_CMD_TIMEOUT (R284): An outstanding command without completion for STO_CMD_TMO is answered TIMEOUT and aborted. -/
  | stoCmdTimeout (b slot : Nat)
  /-- STO_ABORT_TIMEOUT (R284): A timed-out command still without completion after a further STO_CMD_TMO resets the controller. -/
  | stoAbortTimeout (b slot : Nat)
  /-- ROOT_PORT_ENABLE (R274): A write of STO_RP_CFG.EN 1 starts controller bring-up. -/
  | rootPortEnable (path p data : Nat)
  /-- RP_BRINGUP_STEP_DONE (R274): A bring-up step completes and the next begins, or the port enters FAILED or READY. -/
  | rpBringupStepDone (p : Nat) (found : RpFinding)
  /-- CONTROLLER_READY_TIMEOUT (R274): CSTS.RDY not set within the controller's timeout takes the port to FAILED. -/
  | controllerReadyTimeout (p : Nat)
  /-- ROOT_PORT_DISABLE (R288): A write of STO_RP_CFG.EN 0 drains the port's block tunnels and then shuts the controller down. -/
  | rootPortDisable (path p data : Nat)
  /-- CONTROLLER_RESET_CMD (R285): STO_RP_CMD RESET resets the controller, completing outstanding commands with CONTROLLER_LOST. -/
  | controllerResetCmd (path p : Nat)
  /-- RP_RESCAN (R268): STO_RP_CMD RESCAN refills the port's namespace entries, refused while a tunnel on the port is enabled. -/
  | rpRescan (path p : Nat) (spaces : List NsInfo)
  /-- CONTROLLER_FATAL (R285): CSTS.CFS or a fatal AER message resets the controller. -/
  | controllerFatal (p : Nat) (aer : Bool)
  /-- RP_LINK_DOWN (R285): Loss of a root port link resets the controller and repeats bring-up from step 1. -/
  | rpLinkDown (p : Nat)
  /-- AER_MESSAGE (R273): An AER message from the device is counted. -/
  | aerMessage (p : Nat) (uncorr : Bool)
  /-- BLOCK_TUNNEL_ENABLE (R269): A write of STO_BT_CFG.EN 1 binds a block tunnel, refused with WRITER, NO_QUEUE or another result. -/
  | blockTunnelEnable (path data : Nat)
  /-- BLOCK_TUNNEL_DISABLE (R287): A write of STO_BT_CFG.EN 0 takes the block tunnel to DRAINING. -/
  | blockTunnelDisable (path data : Nat)
  /-- BLOCK_TUNNEL_DRAIN_TIMEOUT (R287): At the end of STO_DRAIN the adapter deletes the submission queue and aborts what remains. -/
  | blockTunnelDrainTimeout (b : Nat)
  /-- ADMIN_COMMAND_DONE (R287): An admin command such as a queue creation or deletion completes and the tunnel's state advances. -/
  | adminCommandDone (b : Nat) (ok : Bool)
  /-- QUEUE_DELETE_TIMEOUT (R287): Queue deletions incomplete 1 s after drain step 3 reset the controller. -/
  | queueDeleteTimeout (b : Nat)
  /-- HOST_WRITE (R297): A host MWr to BAR2 that hits a window becomes DATA, WRITE_NP, MESSAGE or INTERRUPT units. -/
  | hostWrite (off attr : Nat) (data : List (Option Byte))
  /-- HOST_READ (R297): A host MRd to BAR2 takes a tag and sends a READ_REQUEST, or is answered with UR or at once with CA. -/
  | hostRead (place : HostPlace) (len host attr : Nat)
  /-- HOST_ATOMIC (R310): A host AtomicOp on an EMULATE window starts its emulation under the window's semaphore. -/
  | hostAtomic (off op size operand compare host attr : Nat)
  /-- HOST_LOCKED_READ (R312): A host MRdLk on an EMULATE window with LEGACY 1 takes the semaphore and starts a locked sequence. -/
  | hostLockedRead (off len host attr : Nat)
  /-- HOST_UNLOCK (R312): The host's Unlock message ends a locked sequence once its acknowledgements arrive. -/
  | hostUnlock
  /-- HBR_FENCE (R299): A write to HBR_FENCE sends a FENCE unit on the named window's tunnel after its earlier writes. -/
  | hbrFence (path w : Nat)
  /-- SEMAPHORE_ACQUIRED (R310): The window's semaphore becomes free and the waiting atomic or lock proceeds. -/
  | semaphoreAcquired (i : Nat)
  /-- SEM_WAIT_TIMEOUT (R310): An atomic that has waited HBR_SEM_TMO for its semaphore completes with Completer Abort. -/
  | semWaitTimeout (i : Nat)
  /-- BRIDGE_RESPONSE (R301): A READ_RESPONSE or WRITE_ACK at SP16 completes its request or step, or is discarded as stale or bad. -/
  | bridgeResponse (u : UnitMsg)
  /-- HBR_READ_TIMEOUT (R303): HBR_RD_TMO after a request completes it early and advances its tag's epoch. -/
  | hbrReadTimeout (t : Nat)
  /-- LOCK_TIMEOUT (R312): No request of a locked sequence for HBR_LOCK_TMO releases the semaphore. -/
  | lockTimeout
  /-- HBR_SEM_READ (R309): A read of HBR_SEM[i] takes the semaphore for the path when free and reports its holder. -/
  | hbrSemRead (path i : Nat)
  /-- HBR_SEM_RELEASE (R309): A write of bit 0 of HBR_SEM[i] from the holding path releases the semaphore. -/
  | hbrSemRelease (path i : Nat)
  /-- INBOUND_DATA (R314): A DATA unit at SP16 becomes MWr TLPs into host memory, or is discarded and counted. -/
  | inboundData (u : UnitMsg)
  /-- INBOUND_READ_REQUEST (R315): A READ_REQUEST at SP16 becomes host reads, or is answered with UR or CA. -/
  | inboundReadRequest (u : UnitMsg)
  /-- INBOUND_WRITE_NP (R315): A WRITE_NP at SP16 becomes host writes and a flushing read, or is answered with UR or CA. -/
  | inboundWriteNp (u : UnitMsg)
  /-- HOST_COMPLETION (R316): The last host completion for an inbound request lets the bridge send its READ_RESPONSE or WRITE_ACK. -/
  | hostCompletion (id status : Nat) (poisoned : Bool) (data : List Byte)
  /-- BRIDGE_FENCE_UNIT (R317): A FENCE unit at SP16 completes once earlier units' host accesses are issued and answered. -/
  | bridgeFenceUnit (u : UnitMsg)
  /-- ROUTER_UNIT (R320): An INTERRUPT, MESSAGE or ENDPOINT_RESET unit at SP16 is looked up in the router and delivered to its target. -/
  | routerUnit (u : UnitMsg)
  /-- ROUTER_HOLD_RELEASE (R324): A held router unit is delivered once its target can take it. -/
  | routerHoldRelease (tid : Nat)
  /-- ROUTER_HOLD_TIMEOUT (R324): A unit held for MRT_HOLD_TMO is discarded and counted. -/
  | routerHoldTimeout (tid : Nat)
  /-- MSIX_UNMASK (R322): Unmasking a vector with its PBA bit set sends the pending MSI-X message. -/
  | msixUnmask (v addr : Nat) (word : MsixWord)
  /-- MRT_CAUSE_READ (R323): A read of MRT_CAUSE returns and removes the oldest cause entry. -/
  | mrtCauseRead (path : Nat)
  /-- MRT_READ (R319): MRT_CMD READ copies the indexed router entry into MRT_DATA. -/
  | mrtRead (path : Nat)
  /-- MRT_WRITE (R319): MRT_CMD WRITE stores the router entry, refused with DUPLICATE or BAD_TARGET. -/
  | mrtWrite (path : Nat)
  /-- MRT_CLEAR (R319): MRT_CMD CLEAR sets the indexed router entry VALID 0. -/
  | mrtClear (path : Nat)
  /-- WINDOW_DISABLE (R325): A write of a window's EN 0 refuses new accesses and starts its drain. -/
  | windowDisable (path data : Nat) (inward : Bool)
  /-- WINDOW_DRAIN_TIMEOUT (R325): At the end of HBR_DRAIN remaining requests complete early and the window is disabled. -/
  | windowDrainTimeout (w : Nat) (inward : Bool)
  /-- FLR (R326): A Function Level Reset resets configuration space and MSI-X, advances outstanding epochs and releases host semaphores. -/
  | flr
  /-- HOST_LINK_DOWN (R327): Loss of the host link ends outstanding outbound requests and answers inbound ones with CA. -/
  | hostLinkDown
  /-- HOST_LINK_UP (R330): The host link trains and traffic through the windows resumes. -/
  | hostLinkUp (width gen : Nat)
  /-- ETH_FRAME_RECEIVED (R333): A received frame is checked, classified and sent as a DATA unit on its tunnel, or discarded. -/
  | ethFrameReceived (m : Nat) (frame : List Byte) (good begun : Bool)
  /-- ETH_EGRESS_UNIT (R339): A unit at SP18 is taken once every target MAC's buffer has room and queued for its bound MACs. -/
  | ethEgressUnit (u : UnitMsg)
  /-- ETH_FRAME_TRANSMIT (R340): A MAC sends a frame, capturing or writing the transmit timestamp of a PTP event message. -/
  | ethFrameTransmit (m : Nat)
  /-- TXTS_READ (R341): A read of ETH_TXTS word 3 removes the oldest transmit timestamp entry. -/
  | txtsRead (path : Nat)
  /-- WAKE_FRAME (R343): A frame matching an enabled wake filter in P3 wakes the hub and is discarded. -/
  | wakeFrame (m : Nat) (frame : List Byte) (good : Bool)
  /-- ETH_LINK_DOWN (R339): A MAC losing its link cuts any frame in progress and stops sending on it. -/
  | ethLinkDown (m : Nat) (cut : Bool)
  /-- ETH_LINK_UP (R347): A MAC's link comes up and it enters RUN. -/
  | ethLinkUp (m : Nat)
  /-- MAC_DISABLE (R344): A write of ETH_MAC_CFG.EN 0 stops reception and starts the MAC's drain. -/
  | macDisable (path m data : Nat)
  /-- MAC_DRAIN_TIMEOUT (R344): At the end of ETH_DRAIN remaining frames are discarded and the MAC is disabled. -/
  | macDrainTimeout (m : Nat)
  /-- ETH_CLS_READ (R333): ETH_CLS_CMD READ copies the indexed classifier entry into its data registers. -/
  | ethClsRead (path : Nat)
  /-- ETH_CLS_WRITE (R333): ETH_CLS_CMD WRITE stores the classifier entry, refused with BAD_TID or BAD_RSVD. -/
  | ethClsWrite (path : Nat)
  /-- ETH_EGB_READ (R337): ETH_EGB_CMD READ copies the indexed egress binding into its data registers. -/
  | ethEgbRead (path : Nat)
  /-- ETH_EGB_WRITE (R337): ETH_EGB_CMD WRITE stores the egress binding. -/
  | ethEgbWrite (path : Nat)
  /-- USB_STANDARD_REQUEST (R352): A standard request on EP0 is answered by the hub itself, or with STALL. -/
  | usbStandardRequest (tgt : Ep0Target) (rtype req value index len : Nat)
  /-- USB_CSR_READ (R353): A CSR_READ vendor request makes its CSR access when the SETUP packet is received. -/
  | usbCsrRead (addr len ecc : Nat)
  /-- USB_CSR_WRITE (R353): A CSR_WRITE vendor request makes its CSR access when the IN token of its status stage arrives. -/
  | usbCsrWrite (addr len : Nat) (stage : CtlStage) (ecc : Nat)
  /-- USB_OUT_PACKET (R357): A bound OUT endpoint accepts a packet and sends it as a unit, answering NAK or NYET while its buffer is full. -/
  | usbOutPacket (e : Nat) (token : OutToken) (ecc : Nat) (data : List Byte)
  /-- USB_IN_UNIT (R358): A unit for an IN endpoint is taken from the planes once its buffer is empty, and may trigger remote wake. -/
  | usbInUnit (u : UnitMsg)
  /-- USB_IN_TOKEN (R360): An IN token is answered with the buffered packet, a zero-length packet or NAK. -/
  | usbInToken (e : Option Nat) (ecc : Nat)
  /-- USB_IN_ACK (R360): The host's acknowledgement of an IN packet empties the endpoint buffer. -/
  | usbInAck (e : Nat)
  /-- USB_FENCE (R362): A FENCE unit at SP20 completes once its IN endpoint has emptied every earlier unit. -/
  | usbFence (u : UnitMsg)
  /-- USB_ENDPOINT_RESET_UNIT (R363): An ENDPOINT_RESET unit at SP20 empties its IN endpoint's buffer after the packet being sent. -/
  | usbEndpointResetUnit (u : UnitMsg)
  /-- USB_ENDPOINT_HALT (R364): SET_FEATURE(ENDPOINT_HALT) halts a bulk endpoint. -/
  | usbEndpointHalt (e : Nat)
  /-- USB_CLEAR_HALT (R364): CLEAR_FEATURE(ENDPOINT_HALT) resets the toggle, empties the buffer and sends an ENDPOINT_RESET unit. -/
  | usbClearHalt (e : Nat)
  /-- USB_SUSPEND (R366): 3 ms without upstream bus activity suspends the whole compound device. -/
  | usbSuspend
  /-- USB_PORT5_SUSPEND (R366): The host suspending port 5 selectively suspends the function. -/
  | usbPort5Suspend
  /-- USB_WAKE_SIGNAL (R367): Once 5 ms have passed since suspension, a pending remote wake drives K or signals the wake on port 5. -/
  | usbWakeSignal
  /-- USB_HOST_RESUME (R368): A host resume completes any pending wake, stopping the function's own wake signalling. -/
  | usbHostResume
  /-- USB_BUS_RESET (R369): A bus reset abandons control transfers, empties buffers, resets addresses and sends ENDPOINT_RESET units. -/
  | usbBusReset (port5 hs control : Bool)
  /-- USB_VBUS_CHANGE (R351): USB_UP_VBUS becoming present or absent attaches or detaches the function. -/
  | usbVbusChange (present : Bool)
  /-- USB_FUNCTION_EN_WRITE (R371): A write of USB_CFG.EN attaches the function, or drains its endpoints and detaches it. -/
  | usbFunctionEnWrite (path data : Nat)
  /-- USB_EP_ENABLE (R355): A write of USB_EP_CFG.EN 1 enables an endpoint, refused with BAD_TID or DUP_TID. -/
  | usbEpEnable (path data : Nat)
  /-- USB_EP_DISABLE (R370): A write of USB_EP_CFG.EN 0 starts the endpoint's drain. -/
  | usbEpDisable (path data : Nat)
  /-- USB_EP_DRAIN_TIMEOUT (R370): At the end of USB_DRAIN the remaining packet is discarded and the endpoint disabled. -/
  | usbEpDrainTimeout (e : Nat)
  /-- USB_OVER_CURRENT (R373): USB_OC_N low for 8 ms turns the port's power off and reports it. -/
  | usbOverCurrent (n : Nat)
  /-- USB_DESC_DATA_ACCESS (R375): An access to USB_DESC_DATA reads or writes the string store and advances the index under AUTOINC. -/
  | usbDescDataAccess (path : Nat) (write : Bool) (data : Nat)
  /-- ENGINE_UNIT (R378): A unit at a cluster port is delivered to the UNIT mailbox of the logical engine bound to its tunnel, or discarded as unbound. -/
  | engineUnit (k : Nat) (u : UnitMsg)
  /-- ENG_CMDQ_PUSH (R384): A write to ENG_CMDQ_PUSH queues a command, refused with FULL or answered VERSION. -/
  | engCmdqPush (path e : Nat)
  /-- ENG_RSP_READ (R384): A read of ENG_RSP_W word 7 removes the oldest response. -/
  | engRspRead (path e : Nat)
  /-- ENGINE_SEND (R385): A SEND descriptor is checked and its unit entered, or discarded and counted. -/
  | engineSend (e w0 w1 w2 w3 w4 : Nat) (payload : List Byte)
  /-- CHECKPOINT_DOORBELL (R386): An engine's checkpoint doorbell copies and commits a checkpoint with its release points. -/
  | checkpointDoorbell (e : Nat) (region : List Byte)
  /-- CKPT_STALE (R386): No checkpoint commit within ENG_CKPT_MAX sets CKPT_STALE. -/
  | ckptStale (e : Nat)
  /-- ENGINE_WATCHDOG (R387): An engine watchdog running ENG_WDT without a kick fails the engine. -/
  | engineWatchdog (e : Nat)
  /-- ENGINE_FAULT (R387): An uncorrectable local memory error or a trap fails a serving engine. -/
  | engineFault (e : Nat) (err : EngineErr)
  /-- ENG_RESTART (R387): ENG_CMD RESTART fails the engine as a command. -/
  | engRestart (path e : Nat)
  /-- ENGINE_RELOAD_DONE (R389): An uncovered failed engine, reloaded from the cache, takes its first unit and REPAIR is set. -/
  | engineReloadDone (e : Nat) (intact : Bool)
  /-- ENG_RELOAD (R390): ENG_CMD RELOAD starts replacing a logical engine's image after a final checkpoint, or is refused. -/
  | engReload (path e : Nat)
  /-- RELOAD_COMPLETE (R390): The reloaded engine resumes from its final checkpoint. -/
  | reloadComplete (e : Nat) (intact : Bool)
  /-- ENGINE_START (R381): Starting an engine checks its loaded body against BODY_HASH and starts it, or fails it with FAULT LOAD. -/
  | engineStart (path e data : Nat) (intact : Bool)
  /-- ENGINE_DISABLE (R391): A write of ENG_CFG.EN 0 on a serving engine starts its drain. -/
  | engineDisable (path e data : Nat)
  /-- ENGINE_DRAIN_TIMEOUT (R391): At the end of ENG_DRAIN remaining entries are discarded or aborted and the engine goes OFF. -/
  | engineDrainTimeout (e : Nat)
  /-- ENG_CACHE_LOAD (R382): ENG_CACHE_CMD LOAD verifies an image from flash into the image cache, or records why it failed. -/
  | engCacheLoad (path kind slot : Nat)
  /-- ENG_CACHE_EVICT (R403): ENG_CACHE_CMD EVICT removes a cached image, refused with IN_USE. -/
  | engCacheEvict (path kind slot : Nat)
  /-- ENG_BIND_READ (R378): ENG_BIND_CMD READ copies the indexed binding entry into ENG_BIND_DATA. -/
  | engBindRead (path k : Nat)
  /-- ENG_BIND_WRITE (R378): ENG_BIND_CMD WRITE stores the binding entry, refused with DUPLICATE. -/
  | engBindWrite (path k : Nat)
  /-- WDT_KICK (R394): A write of 0x0000_C0DE to MGT_WDT_KICK by the pair's own cores kicks its watchdog, or faults it if too early. -/
  | wdtKick (path p src data pc0 pc1 : Nat)
  /-- PAIR_WATCHDOG_EXPIRY (R394): No kick within WIN_MAX faults the pair's watchdog and halts the pair. -/
  | pairWatchdogExpiry (p pc0 pc1 : Nat)
  /-- PAIR_RESTART (R395): 100 µs after a halt with AUTO_RESTART, the pair is reset and reloaded to return as STANDBY. -/
  | pairRestart (p : Nat)
  /-- RESTART_A (R395): MGT_CMD RESTART_A restarts pair A, refused for the live pair. -/
  | restartA (path : Nat)
  /-- RESTART_B (R395): MGT_CMD RESTART_B restarts pair B, refused for the live pair. -/
  | restartB (path : Nat)
  /-- STOP_B (R397): MGT_CMD STOP_B takes pair B to OFF. -/
  | stopB (path : Nat)
  /-- ECALL_YIELD (R397): The customer image's YIELD call yields to the resident image. -/
  | ecallYield
  /-- ECALL_SET_HANDLER (R397): SET_HANDLER sets the handler for forwarded interrupts. -/
  | ecallSetHandler (a1 : Nat)
  /-- ECALL_IRQ_FORWARD (R397): IRQ_FORWARD selects page interrupts forwarded to the customer handler. -/
  | ecallIrqForward (a1 a2 : Nat)
  /-- ECALL_MBOX_READ (R397): MBOX_READ returns a management mailbox descriptor whose LOCAL_ID has bit 15 set. -/
  | ecallMboxRead (a1 : Nat)
  /-- PAIRB_FAULT (R397): A customer access outside its memory and CSR window traps, halting the customer image. -/
  | pairbFault
  /-- BOOT_STEP_DONE (R399): A boot flow step completes and the next begins, with STAGE showing progress. -/
  | bootStepDone
  /-- FLASH_READ (R400): MGT_FLASH_CMD READ reads 256 bytes of flash into the buffer. -/
  | flashRead (path : Nat)
  /-- FLASH_PROGRAM (R400): MGT_FLASH_CMD PROGRAM writes the buffer to a 256-byte flash page. -/
  | flashProgram (path : Nat)
  /-- FLASH_ERASE_4K (R400): MGT_FLASH_CMD ERASE_4K erases a 4 KiB flash sector. -/
  | flashErase4k (path : Nat)
  /-- FLASH_ERASE_64K (R400): MGT_FLASH_CMD ERASE_64K erases a 64 KiB flash block. -/
  | flashErase64k (path : Nat)
  /-- FLASH_OP_DONE (R400): A flash operation completes and BUSY clears. -/
  | flashOpDone
  /-- EVC_SEL_WRITE (R402): A write to MGT_EVC_SEL[c] selects counter c's event and clears it. -/
  | evcSelWrite (path c data : Nat)
  /-- EVC_CLEAR (R402): A write to MGT_EVC_CLR clears one counter or all. -/
  | evcClear (path data : Nat)
  /-- EVC_FREEZE (R402): A write of MGT_EVC_CTL.FREEZE stops or restarts every counter at one edge. -/
  | evcFreeze (path data : Nat)
  /-- EVC_WRAP (R402): A counter wrapping from 2^48 − 1 sets its overflow flag. -/
  | evcWrap (c : Nat)
  /-- KEY_AUTH_READ (R409): KEY_AUTH_CMD READ returns the indexed page's authority mask. -/
  | keyAuthRead (path : Nat)
  /-- KEY_AUTH_WRITE (R409): KEY_AUTH_CMD WRITE changes a page's mask, refused without owner authority, when locked or with no page. -/
  | keyAuthWrite (path : Nat)
  /-- KEY_AUTH_LOCK (R409): KEY_AUTH_CMD LOCK sets a page's LOCKED bit. -/
  | keyAuthLock (path : Nat)
  /-- MTUN_COMMAND (R411): A management tunnel command is checked, its operations carried out on the MTUN path, and one reply sent. -/
  | mtunCommand (inSp : Nat) (u : UnitMsg)
  /-- PROVISION (R415): KEY_CMD PROVISION generates and stores a new root, advances ROOT_EPOCH and derives the attestation key. -/
  | provision (path : Nat)
  /-- KEY_LOAD (R418): KEY_CMD LOAD unwraps a blob into a slot, refused with BAD_BLOB or BAD_TAG. -/
  | keyLoad (path k : Nat)
  /-- KEY_CLEAR (R418): KEY_CMD CLEAR empties a slot. -/
  | keyClear (path k : Nat)
  /-- KEY_GENERATE (R419): KEY_CMD GENERATE fills a slot with a new key from the DRBG. -/
  | keyGenerate (path k kind usage : Nat)
  /-- KEY_WRAP (R419): KEY_CMD WRAP writes the slot's blob into KEY_BUF. -/
  | keyWrap (who : KeyUser) (k : Nat)
  /-- KEY_DERIVE (R419): KEY_CMD DERIVE fills a slot with a key derived under the owner label. -/
  | keyDerive (path k kind usage : Nat)
  /-- KEY_SIGN (R419): KEY_CMD SIGN returns an ECDSA signature of a digest. -/
  | keySign (who : KeyUser) (k : Nat)
  /-- KEY_MAC (R419): KEY_CMD MAC returns the HMAC-SHA-384 of an input. -/
  | keyMac (who : KeyUser) (k : Nat)
  /-- KEY_READ_PUB (R419): KEY_CMD READ_PUB returns the public point of a P-384 slot. -/
  | keyReadPub (who : KeyUser) (k : Nat)
  /-- KEY_READ_ATT_PUB (R426): KEY_CMD READ_ATT_PUB returns the attestation public key. -/
  | keyReadAttPub (path : Nat)
  /-- KEY_CMD_COMPLETE (R415): A key store command in progress completes and BUSY clears. -/
  | keyCmdComplete
  /-- OTP_PROG_CODE_HASH (R413): KEY_OTP_CMD PROG_CODE_HASH programs the owner code key hash once. -/
  | otpProgCodeHash (path : Nat)
  /-- OTP_PROG_DEBUG_HASH (R413): KEY_OTP_CMD PROG_DEBUG_HASH programs the owner debug key hash once. -/
  | otpProgDebugHash (path : Nat)
  /-- OTP_SET_DBG_NEVER (R413): KEY_OTP_CMD SET_DBG_NEVER forbids reopening debug. -/
  | otpSetDbgNever (path : Nat)
  /-- OTP_RAISE_SVN (R413): KEY_OTP_CMD RAISE_SVN raises SVN_MIN of a kind, refused with LOWER. -/
  | otpRaiseSvn (path kind svn : Nat)
  /-- OTP_COMMAND_DONE (R413): An OTP programming command completes within 50 ms. -/
  | otpCommandDone
  /-- TAMPER_DETECTED (R422): An enabled tamper source active in an island cycle zeroises every key and records the response. -/
  | tamperDetected (sources : Nat)
  /-- BAT_LOW (R421): VBAT below 2.5 V while VDD_AON is present sets BAT_LOW only. -/
  | batLow (mv : Nat)
  /-- TAMPER_LOCK (R424): A write of KEY_TMP_LOCK makes the tamper settings read-only until island power is lost. -/
  | tamperLock (path data : Nat)
  /-- ATTEST (R425): KEY_ATT_CMD ATTEST builds and signs an attestation statement, refused with NO_ROOT. -/
  | attest (path : Nat)
  /-- ATTEST_DONE (R425): An attestation statement completes and its length is shown. -/
  | attestDone
  /-- DEBUG_CHALLENGE (R428): KEY_DBG_CMD CHALLENGE generates a nonce valid for 60 s, refused with NEVER, NO_KEY or LOCKOUT. -/
  | debugChallenge (path scope : Nat)
  /-- DEBUG_RESPOND (R428): KEY_DBG_CMD RESPOND checks the signature and on success opens debug under the test root. -/
  | debugRespond (path : Nat)
  /-- DEBUG_CLOSE (R430): KEY_DBG_CMD CLOSE closes debug, empties every slot and derives again from the stored root. -/
  | debugClose (path : Nat)
  /-- DEBUG_NONCE_EXPIRY (R428): A debug nonce unused for 60 s expires. -/
  | debugNonceExpiry
  /-- CHANNEL_ENABLE (R439): A write of FUS_CFG.EN 1 takes an OFF channel to WAIT. -/
  | channelEnable (path c data : Nat)
  /-- CHANNEL_DISABLE (R439): A write of FUS_CFG.EN 0 turns the gate off within 10 µs and enters OFF with cause COMMAND. -/
  | channelDisable (path c data : Nat)
  /-- CHANNEL_DIR_WRITE (R454): A write that changes FUS_CFG.DIR is taken in OFF or WAIT and refused with BAD_STATE otherwise. -/
  | channelDirWrite (path c data : Nat)
  /-- START_CONDITIONS_MET (R440): A channel whose start conditions have held for their times leaves WAIT for RAMP. -/
  | startConditionsMet (c : Nat)
  /-- RAMP_COMPLETE (R443): The output reaching within 1 V of the input takes the channel to ENHANCE. -/
  | rampComplete (c : Nat)
  /-- START_TIMEOUT (R443): A ramp not complete within FUS_RAMP_MAX latches the channel with cause START_TIMEOUT. -/
  | startTimeout (c : Nat)
  /-- ENHANCE_DONE (R445): V_GS reaching 7 V takes the channel to ON. -/
  | enhanceDone (c : Nat)
  /-- PASS_DEVICE_TIMEOUT (R445): V_GS below 7 V 1 ms after entry to ENHANCE latches the channel with cause PASS_DEVICE. -/
  | passDeviceTimeout (c : Nat)
  /-- INSTANT_TRIP (R444): The comparator firing above FUS_ITRIP turns the gate off within 1 µs and latches the channel. -/
  | instantTrip (c : Nat)
  /-- BREAKER_TICK (R446): Each tick updates the heat accumulator from the current and trips the breaker at 2^24. -/
  | breakerTick (c : Nat)
  /-- AUTO_RETRY (R450): A BREAKER-tripped channel past RETRY_DELAY and below RETRY_HEAT returns to WAIT. -/
  | autoRetry (c : Nat)
  /-- REVERSE_CURRENT (R451): Reverse current above REV_THR turns the gate off within 250 ns and enters REV_OFF. -/
  | reverseCurrent (c : Nat)
  /-- FORWARD_RECOVERY (R451): Forward voltage at FWD_ON for two ticks takes a REV_OFF channel to ENHANCE. -/
  | forwardRecovery (c : Nat)
  /-- FAULT_TIMER_EXPIRY (R455): The fault timer reaching FAULT_TMO while SAG or WEAK holds latches the channel with cause SAG. -/
  | faultTimerExpiry (c : Nat)
  /-- POWER_GOOD_UPDATE (R456): Each tick updates the fault timer and power-good, asserting power-good after PG_DELAY fault-free in ON. -/
  | powerGoodUpdate (c vin vout vgs : Nat)
  /-- FET_SHORT (R457): More than 200 mA for 100 ticks with the gate off latches the channel with cause FET_SHORT. -/
  | fetShort (c : Nat)
  /-- PD_OVER_TEMP (R458): Power die temperature above OT_SHUT latches every cable channel with cause THERMAL. -/
  | pdOverTemp (t : Int)
  /-- SEAT_OPEN (R441): A seat pin reading open turns the channel off into WAIT and takes the trunk link out of UP with cause SEAT. -/
  | seatOpen (n : Nat) (a b : Bool)
  /-- SEAT_SETTLED (R466): Both seat pins seated for 20 ms make the CPD PHY READY and let training step 1 end. -/
  | seatSettled (n : Nat)
  /-- INPUT_OUT_OF_RANGE (R442): Input out of FUS_VWIN for two ticks turns the gate off and takes the channel to WAIT. -/
  | inputOutOfRange (c : Nat)
  /-- CHANNEL_SAMPLE (R460): Each 20 µs sample updates current, voltage, V_GS and the energy accumulator. -/
  | channelSample (c : Nat) (rawI : Int) (rawV vgs : Nat)
  /-- FUS_CLEAR (R450): FUS_CMD CLEAR returns a TRIPPED channel to WAIT and resets RETRIES. -/
  | fusClear (path c : Nat)
  /-- APPLY_CURVE (R448): FUS_CMD APPLY_CURVE applies the staged curve at the next tick, refused with BAD_CURVE. -/
  | applyCurve (path c : Nat)
  /-- SET_HEAT (R449): FUS_CMD SET_HEAT loads H from FUS_HEAT_SET. -/
  | setHeat (path c : Nat)
  /-- PEAK_CLR (R464): FUS_CMD PEAK_CLR clears the channel's peak readings. -/
  | peakClr (path c : Nat)
  /-- ENERGY_CLR (R460): FUS_CMD ENERGY_CLR clears the energy accumulator. -/
  | energyClr (path c : Nat)
  /-- PRELOAD_PROGRAM (R462): FUS_UCFG_CMD PROGRAM writes the preloads into the next OTP bank, refused with NOT_OWNER or FULL. -/
  | preloadProgram (path : Nat)
  /-- PD_LINK_UP (R437): The die-to-die link comes up and power die pages become accessible. -/
  | pdLinkUp
  /-- PD_LINK_LOST (R437): The die-to-die link goes down, and power die accesses are refused and captured in page 0x060. -/
  | pdLinkLost
  /-- PD_TIME_CORRECTION (R438): Every 1 ms the core die corrects the power die's copy of panel time. -/
  | pdTimeCorrection
  /-- POWER_DIE_COLD_POWER_UP (R436): VIN_PD rising through 9.6 V resets the power die and its channels. -/
  | powerDieColdPowerUp (mv : Nat)
  /-- VIN_PD_LOW (R560): VIN_PD falling below its operating range holds every gate off, and below 9.0 V loses the link. -/
  | vinPdLow (mv : Nat)
  /-- CPD_ENABLE_WRITE (R466): A write of CPD_CFG.EN makes the PHY READY with the seats settled, or DETACHED. -/
  | cpdEnableWrite (path n data : Nat)
  /-- CPD_SEND (R468): CPD_CMD SEND queues the message for transmission once the line is idle. -/
  | cpdSend (path n : Nat)
  /-- CPD_TRANSMIT_START (R468): After 25 µs of idle line the PHY transmits the pending message. -/
  | cpdTransmitStart (n : Nat)
  /-- CPD_GOODCRC_RECEIVED (R468): A matching GoodCRC completes the transmission and advances the MessageID. -/
  | cpdGoodcrcReceived (n id : Nat)
  /-- CPD_RETRY_TIMEOUT (R468): No GoodCRC within 1.0 ms resends the message, failing it after two retries. -/
  | cpdRetryTimeout (n : Nat)
  /-- CPD_COLLISION (R469): A read-back mismatch stops transmission and tries again after the role's idle time. -/
  | cpdCollision (n : Nat)
  /-- CPD_MESSAGE_RECEIVED (R470): A message with good CRC is answered with GoodCRC and queued, discarded as a repeat or refused when the queue is full. -/
  | cpdMessageReceived (n hdr : Nat) (data : List Nat) (good : Bool) (sink : DspSink) (lost : Bool)
  /-- CPD_RX_READ (R470): A read of CPD_RX_DATA word 6 removes the oldest received message. -/
  | cpdRxRead (path n : Nat)
  /-- CPD_RESPONSE_TIMEOUT (R473): The sender response timer expires and TX_RESULT is RESP_TMO. -/
  | cpdResponseTimeout (n : Nat)
  /-- CPD_SWAP_END (R474): CPD_CMD SWAP_END ends the swap in progress. -/
  | cpdSwapEnd (path n : Nat)
  /-- CPD_HARD_RESET (R479): CPD_CMD HARD_RESET sends Hard Reset and starts recovery. -/
  | cpdHardReset (path n : Nat)
  /-- HARD_RESET_RECEIVED (R479): A received Hard Reset empties the queue, ends swaps and starts recovery. -/
  | hardResetReceived (n : Nat)
  /-- PS_HR_EXPIRY (R482): PS_HR after a Hard Reset turns off a driving SOURCE-recovery channel. -/
  | psHrExpiry (n : Nat)
  /-- SRC_RECOVER_EXPIRY (R482): SRC_RECOVER after the turn-off the hub writes DIR SOURCE and EN 1. -/
  | srcRecoverExpiry (n : Nat)
  /-- RECOVER_MAX_EXPIRY (R483): RECOVER_MAX after a Hard Reset ends recovery and returns the PHY to READY. -/
  | recoverMaxExpiry (n : Nat)
  /-- CPD_FRS_SEND (R476): CPD_CMD FRS_SEND drives the FRS signal for 90 µs. -/
  | cpdFrsSend (path n : Nat)
  /-- AUTO_FRS (R476): PBUS below PBUS_THR for two ticks at a sourcing AUTO_FRS end sends the FRS signal. -/
  | autoFrs (n : Nat)
  /-- FRS_DETECTED (R477): CPD held low for 50 µs is reported as FRS, reversing an armed sink channel to full enhancement. -/
  | frsDetected (n : Nat)
  /-- CPD_FRS_CONFIRM (R478): CPD_CMD FRS_CONFIRM writes DIR SOURCE and FRS_ARM 0 and stops the confirmation timer. -/
  | cpdFrsConfirm (path n : Nat)
  /-- FRS_TMO (R478): The confirmation timer expiring without FRS_CONFIRM sets FRS_TMO. -/
  | frsTmo (n : Nat)
  /-- POWER_STATE_REQUEST (R496): A write of PWR_REQ.TARGET starts entry to a deeper state after the vetoes, or an exit to a shallower one. -/
  | powerStateRequest (path target : Nat)
  /-- ENTRY_QUIESCE_DONE (R497): Every drained function reads DISABLED or retrained trunks read UP, and the entry switches domains off. -/
  | entryQuiesceDone
  /-- REGULATOR_ACK (R510): A poll finding the regulator's STATUS_WORD clean acknowledges the request, letting the entry commit or exit proceed. -/
  | regulatorAck (status : Nat) (pgood : Bool) (mode : Nat)
  /-- REGULATOR_NOACK (R513): No acknowledgement within 2 ms restores the previous setting and aborts the entry, or retries an exit. -/
  | regulatorNoack (status : Nat)
  /-- REGULATOR_RETRY (R514): An unacknowledged exit request is repeated every 10 ms, then every 100 ms after three failures. -/
  | regulatorRetry
  /-- EXIT_STEP_DONE (R501): An exit step completes and the hub moves on until every domain of the new state runs. -/
  | exitStepDone
  /-- WAKE_EVENT (R502): An enabled wake source in P3 or P4 wakes the hub to P0. -/
  | wakeEvent (sources trunk : Nat)
  /-- AON_TIMER_WAKE (R502): The AON timer reaching PWR_WAKE_TIME fires the timer wake source. -/
  | aonTimerWake
  /-- DOMAIN_AUTO_POWER_ON (R493): In P1 an access to a page of a switched-off domain powers it on and completes. -/
  | domainAutoPowerOn (d : Nat)
  /-- DOMAIN_IDLE_POWER_OFF (R493): In P1 a domain powered on by access with nothing enabled is switched off 10 ms after its last access. -/
  | domainIdlePowerOff (d : Nat)
  /-- ACCESS_RESUME (R521): An access waiting on a stopped domain clock completes when that clock starts again. -/
  | accessResume (path : Nat)
  /-- I2C_WRITE (R505): An I2C write of address and four data bytes makes a CSR write on the I2C path. -/
  | i2cWrite (dev addr : Nat) (data : List Byte)
  /-- I2C_READ (R505): An I2C read of three address bytes then four data bytes makes a CSR read on the I2C path. -/
  | i2cRead (dev addr : Nat)
  /-- I2C_ADDRESS_MATCH (R504): A match of the slave's address with no clock running is acknowledged, holds SCL and fires the I2C wake. -/
  | i2cAddressMatch (addr : Nat)
  /-- PMBUS_ALERT (R515): PMB_ALERT_N low makes the hub read STATUS_WORD from every enabled regulator. -/
  | pmbusAlert (st : List Nat)
  /-- VID_TRIM_WRITE (R511): A write of PWR_VIDU outside a transition requests the new VOUT_COMMAND. -/
  | vidTrimWrite (path k data : Nat)
  /-- PLL_LOSS_OF_LOCK (R517): A PLL losing lock is flagged, counted and journalled, taking its links down. -/
  | pllLossOfLock (k : Nat)
  /-- AON_TRIM (R503): Every 1 s the AON oscillator is compared with the reference and trimmed. -/
  | aonTrim (ppm : Int)
  /-- RST_N_ASSERT (R525): RST_N low for 520 ns or more starts a warm reset held while it stays low. -/
  | rstNAssert (ns : Nat)
  /-- RST_N_RELEASE (R525): Release of RST_N ends the warm reset and starts the boot flow. -/
  | rstNRelease
  /-- CHIP_RST_WARM (R526): CHIP_RST_CMD WARM, with owner authority, starts a warm reset 10 µs later. -/
  | chipRstWarm (path : Nat)
  /-- WARM_RESET (R529): A warm reset resets every core-die domain except AON, keeping what Table 17.2 gives. -/
  | warmReset
  /-- COLD_RESET (R524): VDD_AON rising through 0.70 V resets every core-die domain. -/
  | coldReset (voutMode : Nat) (intact : Bool)
  /-- ROOT_PLL_TIMEOUT (R527): The root PLL not relocked within 100 µs makes AON start a warm reset. -/
  | rootPllTimeout
  /-- TEMPERATURE_SAMPLE (R535): Every 1 ms the eight sensors are read and HOT or CRIT is set above the thresholds. -/
  | temperatureSample (raw : List Int)
  /-- DRAM_SELF_REFRESH_ENTRY (R491): The DRAM controller places the DRAM die in self-refresh after 2 µs without a request while every stated latency tolerance exceeds its 4 µs wake time. -/
  | dramSelfRefreshEntry
  /-- PLL_RELOCK (R527): A PLL regains lock, and once the root PLL has been locked for 1 ms the warm reset it caused is released and the boot flow runs. -/
  | pllRelock (k : Nat)
  /-- CORE_DIE_POWER_LOSS (R560): VDD_AON falling below 0.66 V stops the core die, and the VBAT island goes on from VBAT until the next cold reset. -/
  | coreDiePowerLoss
  /-- ISLAND_POWER_LOSS (R424): Loss of both VBAT and VDD_AON removes all power from the VBAT island, losing the root and clearing KEY_TMP_LOCK. -/
  | islandPowerLoss
  /-- HOST_COMPLETION_TIMEOUT (R315): A host memory read issued by the bridge for an inbound request gets no completion in time, and the request is answered with STATUS CA. -/
  | hostCompletionTimeout (id : Nat)
  /-- HOST_CONFIG_WRITE (R313): A host write to the function's configuration space sets Bus Master Enable, MPS, MRRS and the other settings that inbound service depends on. -/
  | hostConfigWrite (bme mps mrrs : Nat) (msixEn : Bool) (conf : HostConf)
  /-- DOWNSTREAM_PORT_CONNECT (R348): A device connects to or disconnects from a downstream USB port, changing USB_PORT_STAT and setting the port's CONNECT bit. -/
  | downstreamPortConnect (n : Nat) (connected : Bool) (speed : Nat)
  /-- ENGINE_TAKE_ENTRY (R386): A serving engine takes an RX or CMD entry from its mailbox, freeing it at once or at its next checkpoint. -/
  | engineTakeEntry (e box : Nat)
  /-- ENGINE_WDT_KICK (R387): A serving engine kicks its watchdog, restarting its ENG_WDT count. -/
  | engineWdtKick (e : Nat)
  /-- ENGINE_RSP_POST (R384): An engine places a response descriptor in its RSP mailbox, setting PAGE_IRQ_STAT.RSP. -/
  | engineRspPost (e : Nat) (words : List Nat)
  /-- ENG_CACHE_LOAD_DONE (R382): A cache LOAD finishes its verification, entering the image or recording the failed check, and ENG_CACHE_STAT.BUSY clears. -/
  | engCacheLoadDone
  /-- SOURCE_ENABLE (R235): A write of DSP_SRC_CFG.EN 1 enables a display source, taking it from DISABLED to NO_MODE so that its units are taken. -/
  | sourceEnable (path i data : Nat)
  /-- MAC_ENABLE (R344): A write of ETH_MAC_CFG.EN 1 enables a MAC, taking it from DISABLED toward NO_LINK and RUN. -/
  | macEnable (path m data : Nat)
  /-- WINDOW_ENABLE (R325): A write of a host bridge window's EN 1 opens an outbound or inbound window, taking it from DISABLED to OPEN. -/
  | windowEnable (path data : Nat) (inward : Bool)
  /-- CROSS_PLANE_HEARTBEAT (R161): A demoted plane receives its peer's cross-plane heartbeat again and may claim authority once more. -/
  | crossPlaneHeartbeat (p : Nat)
deriving DecidableEq, Repr

end Sys2Proof
end

