-- ==== Sys2Proof/Machine/Codec.lean ====
section
/-! DEFINITION. The wire formats of the Glenlink link: CRC-32C and CRC-8, and the bytes of a cell (R60 to R62) and of a control or lane-layer block (R65, R104). -/

namespace Sys2Proof.Machine

/-- `n` as `k` bytes, most significant first (R4). -/
def toBe : Nat → Nat → List Byte
  | 0, _ => []
  | k + 1, n => BitVec.ofNat 8 (n / 256 ^ k) :: toBe k n

/-- The number that bytes spell, most significant first. -/
def ofBe (bs : List Byte) : Nat :=
  bs.foldl (fun a b => a * 256 + b.toNat) 0

/-- `n` as `k` bytes, least significant first (R3). -/
def toLe : Nat → Nat → List Byte
  | 0, _ => []
  | k + 1, n => BitVec.ofNat 8 n :: toLe k (n / 256)

/-- The number that bytes spell, least significant first. -/
def ofLe : List Byte → Nat
  | [] => 0
  | b :: bs => b.toNat + 256 * ofLe bs

/-- Bytes `i` to `i + k - 1` as a number, most significant first. -/
def beAt (bs : List Byte) (i k : Nat) : Nat := ofBe ((bs.drop i).take k)

/-- Bits `hi` down to `lo` of a number. -/
def bitsOf (n hi lo : Nat) : Nat := n / 2 ^ lo % 2 ^ (hi + 1 - lo)

def iter (f : Nat → Nat) : Nat → Nat → Nat
  | 0, x => x
  | k + 1, x => iter f k (f x)

/-- One bit of the reflected CRC-32C, polynomial 0x1EDC6F41 (R62). -/
def crc32cBit (c : Nat) : Nat :=
  if c % 2 = 1 then Nat.xor (c / 2) 0x82F63B78 else c / 2

/-- CRC-32C over bytes, initial value and final XOR 0xFFFFFFFF (R62). -/
def crc32c (bs : List Byte) : Nat :=
  Nat.xor (bs.foldl (fun c b => iter crc32cBit 8 (Nat.xor c b.toNat)) 0xFFFFFFFF) 0xFFFFFFFF

/-- One bit of the reflected CRC-32 of IEEE 802.3. -/
def crc32Bit (c : Nat) : Nat :=
  if c % 2 = 1 then Nat.xor (c / 2) 0xEDB88320 else c / 2

/-- The frame check sequence of a frame, in the order it is sent (R338). -/
def frameFcs (bs : List Byte) : List Byte :=
  toLe 4 (Nat.xor (bs.foldl (fun c b => iter crc32Bit 8 (Nat.xor c b.toNat)) 0xFFFFFFFF) 0xFFFFFFFF)

/-- One bit of the CRC-8 of control blocks, polynomial x^8 + x^2 + x + 1. -/
def crc8Bit (c : Nat) : Nat :=
  if c / 128 % 2 = 1 then Nat.xor (c * 2 % 256) 0x07 else c * 2 % 256

/-- CRC-8 with initial value 0 over bytes (R65, R104). -/
def crc8 (bs : List Byte) : Nat :=
  bs.foldl (fun c b => iter crc8Bit 8 (Nat.xor c b.toNat)) 0

/-- A payload filled to 236 bytes with 0x00 (R61). -/
def padTo (k : Nat) (bs : List Byte) : List Byte :=
  (bs ++ List.replicate k 0).take k

/-- The 252 bytes of a cell that its CRC covers (Table 2.2). -/
def cellBody (c : Cell) : List Byte :=
  toBe 2 c.lseq ++ [BitVec.ofNat 8 (c.vc * 32 + (if c.cont then 16 else 0) + c.kind)] ++
    toBe 2 (c.plane * 32768 + c.tid) ++ [BitVec.ofNat 8 c.len] ++ toBe 2 c.useq ++ toBe 8 c.tsw ++
    padTo 236 c.payload

/-- The 256 bytes of a cell on the wire. -/
def encodeCell (c : Cell) : List Byte :=
  cellBody c ++ toBe 4 (crc32c (cellBody c))

/-- The fields of a cell's bytes, whatever its CRC. -/
def cellOf (bs : List Byte) : Cell where
  lseq := beAt bs 0 2
  vc := bitsOf (beAt bs 2 1) 7 5
  cont := bitsOf (beAt bs 2 1) 4 4 == 1
  kind := bitsOf (beAt bs 2 1) 3 0
  plane := bitsOf (beAt bs 3 2) 15 15
  tid := bitsOf (beAt bs 3 2) 14 0
  len := beAt bs 5 1
  useq := beAt bs 6 2
  tsw := beAt bs 8 8
  payload := (bs.drop 16).take 236

/-- A cell from 256 received bytes; none when it is damaged (R59, R62). -/
def decodeCell (bs : List Byte) : Option Cell :=
  if bs.length = 256 ∧ beAt bs 252 4 = crc32c (bs.take 252) then some (cellOf bs) else none

/-- Byte 0 and the six content bytes of a block (Tables 2.3 and 3.1, R114). -/
def ctlBody : Ctl → List Byte
  | .idle => [0xC1, 0, 0, 0, 0, 0, 0]
  | .ack cum base map => [0xC3] ++ toBe 2 cum ++ toBe 1 base ++ toBe 3 map
  | .credit vc limit => [0xC5] ++ toBe 1 (vc * 32) ++ [0, 0] ++ toBe 3 limit
  | .time sub id stamp => [0xC6] ++ toBe 1 (sub * 32 + id) ++ toBe 5 stamp
  | .health h =>
    [0xC9] ++ toBe 1 (h.lane * 64 + h.use * 16 + (if h.learn then 8 else 0) + (if h.pred then 4 else 0)) ++
      toBe 1 h.eyeH ++ toBe 1 h.eyeV ++ toBe 2 h.errs ++ [0]
  | .cap t =>
    [0xCA] ++ toBe 1 (t.maj * 16 + t.min) ++
      toBe 1 (t.maxVcs * 16 + t.role * 8 + (if t.seen then 4 else 0)) ++ toBe 1 t.caps ++ toBe 3 t.nodeId
  | .align lane pos mcnt bip => [0xE1] ++ toBe 1 (lane * 64 + pos * 16) ++ toBe 2 mcnt ++ toBe 1 bip ++ [0, 0]
  | .train lane step ready maxRate preset maxWidth spareEn pass =>
    [0xE2] ++ toBe 1 (lane * 64 + step * 8 + (if ready then 4 else 0)) ++ toBe 1 (maxRate * 16 + preset) ++
      toBe 1 (maxWidth * 16 + (if spareEn then 8 else 0) + pass) ++ [0, 0, 0]
  | .substReq lane kind rseq => [0xE4] ++ toBe 1 (lane * 64 + kind * 32) ++ toBe 1 rseq ++ [0, 0, 0, 0]
  | .switch src dst pos rseq =>
    [0xE8] ++ toBe 1 (src * 64 + dst * 16 + pos * 4) ++ toBe 1 rseq ++ [0, 0, 0, 0]

/-- The eight bytes of a block on the wire. -/
def encodeCtl (b : Ctl) : List Byte :=
  ctlBody b ++ toBe 1 (crc8 (ctlBody b))

/-- The block that a type byte and its content name; none for a type not in Tables 2.3 and 3.1. -/
def ctlOf (bs : List Byte) : Option Ctl :=
  let b1 := beAt bs 1 1
  let b2 := beAt bs 2 1
  let b3 := beAt bs 3 1
  match beAt bs 0 1 with
  | 0xC1 => some .idle
  | 0xC3 => some (.ack (beAt bs 1 2) b3 (beAt bs 4 3))
  | 0xC5 => some (.credit (bitsOf b1 7 5) (beAt bs 4 3))
  | 0xC6 => some (.time (bitsOf b1 7 5) (bitsOf b1 4 0) (beAt bs 2 5))
  | 0xC9 => some (.health ⟨bitsOf b1 7 6, bitsOf b1 5 4, bitsOf b1 3 3 == 1, bitsOf b1 2 2 == 1, b2, b3, beAt bs 4 2⟩)
  | 0xCA =>
    some (.cap ⟨bitsOf b1 7 4, bitsOf b1 3 0, bitsOf b2 7 4, bitsOf b2 3 3, bitsOf b2 2 2 == 1, b3, beAt bs 4 3⟩)
  | 0xE1 => some (.align (bitsOf b1 7 6) (bitsOf b1 5 4) (beAt bs 2 2) (beAt bs 4 1))
  | 0xE2 =>
    some (.train (bitsOf b1 7 6) (bitsOf b1 5 3) (bitsOf b1 2 2 == 1) (bitsOf b2 7 4) (bitsOf b2 3 0)
      (bitsOf b3 7 4) (bitsOf b3 3 3 == 1) (bitsOf b3 2 0))
  | 0xE4 => some (.substReq (bitsOf b1 7 6) (bitsOf b1 5 5) b2)
  | 0xE8 => some (.switch (bitsOf b1 7 6) (bitsOf b1 5 4) (bitsOf b1 3 2) b2)
  | _ => none

/-- A block from eight received bytes; none when R65 or R104 discards it. -/
def decodeCtl (bs : List Byte) : Option Ctl :=
  if bs.length = 8 ∧ beAt bs 7 1 = crc8 (bs.take 7) then ctlOf bs else none

end Sys2Proof.Machine
end

