-- ==== Sys2Proof/Config.lean ====
section
/-! DEFINITION. What an implementation fixes and the spec does not give (factory values), and the free values: constants without a body, which no proof can see into. -/

namespace Sys2Proof

/-- The factory value of the register at a byte address of CSR space ("Factory" in the register tables): what the one-time-programmable memory of the part holds there. -/
opaque Config.factory : Nat → BitVec 32

/-- SHA-384 of a byte string (FIPS 180-4): 48 bytes. -/
opaque Config.sha384 : List (BitVec 8) → List (BitVec 8)

/-- HMAC-SHA-384 of a message under a key: 48 bytes. -/
opaque Config.hmac384 : List (BitVec 8) → List (BitVec 8) → List (BitVec 8)

/-- HKDF with SHA-384 (RFC 5869): input keying material, salt, info and output length. -/
opaque Config.hkdf : List (BitVec 8) → List (BitVec 8) → List (BitVec 8) → Nat → List (BitVec 8)

/-- Whether an ECDSA P-384 signature verifies: public point, digest, signature. -/
opaque Config.ecdsaVerify : List (BitVec 8) → List (BitVec 8) → List (BitVec 8) → Bool

/-- The ECDSA P-384 signature with an RFC 6979 nonce: private key, digest. -/
opaque Config.ecdsaSign : Nat → List (BitVec 8) → List (BitVec 8)

/-- The 97-byte public point of a P-384 private key. -/
opaque Config.ecdsaPublic : Nat → List (BitVec 8)

/-- The order of P-384. -/
opaque Config.p384Order : Nat

/-- AES-256-GCM: key, IV, additional data and plain text give the cipher text and tag. -/
opaque Config.gcmSeal : List (BitVec 8) → List (BitVec 8) → List (BitVec 8) → List (BitVec 8) → List (BitVec 8) × List (BitVec 8)

/-- AES-256-GCM: key, IV, additional data, cipher text and tag give the plain text when the tag holds. -/
opaque Config.gcmOpen : List (BitVec 8) → List (BitVec 8) → List (BitVec 8) → List (BitVec 8) → List (BitVec 8) → Option (List (BitVec 8))

/-- WTL_IMG_HASH (Table 13.4). -/
opaque Config.imageKeyHash : List (BitVec 8)

/-- The power die's calibration hash (Table 13.9). -/
opaque Config.calibrationHash : List (BitVec 8)

/-- The journal argument of an event whose rule names what it journals and gives the argument no layout: the event's page and bit, and what it names. -/
opaque Config.journalArg : Nat → Nat → List Nat → BitVec 64

/-- Where a queue of the storage adapter lies above bus address 0x2_0000_0000 (R274): by root port, queue ID, and 0 for a submission and 1 for a completion queue. -/
opaque Config.queueOffset : Nat → Nat → Nat → BitVec 24

/-- The Vendor ID that configuration space holds (Table 9.1). -/
opaque Config.vendorId : BitVec 16

/-- Where the PCI Express and the MSI-X capability lie in configuration space: how many words after 0x40 and after the first one's end (Table 9.1). -/
opaque Config.capPlace : Nat → BitVec 3

/-- The threshold of the 2×2 ordered dither (R260) at a position in the 2×2 square, for a number of bits cut off: the spec names the dither and gives no matrix. -/
opaque Config.dither : Nat → Nat → Nat → BitVec 16

/-- A value that the spec leaves open: the n-th one that a run takes (State.free counts them). -/
opaque Config.freeValue : Nat → BitVec 64

end Sys2Proof
end

