-- ==== Sys2Proof/Machine/Tab.lean ====
section
/-! DEFINITION. Sparse tables: what the hub keeps by number (registers, queues, map entries, memory bytes) is a list of key and value pairs with strictly rising keys in which no entry equals what an unlisted key reads as. -/

namespace Sys2Proof.Machine

/-- A table by key; a key that is not listed holds the default its reader names. -/
abbrev Tab (α : Type) := List (Nat × α)

namespace Tab

variable {α : Type}

/-- What key `k` holds; `d` when it is not listed. -/
def get (d : α) (k : Nat) : Tab α → α
  | [] => d
  | (k', v) :: t => if k = k' then v else get d k t

/-- Lists `k` with `v`, in the place its key has. -/
def put (k : Nat) (v : α) : Tab α → Tab α
  | [] => [(k, v)]
  | (k', v') :: t =>
    if k < k' then (k, v) :: (k', v') :: t
    else if k = k' then (k, v) :: t
    else (k', v') :: put k v t

/-- Takes `k` off the list. -/
def erase (k : Nat) (t : Tab α) : Tab α := t.filter (fun p => p.1 ≠ k)

/-- Stores `v` at `k`; storing the default takes the key off the list. -/
def set [DecidableEq α] (d : α) (k : Nat) (v : α) (t : Tab α) : Tab α :=
  if v = d then erase k t else put k v t

/-- Changes what `k` holds. -/
def upd [DecidableEq α] (d : α) (k : Nat) (f : α → α) (t : Tab α) : Tab α :=
  set d k (f (get d k t)) t

/-- Changes every listed value. -/
def mapVals [DecidableEq α] (d : α) (f : Nat → α → α) (t : Tab α) : Tab α :=
  (t.map (fun e => (e.1, f e.1 e.2))).filter (fun e => e.2 ≠ d)

/-- Takes off every key for which `p` holds. -/
def eraseIf (p : Nat → Bool) (t : Tab α) : Tab α := t.filter (fun e => !p e.1)

/-- Stores a run of values from key `a` on. -/
def setRun [DecidableEq α] (d : α) (a : Nat) (vs : List α) (t : Tab α) : Tab α :=
  t.filter (fun e => decide (e.1 < a)) ++
    (((List.range vs.length).map (a + ·)).zip vs).filter (fun e => decide (e.2 ≠ d)) ++
    t.filter (fun e => decide (a + vs.length ≤ e.1))

/-- What `n` keys from `a` on hold. -/
def getRun (d : α) (a n : Nat) (t : Tab α) : List α := (List.range n).map (fun i => get d (a + i) t)

/-- The canonical form: keys strictly rising, no entry equal to the default. -/
def wf [DecidableEq α] (d : α) (t : Tab α) : Bool :=
  decide (t.Pairwise (fun a b => a.1 < b.1)) && t.all (fun e => decide (e.2 ≠ d))

end Tab

/-- The smallest number from `k` on that is no key of a sorted table. -/
def Tab.firstFree {α : Type} : Nat → Tab α → Nat
  | k, [] => k
  | k, (k', _) :: t => if k' < k then Tab.firstFree k t else if k' = k then Tab.firstFree (k + 1) t else k

end Sys2Proof.Machine
end

