-- ==== Sys2Proof/Machine/Regs.lean ====
section
/-! DEFINITION. What a register field and a register are (R3, R9, Table 0.5): a field's place in CSR space, its width, reset value, access type and limits; and where the values of all fields are kept. -/

namespace Sys2Proof.Machine

/-- The access types of Table 0.5; `ctr` is RO in a register that its chapter describes as counting or saturating (R549), which a page soft reset clears. -/
inductive Access where
  | rw | ro | w1c | w1s | wo | rwl | rws | ctr
deriving DecidableEq, Repr

/-- Where a field's reset value comes from: one value; a second value on the feed channels (chapter 14, "C: … F: …"); the factory; Table 14.6; the value plus the register's number (PWR_REG_CFG); or Table 18.10. -/
inductive ResetRule where
  | const
  | feed (f : Nat)
  | factory
  | curve
  | plusJ
  | auth
deriving DecidableEq, Repr

/-- A register field. `addr` is the byte address of instance (0, 0); `si` and `sj` are the bytes between instances; a register that an index register selects has its banks 2^22 apart, outside CSR space. -/
structure Field where
  addr : Nat
  si : Nat
  sj : Nat
  lsb : Nat
  width : Nat
  reset : Nat
  rule : ResetRule
  acc : Access
  lo : Nat
  hi : Nat
deriving DecidableEq, Repr

/-- The key under which instance (i, j) of a field is kept. -/
def Field.key (f : Field) (i j : Nat) : Nat := (f.addr + i * f.si + j * f.sj) * 32 + f.lsb

/-- A register of a page: its offset, the bytes between its instances and their number, the field that selects its bank, whether it is the _LO of a 64-bit pair, and its fields. -/
structure Reg where
  off : Nat
  sj : Nat
  cj : Nat
  bank : Option Field
  pair : Bool
  fields : List Field
deriving DecidableEq, Repr

/-- The pages of Table 18.1. -/
def pageListed (p : Nat) : Bool :=
  p == 0x000 || p == 0x001 || (0x010 ≤ p && p ≤ 0x012) || p == 0x014 || p == 0x01C ||
  (0x020 ≤ p && p ≤ 0x024) || (0x030 ≤ p && p ≤ 0x032) || (0x040 ≤ p && p ≤ 0x043) ||
  p == 0x050 || p == 0x051 || p == 0x058 || (0x060 ≤ p && p ≤ 0x077) ||
  (0x080 ≤ p && p ≤ 0x0FF && p % 8 ≤ 3) || (0x100 ≤ p && p ≤ 0x104) || (0x180 ≤ p && p ≤ 0x183) ||
  (0x200 ≤ p && p ≤ 0x204) || p == 0x280 || (0x300 ≤ p && p ≤ 0x302) || (0x304 ≤ p && p ≤ 0x307) ||
  (0x310 ≤ p && p ≤ 0x314) || (0x320 ≤ p && p ≤ 0x323) || p == 0x328 || (0x340 ≤ p && p ≤ 0x346) ||
  (0x350 ≤ p && p ≤ 0x353) || (0x360 ≤ p && p ≤ 0x362) || (0x370 ≤ p && p ≤ 0x37F)

/-- The CONTROL pages of Table 18.10. -/
def pageControl (p : Nat) : Bool :=
  p == 0x001 || (0x010 ≤ p && p ≤ 0x012) || p == 0x01C || p == 0x021 || p == 0x023 || p == 0x024 ||
  (0x030 ≤ p && p ≤ 0x032)

/-- The ENGINE pages of Table 18.10. -/
def pageEngine (p : Nat) : Bool :=
  p == 0x200 || (0x360 ≤ p && p ≤ 0x362) || (0x370 ≤ p && p ≤ 0x37F)

/-- The authority mask of a page after cold reset (R555, Table 18.10). -/
def authReset (p : Nat) : Nat :=
  if !pageListed p then 0 else if pageControl p then 0x577F else if pageEngine p then 0xFFFF else 0x7F7F

/-- Table 14.6: the currents of the default curves in 2 mA. -/
def curveI (feed : Bool) : List Nat :=
  if feed then [0x35B6, 0x3A98, 0x493E, 0x61A8, 0x7A12, 0x927C, 0xAAE6, 0xC350]
  else [0x055F, 0x05DC, 0x0753, 0x09C4, 0x0C35, 0x0EA6, 0x1117, 0x1388]

/-- Table 14.6: the times of the default curves in ms. -/
def curveT : List Nat := [60000, 30000, 10000, 2000, 500, 100, 20, 5]

/-- The reset value of instance (i, j) of a field. -/
def Field.resetAt (f : Field) (i j : Nat) : Nat :=
  match f.rule with
  | .const => f.reset
  | .feed v => if i < 16 then f.reset else v
  | .factory =>
    let a := f.addr + i * f.si + j * f.sj
    ((Config.factory a).toNat + (Config.factory (a + 4)).toNat * 2 ^ 32) / 2 ^ f.lsb % 2 ^ f.width
  | .curve => if f.lsb = 0 then (curveI (decide (16 ≤ i))).getD j 0 else curveT.getD j 0
  | .plusJ => f.reset + j
  | .auth => authReset i / 2 ^ f.lsb % 2 ^ f.width

/-- A value inside the field's width, and inside its limits when the spec gives it some: outside them the nearer limit is stored. -/
def Field.clamp (f : Field) (v : Nat) : Nat := max f.lo (min f.hi (v % 2 ^ f.width))

/-- The value of instance (i, j) of a field in a register store. -/
def Field.get (f : Field) (i j : Nat) (t : Tab Nat) : Nat := t.get (f.resetAt i j) (f.key i j)

/-- Stores a value, cut to the field's width, in instance (i, j) of a field. -/
def Field.put (f : Field) (v i j : Nat) (t : Tab Nat) : Tab Nat :=
  t.set (f.resetAt i j) (f.key i j) (v % 2 ^ f.width)

end Sys2Proof.Machine
end

