-- ==== Sys2Proof/Machine/RegsAdapters.lean ====
section
/-! DEFINITION. The register fields of the register pages of chapters 07 to 11 of spec/ (display, storage, host bridge, network, USB): one descriptor per field (byte address of instance 0, bytes between instances, place, width, reset value, access type, limits), written from the register tables named at each page, and the list of registers of each page. -/

namespace Sys2Proof.Machine.R

/-! Table 7.8. -/

def DSP_FS_BASE : Field := ⟨0x300040, 0x0, 0x0, 27, 5, 14, .const, .rw, 0, 15⟩
def DSP_DRAIN : Field := ⟨0x300044, 0x0, 0x0, 0, 16, 10000, .const, .rw, 100, 65535⟩
def DSP_LT_GUARD : Field := ⟨0x300048, 0x0, 0x0, 0, 8, 10, .const, .rw, 0, 255⟩
def DSP_LT : Field := ⟨0x30004C, 0x0, 0x0, 0, 16, 65535, .const, .ro, 0, 65535⟩
def DSP_BAD_UNIT : Field := ⟨0x300050, 0x0, 0x0, 0, 32, 0, .const, .ctr, 0, 4294967295⟩
def DSP_BAD_LAST_TID : Field := ⟨0x300054, 0x0, 0x0, 0, 15, 0, .const, .ro, 0, 32767⟩
def DSP_BAD_LAST_REASON : Field := ⟨0x300054, 0x0, 0x0, 16, 4, 0, .const, .ro, 0, 15⟩
def DSP_BAD_LAST_TYPE : Field := ⟨0x300054, 0x0, 0x0, 24, 8, 0, .const, .ro, 0, 255⟩
def DSP_UNBOUND : Field := ⟨0x300058, 0x0, 0x0, 0, 32, 0, .const, .ctr, 0, 4294967295⟩
def DSP_DRAM_ERR_CORR : Field := ⟨0x30005C, 0x0, 0x0, 0, 16, 0, .const, .ctr, 0, 65535⟩
def DSP_DRAM_ERR_UNCORR : Field := ⟨0x30005C, 0x0, 0x0, 16, 16, 0, .const, .ctr, 0, 65535⟩

/-- The registers of Table 7.8 beyond the header. -/
def page300 : List Reg := [
  ⟨0x40, 0x0, 1, none, false, [DSP_FS_BASE]⟩,
  ⟨0x44, 0x0, 1, none, false, [DSP_DRAIN]⟩,
  ⟨0x48, 0x0, 1, none, false, [DSP_LT_GUARD]⟩,
  ⟨0x4C, 0x0, 1, none, false, [DSP_LT]⟩,
  ⟨0x50, 0x0, 1, none, false, [DSP_BAD_UNIT]⟩,
  ⟨0x54, 0x0, 1, none, false, [DSP_BAD_LAST_TID, DSP_BAD_LAST_REASON, DSP_BAD_LAST_TYPE]⟩,
  ⟨0x58, 0x0, 1, none, false, [DSP_UNBOUND]⟩,
  ⟨0x5C, 0x0, 1, none, false, [DSP_DRAM_ERR_CORR, DSP_DRAM_ERR_UNCORR]⟩]

/-! Table 7.9. -/

def DSP_SRC_CFG_EN : Field := ⟨0x301040, 0x1000, 0x0, 0, 1, 0, .const, .rw, 0, 1⟩
def DSP_SRC_CFG_CLONE : Field := ⟨0x301040, 0x1000, 0x0, 4, 4, 0, .const, .rw, 0, 15⟩
def DSP_SRC_CFG_REL_GRP : Field := ⟨0x301040, 0x1000, 0x0, 8, 6, 0, .const, .rw, 0, 63⟩
def DSP_SRC_CFG_PSR_EN : Field := ⟨0x301040, 0x1000, 0x0, 16, 1, 0, .const, .rw, 0, 1⟩
def DSP_SRC_CFG_PSR_FRAMES : Field := ⟨0x301040, 0x1000, 0x0, 24, 8, 8, .const, .rw, 1, 255⟩
def DSP_SRC_TID : Field := ⟨0x301044, 0x1000, 0x0, 0, 15, 0, .const, .rw, 0, 32767⟩
def DSP_SRC_REPLY_TID : Field := ⟨0x301048, 0x1000, 0x0, 0, 15, 0, .const, .rw, 0, 32767⟩
def DSP_SRC_REPLY_MSGID : Field := ⟨0x301048, 0x1000, 0x0, 16, 16, 0, .const, .rw, 0, 65535⟩
def DSP_SRC_STAT_STATE : Field := ⟨0x30104C, 0x1000, 0x0, 0, 3, 0, .const, .ro, 0, 7⟩
def DSP_SRC_STAT_FRONT : Field := ⟨0x30104C, 0x1000, 0x0, 4, 1, 0, .const, .ro, 0, 1⟩
def DSP_SRC_STAT_FLIP_PENDING : Field := ⟨0x30104C, 0x1000, 0x0, 5, 1, 0, .const, .ro, 0, 1⟩
def DSP_SRC_STAT_COPY_BUSY : Field := ⟨0x30104C, 0x1000, 0x0, 6, 1, 0, .const, .ro, 0, 1⟩
def DSP_SRC_STAT_IDLE : Field := ⟨0x30104C, 0x1000, 0x0, 16, 16, 0, .const, .ctr, 0, 65535⟩
def DSP_SRC_MODE_H_ACT : Field := ⟨0x301050, 0x1000, 0x0, 0, 16, 0, .const, .ro, 0, 65535⟩
def DSP_SRC_MODE_V_ACT : Field := ⟨0x301050, 0x1000, 0x0, 16, 16, 0, .const, .ro, 0, 65535⟩
def DSP_SRC_PCLK_KHZ : Field := ⟨0x301054, 0x1000, 0x0, 0, 20, 0, .const, .ro, 0, 1048575⟩
def DSP_SRC_PCLK_FMT : Field := ⟨0x301054, 0x1000, 0x0, 24, 1, 0, .const, .ro, 0, 1⟩
def DSP_BG : Field := ⟨0x301058, 0x1000, 0x0, 0, 30, 0, .const, .rw, 0, 1073741823⟩
def DSP_FETCH_LO : Field := ⟨0x30105C, 0x1000, 0x0, 0, 11, 512, .const, .rw, 64, 1792⟩
def DSP_FILL : Field := ⟨0x301060, 0x1000, 0x0, 0, 12, 0, .const, .ro, 0, 4095⟩
def DSP_FRAME_CNT : Field := ⟨0x301064, 0x1000, 0x0, 0, 32, 0, .const, .ctr, 0, 4294967295⟩
def DSP_FLIP_CNT : Field := ⟨0x301068, 0x1000, 0x0, 0, 32, 0, .const, .ctr, 0, 4294967295⟩
def DSP_PSR_CNT : Field := ⟨0x30106C, 0x1000, 0x0, 0, 32, 0, .const, .ctr, 0, 4294967295⟩
def DSP_REFUSED : Field := ⟨0x301070, 0x1000, 0x0, 0, 32, 0, .const, .ctr, 0, 4294967295⟩
def DSP_ABORTED : Field := ⟨0x301074, 0x1000, 0x0, 0, 32, 0, .const, .ctr, 0, 4294967295⟩

/-- The registers of Table 7.9 beyond the header. -/
def page301a : List Reg := [
  ⟨0x40, 0x0, 1, none, false, [DSP_SRC_CFG_EN, DSP_SRC_CFG_CLONE, DSP_SRC_CFG_REL_GRP, DSP_SRC_CFG_PSR_EN, DSP_SRC_CFG_PSR_FRAMES]⟩,
  ⟨0x44, 0x0, 1, none, false, [DSP_SRC_TID]⟩,
  ⟨0x48, 0x0, 1, none, false, [DSP_SRC_REPLY_TID, DSP_SRC_REPLY_MSGID]⟩,
  ⟨0x4C, 0x0, 1, none, false, [DSP_SRC_STAT_STATE, DSP_SRC_STAT_FRONT, DSP_SRC_STAT_FLIP_PENDING, DSP_SRC_STAT_COPY_BUSY, DSP_SRC_STAT_IDLE]⟩,
  ⟨0x50, 0x0, 1, none, false, [DSP_SRC_MODE_H_ACT, DSP_SRC_MODE_V_ACT]⟩,
  ⟨0x54, 0x0, 1, none, false, [DSP_SRC_PCLK_KHZ, DSP_SRC_PCLK_FMT]⟩,
  ⟨0x58, 0x0, 1, none, false, [DSP_BG]⟩,
  ⟨0x5C, 0x0, 1, none, false, [DSP_FETCH_LO]⟩]
def page301b : List Reg := [
  ⟨0x60, 0x0, 1, none, false, [DSP_FILL]⟩,
  ⟨0x64, 0x0, 1, none, false, [DSP_FRAME_CNT]⟩,
  ⟨0x68, 0x0, 1, none, false, [DSP_FLIP_CNT]⟩,
  ⟨0x6C, 0x0, 1, none, false, [DSP_PSR_CNT]⟩,
  ⟨0x70, 0x0, 1, none, false, [DSP_REFUSED]⟩,
  ⟨0x74, 0x0, 1, none, false, [DSP_ABORTED]⟩]
def page301 : List Reg := page301a ++ page301b

/-! Table 7.12. -/

def DSP_OUT_CFG_EN : Field := ⟨0x304040, 0x1000, 0x0, 0, 1, 0, .const, .rw, 0, 1⟩
def DSP_OUT_CFG_EDP : Field := ⟨0x304040, 0x1000, 0x0, 1, 1, 0, .const, .rw, 0, 1⟩
def DSP_OUT_CFG_MAX_LANES : Field := ⟨0x304040, 0x1000, 0x0, 4, 2, 2, .const, .rw, 0, 2⟩
def DSP_OUT_CFG_MAX_RATE : Field := ⟨0x304040, 0x1000, 0x0, 8, 3, 3, .const, .rw, 0, 3⟩
def DSP_OUT_CFG_SSC : Field := ⟨0x304040, 0x1000, 0x0, 12, 1, 0, .const, .rw, 0, 1⟩
def DSP_OUT_CFG_BPC : Field := ⟨0x304040, 0x1000, 0x0, 16, 2, 0, .const, .rw, 0, 3⟩
def DSP_OUT_STAT_STATE : Field := ⟨0x304044, 0x1000, 0x0, 0, 3, 0, .const, .ro, 0, 7⟩
def DSP_OUT_STAT_RATE : Field := ⟨0x304044, 0x1000, 0x0, 4, 3, 0, .const, .ro, 0, 7⟩
def DSP_OUT_STAT_LANES : Field := ⟨0x304044, 0x1000, 0x0, 8, 2, 0, .const, .ro, 0, 3⟩
def DSP_OUT_STAT_CAUSE : Field := ⟨0x304044, 0x1000, 0x0, 12, 4, 0, .const, .ro, 0, 15⟩
def DSP_OUT_STAT_HPD : Field := ⟨0x304044, 0x1000, 0x0, 16, 1, 0, .const, .ro, 0, 1⟩
def DSP_OUT_STAT_PSR_CAP : Field := ⟨0x304044, 0x1000, 0x0, 17, 1, 0, .const, .ro, 0, 1⟩
def DSP_UNDERRUN : Field := ⟨0x304048, 0x1000, 0x0, 0, 32, 0, .const, .ctr, 0, 4294967295⟩
def DSP_UNDERRUN_BG : Field := ⟨0x30404C, 0x1000, 0x0, 0, 32, 0, .const, .ctr, 0, 4294967295⟩
def DSP_TRAIN_CNT : Field := ⟨0x304050, 0x1000, 0x0, 0, 32, 0, .const, .ctr, 0, 4294967295⟩
def DSP_AUX_CMD_OP : Field := ⟨0x304054, 0x1000, 0x0, 0, 4, 0, .const, .wo, 0, 15⟩
def DSP_AUX_CMD_LEN : Field := ⟨0x304054, 0x1000, 0x0, 4, 4, 0, .const, .wo, 0, 15⟩
def DSP_AUX_CMD_ADDR : Field := ⟨0x304054, 0x1000, 0x0, 8, 20, 0, .const, .wo, 0, 1048575⟩
def DSP_AUX_STAT_BUSY : Field := ⟨0x304058, 0x1000, 0x0, 0, 1, 0, .const, .ro, 0, 1⟩
def DSP_AUX_STAT_LAST_RESULT : Field := ⟨0x304058, 0x1000, 0x0, 16, 4, 0, .const, .ro, 0, 15⟩
def DSP_AUX_D : Field := ⟨0x304060, 0x1000, 0x4, 0, 32, 0, .const, .rw, 0, 4294967295⟩

/-- The registers of Table 7.12 beyond the header. -/
def page304 : List Reg := [
  ⟨0x40, 0x0, 1, none, false, [DSP_OUT_CFG_EN, DSP_OUT_CFG_EDP, DSP_OUT_CFG_MAX_LANES, DSP_OUT_CFG_MAX_RATE, DSP_OUT_CFG_SSC, DSP_OUT_CFG_BPC]⟩,
  ⟨0x44, 0x0, 1, none, false, [DSP_OUT_STAT_STATE, DSP_OUT_STAT_RATE, DSP_OUT_STAT_LANES, DSP_OUT_STAT_CAUSE, DSP_OUT_STAT_HPD, DSP_OUT_STAT_PSR_CAP]⟩,
  ⟨0x48, 0x0, 1, none, false, [DSP_UNDERRUN]⟩,
  ⟨0x4C, 0x0, 1, none, false, [DSP_UNDERRUN_BG]⟩,
  ⟨0x50, 0x0, 1, none, false, [DSP_TRAIN_CNT]⟩,
  ⟨0x54, 0x0, 1, none, false, [DSP_AUX_CMD_OP, DSP_AUX_CMD_LEN, DSP_AUX_CMD_ADDR]⟩,
  ⟨0x58, 0x0, 1, none, false, [DSP_AUX_STAT_BUSY, DSP_AUX_STAT_LAST_RESULT]⟩,
  ⟨0x60, 0x4, 4, none, false, [DSP_AUX_D]⟩]

/-! Table 8.7. -/

def STO_DRAM_BASE : Field := ⟨0x310040, 0x0, 0x0, 25, 7, 60, .const, .rw, 0, 127⟩
def STO_DRAIN : Field := ⟨0x310044, 0x0, 0x0, 0, 14, 100, .const, .rw, 1, 10000⟩
def STO_CMD_TMO : Field := ⟨0x310048, 0x0, 0x0, 0, 16, 2000, .const, .rw, 10, 60000⟩
def STO_DATA_TMO : Field := ⟨0x31004C, 0x0, 0x0, 0, 16, 1000, .const, .rw, 10, 65535⟩
def STO_UNBOUND : Field := ⟨0x310050, 0x0, 0x0, 0, 32, 0, .const, .ctr, 0, 4294967295⟩
def STO_LATE : Field := ⟨0x310054, 0x0, 0x0, 0, 32, 0, .const, .ctr, 0, 4294967295⟩
def STO_DRAM_ERR_CORR : Field := ⟨0x310058, 0x0, 0x0, 0, 16, 0, .const, .ctr, 0, 65535⟩
def STO_DRAM_ERR_UNCORR : Field := ⟨0x310058, 0x0, 0x0, 16, 16, 0, .const, .ctr, 0, 65535⟩

/-- The registers of Table 8.7 beyond the header. -/
def page310 : List Reg := [
  ⟨0x40, 0x0, 1, none, false, [STO_DRAM_BASE]⟩,
  ⟨0x44, 0x0, 1, none, false, [STO_DRAIN]⟩,
  ⟨0x48, 0x0, 1, none, false, [STO_CMD_TMO]⟩,
  ⟨0x4C, 0x0, 1, none, false, [STO_DATA_TMO]⟩,
  ⟨0x50, 0x0, 1, none, false, [STO_UNBOUND]⟩,
  ⟨0x54, 0x0, 1, none, false, [STO_LATE]⟩,
  ⟨0x58, 0x0, 1, none, false, [STO_DRAM_ERR_CORR, STO_DRAM_ERR_UNCORR]⟩]

/-! Table 8.8. -/

def STO_RP_CFG_EN : Field := ⟨0x311040, 0x1000, 0x0, 0, 1, 0, .const, .rw, 0, 1⟩
def STO_RP_CFG_MAX_WIDTH : Field := ⟨0x311040, 0x1000, 0x0, 1, 2, 2, .const, .rw, 0, 2⟩
def STO_RP_CFG_MAX_GEN : Field := ⟨0x311040, 0x1000, 0x0, 4, 2, 3, .const, .rw, 0, 3⟩
def STO_RP_CFG_ASPM_L1 : Field := ⟨0x311040, 0x1000, 0x0, 8, 1, 0, .const, .rw, 0, 1⟩
def STO_RP_CMD_OP : Field := ⟨0x311044, 0x1000, 0x0, 0, 4, 0, .const, .wo, 0, 15⟩
def STO_RP_STAT_STATE : Field := ⟨0x311048, 0x1000, 0x0, 0, 3, 0, .const, .ro, 0, 7⟩
def STO_RP_STAT_CAUSE : Field := ⟨0x311048, 0x1000, 0x0, 4, 4, 0, .const, .ro, 0, 15⟩
def STO_RP_STAT_WIDTH : Field := ⟨0x311048, 0x1000, 0x0, 8, 2, 0, .const, .ro, 0, 3⟩
def STO_RP_STAT_GEN : Field := ⟨0x311048, 0x1000, 0x0, 10, 2, 0, .const, .ro, 0, 3⟩
def STO_RP_STAT_LAST_RESULT : Field := ⟨0x311048, 0x1000, 0x0, 12, 4, 0, .const, .ro, 0, 15⟩
def STO_RP_STAT_QPAIRS : Field := ⟨0x311048, 0x1000, 0x0, 16, 6, 0, .const, .ro, 0, 63⟩
def STO_RP_AER_CORR : Field := ⟨0x31104C, 0x1000, 0x0, 0, 16, 0, .const, .ctr, 0, 65535⟩
def STO_RP_AER_UNCORR : Field := ⟨0x31104C, 0x1000, 0x0, 16, 16, 0, .const, .ctr, 0, 65535⟩
def STO_RP_RESETS : Field := ⟨0x311050, 0x1000, 0x0, 0, 32, 0, .const, .ctr, 0, 4294967295⟩

/-- The registers of Table 8.8 beyond the header. -/
def page311 : List Reg := [
  ⟨0x40, 0x0, 1, none, false, [STO_RP_CFG_EN, STO_RP_CFG_MAX_WIDTH, STO_RP_CFG_MAX_GEN, STO_RP_CFG_ASPM_L1]⟩,
  ⟨0x44, 0x0, 1, none, false, [STO_RP_CMD_OP]⟩,
  ⟨0x48, 0x0, 1, none, false, [STO_RP_STAT_STATE, STO_RP_STAT_CAUSE, STO_RP_STAT_WIDTH, STO_RP_STAT_GEN, STO_RP_STAT_LAST_RESULT, STO_RP_STAT_QPAIRS]⟩,
  ⟨0x4C, 0x0, 1, none, false, [STO_RP_AER_CORR, STO_RP_AER_UNCORR]⟩,
  ⟨0x50, 0x0, 1, none, false, [STO_RP_RESETS]⟩]

/-! Table 8.9. -/

def STO_NS_INDEX : Field := ⟨0x313040, 0x0, 0x0, 0, 6, 0, .const, .rw, 0, 63⟩
def STO_NS_ID : Field := ⟨0x313044, 0x0, 0x400000, 0, 32, 0, .const, .ro, 0, 4294967295⟩
def STO_NS_INFO_VALID : Field := ⟨0x313048, 0x0, 0x400000, 0, 1, 0, .const, .ro, 0, 1⟩
def STO_NS_INFO_USABLE : Field := ⟨0x313048, 0x0, 0x400000, 1, 1, 0, .const, .ro, 0, 1⟩
def STO_NS_INFO_PORT : Field := ⟨0x313048, 0x0, 0x400000, 2, 1, 0, .const, .ro, 0, 1⟩
def STO_NS_INFO_LBA4K : Field := ⟨0x313048, 0x0, 0x400000, 3, 1, 0, .const, .ro, 0, 1⟩
def STO_NS_SIZE : Field := ⟨0x31304C, 0x0, 0x400000, 0, 64, 0, .const, .ro, 0, 18446744073709551615⟩

/-- The registers of Table 8.9 beyond the header. -/
def page313 : List Reg := [
  ⟨0x40, 0x0, 1, none, false, [STO_NS_INDEX]⟩,
  ⟨0x44, 0x0, 1, (some STO_NS_INDEX), false, [STO_NS_ID]⟩,
  ⟨0x48, 0x0, 1, (some STO_NS_INDEX), false, [STO_NS_INFO_VALID, STO_NS_INFO_USABLE, STO_NS_INFO_PORT, STO_NS_INFO_LBA4K]⟩,
  ⟨0x4C, 0x0, 1, (some STO_NS_INDEX), true, [STO_NS_SIZE]⟩]

/-! Table 8.10. -/

def STO_BT_INDEX : Field := ⟨0x314040, 0x0, 0x0, 0, 5, 0, .const, .rw, 0, 31⟩
def STO_BT_CFG_EN : Field := ⟨0x314044, 0x0, 0x400000, 0, 1, 0, .const, .rw, 0, 1⟩
def STO_BT_CFG_WRITE : Field := ⟨0x314044, 0x0, 0x400000, 1, 1, 0, .const, .rw, 0, 1⟩
def STO_BT_CFG_NS : Field := ⟨0x314044, 0x0, 0x400000, 8, 6, 0, .const, .rw, 0, 63⟩
def STO_BT_CFG_OWNER_SP : Field := ⟨0x314044, 0x0, 0x400000, 16, 5, 0, .const, .rw, 0, 23⟩
def STO_BT_TID_REQ : Field := ⟨0x314048, 0x0, 0x400000, 0, 15, 0, .const, .rw, 0, 32767⟩
def STO_BT_TID_REPLY : Field := ⟨0x314048, 0x0, 0x400000, 16, 15, 0, .const, .rw, 0, 32767⟩
def STO_BT_STAT_STATE : Field := ⟨0x31404C, 0x0, 0x400000, 0, 3, 0, .const, .ro, 0, 7⟩
def STO_BT_STAT_RESULT : Field := ⟨0x31404C, 0x0, 0x400000, 16, 4, 0, .const, .ro, 0, 15⟩
def STO_BT_STAT_OUT : Field := ⟨0x31404C, 0x0, 0x400000, 24, 7, 0, .const, .ro, 0, 127⟩
def STO_BT_DONE : Field := ⟨0x314050, 0x0, 0x400000, 0, 32, 0, .const, .ctr, 0, 4294967295⟩
def STO_BT_ERR : Field := ⟨0x314054, 0x0, 0x400000, 0, 32, 0, .const, .ctr, 0, 4294967295⟩
def STO_BT_REFUSED : Field := ⟨0x314058, 0x0, 0x400000, 0, 32, 0, .const, .ctr, 0, 4294967295⟩
def STO_BT_ABORTED : Field := ⟨0x31405C, 0x0, 0x400000, 0, 32, 0, .const, .ctr, 0, 4294967295⟩
def STO_BT_TMO : Field := ⟨0x314060, 0x0, 0x400000, 0, 32, 0, .const, .ctr, 0, 4294967295⟩

/-- The registers of Table 8.10 beyond the header. -/
def page314a : List Reg := [
  ⟨0x40, 0x0, 1, none, false, [STO_BT_INDEX]⟩,
  ⟨0x44, 0x0, 1, (some STO_BT_INDEX), false, [STO_BT_CFG_EN, STO_BT_CFG_WRITE, STO_BT_CFG_NS, STO_BT_CFG_OWNER_SP]⟩,
  ⟨0x48, 0x0, 1, (some STO_BT_INDEX), false, [STO_BT_TID_REQ, STO_BT_TID_REPLY]⟩,
  ⟨0x4C, 0x0, 1, (some STO_BT_INDEX), false, [STO_BT_STAT_STATE, STO_BT_STAT_RESULT, STO_BT_STAT_OUT]⟩,
  ⟨0x50, 0x0, 1, (some STO_BT_INDEX), false, [STO_BT_DONE]⟩,
  ⟨0x54, 0x0, 1, (some STO_BT_INDEX), false, [STO_BT_ERR]⟩,
  ⟨0x58, 0x0, 1, (some STO_BT_INDEX), false, [STO_BT_REFUSED]⟩,
  ⟨0x5C, 0x0, 1, (some STO_BT_INDEX), false, [STO_BT_ABORTED]⟩]
def page314b : List Reg := [
  ⟨0x60, 0x0, 1, (some STO_BT_INDEX), false, [STO_BT_TMO]⟩]
def page314 : List Reg := page314a ++ page314b

/-! Table 9.9. -/

def HBR_CFG_ABORT_DATA : Field := ⟨0x320040, 0x0, 0x0, 0, 1, 0, .const, .rw, 0, 1⟩
def HBR_CFG_RETRY_RD : Field := ⟨0x320040, 0x0, 0x0, 1, 1, 0, .const, .rw, 0, 1⟩
def HBR_CFG_LEGACY : Field := ⟨0x320040, 0x0, 0x0, 2, 1, 0, .const, .rwl, 0, 1⟩
def HBR_CFG_PASS_ATTR : Field := ⟨0x320040, 0x0, 0x0, 3, 1, 1, .const, .rw, 0, 1⟩
def HBR_LINK_CFG_MAX_WIDTH : Field := ⟨0x320044, 0x0, 0x0, 0, 2, 3, .const, .rwl, 0, 3⟩
def HBR_LINK_CFG_MAX_GEN : Field := ⟨0x320044, 0x0, 0x0, 4, 2, 3, .const, .rwl, 0, 3⟩
def HBR_LINK_CFG_ASPM_L1 : Field := ⟨0x320044, 0x0, 0x0, 8, 1, 0, .const, .rwl, 0, 1⟩
def HBR_LINK_STAT_UP : Field := ⟨0x320048, 0x0, 0x0, 0, 1, 0, .const, .ro, 0, 1⟩
def HBR_LINK_STAT_WIDTH : Field := ⟨0x320048, 0x0, 0x0, 4, 2, 0, .const, .ro, 0, 3⟩
def HBR_LINK_STAT_GEN : Field := ⟨0x320048, 0x0, 0x0, 8, 2, 0, .const, .ro, 0, 3⟩
def HBR_LINK_STAT_BME : Field := ⟨0x320048, 0x0, 0x0, 12, 1, 0, .const, .ro, 0, 1⟩
def HBR_LINK_STAT_MPS : Field := ⟨0x320048, 0x0, 0x0, 16, 3, 0, .const, .ro, 0, 7⟩
def HBR_LINK_STAT_MRRS : Field := ⟨0x320048, 0x0, 0x0, 20, 3, 0, .const, .ro, 0, 7⟩
def HBR_RD_TMO : Field := ⟨0x32004C, 0x0, 0x0, 0, 20, 2000, .const, .rw, 10, 1000000⟩
def HBR_DRAIN : Field := ⟨0x320050, 0x0, 0x0, 0, 16, 10000, .const, .rw, 100, 65535⟩
def HBR_SEM_TMO : Field := ⟨0x320054, 0x0, 0x0, 0, 16, 100, .const, .rw, 1, 65535⟩
def HBR_LOCK_TMO : Field := ⟨0x320058, 0x0, 0x0, 0, 16, 1000, .const, .rw, 10, 65535⟩
def HBR_FENCE : Field := ⟨0x32005C, 0x0, 0x0, 0, 6, 0, .const, .wo, 0, 63⟩
def HBR_FENCE_CNT : Field := ⟨0x320060, 0x0, 0x0, 0, 32, 0, .const, .ctr, 0, 4294967295⟩
def HBR_TAGS : Field := ⟨0x320064, 0x0, 0x0, 0, 9, 0, .const, .ro, 0, 511⟩
def HBR_ABT_TMO : Field := ⟨0x320068, 0x0, 0x0, 0, 32, 0, .const, .ctr, 0, 4294967295⟩
def HBR_ABT_DOWN : Field := ⟨0x32006C, 0x0, 0x0, 0, 32, 0, .const, .ctr, 0, 4294967295⟩
def HBR_ABT_PLANE : Field := ⟨0x320070, 0x0, 0x0, 0, 32, 0, .const, .ctr, 0, 4294967295⟩
def HBR_ABT_OTHER : Field := ⟨0x320074, 0x0, 0x0, 0, 32, 0, .const, .ctr, 0, 4294967295⟩
def HBR_STALE : Field := ⟨0x320078, 0x0, 0x0, 0, 32, 0, .const, .ctr, 0, 4294967295⟩
def HBR_BAD_RESP : Field := ⟨0x32007C, 0x0, 0x0, 0, 32, 0, .const, .ctr, 0, 4294967295⟩
def HBR_IN_DISC : Field := ⟨0x320080, 0x0, 0x0, 0, 32, 0, .const, .ctr, 0, 4294967295⟩
def HBR_IN_LAST_TID : Field := ⟨0x320084, 0x0, 0x0, 0, 15, 0, .const, .ro, 0, 32767⟩
def HBR_IN_LAST_REASON : Field := ⟨0x320084, 0x0, 0x0, 16, 4, 0, .const, .ro, 0, 15⟩
def HBR_ATOM_TORN : Field := ⟨0x320088, 0x0, 0x0, 0, 32, 0, .const, .ctr, 0, 4294967295⟩
def HBR_SEM_TMO_CNT : Field := ⟨0x32008C, 0x0, 0x0, 0, 32, 0, .const, .ctr, 0, 4294967295⟩
def HBR_LOCK_TMO_CNT : Field := ⟨0x320090, 0x0, 0x0, 0, 32, 0, .const, .ctr, 0, 4294967295⟩
def HBR_FLR_CNT : Field := ⟨0x320094, 0x0, 0x0, 0, 32, 0, .const, .ctr, 0, 4294967295⟩

/-- The registers of Table 9.9 beyond the header. -/
def page320a : List Reg := [
  ⟨0x40, 0x0, 1, none, false, [HBR_CFG_ABORT_DATA, HBR_CFG_RETRY_RD, HBR_CFG_LEGACY, HBR_CFG_PASS_ATTR]⟩,
  ⟨0x44, 0x0, 1, none, false, [HBR_LINK_CFG_MAX_WIDTH, HBR_LINK_CFG_MAX_GEN, HBR_LINK_CFG_ASPM_L1]⟩,
  ⟨0x48, 0x0, 1, none, false, [HBR_LINK_STAT_UP, HBR_LINK_STAT_WIDTH, HBR_LINK_STAT_GEN, HBR_LINK_STAT_BME, HBR_LINK_STAT_MPS, HBR_LINK_STAT_MRRS]⟩,
  ⟨0x4C, 0x0, 1, none, false, [HBR_RD_TMO]⟩,
  ⟨0x50, 0x0, 1, none, false, [HBR_DRAIN]⟩,
  ⟨0x54, 0x0, 1, none, false, [HBR_SEM_TMO]⟩,
  ⟨0x58, 0x0, 1, none, false, [HBR_LOCK_TMO]⟩,
  ⟨0x5C, 0x0, 1, none, false, [HBR_FENCE]⟩]
def page320b : List Reg := [
  ⟨0x60, 0x0, 1, none, false, [HBR_FENCE_CNT]⟩,
  ⟨0x64, 0x0, 1, none, false, [HBR_TAGS]⟩,
  ⟨0x68, 0x0, 1, none, false, [HBR_ABT_TMO]⟩,
  ⟨0x6C, 0x0, 1, none, false, [HBR_ABT_DOWN]⟩,
  ⟨0x70, 0x0, 1, none, false, [HBR_ABT_PLANE]⟩,
  ⟨0x74, 0x0, 1, none, false, [HBR_ABT_OTHER]⟩,
  ⟨0x78, 0x0, 1, none, false, [HBR_STALE]⟩,
  ⟨0x7C, 0x0, 1, none, false, [HBR_BAD_RESP]⟩]
def page320c : List Reg := [
  ⟨0x80, 0x0, 1, none, false, [HBR_IN_DISC]⟩,
  ⟨0x84, 0x0, 1, none, false, [HBR_IN_LAST_TID, HBR_IN_LAST_REASON]⟩,
  ⟨0x88, 0x0, 1, none, false, [HBR_ATOM_TORN]⟩,
  ⟨0x8C, 0x0, 1, none, false, [HBR_SEM_TMO_CNT]⟩,
  ⟨0x90, 0x0, 1, none, false, [HBR_LOCK_TMO_CNT]⟩,
  ⟨0x94, 0x0, 1, none, false, [HBR_FLR_CNT]⟩]
def page320 : List Reg := page320a ++ page320b ++ page320c

/-! Table 9.10. -/

def HBR_OWIN_INDEX : Field := ⟨0x321040, 0x0, 0x0, 0, 6, 0, .const, .rw, 0, 63⟩
def HBR_OWIN_CFG_EN : Field := ⟨0x321044, 0x0, 0x400000, 0, 1, 0, .const, .rw, 0, 1⟩
def HBR_OWIN_CFG_RD_EN : Field := ⟨0x321044, 0x0, 0x400000, 1, 1, 1, .const, .rw, 0, 1⟩
def HBR_OWIN_CFG_WR_EN : Field := ⟨0x321044, 0x0, 0x400000, 2, 1, 1, .const, .rw, 0, 1⟩
def HBR_OWIN_CFG_NP : Field := ⟨0x321044, 0x0, 0x400000, 3, 1, 0, .const, .rw, 0, 1⟩
def HBR_OWIN_CFG_EMULATE : Field := ⟨0x321044, 0x0, 0x400000, 4, 1, 0, .const, .rw, 0, 1⟩
def HBR_OWIN_CFG_MSG : Field := ⟨0x321044, 0x0, 0x400000, 5, 1, 0, .const, .rw, 0, 1⟩
def HBR_OWIN_CFG_SIZE : Field := ⟨0x321044, 0x0, 0x400000, 8, 5, 30, .const, .rw, 12, 30⟩
def HBR_OWIN_CFG_SEM : Field := ⟨0x321044, 0x0, 0x400000, 16, 6, 0, .const, .rw, 0, 63⟩
def HBR_OWIN_TID_TID : Field := ⟨0x321048, 0x0, 0x400000, 0, 15, 0, .const, .rw, 0, 32767⟩
def HBR_OWIN_TID_REPLY_TID : Field := ⟨0x321048, 0x0, 0x400000, 16, 15, 0, .const, .rw, 0, 32767⟩
def HBR_OWIN_RBASE : Field := ⟨0x32104C, 0x0, 0x400000, 0, 64, 0, .const, .rw, 0, 18446744073709551615⟩
def HBR_OWIN_STAT_STATE : Field := ⟨0x321054, 0x0, 0x400000, 0, 2, 0, .const, .ro, 0, 3⟩
def HBR_OWIN_STAT_TAGS : Field := ⟨0x321054, 0x0, 0x400000, 8, 8, 0, .const, .ro, 0, 255⟩
def HBR_OWIN_STAT_NP_FAIL : Field := ⟨0x321054, 0x0, 0x400000, 16, 16, 0, .const, .ctr, 0, 65535⟩
def HBR_OWIN_MISS : Field := ⟨0x321058, 0x0, 0x0, 0, 32, 0, .const, .ctr, 0, 4294967295⟩

/-- The registers of Table 9.10 beyond the header. -/
def page321 : List Reg := [
  ⟨0x40, 0x0, 1, none, false, [HBR_OWIN_INDEX]⟩,
  ⟨0x44, 0x0, 1, (some HBR_OWIN_INDEX), false, [HBR_OWIN_CFG_EN, HBR_OWIN_CFG_RD_EN, HBR_OWIN_CFG_WR_EN, HBR_OWIN_CFG_NP, HBR_OWIN_CFG_EMULATE, HBR_OWIN_CFG_MSG, HBR_OWIN_CFG_SIZE, HBR_OWIN_CFG_SEM]⟩,
  ⟨0x48, 0x0, 1, (some HBR_OWIN_INDEX), false, [HBR_OWIN_TID_TID, HBR_OWIN_TID_REPLY_TID]⟩,
  ⟨0x4C, 0x0, 1, (some HBR_OWIN_INDEX), true, [HBR_OWIN_RBASE]⟩,
  ⟨0x54, 0x0, 1, (some HBR_OWIN_INDEX), false, [HBR_OWIN_STAT_STATE, HBR_OWIN_STAT_TAGS, HBR_OWIN_STAT_NP_FAIL]⟩,
  ⟨0x58, 0x0, 1, none, false, [HBR_OWIN_MISS]⟩]

/-! Table 9.11. -/

def HBR_IWIN_INDEX : Field := ⟨0x322040, 0x0, 0x0, 0, 5, 0, .const, .rw, 0, 31⟩
def HBR_IWIN_CFG_EN : Field := ⟨0x322044, 0x0, 0x400000, 0, 1, 0, .const, .rw, 0, 1⟩
def HBR_IWIN_CFG_RD_EN : Field := ⟨0x322044, 0x0, 0x400000, 1, 1, 1, .const, .rw, 0, 1⟩
def HBR_IWIN_CFG_WR_EN : Field := ⟨0x322044, 0x0, 0x400000, 2, 1, 1, .const, .rw, 0, 1⟩
def HBR_IWIN_CFG_SIZE : Field := ⟨0x322044, 0x0, 0x400000, 8, 6, 12, .const, .rw, 12, 36⟩
def HBR_IWIN_TID : Field := ⟨0x322048, 0x0, 0x400000, 0, 15, 0, .const, .rw, 0, 32767⟩
def HBR_IWIN_HBASE : Field := ⟨0x32204C, 0x0, 0x400000, 0, 64, 0, .const, .rw, 0, 18446744073709551615⟩
def HBR_IWIN_STAT_STATE : Field := ⟨0x322054, 0x0, 0x400000, 0, 2, 0, .const, .ro, 0, 3⟩
def HBR_IWIN_STAT_REFUSED : Field := ⟨0x322054, 0x0, 0x400000, 16, 16, 0, .const, .ctr, 0, 65535⟩

/-- The registers of Table 9.11 beyond the header. -/
def page322 : List Reg := [
  ⟨0x40, 0x0, 1, none, false, [HBR_IWIN_INDEX]⟩,
  ⟨0x44, 0x0, 1, (some HBR_IWIN_INDEX), false, [HBR_IWIN_CFG_EN, HBR_IWIN_CFG_RD_EN, HBR_IWIN_CFG_WR_EN, HBR_IWIN_CFG_SIZE]⟩,
  ⟨0x48, 0x0, 1, (some HBR_IWIN_INDEX), false, [HBR_IWIN_TID]⟩,
  ⟨0x4C, 0x0, 1, (some HBR_IWIN_INDEX), true, [HBR_IWIN_HBASE]⟩,
  ⟨0x54, 0x0, 1, (some HBR_IWIN_INDEX), false, [HBR_IWIN_STAT_STATE, HBR_IWIN_STAT_REFUSED]⟩]

/-! Table 9.12. -/

def HBR_SEM_GOT : Field := ⟨0x323040, 0x0, 0x4, 0, 1, 0, .const, .rw, 0, 1⟩
def HBR_SEM_HELD : Field := ⟨0x323040, 0x0, 0x4, 1, 1, 0, .const, .rw, 0, 1⟩
def HBR_SEM_EMU : Field := ⟨0x323040, 0x0, 0x4, 2, 1, 0, .const, .rw, 0, 1⟩
def HBR_SEM_PATH : Field := ⟨0x323040, 0x0, 0x4, 4, 3, 0, .const, .rw, 0, 7⟩

/-- The registers of Table 9.12 beyond the header. -/
def page323 : List Reg := [
  ⟨0x40, 0x4, 64, none, false, [HBR_SEM_GOT, HBR_SEM_HELD, HBR_SEM_EMU, HBR_SEM_PATH]⟩]

/-! Table 9.13. -/

def MRT_INDEX_INDEX : Field := ⟨0x328040, 0x0, 0x0, 0, 12, 0, .const, .rw, 0, 4095⟩
def MRT_INDEX_AUTOINC : Field := ⟨0x328040, 0x0, 0x0, 16, 1, 0, .const, .rw, 0, 1⟩
def MRT_DATA : Field := ⟨0x328044, 0x0, 0x4, 0, 32, 0, .const, .rw, 0, 4294967295⟩
def MRT_CMD_OP : Field := ⟨0x32804C, 0x0, 0x0, 0, 4, 0, .const, .wo, 0, 15⟩
def MRT_STAT_BUSY : Field := ⟨0x328050, 0x0, 0x0, 0, 1, 0, .const, .ro, 0, 1⟩
def MRT_STAT_LAST_RESULT : Field := ⟨0x328050, 0x0, 0x0, 16, 4, 0, .const, .ro, 0, 15⟩
def MRT_MISS_CNT : Field := ⟨0x328054, 0x0, 0x0, 0, 32, 0, .const, .ctr, 0, 4294967295⟩
def MRT_MISS_ID_TID : Field := ⟨0x328058, 0x0, 0x0, 0, 15, 0, .const, .ro, 0, 32767⟩
def MRT_MISS_ID_MSGID : Field := ⟨0x328058, 0x0, 0x0, 16, 16, 0, .const, .ro, 0, 65535⟩
def MRT_HOLD_TMO : Field := ⟨0x32805C, 0x0, 0x0, 0, 14, 100, .const, .rw, 1, 10000⟩
def MRT_HOLD_DISC : Field := ⟨0x328060, 0x0, 0x0, 0, 32, 0, .const, .ctr, 0, 4294967295⟩
def MRT_KIND_ERR : Field := ⟨0x328064, 0x0, 0x0, 0, 32, 0, .const, .ctr, 0, 4294967295⟩
def MRT_CAUSE_LOCAL_ID : Field := ⟨0x328068, 0x0, 0x0, 0, 16, 0, .const, .ro, 0, 65535⟩
def MRT_CAUSE_VEC : Field := ⟨0x328068, 0x0, 0x0, 24, 6, 0, .const, .ro, 0, 63⟩
def MRT_CAUSE_VALID : Field := ⟨0x328068, 0x0, 0x0, 31, 1, 0, .const, .ro, 0, 1⟩
def MRT_CAUSE_LOST : Field := ⟨0x32806C, 0x0, 0x0, 0, 32, 0, .const, .ctr, 0, 4294967295⟩
def MRT_USED : Field := ⟨0x328070, 0x0, 0x0, 0, 13, 0, .const, .ro, 0, 8191⟩

/-- The registers of Table 9.13 beyond the header. -/
def page328a : List Reg := [
  ⟨0x40, 0x0, 1, none, false, [MRT_INDEX_INDEX, MRT_INDEX_AUTOINC]⟩,
  ⟨0x44, 0x4, 2, none, false, [MRT_DATA]⟩,
  ⟨0x4C, 0x0, 1, none, false, [MRT_CMD_OP]⟩,
  ⟨0x50, 0x0, 1, none, false, [MRT_STAT_BUSY, MRT_STAT_LAST_RESULT]⟩,
  ⟨0x54, 0x0, 1, none, false, [MRT_MISS_CNT]⟩,
  ⟨0x58, 0x0, 1, none, false, [MRT_MISS_ID_TID, MRT_MISS_ID_MSGID]⟩,
  ⟨0x5C, 0x0, 1, none, false, [MRT_HOLD_TMO]⟩,
  ⟨0x60, 0x0, 1, none, false, [MRT_HOLD_DISC]⟩]
def page328b : List Reg := [
  ⟨0x64, 0x0, 1, none, false, [MRT_KIND_ERR]⟩,
  ⟨0x68, 0x0, 1, none, false, [MRT_CAUSE_LOCAL_ID, MRT_CAUSE_VEC, MRT_CAUSE_VALID]⟩,
  ⟨0x6C, 0x0, 1, none, false, [MRT_CAUSE_LOST]⟩,
  ⟨0x70, 0x0, 1, none, false, [MRT_USED]⟩]
def page328 : List Reg := page328a ++ page328b

/-! Table 10.3. -/

def ETH_DRAIN : Field := ⟨0x340040, 0x0, 0x0, 0, 16, 1000, .const, .rw, 10, 65535⟩
def ETH_WAKE_CFG_KEEP : Field := ⟨0x340044, 0x0, 0x0, 0, 1, 0, .const, .rw, 0, 1⟩
def ETH_WAKE_CFG_PORTS : Field := ⟨0x340044, 0x0, 0x0, 4, 4, 0, .const, .rw, 0, 15⟩
def ETH_WAKE_CFG_FILTERS : Field := ⟨0x340044, 0x0, 0x0, 8, 4, 0, .const, .rw, 0, 15⟩
def ETH_WAKE_DA_LO : Field := ⟨0x340048, 0x0, 0xC, 0, 32, 0, .const, .rw, 0, 4294967295⟩
def ETH_WAKE_DA_HI : Field := ⟨0x34004C, 0x0, 0xC, 0, 16, 0, .const, .rw, 0, 65535⟩
def ETH_WAKE_TYPE : Field := ⟨0x340050, 0x0, 0xC, 0, 16, 0, .const, .rw, 0, 65535⟩
def ETH_WAKE_CNT : Field := ⟨0x340078, 0x0, 0x0, 0, 32, 0, .const, .ctr, 0, 4294967295⟩
def ETH_WAKE_LAST_MAC : Field := ⟨0x34007C, 0x0, 0x0, 0, 2, 0, .const, .ro, 0, 3⟩
def ETH_WAKE_LAST_FILTER : Field := ⟨0x34007C, 0x0, 0x0, 4, 2, 0, .const, .ro, 0, 3⟩
def ETH_UNBOUND : Field := ⟨0x340080, 0x0, 0x0, 0, 32, 0, .const, .ctr, 0, 4294967295⟩
def ETH_TXTS0_SEQ : Field := ⟨0x340084, 0x0, 0x0, 0, 16, 0, .const, .ro, 0, 65535⟩
def ETH_TXTS0_MTYPE : Field := ⟨0x340084, 0x0, 0x0, 16, 4, 0, .const, .ro, 0, 15⟩
def ETH_TXTS0_MAC : Field := ⟨0x340084, 0x0, 0x0, 24, 2, 0, .const, .ro, 0, 3⟩
def ETH_TXTS0_VALID : Field := ⟨0x340084, 0x0, 0x0, 31, 1, 0, .const, .ro, 0, 1⟩
def ETH_TXTS1 : Field := ⟨0x340088, 0x0, 0x0, 0, 32, 0, .const, .ro, 0, 4294967295⟩
def ETH_TXTS2 : Field := ⟨0x34008C, 0x0, 0x0, 0, 30, 0, .const, .ro, 0, 1073741823⟩
def ETH_TXTS3 : Field := ⟨0x340090, 0x0, 0x0, 0, 32, 0, .const, .ro, 0, 4294967295⟩
def ETH_TXTS_LOST : Field := ⟨0x340094, 0x0, 0x0, 0, 32, 0, .const, .ctr, 0, 4294967295⟩

/-- The registers of Table 10.3 beyond the header. -/
def page340a : List Reg := [
  ⟨0x40, 0x0, 1, none, false, [ETH_DRAIN]⟩,
  ⟨0x44, 0x0, 1, none, false, [ETH_WAKE_CFG_KEEP, ETH_WAKE_CFG_PORTS, ETH_WAKE_CFG_FILTERS]⟩,
  ⟨0x48, 0xC, 4, none, false, [ETH_WAKE_DA_LO]⟩,
  ⟨0x4C, 0xC, 4, none, false, [ETH_WAKE_DA_HI]⟩,
  ⟨0x50, 0xC, 4, none, false, [ETH_WAKE_TYPE]⟩,
  ⟨0x78, 0x0, 1, none, false, [ETH_WAKE_CNT]⟩,
  ⟨0x7C, 0x0, 1, none, false, [ETH_WAKE_LAST_MAC, ETH_WAKE_LAST_FILTER]⟩,
  ⟨0x80, 0x0, 1, none, false, [ETH_UNBOUND]⟩]
def page340b : List Reg := [
  ⟨0x84, 0x0, 1, none, false, [ETH_TXTS0_SEQ, ETH_TXTS0_MTYPE, ETH_TXTS0_MAC, ETH_TXTS0_VALID]⟩,
  ⟨0x88, 0x0, 1, none, false, [ETH_TXTS1]⟩,
  ⟨0x8C, 0x0, 1, none, false, [ETH_TXTS2]⟩,
  ⟨0x90, 0x0, 1, none, false, [ETH_TXTS3]⟩,
  ⟨0x94, 0x0, 1, none, false, [ETH_TXTS_LOST]⟩]
def page340 : List Reg := page340a ++ page340b

/-! Table 10.4. -/

def ETH_MAC_CFG_EN : Field := ⟨0x341040, 0x1000, 0x0, 0, 1, 0, .const, .rw, 0, 1⟩
def ETH_MAC_CFG_MODE : Field := ⟨0x341040, 0x1000, 0x0, 1, 2, 3, .const, .rw, 0, 3⟩
def ETH_MAC_CFG_AN_EN : Field := ⟨0x341040, 0x1000, 0x0, 3, 1, 1, .const, .rw, 0, 1⟩
def ETH_MAC_CFG_PAUSE_EN : Field := ⟨0x341040, 0x1000, 0x0, 4, 1, 0, .const, .rw, 0, 1⟩
def ETH_MAC_CFG_MAX_FRAME : Field := ⟨0x341040, 0x1000, 0x0, 16, 14, 9216, .const, .rw, 1518, 9216⟩
def ETH_MAC_DEF_DEF_TID : Field := ⟨0x341044, 0x1000, 0x0, 0, 15, 0, .const, .rw, 0, 32767⟩
def ETH_MAC_STAT_STATE : Field := ⟨0x341048, 0x1000, 0x0, 0, 2, 0, .const, .ro, 0, 3⟩
def ETH_MAC_STAT_MODE : Field := ⟨0x341048, 0x1000, 0x0, 2, 2, 0, .const, .ro, 0, 3⟩
def ETH_MAC_STAT_ALT : Field := ⟨0x341048, 0x1000, 0x0, 4, 1, 0, .const, .ro, 0, 1⟩
def ETH_RX_FRAMES : Field := ⟨0x34104C, 0x1000, 0x0, 0, 64, 0, .const, .ctr, 0, 18446744073709551615⟩
def ETH_TX_FRAMES : Field := ⟨0x341054, 0x1000, 0x0, 0, 64, 0, .const, .ctr, 0, 18446744073709551615⟩
def ETH_RX_FCS : Field := ⟨0x34105C, 0x1000, 0x0, 0, 32, 0, .const, .ctr, 0, 4294967295⟩
def ETH_RX_RUNT : Field := ⟨0x341060, 0x1000, 0x0, 0, 32, 0, .const, .ctr, 0, 4294967295⟩
def ETH_RX_LONG : Field := ⟨0x341064, 0x1000, 0x0, 0, 32, 0, .const, .ctr, 0, 4294967295⟩
def ETH_RX_OVF : Field := ⟨0x341068, 0x1000, 0x0, 0, 32, 0, .const, .ctr, 0, 4294967295⟩
def ETH_CLS_MISS : Field := ⟨0x34106C, 0x1000, 0x0, 0, 32, 0, .const, .ctr, 0, 4294967295⟩
def ETH_CLS_DISC : Field := ⟨0x341070, 0x1000, 0x0, 0, 32, 0, .const, .ctr, 0, 4294967295⟩
def ETH_TX_LINKDOWN : Field := ⟨0x341074, 0x1000, 0x0, 0, 32, 0, .const, .ctr, 0, 4294967295⟩
def ETH_TX_REFUSED : Field := ⟨0x341078, 0x1000, 0x0, 0, 32, 0, .const, .ctr, 0, 4294967295⟩
def ETH_TX_ABORTED : Field := ⟨0x34107C, 0x1000, 0x0, 0, 32, 0, .const, .ctr, 0, 4294967295⟩
def ETH_PAUSE_RX : Field := ⟨0x341080, 0x1000, 0x0, 0, 32, 0, .const, .ctr, 0, 4294967295⟩

/-- The registers of Table 10.4 beyond the header. -/
def page341a : List Reg := [
  ⟨0x40, 0x0, 1, none, false, [ETH_MAC_CFG_EN, ETH_MAC_CFG_MODE, ETH_MAC_CFG_AN_EN, ETH_MAC_CFG_PAUSE_EN, ETH_MAC_CFG_MAX_FRAME]⟩,
  ⟨0x44, 0x0, 1, none, false, [ETH_MAC_DEF_DEF_TID]⟩,
  ⟨0x48, 0x0, 1, none, false, [ETH_MAC_STAT_STATE, ETH_MAC_STAT_MODE, ETH_MAC_STAT_ALT]⟩,
  ⟨0x4C, 0x0, 1, none, true, [ETH_RX_FRAMES]⟩,
  ⟨0x54, 0x0, 1, none, true, [ETH_TX_FRAMES]⟩,
  ⟨0x5C, 0x0, 1, none, false, [ETH_RX_FCS]⟩,
  ⟨0x60, 0x0, 1, none, false, [ETH_RX_RUNT]⟩,
  ⟨0x64, 0x0, 1, none, false, [ETH_RX_LONG]⟩]
def page341b : List Reg := [
  ⟨0x68, 0x0, 1, none, false, [ETH_RX_OVF]⟩,
  ⟨0x6C, 0x0, 1, none, false, [ETH_CLS_MISS]⟩,
  ⟨0x70, 0x0, 1, none, false, [ETH_CLS_DISC]⟩,
  ⟨0x74, 0x0, 1, none, false, [ETH_TX_LINKDOWN]⟩,
  ⟨0x78, 0x0, 1, none, false, [ETH_TX_REFUSED]⟩,
  ⟨0x7C, 0x0, 1, none, false, [ETH_TX_ABORTED]⟩,
  ⟨0x80, 0x0, 1, none, false, [ETH_PAUSE_RX]⟩]
def page341 : List Reg := page341a ++ page341b

/-! Table 10.5. -/

def ETH_CLS_INDEX_INDEX : Field := ⟨0x345040, 0x0, 0x0, 0, 10, 0, .const, .rw, 0, 1023⟩
def ETH_CLS_INDEX_AUTOINC : Field := ⟨0x345040, 0x0, 0x0, 16, 1, 0, .const, .rw, 0, 1⟩
def ETH_CLS_DATA0 : Field := ⟨0x345044, 0x0, 0x0, 0, 32, 0, .const, .rw, 0, 4294967295⟩
def ETH_CLS_DATA1 : Field := ⟨0x345048, 0x0, 0x0, 0, 32, 0, .const, .rw, 0, 4294967295⟩
def ETH_CLS_DATA2 : Field := ⟨0x34504C, 0x0, 0x0, 0, 32, 0, .const, .rw, 0, 4294967295⟩
def ETH_CLS_CMD_OP : Field := ⟨0x345050, 0x0, 0x0, 0, 4, 0, .const, .wo, 0, 15⟩
def ETH_CLS_STAT_BUSY : Field := ⟨0x345054, 0x0, 0x0, 0, 1, 0, .const, .ro, 0, 1⟩
def ETH_CLS_STAT_LAST_RESULT : Field := ⟨0x345054, 0x0, 0x0, 16, 4, 0, .const, .ro, 0, 15⟩

/-- The registers of Table 10.5 beyond the header. -/
def page345 : List Reg := [
  ⟨0x40, 0x0, 1, none, false, [ETH_CLS_INDEX_INDEX, ETH_CLS_INDEX_AUTOINC]⟩,
  ⟨0x44, 0x0, 1, none, false, [ETH_CLS_DATA0]⟩,
  ⟨0x48, 0x0, 1, none, false, [ETH_CLS_DATA1]⟩,
  ⟨0x4C, 0x0, 1, none, false, [ETH_CLS_DATA2]⟩,
  ⟨0x50, 0x0, 1, none, false, [ETH_CLS_CMD_OP]⟩,
  ⟨0x54, 0x0, 1, none, false, [ETH_CLS_STAT_BUSY, ETH_CLS_STAT_LAST_RESULT]⟩]

/-! Table 10.6. -/

def ETH_EGB_INDEX_INDEX : Field := ⟨0x346040, 0x0, 0x0, 0, 6, 0, .const, .rw, 0, 63⟩
def ETH_EGB_INDEX_AUTOINC : Field := ⟨0x346040, 0x0, 0x0, 16, 1, 0, .const, .rw, 0, 1⟩
def ETH_EGB_DATA0 : Field := ⟨0x346044, 0x0, 0x0, 0, 32, 0, .const, .rw, 0, 4294967295⟩
def ETH_EGB_DATA1 : Field := ⟨0x346048, 0x0, 0x0, 0, 32, 0, .const, .rw, 0, 4294967295⟩
def ETH_EGB_CMD_OP : Field := ⟨0x34604C, 0x0, 0x0, 0, 4, 0, .const, .wo, 0, 15⟩
def ETH_EGB_STAT_BUSY : Field := ⟨0x346050, 0x0, 0x0, 0, 1, 0, .const, .ro, 0, 1⟩
def ETH_EGB_STAT_LAST_RESULT : Field := ⟨0x346050, 0x0, 0x0, 16, 4, 0, .const, .ro, 0, 15⟩

/-- The registers of Table 10.6 beyond the header. -/
def page346 : List Reg := [
  ⟨0x40, 0x0, 1, none, false, [ETH_EGB_INDEX_INDEX, ETH_EGB_INDEX_AUTOINC]⟩,
  ⟨0x44, 0x0, 1, none, false, [ETH_EGB_DATA0]⟩,
  ⟨0x48, 0x0, 1, none, false, [ETH_EGB_DATA1]⟩,
  ⟨0x4C, 0x0, 1, none, false, [ETH_EGB_CMD_OP]⟩,
  ⟨0x50, 0x0, 1, none, false, [ETH_EGB_STAT_BUSY, ETH_EGB_STAT_LAST_RESULT]⟩]

/-! Table 11.7. -/

def USB_CFG_EN : Field := ⟨0x350040, 0x0, 0x0, 0, 1, 0, .const, .rw, 0, 1⟩
def USB_CFG_WAKE_EN : Field := ⟨0x350040, 0x0, 0x0, 1, 1, 1, .const, .rw, 0, 1⟩
def USB_CFG_FS_ONLY : Field := ⟨0x350040, 0x0, 0x0, 2, 1, 0, .const, .rw, 0, 1⟩
def USB_CFG_K_MS : Field := ⟨0x350040, 0x0, 0x0, 8, 4, 2, .const, .rw, 1, 15⟩
def USB_STAT_STATE : Field := ⟨0x350044, 0x0, 0x0, 0, 2, 0, .const, .ro, 0, 3⟩
def USB_STAT_SUSPENDED : Field := ⟨0x350044, 0x0, 0x0, 3, 1, 0, .const, .ro, 0, 1⟩
def USB_STAT_HS : Field := ⟨0x350044, 0x0, 0x0, 4, 1, 0, .const, .ro, 0, 1⟩
def USB_STAT_REMOTE_WAKE : Field := ⟨0x350044, 0x0, 0x0, 5, 1, 0, .const, .ro, 0, 1⟩
def USB_STAT_WAKE_PENDING : Field := ⟨0x350044, 0x0, 0x0, 6, 1, 0, .const, .ro, 0, 1⟩
def USB_STAT_ADDRESS : Field := ⟨0x350044, 0x0, 0x0, 8, 7, 0, .const, .ro, 0, 127⟩
def USB_STAT_VBUS : Field := ⟨0x350044, 0x0, 0x0, 15, 1, 0, .const, .ro, 0, 1⟩
def USB_ID0_VENDOR : Field := ⟨0x350048, 0x0, 0x0, 0, 16, 0, .const, .rw, 0, 65535⟩
def USB_ID0_PRODUCT : Field := ⟨0x350048, 0x0, 0x0, 16, 16, 0, .const, .rw, 0, 65535⟩
def USB_ID1_VENDOR : Field := ⟨0x35004C, 0x0, 0x0, 0, 16, 0, .const, .rw, 0, 65535⟩
def USB_ID1_PRODUCT : Field := ⟨0x35004C, 0x0, 0x0, 16, 16, 0, .const, .rw, 0, 65535⟩
def USB_ID2 : Field := ⟨0x350050, 0x0, 0x0, 0, 16, 256, .const, .rw, 0, 65535⟩
def USB_DRAIN : Field := ⟨0x350054, 0x0, 0x0, 0, 16, 10000, .const, .rw, 100, 65535⟩
def USB_BUS_RESET_CNT : Field := ⟨0x350058, 0x0, 0x0, 0, 32, 0, .const, .ctr, 0, 4294967295⟩
def USB_CTL_ABANDON : Field := ⟨0x35005C, 0x0, 0x0, 0, 32, 0, .const, .ctr, 0, 4294967295⟩
def USB_SUSPEND_CNT : Field := ⟨0x350060, 0x0, 0x0, 0, 32, 0, .const, .ctr, 0, 4294967295⟩
def USB_WAKE_CNT : Field := ⟨0x350064, 0x0, 0x0, 0, 32, 0, .const, .ctr, 0, 4294967295⟩
def USB_WAKE_COLL : Field := ⟨0x350068, 0x0, 0x0, 0, 32, 0, .const, .ctr, 0, 4294967295⟩
def USB_UNBOUND : Field := ⟨0x35006C, 0x0, 0x0, 0, 32, 0, .const, .ctr, 0, 4294967295⟩
def USB_BAD_UNIT : Field := ⟨0x350070, 0x0, 0x0, 0, 32, 0, .const, .ctr, 0, 4294967295⟩
def USB_ECC_CNT_CORR : Field := ⟨0x350074, 0x0, 0x0, 0, 16, 0, .const, .ctr, 0, 65535⟩
def USB_ECC_CNT_UNCORR : Field := ⟨0x350074, 0x0, 0x0, 16, 16, 0, .const, .ctr, 0, 65535⟩

/-- The registers of Table 11.7 beyond the header. -/
def page350a : List Reg := [
  ⟨0x40, 0x0, 1, none, false, [USB_CFG_EN, USB_CFG_WAKE_EN, USB_CFG_FS_ONLY, USB_CFG_K_MS]⟩,
  ⟨0x44, 0x0, 1, none, false, [USB_STAT_STATE, USB_STAT_SUSPENDED, USB_STAT_HS, USB_STAT_REMOTE_WAKE, USB_STAT_WAKE_PENDING, USB_STAT_ADDRESS, USB_STAT_VBUS]⟩,
  ⟨0x48, 0x0, 1, none, false, [USB_ID0_VENDOR, USB_ID0_PRODUCT]⟩,
  ⟨0x4C, 0x0, 1, none, false, [USB_ID1_VENDOR, USB_ID1_PRODUCT]⟩,
  ⟨0x50, 0x0, 1, none, false, [USB_ID2]⟩,
  ⟨0x54, 0x0, 1, none, false, [USB_DRAIN]⟩,
  ⟨0x58, 0x0, 1, none, false, [USB_BUS_RESET_CNT]⟩,
  ⟨0x5C, 0x0, 1, none, false, [USB_CTL_ABANDON]⟩]
def page350b : List Reg := [
  ⟨0x60, 0x0, 1, none, false, [USB_SUSPEND_CNT]⟩,
  ⟨0x64, 0x0, 1, none, false, [USB_WAKE_CNT]⟩,
  ⟨0x68, 0x0, 1, none, false, [USB_WAKE_COLL]⟩,
  ⟨0x6C, 0x0, 1, none, false, [USB_UNBOUND]⟩,
  ⟨0x70, 0x0, 1, none, false, [USB_BAD_UNIT]⟩,
  ⟨0x74, 0x0, 1, none, false, [USB_ECC_CNT_CORR, USB_ECC_CNT_UNCORR]⟩]
def page350 : List Reg := page350a ++ page350b

/-! Table 11.8. -/

def USB_EP_INDEX : Field := ⟨0x351040, 0x0, 0x0, 0, 5, 1, .const, .rw, 0, 31⟩
def USB_EP_CFG_EN : Field := ⟨0x351044, 0x0, 0x400000, 0, 1, 0, .const, .rw, 0, 1⟩
def USB_EP_CFG_WAKE : Field := ⟨0x351044, 0x0, 0x400000, 1, 1, 1, .const, .rw, 0, 1⟩
def USB_EP_TID_TID : Field := ⟨0x351048, 0x0, 0x400000, 0, 15, 0, .const, .rw, 0, 32767⟩
def USB_EP_TID_NTID : Field := ⟨0x351048, 0x0, 0x400000, 16, 15, 0, .const, .rw, 0, 32767⟩
def USB_EP_STAT_STATE : Field := ⟨0x35104C, 0x0, 0x400000, 0, 2, 0, .const, .ro, 0, 3⟩
def USB_EP_STAT_FULL : Field := ⟨0x35104C, 0x0, 0x400000, 2, 1, 0, .const, .ro, 0, 1⟩
def USB_EP_STAT_HALTED : Field := ⟨0x35104C, 0x0, 0x400000, 3, 1, 0, .const, .ro, 0, 1⟩
def USB_EP_STAT_TOGGLE : Field := ⟨0x35104C, 0x0, 0x400000, 4, 1, 0, .const, .ro, 0, 1⟩
def USB_EP_STAT_RESULT : Field := ⟨0x35104C, 0x0, 0x400000, 8, 4, 0, .const, .ro, 0, 15⟩
def USB_EP_STAT_BYTES : Field := ⟨0x35104C, 0x0, 0x400000, 16, 10, 0, .const, .ro, 0, 1023⟩
def USB_EP_PKTS : Field := ⟨0x351050, 0x0, 0x400000, 0, 32, 0, .const, .ctr, 0, 4294967295⟩
def USB_EP_FLUSHED : Field := ⟨0x351054, 0x0, 0x400000, 0, 32, 0, .const, .ctr, 0, 4294967295⟩
def USB_EP_REFUSED : Field := ⟨0x351058, 0x0, 0x400000, 0, 32, 0, .const, .ctr, 0, 4294967295⟩
def USB_EP_ABORTED : Field := ⟨0x35105C, 0x0, 0x400000, 0, 32, 0, .const, .ctr, 0, 4294967295⟩
def USB_EP_RESETS : Field := ⟨0x351060, 0x0, 0x400000, 0, 32, 0, .const, .ctr, 0, 4294967295⟩

/-- The registers of Table 11.8 beyond the header. -/
def page351a : List Reg := [
  ⟨0x40, 0x0, 1, none, false, [USB_EP_INDEX]⟩,
  ⟨0x44, 0x0, 1, (some USB_EP_INDEX), false, [USB_EP_CFG_EN, USB_EP_CFG_WAKE]⟩,
  ⟨0x48, 0x0, 1, (some USB_EP_INDEX), false, [USB_EP_TID_TID, USB_EP_TID_NTID]⟩,
  ⟨0x4C, 0x0, 1, (some USB_EP_INDEX), false, [USB_EP_STAT_STATE, USB_EP_STAT_FULL, USB_EP_STAT_HALTED, USB_EP_STAT_TOGGLE, USB_EP_STAT_RESULT, USB_EP_STAT_BYTES]⟩,
  ⟨0x50, 0x0, 1, (some USB_EP_INDEX), false, [USB_EP_PKTS]⟩,
  ⟨0x54, 0x0, 1, (some USB_EP_INDEX), false, [USB_EP_FLUSHED]⟩,
  ⟨0x58, 0x0, 1, (some USB_EP_INDEX), false, [USB_EP_REFUSED]⟩,
  ⟨0x5C, 0x0, 1, (some USB_EP_INDEX), false, [USB_EP_ABORTED]⟩]
def page351b : List Reg := [
  ⟨0x60, 0x0, 1, (some USB_EP_INDEX), false, [USB_EP_RESETS]⟩]
def page351 : List Reg := page351a ++ page351b

/-! Table 11.9. -/

def USB_HUB_CFG_PWR_SW : Field := ⟨0x352040, 0x0, 0x0, 0, 1, 1, .const, .rwl, 0, 1⟩
def USB_HUB_CFG_PORT_EN : Field := ⟨0x352040, 0x0, 0x0, 4, 4, 15, .const, .rwl, 0, 15⟩
def USB_HUB_CFG_POWER_ON2GOOD : Field := ⟨0x352040, 0x0, 0x0, 8, 8, 50, .const, .rwl, 1, 255⟩
def USB_PORT_STAT_STATE : Field := ⟨0x352044, 0x0, 0x4, 0, 3, 0, .const, .ro, 0, 7⟩
def USB_PORT_STAT_SPEED : Field := ⟨0x352044, 0x0, 0x4, 4, 2, 0, .const, .ro, 0, 3⟩
def USB_PORT_STAT_OC : Field := ⟨0x352044, 0x0, 0x4, 6, 1, 0, .const, .ro, 0, 1⟩
def USB_PORT_STAT_POWER : Field := ⟨0x352044, 0x0, 0x4, 7, 1, 0, .const, .ro, 0, 1⟩
def USB_OC_CNT : Field := ⟨0x352054, 0x0, 0x4, 0, 32, 0, .const, .ctr, 0, 4294967295⟩

/-- The registers of Table 11.9 beyond the header. -/
def page352 : List Reg := [
  ⟨0x40, 0x0, 1, none, false, [USB_HUB_CFG_PWR_SW, USB_HUB_CFG_PORT_EN, USB_HUB_CFG_POWER_ON2GOOD]⟩,
  ⟨0x44, 0x4, 4, none, false, [USB_PORT_STAT_STATE, USB_PORT_STAT_SPEED, USB_PORT_STAT_OC, USB_PORT_STAT_POWER]⟩,
  ⟨0x54, 0x4, 4, none, false, [USB_OC_CNT]⟩]

/-! Table 11.10. -/

def USB_DESC_INDEX_WORD : Field := ⟨0x353040, 0x0, 0x0, 2, 8, 0, .const, .rw, 0, 191⟩
def USB_DESC_INDEX_AUTOINC : Field := ⟨0x353040, 0x0, 0x0, 16, 1, 0, .const, .rw, 0, 1⟩
def USB_DESC_DATA : Field := ⟨0x353044, 0x0, 0x400000, 0, 32, 0, .const, .rw, 0, 4294967295⟩

/-- The registers of Table 11.10 beyond the header. -/
def page353 : List Reg := [
  ⟨0x40, 0x0, 1, none, false, [USB_DESC_INDEX_WORD, USB_DESC_INDEX_AUTOINC]⟩,
  ⟨0x44, 0x0, 1, (some USB_DESC_INDEX_WORD), false, [USB_DESC_DATA]⟩]

end Sys2Proof.Machine.R
end

