-- ==== Sys2Proof/Machine/RegsControl.lean ====
section
/-! DEFINITION. The register fields of the register pages of chapters 12 to 18 of spec/ (management, engines, keys, power die, power, resets, page header): one descriptor per field (byte address of instance 0, bytes between instances, place, width, reset value, access type, limits), written from the register tables named at each page, and the list of registers of each page. -/

namespace Sys2Proof.Machine.R

/-! Table 12.9. -/

def MGT_CFG_AUTO_RESTART : Field := ⟨0x10040, 0x0, 0x0, 0, 1, 1, .const, .rw, 0, 1⟩
def MGT_CFG_B_EN : Field := ⟨0x10040, 0x0, 0x0, 1, 1, 1, .const, .rw, 0, 1⟩
def MGT_CFG_RESTART_MAX : Field := ⟨0x10040, 0x0, 0x0, 4, 4, 3, .const, .rw, 0, 15⟩
def MGT_CMD_OP : Field := ⟨0x10044, 0x0, 0x0, 0, 4, 0, .const, .wo, 0, 15⟩
def MGT_STAT_LAST_RESULT : Field := ⟨0x10048, 0x0, 0x0, 16, 4, 0, .const, .ro, 0, 15⟩
def MGT_STAT_B_FAULT : Field := ⟨0x10048, 0x0, 0x0, 20, 1, 0, .const, .ro, 0, 1⟩
def MGT_BOOT_STAT_STAGE : Field := ⟨0x1004C, 0x0, 0x0, 0, 4, 0, .const, .ro, 0, 15⟩
def MGT_BOOT_STAT_DIRCOPY : Field := ⟨0x1004C, 0x0, 0x0, 4, 1, 0, .const, .ro, 0, 1⟩
def MGT_BOOT_STAT_RESSLOT : Field := ⟨0x1004C, 0x0, 0x0, 5, 1, 0, .const, .ro, 0, 1⟩
def MGT_BOOT_STAT_FALLBACK : Field := ⟨0x1004C, 0x0, 0x0, 6, 1, 0, .const, .ro, 0, 1⟩
def MGT_BOOT_STAT_CAUSE : Field := ⟨0x1004C, 0x0, 0x0, 8, 4, 0, .const, .ro, 0, 15⟩
def MGT_FLASH_CFG_MHZ : Field := ⟨0x10050, 0x0, 0x0, 0, 8, 25, .const, .rw, 25, 133⟩
def MGT_FLASH_CFG_ADDR4 : Field := ⟨0x10050, 0x0, 0x0, 8, 1, 0, .const, .rw, 0, 1⟩
def MGT_FLASH_ADDR : Field := ⟨0x10054, 0x0, 0x0, 0, 32, 0, .const, .rw, 0, 4294967295⟩
def MGT_FLASH_CMD_OP : Field := ⟨0x10058, 0x0, 0x0, 0, 4, 0, .const, .wo, 0, 15⟩
def MGT_FLASH_STAT_BUSY : Field := ⟨0x1005C, 0x0, 0x0, 0, 1, 0, .const, .ro, 0, 1⟩
def MGT_FLASH_STAT_LAST_RESULT : Field := ⟨0x1005C, 0x0, 0x0, 16, 4, 0, .const, .ro, 0, 15⟩
def MGT_RES_VER : Field := ⟨0x10060, 0x0, 0x0, 0, 32, 0, .const, .ro, 0, 4294967295⟩
def MGT_B_VER : Field := ⟨0x10064, 0x0, 0x0, 0, 32, 0, .const, .ro, 0, 4294967295⟩
def MGT_MBOX_FILL : Field := ⟨0x10068, 0x0, 0x0, 0, 7, 0, .const, .ro, 0, 127⟩
def MGT_MBOX_LOST : Field := ⟨0x1006C, 0x0, 0x0, 0, 32, 0, .const, .ctr, 0, 4294967295⟩
def MGT_FLASH_BUF : Field := ⟨0x10100, 0x0, 0x4, 0, 32, 0, .const, .rw, 0, 4294967295⟩

/-- The registers of Table 12.9 beyond the header. -/
def page010a : List Reg := [
  ⟨0x40, 0x0, 1, none, false, [MGT_CFG_AUTO_RESTART, MGT_CFG_B_EN, MGT_CFG_RESTART_MAX]⟩,
  ⟨0x44, 0x0, 1, none, false, [MGT_CMD_OP]⟩,
  ⟨0x48, 0x0, 1, none, false, [MGT_STAT_LAST_RESULT, MGT_STAT_B_FAULT]⟩,
  ⟨0x4C, 0x0, 1, none, false, [MGT_BOOT_STAT_STAGE, MGT_BOOT_STAT_DIRCOPY, MGT_BOOT_STAT_RESSLOT, MGT_BOOT_STAT_FALLBACK, MGT_BOOT_STAT_CAUSE]⟩,
  ⟨0x50, 0x0, 1, none, false, [MGT_FLASH_CFG_MHZ, MGT_FLASH_CFG_ADDR4]⟩,
  ⟨0x54, 0x0, 1, none, false, [MGT_FLASH_ADDR]⟩,
  ⟨0x58, 0x0, 1, none, false, [MGT_FLASH_CMD_OP]⟩,
  ⟨0x5C, 0x0, 1, none, false, [MGT_FLASH_STAT_BUSY, MGT_FLASH_STAT_LAST_RESULT]⟩]
def page010b : List Reg := [
  ⟨0x60, 0x0, 1, none, false, [MGT_RES_VER]⟩,
  ⟨0x64, 0x0, 1, none, false, [MGT_B_VER]⟩,
  ⟨0x68, 0x0, 1, none, false, [MGT_MBOX_FILL]⟩,
  ⟨0x6C, 0x0, 1, none, false, [MGT_MBOX_LOST]⟩,
  ⟨0x100, 0x4, 64, none, false, [MGT_FLASH_BUF]⟩]
def page010 : List Reg := page010a ++ page010b

/-! Table 12.10. -/

def MGT_WDT_CFG_WIN_MAX : Field := ⟨0x11040, 0x1000, 0x0, 0, 16, 1000, .const, .rw, 10, 65535⟩
def MGT_WDT_CFG_WIN_MIN : Field := ⟨0x11040, 0x1000, 0x0, 16, 16, 0, .const, .rw, 0, 65535⟩
def MGT_WDT_KICK : Field := ⟨0x11044, 0x1000, 0x0, 0, 32, 0, .const, .wo, 0, 4294967295⟩
def MGT_HALT_REC_CAUSE : Field := ⟨0x11048, 0x1000, 0x0, 0, 4, 0, .const, .ro, 0, 15⟩
def MGT_HALT_PC0 : Field := ⟨0x1104C, 0x1000, 0x0, 0, 32, 0, .const, .ro, 0, 4294967295⟩
def MGT_HALT_PC1 : Field := ⟨0x11050, 0x1000, 0x0, 0, 32, 0, .const, .ro, 0, 4294967295⟩
def MGT_HALT_CNT : Field := ⟨0x11054, 0x1000, 0x0, 0, 32, 0, .const, .ctr, 0, 4294967295⟩
def MGT_ECC_CNT_CORR : Field := ⟨0x11058, 0x1000, 0x0, 0, 16, 0, .const, .ctr, 0, 65535⟩
def MGT_ECC_CNT_UNCORR : Field := ⟨0x11058, 0x1000, 0x0, 16, 16, 0, .const, .ctr, 0, 65535⟩
def MGT_RESTARTS : Field := ⟨0x1105C, 0x1000, 0x0, 0, 4, 0, .const, .ro, 0, 15⟩

/-- The registers of Table 12.10 beyond the header. -/
def page011 : List Reg := [
  ⟨0x40, 0x0, 1, none, false, [MGT_WDT_CFG_WIN_MAX, MGT_WDT_CFG_WIN_MIN]⟩,
  ⟨0x44, 0x0, 1, none, false, [MGT_WDT_KICK]⟩,
  ⟨0x48, 0x0, 1, none, false, [MGT_HALT_REC_CAUSE]⟩,
  ⟨0x4C, 0x0, 1, none, false, [MGT_HALT_PC0]⟩,
  ⟨0x50, 0x0, 1, none, false, [MGT_HALT_PC1]⟩,
  ⟨0x54, 0x0, 1, none, false, [MGT_HALT_CNT]⟩,
  ⟨0x58, 0x0, 1, none, false, [MGT_ECC_CNT_CORR, MGT_ECC_CNT_UNCORR]⟩,
  ⟨0x5C, 0x0, 1, none, false, [MGT_RESTARTS]⟩]

/-! Table 12.11. -/

def MGT_EVC_CTL_FREEZE : Field := ⟨0x14040, 0x0, 0x0, 0, 1, 0, .const, .rw, 0, 1⟩
def MGT_EVC_CLR_CTR : Field := ⟨0x14044, 0x0, 0x0, 0, 6, 0, .const, .wo, 0, 63⟩
def MGT_EVC_CLR_ALL : Field := ⟨0x14044, 0x0, 0x0, 31, 1, 0, .const, .wo, 0, 1⟩
def MGT_EVC_OVF : Field := ⟨0x14048, 0x0, 0x4, 0, 32, 0, .const, .w1c, 0, 4294967295⟩
def MGT_EVC_SEL_EVENT : Field := ⟨0x14100, 0x0, 0x10, 0, 10, 0, .const, .rw, 0, 1023⟩
def MGT_EVC_SEL_EN : Field := ⟨0x14100, 0x0, 0x10, 16, 1, 0, .const, .rw, 0, 1⟩
def MGT_EVC : Field := ⟨0x14104, 0x0, 0x10, 0, 48, 0, .const, .ctr, 0, 281474976710655⟩

/-- The registers of Table 12.11 beyond the header. -/
def page014 : List Reg := [
  ⟨0x40, 0x0, 1, none, false, [MGT_EVC_CTL_FREEZE]⟩,
  ⟨0x44, 0x0, 1, none, false, [MGT_EVC_CLR_CTR, MGT_EVC_CLR_ALL]⟩,
  ⟨0x48, 0x4, 2, none, false, [MGT_EVC_OVF]⟩,
  ⟨0x100, 0x10, 64, none, false, [MGT_EVC_SEL_EVENT, MGT_EVC_SEL_EN]⟩,
  ⟨0x104, 0x10, 64, none, true, [MGT_EVC]⟩]

/-! Table 12.12. -/

def ENG_CACHE_BASE : Field := ⟨0x360040, 0x0, 0x0, 24, 8, 122, .const, .rw, 0, 255⟩
def ENG_CACHE_CMD_OP : Field := ⟨0x360044, 0x0, 0x0, 0, 4, 0, .const, .wo, 0, 15⟩
def ENG_CACHE_CMD_KIND : Field := ⟨0x360044, 0x0, 0x0, 8, 8, 0, .const, .wo, 0, 255⟩
def ENG_CACHE_CMD_SLOT : Field := ⟨0x360044, 0x0, 0x0, 16, 1, 0, .const, .wo, 0, 1⟩
def ENG_CACHE_STAT_BUSY : Field := ⟨0x360048, 0x0, 0x0, 0, 1, 0, .const, .ro, 0, 1⟩
def ENG_CACHE_STAT_LAST_RESULT : Field := ⟨0x360048, 0x0, 0x0, 16, 4, 0, .const, .ro, 0, 15⟩
def ENG_CKPT_MAX : Field := ⟨0x36004C, 0x0, 0x0, 0, 17, 1000, .const, .rw, 10, 100000⟩
def ENG_DRAIN : Field := ⟨0x360050, 0x0, 0x0, 0, 16, 10000, .const, .rw, 100, 65535⟩
def ENG_TAKEOVER_MAX : Field := ⟨0x360054, 0x0, 0x0, 0, 32, 0, .const, .ctr, 0, 4294967295⟩
def ENG_TAKEOVER_CNT : Field := ⟨0x360058, 0x0, 0x0, 0, 32, 0, .const, .ctr, 0, 4294967295⟩

/-- The registers of Table 12.12 beyond the header. -/
def page360 : List Reg := [
  ⟨0x40, 0x0, 1, none, false, [ENG_CACHE_BASE]⟩,
  ⟨0x44, 0x0, 1, none, false, [ENG_CACHE_CMD_OP, ENG_CACHE_CMD_KIND, ENG_CACHE_CMD_SLOT]⟩,
  ⟨0x48, 0x0, 1, none, false, [ENG_CACHE_STAT_BUSY, ENG_CACHE_STAT_LAST_RESULT]⟩,
  ⟨0x4C, 0x0, 1, none, false, [ENG_CKPT_MAX]⟩,
  ⟨0x50, 0x0, 1, none, false, [ENG_DRAIN]⟩,
  ⟨0x54, 0x0, 1, none, false, [ENG_TAKEOVER_MAX]⟩,
  ⟨0x58, 0x0, 1, none, false, [ENG_TAKEOVER_CNT]⟩]

/-! Table 12.13. -/

def ENG_BIND_INDEX : Field := ⟨0x361040, 0x1000, 0x0, 0, 8, 0, .const, .rw, 0, 255⟩
def ENG_BIND_DATA_TID : Field := ⟨0x361044, 0x1000, 0x0, 0, 15, 0, .const, .rw, 0, 32767⟩
def ENG_BIND_DATA_VALID : Field := ⟨0x361044, 0x1000, 0x0, 15, 1, 0, .const, .rw, 0, 1⟩
def ENG_BIND_DATA_ENGINE : Field := ⟨0x361044, 0x1000, 0x0, 16, 3, 0, .const, .rw, 0, 7⟩
def ENG_BIND_DATA_DIR : Field := ⟨0x361044, 0x1000, 0x0, 20, 1, 0, .const, .rw, 0, 1⟩
def ENG_BIND_CMD_OP : Field := ⟨0x361048, 0x1000, 0x0, 0, 4, 0, .const, .wo, 0, 15⟩
def ENG_BIND_STAT_BUSY : Field := ⟨0x36104C, 0x1000, 0x0, 0, 1, 0, .const, .ro, 0, 1⟩
def ENG_BIND_STAT_LAST_RESULT : Field := ⟨0x36104C, 0x1000, 0x0, 16, 4, 0, .const, .ro, 0, 15⟩
def ENG_SPARE_STAT_SPARES : Field := ⟨0x361050, 0x1000, 0x0, 0, 8, 0, .const, .ro, 0, 255⟩
def ENG_SPARE_STAT_COVER : Field := ⟨0x361050, 0x1000, 0x0, 8, 8, 0, .const, .ro, 0, 255⟩
def ENG_UNBOUND : Field := ⟨0x361054, 0x1000, 0x0, 0, 32, 0, .const, .ctr, 0, 4294967295⟩

/-- The registers of Table 12.13 beyond the header. -/
def page361 : List Reg := [
  ⟨0x40, 0x0, 1, none, false, [ENG_BIND_INDEX]⟩,
  ⟨0x44, 0x0, 1, none, false, [ENG_BIND_DATA_TID, ENG_BIND_DATA_VALID, ENG_BIND_DATA_ENGINE, ENG_BIND_DATA_DIR]⟩,
  ⟨0x48, 0x0, 1, none, false, [ENG_BIND_CMD_OP]⟩,
  ⟨0x4C, 0x0, 1, none, false, [ENG_BIND_STAT_BUSY, ENG_BIND_STAT_LAST_RESULT]⟩,
  ⟨0x50, 0x0, 1, none, false, [ENG_SPARE_STAT_SPARES, ENG_SPARE_STAT_COVER]⟩,
  ⟨0x54, 0x0, 1, none, false, [ENG_UNBOUND]⟩]

/-! Table 12.14. -/

def ENG_CFG_EN : Field := ⟨0x370040, 0x1000, 0x0, 0, 1, 0, .const, .rw, 0, 1⟩
def ENG_CFG_ROLE : Field := ⟨0x370040, 0x1000, 0x0, 1, 2, 0, .const, .rw, 0, 3⟩
def ENG_CFG_KIND : Field := ⟨0x370040, 0x1000, 0x0, 8, 8, 0, .const, .rw, 0, 255⟩
def ENG_CFG_SLOT : Field := ⟨0x370040, 0x1000, 0x0, 16, 1, 0, .const, .rw, 0, 1⟩
def ENG_CFG_AUTO_RESPARE : Field := ⟨0x370040, 0x1000, 0x0, 17, 1, 0, .const, .rw, 0, 1⟩
def ENG_CMD_OP : Field := ⟨0x370044, 0x1000, 0x0, 0, 4, 0, .const, .wo, 0, 15⟩
def ENG_HEALTH_STATE : Field := ⟨0x370048, 0x1000, 0x0, 0, 3, 0, .const, .ro, 0, 7⟩
def ENG_HEALTH_LOGICAL : Field := ⟨0x370048, 0x1000, 0x0, 4, 4, 0, .const, .ro, 0, 15⟩
def ENG_HEALTH_FAULT : Field := ⟨0x370048, 0x1000, 0x0, 8, 4, 0, .const, .ro, 0, 15⟩
def ENG_HEALTH_CKPT_STALE : Field := ⟨0x370048, 0x1000, 0x0, 12, 1, 0, .const, .ro, 0, 1⟩
def ENG_HEALTH_COVERED : Field := ⟨0x370048, 0x1000, 0x0, 13, 1, 0, .const, .ro, 0, 1⟩
def ENG_HEALTH_RESULT : Field := ⟨0x370048, 0x1000, 0x0, 16, 4, 0, .const, .ro, 0, 15⟩
def ENG_VER : Field := ⟨0x37004C, 0x1000, 0x0, 0, 32, 0, .const, .ro, 0, 4294967295⟩
def ENG_WDT : Field := ⟨0x370050, 0x1000, 0x0, 0, 10, 8, .const, .rw, 2, 1000⟩
def ENG_CKPT_AGE : Field := ⟨0x370054, 0x1000, 0x0, 0, 32, 0, .const, .ro, 0, 4294967295⟩
def ENG_CMDQ_PUSH : Field := ⟨0x370058, 0x1000, 0x0, 0, 32, 0, .const, .wo, 0, 4294967295⟩
def ENG_CMDQ_STAT_CMD : Field := ⟨0x37005C, 0x1000, 0x0, 0, 5, 0, .const, .ro, 0, 31⟩
def ENG_CMDQ_STAT_RSP : Field := ⟨0x37005C, 0x1000, 0x0, 8, 5, 0, .const, .ro, 0, 31⟩
def ENG_CMDQ_STAT_LAST_RESULT : Field := ⟨0x37005C, 0x1000, 0x0, 16, 4, 0, .const, .ro, 0, 15⟩
def ENG_CMDQ_W : Field := ⟨0x370060, 0x1000, 0x4, 0, 32, 0, .const, .rw, 0, 4294967295⟩
def ENG_RSP_W : Field := ⟨0x370080, 0x1000, 0x4, 0, 32, 0, .const, .ro, 0, 4294967295⟩
def ENG_SEND_ERR : Field := ⟨0x3700A0, 0x1000, 0x0, 0, 32, 0, .const, .ctr, 0, 4294967295⟩
def ENG_REFUSED : Field := ⟨0x3700A4, 0x1000, 0x0, 0, 32, 0, .const, .ctr, 0, 4294967295⟩
def ENG_ABORTED : Field := ⟨0x3700A8, 0x1000, 0x0, 0, 32, 0, .const, .ctr, 0, 4294967295⟩
def ENG_FAULTS : Field := ⟨0x3700AC, 0x1000, 0x0, 0, 32, 0, .const, .ctr, 0, 4294967295⟩
def ENG_ECC_CNT_CORR : Field := ⟨0x3700B0, 0x1000, 0x0, 0, 16, 0, .const, .ctr, 0, 65535⟩
def ENG_ECC_CNT_UNCORR : Field := ⟨0x3700B0, 0x1000, 0x0, 16, 16, 0, .const, .ctr, 0, 65535⟩

/-- The registers of Table 12.14 beyond the header. -/
def page370a : List Reg := [
  ⟨0x40, 0x0, 1, none, false, [ENG_CFG_EN, ENG_CFG_ROLE, ENG_CFG_KIND, ENG_CFG_SLOT, ENG_CFG_AUTO_RESPARE]⟩,
  ⟨0x44, 0x0, 1, none, false, [ENG_CMD_OP]⟩,
  ⟨0x48, 0x0, 1, none, false, [ENG_HEALTH_STATE, ENG_HEALTH_LOGICAL, ENG_HEALTH_FAULT, ENG_HEALTH_CKPT_STALE, ENG_HEALTH_COVERED, ENG_HEALTH_RESULT]⟩,
  ⟨0x4C, 0x0, 1, none, false, [ENG_VER]⟩,
  ⟨0x50, 0x0, 1, none, false, [ENG_WDT]⟩,
  ⟨0x54, 0x0, 1, none, false, [ENG_CKPT_AGE]⟩,
  ⟨0x58, 0x0, 1, none, false, [ENG_CMDQ_PUSH]⟩,
  ⟨0x5C, 0x0, 1, none, false, [ENG_CMDQ_STAT_CMD, ENG_CMDQ_STAT_RSP, ENG_CMDQ_STAT_LAST_RESULT]⟩]
def page370b : List Reg := [
  ⟨0x60, 0x4, 8, none, false, [ENG_CMDQ_W]⟩,
  ⟨0x80, 0x4, 8, none, false, [ENG_RSP_W]⟩,
  ⟨0xA0, 0x0, 1, none, false, [ENG_SEND_ERR]⟩,
  ⟨0xA4, 0x0, 1, none, false, [ENG_REFUSED]⟩,
  ⟨0xA8, 0x0, 1, none, false, [ENG_ABORTED]⟩,
  ⟨0xAC, 0x0, 1, none, false, [ENG_FAULTS]⟩,
  ⟨0xB0, 0x0, 1, none, false, [ENG_ECC_CNT_CORR, ENG_ECC_CNT_UNCORR]⟩]
def page370 : List Reg := page370a ++ page370b

/-! Table 13.12. -/

def KEY_STAT_ROOT : Field := ⟨0x20040, 0x0, 0x0, 0, 2, 0, .const, .ro, 0, 3⟩
def KEY_STAT_DEBUG : Field := ⟨0x20040, 0x0, 0x0, 2, 1, 0, .const, .ro, 0, 1⟩
def KEY_STAT_TEST_ROOT : Field := ⟨0x20040, 0x0, 0x0, 3, 1, 0, .const, .ro, 0, 1⟩
def KEY_STAT_BUSY : Field := ⟨0x20040, 0x0, 0x0, 4, 1, 0, .const, .ro, 0, 1⟩
def KEY_STAT_LIFECYCLE : Field := ⟨0x20040, 0x0, 0x0, 5, 1, 1, .const, .ro, 0, 1⟩
def KEY_STAT_LAST_RESULT : Field := ⟨0x20040, 0x0, 0x0, 16, 4, 0, .const, .ro, 0, 15⟩
def KEY_CMD_OP : Field := ⟨0x20044, 0x0, 0x0, 0, 4, 0, .const, .wo, 0, 15⟩
def KEY_CMD_SLOT : Field := ⟨0x20044, 0x0, 0x0, 8, 6, 0, .const, .wo, 0, 63⟩
def KEY_CMD_TYPE : Field := ⟨0x20044, 0x0, 0x0, 16, 3, 0, .const, .wo, 0, 7⟩
def KEY_CMD_USAGE : Field := ⟨0x20044, 0x0, 0x0, 24, 5, 0, .const, .wo, 0, 31⟩
def KEY_EPOCH : Field := ⟨0x20048, 0x0, 0x0, 0, 32, 0, .const, .ro, 0, 4294967295⟩
def KEY_SLOT_SEL : Field := ⟨0x2004C, 0x0, 0x0, 0, 6, 0, .const, .rw, 0, 63⟩
def KEY_SLOT_STAT_STATE : Field := ⟨0x20050, 0x0, 0x400000, 0, 2, 0, .const, .ro, 0, 3⟩
def KEY_SLOT_STAT_TYPE : Field := ⟨0x20050, 0x0, 0x400000, 4, 3, 0, .const, .ro, 0, 7⟩
def KEY_SLOT_STAT_USAGE : Field := ⟨0x20050, 0x0, 0x400000, 8, 5, 0, .const, .ro, 0, 31⟩
def KEY_SLOT_STAT_ENG_MASK : Field := ⟨0x20050, 0x0, 0x400000, 16, 16, 0, .const, .ro, 0, 65535⟩
def KEY_BADTAG_CNT : Field := ⟨0x20054, 0x0, 0x0, 0, 32, 0, .const, .ctr, 0, 4294967295⟩
def KEY_BUF : Field := ⟨0x20100, 0x0, 0x4, 0, 32, 0, .const, .rw, 0, 4294967295⟩

/-- The registers of Table 13.12 beyond the header. -/
def page020 : List Reg := [
  ⟨0x40, 0x0, 1, none, false, [KEY_STAT_ROOT, KEY_STAT_DEBUG, KEY_STAT_TEST_ROOT, KEY_STAT_BUSY, KEY_STAT_LIFECYCLE, KEY_STAT_LAST_RESULT]⟩,
  ⟨0x44, 0x0, 1, none, false, [KEY_CMD_OP, KEY_CMD_SLOT, KEY_CMD_TYPE, KEY_CMD_USAGE]⟩,
  ⟨0x48, 0x0, 1, none, false, [KEY_EPOCH]⟩,
  ⟨0x4C, 0x0, 1, none, false, [KEY_SLOT_SEL]⟩,
  ⟨0x50, 0x0, 1, (some KEY_SLOT_SEL), false, [KEY_SLOT_STAT_STATE, KEY_SLOT_STAT_TYPE, KEY_SLOT_STAT_USAGE, KEY_SLOT_STAT_ENG_MASK]⟩,
  ⟨0x54, 0x0, 1, none, false, [KEY_BADTAG_CNT]⟩,
  ⟨0x100, 0x4, 64, none, false, [KEY_BUF]⟩]

/-! Table 13.13. -/

def KEY_OWNER_PATHS : Field := ⟨0x21040, 0x0, 0x0, 0, 8, 19, .const, .rw, 0, 255⟩
def KEY_OWNER_LOCK : Field := ⟨0x21040, 0x0, 0x0, 31, 1, 0, .const, .rw, 0, 1⟩
def KEY_AUTH_INDEX : Field := ⟨0x21044, 0x0, 0x0, 0, 10, 0, .const, .rw, 0, 1023⟩
def KEY_AUTH_DATA_RD : Field := ⟨0x21048, 0x0, 0x0, 0, 8, 0, .const, .rw, 0, 255⟩
def KEY_AUTH_DATA_WR : Field := ⟨0x21048, 0x0, 0x0, 8, 8, 0, .const, .rw, 0, 255⟩
def KEY_AUTH_DATA_LOCKED : Field := ⟨0x21048, 0x0, 0x0, 31, 1, 0, .const, .ro, 0, 1⟩
def KEY_AUTH_CMD_OP : Field := ⟨0x2104C, 0x0, 0x0, 0, 4, 0, .const, .wo, 0, 15⟩
def KEY_AUTH_STAT_BUSY : Field := ⟨0x21050, 0x0, 0x0, 0, 1, 0, .const, .ro, 0, 1⟩
def KEY_AUTH_STAT_LAST_RESULT : Field := ⟨0x21050, 0x0, 0x0, 16, 4, 0, .const, .ro, 0, 15⟩
def KEY_DENY_LAST_ADDR : Field := ⟨0x21054, 0x0, 0x0, 0, 22, 0, .const, .ro, 0, 4194303⟩
def KEY_DENY_LAST_PATH : Field := ⟨0x21054, 0x0, 0x0, 24, 3, 0, .const, .ro, 0, 7⟩
def KEY_DENY_LAST_WRITE : Field := ⟨0x21054, 0x0, 0x0, 27, 1, 0, .const, .ro, 0, 1⟩
def KEY_MTUN_CFG_TID : Field := ⟨0x21058, 0x0, 0x0, 0, 15, 0, .const, .rw, 0, 32767⟩
def KEY_MTUN_CFG_EN : Field := ⟨0x21058, 0x0, 0x0, 15, 1, 0, .const, .rw, 0, 1⟩
def KEY_MTUN_CFG_TRUNK : Field := ⟨0x21058, 0x0, 0x0, 16, 4, 0, .const, .rw, 0, 15⟩
def KEY_MTUN_REPLY : Field := ⟨0x2105C, 0x0, 0x0, 0, 15, 0, .const, .rw, 0, 32767⟩
def KEY_MTUN_BAD : Field := ⟨0x21060, 0x0, 0x0, 0, 32, 0, .const, .ctr, 0, 4294967295⟩
def KEY_DENY : Field := ⟨0x21080, 0x0, 0x4, 0, 32, 0, .const, .ctr, 0, 4294967295⟩

/-- The registers of Table 13.13 beyond the header. -/
def page021a : List Reg := [
  ⟨0x40, 0x0, 1, none, false, [KEY_OWNER_PATHS, KEY_OWNER_LOCK]⟩,
  ⟨0x44, 0x0, 1, none, false, [KEY_AUTH_INDEX]⟩,
  ⟨0x48, 0x0, 1, none, false, [KEY_AUTH_DATA_RD, KEY_AUTH_DATA_WR, KEY_AUTH_DATA_LOCKED]⟩,
  ⟨0x4C, 0x0, 1, none, false, [KEY_AUTH_CMD_OP]⟩,
  ⟨0x50, 0x0, 1, none, false, [KEY_AUTH_STAT_BUSY, KEY_AUTH_STAT_LAST_RESULT]⟩,
  ⟨0x54, 0x0, 1, none, false, [KEY_DENY_LAST_ADDR, KEY_DENY_LAST_PATH, KEY_DENY_LAST_WRITE]⟩,
  ⟨0x58, 0x0, 1, none, false, [KEY_MTUN_CFG_TID, KEY_MTUN_CFG_EN, KEY_MTUN_CFG_TRUNK]⟩,
  ⟨0x5C, 0x0, 1, none, false, [KEY_MTUN_REPLY]⟩]
def page021b : List Reg := [
  ⟨0x60, 0x0, 1, none, false, [KEY_MTUN_BAD]⟩,
  ⟨0x80, 0x4, 8, none, false, [KEY_DENY]⟩]
def page021 : List Reg := page021a ++ page021b

/-! Table 13.14. -/

def KEY_DBG_STAT_OPEN : Field := ⟨0x22040, 0x0, 0x0, 0, 1, 0, .const, .ro, 0, 1⟩
def KEY_DBG_STAT_SCOPE : Field := ⟨0x22040, 0x0, 0x0, 1, 3, 0, .const, .ro, 0, 7⟩
def KEY_DBG_STAT_NONCE_OPEN : Field := ⟨0x22040, 0x0, 0x0, 4, 1, 0, .const, .ro, 0, 1⟩
def KEY_DBG_STAT_FAILS : Field := ⟨0x22040, 0x0, 0x0, 8, 4, 0, .const, .ro, 0, 15⟩
def KEY_DBG_STAT_LOCKOUT : Field := ⟨0x22040, 0x0, 0x0, 12, 1, 0, .const, .ro, 0, 1⟩
def KEY_DBG_STAT_LAST_RESULT : Field := ⟨0x22040, 0x0, 0x0, 16, 4, 0, .const, .ro, 0, 15⟩
def KEY_DBG_CMD_OP : Field := ⟨0x22044, 0x0, 0x0, 0, 4, 0, .const, .wo, 0, 15⟩
def KEY_DBG_CMD_SCOPE : Field := ⟨0x22044, 0x0, 0x0, 8, 3, 0, .const, .wo, 0, 7⟩
def KEY_DBG_NONCE : Field := ⟨0x22060, 0x0, 0x4, 0, 32, 0, .const, .ro, 0, 4294967295⟩
def KEY_DBG_BUF : Field := ⟨0x22100, 0x0, 0x4, 0, 32, 0, .const, .rw, 0, 4294967295⟩

/-- The registers of Table 13.14 beyond the header. -/
def page022 : List Reg := [
  ⟨0x40, 0x0, 1, none, false, [KEY_DBG_STAT_OPEN, KEY_DBG_STAT_SCOPE, KEY_DBG_STAT_NONCE_OPEN, KEY_DBG_STAT_FAILS, KEY_DBG_STAT_LOCKOUT, KEY_DBG_STAT_LAST_RESULT]⟩,
  ⟨0x44, 0x0, 1, none, false, [KEY_DBG_CMD_OP, KEY_DBG_CMD_SCOPE]⟩,
  ⟨0x60, 0x4, 8, none, false, [KEY_DBG_NONCE]⟩,
  ⟨0x100, 0x4, 49, none, false, [KEY_DBG_BUF]⟩]

/-! Table 13.15. -/

def KEY_TMP_EN : Field := ⟨0x23040, 0x0, 0x0, 0, 7, 112, .const, .rw, 0, 127⟩
def KEY_TMP_INCFG_LEVEL0 : Field := ⟨0x23044, 0x0, 0x0, 0, 1, 0, .const, .rw, 0, 1⟩
def KEY_TMP_INCFG_DEBOUNCE0 : Field := ⟨0x23044, 0x0, 0x0, 1, 3, 0, .const, .rw, 0, 7⟩
def KEY_TMP_INCFG_LEVEL1 : Field := ⟨0x23044, 0x0, 0x0, 4, 1, 0, .const, .rw, 0, 1⟩
def KEY_TMP_INCFG_DEBOUNCE1 : Field := ⟨0x23044, 0x0, 0x0, 5, 3, 0, .const, .rw, 0, 7⟩
def KEY_TMP_INCFG_LEVEL2 : Field := ⟨0x23044, 0x0, 0x0, 8, 1, 0, .const, .rw, 0, 1⟩
def KEY_TMP_INCFG_DEBOUNCE2 : Field := ⟨0x23044, 0x0, 0x0, 9, 3, 0, .const, .rw, 0, 7⟩
def KEY_TMP_INCFG_LEVEL3 : Field := ⟨0x23044, 0x0, 0x0, 12, 1, 0, .const, .rw, 0, 1⟩
def KEY_TMP_INCFG_DEBOUNCE3 : Field := ⟨0x23044, 0x0, 0x0, 13, 3, 0, .const, .rw, 0, 7⟩
def KEY_TMP_TEMP_TLO : Field := ⟨0x23048, 0x0, 0x0, 0, 8, 206, .const, .rw, 0, 255⟩
def KEY_TMP_TEMP_THI : Field := ⟨0x23048, 0x0, 0x0, 8, 8, 130, .const, .rw, 100, 140⟩
def KEY_TMP_LOCK_LOCK : Field := ⟨0x2304C, 0x0, 0x0, 0, 1, 0, .const, .w1s, 0, 1⟩
def KEY_TMP_LOG_CAUSES : Field := ⟨0x23050, 0x0, 0x0, 0, 7, 0, .const, .ro, 0, 127⟩
def KEY_TMP_LOG_PENDING : Field := ⟨0x23050, 0x0, 0x0, 7, 1, 0, .const, .ro, 0, 1⟩
def KEY_TMP_LOG_INTEGRITY : Field := ⟨0x23050, 0x0, 0x0, 8, 1, 0, .const, .ro, 0, 1⟩
def KEY_TMP_LOG_ZCOUNT : Field := ⟨0x23050, 0x0, 0x0, 16, 16, 0, .const, .ro, 0, 65535⟩
def KEY_TMP_TIME : Field := ⟨0x23054, 0x0, 0x0, 0, 32, 0, .const, .ro, 0, 4294967295⟩
def KEY_TMP_LIVE : Field := ⟨0x23058, 0x0, 0x0, 0, 7, 0, .const, .ro, 0, 127⟩
def KEY_BAT_VBAT : Field := ⟨0x2305C, 0x0, 0x0, 0, 12, 0, .const, .ro, 0, 4095⟩
def KEY_BAT_BAT_LOW : Field := ⟨0x2305C, 0x0, 0x0, 16, 1, 0, .const, .ro, 0, 1⟩

/-- The registers of Table 13.15 beyond the header. -/
def page023 : List Reg := [
  ⟨0x40, 0x0, 1, none, false, [KEY_TMP_EN]⟩,
  ⟨0x44, 0x0, 1, none, false, [KEY_TMP_INCFG_LEVEL0, KEY_TMP_INCFG_DEBOUNCE0, KEY_TMP_INCFG_LEVEL1, KEY_TMP_INCFG_DEBOUNCE1, KEY_TMP_INCFG_LEVEL2, KEY_TMP_INCFG_DEBOUNCE2, KEY_TMP_INCFG_LEVEL3, KEY_TMP_INCFG_DEBOUNCE3]⟩,
  ⟨0x48, 0x0, 1, none, false, [KEY_TMP_TEMP_TLO, KEY_TMP_TEMP_THI]⟩,
  ⟨0x4C, 0x0, 1, none, false, [KEY_TMP_LOCK_LOCK]⟩,
  ⟨0x50, 0x0, 1, none, false, [KEY_TMP_LOG_CAUSES, KEY_TMP_LOG_PENDING, KEY_TMP_LOG_INTEGRITY, KEY_TMP_LOG_ZCOUNT]⟩,
  ⟨0x54, 0x0, 1, none, false, [KEY_TMP_TIME]⟩,
  ⟨0x58, 0x0, 1, none, false, [KEY_TMP_LIVE]⟩,
  ⟨0x5C, 0x0, 1, none, false, [KEY_BAT_VBAT, KEY_BAT_BAT_LOW]⟩]

/-! Table 13.16. -/

def KEY_ATT_CMD_OP : Field := ⟨0x24040, 0x0, 0x0, 0, 4, 0, .const, .wo, 0, 15⟩
def KEY_ATT_STAT_BUSY : Field := ⟨0x24044, 0x0, 0x0, 0, 1, 0, .const, .ro, 0, 1⟩
def KEY_ATT_STAT_LAST_RESULT : Field := ⟨0x24044, 0x0, 0x0, 16, 4, 0, .const, .ro, 0, 15⟩
def KEY_ATT_STAT_LEN : Field := ⟨0x24044, 0x0, 0x0, 20, 12, 0, .const, .ro, 0, 4095⟩
def KEY_ATT_NONCE : Field := ⟨0x24060, 0x0, 0x4, 0, 32, 0, .const, .rw, 0, 4294967295⟩
def KEY_OTP_CMD_OP : Field := ⟨0x24080, 0x0, 0x0, 0, 4, 0, .const, .wo, 0, 15⟩
def KEY_OTP_CMD_KIND : Field := ⟨0x24080, 0x0, 0x0, 8, 8, 0, .const, .wo, 0, 255⟩
def KEY_OTP_CMD_SVN : Field := ⟨0x24080, 0x0, 0x0, 16, 6, 0, .const, .wo, 0, 63⟩
def KEY_OTP_STAT_BUSY : Field := ⟨0x24084, 0x0, 0x0, 0, 1, 0, .const, .ro, 0, 1⟩
def KEY_OTP_STAT_CODE : Field := ⟨0x24084, 0x0, 0x0, 1, 1, 0, .const, .ro, 0, 1⟩
def KEY_OTP_STAT_DEBUG : Field := ⟨0x24084, 0x0, 0x0, 2, 1, 0, .const, .ro, 0, 1⟩
def KEY_OTP_STAT_DBG_NEVER : Field := ⟨0x24084, 0x0, 0x0, 3, 1, 0, .const, .ro, 0, 1⟩
def KEY_OTP_STAT_LAST_RESULT : Field := ⟨0x24084, 0x0, 0x0, 16, 4, 0, .const, .ro, 0, 15⟩
def KEY_SVN_SEL : Field := ⟨0x24088, 0x0, 0x0, 0, 8, 1, .const, .rw, 0, 255⟩
def KEY_SVN : Field := ⟨0x2408C, 0x0, 0x0, 0, 6, 0, .const, .ro, 0, 63⟩
def KEY_SERIAL : Field := ⟨0x24090, 0x0, 0x0, 0, 64, 0, .factory, .ro, 0, 18446744073709551615⟩
def KEY_OTP_BUF : Field := ⟨0x240A0, 0x0, 0x4, 0, 32, 0, .const, .rw, 0, 4294967295⟩
def KEY_ATT_DATA : Field := ⟨0x24800, 0x0, 0x4, 0, 32, 0, .const, .ro, 0, 4294967295⟩

/-- The registers of Table 13.16 beyond the header. -/
def page024a : List Reg := [
  ⟨0x40, 0x0, 1, none, false, [KEY_ATT_CMD_OP]⟩,
  ⟨0x44, 0x0, 1, none, false, [KEY_ATT_STAT_BUSY, KEY_ATT_STAT_LAST_RESULT, KEY_ATT_STAT_LEN]⟩,
  ⟨0x60, 0x4, 8, none, false, [KEY_ATT_NONCE]⟩,
  ⟨0x80, 0x0, 1, none, false, [KEY_OTP_CMD_OP, KEY_OTP_CMD_KIND, KEY_OTP_CMD_SVN]⟩,
  ⟨0x84, 0x0, 1, none, false, [KEY_OTP_STAT_BUSY, KEY_OTP_STAT_CODE, KEY_OTP_STAT_DEBUG, KEY_OTP_STAT_DBG_NEVER, KEY_OTP_STAT_LAST_RESULT]⟩,
  ⟨0x88, 0x0, 1, none, false, [KEY_SVN_SEL]⟩,
  ⟨0x8C, 0x0, 1, none, false, [KEY_SVN]⟩,
  ⟨0x90, 0x0, 1, none, true, [KEY_SERIAL]⟩]
def page024b : List Reg := [
  ⟨0xA0, 0x4, 12, none, false, [KEY_OTP_BUF]⟩,
  ⟨0x800, 0x4, 512, none, false, [KEY_ATT_DATA]⟩]
def page024 : List Reg := page024a ++ page024b

/-! Table 14.10. -/

def FUS_PD_STAT_PRESENT : Field := ⟨0x60040, 0x0, 0x0, 0, 1, 0, .const, .ro, 0, 1⟩
def FUS_PD_STAT_OT : Field := ⟨0x60040, 0x0, 0x0, 1, 1, 0, .const, .ro, 0, 1⟩
def FUS_PD_STAT_TEMP : Field := ⟨0x60040, 0x0, 0x0, 8, 8, 0, .const, .ro, 0, 255⟩
def FUS_PD_STAT_VIN_PD : Field := ⟨0x60040, 0x0, 0x0, 16, 16, 0, .const, .ro, 0, 65535⟩
def FUS_PD_CFG_OT_SHUT : Field := ⟨0x60044, 0x0, 0x0, 0, 8, 150, .const, .rw, 125, 160⟩
def FUS_PBUS : Field := ⟨0x60048, 0x0, 0x0, 0, 16, 0, .const, .ro, 0, 65535⟩
def FUS_UCFG_CMD_OP : Field := ⟨0x6004C, 0x0, 0x0, 0, 4, 0, .const, .wo, 0, 15⟩
def FUS_UCFG_STAT_BUSY : Field := ⟨0x60050, 0x0, 0x0, 0, 1, 0, .const, .ro, 0, 1⟩
def FUS_UCFG_STAT_BANKS : Field := ⟨0x60050, 0x0, 0x0, 1, 3, 0, .const, .ro, 0, 7⟩
def FUS_UCFG_STAT_LAST_RESULT : Field := ⟨0x60050, 0x0, 0x0, 16, 4, 0, .const, .ro, 0, 15⟩
def FUS_LINK_ERR : Field := ⟨0x60054, 0x0, 0x0, 0, 32, 0, .const, .ctr, 0, 4294967295⟩
def FUS_PRELOAD_SET : Field := ⟨0x60080, 0x0, 0x4, 0, 24, 16777215, .const, .rw, 0, 16777215⟩

/-- The registers of Table 14.10 beyond the header. -/
def page060 : List Reg := [
  ⟨0x40, 0x0, 1, none, false, [FUS_PD_STAT_PRESENT, FUS_PD_STAT_OT, FUS_PD_STAT_TEMP, FUS_PD_STAT_VIN_PD]⟩,
  ⟨0x44, 0x0, 1, none, false, [FUS_PD_CFG_OT_SHUT]⟩,
  ⟨0x48, 0x0, 1, none, false, [FUS_PBUS]⟩,
  ⟨0x4C, 0x0, 1, none, false, [FUS_UCFG_CMD_OP]⟩,
  ⟨0x50, 0x0, 1, none, false, [FUS_UCFG_STAT_BUSY, FUS_UCFG_STAT_BANKS, FUS_UCFG_STAT_LAST_RESULT]⟩,
  ⟨0x54, 0x0, 1, none, false, [FUS_LINK_ERR]⟩,
  ⟨0x80, 0x4, 18, none, false, [FUS_PRELOAD_SET]⟩]

/-! Table 14.11. -/

def FUS_CFG_EN : Field := ⟨0x61040, 0x1000, 0x0, 0, 1, 0, (.feed 1), .rw, 0, 1⟩
def FUS_CFG_DIR : Field := ⟨0x61040, 0x1000, 0x0, 1, 2, 0, (.feed 2), .rw, 0, 3⟩
def FUS_CFG_FRS_ARM : Field := ⟨0x61040, 0x1000, 0x0, 3, 1, 0, .const, .rw, 0, 1⟩
def FUS_CFG_AUTO_RETRY : Field := ⟨0x61040, 0x1000, 0x0, 4, 1, 0, (.feed 1), .rw, 0, 1⟩
def FUS_CFG_RETRY_MAX : Field := ⟨0x61040, 0x1000, 0x0, 8, 4, 3, .const, .rw, 0, 15⟩
def FUS_CFG_SLOPE : Field := ⟨0x61040, 0x1000, 0x0, 16, 8, 10, .const, .rw, 1, 100⟩
def FUS_CMD_OP : Field := ⟨0x61044, 0x1000, 0x0, 0, 4, 0, .const, .wo, 0, 15⟩
def FUS_STAT_STATE : Field := ⟨0x61048, 0x1000, 0x0, 0, 4, 0, .const, .ro, 0, 15⟩
def FUS_STAT_PG : Field := ⟨0x61048, 0x1000, 0x0, 4, 1, 0, .const, .ro, 0, 1⟩
def FUS_STAT_FTIMER : Field := ⟨0x61048, 0x1000, 0x0, 5, 1, 0, .const, .ro, 0, 1⟩
def FUS_STAT_SEAT_A : Field := ⟨0x61048, 0x1000, 0x0, 6, 1, 0, .const, .ro, 0, 1⟩
def FUS_STAT_SEAT_B : Field := ⟨0x61048, 0x1000, 0x0, 7, 1, 0, .const, .ro, 0, 1⟩
def FUS_STAT_DIR : Field := ⟨0x61048, 0x1000, 0x0, 8, 1, 0, .const, .ro, 0, 1⟩
def FUS_STAT_CAUSE : Field := ⟨0x61048, 0x1000, 0x0, 12, 4, 0, .const, .ro, 0, 15⟩
def FUS_STAT_LAST_RESULT : Field := ⟨0x61048, 0x1000, 0x0, 16, 4, 0, .const, .ro, 0, 15⟩
def FUS_STAT_RETRIES : Field := ⟨0x61048, 0x1000, 0x0, 20, 4, 0, .const, .ro, 0, 15⟩
def FUS_SHUNT : Field := ⟨0x6104C, 0x1000, 0x0, 0, 16, 5000, (.feed 500), .rwl, 100, 50000⟩
def FUS_ITRIP : Field := ⟨0x61050, 0x1000, 0x0, 0, 16, 6250, (.feed 60000), .rw, 0, 65535⟩
def FUS_VWIN_UV : Field := ⟨0x61054, 0x1000, 0x0, 0, 16, 1800, .const, .rw, 1800, 6000⟩
def FUS_VWIN_OV : Field := ⟨0x61054, 0x1000, 0x0, 16, 16, 6000, .const, .rw, 1800, 6000⟩
def FUS_PG_PG_DROP : Field := ⟨0x61058, 0x1000, 0x0, 0, 16, 100, .const, .rw, 10, 1000⟩
def FUS_PG_PG_DELAY : Field := ⟨0x61058, 0x1000, 0x0, 16, 8, 10, .const, .rw, 1, 255⟩
def FUS_FTMO : Field := ⟨0x6105C, 0x1000, 0x0, 0, 20, 5000, .const, .rw, 100, 1000000⟩
def FUS_RAMP_MAX : Field := ⟨0x61060, 0x1000, 0x0, 0, 14, 1000, .const, .rw, 1, 10000⟩
def FUS_REV_REV_THR : Field := ⟨0x61064, 0x1000, 0x0, 0, 16, 100, (.feed 500), .rw, 10, 5000⟩
def FUS_REV_FWD_ON : Field := ⟨0x61064, 0x1000, 0x0, 16, 16, 50, .const, .rw, 10, 500⟩
def FUS_RETRY_RETRY_DELAY : Field := ⟨0x61068, 0x1000, 0x0, 0, 16, 10000, .const, .rw, 100, 65535⟩
def FUS_RETRY_RETRY_HEAT : Field := ⟨0x61068, 0x1000, 0x0, 16, 8, 50, .const, .rw, 0, 100⟩
def FUS_TAU : Field := ⟨0x6106C, 0x1000, 0x0, 0, 16, 600, .const, .rw, 1, 65535⟩
def FUS_CURVE_I : Field := ⟨0x61070, 0x1000, 0x4, 0, 16, 0, .curve, .rw, 0, 65535⟩
def FUS_CURVE_T : Field := ⟨0x61070, 0x1000, 0x4, 16, 16, 0, .curve, .rw, 1, 65535⟩
def FUS_HEAT : Field := ⟨0x61090, 0x1000, 0x0, 0, 25, 16777215, .const, .ro, 0, 33554431⟩
def FUS_HEAT_SET : Field := ⟨0x61094, 0x1000, 0x0, 0, 24, 0, .const, .rw, 0, 16777215⟩
def FUS_PRELOAD : Field := ⟨0x61098, 0x1000, 0x0, 0, 24, 16777215, .const, .ro, 0, 16777215⟩
def FUS_IV_I : Field := ⟨0x6109C, 0x1000, 0x0, 0, 16, 0, .const, .ro, 0, 65535⟩
def FUS_IV_V : Field := ⟨0x6109C, 0x1000, 0x0, 16, 16, 0, .const, .ro, 0, 65535⟩
def FUS_IV_AVG_I : Field := ⟨0x610A0, 0x1000, 0x0, 0, 16, 0, .const, .ro, 0, 65535⟩
def FUS_IV_AVG_V : Field := ⟨0x610A0, 0x1000, 0x0, 16, 16, 0, .const, .ro, 0, 65535⟩
def FUS_PEAK_VMIN : Field := ⟨0x610A4, 0x1000, 0x0, 0, 16, 65535, .const, .ro, 0, 65535⟩
def FUS_PEAK_IMAX : Field := ⟨0x610A4, 0x1000, 0x0, 16, 16, 0, .const, .ro, 0, 65535⟩
def FUS_POWER : Field := ⟨0x610A8, 0x1000, 0x0, 0, 32, 0, .const, .ro, 0, 4294967295⟩
def FUS_ENERGY : Field := ⟨0x610AC, 0x1000, 0x0, 0, 64, 0, .const, .ro, 0, 18446744073709551615⟩
def FUS_VGS : Field := ⟨0x610B4, 0x1000, 0x0, 0, 16, 0, .const, .ro, 0, 65535⟩
def FUS_TRIP_CNT : Field := ⟨0x610B8, 0x1000, 0x0, 0, 32, 0, .const, .ctr, 0, 4294967295⟩
def FUS_REV_CNT : Field := ⟨0x610BC, 0x1000, 0x0, 0, 32, 0, .const, .ctr, 0, 4294967295⟩
def FUS_START_CNT : Field := ⟨0x610C0, 0x1000, 0x0, 0, 32, 0, .const, .ctr, 0, 4294967295⟩
def FUS_CALF_I_G : Field := ⟨0x610D0, 0x1000, 0x0, 0, 16, 0, .factory, .ro, 0, 65535⟩
def FUS_CALF_I_O : Field := ⟨0x610D0, 0x1000, 0x0, 16, 16, 0, .factory, .ro, 0, 65535⟩
def FUS_CALU_I_G : Field := ⟨0x610D4, 0x1000, 0x0, 0, 16, 0, .const, .rw, 0, 65535⟩
def FUS_CALU_I_O : Field := ⟨0x610D4, 0x1000, 0x0, 16, 16, 0, .const, .rw, 0, 65535⟩
def FUS_CAL_I_G : Field := ⟨0x610D8, 0x1000, 0x0, 0, 16, 0, .factory, .ro, 0, 65535⟩
def FUS_CAL_I_O : Field := ⟨0x610D8, 0x1000, 0x0, 16, 16, 0, .factory, .ro, 0, 65535⟩
def FUS_CALF_V_G : Field := ⟨0x610DC, 0x1000, 0x0, 0, 16, 0, .factory, .ro, 0, 65535⟩
def FUS_CALF_V_O : Field := ⟨0x610DC, 0x1000, 0x0, 16, 16, 0, .factory, .ro, 0, 65535⟩
def FUS_CALU_V_G : Field := ⟨0x610E0, 0x1000, 0x0, 0, 16, 0, .const, .rw, 0, 65535⟩
def FUS_CALU_V_O : Field := ⟨0x610E0, 0x1000, 0x0, 16, 16, 0, .const, .rw, 0, 65535⟩
def FUS_CAL_V_G : Field := ⟨0x610E4, 0x1000, 0x0, 0, 16, 0, .factory, .ro, 0, 65535⟩
def FUS_CAL_V_O : Field := ⟨0x610E4, 0x1000, 0x0, 16, 16, 0, .factory, .ro, 0, 65535⟩

/-- The registers of Table 14.11 beyond the header. -/
def page061a : List Reg := [
  ⟨0x40, 0x0, 1, none, false, [FUS_CFG_EN, FUS_CFG_DIR, FUS_CFG_FRS_ARM, FUS_CFG_AUTO_RETRY, FUS_CFG_RETRY_MAX, FUS_CFG_SLOPE]⟩,
  ⟨0x44, 0x0, 1, none, false, [FUS_CMD_OP]⟩,
  ⟨0x48, 0x0, 1, none, false, [FUS_STAT_STATE, FUS_STAT_PG, FUS_STAT_FTIMER, FUS_STAT_SEAT_A, FUS_STAT_SEAT_B, FUS_STAT_DIR, FUS_STAT_CAUSE, FUS_STAT_LAST_RESULT, FUS_STAT_RETRIES]⟩,
  ⟨0x4C, 0x0, 1, none, false, [FUS_SHUNT]⟩,
  ⟨0x50, 0x0, 1, none, false, [FUS_ITRIP]⟩,
  ⟨0x54, 0x0, 1, none, false, [FUS_VWIN_UV, FUS_VWIN_OV]⟩,
  ⟨0x58, 0x0, 1, none, false, [FUS_PG_PG_DROP, FUS_PG_PG_DELAY]⟩,
  ⟨0x5C, 0x0, 1, none, false, [FUS_FTMO]⟩]
def page061b : List Reg := [
  ⟨0x60, 0x0, 1, none, false, [FUS_RAMP_MAX]⟩,
  ⟨0x64, 0x0, 1, none, false, [FUS_REV_REV_THR, FUS_REV_FWD_ON]⟩,
  ⟨0x68, 0x0, 1, none, false, [FUS_RETRY_RETRY_DELAY, FUS_RETRY_RETRY_HEAT]⟩,
  ⟨0x6C, 0x0, 1, none, false, [FUS_TAU]⟩,
  ⟨0x70, 0x4, 8, none, false, [FUS_CURVE_I, FUS_CURVE_T]⟩,
  ⟨0x90, 0x0, 1, none, false, [FUS_HEAT]⟩,
  ⟨0x94, 0x0, 1, none, false, [FUS_HEAT_SET]⟩,
  ⟨0x98, 0x0, 1, none, false, [FUS_PRELOAD]⟩]
def page061c : List Reg := [
  ⟨0x9C, 0x0, 1, none, false, [FUS_IV_I, FUS_IV_V]⟩,
  ⟨0xA0, 0x0, 1, none, false, [FUS_IV_AVG_I, FUS_IV_AVG_V]⟩,
  ⟨0xA4, 0x0, 1, none, false, [FUS_PEAK_VMIN, FUS_PEAK_IMAX]⟩,
  ⟨0xA8, 0x0, 1, none, false, [FUS_POWER]⟩,
  ⟨0xAC, 0x0, 1, none, true, [FUS_ENERGY]⟩,
  ⟨0xB4, 0x0, 1, none, false, [FUS_VGS]⟩,
  ⟨0xB8, 0x0, 1, none, false, [FUS_TRIP_CNT]⟩,
  ⟨0xBC, 0x0, 1, none, false, [FUS_REV_CNT]⟩]
def page061d : List Reg := [
  ⟨0xC0, 0x0, 1, none, false, [FUS_START_CNT]⟩,
  ⟨0xD0, 0x0, 1, none, false, [FUS_CALF_I_G, FUS_CALF_I_O]⟩,
  ⟨0xD4, 0x0, 1, none, false, [FUS_CALU_I_G, FUS_CALU_I_O]⟩,
  ⟨0xD8, 0x0, 1, none, false, [FUS_CAL_I_G, FUS_CAL_I_O]⟩,
  ⟨0xDC, 0x0, 1, none, false, [FUS_CALF_V_G, FUS_CALF_V_O]⟩,
  ⟨0xE0, 0x0, 1, none, false, [FUS_CALU_V_G, FUS_CALU_V_O]⟩,
  ⟨0xE4, 0x0, 1, none, false, [FUS_CAL_V_G, FUS_CAL_V_O]⟩]
def page061 : List Reg := page061a ++ page061b ++ page061c ++ page061d

/-! Table 15.6. -/

def CPD_SVID : Field := ⟨0x73040, 0x0, 0x0, 0, 16, 0, .const, .rw, 0, 65535⟩
def CPD_VDM_CFG_AUTO : Field := ⟨0x73044, 0x0, 0x0, 0, 1, 1, .const, .rw, 0, 1⟩
def CPD_VDM_CFG_DD_RATE : Field := ⟨0x73044, 0x0, 0x0, 4, 4, 3, .const, .rw, 0, 3⟩
def CPD_HR_CFG_SRC_RECOVER : Field := ⟨0x73048, 0x0, 0x0, 0, 10, 800, .const, .rw, 660, 1000⟩
def CPD_HR_CFG_PS_HR : Field := ⟨0x73048, 0x0, 0x0, 16, 6, 30, .const, .rw, 25, 35⟩
def CPD_HR_CFG_RECOVER_MAX : Field := ⟨0x73048, 0x0, 0x0, 24, 4, 3, .const, .rw, 1, 15⟩
def CPD_FRS_CFG_PBUS_THR : Field := ⟨0x7304C, 0x0, 0x0, 0, 16, 0, .const, .rw, 0, 65535⟩
def CPD_FRS_CFG_CONFIRM_TMO : Field := ⟨0x7304C, 0x0, 0x0, 16, 8, 100, .const, .rw, 1, 255⟩
def CPD_RESP_TMO : Field := ⟨0x73050, 0x0, 0x0, 0, 5, 27, .const, .rw, 24, 30⟩

/-- The registers of Table 15.6 beyond the header. -/
def page073 : List Reg := [
  ⟨0x40, 0x0, 1, none, false, [CPD_SVID]⟩,
  ⟨0x44, 0x0, 1, none, false, [CPD_VDM_CFG_AUTO, CPD_VDM_CFG_DD_RATE]⟩,
  ⟨0x48, 0x0, 1, none, false, [CPD_HR_CFG_SRC_RECOVER, CPD_HR_CFG_PS_HR, CPD_HR_CFG_RECOVER_MAX]⟩,
  ⟨0x4C, 0x0, 1, none, false, [CPD_FRS_CFG_PBUS_THR, CPD_FRS_CFG_CONFIRM_TMO]⟩,
  ⟨0x50, 0x0, 1, none, false, [CPD_RESP_TMO]⟩]

/-! Table 15.7. -/

def CPD_CFG_EN : Field := ⟨0x74040, 0x1000, 0x100, 0, 1, 0, .const, .rw, 0, 1⟩
def CPD_CFG_DFP : Field := ⟨0x74040, 0x1000, 0x100, 1, 1, 0, .const, .rw, 0, 1⟩
def CPD_CFG_AUTO_FRS : Field := ⟨0x74040, 0x1000, 0x100, 2, 1, 0, .const, .rw, 0, 1⟩
def CPD_CMD_OP : Field := ⟨0x74044, 0x1000, 0x100, 0, 4, 0, .const, .wo, 0, 15⟩
def CPD_STAT_STATE : Field := ⟨0x74048, 0x1000, 0x100, 0, 3, 0, .const, .ro, 0, 7⟩
def CPD_STAT_SWAP : Field := ⟨0x74048, 0x1000, 0x100, 4, 1, 0, .const, .ro, 0, 1⟩
def CPD_STAT_DIR0 : Field := ⟨0x74048, 0x1000, 0x100, 5, 1, 0, .const, .ro, 0, 1⟩
def CPD_STAT_TX_BUSY : Field := ⟨0x74048, 0x1000, 0x100, 8, 1, 0, .const, .ro, 0, 1⟩
def CPD_STAT_RX_FILL : Field := ⟨0x74048, 0x1000, 0x100, 9, 3, 0, .const, .ro, 0, 7⟩
def CPD_STAT_TX_RESULT : Field := ⟨0x74048, 0x1000, 0x100, 12, 4, 0, .const, .ro, 0, 15⟩
def CPD_STAT_LAST_RESULT : Field := ⟨0x74048, 0x1000, 0x100, 16, 4, 0, .const, .ro, 0, 15⟩
def CPD_STAT_MSGID : Field := ⟨0x74048, 0x1000, 0x100, 20, 3, 0, .const, .ro, 0, 7⟩
def CPD_TX_HDR_HDR : Field := ⟨0x7404C, 0x1000, 0x100, 0, 16, 0, .const, .rw, 0, 65535⟩
def CPD_TX_HDR_EXPECT_RESP : Field := ⟨0x7404C, 0x1000, 0x100, 16, 1, 0, .const, .rw, 0, 1⟩
def CPD_TX_DATA0 : Field := ⟨0x74050, 0x1000, 0x100, 0, 32, 0, .const, .rw, 0, 4294967295⟩
def CPD_TX_DATA1 : Field := ⟨0x74054, 0x1000, 0x100, 0, 32, 0, .const, .rw, 0, 4294967295⟩
def CPD_TX_DATA2 : Field := ⟨0x74058, 0x1000, 0x100, 0, 32, 0, .const, .rw, 0, 4294967295⟩
def CPD_TX_DATA3 : Field := ⟨0x7405C, 0x1000, 0x100, 0, 32, 0, .const, .rw, 0, 4294967295⟩
def CPD_TX_DATA4 : Field := ⟨0x74060, 0x1000, 0x100, 0, 32, 0, .const, .rw, 0, 4294967295⟩
def CPD_TX_DATA5 : Field := ⟨0x74064, 0x1000, 0x100, 0, 32, 0, .const, .rw, 0, 4294967295⟩
def CPD_TX_DATA6 : Field := ⟨0x74068, 0x1000, 0x100, 0, 32, 0, .const, .rw, 0, 4294967295⟩
def CPD_RX_HDR_HDR : Field := ⟨0x7406C, 0x1000, 0x100, 0, 16, 0, .const, .ro, 0, 65535⟩
def CPD_RX_HDR_VALID : Field := ⟨0x7406C, 0x1000, 0x100, 31, 1, 0, .const, .ro, 0, 1⟩
def CPD_RX_DATA0 : Field := ⟨0x74070, 0x1000, 0x100, 0, 32, 0, .const, .ro, 0, 4294967295⟩
def CPD_RX_DATA1 : Field := ⟨0x74074, 0x1000, 0x100, 0, 32, 0, .const, .ro, 0, 4294967295⟩
def CPD_RX_DATA2 : Field := ⟨0x74078, 0x1000, 0x100, 0, 32, 0, .const, .ro, 0, 4294967295⟩
def CPD_RX_DATA3 : Field := ⟨0x7407C, 0x1000, 0x100, 0, 32, 0, .const, .ro, 0, 4294967295⟩
def CPD_RX_DATA4 : Field := ⟨0x74080, 0x1000, 0x100, 0, 32, 0, .const, .ro, 0, 4294967295⟩
def CPD_RX_DATA5 : Field := ⟨0x74084, 0x1000, 0x100, 0, 32, 0, .const, .ro, 0, 4294967295⟩
def CPD_RX_DATA6 : Field := ⟨0x74088, 0x1000, 0x100, 0, 32, 0, .const, .ro, 0, 4294967295⟩
def CPD_RX_TIME : Field := ⟨0x7408C, 0x1000, 0x100, 0, 30, 0, .const, .ro, 0, 1073741823⟩
def CPD_TX_FAIL : Field := ⟨0x74090, 0x1000, 0x100, 0, 32, 0, .const, .ctr, 0, 4294967295⟩
def CPD_RX_CRC : Field := ⟨0x74094, 0x1000, 0x100, 0, 32, 0, .const, .ctr, 0, 4294967295⟩
def CPD_RX_DROP : Field := ⟨0x74098, 0x1000, 0x100, 0, 32, 0, .const, .ctr, 0, 4294967295⟩
def CPD_CROSSED : Field := ⟨0x7409C, 0x1000, 0x100, 0, 32, 0, .const, .ctr, 0, 4294967295⟩
def CPD_HR_CNT : Field := ⟨0x740A0, 0x1000, 0x100, 0, 32, 0, .const, .ctr, 0, 4294967295⟩
def CPD_FRS_CNT : Field := ⟨0x740A4, 0x1000, 0x100, 0, 32, 0, .const, .ctr, 0, 4294967295⟩
def CPD_COLL : Field := ⟨0x740A8, 0x1000, 0x100, 0, 32, 0, .const, .ctr, 0, 4294967295⟩

/-- The registers of Table 15.7 beyond the header. -/
def page074a : List Reg := [
  ⟨0x40, 0x100, 4, none, false, [CPD_CFG_EN, CPD_CFG_DFP, CPD_CFG_AUTO_FRS]⟩,
  ⟨0x44, 0x100, 4, none, false, [CPD_CMD_OP]⟩,
  ⟨0x48, 0x100, 4, none, false, [CPD_STAT_STATE, CPD_STAT_SWAP, CPD_STAT_DIR0, CPD_STAT_TX_BUSY, CPD_STAT_RX_FILL, CPD_STAT_TX_RESULT, CPD_STAT_LAST_RESULT, CPD_STAT_MSGID]⟩,
  ⟨0x4C, 0x100, 4, none, false, [CPD_TX_HDR_HDR, CPD_TX_HDR_EXPECT_RESP]⟩,
  ⟨0x50, 0x100, 4, none, false, [CPD_TX_DATA0]⟩,
  ⟨0x54, 0x100, 4, none, false, [CPD_TX_DATA1]⟩,
  ⟨0x58, 0x100, 4, none, false, [CPD_TX_DATA2]⟩,
  ⟨0x5C, 0x100, 4, none, false, [CPD_TX_DATA3]⟩]
def page074b : List Reg := [
  ⟨0x60, 0x100, 4, none, false, [CPD_TX_DATA4]⟩,
  ⟨0x64, 0x100, 4, none, false, [CPD_TX_DATA5]⟩,
  ⟨0x68, 0x100, 4, none, false, [CPD_TX_DATA6]⟩,
  ⟨0x6C, 0x100, 4, none, false, [CPD_RX_HDR_HDR, CPD_RX_HDR_VALID]⟩,
  ⟨0x70, 0x100, 4, none, false, [CPD_RX_DATA0]⟩,
  ⟨0x74, 0x100, 4, none, false, [CPD_RX_DATA1]⟩,
  ⟨0x78, 0x100, 4, none, false, [CPD_RX_DATA2]⟩,
  ⟨0x7C, 0x100, 4, none, false, [CPD_RX_DATA3]⟩]
def page074c : List Reg := [
  ⟨0x80, 0x100, 4, none, false, [CPD_RX_DATA4]⟩,
  ⟨0x84, 0x100, 4, none, false, [CPD_RX_DATA5]⟩,
  ⟨0x88, 0x100, 4, none, false, [CPD_RX_DATA6]⟩,
  ⟨0x8C, 0x100, 4, none, false, [CPD_RX_TIME]⟩,
  ⟨0x90, 0x100, 4, none, false, [CPD_TX_FAIL]⟩,
  ⟨0x94, 0x100, 4, none, false, [CPD_RX_CRC]⟩,
  ⟨0x98, 0x100, 4, none, false, [CPD_RX_DROP]⟩,
  ⟨0x9C, 0x100, 4, none, false, [CPD_CROSSED]⟩]
def page074d : List Reg := [
  ⟨0xA0, 0x100, 4, none, false, [CPD_HR_CNT]⟩,
  ⟨0xA4, 0x100, 4, none, false, [CPD_FRS_CNT]⟩,
  ⟨0xA8, 0x100, 4, none, false, [CPD_COLL]⟩]
def page074 : List Reg := page074a ++ page074b ++ page074c ++ page074d

/-! Table 16.11. -/

def PWR_REQ_TARGET : Field := ⟨0x30040, 0x0, 0x0, 0, 3, 0, .const, .wo, 0, 7⟩
def PWR_STAT_STATE : Field := ⟨0x30044, 0x0, 0x0, 0, 3, 0, .const, .ro, 0, 7⟩
def PWR_STAT_BUSY : Field := ⟨0x30044, 0x0, 0x0, 3, 1, 0, .const, .ro, 0, 1⟩
def PWR_STAT_TARGET : Field := ⟨0x30044, 0x0, 0x0, 4, 3, 0, .const, .ro, 0, 7⟩
def PWR_STAT_REG_FAULT : Field := ⟨0x30044, 0x0, 0x0, 7, 1, 0, .const, .ro, 0, 1⟩
def PWR_STAT_LAST_RESULT : Field := ⟨0x30044, 0x0, 0x0, 16, 4, 0, .const, .ro, 0, 15⟩
def PWR_DOM_STAT : Field := ⟨0x30048, 0x0, 0x0, 0, 18, 262143, .const, .ro, 0, 262143⟩
def PWR_VETO_STAT : Field := ⟨0x3004C, 0x0, 0x0, 0, 32, 0, .const, .ro, 0, 4294967295⟩
def PWR_PROT_IDLE : Field := ⟨0x30050, 0x0, 0x0, 0, 16, 10000, .const, .rw, 1, 60000⟩
def PWR_CPD_LOAD : Field := ⟨0x30054, 0x0, 0x0, 0, 16, 1000, .const, .rw, 0, 65535⟩
def PWR_LAST_REF_ID : Field := ⟨0x30058, 0x0, 0x0, 0, 4, 0, .const, .ro, 0, 15⟩
def PWR_LAST_REF_TARGET : Field := ⟨0x30058, 0x0, 0x0, 4, 3, 0, .const, .ro, 0, 7⟩
def PWR_LAST_REF_ABORTED : Field := ⟨0x30058, 0x0, 0x0, 7, 1, 0, .const, .ro, 0, 1⟩
def PWR_LAST_REF_TSW : Field := ⟨0x3005C, 0x0, 0x0, 0, 64, 0, .const, .ro, 0, 18446744073709551615⟩
def PWR_WAKE_EN : Field := ⟨0x30064, 0x0, 0x0, 0, 5, 31, .const, .rw, 0, 31⟩
def PWR_WAKE_LAST_SRC : Field := ⟨0x30068, 0x0, 0x0, 0, 5, 0, .const, .ro, 0, 31⟩
def PWR_WAKE_LAST_TRUNK : Field := ⟨0x30068, 0x0, 0x0, 8, 4, 0, .const, .ro, 0, 15⟩
def PWR_WAKE_LAST_FROM : Field := ⟨0x30068, 0x0, 0x0, 12, 3, 0, .const, .ro, 0, 7⟩
def PWR_WAKE_CNT : Field := ⟨0x3006C, 0x0, 0x0, 0, 32, 0, .const, .ctr, 0, 4294967295⟩
def PWR_AON_TIME : Field := ⟨0x30070, 0x0, 0x0, 0, 48, 0, .const, .ro, 0, 281474976710655⟩
def PWR_WAKE_TIME : Field := ⟨0x30078, 0x0, 0x0, 0, 48, 0, .const, .rw, 0, 281474976710655⟩
def PWR_I2C_CFG_ADDR : Field := ⟨0x30080, 0x0, 0x0, 0, 7, 74, .const, .rw, 8, 119⟩
def PWR_REFUSE_CNT : Field := ⟨0x300C0, 0x0, 0x4, 0, 32, 0, .const, .ctr, 0, 4294967295⟩

/-- The registers of Table 16.11 beyond the header. -/
def page030a : List Reg := [
  ⟨0x40, 0x0, 1, none, false, [PWR_REQ_TARGET]⟩,
  ⟨0x44, 0x0, 1, none, false, [PWR_STAT_STATE, PWR_STAT_BUSY, PWR_STAT_TARGET, PWR_STAT_REG_FAULT, PWR_STAT_LAST_RESULT]⟩,
  ⟨0x48, 0x0, 1, none, false, [PWR_DOM_STAT]⟩,
  ⟨0x4C, 0x0, 1, none, false, [PWR_VETO_STAT]⟩,
  ⟨0x50, 0x0, 1, none, false, [PWR_PROT_IDLE]⟩,
  ⟨0x54, 0x0, 1, none, false, [PWR_CPD_LOAD]⟩,
  ⟨0x58, 0x0, 1, none, false, [PWR_LAST_REF_ID, PWR_LAST_REF_TARGET, PWR_LAST_REF_ABORTED]⟩,
  ⟨0x5C, 0x0, 1, none, true, [PWR_LAST_REF_TSW]⟩]
def page030b : List Reg := [
  ⟨0x64, 0x0, 1, none, false, [PWR_WAKE_EN]⟩,
  ⟨0x68, 0x0, 1, none, false, [PWR_WAKE_LAST_SRC, PWR_WAKE_LAST_TRUNK, PWR_WAKE_LAST_FROM]⟩,
  ⟨0x6C, 0x0, 1, none, false, [PWR_WAKE_CNT]⟩,
  ⟨0x70, 0x0, 1, none, true, [PWR_AON_TIME]⟩,
  ⟨0x78, 0x0, 1, none, true, [PWR_WAKE_TIME]⟩,
  ⟨0x80, 0x0, 1, none, false, [PWR_I2C_CFG_ADDR]⟩,
  ⟨0xC0, 0x4, 10, none, false, [PWR_REFUSE_CNT]⟩]
def page030 : List Reg := page030a ++ page030b

/-! Table 16.12. -/

def PWR_PMB_CFG_RATE : Field := ⟨0x31040, 0x0, 0x0, 0, 1, 1, .const, .rwl, 0, 1⟩
def PWR_PMB_CFG_PEC : Field := ⟨0x31040, 0x0, 0x0, 1, 1, 0, .const, .rwl, 0, 1⟩
def PWR_STATUS_MASK : Field := ⟨0x31044, 0x0, 0x0, 0, 16, 59519, .const, .rw, 0, 65535⟩
def PWR_REG_CFG_ADDR : Field := ⟨0x31048, 0x0, 0x4, 0, 7, 64, .plusJ, .rwl, 0, 127⟩
def PWR_REG_CFG_PMB_PAGE : Field := ⟨0x31048, 0x0, 0x4, 8, 8, 255, .const, .rwl, 0, 255⟩
def PWR_REG_CFG_EN : Field := ⟨0x31048, 0x0, 0x4, 16, 1, 1, .const, .rwl, 0, 1⟩
def PWR_REG_STAT_STATUS : Field := ⟨0x31058, 0x0, 0x4, 0, 16, 0, .const, .ro, 0, 65535⟩
def PWR_REG_STAT_PENDING : Field := ⟨0x31058, 0x0, 0x4, 16, 1, 0, .const, .ro, 0, 1⟩
def PWR_REG_STAT_FAULT : Field := ⟨0x31058, 0x0, 0x4, 17, 1, 0, .const, .ro, 0, 1⟩
def PWR_VIDF : Field := ⟨0x31068, 0x0, 0x4, 0, 10, 0, .factory, .ro, 0, 1023⟩
def PWR_VIDU : Field := ⟨0x31074, 0x0, 0x4, 0, 8, 0, .const, .rw, 0, 255⟩
def PWR_VID : Field := ⟨0x31080, 0x0, 0x4, 0, 10, 0, .factory, .ro, 0, 1023⟩
def PWR_VCORE : Field := ⟨0x3108C, 0x0, 0x0, 0, 10, 0, .const, .ro, 0, 1023⟩
def PWR_REG_NOACK : Field := ⟨0x31090, 0x0, 0x0, 0, 32, 0, .const, .ctr, 0, 4294967295⟩

/-- The registers of Table 16.12 beyond the header. -/
def page031a : List Reg := [
  ⟨0x40, 0x0, 1, none, false, [PWR_PMB_CFG_RATE, PWR_PMB_CFG_PEC]⟩,
  ⟨0x44, 0x0, 1, none, false, [PWR_STATUS_MASK]⟩,
  ⟨0x48, 0x4, 4, none, false, [PWR_REG_CFG_ADDR, PWR_REG_CFG_PMB_PAGE, PWR_REG_CFG_EN]⟩,
  ⟨0x58, 0x4, 4, none, false, [PWR_REG_STAT_STATUS, PWR_REG_STAT_PENDING, PWR_REG_STAT_FAULT]⟩,
  ⟨0x68, 0x4, 3, none, false, [PWR_VIDF]⟩,
  ⟨0x74, 0x4, 3, none, false, [PWR_VIDU]⟩,
  ⟨0x80, 0x4, 3, none, false, [PWR_VID]⟩,
  ⟨0x8C, 0x0, 1, none, false, [PWR_VCORE]⟩]
def page031b : List Reg := [
  ⟨0x90, 0x0, 1, none, false, [PWR_REG_NOACK]⟩]
def page031 : List Reg := page031a ++ page031b

/-! Table 16.13. -/

def CLK_LOCK : Field := ⟨0x32040, 0x0, 0x0, 0, 16, 0, .const, .ro, 0, 65535⟩
def CLK_LOL : Field := ⟨0x32044, 0x0, 0x0, 0, 16, 0, .const, .w1c, 0, 65535⟩
def CLK_LOL_CNT : Field := ⟨0x32048, 0x0, 0x0, 0, 32, 0, .const, .ctr, 0, 4294967295⟩
def CLK_AON_PPM : Field := ⟨0x3204C, 0x0, 0x0, 0, 16, 0, .const, .ro, 0, 65535⟩

/-- The registers of Table 16.13 beyond the header. -/
def page032 : List Reg := [
  ⟨0x40, 0x0, 1, none, false, [CLK_LOCK]⟩,
  ⟨0x44, 0x0, 1, none, false, [CLK_LOL]⟩,
  ⟨0x48, 0x0, 1, none, false, [CLK_LOL_CNT]⟩,
  ⟨0x4C, 0x0, 1, none, false, [CLK_AON_PPM]⟩]

/-! Table 17.10. -/

def CHIP_RST_CMD_OP : Field := ⟨0x1040, 0x0, 0x0, 0, 4, 0, .const, .wo, 0, 15⟩
def CHIP_RST_CAUSE_COLD : Field := ⟨0x1044, 0x0, 0x0, 0, 1, 1, .const, .w1c, 0, 1⟩
def CHIP_RST_CAUSE_PIN : Field := ⟨0x1044, 0x0, 0x0, 1, 1, 0, .const, .w1c, 0, 1⟩
def CHIP_RST_CAUSE_COMMAND : Field := ⟨0x1044, 0x0, 0x0, 2, 1, 0, .const, .w1c, 0, 1⟩
def CHIP_RST_CAUSE_PLL : Field := ⟨0x1044, 0x0, 0x0, 3, 1, 0, .const, .w1c, 0, 1⟩
def CHIP_RST_CAUSE_P4_WAKE : Field := ⟨0x1044, 0x0, 0x0, 4, 1, 0, .const, .w1c, 0, 1⟩
def CHIP_RST_CNT : Field := ⟨0x1048, 0x0, 0x0, 0, 32, 0, .const, .ctr, 0, 4294967295⟩
def CHIP_RST_TSW : Field := ⟨0x104C, 0x0, 0x0, 0, 64, 0, .const, .ro, 0, 18446744073709551615⟩
def CHIP_RST_STAT_LAST_RESULT : Field := ⟨0x1054, 0x0, 0x0, 16, 4, 0, .const, .ro, 0, 15⟩
def CHIP_RST_DENIED : Field := ⟨0x1058, 0x0, 0x0, 0, 32, 0, .const, .ctr, 0, 4294967295⟩

/-- The registers of Table 17.10 beyond the header. -/
def page001 : List Reg := [
  ⟨0x40, 0x0, 1, none, false, [CHIP_RST_CMD_OP]⟩,
  ⟨0x44, 0x0, 1, none, false, [CHIP_RST_CAUSE_COLD, CHIP_RST_CAUSE_PIN, CHIP_RST_CAUSE_COMMAND, CHIP_RST_CAUSE_PLL, CHIP_RST_CAUSE_P4_WAKE]⟩,
  ⟨0x48, 0x0, 1, none, false, [CHIP_RST_CNT]⟩,
  ⟨0x4C, 0x0, 1, none, true, [CHIP_RST_TSW]⟩,
  ⟨0x54, 0x0, 1, none, false, [CHIP_RST_STAT_LAST_RESULT]⟩,
  ⟨0x58, 0x0, 1, none, false, [CHIP_RST_DENIED]⟩]

/-! Table 17.11. -/

def MON_GRP_PEND : Field := ⟨0x50040, 0x0, 0x0, 0, 32, 0, .const, .ro, 0, 4294967295⟩
def MON_ROUTE_INT : Field := ⟨0x50044, 0x0, 0x0, 0, 32, 0, .const, .rw, 0, 4294967295⟩
def MON_ROUTE_HOST : Field := ⟨0x50048, 0x0, 0x0, 0, 32, 0, .const, .rw, 0, 4294967295⟩
def MON_ROUTE_MGT : Field := ⟨0x5004C, 0x0, 0x0, 0, 30, 1073741823, .const, .rw, 0, 1073741823⟩
def MON_HOST_VEC_VEC : Field := ⟨0x50050, 0x0, 0x0, 0, 6, 0, .const, .rw, 0, 63⟩
def MON_HOST_VEC_EN : Field := ⟨0x50050, 0x0, 0x0, 31, 1, 0, .const, .rw, 0, 1⟩
def MON_INTN_STAT_INT_N : Field := ⟨0x50054, 0x0, 0x0, 0, 1, 0, .const, .ro, 0, 1⟩
def MON_INTN_STAT_ROUTED : Field := ⟨0x50054, 0x0, 0x0, 1, 1, 0, .const, .ro, 0, 1⟩
def MON_INTN_STAT_EVENT : Field := ⟨0x50054, 0x0, 0x0, 2, 1, 0, .const, .ro, 0, 1⟩
def MON_IRQ_SUM : Field := ⟨0x50080, 0x0, 0x4, 0, 32, 0, .const, .ro, 0, 4294967295⟩

/-- The registers of Table 17.11 beyond the header. -/
def page050 : List Reg := [
  ⟨0x40, 0x0, 1, none, false, [MON_GRP_PEND]⟩,
  ⟨0x44, 0x0, 1, none, false, [MON_ROUTE_INT]⟩,
  ⟨0x48, 0x0, 1, none, false, [MON_ROUTE_HOST]⟩,
  ⟨0x4C, 0x0, 1, none, false, [MON_ROUTE_MGT]⟩,
  ⟨0x50, 0x0, 1, none, false, [MON_HOST_VEC_VEC, MON_HOST_VEC_EN]⟩,
  ⟨0x54, 0x0, 1, none, false, [MON_INTN_STAT_INT_N, MON_INTN_STAT_ROUTED, MON_INTN_STAT_EVENT]⟩,
  ⟨0x80, 0x4, 32, none, false, [MON_IRQ_SUM]⟩]

/-! Table 17.12. -/

def MON_TEMP_THR_HOT : Field := ⟨0x51040, 0x0, 0x0, 0, 8, 110, .const, .rw, 90, 125⟩
def MON_TEMP_THR_CRIT : Field := ⟨0x51040, 0x0, 0x0, 8, 8, 120, .const, .rw, 100, 130⟩
def MON_TEMP_MAX_TEMP : Field := ⟨0x51044, 0x0, 0x0, 0, 16, 0, .const, .ro, 0, 65535⟩
def MON_TEMP_MAX_SENSOR : Field := ⟨0x51044, 0x0, 0x0, 16, 3, 0, .const, .ro, 0, 7⟩
def MON_TEMPF : Field := ⟨0x51080, 0x0, 0x10, 0, 16, 0, .factory, .ro, 0, 65535⟩
def MON_TEMPU : Field := ⟨0x51084, 0x0, 0x10, 0, 16, 0, .const, .rw, 0, 65535⟩
def MON_TEMP : Field := ⟨0x51088, 0x0, 0x10, 0, 16, 0, .const, .ro, 0, 65535⟩

/-- The registers of Table 17.12 beyond the header. -/
def page051 : List Reg := [
  ⟨0x40, 0x0, 1, none, false, [MON_TEMP_THR_HOT, MON_TEMP_THR_CRIT]⟩,
  ⟨0x44, 0x0, 1, none, false, [MON_TEMP_MAX_TEMP, MON_TEMP_MAX_SENSOR]⟩,
  ⟨0x80, 0x10, 8, none, false, [MON_TEMPF]⟩,
  ⟨0x84, 0x10, 8, none, false, [MON_TEMPU]⟩,
  ⟨0x88, 0x10, 8, none, false, [MON_TEMP]⟩]

/-! Table 18.2. -/

def CHIP_PART_PART : Field := ⟨0x40, 0x0, 0x0, 0, 16, 0x4816, .const, .ro, 0, 65535⟩
def CHIP_PART_CORE_REV : Field := ⟨0x40, 0x0, 0x0, 16, 8, 0, .factory, .ro, 0, 255⟩
def CHIP_PART_PD_REV : Field := ⟨0x40, 0x0, 0x0, 24, 8, 0, .factory, .ro, 0, 255⟩

/-- The registers of Table 18.2 beyond the header. -/
def page000 : List Reg := [
  ⟨0x40, 0x0, 1, none, false, [CHIP_PART_PART, CHIP_PART_CORE_REV, CHIP_PART_PD_REV]⟩]

/-! Table 18.3. -/

def PAGE_CTL_EN : Field := ⟨0x8, 0x1000, 0x0, 0, 1, 1, .const, .rw, 0, 1⟩
def PAGE_CTL_SRST : Field := ⟨0x8, 0x1000, 0x0, 1, 1, 0, .const, .w1s, 0, 1⟩
def PAGE_CTL_LOCK : Field := ⟨0x8, 0x1000, 0x0, 2, 1, 0, .const, .w1s, 0, 1⟩
def PAGE_IRQ_EN : Field := ⟨0x14, 0x1000, 0x0, 0, 32, 0, .const, .rw, 0, 4294967295⟩
def ERR_CAPT0_OFFSET : Field := ⟨0x20, 0x1000, 0x0, 0, 12, 0, .const, .ro, 0, 4095⟩
def ERR_CAPT0_PATH : Field := ⟨0x20, 0x1000, 0x0, 12, 3, 0, .const, .ro, 0, 7⟩
def ERR_CAPT0_WRITE : Field := ⟨0x20, 0x1000, 0x0, 15, 1, 0, .const, .ro, 0, 1⟩
def ERR_CAPT0_CAUSE : Field := ⟨0x20, 0x1000, 0x0, 16, 4, 0, .const, .ro, 0, 15⟩
def ERR_CAPT0_VALID : Field := ⟨0x20, 0x1000, 0x0, 31, 1, 0, .const, .w1c, 0, 1⟩
def ERR_CAPT1 : Field := ⟨0x24, 0x1000, 0x0, 0, 32, 0, .const, .ro, 0, 4294967295⟩
def ERR_CAPT2_BE : Field := ⟨0x28, 0x1000, 0x0, 0, 4, 0, .const, .ro, 0, 15⟩
def ERR_CAPT2_PAGE : Field := ⟨0x28, 0x1000, 0x0, 4, 10, 0, .const, .ro, 0, 1023⟩
def ERR_CAPT2_COUNT : Field := ⟨0x28, 0x1000, 0x0, 16, 16, 0, .const, .ro, 0, 65535⟩
def ERR_CAPT3_NS : Field := ⟨0x2C, 0x1000, 0x0, 0, 30, 0, .const, .ro, 0, 1073741823⟩
def PAGE_AUTH_RD : Field := ⟨0x30, 0x1000, 0x0, 0, 8, 0, .auth, .ro, 0, 255⟩
def PAGE_AUTH_WR : Field := ⟨0x30, 0x1000, 0x0, 8, 8, 0, .auth, .ro, 0, 255⟩
def PAGE_AUTH_LOCKED : Field := ⟨0x30, 0x1000, 0x0, 31, 1, 0, .auth, .ro, 0, 1⟩
def PAGE_SCRATCH : Field := ⟨0x34, 0x1000, 0x0, 0, 32, 0, .const, .rw, 0, 4294967295⟩

end Sys2Proof.Machine.R
end

