-- ==== Sys2Proof/Machine/RegsTraffic.lean ====
section
/-! DEFINITION. The register fields of the register pages of chapters 01 to 06 of spec/ (tunnel map, trunks, planes, scheduler, time, journal): one descriptor per field (byte address of instance 0, bytes between instances, place, width, reset value, access type, limits), written from the register tables named at each page, and the list of registers of each page. -/

namespace Sys2Proof.Machine.R

/-! Table 1.13. -/

def TMAP_INDEX_INDEX : Field := ⟨0x280040, 0x0, 0x0, 0, 15, 0, .const, .rw, 0, 32767⟩
def TMAP_INDEX_AUTOINC : Field := ⟨0x280040, 0x0, 0x0, 16, 1, 0, .const, .rw, 0, 1⟩
def TMAP_DATA : Field := ⟨0x280044, 0x0, 0x4, 0, 32, 0, .const, .rw, 0, 4294967295⟩
def TMAP_CMD_OP : Field := ⟨0x280054, 0x0, 0x0, 0, 4, 0, .const, .wo, 0, 15⟩
def TMAP_STAT_BUSY : Field := ⟨0x280058, 0x0, 0x0, 0, 1, 0, .const, .ro, 0, 1⟩
def TMAP_STAT_EDIT_OPEN : Field := ⟨0x280058, 0x0, 0x0, 1, 1, 0, .const, .ro, 0, 1⟩
def TMAP_STAT_EDIT_PATH : Field := ⟨0x280058, 0x0, 0x0, 2, 3, 0, .const, .ro, 0, 7⟩
def TMAP_STAT_STAGED : Field := ⟨0x280058, 0x0, 0x0, 5, 9, 0, .const, .ro, 0, 511⟩
def TMAP_STAT_LAST_RESULT : Field := ⟨0x280058, 0x0, 0x0, 16, 4, 0, .const, .ro, 0, 15⟩
def TMAP_COMMIT_CNT : Field := ⟨0x28005C, 0x0, 0x0, 0, 32, 0, .const, .ctr, 0, 4294967295⟩
def TMAP_FENCE_TMO : Field := ⟨0x280060, 0x0, 0x0, 0, 32, 1000, .const, .rw, 10, 65535⟩
def TMAP_MISS_CNT : Field := ⟨0x280064, 0x0, 0x0, 0, 32, 0, .const, .ctr, 0, 4294967295⟩
def TMAP_DUP_CNT : Field := ⟨0x280068, 0x0, 0x0, 0, 32, 0, .const, .ctr, 0, 4294967295⟩
def TMAP_STALE_CNT : Field := ⟨0x28006C, 0x0, 0x0, 0, 32, 0, .const, .ctr, 0, 4294967295⟩
def TMAP_FENCE_TMO_CNT : Field := ⟨0x280070, 0x0, 0x0, 0, 32, 0, .const, .ctr, 0, 4294967295⟩
def TMAP_ECC_CNT_CORR : Field := ⟨0x280074, 0x0, 0x0, 0, 16, 0, .const, .ctr, 0, 65535⟩
def TMAP_ECC_CNT_UNCORR : Field := ⟨0x280074, 0x0, 0x0, 16, 16, 0, .const, .ctr, 0, 65535⟩
def TMAP_MISS_ID : Field := ⟨0x280078, 0x0, 0x0, 0, 15, 0, .const, .ro, 0, 32767⟩
def TMAP_CAPWARN_CNT : Field := ⟨0x28007C, 0x0, 0x0, 0, 32, 0, .const, .ctr, 0, 4294967295⟩
def TMAP_BAD_INDEX : Field := ⟨0x280080, 0x0, 0x0, 0, 15, 0, .const, .ro, 0, 32767⟩
def TMAP_OVERSIZE_CNT : Field := ⟨0x280084, 0x0, 0x0, 0, 32, 0, .const, .ctr, 0, 4294967295⟩

/-- The registers of Table 1.13 beyond the header. -/
def page280a : List Reg := [
  ⟨0x40, 0x0, 1, none, false, [TMAP_INDEX_INDEX, TMAP_INDEX_AUTOINC]⟩,
  ⟨0x44, 0x4, 4, none, false, [TMAP_DATA]⟩,
  ⟨0x54, 0x0, 1, none, false, [TMAP_CMD_OP]⟩,
  ⟨0x58, 0x0, 1, none, false, [TMAP_STAT_BUSY, TMAP_STAT_EDIT_OPEN, TMAP_STAT_EDIT_PATH, TMAP_STAT_STAGED, TMAP_STAT_LAST_RESULT]⟩,
  ⟨0x5C, 0x0, 1, none, false, [TMAP_COMMIT_CNT]⟩,
  ⟨0x60, 0x0, 1, none, false, [TMAP_FENCE_TMO]⟩,
  ⟨0x64, 0x0, 1, none, false, [TMAP_MISS_CNT]⟩,
  ⟨0x68, 0x0, 1, none, false, [TMAP_DUP_CNT]⟩]
def page280b : List Reg := [
  ⟨0x6C, 0x0, 1, none, false, [TMAP_STALE_CNT]⟩,
  ⟨0x70, 0x0, 1, none, false, [TMAP_FENCE_TMO_CNT]⟩,
  ⟨0x74, 0x0, 1, none, false, [TMAP_ECC_CNT_CORR, TMAP_ECC_CNT_UNCORR]⟩,
  ⟨0x78, 0x0, 1, none, false, [TMAP_MISS_ID]⟩,
  ⟨0x7C, 0x0, 1, none, false, [TMAP_CAPWARN_CNT]⟩,
  ⟨0x80, 0x0, 1, none, false, [TMAP_BAD_INDEX]⟩,
  ⟨0x84, 0x0, 1, none, false, [TMAP_OVERSIZE_CNT]⟩]
def page280 : List Reg := page280a ++ page280b

/-! Table 2.8. -/

def TRK_LCFG_EN : Field := ⟨0x80040, 0x8000, 0x0, 0, 1, 0, .const, .rw, 0, 1⟩
def TRK_LCFG_ROLE : Field := ⟨0x80040, 0x8000, 0x0, 1, 1, 0, .const, .rwl, 0, 1⟩
def TRK_LCFG_ALLOW_V21 : Field := ⟨0x80040, 0x8000, 0x0, 2, 1, 1, .const, .rwl, 0, 1⟩
def TRK_LCFG_MAX_VCS : Field := ⟨0x80040, 0x8000, 0x0, 4, 4, 8, .const, .rwl, 2, 8⟩
def TRK_LCFG_ACK_CELLS : Field := ⟨0x80040, 0x8000, 0x0, 8, 6, 16, .const, .rw, 1, 63⟩
def TRK_LCFG_REPLAY_LIMIT : Field := ⟨0x80040, 0x8000, 0x0, 16, 8, 8, .const, .rw, 1, 255⟩
def TRK_LCMD_OP : Field := ⟨0x80044, 0x8000, 0x0, 0, 4, 0, .const, .wo, 0, 15⟩
def TRK_ACKTMO : Field := ⟨0x80048, 0x8000, 0x0, 0, 16, 1000, .const, .rw, 100, 10000⟩
def TRK_RPLTMO : Field := ⟨0x8004C, 0x8000, 0x0, 0, 20, 4000, .const, .rw, 1000, 100000⟩
def TRK_HOLDOFF : Field := ⟨0x80050, 0x8000, 0x0, 0, 20, 1000, .const, .rw, 100, 50000⟩
def TRK_CREDCFG_CRED_BATCH : Field := ⟨0x80054, 0x8000, 0x0, 0, 8, 8, .const, .rw, 1, 255⟩
def TRK_CREDCFG_CRED_REFRESH : Field := ⟨0x80054, 0x8000, 0x0, 16, 16, 10, .const, .rw, 1, 1000⟩
def TRK_DRAIN : Field := ⟨0x80058, 0x8000, 0x0, 0, 14, 100, .const, .rw, 10, 10000⟩
def TRK_VC_CRED : Field := ⟨0x80060, 0x8000, 0x4, 0, 12, 256, .const, .rw, 16, 4095⟩
def TRK_LSTAT_STATE : Field := ⟨0x80080, 0x8000, 0x0, 0, 3, 0, .const, .ro, 0, 7⟩
def TRK_LSTAT_V21 : Field := ⟨0x80080, 0x8000, 0x0, 3, 1, 0, .const, .ro, 0, 1⟩
def TRK_LSTAT_VCS : Field := ⟨0x80080, 0x8000, 0x0, 4, 4, 0, .const, .ro, 0, 15⟩
def TRK_LSTAT_PEER_ROLE : Field := ⟨0x80080, 0x8000, 0x0, 8, 1, 0, .const, .ro, 0, 1⟩
def TRK_LSTAT_PEER_MIN : Field := ⟨0x80080, 0x8000, 0x0, 16, 4, 0, .const, .ro, 0, 15⟩
def TRK_LSTAT_PEER_MAJ : Field := ⟨0x80080, 0x8000, 0x0, 20, 4, 0, .const, .ro, 0, 15⟩
def TRK_LSTAT_CAUSE : Field := ⟨0x80080, 0x8000, 0x0, 24, 4, 0, .const, .ro, 0, 15⟩
def TRK_RTT : Field := ⟨0x80084, 0x8000, 0x0, 0, 16, 0, .const, .ro, 0, 65535⟩
def TRK_PEER_ID : Field := ⟨0x80088, 0x8000, 0x0, 0, 24, 0, .const, .ro, 0, 16777215⟩
def TRK_TXSEQ_X : Field := ⟨0x8008C, 0x8000, 0x0, 0, 16, 0, .const, .ro, 0, 65535⟩
def TRK_TXSEQ_O : Field := ⟨0x8008C, 0x8000, 0x0, 16, 16, 0, .const, .ro, 0, 65535⟩
def TRK_RXSEQ_CUM : Field := ⟨0x80090, 0x8000, 0x0, 0, 16, 65535, .const, .ro, 0, 65535⟩
def TRK_RXSEQ_FILL : Field := ⟨0x80090, 0x8000, 0x0, 16, 9, 0, .const, .ro, 0, 511⟩
def TRK_CRED_SEL_VC : Field := ⟨0x80094, 0x8000, 0x0, 0, 3, 0, .const, .rw, 0, 7⟩
def TRK_CRED_TX : Field := ⟨0x80098, 0x8000, 0x400000, 0, 24, 0, .const, .ro, 0, 16777215⟩
def TRK_CRED_RX : Field := ⟨0x8009C, 0x8000, 0x400000, 0, 24, 0, .const, .ro, 0, 16777215⟩
def TRK_REPLAY_MAX : Field := ⟨0x800A0, 0x8000, 0x0, 0, 20, 0, .const, .ro, 0, 1048575⟩

/-- The registers of Table 2.8 beyond the header. -/
def page080a : List Reg := [
  ⟨0x40, 0x0, 1, none, false, [TRK_LCFG_EN, TRK_LCFG_ROLE, TRK_LCFG_ALLOW_V21, TRK_LCFG_MAX_VCS, TRK_LCFG_ACK_CELLS, TRK_LCFG_REPLAY_LIMIT]⟩,
  ⟨0x44, 0x0, 1, none, false, [TRK_LCMD_OP]⟩,
  ⟨0x48, 0x0, 1, none, false, [TRK_ACKTMO]⟩,
  ⟨0x4C, 0x0, 1, none, false, [TRK_RPLTMO]⟩,
  ⟨0x50, 0x0, 1, none, false, [TRK_HOLDOFF]⟩,
  ⟨0x54, 0x0, 1, none, false, [TRK_CREDCFG_CRED_BATCH, TRK_CREDCFG_CRED_REFRESH]⟩,
  ⟨0x58, 0x0, 1, none, false, [TRK_DRAIN]⟩,
  ⟨0x60, 0x4, 8, none, false, [TRK_VC_CRED]⟩]
def page080b : List Reg := [
  ⟨0x80, 0x0, 1, none, false, [TRK_LSTAT_STATE, TRK_LSTAT_V21, TRK_LSTAT_VCS, TRK_LSTAT_PEER_ROLE, TRK_LSTAT_PEER_MIN, TRK_LSTAT_PEER_MAJ, TRK_LSTAT_CAUSE]⟩,
  ⟨0x84, 0x0, 1, none, false, [TRK_RTT]⟩,
  ⟨0x88, 0x0, 1, none, false, [TRK_PEER_ID]⟩,
  ⟨0x8C, 0x0, 1, none, false, [TRK_TXSEQ_X, TRK_TXSEQ_O]⟩,
  ⟨0x90, 0x0, 1, none, false, [TRK_RXSEQ_CUM, TRK_RXSEQ_FILL]⟩,
  ⟨0x94, 0x0, 1, none, false, [TRK_CRED_SEL_VC]⟩,
  ⟨0x98, 0x0, 1, (some TRK_CRED_SEL_VC), false, [TRK_CRED_TX]⟩,
  ⟨0x9C, 0x0, 1, (some TRK_CRED_SEL_VC), false, [TRK_CRED_RX]⟩]
def page080c : List Reg := [
  ⟨0xA0, 0x0, 1, none, false, [TRK_REPLAY_MAX]⟩]
def page080 : List Reg := page080a ++ page080b ++ page080c

/-! Table 2.12. -/

def TRK_TX_CELLS : Field := ⟨0x81040, 0x8000, 0x0, 0, 64, 0, .const, .ctr, 0, 18446744073709551615⟩
def TRK_RX_CELLS : Field := ⟨0x81048, 0x8000, 0x0, 0, 64, 0, .const, .ctr, 0, 18446744073709551615⟩
def TRK_CRC_ERR : Field := ⟨0x81050, 0x8000, 0x0, 0, 32, 0, .const, .ctr, 0, 4294967295⟩
def TRK_NAK_TX : Field := ⟨0x81054, 0x8000, 0x0, 0, 32, 0, .const, .ctr, 0, 4294967295⟩
def TRK_NAK_RX : Field := ⟨0x81058, 0x8000, 0x0, 0, 32, 0, .const, .ctr, 0, 4294967295⟩
def TRK_RESENT : Field := ⟨0x8105C, 0x8000, 0x0, 0, 32, 0, .const, .ctr, 0, 4294967295⟩
def TRK_RPL_TMO : Field := ⟨0x81060, 0x8000, 0x0, 0, 32, 0, .const, .ctr, 0, 4294967295⟩
def TRK_STALL_CNT : Field := ⟨0x81064, 0x8000, 0x0, 0, 32, 0, .const, .ctr, 0, 4294967295⟩
def TRK_STALL_NS : Field := ⟨0x81068, 0x8000, 0x0, 0, 64, 0, .const, .ctr, 0, 18446744073709551615⟩
def TRK_FRAME_ERR : Field := ⟨0x81070, 0x8000, 0x0, 0, 32, 0, .const, .ctr, 0, 4294967295⟩
def TRK_SEQ_ERR : Field := ⟨0x81074, 0x8000, 0x0, 0, 32, 0, .const, .ctr, 0, 4294967295⟩
def TRK_DUP_RX : Field := ⟨0x81078, 0x8000, 0x0, 0, 32, 0, .const, .ctr, 0, 4294967295⟩
def TRK_ACK_ERR : Field := ⟨0x8107C, 0x8000, 0x0, 0, 32, 0, .const, .ctr, 0, 4294967295⟩
def TRK_CTL_ERR : Field := ⟨0x81080, 0x8000, 0x0, 0, 32, 0, .const, .ctr, 0, 4294967295⟩
def TRK_STALE_CRED : Field := ⟨0x81084, 0x8000, 0x0, 0, 32, 0, .const, .ctr, 0, 4294967295⟩
def TRK_DOWN_CNT : Field := ⟨0x81088, 0x8000, 0x0, 0, 32, 0, .const, .ctr, 0, 4294967295⟩
def TRK_LOST_CELLS : Field := ⟨0x8108C, 0x8000, 0x0, 0, 32, 0, .const, .ctr, 0, 4294967295⟩
def TRK_OVERSIZE : Field := ⟨0x81090, 0x8000, 0x0, 0, 32, 0, .const, .ctr, 0, 4294967295⟩
def TRK_ABORT_RX : Field := ⟨0x81094, 0x8000, 0x0, 0, 32, 0, .const, .ctr, 0, 4294967295⟩

/-- The registers of Table 2.12 beyond the header. -/
def page081a : List Reg := [
  ⟨0x40, 0x0, 1, none, true, [TRK_TX_CELLS]⟩,
  ⟨0x48, 0x0, 1, none, true, [TRK_RX_CELLS]⟩,
  ⟨0x50, 0x0, 1, none, false, [TRK_CRC_ERR]⟩,
  ⟨0x54, 0x0, 1, none, false, [TRK_NAK_TX]⟩,
  ⟨0x58, 0x0, 1, none, false, [TRK_NAK_RX]⟩,
  ⟨0x5C, 0x0, 1, none, false, [TRK_RESENT]⟩,
  ⟨0x60, 0x0, 1, none, false, [TRK_RPL_TMO]⟩,
  ⟨0x64, 0x0, 1, none, false, [TRK_STALL_CNT]⟩]
def page081b : List Reg := [
  ⟨0x68, 0x0, 1, none, true, [TRK_STALL_NS]⟩,
  ⟨0x70, 0x0, 1, none, false, [TRK_FRAME_ERR]⟩,
  ⟨0x74, 0x0, 1, none, false, [TRK_SEQ_ERR]⟩,
  ⟨0x78, 0x0, 1, none, false, [TRK_DUP_RX]⟩,
  ⟨0x7C, 0x0, 1, none, false, [TRK_ACK_ERR]⟩,
  ⟨0x80, 0x0, 1, none, false, [TRK_CTL_ERR]⟩,
  ⟨0x84, 0x0, 1, none, false, [TRK_STALE_CRED]⟩,
  ⟨0x88, 0x0, 1, none, false, [TRK_DOWN_CNT]⟩]
def page081c : List Reg := [
  ⟨0x8C, 0x0, 1, none, false, [TRK_LOST_CELLS]⟩,
  ⟨0x90, 0x0, 1, none, false, [TRK_OVERSIZE]⟩,
  ⟨0x94, 0x0, 1, none, false, [TRK_ABORT_RX]⟩]
def page081 : List Reg := page081a ++ page081b ++ page081c

/-! Table 3.6. -/

def TRK_LANECFG_MAX_RATE : Field := ⟨0x82040, 0x8000, 0x0, 0, 1, 1, .const, .rwl, 0, 1⟩
def TRK_LANECFG_MAX_WIDTH : Field := ⟨0x82040, 0x8000, 0x0, 1, 2, 2, .const, .rwl, 1, 2⟩
def TRK_LANECFG_SPARE_EN : Field := ⟨0x82040, 0x8000, 0x0, 3, 1, 1, .const, .rw, 0, 1⟩
def TRK_LANECFG_PRED_EN : Field := ⟨0x82040, 0x8000, 0x0, 4, 1, 1, .const, .rw, 0, 1⟩
def TRK_LANECFG_REQUAL_TIME : Field := ⟨0x82040, 0x8000, 0x0, 16, 12, 10, .const, .rw, 1, 3600⟩
def TRK_LANECMD_OP : Field := ⟨0x82044, 0x8000, 0x0, 0, 4, 0, .const, .wo, 0, 15⟩
def TRK_LANECMD_LANE : Field := ⟨0x82044, 0x8000, 0x0, 4, 2, 0, .const, .wo, 0, 3⟩
def TRK_LANESTAT_RATE : Field := ⟨0x82048, 0x8000, 0x0, 0, 1, 0, .const, .ro, 0, 1⟩
def TRK_LANESTAT_WIDTH : Field := ⟨0x82048, 0x8000, 0x0, 1, 2, 0, .const, .ro, 0, 3⟩
def TRK_LANESTAT_P0_LANE : Field := ⟨0x82048, 0x8000, 0x0, 4, 2, 3, .const, .ro, 0, 3⟩
def TRK_LANESTAT_P1_LANE : Field := ⟨0x82048, 0x8000, 0x0, 6, 2, 3, .const, .ro, 0, 3⟩
def TRK_LANESTAT_SPARE_LANE : Field := ⟨0x82048, 0x8000, 0x0, 8, 2, 3, .const, .ro, 0, 3⟩
def TRK_LANESTAT_RETIRED_LANE : Field := ⟨0x82048, 0x8000, 0x0, 10, 2, 3, .const, .ro, 0, 3⟩
def TRK_LANESTAT_LEARNING : Field := ⟨0x82048, 0x8000, 0x0, 12, 1, 0, .const, .ro, 0, 1⟩
def TRK_LANESTAT_SUBST_BUSY : Field := ⟨0x82048, 0x8000, 0x0, 13, 1, 0, .const, .ro, 0, 1⟩
def TRK_LANESTAT_ALTMODE : Field := ⟨0x82048, 0x8000, 0x0, 14, 2, 0, .const, .ro, 0, 3⟩
def TRK_LANESTAT_RETIRED_MASK : Field := ⟨0x82048, 0x8000, 0x0, 16, 3, 0, .const, .ro, 0, 7⟩
def TRK_LANETX_P0_LANE : Field := ⟨0x8204C, 0x8000, 0x0, 4, 2, 3, .const, .ro, 0, 3⟩
def TRK_LANETX_P1_LANE : Field := ⟨0x8204C, 0x8000, 0x0, 6, 2, 3, .const, .ro, 0, 3⟩
def TRK_LANETX_SPARE_LANE : Field := ⟨0x8204C, 0x8000, 0x0, 8, 2, 3, .const, .ro, 0, 3⟩
def TRK_LANETX_RETIRED_LANE : Field := ⟨0x8204C, 0x8000, 0x0, 10, 2, 3, .const, .ro, 0, 3⟩
def TRK_LANETX_RETIRED_MASK : Field := ⟨0x8204C, 0x8000, 0x0, 16, 3, 0, .const, .ro, 0, 7⟩
def TRK_THR_EYE_EYE_H_MIN : Field := ⟨0x82050, 0x8000, 0x0, 0, 8, 26, .const, .rw, 1, 127⟩
def TRK_THR_EYE_EYE_V_MIN : Field := ⟨0x82050, 0x8000, 0x0, 8, 8, 25, .const, .rw, 1, 255⟩
def TRK_THR_EYE_CONSEC : Field := ⟨0x82050, 0x8000, 0x0, 16, 4, 3, .const, .rw, 1, 15⟩
def TRK_THR_BIP : Field := ⟨0x82054, 0x8000, 0x0, 0, 16, 16, .const, .rw, 1, 65535⟩
def TRK_SUBST_CNT_REACT : Field := ⟨0x82058, 0x8000, 0x0, 0, 16, 0, .const, .ctr, 0, 65535⟩
def TRK_SUBST_CNT_PRED : Field := ⟨0x82058, 0x8000, 0x0, 16, 16, 0, .const, .ctr, 0, 65535⟩
def TRK_SUBST_MAX : Field := ⟨0x8205C, 0x8000, 0x0, 0, 16, 0, .const, .ctr, 0, 65535⟩
def TRK_TRAIN_FAIL : Field := ⟨0x82060, 0x8000, 0x0, 0, 32, 0, .const, .ctr, 0, 4294967295⟩
def TRK_DESKEW_L0 : Field := ⟨0x82064, 0x8000, 0x0, 0, 8, 0, .const, .ro, 0, 255⟩
def TRK_DESKEW_L1 : Field := ⟨0x82064, 0x8000, 0x0, 8, 8, 0, .const, .ro, 0, 255⟩
def TRK_DESKEW_LS : Field := ⟨0x82064, 0x8000, 0x0, 16, 8, 0, .const, .ro, 0, 255⟩
def TRK_EYE_EYE_H : Field := ⟨0x82070, 0x8000, 0x10, 0, 8, 0, .const, .ro, 0, 255⟩
def TRK_EYE_EYE_V : Field := ⟨0x82070, 0x8000, 0x10, 8, 8, 0, .const, .ro, 0, 255⟩
def TRK_EYE_EYE_H_BASE : Field := ⟨0x82070, 0x8000, 0x10, 16, 8, 0, .const, .ro, 0, 255⟩
def TRK_EYE_EYE_V_BASE : Field := ⟨0x82070, 0x8000, 0x10, 24, 8, 0, .const, .ro, 0, 255⟩
def TRK_BIP : Field := ⟨0x82074, 0x8000, 0x10, 0, 32, 0, .const, .ctr, 0, 4294967295⟩
def TRK_PEER_HEALTH_EYE_H : Field := ⟨0x82078, 0x8000, 0x10, 0, 8, 0, .const, .ro, 0, 255⟩
def TRK_PEER_HEALTH_EYE_V : Field := ⟨0x82078, 0x8000, 0x10, 8, 8, 0, .const, .ro, 0, 255⟩
def TRK_PEER_HEALTH_ERR : Field := ⟨0x82078, 0x8000, 0x10, 16, 16, 0, .const, .ro, 0, 65535⟩
def TRK_ALTCFG_MODE : Field := ⟨0x820A0, 0x8000, 0x0, 0, 2, 0, .const, .rw, 0, 3⟩
def TRK_ALTCFG_ETH_MAC : Field := ⟨0x820A0, 0x8000, 0x0, 2, 2, 0, .const, .rw, 0, 3⟩
def TRK_ALTCFG_DSP_OUT : Field := ⟨0x820A0, 0x8000, 0x0, 4, 2, 0, .const, .rw, 0, 3⟩

/-- The registers of Table 3.6 beyond the header. -/
def page082a : List Reg := [
  ⟨0x40, 0x0, 1, none, false, [TRK_LANECFG_MAX_RATE, TRK_LANECFG_MAX_WIDTH, TRK_LANECFG_SPARE_EN, TRK_LANECFG_PRED_EN, TRK_LANECFG_REQUAL_TIME]⟩,
  ⟨0x44, 0x0, 1, none, false, [TRK_LANECMD_OP, TRK_LANECMD_LANE]⟩,
  ⟨0x48, 0x0, 1, none, false, [TRK_LANESTAT_RATE, TRK_LANESTAT_WIDTH, TRK_LANESTAT_P0_LANE, TRK_LANESTAT_P1_LANE, TRK_LANESTAT_SPARE_LANE, TRK_LANESTAT_RETIRED_LANE, TRK_LANESTAT_LEARNING, TRK_LANESTAT_SUBST_BUSY, TRK_LANESTAT_ALTMODE, TRK_LANESTAT_RETIRED_MASK]⟩,
  ⟨0x4C, 0x0, 1, none, false, [TRK_LANETX_P0_LANE, TRK_LANETX_P1_LANE, TRK_LANETX_SPARE_LANE, TRK_LANETX_RETIRED_LANE, TRK_LANETX_RETIRED_MASK]⟩,
  ⟨0x50, 0x0, 1, none, false, [TRK_THR_EYE_EYE_H_MIN, TRK_THR_EYE_EYE_V_MIN, TRK_THR_EYE_CONSEC]⟩,
  ⟨0x54, 0x0, 1, none, false, [TRK_THR_BIP]⟩,
  ⟨0x58, 0x0, 1, none, false, [TRK_SUBST_CNT_REACT, TRK_SUBST_CNT_PRED]⟩,
  ⟨0x5C, 0x0, 1, none, false, [TRK_SUBST_MAX]⟩]
def page082b : List Reg := [
  ⟨0x60, 0x0, 1, none, false, [TRK_TRAIN_FAIL]⟩,
  ⟨0x64, 0x0, 1, none, false, [TRK_DESKEW_L0, TRK_DESKEW_L1, TRK_DESKEW_LS]⟩,
  ⟨0x70, 0x10, 3, none, false, [TRK_EYE_EYE_H, TRK_EYE_EYE_V, TRK_EYE_EYE_H_BASE, TRK_EYE_EYE_V_BASE]⟩,
  ⟨0x74, 0x10, 3, none, false, [TRK_BIP]⟩,
  ⟨0x78, 0x10, 3, none, false, [TRK_PEER_HEALTH_EYE_H, TRK_PEER_HEALTH_EYE_V, TRK_PEER_HEALTH_ERR]⟩,
  ⟨0xA0, 0x0, 1, none, false, [TRK_ALTCFG_MODE, TRK_ALTCFG_ETH_MAC, TRK_ALTCFG_DSP_OUT]⟩]
def page082 : List Reg := page082a ++ page082b

/-! Table 3.10. -/

def TRK_LATF_TX : Field := ⟨0x83040, 0x8000, 0x20, 0, 32, 0, .factory, .ro, 0, 4294967295⟩
def TRK_LATF_RX : Field := ⟨0x83044, 0x8000, 0x20, 0, 32, 0, .factory, .ro, 0, 4294967295⟩
def TRK_LATU_TX : Field := ⟨0x83048, 0x8000, 0x20, 0, 32, 0, .const, .rw, 0, 4294967295⟩
def TRK_LATU_RX : Field := ⟨0x8304C, 0x8000, 0x20, 0, 32, 0, .const, .rw, 0, 4294967295⟩
def TRK_LAT_TX : Field := ⟨0x83050, 0x8000, 0x20, 0, 16, 0, .const, .ro, 0, 65535⟩
def TRK_LAT_RX : Field := ⟨0x83054, 0x8000, 0x20, 0, 16, 0, .const, .ro, 0, 65535⟩

/-- The registers of Table 3.10 beyond the header. -/
def page083 : List Reg := [
  ⟨0x40, 0x20, 3, none, false, [TRK_LATF_TX]⟩,
  ⟨0x44, 0x20, 3, none, false, [TRK_LATF_RX]⟩,
  ⟨0x48, 0x20, 3, none, false, [TRK_LATU_TX]⟩,
  ⟨0x4C, 0x20, 3, none, false, [TRK_LATU_RX]⟩,
  ⟨0x50, 0x20, 3, none, false, [TRK_LAT_TX]⟩,
  ⟨0x54, 0x20, 3, none, false, [TRK_LAT_RX]⟩]

/-! Table 4.10. -/

def SW_CFG_EN : Field := ⟨0x100040, 0x80000, 0x0, 0, 1, 0, .const, .rw, 0, 1⟩
def SW_CFG_AUTO_RESTART : Field := ⟨0x100040, 0x80000, 0x0, 1, 1, 1, .const, .rw, 0, 1⟩
def SW_CFG_RESTART_MAX : Field := ⟨0x100040, 0x80000, 0x0, 2, 4, 3, .const, .rw, 0, 15⟩
def SW_CFG_HB_MISS : Field := ⟨0x100040, 0x80000, 0x0, 8, 4, 3, .const, .rw, 2, 15⟩
def SW_CMD_OP : Field := ⟨0x100044, 0x80000, 0x0, 0, 4, 0, .const, .wo, 0, 15⟩
def SW_STAT_STATE : Field := ⟨0x100048, 0x80000, 0x0, 0, 3, 0, .const, .ro, 0, 7⟩
def SW_STAT_CMD_RESULT : Field := ⟨0x100048, 0x80000, 0x0, 4, 4, 0, .const, .ro, 0, 15⟩
def SW_STAT_FAIL_CAUSE : Field := ⟨0x100048, 0x80000, 0x0, 8, 4, 0, .const, .ro, 0, 15⟩
def SW_STAT_RESTARTS : Field := ⟨0x100048, 0x80000, 0x0, 12, 4, 0, .const, .ro, 0, 15⟩
def SW_BUFCFG_TRK_RSV_MAX : Field := ⟨0x10004C, 0x80000, 0x0, 0, 16, 32768, .const, .rwl, 0, 40960⟩
def SW_BUFCFG_PROT_RSV : Field := ⟨0x10004C, 0x80000, 0x0, 16, 16, 1024, .const, .rwl, 0, 4096⟩
def SW_ADPCFG_ADP_MAX : Field := ⟨0x100050, 0x80000, 0x0, 0, 16, 4096, .const, .rw, 64, 49152⟩
def SW_ADPCFG_DE_THRESH : Field := ⟨0x100050, 0x80000, 0x0, 16, 16, 4096, .const, .rw, 0, 49152⟩
def SW_FREE_NOW : Field := ⟨0x100054, 0x80000, 0x0, 0, 16, 49152, .const, .ro, 0, 65535⟩
def SW_FREE_LOW : Field := ⟨0x100054, 0x80000, 0x0, 16, 16, 49152, .const, .ro, 0, 65535⟩
def SW_TRK_RSV : Field := ⟨0x100058, 0x80000, 0x0, 0, 16, 0, .const, .ro, 0, 65535⟩
def SW_ECC_CNT_CORR : Field := ⟨0x10005C, 0x80000, 0x0, 0, 16, 0, .const, .ctr, 0, 65535⟩
def SW_ECC_CNT_UNCORR : Field := ⟨0x10005C, 0x80000, 0x0, 16, 16, 0, .const, .ctr, 0, 65535⟩
def SW_DE_DISC : Field := ⟨0x100060, 0x80000, 0x0, 0, 32, 0, .const, .ctr, 0, 4294967295⟩
def SW_DOWN_DISC : Field := ⟨0x100064, 0x80000, 0x0, 0, 32, 0, .const, .ctr, 0, 4294967295⟩
def SW_NOPLANE_DISC : Field := ⟨0x100068, 0x80000, 0x0, 0, 32, 0, .const, .ctr, 0, 4294967295⟩
def SW_MATCH_CFG_ITER : Field := ⟨0x10006C, 0x80000, 0x0, 0, 2, 3, .const, .rw, 1, 3⟩

/-- The registers of Table 4.10 beyond the header. -/
def page100a : List Reg := [
  ⟨0x40, 0x0, 1, none, false, [SW_CFG_EN, SW_CFG_AUTO_RESTART, SW_CFG_RESTART_MAX, SW_CFG_HB_MISS]⟩,
  ⟨0x44, 0x0, 1, none, false, [SW_CMD_OP]⟩,
  ⟨0x48, 0x0, 1, none, false, [SW_STAT_STATE, SW_STAT_CMD_RESULT, SW_STAT_FAIL_CAUSE, SW_STAT_RESTARTS]⟩,
  ⟨0x4C, 0x0, 1, none, false, [SW_BUFCFG_TRK_RSV_MAX, SW_BUFCFG_PROT_RSV]⟩,
  ⟨0x50, 0x0, 1, none, false, [SW_ADPCFG_ADP_MAX, SW_ADPCFG_DE_THRESH]⟩,
  ⟨0x54, 0x0, 1, none, false, [SW_FREE_NOW, SW_FREE_LOW]⟩,
  ⟨0x58, 0x0, 1, none, false, [SW_TRK_RSV]⟩,
  ⟨0x5C, 0x0, 1, none, false, [SW_ECC_CNT_CORR, SW_ECC_CNT_UNCORR]⟩]
def page100b : List Reg := [
  ⟨0x60, 0x0, 1, none, false, [SW_DE_DISC]⟩,
  ⟨0x64, 0x0, 1, none, false, [SW_DOWN_DISC]⟩,
  ⟨0x68, 0x0, 1, none, false, [SW_NOPLANE_DISC]⟩,
  ⟨0x6C, 0x0, 1, none, false, [SW_MATCH_CFG_ITER]⟩]
def page100 : List Reg := page100a ++ page100b

/-! Table 4.14. -/

def SW_SDG_CFG_EN : Field := ⟨0x101040, 0x80000, 0x0, 0, 1, 1, .const, .rw, 0, 1⟩
def SW_SDG_CFG_AUTO_RECLAIM : Field := ⟨0x101040, 0x80000, 0x0, 1, 1, 1, .const, .rw, 0, 1⟩
def SW_SDG_STAT_SWEEPS : Field := ⟨0x101044, 0x80000, 0x0, 0, 16, 0, .const, .ctr, 0, 65535⟩
def SW_SDG_STAT_CELL : Field := ⟨0x101044, 0x80000, 0x0, 16, 16, 0, .const, .ro, 0, 65535⟩
def SW_SDG_RECLAIM : Field := ⟨0x101048, 0x80000, 0x0, 0, 32, 0, .const, .ctr, 0, 4294967295⟩
def SW_SDG_REFFIX : Field := ⟨0x10104C, 0x80000, 0x0, 0, 32, 0, .const, .ctr, 0, 4294967295⟩
def SW_SDG_FREEHELD : Field := ⟨0x101050, 0x80000, 0x0, 0, 32, 0, .const, .ctr, 0, 4294967295⟩
def SW_SDG_FREEERR : Field := ⟨0x101054, 0x80000, 0x0, 0, 32, 0, .const, .ctr, 0, 4294967295⟩
def SW_SDG_LAST_CELL : Field := ⟨0x101058, 0x80000, 0x0, 0, 16, 0, .const, .ro, 0, 65535⟩
def SW_SDG_LAST_TID : Field := ⟨0x101058, 0x80000, 0x0, 16, 15, 0, .const, .ro, 0, 32767⟩

/-- The registers of Table 4.14 beyond the header. -/
def page101 : List Reg := [
  ⟨0x40, 0x0, 1, none, false, [SW_SDG_CFG_EN, SW_SDG_CFG_AUTO_RECLAIM]⟩,
  ⟨0x44, 0x0, 1, none, false, [SW_SDG_STAT_SWEEPS, SW_SDG_STAT_CELL]⟩,
  ⟨0x48, 0x0, 1, none, false, [SW_SDG_RECLAIM]⟩,
  ⟨0x4C, 0x0, 1, none, false, [SW_SDG_REFFIX]⟩,
  ⟨0x50, 0x0, 1, none, false, [SW_SDG_FREEHELD]⟩,
  ⟨0x54, 0x0, 1, none, false, [SW_SDG_FREEERR]⟩,
  ⟨0x58, 0x0, 1, none, false, [SW_SDG_LAST_CELL, SW_SDG_LAST_TID]⟩]

/-! Table 4.15. -/

def SW_MCG_INDEX_GROUP : Field := ⟨0x102040, 0x80000, 0x0, 0, 10, 0, .const, .rw, 0, 1023⟩
def SW_MCG_INDEX_WORD : Field := ⟨0x102040, 0x80000, 0x0, 16, 5, 0, .const, .rw, 0, 24⟩
def SW_MCG_DATA : Field := ⟨0x102044, 0x80000, 0x0, 0, 32, 0, .const, .rw, 0, 4294967295⟩
def SW_MCG_CMD_OP : Field := ⟨0x102048, 0x80000, 0x0, 0, 4, 0, .const, .wo, 0, 15⟩
def SW_MCG_STAT_BUSY : Field := ⟨0x10204C, 0x80000, 0x0, 0, 1, 0, .const, .ro, 0, 1⟩
def SW_MCG_STAT_EDIT_OPEN : Field := ⟨0x10204C, 0x80000, 0x0, 1, 1, 0, .const, .ro, 0, 1⟩
def SW_MCG_STAT_EDIT_PATH : Field := ⟨0x10204C, 0x80000, 0x0, 2, 3, 0, .const, .ro, 0, 7⟩
def SW_MCG_STAT_STAGED : Field := ⟨0x10204C, 0x80000, 0x0, 5, 5, 0, .const, .ro, 0, 31⟩
def SW_MCG_STAT_LAST_RESULT : Field := ⟨0x10204C, 0x80000, 0x0, 16, 4, 0, .const, .ro, 0, 15⟩
def SW_MCG_STAT_BAD_GROUP : Field := ⟨0x10204C, 0x80000, 0x0, 20, 10, 0, .const, .ro, 0, 1023⟩
def SW_MCG_COMMIT_CNT : Field := ⟨0x102050, 0x80000, 0x0, 0, 32, 0, .const, .ctr, 0, 4294967295⟩

/-- The registers of Table 4.15 beyond the header. -/
def page102 : List Reg := [
  ⟨0x40, 0x0, 1, none, false, [SW_MCG_INDEX_GROUP, SW_MCG_INDEX_WORD]⟩,
  ⟨0x44, 0x0, 1, none, false, [SW_MCG_DATA]⟩,
  ⟨0x48, 0x0, 1, none, false, [SW_MCG_CMD_OP]⟩,
  ⟨0x4C, 0x0, 1, none, false, [SW_MCG_STAT_BUSY, SW_MCG_STAT_EDIT_OPEN, SW_MCG_STAT_EDIT_PATH, SW_MCG_STAT_STAGED, SW_MCG_STAT_LAST_RESULT, SW_MCG_STAT_BAD_GROUP]⟩,
  ⟨0x50, 0x0, 1, none, false, [SW_MCG_COMMIT_CNT]⟩]

/-! Table 4.16. -/

def SW_PORT_SEL : Field := ⟨0x103040, 0x80000, 0x0, 0, 5, 0, .const, .rw, 0, 23⟩
def SW_IN_CELLS : Field := ⟨0x103044, 0x80000, 0x400000, 0, 64, 0, .const, .ctr, 0, 18446744073709551615⟩
def SW_OUT_CELLS : Field := ⟨0x10304C, 0x80000, 0x400000, 0, 64, 0, .const, .ctr, 0, 18446744073709551615⟩
def SW_VOQ_DEPTH : Field := ⟨0x103054, 0x80000, 0x0, 0, 16, 0, .const, .ro, 0, 65535⟩
def SW_ADP_WAIT : Field := ⟨0x103058, 0x80000, 0x400000, 0, 32, 0, .const, .ctr, 0, 4294967295⟩

/-- The registers of Table 4.16 beyond the header. -/
def page103 : List Reg := [
  ⟨0x40, 0x0, 1, none, false, [SW_PORT_SEL]⟩,
  ⟨0x44, 0x0, 1, (some SW_PORT_SEL), true, [SW_IN_CELLS]⟩,
  ⟨0x4C, 0x0, 1, (some SW_PORT_SEL), true, [SW_OUT_CELLS]⟩,
  ⟨0x54, 0x0, 1, none, false, [SW_VOQ_DEPTH]⟩,
  ⟨0x58, 0x0, 1, (some SW_PORT_SEL), false, [SW_ADP_WAIT]⟩]

/-! Table 4.17. -/

def SWA_DDS_USED : Field := ⟨0x104040, 0x0, 0x0, 0, 16, 0, .const, .ro, 0, 65535⟩
def SWA_DDS_FULL : Field := ⟨0x104044, 0x0, 0x0, 0, 32, 0, .const, .ctr, 0, 4294967295⟩

/-- The registers of Table 4.17 beyond the header. -/
def page104 : List Reg := [
  ⟨0x40, 0x0, 1, none, false, [SWA_DDS_USED]⟩,
  ⟨0x44, 0x0, 1, none, false, [SWA_DDS_FULL]⟩]

/-! Table 4.18. -/

def RGM_STAT_PLANE_A : Field := ⟨0x1C040, 0x0, 0x0, 0, 3, 0, .const, .ro, 0, 7⟩
def RGM_STAT_PLANE_B : Field := ⟨0x1C040, 0x0, 0x0, 4, 3, 0, .const, .ro, 0, 7⟩
def RGM_STAT_AUTH : Field := ⟨0x1C040, 0x0, 0x0, 8, 1, 0, .const, .ro, 0, 1⟩
def RGM_STAT_AUTH_VALID : Field := ⟨0x1C040, 0x0, 0x0, 9, 1, 0, .const, .ro, 0, 1⟩
def RGM_STAT_PAIR_A : Field := ⟨0x1C040, 0x0, 0x0, 12, 3, 0, .const, .ro, 0, 7⟩
def RGM_STAT_PAIR_B : Field := ⟨0x1C040, 0x0, 0x0, 16, 3, 0, .const, .ro, 0, 7⟩
def RGM_STAT_FROZEN : Field := ⟨0x1C040, 0x0, 0x0, 20, 1, 0, .const, .ro, 0, 1⟩
def RGM_STAT_MASKED : Field := ⟨0x1C040, 0x0, 0x0, 24, 3, 0, .const, .ro, 0, 7⟩
def RGM_EPOCH : Field := ⟨0x1C044, 0x0, 0x0, 0, 16, 0, .const, .ro, 0, 65535⟩
def RGM_CFG_PAIR_HB_MISS : Field := ⟨0x1C048, 0x0, 0x0, 0, 4, 3, .const, .rwl, 2, 15⟩
def RGM_CFG_PREF_PAIR : Field := ⟨0x1C048, 0x0, 0x0, 4, 1, 0, .const, .rwl, 0, 1⟩
def RGM_CMD_OP : Field := ⟨0x1C04C, 0x0, 0x0, 0, 4, 0, .const, .wo, 0, 15⟩
def RGM_RESULT : Field := ⟨0x1C050, 0x0, 0x0, 0, 4, 0, .const, .ro, 0, 15⟩
def RGM_DISPUTE_CNT : Field := ⟨0x1C054, 0x0, 0x0, 0, 32, 0, .const, .ctr, 0, 4294967295⟩
def RGM_FAILOVER_CNT : Field := ⟨0x1C058, 0x0, 0x0, 0, 32, 0, .const, .ctr, 0, 4294967295⟩
def RGM_PAIR_CNT : Field := ⟨0x1C05C, 0x0, 0x0, 0, 32, 0, .const, .ctr, 0, 4294967295⟩
def RGM_TMR_CNT : Field := ⟨0x1C060, 0x0, 0x0, 0, 32, 0, .const, .ctr, 0, 4294967295⟩

/-- The registers of Table 4.18 beyond the header. -/
def page01Ca : List Reg := [
  ⟨0x40, 0x0, 1, none, false, [RGM_STAT_PLANE_A, RGM_STAT_PLANE_B, RGM_STAT_AUTH, RGM_STAT_AUTH_VALID, RGM_STAT_PAIR_A, RGM_STAT_PAIR_B, RGM_STAT_FROZEN, RGM_STAT_MASKED]⟩,
  ⟨0x44, 0x0, 1, none, false, [RGM_EPOCH]⟩,
  ⟨0x48, 0x0, 1, none, false, [RGM_CFG_PAIR_HB_MISS, RGM_CFG_PREF_PAIR]⟩,
  ⟨0x4C, 0x0, 1, none, false, [RGM_CMD_OP]⟩,
  ⟨0x50, 0x0, 1, none, false, [RGM_RESULT]⟩,
  ⟨0x54, 0x0, 1, none, false, [RGM_DISPUTE_CNT]⟩,
  ⟨0x58, 0x0, 1, none, false, [RGM_FAILOVER_CNT]⟩,
  ⟨0x5C, 0x0, 1, none, false, [RGM_PAIR_CNT]⟩]
def page01Cb : List Reg := [
  ⟨0x60, 0x0, 1, none, false, [RGM_TMR_CNT]⟩]
def page01C : List Reg := page01Ca ++ page01Cb

/-! Table 5.4. -/

def SCH_LATE_TOL : Field := ⟨0x200040, 0x0, 0x0, 0, 10, 64, .const, .rw, 16, 1000⟩
def SCH_MISS_CNT_A : Field := ⟨0x200044, 0x0, 0x0, 0, 32, 0, .const, .ctr, 0, 4294967295⟩
def SCH_MISS_CNT_B : Field := ⟨0x200048, 0x0, 0x0, 0, 32, 0, .const, .ctr, 0, 4294967295⟩
def SCH_MISS_LAST_TID : Field := ⟨0x20004C, 0x0, 0x0, 0, 15, 0, .const, .ro, 0, 32767⟩
def SCH_MISS_LAST_PLANE : Field := ⟨0x20004C, 0x0, 0x0, 15, 1, 0, .const, .ro, 0, 1⟩
def SCH_MISS_LAST_LATE : Field := ⟨0x20004C, 0x0, 0x0, 16, 16, 0, .const, .ro, 0, 65535⟩
def SCH_PARK_USE_A : Field := ⟨0x200050, 0x0, 0x0, 0, 11, 0, .const, .ro, 0, 2047⟩
def SCH_PARK_USE_B : Field := ⟨0x200050, 0x0, 0x0, 16, 11, 0, .const, .ro, 0, 2047⟩
def SCH_PARK_FULL : Field := ⟨0x200054, 0x0, 0x0, 0, 32, 0, .const, .ctr, 0, 4294967295⟩
def SCH_QMIS_CNT : Field := ⟨0x200058, 0x0, 0x0, 0, 32, 0, .const, .ctr, 0, 4294967295⟩
def SCH_QMIS_ID_QUEUE : Field := ⟨0x20005C, 0x0, 0x0, 0, 12, 0, .const, .ro, 0, 4095⟩
def SCH_QMIS_ID_TID : Field := ⟨0x20005C, 0x0, 0x0, 12, 15, 0, .const, .ro, 0, 32767⟩
def SCH_REL_STAT0 : Field := ⟨0x200060, 0x0, 0x0, 0, 32, 0, .const, .ro, 0, 4294967295⟩
def SCH_REL_STAT1 : Field := ⟨0x200064, 0x0, 0x0, 0, 32, 0, .const, .ro, 0, 4294967295⟩
def SCH_REL_SET0 : Field := ⟨0x200068, 0x0, 0x0, 0, 32, 0, .const, .wo, 0, 4294967295⟩
def SCH_REL_SET1 : Field := ⟨0x20006C, 0x0, 0x0, 0, 32, 0, .const, .wo, 0, 4294967295⟩
def SCH_REL_CLR0 : Field := ⟨0x200070, 0x0, 0x0, 0, 32, 0, .const, .wo, 0, 4294967295⟩
def SCH_REL_CLR1 : Field := ⟨0x200074, 0x0, 0x0, 0, 32, 0, .const, .wo, 0, 4294967295⟩
def SCH_VT_SEL : Field := ⟨0x200078, 0x0, 0x0, 0, 5, 0, .const, .rw, 0, 23⟩
def SCH_VT : Field := ⟨0x20007C, 0x0, 0x400000, 0, 32, 0, .const, .ro, 0, 4294967295⟩

/-- The registers of Table 5.4 beyond the header. -/
def page200a : List Reg := [
  ⟨0x40, 0x0, 1, none, false, [SCH_LATE_TOL]⟩,
  ⟨0x44, 0x0, 1, none, false, [SCH_MISS_CNT_A]⟩,
  ⟨0x48, 0x0, 1, none, false, [SCH_MISS_CNT_B]⟩,
  ⟨0x4C, 0x0, 1, none, false, [SCH_MISS_LAST_TID, SCH_MISS_LAST_PLANE, SCH_MISS_LAST_LATE]⟩,
  ⟨0x50, 0x0, 1, none, false, [SCH_PARK_USE_A, SCH_PARK_USE_B]⟩,
  ⟨0x54, 0x0, 1, none, false, [SCH_PARK_FULL]⟩,
  ⟨0x58, 0x0, 1, none, false, [SCH_QMIS_CNT]⟩,
  ⟨0x5C, 0x0, 1, none, false, [SCH_QMIS_ID_QUEUE, SCH_QMIS_ID_TID]⟩]
def page200b : List Reg := [
  ⟨0x60, 0x0, 1, none, false, [SCH_REL_STAT0]⟩,
  ⟨0x64, 0x0, 1, none, false, [SCH_REL_STAT1]⟩,
  ⟨0x68, 0x0, 1, none, false, [SCH_REL_SET0]⟩,
  ⟨0x6C, 0x0, 1, none, false, [SCH_REL_SET1]⟩,
  ⟨0x70, 0x0, 1, none, false, [SCH_REL_CLR0]⟩,
  ⟨0x74, 0x0, 1, none, false, [SCH_REL_CLR1]⟩,
  ⟨0x78, 0x0, 1, none, false, [SCH_VT_SEL]⟩,
  ⟨0x7C, 0x0, 1, (some SCH_VT_SEL), false, [SCH_VT]⟩]
def page200 : List Reg := page200a ++ page200b

/-! Table 5.6. -/

def SCH_Q_INDEX_INDEX : Field := ⟨0x201040, 0x0, 0x0, 0, 12, 0, .const, .rw, 0, 4095⟩
def SCH_Q_INDEX_AUTOINC : Field := ⟨0x201040, 0x0, 0x0, 16, 1, 0, .const, .rw, 0, 1⟩
def SCH_Q_CFG_PORT : Field := ⟨0x201044, 0x0, 0x0, 0, 5, 31, .const, .rw, 0, 31⟩
def SCH_Q_CFG_CLASS : Field := ⟨0x201044, 0x0, 0x0, 8, 3, 0, .const, .rw, 0, 7⟩
def SCH_Q_CMD_OP : Field := ⟨0x201048, 0x0, 0x0, 0, 4, 0, .const, .wo, 0, 15⟩
def SCH_Q_STAT_BUSY : Field := ⟨0x20104C, 0x0, 0x0, 0, 1, 0, .const, .ro, 0, 1⟩
def SCH_Q_STAT_LAST_RESULT : Field := ⟨0x20104C, 0x0, 0x0, 16, 4, 0, .const, .ro, 0, 15⟩
def SCH_Q_DEPTH_A : Field := ⟨0x201050, 0x0, 0x0, 0, 16, 0, .const, .ro, 0, 65535⟩
def SCH_Q_DEPTH_B : Field := ⟨0x201050, 0x0, 0x0, 16, 16, 0, .const, .ro, 0, 65535⟩
def SCH_Q_FTAG : Field := ⟨0x201054, 0x0, 0x0, 0, 32, 0, .const, .ro, 0, 4294967295⟩

/-- The registers of Table 5.6 beyond the header. -/
def page201 : List Reg := [
  ⟨0x40, 0x0, 1, none, false, [SCH_Q_INDEX_INDEX, SCH_Q_INDEX_AUTOINC]⟩,
  ⟨0x44, 0x0, 1, none, false, [SCH_Q_CFG_PORT, SCH_Q_CFG_CLASS]⟩,
  ⟨0x48, 0x0, 1, none, false, [SCH_Q_CMD_OP]⟩,
  ⟨0x4C, 0x0, 1, none, false, [SCH_Q_STAT_BUSY, SCH_Q_STAT_LAST_RESULT]⟩,
  ⟨0x50, 0x0, 1, none, false, [SCH_Q_DEPTH_A, SCH_Q_DEPTH_B]⟩,
  ⟨0x54, 0x0, 1, none, false, [SCH_Q_FTAG]⟩]

/-! Table 5.7. -/

def SCH_AL_INDEX_INDEX : Field := ⟨0x202040, 0x0, 0x0, 0, 12, 0, .const, .rw, 0, 4095⟩
def SCH_AL_INDEX_AUTOINC : Field := ⟨0x202040, 0x0, 0x0, 16, 1, 0, .const, .rw, 0, 1⟩
def SCH_AL_DATA0_RSV_RATE : Field := ⟨0x202044, 0x0, 0x0, 0, 20, 0, .const, .rw, 0, 1048575⟩
def SCH_AL_DATA0_WEIGHT : Field := ⟨0x202044, 0x0, 0x0, 20, 8, 1, .const, .rw, 1, 255⟩
def SCH_AL_DATA1_PEAK_RATE : Field := ⟨0x202048, 0x0, 0x0, 0, 20, 0, .const, .rw, 0, 1048575⟩
def SCH_AL_DATA1_REL_GRP : Field := ⟨0x202048, 0x0, 0x0, 20, 6, 0, .const, .rw, 0, 63⟩
def SCH_AL_DATA2_BURST : Field := ⟨0x20204C, 0x0, 0x0, 0, 12, 64, .const, .rw, 1, 4095⟩
def SCH_AL_CMD_OP : Field := ⟨0x202050, 0x0, 0x0, 0, 4, 0, .const, .wo, 0, 15⟩
def SCH_AL_STAT_BUSY : Field := ⟨0x202054, 0x0, 0x0, 0, 1, 0, .const, .ro, 0, 1⟩
def SCH_AL_STAT_PENDING : Field := ⟨0x202054, 0x0, 0x0, 1, 1, 0, .const, .ro, 0, 1⟩
def SCH_AL_STAT_LAST_RESULT : Field := ⟨0x202054, 0x0, 0x0, 16, 4, 0, .const, .ro, 0, 15⟩
def SCH_AL_TOK_RSV : Field := ⟨0x202058, 0x0, 0x0, 0, 32, 0, .const, .ro, 0, 4294967295⟩
def SCH_AL_TOK_PEAK : Field := ⟨0x20205C, 0x0, 0x0, 0, 32, 0, .const, .ro, 0, 4294967295⟩

/-- The registers of Table 5.7 beyond the header. -/
def page202 : List Reg := [
  ⟨0x40, 0x0, 1, none, false, [SCH_AL_INDEX_INDEX, SCH_AL_INDEX_AUTOINC]⟩,
  ⟨0x44, 0x0, 1, none, false, [SCH_AL_DATA0_RSV_RATE, SCH_AL_DATA0_WEIGHT]⟩,
  ⟨0x48, 0x0, 1, none, false, [SCH_AL_DATA1_PEAK_RATE, SCH_AL_DATA1_REL_GRP]⟩,
  ⟨0x4C, 0x0, 1, none, false, [SCH_AL_DATA2_BURST]⟩,
  ⟨0x50, 0x0, 1, none, false, [SCH_AL_CMD_OP]⟩,
  ⟨0x54, 0x0, 1, none, false, [SCH_AL_STAT_BUSY, SCH_AL_STAT_PENDING, SCH_AL_STAT_LAST_RESULT]⟩,
  ⟨0x58, 0x0, 1, none, false, [SCH_AL_TOK_RSV]⟩,
  ⟨0x5C, 0x0, 1, none, false, [SCH_AL_TOK_PEAK]⟩]

/-! Table 5.9. -/

def SCH_POL_INDEX_INDEX : Field := ⟨0x203040, 0x0, 0x0, 0, 12, 0, .const, .rw, 0, 4095⟩
def SCH_POL_INDEX_AUTOINC : Field := ⟨0x203040, 0x0, 0x0, 16, 1, 0, .const, .rw, 0, 1⟩
def SCH_POL_DATA0_CIR : Field := ⟨0x203044, 0x0, 0x0, 0, 20, 0, .const, .rw, 0, 1048575⟩
def SCH_POL_DATA1_PIR : Field := ⟨0x203048, 0x0, 0x0, 0, 20, 0, .const, .rw, 0, 1048575⟩
def SCH_POL_DATA2_CBS : Field := ⟨0x20304C, 0x0, 0x0, 0, 12, 0, .const, .rw, 0, 4095⟩
def SCH_POL_DATA2_PBS : Field := ⟨0x20304C, 0x0, 0x0, 16, 12, 0, .const, .rw, 0, 4095⟩
def SCH_POL_CMD_OP : Field := ⟨0x203050, 0x0, 0x0, 0, 4, 0, .const, .wo, 0, 15⟩
def SCH_POL_STAT_BUSY : Field := ⟨0x203054, 0x0, 0x0, 0, 1, 0, .const, .ro, 0, 1⟩
def SCH_POL_STAT_LAST_RESULT : Field := ⟨0x203054, 0x0, 0x0, 16, 4, 0, .const, .ro, 0, 15⟩
def SCH_POL_GREEN : Field := ⟨0x203058, 0x0, 0x0, 0, 32, 0, .const, .ro, 0, 4294967295⟩
def SCH_POL_YELLOW : Field := ⟨0x20305C, 0x0, 0x0, 0, 32, 0, .const, .ro, 0, 4294967295⟩
def SCH_POL_RED : Field := ⟨0x203060, 0x0, 0x0, 0, 32, 0, .const, .ro, 0, 4294967295⟩

/-- The registers of Table 5.9 beyond the header. -/
def page203a : List Reg := [
  ⟨0x40, 0x0, 1, none, false, [SCH_POL_INDEX_INDEX, SCH_POL_INDEX_AUTOINC]⟩,
  ⟨0x44, 0x0, 1, none, false, [SCH_POL_DATA0_CIR]⟩,
  ⟨0x48, 0x0, 1, none, false, [SCH_POL_DATA1_PIR]⟩,
  ⟨0x4C, 0x0, 1, none, false, [SCH_POL_DATA2_CBS, SCH_POL_DATA2_PBS]⟩,
  ⟨0x50, 0x0, 1, none, false, [SCH_POL_CMD_OP]⟩,
  ⟨0x54, 0x0, 1, none, false, [SCH_POL_STAT_BUSY, SCH_POL_STAT_LAST_RESULT]⟩,
  ⟨0x58, 0x0, 1, none, false, [SCH_POL_GREEN]⟩,
  ⟨0x5C, 0x0, 1, none, false, [SCH_POL_YELLOW]⟩]
def page203b : List Reg := [
  ⟨0x60, 0x0, 1, none, false, [SCH_POL_RED]⟩]
def page203 : List Reg := page203a ++ page203b

/-! Table 5.10. -/

def SCH_SMP_CFG_EN : Field := ⟨0x204040, 0x0, 0x0, 0, 1, 1, .const, .rw, 0, 1⟩
def SCH_SMP_INDEX_QUEUE : Field := ⟨0x204044, 0x0, 0x0, 0, 12, 0, .const, .rw, 0, 4095⟩
def SCH_SMP_INDEX_PLANE : Field := ⟨0x204044, 0x0, 0x0, 16, 1, 0, .const, .rw, 0, 1⟩
def SCH_SMP_CMD_OP : Field := ⟨0x204048, 0x0, 0x0, 0, 4, 0, .const, .wo, 0, 15⟩
def SCH_SMP_DEPTH_MIN : Field := ⟨0x20404C, 0x0, 0x0, 0, 16, 0, .const, .ro, 0, 65535⟩
def SCH_SMP_DEPTH_MAX : Field := ⟨0x20404C, 0x0, 0x0, 16, 16, 0, .const, .ro, 0, 65535⟩
def SCH_SMP_DMEAN : Field := ⟨0x204050, 0x0, 0x0, 0, 20, 0, .const, .ro, 0, 1048575⟩
def SCH_SMP_AGEMIN : Field := ⟨0x204054, 0x0, 0x0, 0, 32, 0, .const, .ro, 0, 4294967295⟩
def SCH_SMP_AGEMAX : Field := ⟨0x204058, 0x0, 0x0, 0, 32, 0, .const, .ro, 0, 4294967295⟩
def SCH_SMP_AGEMEAN : Field := ⟨0x20405C, 0x0, 0x0, 0, 32, 0, .const, .ro, 0, 4294967295⟩
def SCH_SMP_CNT : Field := ⟨0x204060, 0x0, 0x0, 0, 32, 0, .const, .ro, 0, 4294967295⟩
def SCH_SMP_SWEEPS_A : Field := ⟨0x204064, 0x0, 0x0, 0, 16, 0, .const, .ro, 0, 65535⟩
def SCH_SMP_SWEEPS_B : Field := ⟨0x204064, 0x0, 0x0, 16, 16, 0, .const, .ro, 0, 65535⟩
def SCH_HIST_INDEX_HIST : Field := ⟨0x204068, 0x0, 0x0, 0, 6, 0, .const, .rw, 0, 63⟩
def SCH_HIST_INDEX_BIN : Field := ⟨0x204068, 0x0, 0x0, 8, 4, 0, .const, .rw, 0, 15⟩
def SCH_HIST_BIN : Field := ⟨0x20406C, 0x0, 0x0, 0, 32, 0, .const, .ro, 0, 4294967295⟩
def SCH_HIST_SEL_QUEUE : Field := ⟨0x204100, 0x0, 0x4, 0, 12, 0, .const, .rw, 0, 4095⟩
def SCH_HIST_SEL_PLANE : Field := ⟨0x204100, 0x0, 0x4, 12, 1, 0, .const, .rw, 0, 1⟩
def SCH_HIST_SEL_METRIC : Field := ⟨0x204100, 0x0, 0x4, 13, 1, 0, .const, .rw, 0, 1⟩
def SCH_HIST_SEL_EN : Field := ⟨0x204100, 0x0, 0x4, 31, 1, 0, .const, .rw, 0, 1⟩

/-- The registers of Table 5.10 beyond the header. -/
def page204a : List Reg := [
  ⟨0x40, 0x0, 1, none, false, [SCH_SMP_CFG_EN]⟩,
  ⟨0x44, 0x0, 1, none, false, [SCH_SMP_INDEX_QUEUE, SCH_SMP_INDEX_PLANE]⟩,
  ⟨0x48, 0x0, 1, none, false, [SCH_SMP_CMD_OP]⟩,
  ⟨0x4C, 0x0, 1, none, false, [SCH_SMP_DEPTH_MIN, SCH_SMP_DEPTH_MAX]⟩,
  ⟨0x50, 0x0, 1, none, false, [SCH_SMP_DMEAN]⟩,
  ⟨0x54, 0x0, 1, none, false, [SCH_SMP_AGEMIN]⟩,
  ⟨0x58, 0x0, 1, none, false, [SCH_SMP_AGEMAX]⟩,
  ⟨0x5C, 0x0, 1, none, false, [SCH_SMP_AGEMEAN]⟩]
def page204b : List Reg := [
  ⟨0x60, 0x0, 1, none, false, [SCH_SMP_CNT]⟩,
  ⟨0x64, 0x0, 1, none, false, [SCH_SMP_SWEEPS_A, SCH_SMP_SWEEPS_B]⟩,
  ⟨0x68, 0x0, 1, none, false, [SCH_HIST_INDEX_HIST, SCH_HIST_INDEX_BIN]⟩,
  ⟨0x6C, 0x0, 1, none, false, [SCH_HIST_BIN]⟩,
  ⟨0x100, 0x4, 64, none, false, [SCH_HIST_SEL_QUEUE, SCH_HIST_SEL_PLANE, SCH_HIST_SEL_METRIC, SCH_HIST_SEL_EN]⟩]
def page204 : List Reg := page204a ++ page204b

/-! Table 6.9. -/

def TIM_NOW_NS : Field := ⟨0x40040, 0x0, 0x0, 0, 30, 0, .const, .ro, 0, 1073741823⟩
def TIM_NOW_SEC : Field := ⟨0x40044, 0x0, 0x0, 0, 48, 0, .const, .ro, 0, 281474976710655⟩
def TIM_SET_NS : Field := ⟨0x4004C, 0x0, 0x0, 0, 30, 0, .const, .rw, 0, 999999999⟩
def TIM_SET_SEC : Field := ⟨0x40050, 0x0, 0x0, 0, 48, 0, .const, .rw, 0, 281474976710655⟩
def TIM_CMD_OP : Field := ⟨0x40058, 0x0, 0x0, 0, 4, 0, .const, .wo, 0, 15⟩
def TIM_RESULT_BUSY : Field := ⟨0x4005C, 0x0, 0x0, 0, 1, 0, .const, .ro, 0, 1⟩
def TIM_RESULT_LAST_RESULT : Field := ⟨0x4005C, 0x0, 0x0, 16, 4, 0, .const, .ro, 0, 15⟩
def TIM_STEP : Field := ⟨0x40060, 0x0, 0x0, 0, 64, 0, .const, .rw, 0, 18446744073709551615⟩
def TIM_SLEW : Field := ⟨0x40068, 0x0, 0x0, 0, 32, 0, .const, .rw, 0, 4294967295⟩
def TIM_SLEW_LEFT : Field := ⟨0x4006C, 0x0, 0x0, 0, 32, 0, .const, .ro, 0, 4294967295⟩
def TIM_FADJ : Field := ⟨0x40070, 0x0, 0x0, 0, 32, 0, .const, .rw, 0, 4294967295⟩
def TIM_SLEW_RATE : Field := ⟨0x40074, 0x0, 0x0, 0, 20, 50000, .const, .rw, 1, 500000⟩
def TIM_STAT_STATE : Field := ⟨0x40078, 0x0, 0x0, 0, 2, 0, .const, .ro, 0, 3⟩
def TIM_STAT_SYNC_VALID : Field := ⟨0x40078, 0x0, 0x0, 2, 1, 0, .const, .ro, 0, 1⟩
def TIM_STAT_DELAY_KNOWN : Field := ⟨0x40078, 0x0, 0x0, 3, 1, 0, .const, .ro, 0, 1⟩
def TIM_STAT_HOPS : Field := ⟨0x40078, 0x0, 0x0, 4, 3, 7, .const, .ro, 0, 7⟩
def TIM_STAT_SLOT : Field := ⟨0x40078, 0x0, 0x0, 8, 2, 0, .const, .ro, 0, 3⟩
def TIM_STAT_SOURCE : Field := ⟨0x40078, 0x0, 0x0, 16, 8, 0, .const, .ro, 0, 255⟩
def TIM_OFS : Field := ⟨0x4007C, 0x0, 0x0, 0, 32, 0, .const, .ro, 0, 4294967295⟩
def TIM_FOL_CFG_LOCK_THR : Field := ⟨0x40080, 0x0, 0x0, 0, 8, 20, .const, .rw, 1, 255⟩
def TIM_FOL_CFG_STEP_THR : Field := ⟨0x40080, 0x0, 0x0, 8, 8, 10, .const, .rw, 1, 255⟩
def TIM_FOL_CFG_KP : Field := ⟨0x40080, 0x0, 0x0, 16, 4, 2, .const, .rw, 0, 15⟩
def TIM_FOL_CFG_KI : Field := ⟨0x40080, 0x0, 0x0, 20, 4, 6, .const, .rw, 0, 15⟩
def TIM_HOLD : Field := ⟨0x40084, 0x0, 0x0, 0, 12, 2, .const, .rw, 0, 3600⟩
def TIM_PIN_STEP : Field := ⟨0x40088, 0x0, 0x0, 0, 16, 1000, .const, .rw, 0, 65535⟩
def TIM_UTC_OFS : Field := ⟨0x4008C, 0x0, 0x0, 0, 8, 0, .const, .rw, 0, 255⟩

/-- The registers of Table 6.9 beyond the header. -/
def page040a : List Reg := [
  ⟨0x40, 0x0, 1, none, false, [TIM_NOW_NS]⟩,
  ⟨0x44, 0x0, 1, none, true, [TIM_NOW_SEC]⟩,
  ⟨0x4C, 0x0, 1, none, false, [TIM_SET_NS]⟩,
  ⟨0x50, 0x0, 1, none, true, [TIM_SET_SEC]⟩,
  ⟨0x58, 0x0, 1, none, false, [TIM_CMD_OP]⟩,
  ⟨0x5C, 0x0, 1, none, false, [TIM_RESULT_BUSY, TIM_RESULT_LAST_RESULT]⟩,
  ⟨0x60, 0x0, 1, none, true, [TIM_STEP]⟩,
  ⟨0x68, 0x0, 1, none, false, [TIM_SLEW]⟩]
def page040b : List Reg := [
  ⟨0x6C, 0x0, 1, none, false, [TIM_SLEW_LEFT]⟩,
  ⟨0x70, 0x0, 1, none, false, [TIM_FADJ]⟩,
  ⟨0x74, 0x0, 1, none, false, [TIM_SLEW_RATE]⟩,
  ⟨0x78, 0x0, 1, none, false, [TIM_STAT_STATE, TIM_STAT_SYNC_VALID, TIM_STAT_DELAY_KNOWN, TIM_STAT_HOPS, TIM_STAT_SLOT, TIM_STAT_SOURCE]⟩,
  ⟨0x7C, 0x0, 1, none, false, [TIM_OFS]⟩,
  ⟨0x80, 0x0, 1, none, false, [TIM_FOL_CFG_LOCK_THR, TIM_FOL_CFG_STEP_THR, TIM_FOL_CFG_KP, TIM_FOL_CFG_KI]⟩,
  ⟨0x84, 0x0, 1, none, false, [TIM_HOLD]⟩,
  ⟨0x88, 0x0, 1, none, false, [TIM_PIN_STEP]⟩]
def page040c : List Reg := [
  ⟨0x8C, 0x0, 1, none, false, [TIM_UTC_OFS]⟩]
def page040 : List Reg := page040a ++ page040b ++ page040c

/-! Table 6.11. -/

def TIM_SRC_CFG_TRUNK0 : Field := ⟨0x41040, 0x0, 0x0, 0, 4, 0, .const, .rw, 0, 15⟩
def TIM_SRC_CFG_DLY_SET0 : Field := ⟨0x41040, 0x0, 0x0, 4, 1, 0, .const, .rw, 0, 1⟩
def TIM_SRC_CFG_KIND0 : Field := ⟨0x41040, 0x0, 0x0, 5, 3, 0, .const, .rw, 0, 7⟩
def TIM_SRC_CFG_TRUNK1 : Field := ⟨0x41040, 0x0, 0x0, 8, 4, 0, .const, .rw, 0, 15⟩
def TIM_SRC_CFG_DLY_SET1 : Field := ⟨0x41040, 0x0, 0x0, 12, 1, 0, .const, .rw, 0, 1⟩
def TIM_SRC_CFG_KIND1 : Field := ⟨0x41040, 0x0, 0x0, 13, 3, 0, .const, .rw, 0, 7⟩
def TIM_SRC_CFG_TRUNK2 : Field := ⟨0x41040, 0x0, 0x0, 16, 4, 0, .const, .rw, 0, 15⟩
def TIM_SRC_CFG_DLY_SET2 : Field := ⟨0x41040, 0x0, 0x0, 20, 1, 0, .const, .rw, 0, 1⟩
def TIM_SRC_CFG_KIND2 : Field := ⟨0x41040, 0x0, 0x0, 21, 3, 0, .const, .rw, 0, 7⟩
def TIM_SRC_CFG_TRUNK3 : Field := ⟨0x41040, 0x0, 0x0, 24, 4, 0, .const, .rw, 0, 15⟩
def TIM_SRC_CFG_DLY_SET3 : Field := ⟨0x41040, 0x0, 0x0, 28, 1, 0, .const, .rw, 0, 1⟩
def TIM_SRC_CFG_KIND3 : Field := ⟨0x41040, 0x0, 0x0, 29, 3, 0, .const, .rw, 0, 7⟩
def TIM_SRC_HOLD : Field := ⟨0x41044, 0x0, 0x0, 0, 12, 10, .const, .rw, 0, 3600⟩
def TIM_PTP_QUAL_QUAL : Field := ⟨0x41048, 0x0, 0x0, 0, 1, 0, .const, .rw, 0, 1⟩
def TIM_PTP_QUAL_LOCK : Field := ⟨0x41048, 0x0, 0x0, 1, 1, 0, .const, .rw, 0, 1⟩
def TIM_PTP_QUAL_DELAY_KNOWN : Field := ⟨0x41048, 0x0, 0x0, 2, 1, 0, .const, .rw, 0, 1⟩
def TIM_IRIG_CFG_CODE : Field := ⟨0x4104C, 0x0, 0x0, 0, 3, 0, .const, .rw, 0, 7⟩
def TIM_IRIG_CFG_IEEE1344 : Field := ⟨0x4104C, 0x0, 0x0, 3, 1, 0, .const, .rw, 0, 1⟩
def TIM_IRIG_CFG_LOCAL : Field := ⟨0x4104C, 0x0, 0x0, 4, 1, 0, .const, .rw, 0, 1⟩
def TIM_IRIG_YEAR : Field := ⟨0x41050, 0x0, 0x0, 0, 16, 0, .const, .rw, 0, 65535⟩
def TIM_PPSIN_CFG_EDGE : Field := ⟨0x41054, 0x0, 0x0, 0, 1, 0, .const, .rw, 0, 1⟩
def TIM_PPSOUT_CFG_EN : Field := ⟨0x41058, 0x0, 0x0, 0, 1, 0, .const, .rw, 0, 1⟩
def TIM_PPSOUT_CFG_GATE : Field := ⟨0x41058, 0x0, 0x0, 1, 1, 1, .const, .rw, 0, 1⟩
def TIM_PPSOUT_CFG_WIDTH : Field := ⟨0x41058, 0x0, 0x0, 16, 10, 100, .const, .rw, 1, 999⟩
def TIM_CAP_NS : Field := ⟨0x41080, 0x0, 0x10, 0, 30, 0, .const, .ro, 0, 1073741823⟩
def TIM_CAP_SEC : Field := ⟨0x41084, 0x0, 0x10, 0, 48, 0, .const, .ro, 0, 281474976710655⟩
def TIM_CAP_CNT : Field := ⟨0x4108C, 0x0, 0x10, 0, 32, 0, .const, .ctr, 0, 4294967295⟩

/-- The registers of Table 6.11 beyond the header. -/
def page041a : List Reg := [
  ⟨0x40, 0x0, 1, none, false, [TIM_SRC_CFG_TRUNK0, TIM_SRC_CFG_DLY_SET0, TIM_SRC_CFG_KIND0, TIM_SRC_CFG_TRUNK1, TIM_SRC_CFG_DLY_SET1, TIM_SRC_CFG_KIND1, TIM_SRC_CFG_TRUNK2, TIM_SRC_CFG_DLY_SET2, TIM_SRC_CFG_KIND2, TIM_SRC_CFG_TRUNK3, TIM_SRC_CFG_DLY_SET3, TIM_SRC_CFG_KIND3]⟩,
  ⟨0x44, 0x0, 1, none, false, [TIM_SRC_HOLD]⟩,
  ⟨0x48, 0x0, 1, none, false, [TIM_PTP_QUAL_QUAL, TIM_PTP_QUAL_LOCK, TIM_PTP_QUAL_DELAY_KNOWN]⟩,
  ⟨0x4C, 0x0, 1, none, false, [TIM_IRIG_CFG_CODE, TIM_IRIG_CFG_IEEE1344, TIM_IRIG_CFG_LOCAL]⟩,
  ⟨0x50, 0x0, 1, none, false, [TIM_IRIG_YEAR]⟩,
  ⟨0x54, 0x0, 1, none, false, [TIM_PPSIN_CFG_EDGE]⟩,
  ⟨0x58, 0x0, 1, none, false, [TIM_PPSOUT_CFG_EN, TIM_PPSOUT_CFG_GATE, TIM_PPSOUT_CFG_WIDTH]⟩,
  ⟨0x80, 0x10, 3, none, false, [TIM_CAP_NS]⟩]
def page041b : List Reg := [
  ⟨0x84, 0x10, 3, none, true, [TIM_CAP_SEC]⟩,
  ⟨0x8C, 0x10, 3, none, false, [TIM_CAP_CNT]⟩]
def page041 : List Reg := page041a ++ page041b

/-! Table 6.12. -/

def TIM_CDLY_MEAN : Field := ⟨0x42040, 0x0, 0x20, 0, 24, 0, .const, .ro, 0, 16777215⟩
def TIM_CDLY_KEPT : Field := ⟨0x42040, 0x0, 0x20, 24, 5, 0, .const, .ro, 0, 31⟩
def TIM_CDLY_KNOWN : Field := ⟨0x42040, 0x0, 0x20, 31, 1, 0, .const, .ro, 0, 1⟩
def TIM_ASYMF : Field := ⟨0x42044, 0x0, 0x20, 0, 16, 0, .factory, .ro, 0, 65535⟩
def TIM_ASYMU : Field := ⟨0x42048, 0x0, 0x20, 0, 16, 0, .const, .rw, 0, 65535⟩
def TIM_ASYM : Field := ⟨0x4204C, 0x0, 0x20, 0, 16, 0, .const, .ro, 0, 65535⟩
def TIM_TRK_TCFG_ADOPT_PEER : Field := ⟨0x42050, 0x0, 0x20, 0, 1, 0, .const, .rw, 0, 1⟩
def TIM_PEER_ASYM : Field := ⟨0x42054, 0x0, 0x20, 0, 16, 0, .const, .ro, 0, 65535⟩
def TIM_CDLY_BAD : Field := ⟨0x42058, 0x0, 0x20, 0, 32, 0, .const, .ctr, 0, 4294967295⟩

/-- The registers of Table 6.12 beyond the header. -/
def page042 : List Reg := [
  ⟨0x40, 0x20, 16, none, false, [TIM_CDLY_MEAN, TIM_CDLY_KEPT, TIM_CDLY_KNOWN]⟩,
  ⟨0x44, 0x20, 16, none, false, [TIM_ASYMF]⟩,
  ⟨0x48, 0x20, 16, none, false, [TIM_ASYMU]⟩,
  ⟨0x4C, 0x20, 16, none, false, [TIM_ASYM]⟩,
  ⟨0x50, 0x20, 16, none, false, [TIM_TRK_TCFG_ADOPT_PEER]⟩,
  ⟨0x54, 0x20, 16, none, false, [TIM_PEER_ASYM]⟩,
  ⟨0x58, 0x20, 16, none, false, [TIM_CDLY_BAD]⟩]

/-! Table 6.13. -/

def TIM_TSOF : Field := ⟨0x43040, 0x0, 0x10, 0, 32, 0, .factory, .ro, 0, 4294967295⟩
def TIM_TSOU : Field := ⟨0x43044, 0x0, 0x10, 0, 32, 0, .const, .rw, 0, 4294967295⟩
def TIM_TSO : Field := ⟨0x43048, 0x0, 0x10, 0, 16, 0, .const, .ro, 0, 65535⟩

/-- The registers of Table 6.13 beyond the header. -/
def page043 : List Reg := [
  ⟨0x40, 0x10, 11, none, false, [TIM_TSOF]⟩,
  ⟨0x44, 0x10, 11, none, false, [TIM_TSOU]⟩,
  ⟨0x48, 0x10, 11, none, false, [TIM_TSO]⟩]

/-! Table 6.14. -/

def MON_JNL_CFG_EN : Field := ⟨0x58040, 0x0, 0x0, 0, 1, 1, .const, .rw, 0, 1⟩
def MON_JNL_CFG_MODE : Field := ⟨0x58040, 0x0, 0x0, 1, 1, 0, .const, .rw, 0, 1⟩
def MON_JNL_CFG_AUTOADV : Field := ⟨0x58040, 0x0, 0x0, 2, 1, 1, .const, .rw, 0, 1⟩
def MON_JNL_HEAD : Field := ⟨0x58044, 0x0, 0x0, 0, 14, 0, .const, .ro, 0, 16383⟩
def MON_JNL_TAIL : Field := ⟨0x58048, 0x0, 0x0, 0, 14, 0, .const, .rw, 0, 16383⟩
def MON_JNL_FILL : Field := ⟨0x5804C, 0x0, 0x0, 0, 15, 0, .const, .ro, 0, 32767⟩
def MON_JNL_DATA : Field := ⟨0x58050, 0x0, 0x4, 0, 32, 0, .const, .ro, 0, 4294967295⟩
def MON_JNL_LOST : Field := ⟨0x58060, 0x0, 0x0, 0, 32, 0, .const, .ctr, 0, 4294967295⟩
def MON_JNL_THR : Field := ⟨0x58064, 0x0, 0x0, 0, 15, 12288, .const, .rw, 0, 32767⟩
def MON_JNL_SW : Field := ⟨0x58068, 0x0, 0x0, 0, 48, 0, .const, .wo, 0, 281474976710655⟩

/-- The registers of Table 6.14 beyond the header. -/
def page058 : List Reg := [
  ⟨0x40, 0x0, 1, none, false, [MON_JNL_CFG_EN, MON_JNL_CFG_MODE, MON_JNL_CFG_AUTOADV]⟩,
  ⟨0x44, 0x0, 1, none, false, [MON_JNL_HEAD]⟩,
  ⟨0x48, 0x0, 1, none, false, [MON_JNL_TAIL]⟩,
  ⟨0x4C, 0x0, 1, none, false, [MON_JNL_FILL]⟩,
  ⟨0x50, 0x4, 4, none, false, [MON_JNL_DATA]⟩,
  ⟨0x60, 0x0, 1, none, false, [MON_JNL_LOST]⟩,
  ⟨0x64, 0x0, 1, none, false, [MON_JNL_THR]⟩,
  ⟨0x68, 0x0, 1, none, true, [MON_JNL_SW]⟩]

end Sys2Proof.Machine.R
end

