-- ==== Sys2Proof/Machine/StateAdapters.lean ====
section
/-! DEFINITION. The state of chapters 07 to 11 of spec/ that no register holds: the display, storage, host bridge and router, network and USB adapters. -/

namespace Sys2Proof.Machine

/-! ### The display (chapter 07) -/

/-- A mode (Table 7.3): the pixel clock in kHz, the eight timing counts, the sync polarities, and whether the format is ARGB2101010. -/
structure DspMode where
  pclk : Nat
  hAct : Nat
  hFp : Nat
  hSync : Nat
  hBp : Nat
  vAct : Nat
  vFp : Nat
  vSync : Nat
  vBp : Nat
  hPol : Bool
  vPol : Bool
  deep : Bool
deriving DecidableEq, Repr

/-- A cursor (R248): shown or not, its position and hotspot, and the upper and lower 32 rows of its image. -/
structure Cursor where
  visible : Bool := false
  x : Int := 0
  y : Int := 0
  hotX : Nat := 0
  hotY : Nat := 0
  top : List Byte := []
  bottom : List Byte := []
deriving DecidableEq, Repr

/-- A display source (R235 to R259). -/
structure DspSource where
  /-- CLONE in force since the last frame start. -/
  clone : Nat := 0
  mode : Option DspMode := none
  /-- A mode set that waits for a frame start, with its TOKEN; a MODE_CHANGE in progress. -/
  newMode : Option (DspMode × Nat) := none
  changing : Option Nat := none
  /-- Flips that wait for a frame start, each with the cycle in which it was applied, and whether the last asked for a copy. -/
  flips : List Nat := []
  copy : Bool := false
  /-- TOKENs of FENCEs that wait for flips, each with how many of the pending ones it waits for. -/
  waits : List (Nat × Nat) := []
  /-- Units that wait in their egress queue while the source takes none (R251), oldest first. -/
  held : List UnitMsg := []
  cursor : Cursor := {}
  newCursor : Option Cursor := none
  fetching : Bool := false
  /-- The frame with PSR active is being sent; the update that ended self-refresh. -/
  psrFrame : Bool := false
  exitAt : Option Nat := none
  /-- Lines with an underrun in this frame, and the first output that met one (R255). -/
  lines : Nat := 0
  lateOut : Option Nat := none
  /-- Frame starts since the last update, and the cycle of that update (R257, Table 7.7). -/
  idle : Nat := 0
  updAt : Option Nat := none
  /-- What scan-out has of this frame, in raster order: the bytes fetched, with what an underrun or an uncorrectable error shows in their place (R253 to R256). The scan-out buffer holds the last FILL × 256 of them; those before are sent. -/
  scan : List Byte := []
deriving DecidableEq, Repr

/-- A display output (R260 to R263). -/
structure DspOutput where
  /-- EN in force since the last frame start. -/
  en : Bool := false
  sink : Option DspSink := none
  /-- The sink at the output's own DisplayPort balls, which stay idle in Display Direct (R262). -/
  own : Option DspSink := none
  /-- Rate (kHz) and lane combinations still to try, the one in hand first. -/
  tries : List (Nat × Nat) := []
  /-- The link in use. -/
  link : Nat × Nat := (0, 0)
  /-- An IRQ_HPD with a lost link that waits for the end of self-refresh. -/
  lost : Bool := false
  /-- The AUX command in progress: its operation, address, length and attempt. -/
  aux : Option (Nat × Nat × Nat × Nat) := none
deriving DecidableEq, Repr

structure DspState where
  src : Tab DspSource := []
  out : Tab DspOutput := []
deriving DecidableEq, Repr

/-! ### Storage (chapter 08) -/

/-- Where an outstanding command stands: it waits for its data unit, it is submitted, its TIMEOUT has been sent, or its completion waits to be entered (R278, R280, R284). -/
inductive StoPhase where
  | data | sent | timedOut | replied
deriving DecidableEq, Repr

/-- An outstanding command of a block tunnel, in a data slot. -/
structure StoCmd where
  slot : Nat
  op : Nat
  flags : Nat
  tag : Nat
  slba : Nat
  nlb : Nat
  phase : StoPhase
deriving DecidableEq, Repr

/-- What the next unit of a request tunnel is (R278, R287): a command unit, the data of a slot's WRITE, or the data of a refused WRITE, counted when the tunnel drains. -/
inductive StoNext where
  | command
  | data (slot : Nat)
  | drop (drains : Bool)
deriving DecidableEq, Repr

/-- A reply: the slot that it frees, its data unit if one goes first, and its completion unit (R279, R283). -/
structure StoReply where
  slot : Option Nat
  data : Option (List Byte)
  cpl : List Byte
deriving DecidableEq, Repr

/-- A block tunnel. -/
structure StoTun where
  cmds : List StoCmd := []
  next : StoNext := .command
  /-- A FENCE is incomplete, and the units behind it with the DRAM error each meets (R282). -/
  fence : Bool := false
  held : List (UnitMsg × Nat) := []
  replies : List StoReply := []
  /-- The admin command in progress: 1 create the completion queue, 2 create the submission queue, 3 and 4 delete them; 5 when both are gone. -/
  admin : Nat := 0
  /-- The data unit of the first reply has been sent, and its completion unit has not (R279). -/
  mid : Bool := false
  /-- Commands aborted in this drain. -/
  aborted : Nat := 0
  /-- The NSID and LBA format at binding. -/
  nsid : Nat := 0
  lba4k : Nat := 0
deriving DecidableEq, Repr

/-- What the storage adapter sends to the device at a root port (Table 8.1, R274, R276, R284, R287, R288). -/
inductive NvmeOut where
  /-- BAR0 assigned, memory space and bus mastering enabled, max payload and max read request in bytes. -/
  | config (bar0 payload readReq : Nat)
  /-- CC.EN set with a memory page size in bytes. -/
  | enable (mps : Nat)
  /-- The admin queue pair: its entries and the bus addresses of its submission and completion queue. -/
  | adminQueues (entries sq cq : Nat)
  /-- Identify Controller, and the active namespace list with Identify Namespace. -/
  | identify
  | identifySpaces
  /-- Set Features (Number of Queues). -/
  | setQueues (n : Nat)
  /-- Create and Delete I/O Completion and Submission Queue: the queue ID, entries and bus address. -/
  | createCq (qid entries base : Nat)
  | createSq (qid entries base : Nat)
  | deleteSq (qid : Nat)
  | deleteCq (qid : Nat)
  /-- An entry of an I/O submission queue: the queue ID, the slot as its identifier, the NVM command code, FLAGS, the namespace, first block and count, and the bus address of the data. -/
  | submit (qid slot op flags nsid slba nlb prp : Nat)
  /-- Abort of a slot's command. -/
  | abort (qid slot : Nat)
  /-- Normal shutdown through CC.SHN. -/
  | shutdown
deriving DecidableEq, Repr

/-- A root port: the STO_PERST_N pin is asserted, the step of R274 in progress, and what the steps have set in the device. -/
structure StoPort where
  perst : Bool := true
  step : Nat := 0
  /-- The device's BAR0, its memory space and bus mastering, and CC.EN. -/
  bar0 : Nat := 0
  master : Bool := false
  ccEn : Bool := false
deriving DecidableEq, Repr

structure StoState where
  tuns : Tab StoTun := []
  ports : Tab StoPort := []
  /-- The tunnels whose reply unit is at the ingress point, in the order of offering, and the tunnel that sent last. -/
  sending : List Nat := []
  last : Nat := 31
  /-- Data units that the adapter has read and not yet copied to a slot: plane, handle and tunnel; their cells are held (R278). -/
  copying : List (Nat × Nat × Nat) := []
deriving DecidableEq, Repr

/-! ### The host bridge (chapter 09) -/

/-- What a tag of the bridge is held for (R300, R310, R312). -/
inductive BrgKind where
  | read | lock | np | atomRead | atomWrite
deriving DecidableEq, Repr

/-- What a tag was last taken for; `live` while the request is outstanding. -/
structure BrgReq where
  live : Bool
  kind : BrgKind
  win : Nat
  reply : Nat
  len : Nat
  addr : Nat
  attr : Nat
  /-- Egress switch port from the lookup of the request (R304). -/
  port : Nat
  retried : Bool
  /-- The timestamp word of the host's request (R295), and its place in the bridge's order (R308). -/
  tsw : Nat
  order : Nat
  /-- The host's request, and an AtomicOp's code, operand, compare value and original value. -/
  host : Nat
  op : Nat
  operand : Nat
  compare : Nat
  orig : Nat
deriving DecidableEq, Repr

/-- A unit or request that the bridge will send when it can (R295, R300, R308). -/
inductive BrgSend where
  | data (win addr attr : Nat) (bytes : List Byte)
  | np (win addr attr : Nat) (bytes : List Byte)
  | msg (win kind : Nat) (payload : List Byte)
  | fence (win : Nat)
  | read (win addr len attr host : Nat) (locked : Bool)
  | atomic (win addr attr op size operand compare host : Nat)
deriving DecidableEq, Repr

/-- A send with the timestamp word of the request that gave rise to it (R295) and its place in the bridge's order. -/
structure BrgWait where
  tsw : Nat
  order : Nat
  send : BrgSend
deriving DecidableEq, Repr

/-- A locked sequence (R312): the windows it has locked, and whether Unlock has come. -/
structure BrgLock where
  wins : List Nat
  unlocking : Bool
deriving DecidableEq, Repr

/-- An MSI-X table entry. -/
structure MsixEnt where
  addr : Nat := 0
  data : Nat := 0
  masked : Bool := true
deriving DecidableEq, Repr

/-- An inbound request whose host accesses are outstanding (R315). -/
structure InReq where
  win : Nat
  tid : Nat
  reply : Nat
  tage : Nat
  len : Nat
  write : Bool
  /-- Its host reads outstanding, each under an 8-bit tag (Table 9.1). -/
  reads : Nat
deriving DecidableEq, Repr

/-- A unit at SP16 that waits, and the router entry found at its lookup: target, index and LOCAL_ID (R319, R324). -/
structure HeldUnit where
  unit : UnitMsg
  entry : Option (Nat × Nat × Nat)
deriving DecidableEq, Repr

/-- The bridge and the message router. -/
structure BrgState where
  freeTags : List Nat := List.range 256
  epochs : Tab Nat := []
  reqs : Tab (Option BrgReq) := []
  waiting : List BrgWait := []
  /-- Requests accepted so far: each one's place in their order. -/
  order : Nat := 0
  /-- Atomics and locked reads that wait for a semaphore, oldest first: the semaphore and the request. -/
  semWait : List (Nat × BrgWait) := []
  lock : Option BrgLock := none
  /-- Windows whose lock a trunk's loss ended, until Unlock (Table 9.8). -/
  lockLost : List Nat := []
  /-- LEGACY as the host link took it when it last trained (R330). -/
  legacy : Bool := false
  /-- MSI-X: the table, the pending bits, and the enable and function mask of configuration space. -/
  msix : Tab MsixEnt := []
  pba : Tab Bool := []
  msixEn : Bool := false
  funcMask : Bool := false
  /-- Base address registers as the host wrote them, by their offset (Table 9.2). -/
  bars : Tab Nat := []
  cause : List (Nat × Nat) := []
  router : Tab (Nat × Nat) := []
  inReqs : Tab (Option InReq) := []
  /-- Units of a tunnel at SP16 that wait, oldest first: the first for a fence or a router target, the others behind it (R317, R324). Key tunnel. -/
  inHold : Tab (List HeldUnit) := []
  /-- Answers of inbound windows that may wait at the ingress point: window and reply tunnel (R325). -/
  inAnswers : List (Nat × Nat) := []
deriving DecidableEq, Repr

/-! ### The network adapter (chapter 10) -/

/-- A frame in a MAC's transmit buffer, without its FCS, and the TS_MODE of its binding. -/
structure TxFrame where
  frame : List Byte
  ts : Nat
deriving DecidableEq, Repr

/-- A received frame that waits to be entered: its MAC, tunnel, timestamp word, payload and length in the receive buffer. -/
structure RxFrame where
  mac : Nat
  tid : Nat
  tsw : Nat
  payload : List Byte
  size : Nat
deriving DecidableEq, Repr

/-- A MAC: its transmit buffer, oldest first; the MAX_FRAME in use; the hardware time until which it is paused; and whether a frame that began before EN was written 0 is still being received (R344, Table 10.2). -/
structure EthMac where
  tx : List TxFrame := []
  under : Bool := false
  maxFrame : Nat := 9216
  pausedTo : Nat := 0
deriving DecidableEq, Repr

/-- An entry of the transmit timestamp queue (R341). -/
structure TxStamp where
  mac : Nat
  mtype : Nat
  seq : Nat
  sec : Nat
  ns : Nat
deriving DecidableEq, Repr

structure NetState where
  macs : Tab EthMac := []
  /-- Received frames in order; the first is at the ingress point while `entering`, which says how many units had entered there before it. -/
  rx : List RxFrame := []
  entering : Option Nat := none
  txts : List TxStamp := []
  /-- The words of classifier entries and of egress bindings. -/
  cls : Tab (Nat × Nat × Nat) := []
  egb : Tab (Nat × Nat) := []
deriving DecidableEq, Repr

/-! ### The USB adapter (chapter 11) -/

/-- A bulk endpoint: the packet in its buffer; for an IN endpoint its END, whether a zero-length packet is owed after it, whether it has been sent and not acknowledged, whether an ENDPOINT_RESET waits for that, and whether a FENCE waits for the buffer. -/
structure UsbEp where
  buf : Option (List Byte) := none
  /-- The timestamp word of an OUT packet, from its first byte in the buffer (R357). -/
  tsw : Nat := 0
  last : Bool := false
  zlp : Bool := false
  offered : Bool := false
  resetAfter : Bool := false
  fence : Bool := false
deriving DecidableEq, Repr

/-- The function and the hub. -/
structure UsbState where
  eps : Tab UsbEp := []
  /-- OUT endpoints whose packets wait to be entered, oldest first; the first is at the ingress point while `entering`. -/
  outQ : List Nat := []
  entering : Bool := false
  /-- A CSR_WRITE on EP0 stands between its SETUP and its status stage (R353). -/
  writing : Bool := false
  /-- The D+ pull-up is connected (R351). -/
  attached : Bool := false
  /-- The suspension is that of port 5 alone (R366). -/
  selective : Bool := false
  /-- The function has begun to signal its wake (R367), and the hardware time until which it drives K. -/
  driving : Bool := false
  kUntil : Nat := 0
  /-- The EP0 buffers (R350). -/
  setup : List Byte := []
  ep0Out : List Byte := []
  ep0In : List Byte := []
  /-- The hub's own address and configuration. -/
  hubAddr : Nat := 0
  hubConf : Nat := 0
  /-- The host has enabled the hub's remote wakeup; the hub signals a wake of its own (Table 11.6); its status-change endpoint is halted. -/
  hubWake : Bool := false
  hubWaking : Bool := false
  hubHalt : Bool := false
  /-- The changes that the hub reports of each port: bit 0 connection, 2 suspend, 3 over-current, 4 reset. Key port n; 4 is port 5. -/
  portChange : Tab Nat := []
  /-- The hardware time at which the reset of a downstream port ends. Key port n. -/
  portReset : Tab Nat := []
deriving DecidableEq, Repr

end Sys2Proof.Machine
end

