-- ==== Sys2Proof/Machine/StateControl.lean ====
section
/-! DEFINITION. The state of chapters 12 to 18 of spec/ that no register holds: management, engines, keys, the power die, cable power dialogue, power states, resets and the register fabric. -/

namespace Sys2Proof.Machine

/-- A register access that waits for its domain's clock (R521), or behind one that does, with its byte enables and the data of a write; or what the host holds back, in its order, while the bridge gives it no credits (R295): accesses to BAR0 and, in `req`, other requests. -/
structure WaitingAccess where
  path : Nat
  write : Bool
  addr : Nat
  data : Nat
  be : Nat := 0xF
  req : Option HostReq := none
  /-- The logical engine whose image uses the key store, for an access on the ENGINE path (R420). -/
  eng : Option Nat := none
  /-- What the page's mask said as it arrived (R409). -/
  mask : Bool := true
deriving DecidableEq, Repr

/-- A setting that a regulator is asked for (R508, R509): an output voltage in mV, or OPERATION off or on. -/
inductive RegOp where
  | volt (mv : Nat)
  | off
  | on
deriving DecidableEq, Repr

/-- How far a change of power state has come (Table 16.3, R501): functions drain; trunks drain or retrain; the regulators are asked; domains are powered. -/
inductive PwrStage where
  | functions | trunks | volts | domains
deriving DecidableEq, Repr

/-- A change of power state in progress; `leaving` for an exit, and for an entry that was aborted and goes back. -/
structure PwrTrans where
  source : Nat
  target : Nat
  leaving : Bool
  stage : PwrStage
deriving DecidableEq, Repr

/-- Power states and domains (chapter 16). -/
structure PwrState where
  waiting : List WaitingAccess := []
  /-- Hardware time at which VDD_AON came up: the AON timer counts from it (R503). -/
  aonFrom : Nat := 0
  /-- Trunks train at one lane and 10.3125 GBd (R107). -/
  quiet : Bool := false
  /-- The domains that have power (Table 16.1). -/
  doms : Nat := 0x3FFFF
  trans : Option PwrTrans := none
  /-- The state whose drained functions stand drained: 0 none, 2 those of P2, 3 those of P3 and P4 (R497, R498). -/
  drained : Nat := 0
  /-- No trunk trains: an entry to P3 or P4 has begun to drain the trunks. -/
  shut : Bool := false
  /-- The trunks that an entry to P2 retrains. -/
  retrain : List Nat := []
  /-- VOUT_MODE as read from record 0, and the records whose regulators have been told to turn off. -/
  voutMode : Nat := 0x14
  off : List Nat := []
  /-- Regulator requests in order: the first awaits its acknowledgement, or its repetition while `idle`; its failures; whether it restores a setting (R513); the setpoint last sent; the indices of the setpoints that a user trim changed during a transition (R511). -/
  reqs : List (Nat × RegOp) := []
  idle : Bool := false
  fails : Nat := 0
  restoring : Bool := false
  asked : Nat := 0
  trimmed : List Nat := []
  /-- STATUS_WORDs of a PMB_ALERT_N that an acknowledgement wait holds back (Table 16.10). -/
  alert : Option (List Nat) := none
  /-- The I2C slave holds SCL low after an address match (R504). -/
  scl : Bool := false
  /-- The DRAM die is in self-refresh. -/
  refresh : Bool := false
  /-- Panel time and the AON timer at entry to P4. -/
  asleep : Option (Nat × Nat) := none
deriving DecidableEq, Repr

/-- Resets (chapter 17). -/
structure RstState where
  /-- Every domain but AON is held in reset (R528). -/
  held : Bool := false
  /-- VDD_AON has failed: the core die is stopped until the next cold reset (R560). -/
  off : Bool := false
  /-- RST_N is low; the root PLL holds the reset; the root PLL has lost lock (R527). -/
  pin : Bool := false
  pll : Bool := false
  lost : Bool := false
  /-- The regulators that a warm reset turns on, or raises, have not all acknowledged (R509). -/
  volts : Bool := false
  /-- The power die answered at the last cold reset: CHIP_PART shows its revision. -/
  pdRead : Bool := false
  /-- CHIP_RST_CMD WARM was taken: the reset starts 10 µs later (R526). -/
  armed : Bool := false
deriving DecidableEq, Repr

/-- A management tunnel command in progress (R411): its COUNT and SEQ, the operations left with their addresses and data, and what the reply holds so far. -/
structure MtunJob where
  count : Nat
  seq : Nat
  left : List (Nat × Nat × Nat)
  reply : List Byte
deriving DecidableEq, Repr

/-- The register fabric (R553): for each path and pair the latched upper half (the whole count for a group with a latching read of its own), and the staged lower half of a write. Key path * 2^22 + byte address of the _LO register. -/
structure CsrState where
  latch : Tab Nat := []
  staged : Tab (Option Nat) := []
  /-- Page soft resets that wait for BUSY to fall (R550). -/
  softReset : List Nat := []
  /-- Events of R534 whose PAGE_IRQ_STAT bit has not been cleared: key page * 32 + bit. -/
  intn : Tab Bool := []
  /-- The management tunnel's agent: its command in progress, and the units that wait behind it with the switch ports they entered from. -/
  mtun : Option MtunJob := none
  mtunWaits : List (Nat × UnitMsg) := []
  /-- While an access that waited goes on: what the page's mask said as it arrived (R409); none otherwise. -/
  arrived : Option Bool := none
  /-- A temperature has been read since the last page soft reset; the sensors above CRIT at the last reading (R535). -/
  tempSeen : Bool := false
  crit : List Nat := []
deriving DecidableEq, Repr

/-! ### The power die (chapters 14 and 15) -/

/-- What a tick of the power die began with on a channel: its state, direction, cause and trip count, its fault timer, and whether SAG or WEAK held. -/
structure ChanTick where
  st : Nat
  dir : Nat
  cause : Nat
  trips : Nat
  ftimer : Nat
  bad : Bool
deriving DecidableEq, Repr

/-- A power channel: the heat accumulator with 16 fraction bits; the curve in force when it is not the default, and one that APPLY_CURVE has staged for the next tick; the energy in 2^-16 µJ; the latest current in 2 mA, signed; the samples of the last 1 ms, newest first; the fault timer, and whether SAG or WEAK held in its last tick; power-good's tick count; when it tripped; whether it came to ENHANCE from RAMP; at its last change of state, the time and what that tick began with. -/
structure PowChan where
  heat : Nat := 0xFFFFFF * 65536
  curve : Option (List (Nat × Nat)) := none
  staged : Option (List (Nat × Nat)) := none
  energy : Int := 0
  current : Int := 0
  window : List (Int × Nat) := []
  ftimer : Nat := 0
  bad : Bool := false
  pgcount : Nat := 0
  tripAt : Nat := 0
  fromRamp : Bool := false
  was : Option (Nat × ChanTick) := none
deriving DecidableEq, Repr

/-- A message that a CPD PHY has to send: its header as software wrote it, its data, whether it is on the line, the times it has been sent again, and EXPECT_RESP. -/
structure CpdTx where
  hdr : Nat
  data : List Nat
  sent : Bool
  tries : Nat
  expect : Bool
deriving DecidableEq, Repr

/-- A received CPD message: its header, seven data words and the nanoseconds of its EOP. -/
structure CpdRx where
  hdr : Nat
  data : List Nat
  ns : Nat
deriving DecidableEq, Repr

/-- A CPD PHY (chapter 15): both seats settled; the software's message and the hub's own answer; the receive queue and the last MessageID received; the sender response timer; the software's role swaps that were sent and whose swap has not ended; the swap in progress and the PS_RDYs since its Accept; the recovery direction; the confirmation timer; a Hard Reset that waits for the transmission in progress; a channel that drove at the Hard Reset and has not yet been turned off. -/
structure CpdPhy where
  settled : Bool := false
  tx : Option CpdTx := none
  auto : Option CpdTx := none
  rx : List CpdRx := []
  rxId : Option Nat := none
  resp : Bool := false
  asked : List Nat := []
  swap : Option (Nat × Option Nat) := none
  recovery : Option Nat := none
  confirm : Bool := false
  hrDue : Bool := false
  drove : Bool := false
deriving DecidableEq, Repr

/-- The power die: it has powered up; its gates are held off while VIN_PD is low; its temperature; the banks of the preload memory, oldest first; a bank that is being programmed, and when that ends; its copy of panel time, as it was corrected and when; the journal entries that wait for the die-to-die link. -/
structure FusState where
  alive : Bool := false
  held : Bool := true
  temp : Int := 0
  chan : Tab PowChan := []
  phy : Tab CpdPhy := []
  banks : List (List Nat) := []
  prog : Option (Nat × List Nat) := none
  copyNs : Nat := 0
  copyAt : Nat := 0
  late : List (Nat × Nat × Nat × Nat) := []
deriving DecidableEq, Repr

/-! ### Images and engines (chapter 12) -/

/-- A verified image: its kind and slot, its 256 header bytes and its body, and its place in the image cache, in MiB from ENG_CACHE_BASE (DESIGN CHOICE, log 156); `verified` is false for a customer image that runs without an owner code key hash (R398, R426). -/
structure Image where
  kind : Nat
  slot : Nat
  hdr : List Byte
  body : List Byte
  verified : Bool
  place : Nat := 0
deriving DecidableEq, Repr

/-- An RX descriptor with its unit (Table 12.4): word 4 is `ofs`. -/
structure RxEnt where
  router : Bool
  kind : Nat
  localId : Nat
  tid : Nat
  seq : Nat
  tsw : Nat
  ofs : Nat
  payload : List Byte
deriving DecidableEq, Repr

/-- A SEND that waits for a checkpoint commit (R388). -/
structure SendEnt where
  tid : Nat
  kind : Nat
  payload : List Byte
deriving DecidableEq, Repr

/-- A committed checkpoint (R386): the region, the format that wrote it, and each origin tunnel's next USEQ. -/
structure Ckpt where
  region : List Byte
  fmt : Nat
  useqs : List (Nat × Nat)
deriving DecidableEq, Repr

/-- A physical engine. -/
structure EngState where
  /-- Running or staged. -/
  img : Option Image := none
  /-- Local SRAM (R376). -/
  mem : Tab Byte := []
  /-- While LOADING, or FAILED after a takeover: it comes back as a spare. -/
  asSpare : Bool := false
  /-- Hardware time of the last watchdog kick. -/
  kickAt : Option Nat := none
  /-- The image that RELOAD named (R390). -/
  reload : Option Image := none
  /-- The final checkpoint of a reload has been committed (R390). -/
  finalCkpt : Bool := false
deriving DecidableEq, Repr

/-- A logical engine: its mailboxes, oldest first, with how many entries its engine has taken and no checkpoint has released; its committed checkpoint; when its engine failed. -/
structure LogEng where
  unit : List RxEnt := []
  unitPos : Nat := 0
  msg : List RxEnt := []
  msgPos : Nat := 0
  cmd : List (List Nat) := []
  cmdPos : Nat := 0
  rsp : List (List Nat) := []
  send : List SendEnt := []
  ckpt : Option Ckpt := none
  commitAt : Option Nat := none
  failedAt : Option Nat := none
  /-- The failed engine itself reloads and resumes; no spare takes over (R389). -/
  repair : Bool := false
deriving DecidableEq, Repr

structure EngsState where
  eng : Tab EngState := []
  log : Tab LogEng := []
  /-- The engine that serves each logical engine (R377). -/
  phys : Tab Nat := []
  /-- Binding words: key cluster * 256 + entry. -/
  bind : Tab Nat := []
  cache : List Image := []
  /-- Engines that failed in this cycle, with the fault: settled at its end, the lowest logical engine first (R403). -/
  failing : List (Nat × Nat) := []
  /-- The kind and slot that a cache LOAD is verifying. -/
  loading : Option (Nat × Nat) := none
deriving DecidableEq, Repr

/-! ### The management pairs (chapter 12) -/

/-- A management pair: its memory, the image that it started from, its last kick and automatic restarts; halted, whatever the Ringmaster shows (R157). -/
structure MgtPair where
  mem : Tab Byte := []
  img : Option Image := none
  kickAt : Option Nat := none
  restarts : List Nat := []
  halted : Bool := false
deriving DecidableEq, Repr

/-- Management. -/
structure MgtState where
  pair : Tab MgtPair := []
  /-- The resident image that the boot ROM has verified, until pair A starts from it (R399). -/
  booted : Option Image := none
  /-- A fault, a halt or STOP_B has stopped the customer image, which pair B still holds (R426). -/
  customerOff : Bool := false
  /-- Pair B's customer image, its interrupt handler and the PAGE_IRQ_STAT bits forwarded to it by page (Table 12.6). -/
  customer : Option Image := none
  handler : Nat := 0
  forward : Tab Nat := []
  /-- The management mailbox (R396). -/
  mbox : List RxEnt := []
  /-- The boot flash: every byte that is not 0xFF. -/
  flash : Tab Byte := []
  /-- The flash command in progress: its OP, address and buffer. -/
  flashOp : Option (Nat × Nat × List Byte) := none
deriving DecidableEq, Repr

/-! ### Keys (chapter 13) -/

/-- A key slot that is not EMPTY. -/
structure KeySlot where
  unusable : Bool
  kind : Nat
  usage : Nat
  engMask : Nat
  label : List Byte
  key : List Byte
deriving DecidableEq, Repr

/-- A key store, attestation or OTP command in progress: its OP word and the buffer it took. -/
structure KeyJob where
  op : Nat
  slot : Nat
  kind : Nat
  usage : Nat
  buf : List Byte
deriving DecidableEq, Repr

/-- The key store. -/
structure KeyState where
  /-- The root held and its check value (R414). -/
  root : Option (List Byte) := none
  check : List Byte := []
  /-- The slot wrap key and the attestation private key of the root in use (R416). -/
  wrapKey : List Byte := []
  attKey : Option Nat := none
  slots : Tab (Option KeySlot) := []
  job : Option KeyJob := none
  /-- The statement that ATTEST is completing. -/
  att : Option (List Byte) := none
  otpJob : Option KeyJob := none
  /-- RESPONDs that have failed since cold reset (R429). -/
  fails : Nat := 0
  /-- An enabled tamper source was active in the last island cycle (R422). -/
  tampered : Bool := false
  /-- The debug nonce with its SCOPE. -/
  nonce : Option (List Byte × Nat) := none
  /-- One-time-programmable contents (Table 13.4). -/
  codeHash : Option (List Byte) := none
  debugHash : Option (List Byte) := none
  dbgNever : Bool := false
  svnMin : Tab Nat := []
deriving DecidableEq, Repr

end Sys2Proof.Machine
end

