-- ==== Sys2Proof/Machine/StateTraffic.lean ====
section
/-! DEFINITION. The state of chapters 01 to 06 of spec/ that no register holds: the tunnel map, the links and lanes of the trunks, the switch planes, the Ringmaster, the scheduler, panel time and the journal. -/

namespace Sys2Proof.Machine

/-- A tunnel map entry's four words (R39). -/
structure Entry where
  w0 : Nat := 0
  w1 : Nat := 0
  w2 : Nat := 0
  w3 : Nat := 0
deriving DecidableEq, Repr

/-- The condition of one copy of a map entry (R41): good, one bit wrong, or uncorrectable. -/
inductive EccState where
  | good | single | bad
deriving DecidableEq, Repr

/-- What the duplicate-discard state of a tunnel at an egress holds (R36). -/
structure Dds where
  last : Nat
  bitmap : Nat
deriving DecidableEq, Repr

/-- A FENCE unit of an egress queue (R25 to R28): its number, the planes whose copy has arrived and stands at the egress, and the planes in service without a break since the first copy whose copy is still awaited. -/
structure FenceState where
  seq : Nat
  copies : List Nat
  awaited : List Nat
  /-- Complete (R27): one of its copies may be sent. -/
  complete : Bool
  /-- Sent: an awaited copy that arrives later is dropped. -/
  sent : Bool
deriving DecidableEq, Repr

/-- The tunnel map (chapter 01). -/
structure TunState where
  /-- Committed entries of each copy: key plane * 32768 + index. -/
  map : Tab Entry := []
  /-- Check-bit condition of each copy's entries. -/
  ecc : Tab EccState := []
  /-- Staged entries, in the order of their index (R45, R46). -/
  edit : List (Nat × Entry) := []
  /-- The path that owns the open edit set. -/
  editPath : Nat := 0
  /-- A commit that passed its checks is waiting for its boundary, with the epoch of its grant (R159), or for a live pair. -/
  commitGranted : Bool := false
  commitEpoch : Nat := 0
  commitWaitsPair : Bool := false
  /-- Next unit sequence number of each tunnel at its origin (R32). -/
  useq : Tab Nat := []
  /-- The plane that an A, B or Either ordered tunnel has moved to after a failure, plus 1 (R19, R20). -/
  moved : Tab Nat := []
  /-- Duplicate-discard state: key egress port * 32768 + tunnel (R36, R146). -/
  dds : Tab (Option Dds) := []
  /-- Fences at egress queues, first arrived first: key queue * 32768 + tunnel (R25). -/
  fences : Tab (List FenceState) := []
  /-- Lookups made at the ingress points, which order them against a link's entry to UP (R92). -/
  lookups : Nat := 0
  /-- Tunnel and trunk pairs already counted by R44: key trunk * 32768 + tunnel. -/
  capWarned : Tab Bool := []
  /-- Hardware time of each tunnel's last lookup, plus 1 (Table 16.4, PROTECTION). -/
  lookedAt : Tab Nat := []
deriving DecidableEq, Repr

/-- A cell in the replay buffer (R67): its sequence number and content, and when it was last resent (R72). -/
structure Replay where
  seq : Nat
  cell : Cell
  resentAt : Option Nat
deriving DecidableEq, Repr

/-- A unit open at a trunk ingress (R64): what its first cell said, its cells so far, and where it is being entered. -/
structure OpenUnit where
  tid : Nat
  kind : Nat
  useq : Nat
  cidx : Nat
  bytes : Nat
  /-- The entry under which it is policed at its last cell; none for a unit that is being discarded since its lookup (R192). -/
  entry : Option Entry
  /-- Planes the unit is being entered into, with its handle in each; empty when no plane takes it. -/
  planes : List (Nat × Nat)
deriving DecidableEq, Repr

/-- A replay timer expiry of the cycle that runs: its hardware time, TRK_RPL_TMO and RPL_TMO as they stood before it, the cell that it resends, and whether that cell was already to be resent (Table 2.7). -/
structure Expiry where
  time : Nat
  count : Nat
  bit : Nat
  seq : Nat
  listed : Bool
deriving DecidableEq, Repr

/-- The states of a link (Table 2.5) are the codes of TRK_LSTAT.STATE; this is the rest of one trunk's link. -/
structure Link where
  /-- Next sequence to send, X (chapter 02). -/
  x : Nat := 0
  replay : List Replay := []
  /-- Sequences that wait to be resent, in order. -/
  resend : List Nat := []
  /-- Replay timer expiries since the last advance of CUM (R74), and the hardware time of that advance; an expiry of the cycle that runs (Table 2.7). -/
  expiries : Nat := 0
  cumAt : Option Nat := none
  expiry : Option Expiry := none
  /-- Hardware time at which the stall began (R75). -/
  stalledAt : Option Nat := none
  /-- SENT and LIMIT of the transmitter by link VC (R80, R83, R84). -/
  sent : Tab Nat := []
  limit : Tab Nat := []
  /-- Ready TIME, CREDIT and HEALTH blocks, oldest first (R66). -/
  ready : List Ctl := []
  /-- Cells sent since the last control block (R58). -/
  sinceCtl : Nat := 0
  /-- Control blocks sent since the last cell, and how many of them were CREDIT or HEALTH blocks (R66). -/
  gapCtl : Nat := 0
  gapLow : Nat := 0
  /-- Link blocks sent since entry to CAP (R102), blocks sent since the last ALIGN, counted on all positions together, and the marker count (R103). -/
  blocks : Nat := 0
  laneRun : Nat := 0
  mcnt : Nat := 0
  /-- Next expected sequence, ne (R68), and the landing buffer (R69), each cell with the timestamp word of its arrival. -/
  ne : Nat := 0
  landing : Tab (Option (Cell × Nat)) := []
  /-- Hardware times at which damaged cells now missing arrived, for TRK_REPLAY_MAX. -/
  damagedAt : Option Nat := none
  /-- LIMIT of the receiver by link VC and the value last sent (R81, R82). -/
  rxLimit : Tab Nat := []
  rxSent : Tab Nat := []
  opens : Tab (Option OpenUnit) := []
  /-- Cells since the last ACK trigger, the ack timer, and the triggered ACKs that have not wholly departed: of each, how many of its blocks have (R76, R77). -/
  ackCells : Nat := 0
  ackArmed : Bool := false
  acks : List Nat := []
  /-- Highest sequence received, and a damaged cell after it (R77). -/
  highest : Nat := 0xFFFF
  damagedAfter : Bool := false
  /-- A valid peer CAP received and a CAP with SEEN sent in this stay in CAP; further CAP blocks to send in UP (R86). -/
  capSeen : Bool := false
  capSentSeen : Bool := false
  capLeft : Nat := 0
  /-- The terms this end offers, as they stood at entry to CAP (R98). -/
  offer : Option CapTerms := none
  /-- The peer's terms from its last valid CAP block. -/
  peer : Option CapTerms := none
  /-- The abort cells that must end part-sent units, with the level of each unit (R171, R580). -/
  aborts : List (Nat × Cell) := []
  /-- VC credits reserved in each plane at the last entry to UP: the amounts by VC (R126, R155). -/
  reserved : List Nat := []
  /-- The number of lookups made before the last entry to UP (R92). -/
  upFrom : Nat := 0
  /-- 1 ms since entry to DOWN has passed (Table 2.5). -/
  dwelt : Bool := false
  /-- MAX_RATE and MAX_WIDTH as this training took them (R107). -/
  trainRate : Nat := 0
  trainWidth : Nat := 0
  /-- Training step now running: 1 SEAT to 6 ASSIGN (Table 3.2), 0 none; and a failed attempt waiting to retry (R105). -/
  step : Nat := 0
  retryWait : Bool := false
  /-- The transmit preset of each lane, as the peer requested it at EQUALISE (Table 3.2). -/
  txPreset : Tab Nat := []
  /-- Lanes that passed CHECK at this receiver, and at the peer's. -/
  passRx : Nat := 0
  passTx : Nat := 0
  /-- Receive lanes hard-failed since they were last bound (R111, R114). -/
  hardFailed : Nat := 0
  /-- Consecutive predictive samples by lane (R112), and whether the last window triggered. -/
  predRuns : Tab Nat := []
  predLast : Tab Bool := []
  /-- Errors of the last 1 ms window by lane, and the windows since the last eye measurement of a lane that carries no position, plus 1 (R108). -/
  winErrs : Tab Nat := []
  eyeAge : Tab Nat := []
  /-- Link time of the learning period so far in ms, sums of margins by lane, a period asked for, and whether a period has completed since reset (R113). -/
  learnMs : Nat := 0
  learnN : Tab Nat := []
  learnH : Tab Nat := []
  learnV : Tab Nat := []
  learnAsked : Bool := false
  learned : Bool := false
  /-- The rate at which the baseline was learned, plus 1. -/
  learnRate : Nat := 0
  /-- A substitution asked for: failing lane, kind, request number (R115); and, of a reactive one, when the first cell damaged by the failure arrived, until CUM has passed the last of them, and that last sequence once it shows (R118). -/
  subst : Option (Nat × Nat × Nat) := none
  substFrom : Option Nat := none
  substEnd : Option Nat := none
  rseq : Nat := 0
  /-- Request number of the last SWITCH sent (R116). -/
  txRseq : Option Nat := none
  /-- Hardware time from which a retired lane has held lock with no errors above both eye thresholds (R120). -/
  goodFrom : Tab Nat := []
deriving DecidableEq, Repr

/-- A cell of a plane's buffer (chapter 04): its reference count, its shadow count, the unit it belongs to, and whether the last sweep found it orphaned. -/
structure CellEnt where
  alloc : Bool := false
  ref : Nat := 0
  shadow : Nat := 0
  next : Nat := 0
  tid : Nat := 0
  orphan : Bool := false
deriving DecidableEq, Repr

/-- A unit held by a plane: its descriptor, its lookup result and its content. Its handle is a number that its plane gives to no other unit. -/
structure PUnit where
  tid : Nat
  kind : Nat
  seq : Nat
  tsw : Nat
  /-- The tunnel map entry as it was looked up (R50), and which lookup that was (R92). -/
  entry : Entry
  looked : Nat
  inSp : Nat
  /-- Buffer cells in order, each with the credit record it holds (0 none). -/
  cells : List (Nat × Nat)
  payload : List Byte
  /-- The last cell has been written (R136). -/
  whole : Bool
  /-- Egress ports and queues it is still linked to (R141). -/
  members : List (Nat × Nat)
  /-- Cells from the trunk reservation, the protection reserve and the shared pool (R127, R129). -/
  fromTrunk : Bool
  fromProt : Nat
deriving DecidableEq, Repr

/-- A unit in an egress queue: its handle and when it joined (R169, R195). -/
structure QEnt where
  unit : Nat
  joined : Nat
deriving DecidableEq, Repr

/-- A unit on the park list (R176) or in a Carousel slot: its handle, egress port and release time in ns of panel time. -/
structure Pinned where
  unit : Nat
  port : Nat
  release : Nat
deriving DecidableEq, Repr

/-- One switch plane (chapter 04), with its Carousels (chapter 05). -/
structure Plane where
  cells : Tab CellEnt := []
  units : Tab (Option PUnit) := []
  /-- The handle that the next unit takes. -/
  nextUnit : Nat := 0
  /-- VOQs: key (ingress * 24 + egress) * 8 + VC; handles, oldest first. -/
  voq : Tab (List Nat) := []
  /-- Cells of a VOQ's head unit already transferred. -/
  xfer : Tab Nat := []
  /-- Grant pointers (key egress * 2 + level) and accept pointers (key ingress * 2 + level); the VC last served by a pair (R138, R139). -/
  grantPtr : Tab Nat := []
  acceptPtr : Tab Nat := []
  lastVc : Tab Nat := []
  queues : Tab (List QEnt) := []
  /-- Carousel slots: key port * 4096 + slot; oldest first (R177). -/
  carousel : Tab (List Pinned) := []
  park : List Pinned := []
  /-- Multicast group words: key group * 32 + word (R142). -/
  mcg : Tab Nat := []
  /-- Cell slots in a row without a match while one was due (R140). -/
  stall : Nat := 0
  /-- Pool sizes in force since entry to service (R132). -/
  trkMax : Nat := 0
  protMax : Nat := 0
  /-- Cells in use: protection reserve, shared pool, and per ingress port. -/
  protUsed : Nat := 0
  sharedUsed : Nat := 0
  byPort : Tab Nat := []
  /-- Cells reserved for each trunk's link (R126). -/
  reserved : Tab Nat := []
  /-- Free-list length less the cells that are free by their entries: 0 unless an upset changed it (R144). -/
  freeUpset : Int := 0
  sweeping : Bool := false
  /-- A sweep has ended since the plane was emptied: Sheepdog acts (Table 4.4). -/
  swept : Bool := false
  mismatched : Bool := false
  /-- Hardware time at which the plane was last declared failed (Table 4.9). -/
  failedAt : Nat := 0
  /-- Hardware times of the automatic restarts (R154). -/
  restarts : List Nat := []
  /-- The plane claims authority of a frozen Ringmaster; a demoted plane may not claim (R160, R161). -/
  claims : Bool := false
  mayClaim : Bool := true
deriving DecidableEq, Repr

/-- The multicast edit set (R142): words by key group * 32 + word. -/
structure McgEdit where
  words : Tab (Option Nat) := []
  path : Nat := 0
  granted : Bool := false
  epoch : Nat := 0
  waitsPair : Bool := false
deriving DecidableEq, Repr

/-- The Ringmaster (chapter 04). -/
structure RgmState where
  /-- Hardware times of each replica's disagreements (R156): key replica. -/
  disagree : Tab (List Nat) := []
  /-- The once-per-reset move to the preferred pair is done (R162). -/
  prefDone : Bool := false
  /-- A HANDOVER waits for a commit (R165). -/
  handoverWaits : Bool := false
deriving DecidableEq, Repr

/-- A unit in a pinned send list, or waiting for room in one until its deadline (R177, R178). -/
structure Handed where
  plane : Nat
  unit : Nat
  release : Nat
  deadline : Nat
deriving DecidableEq, Repr

/-- A unit that an egress port is part-way through sending, at one of the four levels of R171. -/
structure Sending where
  plane : Nat
  unit : Nat
  /-- Cells of it already sent. -/
  sent : Nat
  /-- The tunnel under whose entry it was selected, and what its cells carry, for the abort cell of R580. -/
  origTid : Nat
  tid : Nat
  kind : Nat
  seq : Nat
  vc : Nat
  /-- Duplicate-discard state before the unit was selected (R152). -/
  ddsBefore : Option Dds
  ddsKept : Bool
  /-- The queue it was taken from; none from the pinned send list. -/
  queue : Option Nat
deriving DecidableEq, Repr

/-- One egress switch port (chapter 05). -/
structure Egress where
  pinned : List Handed := []
  waiting : List Handed := []
  /-- Part-sent units by level 1 to 4. -/
  sending : Tab (Option Sending) := []
  /-- The VC1 queue served last (R171). -/
  rr : Nat := 0
deriving DecidableEq, Repr

/-- A queue pair (R167, R187). -/
structure QPair where
  port : Nat := 31
  cls : Nat := 0
  fprev : Nat := 0
  /-- The finish tag of the head unit, and the plane and handle of that unit. -/
  tag : Option Nat := none
  tagged : Nat × Nat := (0, 0)
deriving DecidableEq, Repr

/-- An allotment record and its buckets in 1/16 byte (R181 to R186). -/
structure Allot where
  rsv : Nat := 0
  weight : Nat := 1
  peak : Nat := 0
  grp : Nat := 0
  burst : Nat := 64
  bRsv : Int := 262144
  bPeak : Int := 262144
deriving DecidableEq, Repr

/-- A policer and its buckets in 1/16 byte (R192, R193). -/
structure Policer where
  cir : Nat := 0
  pir : Nat := 0
  cbs : Nat := 0
  pbs : Nat := 0
  c : Nat := 0
  p : Nat := 0
  green : Nat := 0
  yellow : Nat := 0
  red : Nat := 0
deriving DecidableEq, Repr

/-- The statistics of one queue of one plane (R196). -/
structure Sample where
  dMin : Nat := 0
  dMax : Nat := 0
  dMean : Nat := 0
  aMin : Nat := 0
  aMax : Nat := 0
  aMean : Nat := 0
  /-- A first sample has been taken; the count, which stands still while the page's EN is 0 (R549). -/
  taken : Bool := false
  cnt : Nat := 0
deriving DecidableEq, Repr

/-- A unit that an ingress point has looked up, stamped, policed and numbered and that waits for room in the planes (R129). -/
structure Waiting where
  tid : Nat
  kind : Nat
  seq : Nat
  tsw : Nat
  entry : Entry
  looked : Nat
  payload : List Byte
  dropEligible : Bool
deriving DecidableEq, Repr

/-- Changes that wait for a refill boundary (R185): words of records and of policers, release groups asked for and reclaimed (R191), and SET (seconds, nanoseconds) and STEP (1/16 ns) requests, oldest first (R205). -/
structure Requests where
  allots : Tab (Option (Nat × Nat × Nat)) := []
  policers : Tab (Option (Nat × Nat × Nat)) := []
  relSet : Tab Bool := []
  relClr : Tab Bool := []
  times : List (Sum (Nat × Nat) Int) := []
deriving DecidableEq, Repr

/-- The scheduler (chapter 05) and the units that wait at the ingress points. -/
structure SchedState where
  ingress : Tab (List Waiting) := []
  /-- The planes that the bridge's READ_REQUEST of an epoch and tag entered (R305). Key TAGE. -/
  readIn : Tab (List Nat) := []
  /-- Units that each ingress point has entered into the planes. -/
  entered : Tab Nat := []
  egress : Tab Egress := []
  pairs : Tab QPair := []
  allots : Tab Allot := []
  policers : Tab Policer := []
  /-- Changes asked for since the last boundary, those of the CLK_CSR cycle `freshAt` apart: a boundary in that cycle leaves them for the following one (R185). -/
  asked : Requests := {}
  fresh : Requests := {}
  freshAt : Nat := 0
  samples : Tab Sample := []
  /-- The queue each plane's sampler visits next (R195). -/
  next : Tab Nat := []
  /-- Histogram bins: key histogram * 16 + bin (R197). -/
  bins : Tab Nat := []
  /-- Copies not yet released of the trunk cells that hold credit: (trunk, link VC, copies) by record number (R128). -/
  credits : Tab (Option (Nat × Nat × Nat)) := []
  nextCredit : Nat := 1
deriving DecidableEq, Repr

/-- A cable-delay exchange that this end originated (R220, R222): its ID, t1 once its block has departed, t2 and t4 once the answer is in, and whether a SWITCH or a STEP or SET fell within it. Times are panel time in 1/16 ns. -/
structure Exchange where
  id : Nat
  t1 : Option Nat := none
  t24 : Option (Nat × Nat) := none
  switched : Bool := false
  stepped : Bool := false
deriving DecidableEq, Repr

/-- Time over one trunk (R220 to R225). -/
structure TrunkTime where
  nextId : Nat := 0
  exch : Option Exchange := none
  /-- A finished exchange whose time-of-day block is awaited: t1, t2, t3, t4. -/
  done : Option (Nat × Nat × Nat × Nat) := none
  /-- The last 16 kept measurements, each twice d in 1/16 ns, newest first. -/
  kept : List Nat := []
  /-- Consecutive counted discards, and consecutive exchanges without a measurement. -/
  badRun : Nat := 0
  missRun : Nat := 0
  /-- SYNC_VALID, DELAY_KNOWN and HOPS of the peer's latest TIME subtype 3. -/
  peer : Option (Bool × Bool × Nat) := none
  /-- Seconds count at t3 of the answer being sent. -/
  replySec : Nat := 0
deriving DecidableEq, Repr

/-- Panel time, its sources and its follower (chapter 06). -/
structure TimeState where
  sec : Nat := 0
  ns : Nat := 0
  /-- The part of a nanosecond, in units of 2^-8 ppb of one ns. -/
  frac : Int := 0
  /-- Progress toward the next ns of a slew, in ppb. -/
  slewAcc : Nat := 0
  /-- The follower is engaged (R209), its integral in 2^-15 units of TIM_FADJ, and its runs of samples within and outside the lock limits (R216). -/
  engaged : Bool := false
  integral : Int := 0
  inRun : Nat := 0
  outRun : Nat := 0
  /-- Qualification of PTP, IRIG-B and 1PPS (R211); the last edge or marker and the run of good and bad ones. -/
  ptpQual : Bool := false
  irigQual : Bool := false
  irigLast : Option Nat := none
  irigRun : Nat := 0
  irigBad : Nat := 0
  ppsQual : Bool := false
  ppsLast : Option Nat := none
  ppsRun : Nat := 0
  /-- Higher-priority slots whose TIM_SRC_HOLD is running (R210). -/
  holding : List Nat := []
  trunks : Tab TrunkTime := []
  /-- Seconds of the three captures. -/
  capSec : Tab Nat := []
  /-- The hardware time and the latency in 10 ps of each capture's last edge (Table 6.8). -/
  capAt : Tab (Option (Nat × Int)) := []
  /-- The PPS_OUT pin. -/
  ppsOut : Bool := false
deriving DecidableEq, Repr

/-- A journal entry (Table 6.6), LOST apart. -/
structure JEnt where
  tsw : Nat
  page : Nat
  bit : Nat
  arg : Nat
  /-- The cycle of hardware time in which it came. -/
  cyc : Nat := 0
deriving DecidableEq, Repr

/-- The event journal (chapter 06): the ring's words, the arrival queue and whether entries were lost since the last one written. -/
structure JnlState where
  ring : Tab (Option (JEnt × Bool)) := []
  arrivals : List JEnt := []
  lost : Bool := false
  full : Bool := false
deriving DecidableEq, Repr

end Sys2Proof.Machine
end

