-- ==== Sys2Proof/Machine/State.lean ====
section
/-! DEFINITION. The state of the hub, its state after reset, and the reasons a step can stop. -/

namespace Sys2Proof.Machine

/-- Why a step faults. -/
inductive Fault where
  /-- Raised by a meaning whose operand names an instance, a lane, a port or a path that the hub does not have (trunk 16, say). Safe: no such command can reach the hub. -/
  | noSuchInstance
deriving DecidableEq, Repr

/-- Why a command is refused. -/
inductive Refusal where
  /-- Raised by an arm of Dispatch.lean for a command without a meaning yet. Safe: no claim can be proved about it. -/
  | notModelled (mnemonic : String)
deriving DecidableEq, Repr

/-- What the hub puts out at an edge during a command: the answer to a register read, a cell or block on a trunk, a unit handed to an adapter, and the adapters' own transactions. -/
inductive Emit where
  /-- The value that a register read returns on an access path. -/
  | csr (path value : Nat)
  /-- A cell sent on a trunk, as its 256 bytes. -/
  | cell (trunk : Nat) (raw : List Byte)
  /-- A control block of the link sent on a trunk. -/
  | ctl (trunk : Nat) (b : Ctl)
  /-- A lane-layer block sent on one transmit lane of a trunk. -/
  | laneCtl (trunk lane : Nat) (b : Ctl)
  /-- The same, where it stands after block `after` of the 32 blocks of the cell put out before it (R103). -/
  | laneCtlIn (trunk lane after : Nat) (b : Ctl)
  /-- `blocks` PRBS31 data blocks sent on one transmit lane of a trunk (R105, R108). -/
  | prbs (trunk lane blocks : Nat)
  /-- A whole unit handed to the adapter at a switch port. -/
  | unit (sp : Nat) (u : UnitMsg)
  /-- A completion to the host: the request, its status (0 Successful Completion, 1 Unsupported Request, 2 Completer Abort, 3 Successful Completion with EP set), whether it answers a locked read, and its data. -/
  | hostCpl (id status : Nat) (locked : Bool) (data : List Byte)
  /-- A memory write to the host: its address, Relaxed Ordering and No Snoop attributes, and data. -/
  | hostWrite (addr attr : Nat) (data : List Byte)
  /-- A memory read of the host for inbound request `id`. -/
  | hostRead (addr len id : Nat)
  /-- An AUX request of a display output: its operation, address and data. -/
  | aux (out op addr len : Nat) (data : List Byte)
  /-- A frame sent by a MAC, with its FCS. -/
  | frame (mac : Nat) (data : List Byte)
  /-- An answer of the USB function on endpoint `ep`: 0 ACK, 1 NAK, 2 NYET, 3 STALL, 4 data. -/
  | usb (ep code : Nat) (data : List Byte)
  /-- A status-change answer of the hub's interrupt endpoint, coded as the function's. -/
  | usbHub (code : Nat) (data : List Byte)
  /-- The function's remote wake begins (R367): K on the upstream port for `ms` milliseconds, or on port 5; or it is given up (R368). -/
  | usbWake (port5 : Bool) (ms : Nat)
  | usbWakeStop
  /-- A descriptor that an engine takes from its UNIT (0), MSG (1) or CMD (2) mailbox, with a unit's payload. -/
  | desc (engine box : Nat) (words : List Nat) (payload : List Byte)
  /-- A descriptor that the live pair takes from the management mailbox, with the unit's payload (R396). -/
  | mgtDesc (pair : Nat) (words : List Nat) (payload : List Byte)
  /-- What the customer image's ECALL returns in a0. -/
  | ecall (a0 : Nat)
  /-- An interrupt of a page group to a management pair. -/
  | pairIrq (pair group : Nat)
  /-- An interrupt that the resident image forwards to the customer image's handler. -/
  | forwarded (handler page bit : Nat)
  /-- A message that CPD PHY `trunk` sends: its header and data objects. -/
  | cpd (trunk hdr : Nat) (data : List Nat)
  /-- A Hard Reset (true) or the Fast Role Swap signal (false) on CPD. -/
  | cpdSignal (trunk : Nat) (hard : Bool)
  /-- A PMBus write: the regulator's address, its command code and data; with PEC, and at 400 kHz (R506, Table 16.12). -/
  | pmbus (addr cmd data : Nat) (pec fast : Bool)
  /-- A PMBus read: the regulator's address and its command code; with PEC, and at 400 kHz (R508, R510, R515). -/
  | pmbusRead (addr cmd : Nat) (pec fast : Bool)
  /-- What the storage adapter sends to the device at a root port. -/
  | nvme (port : Nat) (m : NvmeOut)
  /-- An MSI-X message. -/
  | msix (vec addr data : Nat)
deriving DecidableEq, Repr

/-- The hub. -/
structure State where
  /-- Commands that wait, first in, first out. -/
  pending : List Instr
  /-- Hardware time in ns since cold reset: the model's own field. -/
  hw : Nat
  /-- How many free values the run has taken: the model's own field. -/
  free : Nat
  /-- What the last command put out: the model's own field. -/
  out : List Emit
  /-- Every register field that does not hold its reset value. -/
  regs : Tab Nat
  tun : TunState
  links : Tab Link
  planes : Tab Plane
  mcg : McgEdit
  rgm : RgmState
  sch : SchedState
  /-- The DRAM die: every byte that is not 0 (chapter 07, The frame store). -/
  dram : Tab Byte
  dsp : DspState
  sto : StoState
  brg : BrgState
  net : NetState
  usb : UsbState
  tim : TimeState
  eng : EngsState
  mgt : MgtState
  key : KeyState
  fus : FusState
  jnl : JnlState
  csr : CsrState
  pwr : PwrState
  rst : RstState
deriving DecidableEq, Repr

/-- The hub right after cold reset. -/
def State.reset : State where
  pending := []
  hw := 0
  free := 0
  out := []
  regs := []
  tun := {}
  links := []
  planes := []
  mcg := {}
  rgm := {}
  sch := {}
  dram := []
  dsp := {}
  sto := {}
  brg := {}
  net := {}
  usb := {}
  tim := {}
  eng := {}
  mgt := {}
  key := {}
  fus := {}
  jnl := {}
  csr := {}
  pwr := {}
  rst := {}

end Sys2Proof.Machine
end

