-- ==== Sys2Proof/Machine/Ops.lean ====
section
/-! DEFINITION. The named operations over the state: reading and writing register fields, counters, interrupt bits, the journal's arrival queue, timestamp words and free values. -/

namespace Sys2Proof.Machine

/-- The outcome of a command whose operands name instances that exist. -/
def guarded (ok : Bool) (s : State) : Host.Outcome State Fault Refusal :=
  if ok then .next s else .fault .noSuchInstance

namespace State

/-- A command begins: nothing has been put out yet. -/
def begin (s : State) : State := { s with out := [] }

/-- The value of instance (i, j) of a register field. -/
def rd (s : State) (f : Field) (i : Nat := 0) (j : Nat := 0) : Nat := f.get i j s.regs

/-- Stores a value in instance (i, j) of a register field. -/
def wr (s : State) (f : Field) (v : Nat) (i : Nat := 0) (j : Nat := 0) : State :=
  { s with regs := f.put v i j s.regs }

def updFus (s : State) (f : FusState → FusState) : State := { s with fus := f s.fus }
def chan (s : State) (c : Nat) : PowChan := s.fus.chan.get {} c
def setChan (s : State) (c : Nat) (x : PowChan) : State := s.updFus (fun f => { f with chan := f.chan.set {} c x })
def phy (s : State) (n : Nat) : CpdPhy := s.fus.phy.get {} n
def setPhy (s : State) (n : Nat) (x : CpdPhy) : State := s.updFus (fun f => { f with phy := f.phy.set {} n x })

/-- Both seat pins of a trunk have read seated for 20 ms (Table 3.2). -/
def seated (s : State) (n : Nat) : Bool := (s.phy n).settled

/-- Puts something out at an edge of the hub. -/
def emit (s : State) (e : Emit) : State := { s with out := s.out ++ [e] }

/-- The next free value: a number the spec leaves open. -/
def freeNat (s : State) : Nat := (Config.freeValue s.free).toNat

/-- Marks the free value as taken. -/
def tookFree (s : State) : State := { s with free := s.free + 1 }

def link (s : State) (n : Nat) : Link := s.links.get {} n
def setLink (s : State) (n : Nat) (l : Link) : State := { s with links := s.links.set {} n l }
def updLink (s : State) (n : Nat) (f : Link → Link) : State := s.setLink n (f (s.link n))
def plane (s : State) (p : Nat) : Plane := s.planes.get {} p
def setPlane (s : State) (p : Nat) (x : Plane) : State := { s with planes := s.planes.set {} p x }
def updPlane (s : State) (p : Nat) (f : Plane → Plane) : State := s.setPlane p (f (s.plane p))
def egress (s : State) (sp : Nat) : Egress := s.sch.egress.get {} sp
def setEgress (s : State) (sp : Nat) (e : Egress) : State :=
  { s with sch := { s.sch with egress := s.sch.egress.set {} sp e } }
def updEgress (s : State) (sp : Nat) (f : Egress → Egress) : State := s.setEgress sp (f (s.egress sp))
def updTun (s : State) (f : TunState → TunState) : State := { s with tun := f s.tun }
def updSch (s : State) (f : SchedState → SchedState) : State := { s with sch := f s.sch }

end State

/-- Later requests joined to earlier ones: of several for one record the last counts (R185). -/
def Requests.join (a b : Requests) : Requests :=
  { allots := b.allots.foldl (fun t x => t.set none x.1 x.2) a.allots
    policers := b.policers.foldl (fun t x => t.set none x.1 x.2) a.policers
    relSet := b.relSet.foldl (fun t x => t.set false x.1 x.2) a.relSet
    relClr := b.relClr.foldl (fun t x => t.set false x.1 x.2) a.relClr
    times := a.times ++ b.times }

namespace State

/-- A change is asked for that takes effect at a refill boundary (R185); a cycle of CLK_CSR is 4 ns (Table 16.8). -/
def ask (s : State) (f : Requests → Requests) : State :=
  s.updSch (fun x =>
    if x.freshAt = s.hw / 4 then { x with fresh := f x.fresh }
    else { x with asked := x.asked.join x.fresh, fresh := f {}, freshAt := s.hw / 4 })

/-- Record words that wait for a boundary (R185). -/
def askedAllot (s : State) (i : Nat) : Option (Nat × Nat × Nat) := (s.sch.asked.join s.sch.fresh).allots.get none i

/-- The changes that a boundary now makes, and those that it leaves for the following one (R185). -/
def dueAsked (s : State) : Requests × Requests :=
  if s.sch.freshAt = s.hw / 4 then (s.sch.asked, s.sch.fresh) else (s.sch.asked.join s.sch.fresh, {})

end State

/-- The page of instance i of a field. -/
def Field.page (f : Field) (i : Nat) : Nat := (f.addr + i * f.si) / 4096

/-- States of a management pair (Table 4.19). -/
def pairOff : Nat := 0
def pairBooting : Nat := 1
def pairStandby : Nat := 2
def pairIsLive : Nat := 3
def pairHalted : Nat := 4

/-- Bit `b` of PAGE_IRQ_STAT; the instance is the page (Table 18.3). -/
def irqField (b : Nat) : Field := ⟨0x010, 0x1000, 0, b, 1, 0, .const, .w1c, 0, 1⟩

namespace State

/-- The counters of a page count (R549). -/
def counting (s : State) (page : Nat) : Bool := s.rd R.PAGE_CTL_EN page == 1

/-- Adds `n` to a saturating counter, which holds its value while its page's EN is 0 (R549). -/
def bumpBy (s : State) (f : Field) (n : Nat) (i : Nat := 0) (j : Nat := 0) : State :=
  if s.counting (f.page i) then s.wr f (min (s.rd f i j + n) (2 ^ f.width - 1)) i j else s

/-- Counts one event in a saturating counter. -/
def bump (s : State) (f : Field) (i : Nat := 0) (j : Nat := 0) : State := s.bumpBy f 1 i j

/-- Counts one event in a counter that wraps. -/
def bumpWrap (s : State) (f : Field) (i : Nat := 0) (j : Nat := 0) : State :=
  if s.counting (f.page i) then s.wr f (s.rd f i j + 1) i j else s

/-- Keeps the larger of a maximum register and a value. -/
def keepMax (s : State) (f : Field) (v : Nat) (i : Nat := 0) (j : Nat := 0) : State :=
  if f.acc = .ctr ∧ !s.counting (f.page i) then s
  else if s.rd f i j < v then s.wr f (min v (2 ^ f.width - 1)) i j else s

/-- PAGE_IRQ_STAT bit `b` of a page. -/
def irqBit (s : State) (page b : Nat) : Bool := s.rd (irqField b) page == 1

/-- The interrupt of a page is active: PAGE_IRQ_STAT AND PAGE_IRQ_EN is not 0 (R532). -/
def irqActive (s : State) (page : Nat) : Bool :=
  (List.range 32).any (fun b => s.irqBit page b && (s.rd R.PAGE_IRQ_EN page).testBit b)

/-- The state of management pair `x`, 0 A and 1 B. -/
def pairState (s : State) (x : Nat) : Nat := if x = 0 then s.rd R.RGM_STAT_PAIR_A else s.rd R.RGM_STAT_PAIR_B
def setPairState (s : State) (x v : Nat) : State := if x = 0 then s.wr R.RGM_STAT_PAIR_A v else s.wr R.RGM_STAT_PAIR_B v

/-- The cores of a pair run: they beat, and can halt. A frozen Ringmaster may still show a halted pair as live (R157). -/
def pairRuns (s : State) (x : Nat) : Bool :=
  (s.pairState x == pairStandby || s.pairState x == pairIsLive) && !(s.mgt.pair.get {} x).halted

/-- The customer image runs: pair B runs and no fault has halted it (R397). -/
def customerRuns (s : State) : Bool := s.pairRuns 1 && s.mgt.customer.isSome && !s.mgt.customerOff

/-- An interrupt that pair B's customer image asked for is forwarded to its handler (Table 12.6). -/
def forwardIrq (s : State) (page b : Nat) : State :=
  if s.customerRuns && (s.mgt.forward.get 0 page).testBit b then s.emit (.forwarded s.mgt.handler page b) else s

/-- Adds `n` occurrences of an event to counter `c` of page 0x014; a wrap sets its overflow flag (R401, R402). -/
def countAt (s : State) (c n : Nat) : State :=
  let v := s.rd R.MGT_EVC 0 c + n
  let s := s.wr R.MGT_EVC v 0 c
  if v < 2 ^ 48 then s else s.wr R.MGT_EVC_OVF (s.rd R.MGT_EVC_OVF 0 (c / 32) ||| 2 ^ (c % 32)) 0 (c / 32)

/-- Counter `c` wraps when `n` is added. -/
def wraps (s : State) (c n : Nat) : Bool := decide (2 ^ 48 ≤ s.rd R.MGT_EVC 0 c + n)

/-- The counters that count event `ev` now (R401, R557). -/
def followers (s : State) (ev : Nat) : List Nat :=
  if s.rd R.MGT_EVC_CTL_FREEZE = 1 then []
  else (List.range 64).filter (fun c => s.rd R.MGT_EVC_SEL_EN 0 c == 1 && s.rd R.MGT_EVC_SEL_EVENT 0 c == ev)

/-- An event of the host link's own interrupt messages is counted; what a wrap makes pending, `routing` carries on. -/
def tallyMsix (s : State) (ev : Nat) : State :=
  (s.followers ev).foldl (fun s c =>
    if s.wraps c 1 then ((s.countAt c 1).wr (irqField 0) 1 0x014).forwardIrq 0x014 0 else s.countAt c 1) s

/-- A group of pages has an active interrupt (R532). -/
def groupPending (s : State) (g : Nat) : Bool := (List.range 32).any (fun b => s.irqActive (32 * g + b))

def msixEnt (s : State) (v : Nat) : MsixEnt := s.brg.msix.get {} v

/-- Writes MSI-X vector `v`, or sets its pending bit while it is masked or the host link is down (R322). -/
def msixWrite (s : State) (v : Nat) : State :=
  let m := s.msixEnt v
  if m.masked || s.brg.funcMask || !s.brg.msixEn || s.rd R.HBR_LINK_STAT_UP == 0 then
    { s with brg := { s.brg with pba := s.brg.pba.set false v true } }
  else ((s.emit (.msix v m.addr m.data)).tallyMsix 0x171).tallyMsix 0x173

/-- The live management pair is interrupted for group `g` (R533). -/
def pairInterrupt (s : State) (g : Nat) : State :=
  if s.pairState 0 = pairIsLive then s.emit (.pairIrq 0 g)
  else if s.pairState 1 = pairIsLive then s.emit (.pairIrq 1 g)
  else s

/-- Group `g` has become pending: the management route interrupts the live pair, and the host route writes its vector (R533). -/
def notice (s : State) (g : Nat) : State :=
  let s := if (s.rd R.MON_ROUTE_MGT).testBit g then s.pairInterrupt g else s
  if s.rd R.MON_HOST_VEC_EN = 1 ∧ (s.rd R.MON_ROUTE_HOST).testBit g then s.msixWrite (s.rd R.MON_HOST_VEC_VEC) else s

/-- Carries out a change that may make group `g` pending, and routes it when it does (R533); so is group 0, that of page 0x014, when a counter of the messages that this sends wraps. -/
def routing (s : State) (g : Nat) (act : State → State) : State :=
  let t := act s
  if s.groupPending g || !t.groupPending g then t
  else
    let u := t.notice g
    if t.groupPending 0 || !u.groupPending 0 then u else u.notice 0

/-- Sets a bit of PAGE_IRQ_STAT, and routes and forwards the interrupt. -/
def irq (s : State) (page b : Nat) : State :=
  (s.routing (page / 32) (fun s => s.wr (irqField b) 1 page)).forwardIrq page b

/-- Adds `n` occurrences to counter `c`; a wrap raises OVF of page 0x014 (R402). -/
def tallyAt (s : State) (c n : Nat) : State :=
  if s.wraps c n then (s.countAt c n).irq 0x014 0 else s.countAt c n

/-- Event `ev` of Table 18.12 occurred `n` times: every counter that follows it counts (R401, R557). -/
def tally (s : State) (ev : Nat) (n : Nat := 1) : State := (s.followers ev).foldl (fun s c => s.tallyAt c n) s

/-- A run of `n` bytes at `a` of DRAM is read or written: the DRAM die leaves self-refresh, and event `ev` counts the 64-byte blocks that it touches (R491, Table 18.12). -/
def dramMoves (s : State) (ev a n : Nat) : State :=
  if n = 0 then s
  else { s with pwr := { s.pwr with refresh := s.pwr.refresh && !s.pwr.doms.testBit 17 } }.tally ev ((a + n - 1) / 64 - a / 64 + 1)

/-- Stores bytes in DRAM from an address. -/
def dramWrite (s : State) (a : Nat) (bs : List Byte) : State :=
  { s with dram := s.dram.setRun 0 a bs }.dramMoves 0x1C1 a bs.length

/-- Reads bytes of DRAM. -/
def dramRead (s : State) (a n : Nat) : List Byte := s.dram.getRun 0 a n

/-- The timestamp word of an instant: panel time with SYNC_VALID and DELAY_KNOWN of TIM_STAT (Table 1.5, R203). -/
def tswOf (s : State) (sec ns : Nat) : Nat :=
  sec % 2 ^ 32 * 2 ^ 32 + ns * 4 + s.rd R.TIM_STAT_SYNC_VALID * 2 + s.rd R.TIM_STAT_DELAY_KNOWN

/-- The timestamp word of now. -/
def tswNow (s : State) : Nat := s.tswOf s.tim.sec s.tim.ns

/-- The AON timer: periods of 1/32,768 s since VDD_AON came up (R503). -/
def aonTime (s : State) : Nat := (s.hw - s.pwr.aonFrom) * 32768 / 1000000000 % 2 ^ 48

/-- `n` bytes of free value. -/
def freeBytes (s : State) (n : Nat) : List Byte := (List.range n).map (fun i => BitVec.ofNat 8 (Config.freeValue (s.free + i)).toNat)

/-- Panel time as a continuous count of nanoseconds. -/
def panelNs (s : State) : Nat := s.tim.sec * 1000000000 + s.tim.ns

/-- Where an entry joins the arrival queue: behind all others, but time events of one cycle stand in bit order of PAGE_IRQ_STAT (Table 6.8). -/
def jnlJoin (e : JEnt) : List JEnt → List JEnt
  | [] => [e]
  | x :: l =>
    if e.page = 0x040 ∧ x.page = 0x040 ∧ x.cyc = e.cyc ∧ e.bit < x.bit then e :: x :: l else x :: jnlJoin e l

/-- An event that journals queues an entry; when the arrival queue holds 64, the one that would be last is lost (R230, R231). -/
def journalAt (s : State) (tsw page b arg : Nat) : State :=
  if s.rd R.MON_JNL_CFG_EN = 0 then s
  else
    let full := decide (64 ≤ s.jnl.arrivals.length)
    let s := { s with jnl := { s.jnl with
      arrivals := (jnlJoin ⟨tsw, page, b, arg, s.hw⟩ s.jnl.arrivals).take 64, lost := s.jnl.lost || full } }
    if full then ((s.bump R.MON_JNL_LOST).tally 0x131).irq 0x058 1 else s

/-- Sets an interrupt bit and journals the event. -/
def event (s : State) (page b arg : Nat) : State := (s.irq page b).journalAt s.tswNow page b arg

/-- An event that asserts INT_N whatever the routes (R534). -/
def alarm (s : State) (page b arg : Nat) : State :=
  ({ s with csr := { s.csr with intn := s.csr.intn.set false (page * 32 + b) true } }).event page b arg

end State

/-- How far `b` lies after `a` modulo 2^16 (chapter 02, Sequence numbers). -/
def dist16 (a b : Nat) : Nat := (b + 65536 - a % 65536) % 65536

/-- How far `b` lies after `a` modulo 2^24 (R83, R84). -/
def dist24 (a b : Nat) : Nat := (b + 2 ^ 24 - a % 2 ^ 24) % 2 ^ 24

/-- The first element that satisfies `p`, at or after `start` in the cyclic order of 0 to n - 1. -/
def firstFrom (start n : Nat) (p : Nat → Bool) : Option Nat :=
  ((List.range n).map (fun k => (start + k) % n)).find? p

end Sys2Proof.Machine
end

