-- ==== Sys2Proof/Machine/Access.lean ====
section
/-! DEFINITION. Which register accesses the hub carries out: the domain of each page (Tables 16.1 and 18.1), the authority masks (R405 to R408), the capture of bad accesses (R552), and the waits and refusals of R437, R521 and R528. -/

namespace Sys2Proof.Machine

/-- The access paths of Table 13.1. -/
def pathResident : Nat := 0
def pathHost : Nat := 1
def pathMtun : Nat := 2
def pathUsb : Nat := 3
def pathI2c : Nat := 4
def pathPairB : Nat := 5
def pathJtag : Nat := 6
def pathEngine : Nat := 7

/-- The domain bit of a page (Table 16.1); 31 for a power die page. -/
def pageDomain (p : Nat) : Nat :=
  if p = 0x01C ∨ (0x020 ≤ p ∧ p ≤ 0x024) ∨ (0x030 ≤ p ∧ p ≤ 0x03F) then 0
  else if 0x061 ≤ p ∧ p ≤ 0x07F then 31
  else if 0x080 ≤ p ∧ p ≤ 0x0FF then 6 + (p - 0x080) / 32
  else if p = 0x361 ∨ (0x370 ≤ p ∧ p ≤ 0x377) then 10
  else if p = 0x362 ∨ (0x378 ≤ p ∧ p ≤ 0x37F) then 11
  else if 0x300 ≤ p ∧ p ≤ 0x30F then 12
  else if 0x310 ≤ p ∧ p ≤ 0x31F then 13
  else if 0x340 ≤ p ∧ p ≤ 0x34F then 14
  else if 0x350 ≤ p ∧ p ≤ 0x35F then 15
  else if 0x320 ≤ p ∧ p ≤ 0x33F then 16
  else 1

/-- The causes of Table 18.8. -/
def causeWidth : Nat := 1
def causeAlign : Nat := 2
def causeDenied : Nat := 3
def causeLinkDown : Nat := 4
def causeLocked : Nat := 5

/-- The host bridge's switch port. -/
def spBridge : Nat := 16

namespace State

/-- A domain is powered, clocked and out of reset (PWR_DOM_STAT). -/
def domainRuns (s : State) (d : Nat) : Bool := (s.rd R.PWR_DOM_STAT).testBit d

/-- What an event in a domain does: nothing while the domain has no power or no clock, or is in reset. -/
def inDomain (s : State) (d : Nat) (t : State) : State := if s.domainRuns d then t else s.begin

/-- A power state has drained the functions of level 2 or 3, or is draining them: an EN written meanwhile takes effect when they resume (R497, R498). -/
def drainedTo (s : State) (level : Nat) : Bool := decide (level ≤ s.pwr.drained)

/-- The power die's link is up. -/
def pdLinkUp (s : State) : Bool := s.rd R.FUS_PD_STAT_PRESENT == 1

/-- Debug is open (R427). -/
def debugOpen (s : State) : Bool := s.rd R.KEY_STAT_LIFECYCLE == 0 || s.rd R.KEY_DBG_STAT_OPEN == 1

/-- Debug is open with scope CSR. -/
def debugCsr (s : State) : Bool :=
  s.rd R.KEY_STAT_LIFECYCLE == 0 || (s.rd R.KEY_DBG_STAT_OPEN == 1 && (s.rd R.KEY_DBG_STAT_SCOPE).testBit 0)

/-- A path holds owner authority (R408). -/
def ownerPath (s : State) (path : Nat) : Bool :=
  path == pathResident ||
    ((s.rd R.KEY_OWNER_PATHS).testBit path && (path != pathJtag || s.debugCsr))

/-- The key of a path's latch, or staged half, of the pair whose _LO register lies at `addr` (R553). -/
def pairKey (path addr : Nat) : Nat := path * 2 ^ 22 + addr

/-- What a path's latch of a pair holds; 0 when it is released. -/
def latched (s : State) (path addr : Nat) : Nat := s.csr.latch.get 0 (pairKey path addr)
def setLatch (s : State) (path addr v : Nat) : State :=
  { s with csr := { s.csr with latch := s.csr.latch.set 0 (pairKey path addr) v } }

/-- The _LO half that a path has staged of a pair since it last applied one (R8). -/
def stagedLo (s : State) (path addr : Nat) : Option Nat := s.csr.staged.get none (pairKey path addr)
def stageLo (s : State) (path addr : Nat) (v : Option Nat) : State :=
  { s with csr := { s.csr with staged := s.csr.staged.set none (pairKey path addr) v } }

/-- The page's capture registers take a bad access, or count it while they hold one (R552). -/
def capture (s : State) (page path : Nat) (write : Bool) (cause off data be pageField : Nat) : State :=
  if s.rd R.ERR_CAPT0_VALID page = 1 then
    s.wr R.ERR_CAPT2_COUNT (min (s.rd R.ERR_CAPT2_COUNT page + 1) 0xFFFF) page
  else
    (((((((((s.wr R.ERR_CAPT0_OFFSET off page).wr R.ERR_CAPT0_PATH path page).wr R.ERR_CAPT0_WRITE
      (if write then 1 else 0) page).wr R.ERR_CAPT0_CAUSE cause page).wr R.ERR_CAPT0_VALID 1 page).wr
      R.ERR_CAPT1 (if write then data else 0) page).wr R.ERR_CAPT2_BE be page).wr R.ERR_CAPT2_PAGE pageField page).wr
      R.ERR_CAPT2_COUNT 1 page).wr R.ERR_CAPT3_NS s.tim.ns page

/-- An access that a mask refuses (R407): captured, counted for its path, and flagged on page 0x021. -/
def deny (s : State) (path : Nat) (write : Bool) (addr data be : Nat) : State :=
  let s := s.capture (addr / 4096) path write causeDenied (addr % 4096) data be 0
  let s := s.bump R.KEY_DENY 0 path
  let s := ((s.wr R.KEY_DENY_LAST_ADDR addr).wr R.KEY_DENY_LAST_PATH path).wr R.KEY_DENY_LAST_WRITE (if write then 1 else 0)
  s.event 0x021 0 (addr + path * 2 ^ 24 + (if write then 2 ^ 27 else 0))

/-- An access goes on under what its page's mask said as it arrived; none for what arrives now. -/
def asArrived (s : State) (m : Option Bool) : State := { s with csr := { s.csr with arrived := m } }

/-- The mask of a page, as it stands, lets a path read or write it (R406). While debug is closed the JTAG path reaches page 0x022 alone, whatever the masks (R427); while it is open without scope CSR, that page and the two reads of every page, under the masks (DEDUCED, log 145). -/
def maskNow (s : State) (path : Nat) (write : Bool) (addr : Nat) : Bool :=
  let page := addr / 4096
  if path == pathJtag && !s.debugOpen then page == 0x022
  else if !write && (addr % 4096 == 0 || addr % 4096 == 0x030) then true
  else if path == pathJtag && !s.debugCsr && page != 0x022 then false
  else (if write then s.rd R.PAGE_AUTH_WR page else s.rd R.PAGE_AUTH_RD page).testBit path

/-- The mask that holds for an access lets it through: the one of its arrival (R409). -/
def maskAllows (s : State) (path : Nat) (write : Bool) (addr : Nat) : Bool := s.csr.arrived.getD (s.maskNow path write addr)

/-- A write of KEY_DBG_CMD with OP CHALLENGE is accepted from JTAG at all times (R428). -/
def challenges (path addr data : Nat) : Bool := path == pathJtag && addr == 0x022044 && data % 16 == 1

/-- The send needs a tag (R300). -/
def sendTag : BrgSend → Bool
  | .np .. | .read .. | .atomic .. => true
  | _ => false

/-- The bridge gives the host no credits (R295): a unit of it waits at SP16 under R129, or a request waits for a tag; all that the host sends waits meanwhile (DEDUCED, log 142). -/
def creditsHeld (s : State) : Bool :=
  !(s.sch.ingress.get [] spBridge).isEmpty || (s.brg.freeTags.isEmpty && s.brg.waiting.any (fun x => sendTag x.send))

/-- A path whose accesses wait: a waiting access holds it (R521), or it is the host's and the bridge gives no credits (R295). -/
def pathHeld (s : State) (path : Nat) : Bool :=
  s.pwr.waiting.any (fun w => w.path == path) || (path == pathHost && s.creditsHeld)

/-- An access joins those that wait, with what the page's mask says of it now. -/
def queueAccess (s : State) (w : WaitingAccess) : State :=
  { s with pwr := { s.pwr with waiting := s.pwr.waiting ++ [{ w with
    mask := s.maskAllows w.path w.write w.addr || (w.write && challenges w.path w.addr w.data) }] } }

/-- The sender of a path has halted (R393): pair B of its own path, and both pairs of the resident image's; what it sent before it halted goes on. -/
def senderHalted (s : State) (path : Nat) : Bool :=
  let halted := fun p => s.pairState p == pairHalted || (s.mgt.pair.get {} p).halted
  s.csr.arrived.isNone &&
    ((path == pathPairB && halted 1) ||
      (path == pathResident && (halted 0 || halted 1) && (halted 0 || s.pairState 0 == pairOff) && (halted 1 || s.pairState 1 == pairOff)))

/-- No access comes of a path: the core die has no power, or the path's sender has halted. -/
def noSender (s : State) (path : Nat) : Bool := s.rst.off || s.senderHalted path

/-- What becomes of an aligned 32-bit access to a listed page. -/
inductive Verdict where
  | go | denied | inReset | linkDown | waits | dead
deriving DecidableEq, Repr

/-- Decides an access (R407, R437, R521, R528): none while the core die has no power or the sender has halted; on a path that a waiting access holds, and for the host while it has no credits, a wait; then a domain in reset, the mask, the power die's link, a stopped clock. -/
def verdict (s : State) (path : Nat) (write : Bool) (addr : Nat) : Verdict :=
  let d := pageDomain (addr / 4096)
  if s.noSender path then .dead
  else if s.pathHeld path then .waits
  else if s.rst.held && d != 0 then .inReset
  else if !s.maskAllows path write addr then .denied
  else if d == 31 then (if s.pdLinkUp then .go else .linkDown)
  else if s.domainRuns d then .go
  else .waits

/-- An access of the host to BAR0 arrives as a TLP (Table 18.12); one that has waited, or that another access carries out, has been counted. -/
def tlpIn (s : State) (path : Nat) : State :=
  if path = pathHost ∧ s.csr.arrived = none ∧ s.domainRuns 16 then s.tally 0x170 else s

/-- A register read is answered; the host's answer is a completion on its link (Table 18.12). -/
def answer (s : State) (path v : Nat) : State :=
  let s := s.emit (.csr path v)
  if path = pathHost ∧ s.domainRuns 16 then s.tally 0x171 else s

/-- What becomes of a write of a word. -/
def writeVerdict (s : State) (path addr data : Nat) : Verdict :=
  match s.verdict path true addr with
  | .denied => if challenges path addr data then .go else .denied
  | v => v

/-- A register write that is carried out by `act` when the hub lets it through; what refuses it or makes it wait otherwise. -/
def gateWrite (s : State) (path addr data : Nat) (act : State → State) (eng : Option Nat := none) : State :=
  match s.writeVerdict path addr data with
  | .go => act (s.tlpIn path)
  | .denied => (s.tlpIn path).deny path true addr data 0xF
  | .inReset => (s.tlpIn path).bump R.CHIP_RST_DENIED
  | .linkDown =>
    ((s.tlpIn path).bump R.FUS_LINK_ERR).capture 0x060 path true causeLinkDown (addr % 4096) data 0xF (addr / 4096)
  | .waits => (s.tlpIn path).queueAccess { path := path, write := true, addr := addr, data := data, eng := eng }
  | .dead => s

/-- A register read that is answered by `act` when the hub lets it through. -/
def gateRead (s : State) (path addr : Nat) (act : State → State) : State :=
  match s.verdict path false addr with
  | .go => act (s.tlpIn path)
  | .denied => ((s.tlpIn path).deny path false addr 0 0xF).answer path 0xFFFFFFFF
  | .inReset => ((s.tlpIn path).bump R.CHIP_RST_DENIED).answer path 0xFFFFFFFF
  | .linkDown =>
    (((s.tlpIn path).bump R.FUS_LINK_ERR).capture 0x060 path false causeLinkDown (addr % 4096) 0 0xF (addr / 4096)).answer
      path 0xFFFFFFFF
  | .waits => (s.tlpIn path).queueAccess { path := path, write := false, addr := addr, data := 0 }
  | .dead => s

/-- Stores a value in instance (i, j) of a field, cut to its width and limits. -/
def put (s : State) (f : Field) (v : Nat) (i : Nat := 0) (j : Nat := 0) : State := s.wr f (f.clamp v) i j

/-- An RWL field of a locked page is written with another value (Table 18.8, LOCKED). -/
def lockedWrite (s : State) (page : Nat) (fs : List Field) (data i j : Nat) : Bool :=
  s.rd R.PAGE_CTL_LOCK page == 1 &&
    fs.any (fun f => f.acc == Access.rwl && f.clamp (data / 2 ^ f.lsb % 2 ^ f.width) != s.rd f i j)

/-- A field takes its part of a written word as its access type gives (Table 0.5). -/
def storeField (s : State) (page : Nat) (f : Field) (data i j : Nat) : State :=
  let v := data / 2 ^ f.lsb % 2 ^ f.width
  match f.acc with
  | .rw | .rws => s.put f v i j
  | .rwl => if s.rd R.PAGE_CTL_LOCK page = 1 then s else s.put f v i j
  | .w1c => s.wr f (s.rd f i j &&& (2 ^ f.width - 1 - v)) i j
  | .w1s => s.wr f (s.rd f i j ||| v) i j
  | .ro | .ctr | .wo => s

/-- A written word is stored in the fields of a register; a change of a locked field is captured (R9, R11, R552). -/
def store (s : State) (path addr data : Nat) (fs : List Field) (i : Nat := 0) (j : Nat := 0) : State :=
  let page := addr / 4096
  let s := if s.lockedWrite page fs data i j then s.capture page path true causeLocked (addr % 4096) data 0xF 0 else s
  fs.foldl (fun s f => s.storeField page f data i j) s

end State

/-- The outcome of an event in domain `d` whose operands name instances that exist. -/
def guardedIn (d : Nat) (s : State) (ok : Bool) (t : State) : Host.Outcome State Fault Refusal := guarded ok (s.inDomain d t)

/-- The outcome of an event in domain `d`. -/
def nextIn (d : Nat) (s t : State) : Host.Outcome State Fault Refusal := .next (s.inDomain d t)

end Sys2Proof.Machine
end

