-- ==== Sys2Proof/Machine/Operands.lean ====
section
/-! DEFINITION. The operand forms: the fields of a tunnel map entry (Tables 1.6 to 1.9), of a multicast group record, of an allotment record (Table 5.8), the class and VC tables of chapter 01, and the cells of a unit. -/

namespace Sys2Proof.Machine

def Entry.valid (e : Entry) : Bool := bitsOf e.w0 0 0 == 1
def Entry.cls (e : Entry) : Nat := bitsOf e.w0 3 1
def Entry.policy (e : Entry) : Nat := bitsOf e.w0 5 4
def Entry.ordered (e : Entry) : Bool := bitsOf e.w0 6 6 == 1
def Entry.ordPlane (e : Entry) : Nat := bitsOf e.w0 7 7
def Entry.fallback (e : Entry) : Bool := bitsOf e.w0 8 8 == 1
def Entry.mcast (e : Entry) : Bool := bitsOf e.w0 9 9 == 1
def Entry.rewrite (e : Entry) : Bool := bitsOf e.w0 10 10 == 1
def Entry.reqV21 (e : Entry) : Bool := bitsOf e.w0 11 11 == 1
def Entry.restamp (e : Entry) : Bool := bitsOf e.w0 12 12 == 1
def Entry.egressSp (e : Entry) : Nat := bitsOf e.w0 20 16
def Entry.egressQ (e : Entry) : Nat := bitsOf e.w1 11 0
def Entry.group (e : Entry) : Nat := bitsOf e.w1 9 0
def Entry.nextTid (e : Entry) : Nat := bitsOf e.w1 26 12
def Entry.policer (e : Entry) : Nat := bitsOf e.w2 11 0
def Entry.polEn (e : Entry) : Bool := bitsOf e.w2 12 12 == 1
def Entry.pinLat (e : Entry) : Nat := bitsOf e.w2 31 16
def Entry.allot (e : Entry) : Nat := bitsOf e.w3 11 0

/-- Policy codes of Table 1.3. -/
def policyA : Nat := 0
def policyB : Nat := 1
def policyEither : Nat := 2
def policyBoth : Nat := 3

/-- DEDUP, treated as 1 for Both tunnels (Table 1.6). -/
def Entry.dedup (e : Entry) : Bool := bitsOf e.w0 13 13 == 1 || e.policy == policyBoth

/-- A protection tunnel is pinned (R15). -/
def Entry.pinned (e : Entry) : Bool := e.cls == 0

/-- Any RSVD bit of an entry is 1 (Table 1.10, BAD_RSVD). -/
def Entry.rsvd (e : Entry) : Bool :=
  bitsOf e.w0 15 14 != 0 || bitsOf e.w0 31 21 != 0 || bitsOf e.w1 31 27 != 0 || bitsOf e.w2 15 13 != 0 ||
    bitsOf e.w3 31 12 != 0

/-- The VC of each class, protection first, on a trunk of 8, 7, 6, 5, 4, 3 or 2 VCs (Table 1.2). -/
def foldTable : Nat → List Nat
  | 8 => [0, 1, 2, 3, 4, 5, 6, 7]
  | 7 => [0, 1, 2, 3, 4, 5, 6, 5]
  | 6 => [0, 1, 2, 3, 4, 5, 1, 5]
  | 5 => [0, 1, 2, 3, 3, 4, 1, 4]
  | 4 => [0, 1, 2, 3, 3, 3, 1, 3]
  | 3 => [0, 1, 2, 2, 2, 2, 1, 2]
  | _ => [0, 0, 1, 1, 1, 1, 0, 1]

/-- The link VC on which a class travels when `vcs` VCs are agreed (R14, R16). -/
def foldVc (vcs cls : Nat) : Nat := (foldTable vcs).getD cls 0

/-- Cells of a unit: 236 payload bytes each, one for an empty payload. -/
def cellCount (bytes : Nat) : Nat := if bytes = 0 then 1 else (bytes + 235) / 236

/-- Unit kinds of Table 1.4. -/
def kindData : Nat := 0
def kindFence : Nat := 1
def kindInterrupt : Nat := 2
def kindMessage : Nat := 3
def kindReadRequest : Nat := 4
def kindReadResponse : Nat := 5
def kindWriteNp : Nat := 6
def kindWriteAck : Nat := 7
def kindEndpointReset : Nat := 8

/-- Reserved unit kinds (Table 1.4). -/
def kindReserved (k : Nat) : Bool := 9 ≤ k && k ≤ 15

/-- Word `i` of a list of words; 0 beyond its end. -/
def wordAt (l : List Nat) (i : Nat) : Nat := l.getD i 0

/-- A signed reading of a two's complement field of `w` bits. -/
def signedOf (w n : Nat) : Int := if n < 2 ^ (w - 1) then (n : Int) else (n : Int) - 2 ^ w

/-- The two's complement of an integer in `w` bits. -/
def unsignedOf (w : Nat) (i : Int) : Nat := (i % (2 ^ w : Nat)).toNat

/-- An integer kept between two limits. -/
def clampInt (lo hi i : Int) : Int := max lo (min hi i)

end Sys2Proof.Machine
end

