-- ==== Sys2Proof/Machine/Planes.lean ====
section
/-! DEFINITION. The shared operations of the switch planes (chapter 04): pools and reservations, entering and releasing cells, credit return, and joining an egress queue, a Carousel or the park list (chapter 05). -/

namespace Sys2Proof.Machine

/-- Cells of a plane's buffer. -/
def bufferCells : Nat := 49152

/-- Link state codes of Table 2.5. -/
def linkDown : Nat := 0
def linkTrain : Nat := 1
def linkCap : Nat := 2
def linkUp : Nat := 3
def linkHalt : Nat := 4
def linkDrain : Nat := 5

/-- Plane state codes of Table 4.12. -/
def planeOff : Nat := 0
def planeRestarting : Nat := 1
def planeStandby : Nat := 2
def planeAuthority : Nat := 3
def planeFailed : Nat := 4

/-- First page of a plane. -/
def planePage (p : Nat) : Nat := 0x100 + 0x80 * p

/-- Link page of a trunk. -/
def trunkPage (n : Nat) : Nat := 0x080 + 8 * n

/-- The port keeps only the handed units that `keep` names; those that waited move up into the room this leaves in the pinned send list of eight (R177). -/
def Egress.keepHanded (e : Egress) (keep : Handed → Bool) : Egress :=
  let l := e.pinned.filter keep ++ e.waiting.filter keep
  { e with pinned := l.take 8, waiting := l.drop 8 }

/-- A fence is complete once no copy is awaited (R25). -/
def FenceState.settle (f : FenceState) : FenceState := { f with complete := f.complete || f.awaited.isEmpty }

/-- Nothing more can come of a fence: it is sent and no late copy is awaited, or it is complete and no copy is left to send. -/
def FenceState.over (f : FenceState) : Bool := if f.sent then f.awaited.isEmpty else f.complete && f.copies.isEmpty

/-- The queue of a unit at a member port. -/
def PUnit.queueAt (u : PUnit) (port : Nat) : Nat := ((u.members.find? (fun m => m.1 == port)).map Prod.snd).getD 0

/-- Cells for which a unit is charged and tagged; a FENCE copy that outlived its plane counts its one cell. -/
def PUnit.size (u : PUnit) : Nat := max 1 u.cells.length

/-- The tunnel ID that a unit carries out of a port: NEXT_TID on every copy of a multicast unit, and on a trunk with REWRITE 1 (Table 1.6, R39). -/
def outTid (n : Nat) (u : PUnit) : Nat := if u.entry.mcast || (n < 16 && u.entry.rewrite) then u.entry.nextTid else u.tid

namespace State

def linkState (s : State) (n : Nat) : Nat := s.rd R.TRK_LSTAT_STATE n

/-- A switch port whose trunk is declared down (R93, R147). -/
def portDown (s : State) (sp : Nat) : Bool := sp < 16 && s.linkState sp != linkUp

/-- A plane is in service when it is STANDBY or AUTHORITY. -/
def inService (s : State) (p : Nat) : Bool :=
  s.rd R.SW_STAT_STATE p == planeStandby || s.rd R.SW_STAT_STATE p == planeAuthority

/-- Planes in service, A first. -/
def planesInService (s : State) : List Nat := [0, 1].filter s.inService

/-- A block waits to be sent on a trunk. -/
def readyCtl (s : State) (n : Nat) (b : Ctl) : State :=
  s.updLink n (fun l => { l with ready := l.ready ++ [b] })

/-- A CREDIT block for a VC is due once LIMIT has advanced by CRED_BATCH since the last one (R82). -/
def creditDue (s : State) (n v : Nat) : State :=
  let l := s.link n
  if s.rd R.TRK_CREDCFG_CRED_BATCH n ≤ dist24 (l.rxSent.get 0 v) (l.rxLimit.get 0 v) then
    (s.setLink n { l with rxSent := l.rxSent.set 0 v (l.rxLimit.get 0 v) }).readyCtl n (.credit v (l.rxLimit.get 0 v))
  else s

/-- A cell of VC `v` gives up its reserved space: LIMIT advances by one modulo 2^24 (R81). -/
def creditReturn (s : State) (n v : Nat) : State :=
  (s.updLink n (fun l => { l with rxLimit := l.rxLimit.set 0 v ((l.rxLimit.get 0 v + 1) % 2 ^ 24) })).creditDue n v

/-- One copy of a trunk cell has been released or discarded; the last copy gives up the credit (R128). -/
def creditCopy (s : State) (id : Nat) : State :=
  match s.sch.credits.get none id with
  | none => s
  | some (n, v, k) =>
    if k ≤ 1 then (s.updSch (fun x => { x with credits := x.credits.set none id none })).creditReturn n v
    else s.updSch (fun x => { x with credits := x.credits.set none id (some (n, v, k - 1)) })

/-- Cells free in a plane's buffer. -/
def freeCells (s : State) (p : Nat) : Nat := bufferCells - (s.plane p).cells.length

/-- Free cells of the protection reserve and of the shared pool. -/
def protFree (s : State) (p : Nat) : Nat := (s.plane p).protMax - (s.plane p).protUsed
def sharedFree (s : State) (p : Nat) : Nat :=
  bufferCells - (s.plane p).trkMax - (s.plane p).protMax - (s.plane p).sharedUsed

/-- The k-th cell of unit `h` of plane `p` loses one reference; at none left the cell is free again and its credit copy is given up, once (R133, R128). -/
def releaseAt (s : State) (p h k : Nat) : State :=
  match (s.plane p).units.get none h with
  | none => s
  | some u =>
    match u.cells[k]? with
    | none => s
    | some (idx, cr) =>
      let x := s.plane p
      let c := x.cells.get {} idx
      if c.ref ≤ 1 then
        let x := { x with
          cells := x.cells.set {} idx {}, units := x.units.set none h (some { u with cells := u.cells.set k (idx, 0) }) }
        let x :=
          if u.fromTrunk then x
          else
            let x := { x with byPort := x.byPort.upd 0 u.inSp (· - 1) }
            if k < u.fromProt then { x with protUsed := x.protUsed - 1 } else { x with sharedUsed := x.sharedUsed - 1 }
        (s.setPlane p x).creditCopy cr
      else s.setPlane p { x with cells := x.cells.set {} idx { c with ref := c.ref - 1, shadow := c.shadow - 1 } }

/-- The cells of unit `h` from the k-th on lose one reference each. -/
def releaseFrom (s : State) (p h k : Nat) : State :=
  match (s.plane p).units.get none h with
  | none => s
  | some u => ((List.range u.cells.length).drop k).foldl (fun s i => s.releaseAt p h i) s

/-- A member port is done with a unit; a unit with no member left leaves the plane. -/
def forgetMember (s : State) (p h port : Nat) : State :=
  match (s.plane p).units.get none h with
  | none => s
  | some u =>
    let m := u.members.filter (fun m => m.1 ≠ port)
    s.updPlane p (fun x => { x with units := x.units.set none h (if m.isEmpty then none else some { u with members := m }) })

/-! ### Fences (R25 to R28) -/

/-- Fences of a tunnel at an egress queue, first arrived first. -/
def fencesAt (s : State) (q tid : Nat) : List FenceState := s.tun.fences.get [] (q * 32768 + tid)

def fenceOf (s : State) (q tid sq : Nat) : Option FenceState := (s.fencesAt q tid).find? (fun f => f.seq == sq)

/-- Changes one fence, and forgets it when it is over. -/
def updFence (s : State) (q tid sq : Nat) (g : FenceState → FenceState) : State :=
  s.updTun (fun t => { t with fences := t.fences.upd [] (q * 32768 + tid) (fun l =>
    (l.map (fun f => if f.seq = sq then (g f).settle else f)).filter (fun f => !f.over)) })

/-- Plane `p`'s copy of a fence has left the egress without being sent. -/
def fenceGone (s : State) (p q tid sq : Nat) : State :=
  s.updFence q tid sq (fun f => { f with copies := f.copies.erase p })

/-- A member port gives up a unit of which it has read the first `k` cells; a copy of a fence is no longer there to send. -/
def dropMember (s : State) (p h port k : Nat) : State :=
  let s := match (s.plane p).units.get none h with
    | some u => if u.kind = kindFence then s.fenceGone p (u.queueAt port) u.tid u.seq else s
    | none => s
  (s.releaseFrom p h k).forgetMember p h port

/-- A multicast group word as committed in a plane (R142). -/
def mcgWord (s : State) (p g w : Nat) : Nat := (s.plane p).mcg.get 0 (g * 32 + w)

/-- Egress ports and queues of a unit: its unicast port, or the members of its group without the port it entered on (R141). -/
def membersOf (s : State) (p : Nat) (e : Entry) (inSp : Nat) : List (Nat × Nat) :=
  if e.mcast then
    (List.range 24).filterMap (fun sp =>
      if (s.mcgWord p e.group 0).testBit sp && sp != inSp then some (sp, s.mcgWord p e.group (sp + 1) % 4096) else none)
  else [(e.egressSp, e.egressQ)]

/-- A unit or a member reference discarded toward a down port or an empty group is counted and flagged (R147). -/
def downDisc (s : State) (p : Nat) : State :=
  ((s.bump R.SW_DOWN_DISC p).tally (0x104 + 8 * p)).irq (planePage p) 6

/-- The VOQ of an ingress port, an egress port and a class's VC (Table 1.1). -/
def voqKey (inSp out vc : Nat) : Nat := (inSp * 24 + out) * 8 + vc

/-- Takes `k` free cells of a plane for a unit: their indices, lowest first. -/
def takeCells (x : Plane) (tid refs : Nat) : Nat → Plane × List Nat
  | 0 => (x, [])
  | k + 1 =>
    let idx := Tab.firstFree 0 x.cells
    let r := takeCells { x with cells := x.cells.set {} idx { alloc := true, ref := refs, shadow := refs, next := 0, tid := tid, orphan := false } } tid refs k
    (r.1, idx :: r.2)

/-- Counts `k` cells entered from a port and keeps the fewest-free mark. -/
def countEntered (s : State) (p sp k : Nat) : State :=
  let s := (s.bumpBy R.SW_IN_CELLS k p sp).tally (0x80 + 0x20 * p + sp) k
  s.wr R.SW_FREE_LOW (min (s.rd R.SW_FREE_LOW p) (s.freeCells p)) p

/-- Links a unit into the VOQ of each of its members (R137, R141). -/
def linkVoqs (s : State) (p h inSp cls : Nat) (members : List (Nat × Nat)) : State :=
  members.foldl (fun s m =>
    s.updPlane p (fun x => { x with voq := x.voq.upd [] (voqKey inSp m.1 cls) (· ++ [h]) })) s

/-- The members that can be reached now: down ports are dropped and counted, as is a group with no members (R141, R147). -/
def liveMembers (s : State) (p : Nat) (e : Entry) (inSp : Nat) : State × List (Nat × Nat) :=
  let all := s.membersOf p e inSp
  if all.isEmpty then (s.downDisc p, [])
  else ((all.filter (fun m => s.portDown m.1)).foldl (fun s _ => s.downDisc p) s, all.filter (fun m => !s.portDown m.1))

/-- Enters the cells of a unit into a plane: `cells` of them now, more to follow unless `whole`. Answers the handle, or none when no member is left to take the unit. `credit` is the credit record of its first cell. -/
def enterPlane (s : State) (p : Nat) (w : Waiting) (inSp cells fromProt : Nat) (fromTrunk whole : Bool) (credit : Nat) :
    State × Option Nat :=
  let (s, m) := s.liveMembers p w.entry inSp
  if m.isEmpty then (s, none)
  else
    let (x, idxs) := takeCells (s.plane p) w.tid m.length cells
    let h := x.nextUnit
    let u : PUnit :=
      { tid := w.tid, kind := w.kind, seq := w.seq, tsw := w.tsw, entry := w.entry, looked := w.looked, inSp := inSp,
        cells := idxs.map (fun i => (i, credit)), payload := w.payload, whole := whole, members := m,
        fromTrunk := fromTrunk, fromProt := fromProt }
    let x := { x with units := x.units.set none h (some u), nextUnit := h + 1 }
    let x :=
      if fromTrunk then x
      else
        { x with protUsed := x.protUsed + fromProt, sharedUsed := x.sharedUsed + (cells - fromProt),
                 byPort := x.byPort.upd 0 inSp (· + cells) }
    ((((s.setPlane p x).countEntered p inSp cells).linkVoqs p h inSp w.entry.cls m), some h)

/-- Adds a cell to a unit that is being entered from a trunk (R127). -/
def addCell (s : State) (p h inSp : Nat) (payload : List Byte) (whole : Bool) (credit : Nat) : State :=
  match (s.plane p).units.get none h with
  | none => s.creditCopy credit
  | some u =>
    let (x, idxs) := takeCells (s.plane p) u.tid u.members.length 1
    let u := { u with cells := u.cells ++ idxs.map (fun i => (i, credit)), payload := u.payload ++ payload, whole := whole }
    (s.setPlane p { x with units := x.units.set none h (some u) }).countEntered p inSp 1

/-- Takes a unit out of every VOQ of a plane. -/
def unlinkVoqs (s : State) (p h : Nat) (u : PUnit) : State :=
  u.members.foldl (fun s m =>
    s.updPlane p (fun x =>
      let k := voqKey u.inSp m.1 u.entry.cls
      { x with voq := x.voq.upd [] k (·.filter (· ≠ h)),
               xfer := if ((x.voq.get [] k).head? == some h) then x.xfer.set 0 k 0 else x.xfer })) s

/-- A unit that is still being entered is discarded whole in one plane (R64, R94, R148). -/
def discardOpen (s : State) (p h : Nat) : State :=
  match (s.plane p).units.get none h with
  | none => s
  | some u =>
    let s := s.unlinkVoqs p h u
    u.members.foldl (fun s m => s.dropMember p h m.1 0) s

/-! ### Queue pairs and finish tags -/

def pair (s : State) (q : Nat) : QPair := s.sch.pairs.get {} q
def setPair (s : State) (q : Nat) (x : QPair) : State := s.updSch (fun y => { y with pairs := y.pairs.set {} q x })
def queue (s : State) (p q : Nat) : List QEnt := (s.plane p).queues.get [] q
def setQueue (s : State) (p q : Nat) (l : List QEnt) : State :=
  s.updPlane p (fun x => { x with queues := x.queues.set [] q l })

/-- Number `b` lies after number `a` in a tunnel's unit sequence. -/
def seqAfter (a b : Nat) : Bool := decide (1 ≤ dist16 a b) && decide (dist16 a b ≤ 32767)

/-- A unit is a copy of a FENCE that may not be sent yet (R26). -/
def fenceWaits (s : State) (q : Nat) (u : PUnit) : Bool :=
  u.kind == kindFence && !((s.fenceOf q u.tid u.seq).any (fun f => f.complete && !f.sent))

/-- A unit is later than a FENCE of its tunnel that has arrived and is not sent (R26, R27). -/
def afterFence (s : State) (q : Nat) (u : PUnit) : Bool :=
  (s.fencesAt q u.tid).any (fun f => !f.sent && seqAfter f.seq u.seq)

/-- The units of a queue of a plane, head first. -/
def queueUnits (s : State) (p q : Nat) : List PUnit := (s.queue p q).filterMap (fun e => (s.plane p).units.get none e.unit)

/-- A whole queue is held behind a FENCE that has arrived: of that tunnel it holds later units only, so that no earlier one and no awaited copy waits in it (R26; DEDUCED, log 122). -/
def queueHeld (s : State) (p q : Nat) : Bool :=
  (s.tun.fences.filter (fun (x : Nat × List FenceState) => x.1 / 32768 == q)).any (fun x =>
    ((s.queueUnits p q).find? (fun u => u.tid == x.1 % 32768)).any (fun u => s.afterFence q u))

/-- The head of one plane's queue when it may be taken. -/
def headOf (s : State) (p q : Nat) : Option (Nat × QEnt × PUnit) :=
  match s.queue p q with
  | [] => none
  | e :: _ =>
    match (s.plane p).units.get none e.unit with
    | none => none
    | some u => if s.fenceWaits q u || s.queueHeld p q then none else some (p, e, u)

/-- The head unit of a pair: the earlier joined of the two heads, plane A's when both joined together (R169). -/
def pairHead (s : State) (q : Nat) : Option (Nat × QEnt × PUnit) :=
  match s.headOf 0 q, s.headOf 1 q with
  | some a, some b => if b.2.1.joined < a.2.1.joined then some b else some a
  | some a, none => some a
  | none, b => b

/-- The unit at the head of one plane's queue, a FENCE that waits there too. -/
def rawHead (s : State) (p q : Nat) : Option (Nat × QEnt × PUnit) :=
  match s.queue p q with
  | [] => none
  | e :: _ => ((s.plane p).units.get none e.unit).map (fun u => (p, e, u))

/-- The head unit of a pair that takes a finish tag: the one that may be taken, and where none may, the earlier joined of the two that stand there (R169, R187). -/
def tagTarget (s : State) (q : Nat) : Option (Nat × QEnt × PUnit) :=
  (s.pairHead q).orElse (fun _ =>
    match s.rawHead 0 q, s.rawHead 1 q with
    | some a, some b => if b.2.1.joined < a.2.1.joined then some b else some a
    | some a, none => some a
    | none, b => b)

/-- The tagged unit of a pair is another copy of this FENCE. -/
def fenceTagged (s : State) (x : QPair) (u : PUnit) : Bool :=
  u.kind == kindFence && ((s.plane x.tagged.1).units.get none x.tagged.2).any (fun v =>
    v.kind == kindFence && v.tid == u.tid && v.seq == u.seq)

/-- The weight-scaled step of a finish tag (R187). -/
def tagDelta (c w : Nat) : Nat := max 1 (c * 4096 / w)

/-- The later of two tags by serial distance modulo 2^32 (R187). -/
def tagMax (a b : Nat) : Nat := if (b + 2 ^ 32 - a % 2 ^ 32) % 2 ^ 32 < 2 ^ 31 then b else a

/-- Tag `a` is earlier than tag `b`. -/
def tagLt (a b : Nat) : Bool :=
  let d := (b + 2 ^ 32 - a % 2 ^ 32) % 2 ^ 32
  d != 0 && d < 2 ^ 31

/-- The weight of the record in force for a unit (R181). -/
def weightOf (s : State) (u : PUnit) : Nat := (s.sch.allots.get {} u.entry.allot).weight

/-- A WFQ unit of the pair is being sent: the next head takes its tag, with the weight then in force, once it has gone (Table 5.3). -/
def pairSending (s : State) (q : Nat) : Bool :=
  (((s.egress (s.pair q).port).sending.get none 4).bind Sending.queue) == some q

/-- Gives the head unit of a WFQ pair its tag unless it has one: behind a selected unit its start is f_prev, otherwise the later of V and f_prev (R187). -/
def tagHead (s : State) (q : Nat) (afterSelected : Bool) : State :=
  let x := s.pair q
  if x.cls < 2 || s.pairSending q then s
  else
    match s.tagTarget q with
    | none => s.setPair q { x with tag := none, tagged := (0, 0) }
    | some (p, e, u) =>
      if x.tag.isSome && x.tagged == (p, e.unit) then s
      else if x.tag.isSome && s.fenceTagged x u then s.setPair q { x with tagged := (p, e.unit) }
      else
        let start := if afterSelected then x.fprev else tagMax (s.rd R.SCH_VT 0 x.port) x.fprev
        s.setPair q { x with tag := some ((start + tagDelta u.size (s.weightOf u)) % 2 ^ 32), tagged := (p, e.unit) }

/-- A head unit left a pair without being selected: its tag is dropped, and the next head takes the rule of an empty pair (R187). -/
def retag (s : State) (q : Nat) : State := (s.setPair q { s.pair q with tag := none, tagged := (0, 0) }).tagHead q false

/-- An Either fence has been sent from plane `p`: the copies of the other planes that stand at the egress are not needed (R27). -/
def fenceSent (s : State) (p q tid sq : Nat) (either : Bool) : State :=
  s.updFence q tid sq (fun f =>
    if either then { f with sent := true, copies := [] } else { f with copies := f.copies.erase p })

/-- A unit of a tunnel has been taken from plane `p`: a fence already sent whose copy that plane still owed will not come (R21). -/
def fencePassed (s : State) (p q tid sq : Nat) : State :=
  s.updTun (fun t => { t with fences := t.fences.upd [] (q * 32768 + tid) (fun l =>
    (l.map (fun f => if f.sent && seqAfter f.seq sq then { f with awaited := f.awaited.erase p } else f)).filter
      (fun f => !f.over)) })

/-- Takes a unit out of a queue of a plane without selecting it. -/
def unqueue (s : State) (p q h : Nat) : State :=
  let wasHead := (s.pairHead q).any (fun x => x.1 == p && x.2.1.unit == h)
  let s := s.setQueue p q ((s.queue p q).filter (fun e => e.unit ≠ h))
  if wasHead then s.retag q else s

/-! ### Pinned release -/

/-- A trunk in UP releases a protection unit unpinned while it runs Glenlink 2.0 (R44), and one that was looked up before the entry to UP at 2.1 (R92). -/
def unpinnedPort (s : State) (port looked : Nat) : Bool :=
  port < 16 && s.linkState port == linkUp && (s.rd R.TRK_LSTAT_V21 port == 0 || decide (looked ≤ (s.link port).upFrom))

/-- The release time of a pinned unit in ns of panel time: its timestamp plus `lat`, the upper bits of its seconds count taken so that the sum lies nearest `now` (R175). -/
def nearestNs (now sec32 ns lat : Nat) : Nat :=
  let base := now / (2 ^ 32 * 1000000000) * 2 ^ 32
  let secs := (if 0 < base then [base + sec32 - 2 ^ 32] else []) ++ [base + sec32, base + 2 ^ 32 + sec32]
  let far := fun c => max c now - min c now
  (secs.map (fun sec => sec * 1000000000 + ns + lat)).foldl (fun best c => if far c < far best then c else best)
    ((base + sec32) * 1000000000 + ns + lat)

/-- The release time of a pinned unit: its timestamp plus 8 ns for each step of PIN_LAT (R175). -/
def releaseNs (s : State) (u : PUnit) : Nat :=
  nearestNs s.panelNs (u.tsw / 2 ^ 32) (bitsOf u.tsw 31 2) (8 * u.entry.pinLat)

/-- A protection unit is missed: discarded, counted, recorded, flagged and journalled with its lateness (R178). -/
def missed (s : State) (p h port lateness : Nat) : State :=
  match (s.plane p).units.get none h with
  | none => s
  | some u =>
    let late := min lateness 0xFFFF
    let s := s.dropMember p h port 0
    let s := (s.bump (if p = 0 then R.SCH_MISS_CNT_A else R.SCH_MISS_CNT_B)).tally 0x112
    let s := ((s.wr R.SCH_MISS_LAST_TID u.tid).wr R.SCH_MISS_LAST_PLANE p).wr R.SCH_MISS_LAST_LATE late
    s.event 0x200 0 (u.tid + p * 2 ^ 15 + late * 2 ^ 16)

/-- A pinned unit is placed by its release time: missed, into its Carousel slot, or on the park list (R175, R176). -/
def placePinned (s : State) (p h port release : Nat) : State :=
  let now := s.panelNs
  if release < now + 8 then s.missed p h port (now - release)
  else if release < now + 32768 then
    s.updPlane p (fun x =>
      { x with carousel := x.carousel.upd [] (port * 4096 + release / 8 % 4096) (· ++ [⟨h, port, release⟩]) })
  else if 1024 ≤ (s.plane p).park.length then
    ((s.dropMember p h port 0).bump R.SCH_PARK_FULL).irq 0x200 1
  else (s.updPlane p (fun x => { x with park := x.park ++ [⟨h, port, release⟩] })).tally 0x113

/-- A unit whose last cell has been transferred toward a port joins its queue, or the Carousel or park list when it is pinned; it is discarded toward a down port (R147) or when its queue is not assigned to that port and class (R167). -/
def joinQueue (s : State) (p h port q : Nat) : State :=
  match (s.plane p).units.get none h with
  | none => s
  | some u =>
    let x := s.pair q
    if s.portDown port then (s.dropMember p h port 0).downDisc p
    else if x.port ≠ port ∨ x.cls ≠ u.entry.cls then
      let s := ((s.dropMember p h port 0).bump R.SCH_QMIS_CNT).tally 0x117
      ((s.wr R.SCH_QMIS_ID_QUEUE q).wr R.SCH_QMIS_ID_TID u.tid).irq 0x200 2
    else if u.entry.pinned && !s.unpinnedPort port u.looked then s.placePinned p h port (s.releaseNs u)
    else (s.setQueue p q (s.queue p q ++ [⟨h, s.hw⟩])).tagHead q false

end State

end Sys2Proof.Machine
end

