-- ==== Sys2Proof/Machine/Panel.lean ====
section
/-! DEFINITION. Panel time (chapter 06): the counter and its corrections, timestamp points, the sources and the choice among them, the follower, and the state of the exchanges over a trunk. -/

namespace Sys2Proof.Machine

/-- Time states (Table 6.3). -/
def timeFree : Nat := 0
def timeAcquire : Nat := 1
def timeLocked : Nat := 2
def timeHoldover : Nat := 3

/-- Time source kinds (Table 6.1). -/
def kindPtp : Nat := 1
def kindIrig : Nat := 2
def kindPps : Nat := 3
def kindTrunk : Nat := 4

/-- Units of TimeState.frac in one nanosecond. -/
def fracPerNs : Int := 256000000000

namespace State

def updTim (s : State) (f : TimeState → TimeState) : State := { s with tim := f s.tim }
def trunkTime (s : State) (n : Nat) : TrunkTime := s.tim.trunks.get {} n
def setTrunkTime (s : State) (n : Nat) (x : TrunkTime) : State :=
  s.updTim (fun t => { t with trunks := t.trunks.set {} n x })

/-! ### The counter -/

/-- Sets panel time from a count of nanoseconds. -/
def setPanelNs (s : State) (n : Nat) : State :=
  s.updTim (fun t => { t with sec := n / 1000000000 % 2 ^ 48, ns := n % 1000000000 })

/-- Panel time moves by whole nanoseconds. -/
def movePanel (s : State) (d : Int) : State := s.setPanelNs (((s.panelNs : Int) + d).toNat)

/-- Panel time moves by 1/16 ns steps (R205). -/
def movePanel16 (s : State) (d : Int) : State :=
  let f := s.tim.frac + d * 16000000000
  (s.movePanel (f / fracPerNs)).updTim (fun t => { t with frac := f % fracPerNs })

/-- One nanosecond of a slew: TIM_SLEW_RATE ppb accumulate until a whole nanosecond is due (R208). -/
def tickSlew (s : State) : State :=
  let left := signedOf 32 (s.rd R.TIM_SLEW_LEFT)
  if left = 0 then s
  else
    let a := s.tim.slewAcc + s.rd R.TIM_SLEW_RATE
    if a < 1000000000 then s.updTim (fun t => { t with slewAcc := a })
    else
      let d : Int := if 0 < left then 1 else -1
      let s := s.updTim (fun t => { t with slewAcc := a - 1000000000 })
      (s.movePanel d).wr R.TIM_SLEW_LEFT (unsignedOf 32 (left - d))

/-- One nanosecond of the root PLL: panel time advances by 1 ns as TIM_FADJ and a slew correct it (R200, R204, R208). -/
def tickPanel (s : State) : State :=
  let f := s.tim.frac + fracPerNs + signedOf 32 (s.rd R.TIM_FADJ)
  ((s.movePanel (f / fracPerNs)).updTim (fun t => { t with frac := f % fracPerNs })).tickSlew

/-- Panel time in 10 ps. -/
def panel10ps (s : State) : Int := (s.panelNs : Int) * 100 + s.tim.frac / 2560000000

/-- The timestamp word of a point whose latency or offset in use is `d` 10 ps (R227). -/
def tswAfter (s : State) (d : Int) : Nat :=
  let t := ((s.panel10ps - d) / 100).toNat
  s.tswOf (t / 1000000000) (t % 1000000000)

/-- Panel time at the pins in 1/16 ns, `d` 10 ps before the crossing of the lane boundary (R221). -/
def stampAfter (s : State) (d : Int) : Nat := ((s.panel10ps - d) * 16 / 100).toNat

/-- The half of a latency or offset register that applies: bits 15:0, or 31:16. -/
def halfOf (v : Nat) (upper : Bool) : Nat := if upper then bitsOf v 31 16 else bitsOf v 15 0

/-- Receive latency of a lane in 10 ps, saturated at the 16 bits of its in-use register (R556): the factory value, the user trim and the deskew of the lane in blocks of 66 bits at the agreed rate (R122). -/
def rxLat (s : State) (n lane : Nat) : Int :=
  let slow := s.rd R.TRK_LANESTAT_RATE n == 0
  let desk := s.rd (match lane with | 0 => R.TRK_DESKEW_L0 | 1 => R.TRK_DESKEW_L1 | _ => R.TRK_DESKEW_LS) n
  clampInt 0 65535 ((halfOf (s.rd R.TRK_LATF_RX n lane) slow : Int) + signedOf 16 (halfOf (s.rd R.TRK_LATU_RX n lane) slow) +
    (desk * (if slow then 640 else 256) : Nat))

/-- Transmit latency of a lane in 10 ps, saturated as the receive latency is (R122, R556). -/
def txLat (s : State) (n lane : Nat) : Int :=
  let slow := s.rd R.TRK_LANESTAT_RATE n == 0
  clampInt 0 65535 ((halfOf (s.rd R.TRK_LATF_TX n lane) slow : Int) + signedOf 16 (halfOf (s.rd R.TRK_LATU_TX n lane) slow))

/-- The timestamp word of a block that arrives on a lane of a trunk now (Table 6.5). -/
def rxTsw (s : State) (n lane : Nat) : Nat := s.tswAfter (s.rxLat n lane)

/-- Offset in use of timestamp point `i` in 10 ps; `slow` for an Ethernet mode other than 10GBASE-R (Table 6.13). -/
def tsOffset (s : State) (i : Nat) (slow : Bool) : Int :=
  clampInt (-32768) 32767 (signedOf 16 (halfOf (s.rd R.TIM_TSOF 0 i) slow) + signedOf 16 (halfOf (s.rd R.TIM_TSOU 0 i) slow))

/-- PPS_OUT is due to rise: panel time, which the pin leads by TIM_TSO[2], lies within 4 ns of a whole second (R227, R228, Table 6.5). -/
def ppsDue (s : State) : Bool := decide ((s.panel10ps + s.tsOffset 2 false + 400) % 100000000000 ≤ 800)

/-- Capture `c` holds panel time, `d` 10 ps earlier (Table 6.11); its seconds show once TIM_CAP_NS is read. -/
def captureTime (s : State) (c : Nat) (d : Int) : State :=
  let t := ((s.panel10ps - d) / 100).toNat
  let s := s.updTim (fun x => { x with capSec := x.capSec.set 0 c (t / 1000000000 % 2 ^ 48), capAt := x.capAt.set none c (some (s.hw, d)) })
  s.wr R.TIM_CAP_NS (t % 1000000000) 0 c

/-- A capture edge: the time, and one more capture counted (R549). -/
def captureAt (s : State) (c : Nat) (d : Int) : State := (s.captureTime c d).bumpWrap R.TIM_CAP_CNT 0 c

/-- Captures whose edge fell in the cycle of a SET or STEP take the time after it (Table 6.8). -/
def recapture (s : State) : State :=
  [0, 1, 2].foldl (fun (s : State) c => match s.tim.capAt.get none c with
    | some (t, d) => if t = s.hw then s.captureTime c d else s
    | none => s) s

/-! ### Time events -/

/-- TIM_STAT as it reads (Table 6.9). -/
def timStat (s : State) : Nat :=
  s.rd R.TIM_STAT_STATE + s.rd R.TIM_STAT_SYNC_VALID * 4 + s.rd R.TIM_STAT_DELAY_KNOWN * 8 +
    s.rd R.TIM_STAT_HOPS * 16 + s.rd R.TIM_STAT_SLOT * 256 + s.rd R.TIM_STAT_SOURCE * 65536

/-- A time event that journals TIM_STAT (Table 6.7). -/
def timeEvent (s : State) (b : Nat) : State := s.event 0x040 b s.timStat

/-- SYNC_VALID takes a value; a change is an event. -/
def setSync (s : State) (v : Nat) : State :=
  if s.rd R.TIM_STAT_SYNC_VALID = v then s
  else (s.wr R.TIM_STAT_SYNC_VALID v).timeEvent (if v = 1 then 0 else 1)

/-- The time state changes with the SYNC_VALID it shows (Table 6.3). -/
def setTimeState (s : State) (st sync : Nat) : State := (s.wr R.TIM_STAT_STATE st).setSync sync

/-! ### Sources -/

/-- The byte of slot `k` of TIM_SRC_CFG: its KIND, DLY_SET and trunk. -/
def slotByte (s : State) (k : Nat) : Nat :=
  match k with
  | 0 => s.rd R.TIM_SRC_CFG_TRUNK0 + s.rd R.TIM_SRC_CFG_DLY_SET0 * 16 + s.rd R.TIM_SRC_CFG_KIND0 * 32
  | 1 => s.rd R.TIM_SRC_CFG_TRUNK1 + s.rd R.TIM_SRC_CFG_DLY_SET1 * 16 + s.rd R.TIM_SRC_CFG_KIND1 * 32
  | 2 => s.rd R.TIM_SRC_CFG_TRUNK2 + s.rd R.TIM_SRC_CFG_DLY_SET2 * 16 + s.rd R.TIM_SRC_CFG_KIND2 * 32
  | _ => s.rd R.TIM_SRC_CFG_TRUNK3 + s.rd R.TIM_SRC_CFG_DLY_SET3 * 16 + s.rd R.TIM_SRC_CFG_KIND3 * 32

/-- A trunk is qualified as a time source (Table 6.2). -/
def trunkQualified (s : State) (n : Nat) : Bool :=
  s.linkState n == linkUp && s.rd R.TRK_LSTAT_PEER_ROLE n == 0 && s.rd R.TIM_CDLY_KNOWN 0 n == 1 &&
    (match (s.trunkTime n).peer with
     | some (sync, _, hops) => sync && decide (hops ≤ 6)
     | none => false) &&
    decide ((s.trunkTime n).missRun < 4)

/-- The source a slot's byte names is qualified (R211). -/
def sourceQualified (s : State) (b : Nat) : Bool :=
  match b / 32 with
  | 1 => s.tim.ptpQual
  | 2 => s.tim.irigQual
  | 3 => s.tim.ppsQual
  | 4 => s.trunkQualified (b % 16)
  | _ => false

/-- A source is in use. -/
def sourceInUse (s : State) : Bool := s.rd R.TIM_STAT_SOURCE != 0

/-- The source in use is still qualified and its slot still names it. -/
def sourceHolds (s : State) : Bool :=
  s.sourceInUse && s.slotByte (s.rd R.TIM_STAT_SLOT) == s.rd R.TIM_STAT_SOURCE &&
    s.sourceQualified (s.rd R.TIM_STAT_SOURCE)

/-- HOPS that this hub sends (R221). -/
def hopsOf (s : State) (b : Nat) : Nat :=
  if b / 32 = kindTrunk then
    match (s.trunkTime (b % 16)).peer with
    | some (_, _, h) => min 7 (h + 1)
    | none => 7
  else 0

/-- DELAY_KNOWN of a source (R218, R215). -/
def delayOf (s : State) (b : Nat) : Nat :=
  if b / 32 = kindTrunk then s.rd R.TIM_CDLY_KNOWN 0 (b % 16)
  else if b / 32 = kindPtp then s.rd R.TIM_PTP_QUAL_DELAY_KNOWN
  else b / 16 % 2

/-- HOPS and DELAY_KNOWN follow the source in use, as do the state and SYNC_VALID of PTP (R215, R218, R221). -/
def refreshSource (s : State) : State :=
  let b := s.rd R.TIM_STAT_SOURCE
  if b = 0 then s
  else
    let s := (s.wr R.TIM_STAT_HOPS (s.hopsOf b)).wr R.TIM_STAT_DELAY_KNOWN (s.delayOf b)
    if b / 32 = kindPtp then
      s.setTimeState (if s.rd R.TIM_PTP_QUAL_LOCK = 1 then timeLocked else timeAcquire) (s.rd R.TIM_PTP_QUAL_LOCK)
    else s

/-- The hub follows the source of slot `k`: SRC_CHANGE, and ACQUIRE, which PTP leaves at once for LOCKED while its LOCK is 1 (R210, R215; log 131). -/
def followSlot (s : State) (k : Nat) : State :=
  let b := s.slotByte k
  let old := s.rd R.TIM_STAT_SOURCE
  let s := (s.wr R.TIM_STAT_SOURCE b).wr R.TIM_STAT_SLOT k
  let s := s.updTim (fun t => { t with engaged := b / 32 != kindPtp, inRun := 0, outRun := 0, holding := [] })
  (s.setTimeState timeAcquire 0).refreshSource.event 0x040 2 (b + old * 256)

/-- No qualified source is left: no source is in use, and HOLDOVER, at the last value of the follower's integral (R210, R217, R577, Table 6.10). -/
def enterHoldover (s : State) : State :=
  let old := s.rd R.TIM_STAT_SOURCE
  let s := (s.wr R.TIM_STAT_STATE timeHoldover).wr R.TIM_STAT_SOURCE 0
  let s := s.updTim (fun t => { t with holding := [], inRun := 0, outRun := 0 })
  let s := if s.tim.engaged then
      s.wr R.TIM_FADJ (unsignedOf 32 (clampInt (-128000000) 128000000 (s.tim.integral / 32768)))
    else s
  (s.event 0x040 2 (old * 256)).timeEvent 3

/-- The first slot with a qualified source. -/
def bestSlot (s : State) : Option Nat :=
  [0, 1, 2, 3].find? (fun k => s.slotByte k / 32 != 0 && s.sourceQualified (s.slotByte k))

/-- The choice of R210 after anything that may have changed a source's qualification. -/
def reselect (s : State) : State :=
  if s.sourceHolds then
    let better := (List.range (s.rd R.TIM_STAT_SLOT)).filter (fun k =>
      s.slotByte k / 32 != 0 && s.sourceQualified (s.slotByte k))
    (s.updTim (fun t => { t with holding := better })).refreshSource
  else
    match s.bestSlot with
    | some k => s.followSlot k
    | none => if s.sourceInUse then s.enterHoldover else s

/-! ### The follower -/

/-- A protection tunnel is committed (R206). -/
def pinnedMap (s : State) : Bool := s.tun.map.any (fun (x : Nat × Entry) => x.2.valid && x.2.cls == 0)

/-- A signed count of nanoseconds as a saturated 48-bit argument (Table 6.7). -/
def nsArg (d : Int) : Nat := unsignedOf 48 (clampInt (-(2 ^ 47)) (2 ^ 47 - 1) d)

/-- A SET or STEP is refused for a protection tunnel (R206). -/
def refuseStep (s : State) (d : Int) : State := (s.wr R.TIM_RESULT_LAST_RESULT 1).event 0x040 5 (nsArg d)

/-- A quotient whose rounding the spec does not give: the lower or the upper neighbour (log 15). -/
def roundDiv (s : State) (a : Int) (k : Nat) : Int :=
  if a % k = 0 then a / k else a / k + (s.freeNat % 2 : Nat)

/-- A slew replaces the remainder (R208). -/
def slewBy (s : State) (d : Int) : State := s.wr R.TIM_SLEW_LEFT (unsignedOf 32 d)

/-- The follower asks for a step of `d` 1/16 ns, or slews where R206 refuses it. -/
def followerStep (s : State) (d : Int) (slew : Bool) : State :=
  if s.pinnedMap ∧ (s.rd R.TIM_PIN_STEP : Int) * 16 < |d| then
    let s := s.refuseStep (d / 16)
    if slew then (s.slewBy (s.roundDiv d 16)).tookFree else s
  else s.ask (fun r => { r with times := r.times ++ [.inr d] })

/-- One sample of the follower: the offset in 1/16 ns and the interval in ms (R216). -/
def followerSample (s : State) (d : Int) (ms : Nat) : State :=
  let s := if -(2 ^ 31) ≤ d ∧ d < 2 ^ 31 then s.wr R.TIM_OFS (unsignedOf 32 d) else (s.wr R.TIM_OFS s.freeNat).tookFree
  let lockThr : Int := s.rd R.TIM_FOL_CFG_LOCK_THR * 16
  let stepThr : Int := s.rd R.TIM_FOL_CFG_STEP_THR * 1600
  let s :=
    if s.rd R.TIM_STAT_STATE = timeAcquire ∧ stepThr ≤ |d| then s.followerStep d true
    else
      let r : Int := d * 16000 / ms
      let i := s.tim.integral + r * 2 ^ (15 - s.rd R.TIM_FOL_CFG_KI)
      let f := clampInt (-128000000) 128000000 (s.roundDiv (i + r * 2 ^ (15 - s.rd R.TIM_FOL_CFG_KP)) 32768)
      ((s.updTim (fun t => { t with integral := i })).wr R.TIM_FADJ (unsignedOf 32 f)).tookFree
  let s := s.updTim (fun t => { t with
    inRun := if |d| ≤ lockThr then t.inRun + 1 else 0,
    outRun := if 4 * lockThr < |d| ∧ s.rd R.TIM_STAT_STATE = timeLocked then t.outRun + 1 else 0 })
  if s.rd R.TIM_STAT_STATE = timeAcquire ∧ 16 ≤ s.tim.inRun then s.setTimeState timeLocked 1
  else if s.rd R.TIM_STAT_STATE = timeLocked ∧ 4 ≤ s.tim.outRun then
    (s.updTim (fun t => { t with inRun := 0, outRun := 0 })).setTimeState timeAcquire 0
  else s

/-! ### Trunks -/

/-- A trunk's link leaves UP: its cable delay is no longer known, and no exchange goes on (R224). -/
def timeLinkDown (s : State) (n : Nat) : State :=
  let s := s.setTrunkTime n { s.trunkTime n with exch := none, done := none, kept := [], badRun := 0, missRun := 0, peer := none }
  (((s.wr R.TIM_CDLY_KNOWN 0 0 n).wr R.TIM_CDLY_KEPT 0 0 n).wr R.TIM_CDLY_MEAN 0 0 n).reselect

/-- A SWITCH falls within the exchange of a trunk (R223). -/
def timeSwitched (s : State) (n : Nat) : State :=
  let x := s.trunkTime n
  s.setTrunkTime n { x with exch := x.exch.map (fun e => { e with switched := true }) }

/-- A STEP or SET discards every exchange in progress (R223). -/
def timeStepped (s : State) : State :=
  s.updTim (fun t => { t with trunks := t.trunks.map (fun (x : Nat × TrunkTime) =>
    (x.1, { x.2 with exch := x.2.exch.map (fun e => { e with stepped := true }), done := none })) })

/-- The lane on which the next link block departs: at width 2 block i goes on position i mod 2, at width 1 on P0 (R102, R122). -/
def txLane (s : State) (n : Nat) : Nat :=
  if s.rd R.TRK_LANESTAT_WIDTH n = 2 ∧ (s.link n).blocks % 2 = 1 then s.rd R.TRK_LANETX_P1_LANE n else s.rd R.TRK_LANETX_P0_LANE n

/-- Departure of a block at the transmit pins, in 1/16 ns. -/
def departure (s : State) (n : Nat) : Nat := s.stampAfter (-(s.txLat n (s.txLane n)))

/-- TIME blocks take their stamps as they depart: t1 for subtype 0; after subtype 1 its departure t3 follows in subtype 2, and after that the time of day in subtype 3 (R220, R221). Answers the block as it goes out. -/
def timeDeparts (s : State) (n : Nat) (b : Ctl) : State × Ctl :=
  match b with
  | .time 0 id _ =>
    let t := s.departure n
    let x := s.trunkTime n
    (s.setTrunkTime n { x with exch := x.exch.map (fun e => if e.id = id then { e with t1 := some t } else e) },
     .time 0 id (t % 2 ^ 40))
  | .time 1 id st =>
    let t := s.departure n
    ((s.setTrunkTime n { s.trunkTime n with replySec := t / 16000000000 }).readyCtl n (.time 2 id (t % 2 ^ 40)),
     .time 1 id st)
  | .time 2 id st =>
    (s.readyCtl n (.time 3 (s.rd R.TIM_STAT_SYNC_VALID * 16 + s.rd R.TIM_STAT_DELAY_KNOWN * 8 + s.rd R.TIM_STAT_HOPS)
        ((s.trunkTime n).replySec % 2 ^ 40)), .time 2 id st)
  | b => (s, b)

end State

end Sys2Proof.Machine
end

