-- ==== Sys2Proof/Machine/Ingress.lean ====
section
/-! DEFINITION. What an ingress point does with a unit (chapter 01, Lookup at ingress; R149, R129 to R131, R192): the map lookup with its error correction, the policer, the unit number, the choice of planes, and entry or back-pressure. -/

namespace Sys2Proof.Machine

namespace State

/-- The plane that holds authority; plane A while none does (DESIGN CHOICE, log 11). -/
def authPlane (s : State) : Nat := if s.rd R.RGM_STAT_AUTH_VALID = 1 ∧ s.rd R.RGM_STAT_AUTH = 1 then 1 else 0

def mapAt (s : State) (p i : Nat) : Entry := s.tun.map.get {} (p * 32768 + i)
def eccAt (s : State) (p i : Nat) : EccState := s.tun.ecc.get .good (p * 32768 + i)

/-- Writes a map entry into one plane's copy with good check bits. -/
def mapPut (s : State) (p i : Nat) (e : Entry) : State :=
  s.updTun (fun t => { t with map := t.map.set {} (p * 32768 + i) e, ecc := t.ecc.set .good (p * 32768 + i) .good })

/-- An upset strikes a copy of the map. -/
def upset (s : State) : MapUpset → State
  | .single p i => s.updTun (fun t => { t with ecc := t.ecc.set .good (p % 2 * 32768 + i % 32768) .single })
  | .uncorrectable p i => s.updTun (fun t => { t with ecc := t.ecc.set .good (p % 2 * 32768 + i % 32768) .bad })
  | .words p i a b c d =>
    s.mapPut (p % 2) (i % 32768) ⟨a % 2 ^ 32, b % 2 ^ 32, c % 2 ^ 32, d % 2 ^ 32⟩

/-- Reads one copy of an entry: a single-bit error is corrected, written back and counted once; an uncorrectable one is counted and flagged (R41). -/
def readCopy (s : State) (p i : Nat) : State × Option Entry :=
  match s.eccAt p i with
  | .good => (s, some (s.mapAt p i))
  | .single => (((s.mapPut p i (s.mapAt p i)).bump R.TMAP_ECC_CNT_CORR).tally 0x1D0, some (s.mapAt p i))
  | .bad => (((s.bump R.TMAP_ECC_CNT_UNCORR).tally 0x1D1).irq 0x280 4, none)

/-- The lookup of R41: the authority plane's copy, or the other's when that is damaged, which then mends it. -/
def readMap (s : State) (i : Nat) : State × Option Entry :=
  let a := s.authPlane
  match s.readCopy a i with
  | (s, some e) => (s, some e)
  | (s, none) =>
    match s.readCopy (1 - a) i with
    | (s, some e) => (s.mapPut a i e, some e)
    | (s, none) => (s, none)

/-- A lookup miss (R42). -/
def lookupMiss (s : State) (tid : Nat) : State := (((s.bump R.TMAP_MISS_CNT).tally 0x121).wr R.TMAP_MISS_ID tid).irq 0x280 2

/-- A unit of a reserved kind: it counts as a lookup miss (R30; DESIGN CHOICE, log 22). -/
def reservedKind (s : State) (tid : Nat) : State := ((s.bump R.TMAP_MISS_CNT).tally 0x121).wr R.TMAP_MISS_ID tid

/-- The lookup of a unit's tunnel: none when the unit is discarded as a miss (R13, R42). -/
def lookup (s : State) (tid : Nat) : State × Option Entry :=
  if tid = 0 then (s.lookupMiss tid, none)
  else
    match ((s.tally 0x120).updTun (fun t => { t with lookups := t.lookups + 1 })).readMap tid with
    | (s, some e) =>
      if e.valid then (s.updTun (fun t => { t with lookedAt := t.lookedAt.set 0 tid (s.hw + 1) }), some e)
      else (s.lookupMiss tid, none)
    | (s, none) => (s.lookupMiss tid, none)

/-! ### The policer -/

def policer (s : State) (i : Nat) : Policer := s.sch.policers.get {} i
def setPolicer (s : State) (i : Nat) (x : Policer) : State :=
  s.updSch (fun y => { y with policers := y.policers.set {} i x })

/-- The colours of R192. -/
inductive Colour where
  | green | yellow | red
deriving DecidableEq, Repr

/-- A policer colours a unit of `cells` cells and counts it (R192). -/
def colour (x : Policer) (cells : Nat) : Policer × Colour :=
  let l := cells * 4096
  let up := fun (n : Nat) => min (n + 1) (2 ^ 32 - 1)
  if x.p < l then ({ x with red := up x.red }, .red)
  else if x.c < l then ({ x with p := x.p - l, yellow := up x.yellow }, .yellow)
  else ({ x with p := x.p - l, c := x.c - l, green := up x.green }, .green)

/-- Polices a unit of `cells` cells under its entry; a unit without POL_EN passes. -/
def police (s : State) (e : Entry) (cells : Nat) : State × Colour :=
  if e.polEn then
    let r := colour (s.policer e.policer) cells
    ((if s.counting 0x203 then s.setPolicer e.policer r.1
     else s.setPolicer e.policer { r.1 with
       green := (s.policer e.policer).green, yellow := (s.policer e.policer).yellow,
       red := (s.policer e.policer).red }).tally (match r.2 with
         | .green => 0x114
         | .yellow => 0x115
         | .red => 0x116), r.2)
  else (s, .green)

/-- The origin's next unit sequence number (R32). -/
def number (s : State) (tid : Nat) : State × Nat :=
  let n := s.tun.useq.get 0 tid
  (s.updTun (fun t => { t with useq := t.useq.set 0 tid ((n + 1) % 65536) }), n)

/-! ### The choice of planes -/

/-- Cells that wait in a VOQ. -/
def voqCells (s : State) (p inSp out vc : Nat) : Nat :=
  let x := s.plane p
  let k := voqKey inSp out vc
  ((x.voq.get [] k).map (fun h => match x.units.get none h with
    | some u => u.cells.length
    | none => 0)).sum - x.xfer.get 0 k

/-- The egress port by which an Either unit's queues are compared: its own, or the first member of its group (DEDUCED, log 12). -/
def firstOut (s : State) (p : Nat) (e : Entry) (inSp : Nat) : Nat :=
  match s.membersOf p e inSp with
  | [] => 0
  | m :: _ => m.1

/-- The plane a tunnel keeps to: the one it moved to after a failure, or its own (R19, R20). -/
def homePlane (s : State) (tid : Nat) (e : Entry) : Nat :=
  match s.tun.moved.get 0 tid with
  | 0 => if e.policy = policyA then 0 else if e.policy = policyB ∨ e.ordPlane = 1 then 1 else 0
  | 1 => 0
  | _ => 1

/-- The planes for a unit (Table 4.5, R18, R24): none when it must be discarded. -/
def choosePlanes (s : State) (tid kind : Nat) (e : Entry) (inSp : Nat) : List Nat :=
  let up := s.planesInService
  let home := s.homePlane tid e
  if e.policy = policyBoth then up
  else if e.policy = policyEither then
    if kind = kindFence then up
    else if e.ordered then (if s.inService home then [home] else up)
    else
      match up with
      | [a, b] =>
        if s.voqCells b inSp (s.firstOut b e inSp) e.cls < s.voqCells a inSp (s.firstOut a e inSp) e.cls then [b] else [a]
      | _ => up
  else if s.inService home then [home]
  else if e.fallback then up
  else []

/-- A unit that no plane can take is counted in the plane or planes that its policy could not use (R149). -/
def noPlane (s : State) (tid : Nat) (e : Entry) : State :=
  if e.policy = policyBoth ∨ (e.policy = policyEither ∧ e.ordered = false) then
    (s.bump R.SW_NOPLANE_DISC 0).bump R.SW_NOPLANE_DISC 1
  else s.bump R.SW_NOPLANE_DISC (s.homePlane tid e)

/-! ### Entry -/

/-- The cells of a unit that come from the protection reserve of a plane (R129). -/
def fromReserve (s : State) (p : Nat) (w : Waiting) : Nat :=
  if w.entry.pinned then min (cellCount w.payload.length) (s.protFree p) else 0

/-- A plane can allocate every cell of a unit at once (R129). -/
def hasRoom (s : State) (p sp : Nat) (w : Waiting) : Bool :=
  let n := cellCount w.payload.length
  decide (n - s.fromReserve p w ≤ s.sharedFree p) &&
    decide ((s.plane p).byPort.get 0 sp + n ≤ s.rd R.SW_ADPCFG_ADP_MAX p)

/-- What became of the unit that an ingress point tried to enter. -/
inductive Tried where
  | entered | dropped | waits
deriving DecidableEq, Repr

/-- An ingress point has entered a unit into planes; of the bridge's READ_REQUEST units it is kept which (R305). -/
def noteEntered (s : State) (sp : Nat) (w : Waiting) (ps : List Nat) : State :=
  s.updSch (fun x => { x with
    entered := x.entered.upd 0 sp (· + 1)
    readIn := if sp = spBridge ∧ w.kind = kindReadRequest then x.readIn.set [] (beAt w.payload 0 2) ps else x.readIn })

/-- An ingress point tries to enter one unit (R129 to R131, R149). -/
def tryEnter (s : State) (sp : Nat) (w : Waiting) : State × Tried :=
  let ps := s.choosePlanes w.tid w.kind w.entry sp
  if ps.isEmpty then (s.noPlane w.tid w.entry, .dropped)
  else
    let refused := ps.filter (fun p => w.dropEligible && decide (s.sharedFree p < s.rd R.SW_ADPCFG_DE_THRESH p))
    if !refused.isEmpty then
      (refused.foldl (fun s p => ((s.bump R.SW_DE_DISC p).tally (0x103 + 8 * p)).irq (planePage p) 5) s, .dropped)
    else if ps.all (fun p => s.hasRoom p sp w) then
      (ps.foldl (fun s p =>
        (s.enterPlane p w sp (cellCount w.payload.length) (s.fromReserve p w) false true 0).1)
        (s.noteEntered sp w ps), .entered)
    else
      ((ps.filter (fun p => !s.hasRoom p sp w)).foldl (fun s p => s.bump R.SW_ADP_WAIT p sp) s, .waits)

/-- Enters the units that wait at an ingress point, oldest first, until one must wait. -/
def drainIngress (s : State) (sp : Nat) : List Waiting → State × List Waiting
  | [] => (s, [])
  | w :: t =>
    match s.tryEnter sp w with
    | (s, .waits) => (s, w :: t)
    | (s, _) => drainIngress s sp t

/-- The same where a unit that must wait holds back its own tunnel alone, as the storage adapter's replies do (R283); the port counts one wait. -/
def drainTunnels (s : State) (sp : Nat) : List Nat → List Waiting → State × List Waiting
  | _, [] => (s, [])
  | held, w :: t =>
    let keep := fun (s : State) (held : List Nat) =>
      let r := drainTunnels s sp held t
      (r.1, w :: r.2)
    if held.contains w.tid then keep s held
    else
      match s.tryEnter sp w with
      | (s', .waits) => keep (if held.isEmpty then s' else s) (w.tid :: held)
      | (s', _) => drainTunnels s' sp held t

def setIngress (s : State) (sp : Nat) (l : List Waiting) : State :=
  s.updSch (fun x => { x with ingress := x.ingress.set [] sp l })

/-- One attempt of an ingress point to enter what waits there. -/
def pumpIngress (s : State) (sp : Nat) : State :=
  let l := s.sch.ingress.get [] sp
  let r := if sp = 17 then s.drainTunnels sp [] l else s.drainIngress sp l
  r.1.setIngress sp r.2

/-- A looked-up, stamped and numbered unit joins its ingress point. -/
def offer (s : State) (sp : Nat) (w : Waiting) : State :=
  (s.setIngress sp (s.sch.ingress.get [] sp ++ [w])).pumpIngress sp

/-- A unit that the adapter, engine cluster or management port at `sp` originates: checked, looked up, stamped with `tsw`, policed, numbered and offered to the planes (R29, R30, R32, R34, R42, R192). -/
def originUnitAt (s : State) (sp tid kind : Nat) (payload : List Byte) (tsw : Nat) : State :=
  if 16384 < payload.length then s.bump R.TMAP_OVERSIZE_CNT
  else if kindReserved kind then s.reservedKind tid
  else
    match s.lookup tid with
    | (s, none) => s
    | (s, some e) =>
      match s.police e (cellCount payload.length) with
      | (s, .red) => s
      | (s, c) =>
        let r := s.number tid
        r.1.offer sp ⟨tid, kind, r.2, tsw, e, s.tun.lookups, payload, c == .yellow⟩

/-- The same, stamped with the time it is formed (R581). -/
def originUnit (s : State) (sp tid kind : Nat) (payload : List Byte) : State :=
  s.originUnitAt sp tid kind payload s.tswNow

/-- The timestamp word that a trunk ingress gives a unit: its own panel time when the entry restamps or the link runs 2.0, whose cells carry none (R34, R90). -/
def trunkTsw (s : State) (n : Nat) (e : Entry) (tsw arrival : Nat) : Nat :=
  if e.restamp || s.rd R.TRK_LSTAT_V21 n == 0 then arrival else tsw

/-- The receive lane of a block whose lane the command does not name: P0, or at width 2 either position's, a free value (log 133). -/
def rxLane (s : State) (n : Nat) : Nat :=
  if s.rd R.TRK_LANESTAT_WIDTH n = 2 ∧ s.freeNat % 2 = 1 then s.rd R.TRK_LANESTAT_P1_LANE n else s.rd R.TRK_LANESTAT_P0_LANE n

/-- The timestamp word at the origin ingress point `sp`: at SP18 the MAC's receive point with its offset, the MAC a free value where the command does not name it (Table 6.5, log 133); elsewhere now. -/
def originTsw (s : State) (sp : Nat) : Nat :=
  if sp = 18 then
    let m := s.freeNat % 4
    s.tswAfter (s.tsOffset (3 + m) (s.rd R.ETH_MAC_STAT_MODE m != 3))
  else s.tswNow

/-- A whole unit that a trunk ingress enters at once: looked up, policed, entered with the number it carries and never waiting; its arrival is that of its first cell's first block (R33, R34, R127, R192). -/
def trunkUnit (s : State) (sp : Nat) (u : UnitMsg) : State :=
  let arrival := s.rxTsw sp (s.rxLane sp)
  let s := s.tookFree
  if 16384 < u.payload.length then
    (((s.bump R.TRK_FRAME_ERR sp).irq (trunkPage sp) 6).bump R.TMAP_OVERSIZE_CNT).bump R.TRK_OVERSIZE sp
  else if kindReserved u.kind then s.reservedKind u.tid
  else
    match s.lookup u.tid with
    | (s, none) => s
    | (s, some e) =>
      let n := cellCount u.payload.length
      match s.police e n with
      | (s, .red) => s
      | (s, _) =>
        let w : Waiting := ⟨u.tid, u.kind, u.seq, s.trunkTsw sp e u.tsw arrival, e, s.tun.lookups, u.payload, false⟩
        let ps := s.choosePlanes u.tid u.kind e sp
        if ps.isEmpty then s.noPlane u.tid e
        else ps.foldl (fun s p => (s.enterPlane p w sp n 0 true true 0).1) s

end State

/-- UNIT_INGRESS (R40): a unit arrives at an ingress point, after `upsets` struck the map. -/
def execUnitIngress (sp : Nat) (u : UnitMsg) (upsets : List MapUpset) (s : State) :
    Host.Outcome State Fault Refusal :=
  guardedIn 1 s (decide (sp < 24))
    (let s := upsets.foldl State.upset s.begin
     if sp < 16 then s.trunkUnit sp u else s.tookFree.originUnitAt sp u.tid u.kind u.payload (s.originTsw sp))

end Sys2Proof.Machine
end

