-- ==== Sys2Proof/Machine/Bridge.lean ====
section
/-! DEFINITION. The host bridge outward (chapter 09): outbound windows, tags and epochs, early completions, non-posted writes, semaphores, atomics and locks, FLR and the host link. -/

namespace Sys2Proof.Machine

/-- Window states of HBR_OWIN_STAT and HBR_IWIN_STAT. -/
def winDisabled : Nat := 0
def winOpen : Nat := 1
def winDraining : Nat := 2

/-- Completion statuses given to the host. -/
def cplSc : Nat := 0
def cplUr : Nat := 1
def cplCa : Nat := 2
def cplPoisoned : Nat := 3

/-- The unit header of Table 9.4 of a request. -/
def bridgeHeader (tage len reply attr addr : Nat) : List Byte :=
  toBe 2 tage ++ toBe 2 len ++ toBe 2 reply ++ toBe 1 attr ++ [0] ++ toBe 8 addr

/-- The unit header of a response. -/
def responseHeader (tage len status : Nat) : List Byte :=
  toBe 2 tage ++ toBe 2 len ++ toBe 1 status ++ [0, 0, 0] ++ toBe 8 0

/-- The runs of enabled bytes of a write: where each starts and its bytes. -/
def byteRuns (start : Nat) : List (Option Byte) → List (Nat × List Byte)
  | [] => []
  | none :: t => byteRuns (start + 1) t
  | some b :: t =>
    match byteRuns (start + 1) t with
    | (a, bs) :: r => if a = start + 1 then (start, b :: bs) :: r else (start, [b]) :: (a, bs) :: r
    | [] => [(start, [b])]

/-- Cuts `len` bytes at an address into pieces of at most `m` bytes, none crossing a multiple of `g`; `fuel` bounds their number. -/
def pieces (m g : Nat) : Nat → Nat → Nat → List (Nat × Nat)
  | 0, _, _ => []
  | _ + 1, _, 0 => []
  | fuel + 1, a, n =>
    let k := min n (min m (g - a % g))
    (a, k) :: pieces m g fuel (a + k) (n - k)

/-- The bytes of one completion: to the last 64-byte boundary within the payload size, or the rest (R302). -/
def completionSize (mps a n : Nat) : Nat :=
  if n ≤ mps then n else max 1 ((a % 64 + mps) / 64 * 64 - a % 64)

/-- The bytes that each space of the function holds (Table 9.2). -/
def hostSpaceSize : HostSpace → Nat
  | .windows => 2 ^ 36
  | .msix => 2 ^ 14
  | .config => 4096

namespace State

def updBrg (s : State) (f : BrgState → BrgState) : State := { s with brg := f s.brg }
def brgReq (s : State) (t : Nat) : Option BrgReq := s.brg.reqs.get none t
def setReq (s : State) (t : Nat) (r : BrgReq) : State :=
  s.updBrg (fun b => { b with reqs := b.reqs.set none t (some r) })
def epoch (s : State) (t : Nat) : Nat := s.brg.epochs.get 0 t

/-- Tags of outstanding requests. -/
def liveTags (s : State) : List Nat :=
  (s.brg.reqs.filter (fun x => x.2.any (·.live))).map Prod.fst

/-- Outstanding requests that satisfy `p`, by tag. -/
def liveWhere (s : State) (p : BrgReq → Bool) : List Nat :=
  (s.brg.reqs.filter (fun x => x.2.any (fun r => r.live && p r))).map Prod.fst

/-- Max Payload Size and Max Read Request Size in bytes (PCI Express encoding). -/
def mps (s : State) : Nat := min 512 (128 * 2 ^ s.rd R.HBR_LINK_STAT_MPS)
def mrrs (s : State) : Nat := min 4096 (128 * 2 ^ s.rd R.HBR_LINK_STAT_MRRS)

/-- A TLP goes out on the host link. -/
def tlpOut (s : State) (e : Emit) : State := (s.emit e).tally 0x171

/-- Completes a read with data, split at 64-byte boundaries into completions of at most the Max Payload Size (R302); `fuel` bounds their number. -/
def completeData (s : State) (id status : Nat) (locked : Bool) : Nat → Nat → List Byte → State
  | 0, _, _ => s
  | fuel + 1, a, bs =>
    let k := completionSize s.mps a bs.length
    let s := s.tlpOut (.hostCpl id status locked (bs.take k))
    if bs.length ≤ k then s else s.completeData id status locked fuel (a + k) (bs.drop k)

/-- Completes a host request without data. -/
def complete (s : State) (id status : Nat) (locked : Bool := false) : State :=
  s.tlpOut (.hostCpl id status locked [])

/-! ### Windows -/

def owin (s : State) (f : Field) (w : Nat) : Nat := s.rd f 0 w

/-- An access at window offset `o` hits window `w` (R296). -/
def owinHits (s : State) (w o : Nat) : Bool :=
  s.owin R.HBR_OWIN_CFG_EN w == 1 && s.owin R.HBR_OWIN_STAT_STATE w == winOpen && decide (o < 2 ^ s.owin R.HBR_OWIN_CFG_SIZE w)

def owinMiss (s : State) : State := s.bump R.HBR_OWIN_MISS

/-- The map entry of a window's tunnel, as the bridge sees it. -/
def owinEntry (s : State) (w : Nat) : Entry := s.mapAt s.authPlane (s.owin R.HBR_OWIN_TID_TID w)

/-- The egress port of a window's tunnel: 24 while its entry is not valid. -/
def owinPort (s : State) (w : Nat) : Nat :=
  if (s.owinEntry w).valid then s.firstOut s.authPlane (s.owinEntry w) spBridge else 24

def owinAddr (s : State) (w o : Nat) : Nat := (s.owin R.HBR_OWIN_RBASE w + o) % 2 ^ 64

/-- The window of a send. -/
def sendWin : BrgSend → Nat
  | .data w _ _ _ | .np w _ _ _ | .msg w _ _ | .fence w | .read w _ _ _ _ _ | .atomic w _ _ _ _ _ _ _ => w

/-- The send is posted to the host. -/
def sendPosted : BrgSend → Bool
  | .data .. | .np .. | .msg .. | .fence _ => true
  | .read .. | .atomic .. => false

/-- An ordinary read or atomic: one that a locked sequence holds back (R312). -/
def sendOrdinary : BrgSend → Bool
  | .read _ _ _ _ _ locked => !locked
  | .atomic .. => true
  | _ => false

/-- The window is locked by the host's locked sequence (R312). -/
def winLocked (s : State) (w : Nat) : Bool := s.brg.lock.any (fun l => l.wins.contains w)

/-- A send may go now: a tag is free if it needs one, on an NP window no earlier WRITE_NP is outstanding before a read or atomic (R308), and a locked window takes only the sequence's own requests (R312). -/
def canSend (s : State) (x : BrgWait) : Bool :=
  let w := sendWin x.send
  (!sendTag x.send || !s.brg.freeTags.isEmpty) &&
    (sendPosted x.send || s.owin R.HBR_OWIN_CFG_NP w == 0 ||
      (s.liveWhere (fun r => r.kind == BrgKind.np && r.win == w && decide (r.order < x.order))).isEmpty) &&
    !(sendOrdinary x.send && s.winLocked w)

/-- A request that waits keeps back a later one: a posted one all of them (R299); any one the later reads and atomics of its window, but an ordinary one not those of a locked sequence (R308, R312). -/
def keepsBack (s : State) (z x : BrgSend) : Bool :=
  sendPosted z ||
    (sendWin z == sendWin x && !sendPosted x && !(sendOrdinary z && !sendOrdinary x && s.winLocked (sendWin x)))

/-- The bridge originates a unit on a window's tunnel, with the timestamp word of the host's request (R295). -/
def winUnit (s : State) (w kind : Nat) (payload : List Byte) (tsw : Nat) : State :=
  s.originUnitAt spBridge (s.owin R.HBR_OWIN_TID_TID w) kind payload tsw

/-- Takes the tag at the head of the free list for a request (R300). -/
def takeTag (s : State) (r : BrgReq) : State × Nat :=
  match s.brg.freeTags with
  | [] => (s, 0)
  | t :: ts => ((s.updBrg (fun b => { b with freeTags := ts })).setReq t r, t)

/-- Sends a request's READ_REQUEST under tag `t` and its epoch; no plane has it until it is entered (R300, R305). -/
def sendRead (s : State) (t : Nat) (r : BrgReq) : State :=
  let tage := s.epoch t * 4096 + t
  (s.updSch (fun x => { x with readIn := x.readIn.set [] tage [] })).winUnit r.win kindReadRequest
    (bridgeHeader tage r.len r.reply r.attr r.addr) r.tsw

/-- Sends one unit or request. -/
def sendNow (s : State) (y : BrgWait) : State :=
  let x := y.send
  let w := sendWin x
  let port := s.owinPort w
  let reply := s.owin R.HBR_OWIN_TID_REPLY_TID w
  match x with
  | .data _ addr attr bytes => s.winUnit w kindData (bridgeHeader 0 bytes.length 0 attr addr ++ bytes) y.tsw
  | .np _ addr attr bytes =>
    let r := s.takeTag ⟨true, .np, w, reply, bytes.length, addr, attr, port, false, y.tsw, y.order, 0, 0, 0, 0, 0⟩
    r.1.winUnit w kindWriteNp (bridgeHeader (s.epoch r.2 * 4096 + r.2) bytes.length reply attr addr ++ bytes) y.tsw
  | .msg _ kind payload => s.winUnit w kind payload y.tsw
  | .fence _ => (s.winUnit w kindFence [] y.tsw).bumpWrap R.HBR_FENCE_CNT
  | .read _ addr len attr host locked =>
    let k : BrgKind := if locked then .lock else .read
    let q : BrgReq := ⟨true, k, w, reply, len, addr, attr, port, false, y.tsw, y.order, host, 0, 0, 0, 0⟩
    let r := s.takeTag q
    r.1.sendRead r.2 q
  | .atomic _ addr attr op size operand compare host =>
    let q : BrgReq := ⟨true, .atomRead, w, reply, size, addr, attr, port, false, y.tsw, y.order, host, op, operand, compare, 0⟩
    let r := s.takeTag q
    r.1.sendRead r.2 q

/-! ### Semaphores -/

def semHeld (s : State) (i : Nat) : Bool := s.rd R.HBR_SEM_HELD 0 i == 1
def semTake (s : State) (i emu path : Nat) : State :=
  ((s.wr R.HBR_SEM_HELD 1 0 i).wr R.HBR_SEM_EMU emu 0 i).wr R.HBR_SEM_PATH path 0 i
def semFree (s : State) (i : Nat) : State :=
  ((s.wr R.HBR_SEM_HELD 0 0 i).wr R.HBR_SEM_EMU 0 0 i).wr R.HBR_SEM_PATH 0 0 i

def winSem (s : State) (w : Nat) : Nat := s.owin R.HBR_OWIN_CFG_SEM w

/-- A window's tunnel leaves by a trunk that is down (R304). -/
def owinDown (s : State) (w : Nat) : Bool := s.portDown (s.owinPort w)

/-- The host's read, locked read or atomic ends with Completer Abort and no tag (R304, R310). -/
def aborted (s : State) : BrgSend → State
  | .read _ _ _ _ host locked => s.complete host cplCa locked
  | .atomic _ _ _ _ _ _ _ host => s.complete host cplCa
  | _ => s

/-- An atomic that has its semaphore and ends unsent releases it. -/
def semLeft (s : State) (x : BrgSend) : State :=
  match x with
  | .atomic .. => s.semFree (s.winSem (sendWin x))
  | _ => s

/-- Sends a unit or request in its turn, behind those that keep it back (R295, R299); a read or atomic toward a trunk that is down is answered at once (R304). -/
def submit (s : State) (x : BrgWait) : State :=
  if !sendPosted x.send && s.owinDown (sendWin x.send) then
    ((s.aborted x.send).semLeft x.send).bump R.HBR_ABT_DOWN
  else if s.canSend x && s.brg.waiting.all (fun z => !s.keepsBack z.send x.send) then s.sendNow x
  else s.updBrg (fun b => { b with waiting := b.waiting ++ [x] })

/-- Tries again what waits. -/
def pumpSends (s : State) : State :=
  s.brg.waiting.foldl submit (s.updBrg (fun b => { b with waiting := [] }))

/-- The bridge accepts a request now: its timestamp word and its place in the order. -/
def accepted (s : State) (x : BrgSend) : State × BrgWait :=
  (s.updBrg (fun b => { b with order := b.order + 1 }), ⟨s.tswNow, s.brg.order, x⟩)

/-- Accepts a request and sends it in its turn. -/
def acceptSend (s : State) (x : BrgSend) : State := (s.accepted x).1.submit (s.accepted x).2

/-- An atomic or locked read that has its semaphore goes on (R310, R312). -/
def semGo (s : State) (x : BrgWait) : State :=
  let s := s.semTake (s.winSem (sendWin x.send)) 1 0
  match x.send with
  | .read w _ _ _ _ true =>
    (s.updBrg (fun b => { b with lock := some ⟨b.lock.elim [w] (fun l => l.wins ++ [w]), b.lock.any (·.unlocking)⟩ })).submit x
  | _ => s.submit x

/-- Takes the semaphore of a window for an atomic or a locked read, or waits for it. -/
def semAsk (s : State) (x : BrgSend) : State :=
  let i := s.winSem (sendWin x)
  let r := s.accepted x
  if s.semHeld i then r.1.updBrg (fun b => { b with semWait := b.semWait ++ [(i, r.2)] }) else r.1.semGo r.2

/-- The lock of one window ends and its semaphore is free. -/
def unlockWin (s : State) (w : Nat) : State :=
  if !s.winLocked w then s
  else
    (s.updBrg (fun b => { b with
      lock := b.lock.bind (fun l => if l.wins.erase w = [] then none else some { l with wins := l.wins.erase w }) })).semFree
      (s.winSem w)

/-- The locked sequence ends and its semaphores are free. -/
def unlockAll (s : State) : State :=
  match s.brg.lock with
  | none => s
  | some l => l.wins.foldl unlockWin s

/-! ### Ends of requests -/

/-- A window whose drain has nothing left is disabled (R325). -/
def owinDrained (s : State) (w : Nat) : State :=
  if s.owin R.HBR_OWIN_STAT_STATE w = winDraining ∧ (s.liveWhere (fun r => r.win == w)).isEmpty ∧
      s.brg.waiting.all (fun x => sendWin x.send != w) ∧ s.brg.semWait.all (fun x => sendWin x.2.send != w) ∧
      (s.sch.ingress.get [] spBridge).all (fun x => x.tid != s.owin R.HBR_OWIN_TID_TID w) then
    (s.wr R.HBR_OWIN_STAT_STATE winDisabled 0 w).irq 0x320 10
  else s

/-- A tag goes to the tail of the free list. -/
def freeTag (s : State) (t : Nat) (r : BrgReq) : State :=
  (s.setReq t { r with live := false }).updBrg (fun b => { b with freeTags := b.freeTags ++ [t] })

/-- The locked sequence still has writes to send or to be acknowledged (R312). -/
def lockBusy (s : State) : Bool :=
  !(s.liveWhere (fun r => r.kind == BrgKind.np && s.winLocked r.win)).isEmpty ||
    s.brg.waiting.any (fun x => s.winLocked (sendWin x.send) && sendPosted x.send)

/-- An Unlock that waits for acknowledgements ends the locked sequence once they are there (R312). -/
def unlockSettled (s : State) : State :=
  if s.brg.lock.any (·.unlocking) && !s.lockBusy then s.unlockAll.pumpSends else s

/-- What waits is tried again, and an Unlock that waits may be done. -/
def afterEnd (s : State) (w : Nat) : State := s.pumpSends.unlockSettled.owinDrained w

/-- A WRITE_NP failed (R307). -/
def npFail (s : State) (w status : Nat) : State :=
  (s.bump R.HBR_OWIN_STAT_NP_FAIL 0 w).event 0x320 4 (w + status * 65536)

/-- An emulated atomic's write failed (R311). -/
def torn (s : State) (r : BrgReq) : State :=
  (s.bump R.HBR_ATOM_TORN).event 0x320 6 (r.addr % 2 ^ 32 + r.win * 2 ^ 32)

/-- The completion of a read that fails: Completer Abort, or with ABORT_DATA all-ones data for an early one (R303). -/
def failRead (s : State) (r : BrgReq) (status : Nat) (locked : Bool) : State :=
  if s.rd R.HBR_CFG_ABORT_DATA = 1 ∧ status = 0 then
    s.completeData r.host cplSc locked 4097 r.addr (List.replicate r.len 0xFF)
  else s.complete r.host cplCa locked

/-- What the end of a request without a good response does to the host and the semaphore: `quiet` sends no completion (R326). -/
def failReq (s : State) (r : BrgReq) (status : Nat) (quiet : Bool) : State :=
  match r.kind with
  | .read => if quiet then s else s.failRead r status false
  | .lock => if quiet then s else s.failRead r status true
  | .np => s.npFail r.win (if status = 0 then 2 else status)
  | .atomRead => (if quiet then s else s.complete r.host cplCa).semFree (s.winSem r.win)
  | .atomWrite => ((if quiet then s else s.complete r.host cplCa).torn r).semFree (s.winSem r.win)

/-- An early completion (R303): counted in `f`, the epoch advances and the tag is free again. -/
def endEarly (s : State) (f : Field) (quiet : Bool) (t : Nat) : State :=
  match s.brgReq t with
  | none => s
  | some r =>
    if !r.live then s
    else
      let s := (s.failReq r 0 quiet).bump f
      let s := if r.kind = .read ∨ r.kind = .lock then s.tally 0x172 else s
      let s := s.updBrg (fun b => { b with epochs := b.epochs.set 0 t ((b.epochs.get 0 t + 1) % 16) })
      ((s.freeTag t r).irq 0x320 2).afterEnd r.win

/-! ### Host requests -/

/-- The window and window offset of a BAR2 offset. -/
def barWin (off : Nat) : Nat := off / 2 ^ 30 % 64
def barOff (off : Nat) : Nat := off % 2 ^ 30

/-- A host memory write to BAR2 (R296 to R298, Table 9.3). -/
def hostWrite (s : State) (off : Nat) (data : List (Option Byte)) (attr : Nat) : State :=
  let w := barWin off
  let o := barOff off
  if !s.owinHits w o then s.owinMiss
  else if s.owin R.HBR_OWIN_CFG_MSG w = 1 then
    let body := data.filterMap id
    let id := bitsOf o 27 12
    if data.length = 4 ∧ body.length = 4 ∧ o % 4096 = 0xFFC then s.acceptSend (.msg w kindInterrupt (toBe 2 id ++ toBe 6 0))
    else s.acceptSend (.msg w kindMessage (toBe 2 id ++ body))
  else if s.owin R.HBR_OWIN_CFG_WR_EN w = 0 then s.owinMiss
  else
    let np := s.owin R.HBR_OWIN_CFG_NP w == 1 || s.winLocked w
    if np && (s.owinEntry w).mcast then s.owinMiss
    else
      (byteRuns o data).foldl (fun s r =>
        let a := s.owinAddr w r.1
        s.acceptSend (if np then BrgSend.np w a attr r.2 else BrgSend.data w a attr r.2)) s

/-- A host memory read from BAR2. -/
def winRead (s : State) (off len host attr : Nat) : State :=
  let w := barWin off
  let o := barOff off
  if !s.owinHits w o then (s.complete host cplUr).owinMiss
  else if s.owin R.HBR_OWIN_CFG_RD_EN w = 0 ∨ s.owin R.HBR_OWIN_CFG_MSG w = 1 ∨ (s.owinEntry w).mcast then
    s.complete host cplUr
  else if s.owinDown w then (s.complete host cplCa).bump R.HBR_ABT_DOWN
  else s.acceptSend (.read w (s.owinAddr w o) len attr host false)

/-- A host AtomicOp: 0 FetchAdd, 1 Swap, 2 CAS, of 4 or 8 bytes (R292, R310). -/
def hostAtomic (s : State) (off op size operand compare host attr : Nat) : State :=
  let w := barWin off
  let o := barOff off
  if !s.owinHits w o then (s.complete host cplUr).owinMiss
  else if s.owin R.HBR_OWIN_CFG_EMULATE w = 0 ∨ (s.owinEntry w).mcast ∨ 2 < op ∨ (size ≠ 4 ∧ size ≠ 8) then
    s.complete host cplUr
  else if s.owinDown w then (s.complete host cplCa).bump R.HBR_ABT_DOWN
  else s.semAsk (.atomic w (s.owinAddr w o) attr op size operand compare host)

/-- A host locked read (R312). -/
def hostLocked (s : State) (off len host attr : Nat) : State :=
  let w := barWin off
  let o := barOff off
  if !s.owinHits w o then (s.complete host cplUr true).owinMiss
  else if s.brg.legacy = false ∨ s.owin R.HBR_OWIN_CFG_EMULATE w = 0 ∨ (s.owinEntry w).mcast then
    s.complete host cplUr true
  else if s.brg.lockLost.contains w ∨ s.owinDown w then (s.complete host cplCa true).bump R.HBR_ABT_DOWN
  else
    let x : BrgSend := .read w (s.owinAddr w o) len attr host true
    if s.winLocked w then s.acceptSend x else s.semAsk x

/-- The host's Unlock message (R312). -/
def hostUnlock (s : State) : State :=
  (s.updBrg (fun b => { b with lockLost := [], lock := b.lock.map (fun l => { l with unlocking := true }) })).unlockSettled

/-! ### Responses -/

/-- The new value of an AtomicOp; none when a CAS does not match (R310). -/
def atomicNew (op size operand compare orig : Nat) : Option Nat :=
  if op = 0 then some ((orig + operand) % 2 ^ (8 * size))
  else if op = 1 then some (operand % 2 ^ (8 * size))
  else if orig = compare % 2 ^ (8 * size) then some (operand % 2 ^ (8 * size))
  else none

/-- The atomic ends: the semaphore is released and the host gets the original value. -/
def atomicDone (s : State) (t : Nat) (r : BrgReq) (orig : Nat) : State :=
  let s := (s.semFree (s.winSem r.win)).tlpOut (.hostCpl r.host cplSc false (toLe r.len orig))
  (s.freeTag t r).afterEnd r.win

/-- An accepted READ_RESPONSE or WRITE_ACK (R301, R302, R310, R311). -/
def acceptResponse (s : State) (t : Nat) (r : BrgReq) (status : Nat) (data : List Byte) : State :=
  let good := status == 0 || status == 3
  match r.kind with
  | .read | .lock =>
    let locked := r.kind == .lock
    if good then
      let s := s.completeData r.host (if status = 3 then cplPoisoned else cplSc) locked 4097 r.addr data
      (s.freeTag t r).afterEnd r.win
    else ((s.complete r.host cplCa locked).freeTag t r).afterEnd r.win
  | .np =>
    let s := if status = 0 then s else s.npFail r.win status
    (s.freeTag t r).afterEnd r.win
  | .atomRead =>
    if status = 0 then
      let orig := ofLe data
      match atomicNew r.op r.len r.operand r.compare orig with
      | none => s.atomicDone t r orig
      | some v =>
        (s.setReq t { r with kind := .atomWrite, orig := orig }).winUnit r.win kindWriteNp
          (bridgeHeader (s.epoch t * 4096 + t) r.len r.reply r.attr r.addr ++ toLe r.len v) r.tsw
    else ((s.failReq r status false).freeTag t r).afterEnd r.win
  | .atomWrite =>
    if status = 0 then s.atomicDone t r r.orig
    else ((s.failReq r status false).freeTag t r).afterEnd r.win

/-- The kind and data length of a response match its request (R301). -/
def responseFits (r : BrgReq) (kind status len data : Nat) : Bool :=
  let wantsAck := r.kind == .np || r.kind == .atomWrite
  (if wantsAck then kind == kindWriteAck && data == 0
   else kind == kindReadResponse && data == (if status == 0 || status == 3 then r.len else 0)) && len == r.len

/-- A READ_RESPONSE or WRITE_ACK at SP16. -/
def bridgeResponse (s : State) (u : UnitMsg) : State :=
  let tage := beAt u.payload 0 2
  let t := tage % 256
  let ep := tage / 4096
  let len := beAt u.payload 2 2
  let status := beAt u.payload 4 1
  let data := u.payload.drop 16
  match s.brgReq t with
  | some r =>
    if 16 ≤ u.payload.length ∧ u.tid = r.reply ∧ responseFits r u.kind status len data.length then
      if ep ≠ s.epoch t then (s.bump R.HBR_STALE).irq 0x320 3
      else if r.live then s.acceptResponse t r status data
      else s.bump R.HBR_BAD_RESP
    else s.bump R.HBR_BAD_RESP
  | none => s.bump R.HBR_BAD_RESP

/-! ### FLR and the host link -/

/-- Ends the outbound requests without completions (R326, R327): those that wait are forgotten, an atomic with the semaphore it had, and those that are outstanding and satisfy `p` end early. -/
def bridgeQuiet (s : State) (p : BrgReq → Bool) : State :=
  let s := s.brg.waiting.foldl (fun s x => s.semLeft x.send) s
  let s := s.updBrg (fun b => { b with
    waiting := b.waiting.filter (fun x => sendPosted x.send), semWait := [], lockLost := [] })
  (s.liveWhere p).foldl (fun s t => s.endEarly R.HBR_ABT_OTHER true t) s.unlockAll.pumpSends

/-- Releases every semaphore held by the host bridge path. -/
def semsOfHost (s : State) : State :=
  (List.range 64).foldl (fun s i =>
    if s.semHeld i && s.rd R.HBR_SEM_EMU 0 i == 0 && s.rd R.HBR_SEM_PATH 0 i == pathHost then s.semFree i else s) s

/-- A Function Level Reset (R326): a WRITE_NP runs to its acknowledgement (Table 9.8). -/
def flr (s : State) : State :=
  let s := ((s.wr R.HBR_LINK_STAT_BME 0).wr R.HBR_LINK_STAT_MPS 0).wr R.HBR_LINK_STAT_MRRS 0
  let s := s.updBrg (fun b => { b with msix := [], pba := [], msixEn := false, funcMask := false, bars := [], cause := [] })
  let s := (s.bridgeQuiet (fun r => r.kind != BrgKind.np)).semsOfHost
  (s.bump R.HBR_FLR_CNT).irq 0x320 9

/-! ### The function's own spaces, and the host's requests in their order -/

/-- Where the PCI Express capability and the MSI-X capability begin (log 154). -/
def pcieCap : Nat := 0x40 + 4 * (Config.capPlace 0).toNat
def msixCap : Nat := pcieCap + 0x3C + 4 * (Config.capPlace 1).toNat

/-- The registers of configuration space that Tables 9.1 and 9.2 give, where PCI Express lays them out: offset, the bits that they give, and their value (R292, R293, log 154). -/
def configRegs (s : State) : List (Nat × Nat × Nat) :=
  let bar := fun (o size type : Nat) => (s.brg.bars.get 0 o / size * size % 2 ^ 32) + type
  let all := 2 ^ 32 - 1
  [ (0x00, all, 0x4816 * 2 ^ 16 + Config.vendorId.toNat),
    (0x04, 2 ^ 20 + 2 ^ 2, 2 ^ 20 + s.rd R.HBR_LINK_STAT_BME * 2 ^ 2),
    (0x0C, 0xFF * 2 ^ 16, 0),
    (0x10, all, bar 0x10 (2 ^ 22) 0),
    (0x14, all, 0),
    (0x18, all, 0xC),
    (0x1C, all, bar 0x1C (2 ^ 4) 0),
    (0x20, all, bar 0x20 (2 ^ 14) 4),
    (0x24, all, bar 0x24 1 0),
    (0x3C, 0xFF * 2 ^ 8, 0),
    (pcieCap, 0x00F000FF, 0x10 + (if s.brg.legacy then 2 ^ 20 else 0)),
    (pcieCap + 0x04, 2 ^ 28 + 0x27, 2 ^ 28 + 0x22),
    (pcieCap + 0x08, 0xF0E0, s.rd R.HBR_LINK_STAT_MPS * 2 ^ 5 + s.rd R.HBR_LINK_STAT_MRRS * 2 ^ 12),
    (pcieCap + 0x0C, 0xFFF, 0x800 + 8 * 2 ^ 4 + 4),
    (pcieCap + 0x10, 0x03FF0000, (s.rd R.HBR_LINK_STAT_GEN + 1) * 2 ^ 16 + 2 ^ s.rd R.HBR_LINK_STAT_WIDTH * 2 ^ 20),
    (pcieCap + 0x24, 0x00003B80, 0x180),
    (msixCap, 0xC7FF00FF, 0x11 + 63 * 2 ^ 16 + (if s.brg.funcMask then 2 ^ 30 else 0) + (if s.brg.msixEn then 2 ^ 31 else 0)),
    (msixCap + 4, all, 0x0004),
    (msixCap + 8, all, 0x2004),
    (0x100, 0xFFFF, 1),
    (0x118, 0x00A0, 0) ]

/-- A byte of configuration space: the bits that Tables 9.1 and 9.2 give, among free ones. -/
def configByte (s : State) (o : Nat) : Byte :=
  let free := (Config.freeValue (s.free + o)).toNat % 256
  match s.configRegs.find? (fun r => r.1 == o / 4 * 4) with
  | none => BitVec.ofNat 8 free
  | some (_, mask, v) =>
    let m := mask / 256 ^ (o % 4) % 256
    BitVec.ofNat 8 (v / 256 ^ (o % 4) % 256 &&& m ||| (free &&& (255 - m)))

/-- A byte of BAR4: the MSI-X table at 0, as PCI Express lays an entry out, and the PBA at 0x2000; the others are free. -/
def msixByte (s : State) (o : Nat) : Byte :=
  let m := s.msixEnt (o / 16)
  if o < 1024 then BitVec.ofNat 8 ((m.addr + m.data * 2 ^ 64 + (if m.masked then 2 ^ 96 else 0)) / 256 ^ (o % 16))
  else if 0x2000 ≤ o ∧ o < 0x2008 then
    BitVec.ofNat 8 (((List.range 8).map (fun k => if s.brg.pba.get false (8 * (o - 0x2000) + k) then 2 ^ k else 0)).sum)
  else BitVec.ofNat 8 (Config.freeValue (s.free + o)).toNat

/-- A host read of the windows, of BAR4 or of configuration space (R293, R297). -/
def hostRead (s : State) (space : HostSpace) (off len host attr : Nat) : State :=
  match space with
  | .windows => s.winRead off len host attr
  | .msix =>
    let s := s.completeData host cplSc false 4097 off ((List.range len).map (fun k => s.msixByte (off + k)))
    { s with free := s.free + hostSpaceSize .msix }
  | .config =>
    let s := s.completeData host cplSc false 4097 off ((List.range len).map (fun k => s.configByte (off + k)))
    { s with free := s.free + hostSpaceSize .config }

/-- The pending MSI-X messages that may go now are sent, and their PBA bits cleared (R322). -/
def msixFlush (s : State) : State :=
  ((List.range 64).filter (fun v => s.brg.pba.get false v)).foldl
    (fun s v => (s.updBrg (fun b => { b with pba := b.pba.set false v false })).msixWrite v) s

/-- The host writes the function's configuration space: Bus Master Enable, the payload sizes, MSI-X Enable with the function mask, and base address registers; vectors that it lets go are sent (R293, R313, R322). -/
def hostConfig (s : State) (bme mps mrrs : Nat) (msixEn : Bool) (conf : HostConf) : State :=
  ((((s.wr R.HBR_LINK_STAT_BME bme).wr R.HBR_LINK_STAT_MPS mps).wr R.HBR_LINK_STAT_MRRS mrrs).updBrg
    (fun b => { b with
      msixEn := msixEn
      funcMask := conf.funcMask
      bars := conf.regs.foldl (fun l r => l.set 0 r.1 (r.2 % 2 ^ 32)) b.bars })).msixFlush

/-- The host writes an MSI-X table entry: the message address and data, and the mask; an unmasked vector that is pending is sent (R322). -/
def hostVector (s : State) (v addr data : Nat) (masked : Bool) : State :=
  (s.updBrg (fun b => { b with msix := b.msix.set {} v ⟨addr % 2 ^ 64, data % 2 ^ 32, masked⟩ })).msixFlush

/-- A request of the host is taken. -/
def hostTakes (s : State) : HostReq → State
  | .write off attr data => s.hostWrite off data (attr % 4)
  | .read space off len host attr => s.hostRead space off len host (attr % 4)
  | .atomic off op size operand compare host attr => s.hostAtomic off op size operand compare host (attr % 4)
  | .lockedRead off len host attr => s.hostLocked off len host (attr % 4)
  | .unlock => s.hostUnlock
  | .config bme mps mrrs msixEn conf => s.hostConfig bme mps mrrs msixEn conf
  | .vector v addr data masked => s.hostVector v addr data masked

/-- A request stays in the host: the bridge gives no credits, or an earlier request or a posted access to BAR0 waits (R295, R299). -/
def hostBlocked (s : State) : Bool :=
  s.creditsHeld || s.pwr.waiting.any (fun w => w.path == pathHost && (w.write || w.req.isSome))

/-- A request of the host, in its order. -/
def hostAsks (s : State) (r : HostReq) : State :=
  if s.hostBlocked then s.queueAccess { path := pathHost, write := false, addr := 0x320000, data := 0, req := some r }
  else s.hostTakes r

/-- With credits again, the host's oldest requests are taken, up to an access to BAR0 among them, which goes on by itself; `fuel` bounds their number. -/
def hostPump (s : State) : Nat → State
  | 0 => s
  | fuel + 1 =>
    match s.pwr.waiting.find? (fun w => w.path == pathHost) with
    | some w =>
      match w.req with
      | some r =>
        if s.creditsHeld then s
        else hostPump (({ s with pwr := { s.pwr with waiting := s.pwr.waiting.erase w } } : State).hostTakes r) fuel
      | none => s
    | none => s

def iwin (s : State) (f : Field) (i : Nat) : Nat := s.rd f 0 i

/-- A draining inbound window is disabled when no host access of it is outstanding and no answer of it waits at the ingress point (R325). -/
def iwinDrained (s : State) (i : Nat) : State :=
  if s.iwin R.HBR_IWIN_STAT_STATE i = winDraining ∧
      !s.brg.inReqs.any (fun (x : Nat × Option InReq) => x.2.any (fun r => r.win == i)) ∧
      (s.sch.ingress.get [] spBridge).all (fun x => !s.brg.inAnswers.contains (i, x.tid)) then
    (s.wr R.HBR_IWIN_STAT_STATE winDisabled 0 i).irq 0x320 10
  else s

/-- Answers that no longer wait at the ingress point are forgotten. -/
def answersEntered (s : State) : State :=
  s.updBrg (fun b => { b with inAnswers := b.inAnswers.filter (fun x => (s.sch.ingress.get [] spBridge).any (fun w => w.tid == x.2)) })

/-- What the end of a wait at SP16 lets go: sends, an Unlock, the drains, and the host's requests (R295, R312, R325). -/
def bridgeSettled (s : State) : State :=
  let s := (List.range 64).foldl owinDrained s.answersEntered.pumpSends.unlockSettled
  let s := (List.range 32).foldl iwinDrained s
  s.hostPump (s.pwr.waiting.length + 1)

/-- The lock of a window whose trunk is declared down ends (Table 9.8). -/
def lockLostAt (s : State) (w : Nat) : State := (s.updBrg (fun b => { b with lockLost := b.lockLost ++ [w] })).unlockWin w

/-- Completes early every outstanding request recorded toward a trunk that is declared down, answers what still waits for a tag or a semaphore, and ends a lock through it (R304, Table 9.8). -/
def bridgeTrunkDown (s : State) (n : Nat) : State :=
  let s := ((s.brg.lock.elim [] (·.wins)).filter (fun w => s.owinPort w == n)).foldl lockLostAt s
  let asks := s.brg.semWait.filter (fun x => s.owinDown (sendWin x.2.send))
  let s := s.updBrg (fun b => { b with semWait := b.semWait.filter (fun x => !s.owinDown (sendWin x.2.send)) })
  let s := asks.foldl (fun s x => (s.aborted x.2.send).bump R.HBR_ABT_DOWN) s
  ((s.liveWhere (fun r => r.port == n)).foldl (fun s t => s.endEarly R.HBR_ABT_DOWN false t) s.pumpSends).bridgeSettled

/-- An outstanding read that entered a failed plane alone is completed early or, with RETRY_RD, sent once more (R305). -/
def bridgePlaneOne (s : State) (t : Nat) : State :=
  match s.brgReq t with
  | none => s
  | some r =>
    if s.rd R.HBR_CFG_RETRY_RD = 1 ∧ r.retried = false then
      let s := s.updBrg (fun b => { b with epochs := b.epochs.set 0 t ((b.epochs.get 0 t + 1) % 16) })
      (s.setReq t { r with retried := true }).sendRead t r
    else s.endEarly R.HBR_ABT_PLANE false t

/-- The bridge learns that a plane has failed (R305); a READ_REQUEST that still waits at SP16 has entered none. -/
def bridgePlaneFailed (s : State) (p : Nat) : State :=
  let hit := (s.liveWhere (fun r => r.kind == .read || r.kind == .lock)).filter
    (fun t => s.sch.readIn.get [] (s.epoch t * 4096 + t) == [p])
  (hit.foldl bridgePlaneOne s).bridgeSettled

end State

/-- A command of the host at the function: a transaction of the host link, in its order (R295, R299). -/
def hostCommand (s : State) (ok : Bool) (r : HostReq) : Host.Outcome State Fault Refusal :=
  guardedIn 16 s ok ((s.begin.tally 0x170).hostAsks r)

/-- HOST_WRITE (R297): a memory write of the host at a BAR2 offset; a byte that is not enabled is none. -/
def execHostWrite (off attr : Nat) (data : List (Option Byte)) (s : State) : Host.Outcome State Fault Refusal :=
  hostCommand s (decide (off < 2 ^ 36)) (.write off attr data)

/-- HOST_READ (R293, R297): a read of the windows, of BAR4 or of configuration space. -/
def execHostRead (place : HostPlace) (len host attr : Nat) (s : State) : Host.Outcome State Fault Refusal :=
  hostCommand s (decide (place.off + len ≤ hostSpaceSize place.space) && decide (1 ≤ len) && decide (len ≤ 4096))
    (.read place.space place.off len host attr)

/-- HOST_ATOMIC (R310): code 0 FetchAdd, 1 Swap, 2 CAS; `size` bytes. -/
def execHostAtomic (off op size operand compare host attr : Nat) (s : State) : Host.Outcome State Fault Refusal :=
  hostCommand s (decide (off < 2 ^ 36)) (.atomic off op size operand compare host attr)

/-- HOST_LOCKED_READ (R312). -/
def execHostLockedRead (off len host attr : Nat) (s : State) : Host.Outcome State Fault Refusal :=
  hostCommand s (decide (off < 2 ^ 36) && decide (1 ≤ len) && decide (len ≤ 4096)) (.lockedRead off len host attr)

/-- HOST_UNLOCK (R312). -/
def execHostUnlock (s : State) : Host.Outcome State Fault Refusal := hostCommand s true .unlock

/-- HBR_FENCE (R299): a write of a window number to HBR_FENCE. -/
def execHbrFence (path w : Nat) (s : State) : Host.Outcome State Fault Refusal :=
  guarded (decide (path < 8) && decide (w < 64))
    (s.begin.gateWrite path 0x32005C w (fun s => s.acceptSend (.fence w)))

/-- SEMAPHORE_ACQUIRED (R310): semaphore `i` is free, and the oldest request that waits for it goes on. -/
def execSemaphoreAcquired (i : Nat) (s : State) : Host.Outcome State Fault Refusal :=
  guardedIn 16 s (decide (i < 64))
    (let s := s.begin
     match s.brg.semWait.find? (fun x => x.1 == i) with
     | some x =>
       if s.semHeld i then s
       else (s.updBrg (fun b => { b with semWait := b.semWait.erase x })).semGo x.2
     | none => s)

/-- SEM_WAIT_TIMEOUT (R310): the oldest request that waits for semaphore `i` has waited HBR_SEM_TMO. -/
def execSemWaitTimeout (i : Nat) (s : State) : Host.Outcome State Fault Refusal :=
  guardedIn 16 s (decide (i < 64))
    (let s := s.begin
     match s.brg.semWait.find? (fun x => x.1 == i) with
     | some x =>
       let s := (s.updBrg (fun b => { b with semWait := b.semWait.erase x })).aborted x.2.send
       ((s.bump R.HBR_SEM_TMO_CNT).irq 0x320 7).owinDrained (State.sendWin x.2.send)
     | none => s)

/-- HBR_READ_TIMEOUT (R303): HBR_RD_TMO has passed since the request of a tag was sent. -/
def execHbrReadTimeout (t : Nat) (s : State) : Host.Outcome State Fault Refusal :=
  guardedIn 16 s (decide (t < 256)) (s.begin.endEarly R.HBR_ABT_TMO false t).bridgeSettled

/-- LOCK_TIMEOUT (R312). -/
def execLockTimeout (s : State) : Host.Outcome State Fault Refusal :=
  nextIn 16 s (if s.brg.lock.isSome then ((s.begin.unlockAll.bump R.HBR_LOCK_TMO_CNT).irq 0x320 8).bridgeSettled else s.begin)

/-- HBR_SEM_READ (R309). -/
def execHbrSemRead (path i : Nat) (s : State) : Host.Outcome State Fault Refusal :=
  guarded (decide (path < 8) && decide (i < 64))
    (s.begin.gateRead path (0x323040 + 4 * i) (fun s =>
      let s := if s.semHeld i then s else s.semTake i 0 path
      let emu := s.rd R.HBR_SEM_EMU 0 i
      let holder := s.rd R.HBR_SEM_PATH 0 i
      let got := if emu = 0 ∧ holder = path then 1 else 0
      s.answer path (got + 2 + 4 * emu + 16 * holder)))

/-- HBR_SEM_RELEASE (R309). -/
def execHbrSemRelease (path i : Nat) (s : State) : Host.Outcome State Fault Refusal :=
  guarded (decide (path < 8) && decide (i < 64))
    (s.begin.gateWrite path (0x323040 + 4 * i) 1 (fun s =>
      if s.semHeld i && s.rd R.HBR_SEM_EMU 0 i == 0 && s.rd R.HBR_SEM_PATH 0 i == path then s.semFree i else s))

/-- FLR (R326). -/
def execFlr (s : State) : Host.Outcome State Fault Refusal := nextIn 16 s s.begin.flr.bridgeSettled

/-- HOST_LINK_UP (R330): the host link trains at a width and generation within HBR_LINK_CFG, and takes LEGACY. -/
def execHostLinkUp (width gen : Nat) (s : State) : Host.Outcome State Fault Refusal :=
  guardedIn 16 s (decide (width < 4) && decide (gen < 4))
    (let s := s.begin
     let s := (s.wr R.HBR_LINK_STAT_UP 1).wr R.HBR_LINK_STAT_WIDTH (min width (s.rd R.HBR_LINK_CFG_MAX_WIDTH))
     let s := s.updBrg (fun b => { b with legacy := s.rd R.HBR_CFG_LEGACY == 1 })
     ((s.wr R.HBR_LINK_STAT_GEN (min gen (s.rd R.HBR_LINK_CFG_MAX_GEN))).irq 0x320 0).msixFlush)

/-- HOST_CONFIG_WRITE (R313): the host sets Bus Master Enable, MPS, MRRS, MSI-X Enable, the MSI-X function mask and base address registers. -/
def execHostConfigWrite (bme mps mrrs : Nat) (msixEn : Bool) (conf : HostConf) (s : State) :
    Host.Outcome State Fault Refusal :=
  hostCommand s (decide (bme < 2) && decide (mps < 8) && decide (mrrs < 8)) (.config bme mps mrrs msixEn conf)

/-- MSIX_UNMASK (R322): the host writes an MSI-X table entry, its vector unmasked or masked. -/
def execMsixUnmask (v addr : Nat) (word : MsixWord) (s : State) : Host.Outcome State Fault Refusal :=
  hostCommand s (decide (v < 64)) (.vector v addr word.data word.masked)

end Sys2Proof.Machine
end

