-- ==== Sys2Proof/Machine/Images.lean ====
section
/-! DEFINITION. The boot flash's directory, image headers and the verification of images (chapter 12), and which mailbox and receive region a unit for an engine cluster would take. -/

namespace Sys2Proof.Machine

/-- Bytes `i` to `i + k - 1` as a number, least significant first. -/
def leAt (bs : List Byte) (i k : Nat) : Nat := ofLe ((bs.drop i).take k)

/-- Image kinds of Table 12.1, and the two key entries of R412. -/
def kindResident : Nat := 0x01
def kindCustomer : Nat := 0x02
def kindHotSpare : Nat := 0x14
def kindImageKey : Nat := 0xF0
def kindCodeKey : Nat := 0xF1

/-- Image kinds with their largest LOAD_SIZE (Table 12.1). -/
def imageKinds : List (Nat × Nat) :=
  [(0x01, 262144), (0x02, 786432), (0x10, 245760), (0x11, 245760), (0x12, 245760), (0x13, 245760), (0x14, 16384)]

/-- Results of Table 12.3. -/
def imgNone : Nat := 1
def imgBadHash : Nat := 3
def imgBadSig : Nat := 4
def imgRollback : Nat := 5
def imgSize : Nat := 6

/-- Fields of an image header (Table 12.2). -/
def Image.ver (i : Image) : Nat := leAt i.hdr 0x08 4
def Image.minCmd (i : Image) : Nat := leAt i.hdr 0x0C 4
def Image.fmt (i : Image) : Nat := leAt i.hdr 0x10 2
def Image.fmtMin (i : Image) : Nat := leAt i.hdr 0x12 2
def Image.svn (i : Image) : Nat := leAt i.hdr 0x14 4
def Image.ckptOfs (i : Image) : Nat := leAt i.hdr 0x20 4
def Image.ckptSize (i : Image) : Nat := leAt i.hdr 0x24 4
def Image.rxOfs (i : Image) : Nat := leAt i.hdr 0x28 4
def Image.rxSize (i : Image) : Nat := leAt i.hdr 0x2C 4
def Image.resumeUs (i : Image) : Nat := leAt i.hdr 0x30 2

/-- The bytes from `i` to `j` of a header are zero. -/
def zeroBytes (h : List Byte) (i j : Nat) : Bool := ((h.drop i).take (j - i)).all (fun b => b == 0)

/-- A header breaks Table 12.1 or 12.2 for an image of a kind and directory length (R381, SIZE). -/
def headerBad (h : List Byte) (kind len : Nat) : Bool :=
  let load := leAt h 0x18 4
  let big := (imageKinds.find? (fun k => k.1 == kind)).any (fun k => decide (load ≤ k.2))
  let ofs := leAt h 0x20 4
  let size := leAt h 0x24 4
  let rx := leAt h 0x2C 4
  let us := leAt h 0x30 2
  let crosses := decide (0x10 ≤ kind) && kind != kindHotSpare &&
    (decide (0x3C000 < load) || decide (0x3C000 < ofs + size) || decide (0x3C000 < leAt h 0x28 4 + rx))
  !big || leAt h 0x05 1 != kind || decide (len < 256 + load) || ofs % 64 != 0 || size % 64 != 0 || decide (8192 < size) ||
    decide (rx < 32768) || decide (131072 < rx) || us == 0 || decide (1000 < us) || crosses ||
    !(zeroBytes h 0x06 0x08 && zeroBytes h 0x32 0x40 && zeroBytes h 0x70 0x80 && zeroBytes h 0xE0 0x100)

namespace State

def flashRead (s : State) (a n : Nat) : List Byte := s.mgt.flash.getRun 0xFF a n

/-- A directory copy is valid (R379). -/
def dirValid (s : State) (base : Nat) : Bool :=
  let d := s.flashRead base 4096
  leAt d 0 4 == 0x57444952 && decide (25 ≤ leAt d 8 1) && decide (leAt d 8 1 ≤ 133) && leAt d 4092 4 == crc32c (d.take 4092)

/-- The directory copy in use: the valid one with the higher SEQ (R379). -/
def dirBase (s : State) : Option Nat :=
  match s.dirValid 0, s.dirValid 0x1000 with
  | true, true => if leAt (s.flashRead 0 8) 4 4 < leAt (s.flashRead 0x1000 8) 4 4 then some 0x1000 else some 0
  | true, false => some 0
  | false, true => some 0x1000
  | false, false => none

/-- The entries of the directory in use: kind, slot, active, offset, length. -/
def dirEntries (s : State) : List (Nat × Nat × Bool × Nat × Nat) :=
  match s.dirBase with
  | none => []
  | some b => (List.range 32).filterMap (fun i =>
      let e := s.flashRead (b + 64 + 16 * i) 16
      let k := leAt e 0 1
      if k = 0 then none else some (k, leAt e 1 1, (leAt e 2 1).testBit 0, leAt e 4 4, leAt e 8 4))

/-- Offset and length of an entry of a kind and slot. -/
def dirFind (s : State) (kind slot : Nat) : Option (Nat × Nat) :=
  (s.dirEntries.find? (fun e => e.1 == kind && e.2.1 == slot)).map (fun e => e.2.2.2)

/-- The public key of a kind's signer, when the flash carries it and its hash matches OTP (R412). -/
def signerKey (s : State) (kind : Nat) : Option (List Byte) :=
  let customer := kind == kindCustomer
  match s.dirEntries.find? (fun e => e.1 == (if customer then kindCodeKey else kindImageKey)) with
  | none => none
  | some e =>
    let k := s.flashRead e.2.2.2.1 97
    let h := if customer then s.key.codeHash else some Config.imageKeyHash
    if e.2.2.2.2 = 97 ∧ h = some (Config.sha384 k) then some k else none

/-- The minimum security version of a kind (Table 13.4). -/
def svnMinOf (s : State) (kind : Nat) : Nat := s.key.svnMin.get 0 kind

/-- Verifies the image of a kind and slot in flash in the order of Table 12.3: the image, or the check that failed. A customer image runs unverified when no owner code key hash is programmed (R398). -/
def verifyImage (s : State) (kind slot : Nat) : Except Nat Image :=
  match s.dirFind kind slot with
  | none => .error imgNone
  | some (ofs, len) =>
    let h := s.flashRead ofs 256
    let body := s.flashRead (ofs + 256) (leAt h 0x18 4)
    if leAt h 0 4 ≠ 0x49484257 ∨ leAt h 4 1 ≠ 1 then .error imgNone
    else if headerBad h kind len then .error imgSize
    else if kind = kindCustomer ∧ s.key.codeHash = none then .ok ⟨kind, slot, h, body, false, 0⟩
    else if (s.signerKey kind).all (fun k => !Config.ecdsaVerify k (Config.sha384 (h.take 0x80)) ((h.drop 0x80).take 96)) then
      .error imgBadSig
    else if leAt h 0x14 4 < s.svnMinOf kind then .error imgRollback
    else if Config.sha384 body ≠ (h.drop 0x40).take 48 then .error imgBadHash
    else .ok ⟨kind, slot, h, body, true, 0⟩

/-! ### Engines -/

def updEng (s : State) (f : EngsState → EngsState) : State := { s with eng := f s.eng }
def engine (s : State) (e : Nat) : EngState := s.eng.eng.get {} e
def setEngine (s : State) (e : Nat) (x : EngState) : State := s.updEng (fun y => { y with eng := y.eng.set {} e x })
def logEng (s : State) (l : Nat) : LogEng := s.eng.log.get {} l
def setLog (s : State) (l : Nat) (x : LogEng) : State := s.updEng (fun y => { y with log := y.log.set {} l x })
def updLog (s : State) (l : Nat) (f : LogEng → LogEng) : State := s.setLog l (f (s.logEng l))

/-- The engine that serves a logical engine, and the logical engine of an engine (R377). -/
def physOf (s : State) (l : Nat) : Nat := s.eng.phys.get l l
def logOf (s : State) (e : Nat) : Nat := ((List.range 16).find? (fun l => s.physOf l == e)).getD e

/-- The image of the engine that serves a logical engine. -/
def imageOf (s : State) (l : Nat) : Option Image := (s.engine (s.physOf l)).img

/-- The valid entry of a cluster's binding table that binds a tunnel in a direction: 0 inbound, 1 origin (R378). -/
def binding (s : State) (k tid dir : Nat) : Option Nat :=
  ((List.range 256).map (fun i => s.eng.bind.get 0 (k * 256 + i))).find? (fun w =>
    w.testBit 15 && bitsOf w 14 0 == tid && bitsOf w 20 20 == dir)

/-- The logical engine that a tunnel's units go to. -/
def boundEngine (s : State) (k tid : Nat) : Option Nat := (s.binding k tid 0).map (fun w => 8 * k + bitsOf w 18 16)

/-- Where in a receive region of `size` bytes a payload of `n` bytes fits beside those held: the lowest such offset. -/
def rxSlot (held : List (Nat × Nat)) (size n : Nat) : Option Nat :=
  ((0 :: held.map (fun h => h.1 + h.2)).filter (fun a => decide (a + n ≤ size) &&
    held.all (fun h => decide (a + n ≤ h.1) || decide (h.1 + h.2 ≤ a)))).min?

/-- The payloads that a logical engine's mailboxes hold in its receive region. -/
def rxHeld (s : State) (l : Nat) : List (Nat × Nat) :=
  (((s.logEng l).unit ++ (s.logEng l).msg).map (fun x => (x.ofs, x.payload.length))).filter (fun x => decide (0 < x.2))

/-- Where a payload would be placed; none when the region is full or no image gives one. -/
def rxPlace (s : State) (l n : Nat) : Option Nat :=
  match s.imageOf l with
  | none => none
  | some i => rxSlot (s.rxHeld l) i.rxSize n

/-- Arrivals for a logical engine are refused: its engine drains, or is OFF (R391). -/
def engRefuses (s : State) (l : Nat) : Bool :=
  let st := s.rd R.ENG_HEALTH_STATE (s.physOf l)
  st == 5 || st == 0

/-- A unit for a logical engine has to wait: its UNIT mailbox or receive region is full (R383). -/
def unitWaits (s : State) (l n : Nat) : Bool := decide (64 ≤ (s.logEng l).unit.length) || (s.rxPlace l n).isNone

end State

end Sys2Proof.Machine
end

