-- ==== Sys2Proof/Machine/LinkOps.lean ====
section
/-! DEFINITION. A trunk's link entering and leaving UP (chapter 02, R87, R93, R94; R126, R147): reservations, what is discarded, and the declarations. -/

namespace Sys2Proof.Machine

/-- Causes of TRK_LSTAT.CAUSE. -/
def causeNone : Nat := 0
def causeDisabled : Nat := 1
def causeLane : Nat := 2
def causeReplayLimit : Nat := 3
def causeSeat : Nat := 4
def causeCapTimeout : Nat := 5
def causeVersion : Nat := 6
def causeRole : Nat := 7
def causePeerReset : Nat := 8
def causeRetrain : Nat := 9
def causeLoop : Nat := 0xA
def causeNoBuffer : Nat := 0xB

namespace State

/-! ### Ports that go down -/

/-- Units of a plane with a member at port `n`. -/
def unitsToward (s : State) (p n : Nat) : List Nat :=
  ((s.plane p).units.filter (fun x => x.2.any (fun u => u.members.any (fun m => m.1 == n)))).map Prod.fst

/-- How many cells of a unit the port has already sent; none when it has sent none. -/
def partSent (s : State) (n p h : Nat) : Option Nat :=
  ((s.egress n).sending.filterMap (fun x => x.2)).findSome? (fun x =>
    if x.plane = p ∧ x.unit = h ∧ 0 < x.sent then some x.sent else none)

/-- One unit toward a down port loses that member (R147); a unit the port has begun is not counted, and stays while `keep` (R96). -/
def purgeUnit (s : State) (n p : Nat) (sentOf : Nat → Option Nat) (keep : Bool) (h : Nat) : State :=
  match sentOf h with
  | some k => if keep then s else s.dropMember p h n k
  | none => (s.dropMember p h n 0).downDisc p

/-- A plane discards what it holds toward port `n`. -/
def purgePlane (s : State) (n : Nat) (keep : Bool) (p : Nat) : State :=
  let sentOf := s.partSent n p
  let hs := s.unitsToward p n
  let mine := fun q => (s.pair q).port == n
  let s := s.updPlane p (fun x => { x with
    voq := x.voq.eraseIf (fun k => k / 8 % 24 == n), xfer := x.xfer.eraseIf (fun k => k / 8 % 24 == n),
    queues := x.queues.eraseIf mine, carousel := x.carousel.eraseIf (fun k => k / 4096 == n),
    park := x.park.filter (fun e => e.port != n) })
  hs.foldl (fun s h => s.purgeUnit n p sentOf keep h) s

/-- Everything queued toward port `n` is discarded; with `keep`, not the units that the port has begun. -/
def purgePort (s : State) (n : Nat) (keep : Bool) : State :=
  let mine := fun q => (s.pair q).port == n
  let s := (s.purgePlane n keep 0).purgePlane n keep 1
  let s := s.updSch (fun x => { x with pairs := (x.pairs.map (fun e =>
    if e.2.port = n then (e.1, { e.2 with tag := none, tagged := (0, 0) }) else e)).filter (fun e => e.2 ≠ ({} : QPair)) })
  let s := s.updTun (fun t => { t with fences := t.fences.eraseIf (fun k => mine (k / 32768)) })
  s.updEgress n (fun e => { e with
    pinned := [], waiting := [],
    sending := if keep then e.sending.filter (fun x => x.2.any (fun y => 0 < y.sent)) else [] })

/-- Units that leave port `n` under tunnel ID `tid` (R39), that a plane holds toward port `n` and that the port has not begun. -/
def tunnelUnits (s : State) (p n tid : Nat) : List Nat :=
  (s.unitsToward p n).filter (fun h =>
    (s.partSent n p h).isNone && (match (s.plane p).units.get none h with
      | some u => outTid n u == tid
      | none => false))

/-- One unit leaves everything that leads to port `n`, and its cells are released. -/
def dropToward (s : State) (p n h : Nat) : State :=
  match (s.plane p).units.get none h with
  | none => s
  | some u =>
    let s := s.unlinkVoqs p h { u with members := u.members.filter (fun m => m.1 == n) }
    let s := (u.members.filter (fun m => m.1 == n)).foldl (fun s m => s.unqueue p m.2 h) s
    let s := s.updPlane p (fun x => { x with
      carousel := x.carousel.mapVals [] (fun k l => if k / 4096 = n then l.filter (fun e => e.unit ≠ h) else l),
      park := x.park.filter (fun e => !(e.port == n && e.unit == h)) })
    let s := s.updEgress n (fun e => e.keepHanded (fun x => !(x.plane == p && x.unit == h)))
    s.dropMember p h n 0

/-- Every unit of a tunnel queued toward port `n` is discarded. -/
def dropTunnel (s : State) (n tid : Nat) : State :=
  let s := [0, 1].foldl (fun s p => (s.tunnelUnits p n tid).foldl (fun s h => s.dropToward p n h) s) s
  s.updTun (fun t => { t with fences := t.fences.eraseIf (fun k => k % 32768 == tid && (s.pair (k / 32768)).port == n) })

/-- The sequence numbers of the units of a tunnel queued toward port `n`. -/
def tunnelSeqs (s : State) (n tid : Nat) : List Nat :=
  ([0, 1].flatMap (fun p => (s.tunnelUnits p n tid).filterMap (fun h => ((s.plane p).units.get none h).map (·.seq)))).eraseDups

/-! ### Leaving UP -/

/-- A trunk's open units are discarded in every plane they were entering (R94, R148). -/
def dropOpens (s : State) (n : Nat) : State :=
  let us := (s.link n).opens.filterMap (fun x => x.2)
  let s := us.foldl (fun s u => u.planes.foldl (fun s ph => s.discardOpen ph.1 ph.2) s) s
  s.updLink n (fun l => { l with opens := [] })

/-- Credit reservations of a trunk are released in each plane, with the records of the cells that hold credit (R94). -/
def dropReservation (s : State) (n : Nat) : State :=
  let s := [0, 1].foldl (fun s p => s.updPlane p (fun x => { x with reserved := x.reserved.set 0 n 0 })) s
  s.updSch (fun x => { x with credits := x.credits.filter (fun e => !(e.2.any (fun c => c.1 == n))) })

/-- A stall that leaving UP cuts off has lasted until now (R75). -/
def stallEnds (s : State) (n : Nat) : State :=
  match (s.link n).stalledAt with
  | none => s
  | some t => (s.bumpBy R.TRK_STALL_NS (s.hw - t) n).updLink n (fun l => { l with stalledAt := none })

/-- What R94 discards at both ends of the hub's own trunk port. -/
def dropTraffic (s : State) (n : Nat) : State :=
  let s := s.stallEnds n
  let s := s.bumpBy R.TRK_LOST_CELLS (s.link n).replay.length n
  let s := ((s.purgePort n false).dropOpens n).dropReservation n
  s.updLink n (fun l => { l with
    replay := [], resend := [], landing := [], aborts := [], ready := [], ackArmed := false,
    acks := [], ackCells := 0, expiries := 0, cumAt := none, highest := (l.ne + 65535) % 65536, damagedAfter := false, damagedAt := none })

/-- The rest of a link that is not in UP: no training or capability exchange goes on. -/
def idleLink (s : State) (n : Nat) : State :=
  s.updLink n (fun l => { l with
    capSeen := false, capSentSeen := false, capLeft := 0, dwelt := false, step := 0, retryWait := false,
    expiry := none })

/-- The lanes are no longer bound: a substitution in progress is abandoned (Table 3.4). -/
def dropSubst (s : State) (n : Nat) : State :=
  (s.updLink n (fun l => { l with subst := none, substFrom := none, substEnd := none })).wr R.TRK_LANESTAT_SUBST_BUSY 0 n

/-- The trunk is declared down (R93): flagged, counted and journalled with the cause, and the bridge told (R304). -/
def declareDown (s : State) (n cause : Nat) : State :=
  let s := ((s.wr R.TRK_LSTAT_CAUSE cause n).wr R.TRK_LSTAT_VCS 0 n).bump R.TRK_DOWN_CNT n
  ((s.event (trunkPage n) 1 cause).timeLinkDown n).bridgeTrunkDown n

/-- The link enters DOWN with a cause. -/
def enterDown (s : State) (n cause : Nat) : State :=
  ((((s.wr R.TRK_LSTAT_STATE linkDown n).wr R.TRK_LSTAT_CAUSE cause n).wr R.TRK_LSTAT_VCS 0 n).idleLink n).dropSubst n

/-- The link enters HALT with a cause. -/
def enterHalt (s : State) (n cause : Nat) : State :=
  ((((s.wr R.TRK_LSTAT_STATE linkHalt n).wr R.TRK_LSTAT_CAUSE cause n).wr R.TRK_LSTAT_VCS 0 n).idleLink n).irq
    (trunkPage n) 2

/-- The link leaves whatever state it is in for DOWN: from UP the trunk is declared down and R94 applies, from DRAIN R94 applies. -/
def linkToDown (s : State) (n cause : Nat) : State :=
  let st := s.linkState n
  let s := s.enterDown n cause
  if st = linkUp then (s.declareDown n cause).dropTraffic n
  else if st = linkDrain then s.dropTraffic n
  else s

/-- The link leaves UP, or CAP on its way there, for HALT. -/
def linkToHalt (s : State) (n cause : Nat) : State :=
  let st := s.linkState n
  let s := s.enterHalt n cause
  if st = linkUp then (s.declareDown n cause).dropTraffic n else s

/-- EN written 0 in UP: DRAIN, which takes no new unit (R96). A unit still open at the trunk ingress goes on until the drain ends, where R94 discards it (DEDUCED, log 151). -/
def linkToDrain (s : State) (n : Nat) : State :=
  let s := (s.wr R.TRK_LSTAT_STATE linkDrain n).declareDown n causeDisabled
  s.purgePort n true

/-- A drain is done once nothing is part-sent, nothing waits and the replay buffer is empty (R96). -/
def drained (s : State) (n : Nat) : State :=
  let l := s.link n
  if s.linkState n = linkDrain ∧ l.replay = [] ∧ l.aborts = [] ∧ (s.egress n).sending.all (fun x => x.2.isNone) then
    s.linkToDown n causeDisabled
  else s

/-! ### Entering UP -/

/-- Cells that a plane holds reserved for trunks. -/
def reservedTotal (s : State) (p : Nat) : Nat := ((s.plane p).reserved.map (fun (x : Nat × Nat) => x.2)).sum

/-- A plane reserves a link's credits, or flags that it cannot (R126). -/
def reserve (s : State) (p n total : Nat) : State × Bool :=
  if s.reservedTotal p + total ≤ (s.plane p).trkMax then
    (s.updPlane p (fun x => { x with reserved := x.reserved.set 0 n total }), true)
  else (s.irq (planePage p) 7, false)

/-- Every plane in service reserves; the answer says whether all could. -/
def reserveAll (s : State) (n total : Nat) : State × Bool :=
  s.planesInService.foldl (fun r p =>
    let x := r.1.reserve p n total
    (x.1, r.2 && x.2)) (s, true)

/-- The learning period at an entry to UP: afresh the first time, at another rate, or when asked for (R113). -/
def learnAtUp (s : State) (n : Nat) : State :=
  let l := s.link n
  let rate := s.rd R.TRK_LANESTAT_RATE n
  if l.learnRate ≠ rate + 1 ∨ l.learnAsked then
    (s.setLink n { l with learnMs := 0, learnN := [], learnH := [], learnV := [], learnAsked := false, learned := false,
                          learnRate := rate + 1 }).wr R.TRK_LANESTAT_LEARNING 1 n
  else s

/-- The terms of an end with these values of ALLOW_V21, MAX_VCS and ROLE (R89). -/
def capTerms (s : State) (v21 maxVcs role : Nat) : CapTerms :=
  ⟨2, v21, maxVcs, role, false, if v21 = 1 then 7 else 0, s.rd R.KEY_SERIAL % 2 ^ 24⟩

/-- The terms that an end offers (R89). -/
def ownTerms (s : State) (n : Nat) : CapTerms :=
  s.capTerms (s.rd R.TRK_LCFG_ALLOW_V21 n) (s.rd R.TRK_LCFG_MAX_VCS n) (s.rd R.TRK_LCFG_ROLE n)

/-- The terms in force: those of the last entry to CAP, and before the first those of reset (R98, Table 2.9). -/
def offered (s : State) (n : Nat) : CapTerms := (s.link n).offer.getD (s.capTerms 1 8 0)

/-- The link enters UP with its agreed terms (R80, R87, R91, R93), or HALT when a plane cannot reserve its credits (R85, R126). A CREDIT block for every agreed VC is ready at once (DEDUCED, log 124). -/
def enterUp (s : State) (n vcs v21 : Nat) : State :=
  let amounts := (List.range vcs).map (fun v => s.rd R.TRK_VC_CRED n v)
  let r := s.reserveAll n amounts.sum
  if !r.2 then (r.1.dropReservation n).linkToHalt n causeNoBuffer
  else
    let s := ((r.1.wr R.TRK_LSTAT_STATE linkUp n).wr R.TRK_LSTAT_VCS vcs n).wr R.TRK_LSTAT_V21 v21 n
    let s := s.updLink n (fun l => { l with
      x := 0, replay := [], resend := [], expiries := 0, stalledAt := none, sent := [], limit := [],
      ready := [], sinceCtl := 0, gapCtl := 0, gapLow := 0, cumAt := none, expiry := none, ne := 0, landing := [], damagedAt := none,
      rxLimit := (List.range vcs).map (fun v => (v, amounts.getD v 0)),
      rxSent := (List.range vcs).map (fun v => (v, amounts.getD v 0)),
      opens := [], ackCells := 0, ackArmed := false, acks := [], highest := 0xFFFF, damagedAfter := false,
      capLeft := 4, aborts := [], reserved := amounts, upFrom := s.tun.lookups })
    let s := (List.range vcs).foldl (fun s v => s.readyCtl n (.credit v (amounts.getD v 0))) s
    let s := s.updTun (fun t => { t with capWarned := t.capWarned.eraseIf (fun k => k / 32768 == n) })
    let s := (s.irq (trunkPage n) 0).learnAtUp n
    if v21 = 0 ∧ (s.offered n).min = 1 then s.irq (trunkPage n) 3 else s

end State

end Sys2Proof.Machine
end

