-- ==== Sys2Proof/Machine/Failover.lean ====
section
/-! DEFINITION. Plane states and failover, and authority (chapter 04): declaring a plane failed and what every port then does, the vote, and entry into service. -/

namespace Sys2Proof.Machine

/-- FAIL_CAUSE codes of SWx_STAT. -/
def failFatalEcc : Nat := 1
def failHeartbeat : Nat := 2
def failSched : Nat := 3
def failSheepdog : Nat := 4
def failPower : Nat := 5
def failCommand : Nat := 6

/-- Page of the Ringmaster. -/
def rgmPage : Nat := 0x01C

namespace State

def updRgm (s : State) (f : RgmState → RgmState) : State := { s with rgm := f s.rgm }
def planeState (s : State) (p : Nat) : Nat := s.rd R.SW_STAT_STATE p
def frozen (s : State) : Bool := s.rd R.RGM_STAT_FROZEN == 1

/-- RGM_STAT as it reads (Table 4.19). -/
def rgmWord (s : State) : Nat :=
  s.planeState 0 + s.planeState 1 * 2 ^ 4 + s.rd R.RGM_STAT_AUTH * 2 ^ 8 + s.rd R.RGM_STAT_AUTH_VALID * 2 ^ 9 +
    s.rd R.RGM_STAT_PAIR_A * 2 ^ 12 + s.rd R.RGM_STAT_PAIR_B * 2 ^ 16 + s.rd R.RGM_STAT_FROZEN * 2 ^ 20 +
    s.rd R.RGM_STAT_MASKED * 2 ^ 24

/-- The argument of the Ringmaster's journal entries: RGM_STAT after the decision and RGM_EPOCH (Table 6.7). -/
def rgmArg (s : State) : Nat := s.rgmWord + s.rd R.RGM_EPOCH * 2 ^ 32

/-! ### Authority -/

/-- A plane takes authority: the epoch advances, and the planes' claims are settled (R159, R160). -/
def grant (s : State) (p : Nat) : State :=
  let s := [0, 1].foldl (fun (s : State) q => s.updPlane q (fun x => { x with claims := false }))
    (s.wr R.SW_STAT_STATE planeAuthority p)
  let s := (s.wr R.RGM_STAT_AUTH p).wr R.RGM_STAT_AUTH_VALID 1
  let s := s.wr R.RGM_EPOCH (s.rd R.RGM_EPOCH + 1)
  (s.irq (planePage p) 2).irq rgmPage 1

/-- A plane no longer holds authority. -/
def loseAuth (s : State) (p : Nat) : State := s.irq (planePage p) 3

/-- Authority passes to no plane: the epoch stays (R159). -/
def noAuth (s : State) : State := (s.wr R.RGM_STAT_AUTH_VALID 0).irq rgmPage 1

/-- Commits that are under way are granted anew under the current epoch (R49, R159). -/
def regrant (s : State) : State :=
  { s with tun := { s.tun with commitEpoch := s.rd R.RGM_EPOCH }, mcg := { s.mcg with epoch := s.rd R.RGM_EPOCH } }

/-- After the authority plane left service, authority passes to the other plane when that is in service (Table 4.7), which completes a commit under way (R49). -/
def passAuth (s : State) (p : Nat) : State :=
  let s := s.loseAuth p
  if s.inService (1 - p) then (s.grant (1 - p)).regrant else s.noAuth

/-- Authority goes from the plane that holds it to the other, which is STANDBY (RGM_CMD HANDOVER). -/
def handover (s : State) : State :=
  let p := s.authPlane
  if s.rd R.RGM_STAT_AUTH_VALID = 1 ∧ s.planeState (1 - p) = planeStandby then
    ((s.wr R.SW_STAT_STATE planeStandby p).loseAuth p).grant (1 - p)
  else s

/-- A map or group commit is in progress. -/
def committing (s : State) : Bool := s.rd R.TMAP_STAT_BUSY == 1 || s.rd R.SW_MCG_STAT_BUSY 0 == 1

/-- A HANDOVER that waited for a commit is carried out once no commit is in progress (R165), unless the Ringmaster has frozen (R157). -/
def afterCommit (s : State) : State :=
  if s.rgm.handoverWaits && !s.committing && !s.frozen then (s.updRgm (fun r => { r with handoverWaits := false })).handover else s

/-! ### What a failure does to the ports (R152) -/

/-- A unit of plane `p` is a FENCE whose copy has arrived at egress queue `q` (R25, R152). -/
def arrivedAt (s : State) (p : Nat) (u : PUnit) (q : Nat) : Bool :=
  u.kind == kindFence && (s.fenceOf q u.tid u.seq).any (fun f => f.copies.contains p)

/-- Unit `h` of a failed plane that the egress queue `q` still holds: a FENCE copy that has arrived there (R25, R152). -/
def keptCopy (s : State) (p h q : Nat) : Bool := ((s.plane p).units.get none h).any (fun u => s.arrivedAt p u q)

/-- The same for the queue of port `n` that the unit leads to. -/
def keptAt (s : State) (p h n : Nat) : Bool :=
  ((s.plane p).units.get none h).any (fun u => u.members.any (fun m => m.1 == n) && s.arrivedAt p u (u.queueAt n))

/-- An egress port drops what it holds of a unit read from plane `p`; a part-sent unit on a trunk ends with an abort cell of its level (R171, R580), and the duplicate-discard state goes back to what it was before the unit was selected. -/
def failEgressOne (s : State) (n p level : Nat) (x : Sending) : State :=
  if x.plane ≠ p ∨ s.keptAt p x.unit n = true then s
  else
    let s := if x.ddsKept then s.updTun (fun t => { t with dds := t.dds.set none (n * 32768 + x.origTid) x.ddsBefore }) else s
    if n < 16 ∧ 0 < x.sent then
      s.updLink n (fun l => { l with aborts := l.aborts ++ [(level,
        { lseq := 0, vc := x.vc, cont := true, kind := x.kind, plane := p, tid := x.tid, len := 0xFE, useq := x.seq,
          tsw := x.sent, payload := List.replicate 236 0 })] })
    else s

def failEgress (s : State) (p n : Nat) : State :=
  let stays := fun (q h : Nat) => q != p || s.keptAt p h n
  let t := (s.egress n).sending.foldl (fun (s : State) x => match x.2 with
    | some y => s.failEgressOne n p x.1 y
    | none => s) s
  t.updEgress n (fun e => { (e.keepHanded (fun h => stays h.plane h.unit)) with
    sending := e.sending.filter (fun x => x.2.any (fun y => stays y.plane y.unit)) })

/-- The fences go on without plane `p` (R25): a copy it owed is no longer awaited, a copy of it that has arrived stays. -/
def failFences (s : State) (p : Nat) : State :=
  s.updTun (fun t => { t with fences := t.fences.mapVals [] (fun _ l =>
    (l.map (fun f => { f with awaited := f.awaited.erase p }.settle)).filter (fun f => !f.over)) })

/-- A tunnel that the failure moves to the survivor (R19, R20). -/
def moveTunnel (s : State) (p : Nat) (x : Nat × Entry) : State :=
  let tid := x.1 % 32768
  let e := x.2
  let keeps := (e.policy == policyEither && e.ordered) || (decide (e.policy < policyEither) && e.fallback)
  if e.valid && keeps && s.homePlane tid e == p then
    s.updTun (fun t => { t with moved := t.moved.set 0 tid (2 - p) })
  else s

/-- Every cell held in a failed plane counts as discarded: its credit copy is given up (R128). -/
def failCredits (s : State) (p : Nat) : State :=
  ((s.plane p).units.filterMap (fun x => x.2)).foldl (fun s u => u.cells.foldl (fun s c => s.creditCopy c.2) s) s

/-- The units that a plane held are lost, except FENCE copies at the egress queues where they have arrived, which no longer hold a cell of it (R152, R153); its buffer is emptied when it next enters service (R155). -/
def loseUnits (s : State) (p : Nat) : State :=
  let left := fun (u : PUnit) => u.members.filter (fun m => s.arrivedAt p u m.2)
  s.updPlane p (fun x => { x with
    units := x.units.mapVals none (fun _ u => (u.filter (fun y => !(left y).isEmpty)).map (fun y =>
      { y with cells := [], members := left y })),
    queues := x.queues.mapVals [] (fun q l => l.filter (fun e => s.keptCopy p e.unit q)),
    voq := [], xfer := [], carousel := [], park := [], stall := 0, sweeping := false })

/-- Open units of a trunk that were being entered into a failed plane go on in the other plane, or are discarded (R152). -/
def failOpens (s : State) (p n : Nat) : State :=
  s.updLink n (fun l => { l with opens := l.opens.map (fun x =>
    (x.1, x.2.map (fun u => { u with planes := u.planes.filter (fun ph => ph.1 != p) }))) })

/-- The pairs of level 4 that a port has a part-sent unit of plane `p` from. -/
def partPairs (s : State) (p n : Nat) : List Nat :=
  (s.egress n).sending.filterMap (fun x => if x.1 = 4 then x.2.bind (fun y =>
    if y.plane = p && !s.keptAt p y.unit n then y.queue else none) else none)

/-- The head of every pair that had units in a failed plane may have changed (R187): behind a part-sent unit that ends here (`sent`) it is the next head, elsewhere it takes the rule of an empty pair. -/
def failTags (s : State) (sent qs : List Nat) : State :=
  qs.foldl (fun s q => s.tagHead q false) (sent.foldl (fun s q => s.tagHead q true) s)

/-- Within 500 ns every ingress point and egress port is told (R152). -/
def tellFailure (s : State) (p : Nat) : State :=
  let heads := (s.plane p).queues.map Prod.fst ++ s.tun.fences.map (fun (x : Nat × List FenceState) => x.1 / 32768)
  let s := s.failFences p
  let sent := (List.range 24).flatMap (s.partPairs p)
  let s := (List.range 24).foldl (fun s n => s.failEgress p n) s
  let s := (List.range 16).foldl (fun s n => s.failOpens p n) s
  let s := ((s.failCredits p).loseUnits p).failTags sent heads
  let s := if s.inService (1 - p) then
      (s.tun.map.filter (fun x => x.1 / 32768 == 1 - p)).foldl (fun s x => s.moveTunnel p x) s
    else s
  s.bridgePlaneFailed p

/-- Missed heartbeats have declared the plane failed in this cycle (Table 4.9). -/
def heartbeatFailed (s : State) (p : Nat) : Bool :=
  s.planeState p == planeFailed && (s.plane p).failedAt == s.hw && s.rd R.SW_STAT_FAIL_CAUSE p == failHeartbeat

/-- The Ringmaster declares a plane failed (R151): a plane in service or restarting; a frozen Ringmaster declares nothing (DEDUCED, log 21). A fault reported in the cycle in which missed heartbeats declared the plane failed gives the one failure its cause (Table 4.9). -/
def declareFailed (s : State) (p cause : Nat) : State :=
  let st := s.planeState p
  if s.heartbeatFailed p ∧ (cause = failFatalEcc ∨ cause = failSched) then s.wr R.SW_STAT_FAIL_CAUSE cause p
  else if s.frozen ∨ (st ≠ planeRestarting ∧ st ≠ planeStandby ∧ st ≠ planeAuthority) then s
  else
    let s := s.updPlane p (fun x => { x with failedAt := s.hw })
    let s := (s.wr R.SW_STAT_STATE (if cause = failCommand then planeOff else planeFailed) p).wr R.SW_STAT_FAIL_CAUSE cause p
    let s := (s.updPlane p (fun x => { x with claims := false, mayClaim := true })).updPlane (1 - p) (fun x => { x with mayClaim := true })
    let s := if st = planeAuthority then s.passAuth p else s
    let s := (s.irq (planePage p) 0).bump R.RGM_FAILOVER_CNT
    let s := s.event rgmPage 0 s.rgmArg
    s.tellFailure p

/-! ### Restart and entry into service -/

/-- Automatic restarts within the last hour. -/
def recentRestarts (s : State) (p : Nat) : List Nat :=
  (s.plane p).restarts.filter (fun t => decide (s.hw < t + 3600000000000))

/-- Step 1 of R155: the plane empties its buffer, queues, Carousels and sampler state. -/
def emptyPlane (s : State) (p : Nat) : State :=
  let s := (s.loseUnits p).updPlane p (fun x => { x with
    cells := [], protUsed := 0, sharedUsed := 0, byPort := [], reserved := [], freeUpset := 0, swept := false, mismatched := false })
  let s := s.updSch (fun x => { x with
    samples := x.samples.eraseIf (fun k => k / 4096 == p), next := x.next.set 0 p 0 })
  (s.wr R.SW_SDG_STAT_SWEEPS 0 p).wr R.SW_SDG_STAT_CELL 0 p

/-- A plane begins a restart or an entry from OFF. -/
def beginRestart (s : State) (p : Nat) : State := (s.wr R.SW_STAT_STATE planeRestarting p).emptyPlane p

/-- Step 2 of R155: the map copy and the groups are reloaded from the plane in service. -/
def reload (s : State) (p : Nat) : State :=
  if s.inService (1 - p) then
    let o := 1 - p
    let s := s.updTun (fun t => { t with
      map := (t.map.eraseIf (fun k => k / 32768 == p)) |> fun m =>
        (t.map.filter (fun x => x.1 / 32768 == o)).foldl (fun m x => m.set {} (p * 32768 + x.1 % 32768) x.2) m,
      ecc := t.ecc.eraseIf (fun k => k / 32768 == p) })
    s.updPlane p (fun x => { x with mcg := (s.plane o).mcg })
  else s

/-- Step 3 of R155: the plane reserves for every link in UP, in trunk order; a link it cannot reserve for goes to HALT. -/
def reserveLinks (s : State) (p : Nat) : State :=
  ((List.range 16).filter (fun n => s.linkState n == linkUp)).foldl (fun s n =>
    let r := s.reserve p n (s.link n).reserved.sum
    if r.2 then r.1 else r.1.linkToHalt n causeNoBuffer) s

/-- The plane enters service as STANDBY (R155), and claims authority while no plane holds it; the vote is decided at the end of the cycle (Table 4.7, R158; DEDUCED, log 123). -/
def enterService (s : State) (p : Nat) : State :=
  if s.planeState p ≠ planeRestarting ∨ s.frozen then s
  else
    let s := s.updPlane p (fun x => { x with
      trkMax := s.rd R.SW_BUFCFG_TRK_RSV_MAX p, protMax := s.rd R.SW_BUFCFG_PROT_RSV p })
    let s := ((s.reload p).reserveLinks p).wr R.SW_STAT_STATE planeStandby p
    let s := s.irq (planePage p) 1
    s.updPlane p (fun x => { x with claims := s.rd R.RGM_STAT_AUTH_VALID == 0 })

end State

/-- PLANE_FATAL_ERROR (R135). -/
def execPlaneFatalError (p : Nat) (s : State) : Host.Outcome State Fault Refusal :=
  guardedIn (4 + p) s (decide (p < 2)) (s.begin.declareFailed p failFatalEcc)

/-- PLANE_POWER_LOST (R151). -/
def execPlanePowerLost (p : Nat) (s : State) : Host.Outcome State Fault Refusal :=
  guardedIn 0 s (decide (p < 2)) (s.begin.declareFailed p failPower)

/-- PLANE_HEARTBEAT_MISS (R151): the plane has missed `missed` heartbeats in a row; HB_MISS of them declare it failed. -/
def execPlaneHeartbeatMiss (p missed : Nat) (s : State) : Host.Outcome State Fault Refusal :=
  guardedIn 0 s (decide (p < 2))
    (let s := s.begin
     if s.inService p ∧ s.rd R.SW_CFG_HB_MISS p ≤ missed then s.declareFailed p failHeartbeat else s)

/-- PLANE_DISABLE (R154): a write of SWx_CFG with EN 0. -/
def execPlaneDisable (path p data : Nat) (s : State) : Host.Outcome State Fault Refusal :=
  guarded (decide (path < 8) && decide (p < 2))
    (s.begin.gateWrite path (planePage p * 4096 + 0x40) data (fun s =>
      let s := s.store path (planePage p * 4096 + 0x40) data [R.SW_CFG_AUTO_RESTART, R.SW_CFG_RESTART_MAX, R.SW_CFG_HB_MISS] p
      let s := s.wr R.SW_CFG_EN 0 p
      if s.inService p then s.declareFailed p failCommand
      else if s.frozen then s
      else s.wr R.SW_STAT_STATE planeOff p))

/-- PLANE_ENABLE (R155): a write of SWx_CFG with EN 1. -/
def execPlaneEnable (path p data : Nat) (s : State) : Host.Outcome State Fault Refusal :=
  guarded (decide (path < 8) && decide (p < 2))
    (s.begin.gateWrite path (planePage p * 4096 + 0x40) data (fun s =>
      let s := s.store path (planePage p * 4096 + 0x40) data [R.SW_CFG_AUTO_RESTART, R.SW_CFG_RESTART_MAX, R.SW_CFG_HB_MISS] p
      let s := s.wr R.SW_CFG_EN 1 p
      if s.planeState p = planeOff then s.beginRestart p else s))

/-- PLANE_RESTART_BEGIN (R154): every port has been told, and AUTO_RESTART is 1 with its hourly limit not reached. -/
def execPlaneRestartBegin (p : Nat) (s : State) : Host.Outcome State Fault Refusal :=
  guardedIn (4 + p) s (decide (p < 2))
    (let s := s.begin
     let recent := s.recentRestarts p
     if s.planeState p = planeFailed ∧ s.rd R.SW_CFG_AUTO_RESTART p = 1 ∧ s.rd R.SW_CFG_EN p = 1 ∧
         recent.length < s.rd R.SW_CFG_RESTART_MAX p then
       (s.updPlane p (fun x => { x with restarts := recent ++ [s.hw] })).beginRestart p
     else s)

/-- PLANE_RESTART_CMD (R154, Table 4.12): SWx_CMD RESTART, refused with LAST_PLANE while the other plane is not in service, and before that with BAD_STATE where the plane is not FAILED (DEDUCED, log 144). -/
def execPlaneRestartCmd (path p : Nat) (s : State) : Host.Outcome State Fault Refusal :=
  guarded (decide (path < 8) && decide (p < 2))
    (s.begin.gateWrite path (planePage p * 4096 + 0x44) 1 (fun s =>
      if s.planeState p ≠ planeFailed ∨ s.rd R.SW_CFG_EN p = 0 then s.wr R.SW_STAT_CMD_RESULT 2 p
      else if s.inService (1 - p) then (s.wr R.SW_STAT_CMD_RESULT 0 p).beginRestart p
      else s.wr R.SW_STAT_CMD_RESULT 1 p))

/-- PLANE_ENTER_SERVICE (R155). -/
def execPlaneEnterService (p : Nat) (s : State) : Host.Outcome State Fault Refusal :=
  guardedIn (4 + p) s (decide (p < 2)) (s.begin.enterService p)

end Sys2Proof.Machine
end

