-- ==== Sys2Proof/Machine/Link.lean ====
section
/-! DEFINITION. The link layer's receiver, acknowledgement, credits, capability exchange and link states (chapter 02). -/

namespace Sys2Proof.Machine

namespace State

/-- The link carries traffic: UP, or finishing in DRAIN. -/
def linkRuns (s : State) (n : Nat) : Bool := s.linkState n == linkUp || s.linkState n == linkDrain

/-- The agreed VC count of a link that runs. -/
def agreedVcs (s : State) (n : Nat) : Nat := (s.link n).reserved.length

/-! ### Blocks on the lanes (R102, R103) -/

/-- The position that a transmit lane carries: 0 P0, 1 P1, 3 none (Table 3.1). No lane carries one in TRAIN, before ASSIGN binds them (DEDUCED, log 125). -/
def txPosition (s : State) (n lane : Nat) : Nat :=
  if s.linkState n = linkTrain then 3
  else if s.rd R.TRK_LANETX_P0_LANE n = lane then 0 else if s.rd R.TRK_LANETX_P1_LANE n = lane then 1 else 3

/-- Positions in use in either direction. -/
def linkWidth (s : State) (n : Nat) : Nat := max 1 (s.rd R.TRK_LANESTAT_WIDTH n)

/-- The ALIGN block goes out on every lane at once, on one without a position with POS 3 (R103, R108), after block `after` of the cell put out last when that is not 0. MCNT counts from 0 (DESIGN CHOICE, log 125); BIP-8 is taken over scrambled blocks and is a free value (log 125). -/
def sendAlign (s : State) (n : Nat) (after : Nat := 0) : State :=
  let s := [0, 1, 2].foldl (fun (s : State) lane =>
    let b : Ctl := .align lane (s.txPosition n lane) (s.link n).mcnt (s.freeNat % 256)
    (s.emit (if after = 0 then .laneCtl n lane b else .laneCtlIn n lane after b)).tookFree) s
  s.updLink n (fun l => { l with mcnt := (l.mcnt + 1) % 65536 })

/-- `k` PRBS31 data blocks go out on each lane that carries no position (R105, R108). -/
def sendPrbs (s : State) (n k : Nat) : State :=
  if k = 0 then s
  else ([0, 1, 2].filter (fun lane => s.txPosition n lane == 3)).foldl (fun (s : State) lane => s.emit (.prbs n lane k)) s

/-- `k` more blocks have gone out over the positions together; after exactly 4,095 on each lane an ALIGN stands, within a cell if need be (R103). With `prbs` a lane without a position has sent as many PRBS31 blocks in step (R108). -/
def passBlocks (s : State) (n k : Nat) (prbs : Bool) : State :=
  let w := s.linkWidth n
  let old := (s.link n).laneRun
  let run := old + k
  let due := 4095 * w
  let fill := fun (x : Nat) => if prbs then x else 0
  if run < due then (s.updLink n (fun l => { l with laneRun := run })).sendPrbs n (fill (run / w - old / w))
  else
    (((s.updLink n (fun l => { l with laneRun := run - due })).sendPrbs n (fill (4095 - old / w))).sendAlign n
      (if due - old < k then due - old else 0)).sendPrbs n (fill ((run - due) / w))

/-- `k` blocks have gone out on the positions, and PRBS31 blocks on the other lanes. -/
def ranBlocks (s : State) (n k : Nat) : State := s.passBlocks n k true

/-- `k` blocks of the link have been sent: 32 for a cell, 1 for a control block (R102). -/
def sentBlocks (s : State) (n k : Nat) : State := (s.updLink n (fun l => { l with blocks := l.blocks + k })).ranBlocks n k

/-- A lane-layer block goes out on every lane at one block index (R115, R116); an ALIGN due at it has gone first (Table 3.4). -/
def sendOnLanes (s : State) (n : Nat) (b : Ctl) : State :=
  ([0, 1, 2].foldl (fun (s : State) lane => s.emit (.laneCtl n lane b)) s).passBlocks n (s.linkWidth n) false

/-! ### Acknowledgement -/

/-- CUM: every sequence up to and including it has been received. -/
def cum (s : State) (n : Nat) : Nat := ((s.link n).ne + 65535) % 65536

/-- A hole is open at the receiver (R76, R77). -/
def holeOpen (s : State) (n : Nat) : Bool := (s.link n).highest != s.cum n || (s.link n).damagedAfter

/-- An ACK is triggered: the count starts again, and the timer re-arms while a hole is open (R76). One that has sent no block yet serves for this trigger too, since it takes the state at its departure. -/
def ackTrigger (s : State) (n : Nat) : State :=
  s.updLink n (fun l => { l with
    acks := if l.acks.getLast? = some 0 then l.acks else l.acks ++ [0], ackCells := 0, ackArmed := s.holeOpen n })

/-- A cell that was accepted, held or damaged counts toward the trigger (R76). -/
def ackCount (s : State) (n : Nat) : State :=
  let s := s.updLink n (fun l => { l with ackCells := l.ackCells + 1, ackArmed := true })
  if s.rd R.TRK_LCFG_ACK_CELLS n ≤ (s.link n).ackCells then s.ackTrigger n else s

/-- Offsets from CUM + 1 of the sequences that are missing (R77). -/
def missing (s : State) (n : Nat) : List Nat :=
  let l := s.link n
  let span := dist16 (s.cum n) l.highest + (if l.damagedAfter then 1 else 0)
  (List.range span).filter (fun i => (l.landing.get none ((l.ne + i) % 65536)).isNone)

/-- The ACK blocks that carry the receiver's state (R77). -/
def ackBlocks (s : State) (n : Nat) : List Ctl :=
  let m := s.missing n
  let last := m.getLast?.getD 0
  (List.range (last / 24 + 1)).map (fun k =>
    .ack (s.cum n) (24 * k) ((m.filter (fun i => i / 24 == k)).map (fun i => 2 ^ (i % 24))).sum)

/-! ### Cells into the planes -/

def openUnit (s : State) (n v : Nat) : Option OpenUnit := (s.link n).opens.get none v
def setOpen (s : State) (n v : Nat) (u : Option OpenUnit) : State :=
  s.updLink n (fun l => { l with opens := l.opens.set none v u })

/-- The payload bytes that a cell carries (Table 2.2, LEN). -/
def cellBytes (c : Cell) : List Byte := c.payload.take (if c.len = 0xFF then 236 else c.len)

/-- LEN is invalid (Table 2.2). -/
def badLen (c : Cell) : Bool := decide (0xEC < c.len) && c.len != 0xFF && !(c.len == 0xFE && c.cont)

/-- A cell gives up its credit at once, when its VC is an agreed one. -/
def giveUp (s : State) (n v : Nat) : State := if v < s.agreedVcs n then s.creditReturn n v else s

/-- Discards the unit open on a VC in every plane it was entering. -/
def dropOpen (s : State) (n v : Nat) : State :=
  match s.openUnit n v with
  | none => s
  | some u => (u.planes.foldl (fun s ph => s.discardOpen ph.1 ph.2) s).setOpen n v none

/-- A framing error: the cell and the unit open on its VC are discarded (R64). -/
def framingError (s : State) (n : Nat) (c : Cell) (oversize : Bool) : State :=
  let s := (s.dropOpen n c.vc).giveUp n c.vc
  let s := (s.bump R.TRK_FRAME_ERR n).irq (trunkPage n) 6
  if oversize then (s.bump R.TMAP_OVERSIZE_CNT).bump R.TRK_OVERSIZE n else s

/-- A continuation cell continues the unit open on its VC. -/
def continues (u : OpenUnit) (c : Cell) : Bool :=
  u.tid == c.tid && u.kind == c.kind && u.useq == c.useq && c.tsw % 128 == u.cidx + 1

/-- Takes the next credit record for a cell with `k` copies (R128). -/
def creditRecord (s : State) (n v k : Nat) : State × Nat :=
  let id := s.sch.nextCredit
  (s.updSch (fun x => { x with nextCredit := id + 1, credits := x.credits.set none id (some (n, v, k)) }), id)

/-- The unit open on a VC, as a discarded one: its later cells give up their credit one by one. -/
def closeOrKeep (s : State) (n : Nat) (c : Cell) (u : OpenUnit) : State :=
  s.setOpen n c.vc (if c.len = 0xFF then some u else none)

/-- The first cell of a unit: looked up, stamped, and entered in each plane its policy names (R33, R40, R127). -/
def firstCell (s : State) (n : Nat) (c : Cell) (arrival : Nat) : State :=
  let u : OpenUnit := ⟨c.tid, c.kind, c.useq, 0, (cellBytes c).length, none, []⟩
  if kindReserved c.kind then ((s.reservedKind c.tid).giveUp n c.vc).closeOrKeep n c u
  else
    match s.lookup c.tid with
    | (s, none) => (s.giveUp n c.vc).closeOrKeep n c u
    | (s, some e) =>
      let r := if c.len = 0xFF then (s, Colour.green) else s.police e 1
      if r.2 = Colour.red then (r.1.giveUp n c.vc).closeOrKeep n c u
      else
        let s := r.1
        let u := { u with entry := some e }
        let ps := s.choosePlanes c.tid c.kind e n
        if ps.isEmpty then ((s.noPlane c.tid e).giveUp n c.vc).closeOrKeep n c u
        else
          let w : Waiting := ⟨c.tid, c.kind, c.useq, s.trunkTsw n e c.tsw arrival, e, s.tun.lookups, cellBytes c, false⟩
          let id := s.sch.nextCredit
          let r := ps.foldl (fun (r : State × List (Nat × Nat)) p =>
            let x := r.1.enterPlane p w n 1 0 true (c.len != 0xFF) id
            (x.1, r.2 ++ (x.2.map (fun h => (p, h))).toList)) (s, [])
          let s := if r.2.isEmpty then r.1.giveUp n c.vc else (r.1.creditRecord n c.vc r.2.length).1
          s.closeOrKeep n c { u with planes := r.2 }

/-- A later cell of the open unit (R64, R127); the unit is policed once its last cell shows its cell count (R192; DEDUCED, log 14). -/
def nextCell (s : State) (n : Nat) (c : Cell) (u : OpenUnit) : State :=
  let bs := cellBytes c
  let u := { u with cidx := u.cidx + 1, bytes := u.bytes + bs.length }
  let last := c.len != 0xFF
  let s := match u.planes with
    | [] => s.giveUp n c.vc
    | ps =>
      let r := s.creditRecord n c.vc ps.length
      ps.foldl (fun s (ph : Nat × Nat) => s.addCell ph.1 ph.2 n bs last r.2) r.1
  let s := s.closeOrKeep n c u
  if last then
    match u.entry with
    | none => s
    | some e =>
      let r := s.police e (u.cidx + 1)
      if r.2 = Colour.red then u.planes.foldl (fun s ph => s.discardOpen ph.1 ph.2) r.1 else r.1
  else s

/-- A cell released from the landing buffer: an abort cell, a framing error, or the unit's next cell (R64, R69, R580). -/
def releaseCell (s : State) (n : Nat) (c : Cell) (arrival : Nat) : State :=
  let s := (s.bump R.TRK_RX_CELLS n).tally (0x020 + n)
  if s.agreedVcs n ≤ c.vc ∨ badLen c ∨ (c.cont ∧ 69 < c.tsw % 128) then
    s.framingError n c (c.cont && decide (69 < c.tsw % 128))
  else
    match s.openUnit n c.vc, c.cont with
    | none, false => s.firstCell n c arrival
    | some u, true =>
      if continues u c then
        if c.len = 0xFE then ((s.dropOpen n c.vc).giveUp n c.vc).bump R.TRK_ABORT_RX n
        else if 16384 < u.bytes + (cellBytes c).length then s.framingError n c true
        else s.nextCell n c u
      else s.framingError n c false
    | _, _ => s.framingError n c false

/-- Releases the cells that now follow in order; `fuel` bounds them by the landing buffer. -/
def releaseRun (s : State) (n : Nat) : Nat → State
  | 0 => s
  | fuel + 1 =>
    let l := s.link n
    match l.landing.get none l.ne with
    | none => s
    | some c =>
      releaseRun ((s.setLink n { l with ne := (l.ne + 1) % 65536, landing := l.landing.set none l.ne none }).releaseCell n c.1 c.2)
        n fuel

/-- Highest sequence received (R77). -/
def noteSeq (s : State) (n sq : Nat) : State :=
  s.updLink n (fun l =>
    let d := dist16 l.highest sq
    if 1 ≤ d ∧ d ≤ 32767 then { l with highest := sq, damagedAfter := false } else l)

/-- The last cell that the failure behind a reactive substitution damaged, once it shows: the last sequence missing when no damaged cell stands behind the highest received; CUM itself when none is missing (R118; DEDUCED, log 128). -/
def noteSubstEnd (s : State) (n : Nat) : State :=
  let l := s.link n
  if l.substEnd.isSome || l.damagedAfter then s
  else s.setLink n { l with substEnd := some (((s.missing n).getLast?.map (fun i => (l.ne + i) % 65536)).getD (s.cum n)) }

/-- After its SWITCH, the interruption of a reactive substitution ends with CUM's passing the last cell that the failure damaged (R118). -/
def substEnds (s : State) (n : Nat) : State :=
  match (s.link n).substFrom, (s.link n).subst with
  | some t, none =>
    let s := s.noteSubstEnd n
    match (s.link n).substEnd with
    | some e =>
      if dist16 e (s.cum n) < 32768 then
        (s.keepMax R.TRK_SUBST_MAX (s.hw - t) n).updLink n (fun l => { l with substFrom := none, substEnd := none })
      else s
    | none => s
  | _, _ => s

/-- A cell is accepted in order: it and those behind it are released, and the longest replay is kept (TRK_REPLAY_MAX). -/
def acceptCell (s : State) (n : Nat) (c : Cell) (arrival : Nat) : State :=
  let s := s.noteSeq n c.lseq
  let s := match (s.link n).damagedAt with
    | some t => s.keepMax R.TRK_REPLAY_MAX (s.hw - t) n
    | none => s
  let s := s.updLink n (fun l => { l with ne := (l.ne + 1) % 65536 })
  let s := (s.releaseCell n c arrival).releaseRun n 256
  (if s.holeOpen n then s else s.updLink n (fun l => { l with damagedAt := none })).substEnds n

/-- A duplicate (R68). -/
def duplicate (s : State) (n : Nat) : State := (s.bump R.TRK_DUP_RX n).ackTrigger n

/-- A cell that arrives undamaged (R68). -/
def cellIn (s : State) (n : Nat) (c : Cell) (arrival : Nat) : State :=
  let l := s.link n
  let d := dist16 l.ne c.lseq
  if d = 0 then (s.acceptCell n c arrival).ackCount n
  else if d < 256 then
    if (l.landing.get none c.lseq).isSome then s.duplicate n
    else (((s.noteSeq n c.lseq).updLink n (fun l => { l with landing := l.landing.set none c.lseq (some (c, arrival)) })).substEnds n).ackCount n
  else if 65280 ≤ d then s.duplicate n
  else (s.bump R.TRK_SEQ_ERR n).irq (trunkPage n) 7

/-- A damaged cell (R59, R62, R77). -/
def cellDamaged (s : State) (n : Nat) : State :=
  let s := (s.bump R.TRK_CRC_ERR n).tally (0x030 + n)
  (s.updLink n (fun l => { l with damagedAfter := true, damagedAt := some (l.damagedAt.getD s.hw) })).ackCount n

/-! ### The transmitter's side of acknowledgement and credit -/

/-- O, the oldest unacknowledged sequence. -/
def oldest (s : State) (n : Nat) : Nat :=
  match (s.link n).replay with
  | [] => (s.link n).x
  | r :: _ => r.seq

/-- Sequences that a MAP names (R72). -/
def mapSeqs (cumv base map : Nat) : List Nat :=
  ((List.range 24).filter (fun i => map.testBit i)).map (fun i => (cumv + 1 + base + i) % 65536)

/-- CUM advances in the cycle in which the replay timer has expired: the expiry is taken back (Table 2.7). -/
def undoExpiry (s : State) (n : Nat) : State :=
  match (s.link n).expiry with
  | none => s
  | some e =>
    if e.time = s.hw then
      let s := (s.wr R.TRK_RPL_TMO e.count n).wr (irqField 4) e.bit (trunkPage n)
      s.updLink n (fun l => { l with expiry := none, resend := if e.listed then l.resend else l.resend.filter (· ≠ e.seq) })
    else s

/-- A replay timer expires (R74): counted, flagged, and the oldest outstanding cell waits to be resent. What stood before is kept until the cycle ends, since an advance of CUM in that cycle goes first (Table 2.7). -/
def replayExpires (s : State) (n : Nat) : State :=
  let l := s.link n
  let q := s.oldest n
  let e : Expiry := ⟨s.hw, s.rd R.TRK_RPL_TMO n, s.rd (irqField 4) (trunkPage n), q, l.resend.contains q⟩
  ((s.bump R.TRK_RPL_TMO n).irq (trunkPage n) 4).updLink n (fun l => { l with
    expiries := l.expiries + 1, resend := q :: l.resend.filter (· ≠ q), expiry := some e })

/-- The cycle of an expiry ends: when it was the last that REPLAY_LIMIT allows, the link leaves UP (R74). In DRAIN too it takes the link to DOWN with cause REPLAY_LIMIT (DESIGN CHOICE, log 126). -/
def expiryStands (s : State) (n : Nat) : State :=
  if (s.link n).expiry.isNone then s
  else
    let s := s.updLink n (fun l => { l with expiry := none })
    if s.linkRuns n ∧ s.rd R.TRK_LCFG_REPLAY_LIMIT n ≤ (s.link n).expiries then s.linkToDown n causeReplayLimit else s

/-- A valid ACK block frees entries up to CUM and resends what it names (R72, R74). -/
def ackTake (s : State) (n cumv base map : Nat) : State :=
  let l := s.link n
  let before := (s.oldest n + 65535) % 65536
  let k := dist16 before cumv
  let left := l.replay.filter (fun r => decide (k < dist16 before r.seq))
  let hold := s.rd R.TRK_HOLDOFF n
  let due := (mapSeqs cumv base map).filter (fun q =>
    left.any (fun r => r.seq == q && (match r.resentAt with
      | some t => decide (t + hold ≤ s.hw)
      | none => true)) && !l.resend.contains q)
  let s := if k = 0 then s else s.undoExpiry n
  let s := s.updLink n (fun l => { l with
    replay := left, expiries := if k = 0 then l.expiries else 0, cumAt := if k = 0 then l.cumAt else some s.hw,
    resend := l.resend.filter (fun q => left.any (fun r => r.seq == q)) ++ due })
  let s := if map = 0 then s else s.bump R.TRK_NAK_RX n
  s.drained n

/-- An ACK block arrives (R71, R72). -/
def ackIn (s : State) (n cumv base map : Nat) : State :=
  let before := (s.oldest n + 65535) % 65536
  if dist16 before cumv ≤ dist16 before (((s.link n).x + 65535) % 65536) then s.ackTake n cumv base map
  else s.bump R.TRK_ACK_ERR n

/-- A CREDIT block arrives (R83). -/
def creditIn (s : State) (n v limit : Nat) : State :=
  let l := s.link n
  if v < s.agreedVcs n ∧ dist24 (l.limit.get 0 v) limit ≤ 8388607 then
    s.setLink n { l with limit := l.limit.set 0 v (limit % 2 ^ 24) }
  else s.bump R.TRK_STALE_CRED n

/-! ### Capability exchange and link states -/

/-- The link enters CAP. -/
def enterCap (s : State) (n : Nat) : State :=
  (s.wr R.TRK_LSTAT_STATE linkCap n).updLink n (fun l => { l with
    blocks := 0, laneRun := 0, offer := some (s.ownTerms n), capSeen := false, capSentSeen := false, capLeft := 0, step := 0, retryWait := false })

/-- The check that two ends' terms fail, as a cause (R89). -/
def capFault (own peer : CapTerms) : Option Nat :=
  if peer.maj ≠ 2 ∨ own.maj ≠ 2 then some causeVersion
  else if peer.maxVcs < 2 ∨ 8 < peer.maxVcs then some causeVersion
  else if own.role = 1 ∧ peer.role = 1 then some causeRole
  else if peer.nodeId = own.nodeId then some causeLoop
  else none

/-- 1 when both ends send MIN of 1 or more with ORIGIN_TS set (R89). -/
def agreedV21 (own peer : CapTerms) : Nat :=
  if 1 ≤ own.min ∧ 1 ≤ peer.min ∧ own.caps.testBit 0 ∧ peer.caps.testBit 0 then 1 else 0

/-- LSTAT and PEER_ID show the last valid peer CAP block. -/
def notePeer (s : State) (n : Nat) (t : CapTerms) : State :=
  let s := ((s.wr R.TRK_LSTAT_PEER_ROLE t.role n).wr R.TRK_LSTAT_PEER_MIN t.min n).wr R.TRK_LSTAT_PEER_MAJ t.maj n
  (s.wr R.TRK_PEER_ID t.nodeId n).updLink n (fun l => { l with peer := some t })

/-- A valid CAP block arrives (R86, R88, R89). One with SEEN 1 in UP, which the link ignores, is still the last valid CAP block that LSTAT and TRK_PEER_ID show (DESIGN CHOICE, log 146). -/
def capIn (s : State) (n : Nat) (t : CapTerms) : State :=
  let st := s.linkState n
  if st = linkCap then
    let own := s.offered n
    let s := (s.notePeer n t).updLink n (fun l => { l with capSeen := true })
    match capFault own t with
    | some c => s.linkToHalt n c
    | none =>
      if t.seen && (s.link n).capSentSeen then s.enterUp n (min own.maxVcs t.maxVcs) (agreedV21 own t) else s
  else if st = linkUp then
    let s := s.notePeer n t
    if t.seen then s else s.linkToDown n causePeerReset
  else s

/-- The link enters TRAIN at step SEAT (R105); it stays DOWN while its trunk group is off or the trunks are shut for P3 or P4. -/
def enterTrain (s : State) (n : Nat) : State :=
  if s.pwr.shut || !s.domainRuns (6 + n / 4) then s.updLink n (fun l => { l with dwelt := true })
  else
  (s.wr R.TRK_LSTAT_STATE linkTrain n).updLink n (fun l => { l with
    step := 1, retryWait := false, passRx := 0, passTx := 0,
    trainRate := if s.pwr.quiet then 0 else s.rd R.TRK_LANECFG_MAX_RATE n,
    trainWidth := if s.pwr.quiet then 1 else s.rd R.TRK_LANECFG_MAX_WIDTH n })

end State

/-- CELL_RECEIVED (R68): 32 data blocks arrive on a trunk, or fewer; `fault` when a block had an invalid sync header. -/
def execCellReceived (n lane : Nat) (raw : List Byte) (fault : Bool) (s : State) : Host.Outcome State Fault Refusal :=
  guardedIn (6 + n / 4) s (decide (n < 16) && decide (lane < 3))
    (let s := s.begin
     if !s.linkRuns n then s
     else
       match (if fault then none else decodeCell raw) with
       | none => s.cellDamaged n
       | some c => s.cellIn n c (s.rxTsw n lane))

/-- ACK_TIMER_EXPIRY (R76). -/
def execAckTimerExpiry (n : Nat) (s : State) : Host.Outcome State Fault Refusal :=
  guardedIn (6 + n / 4) s (decide (n < 16))
    (let s := s.begin
     if s.linkRuns n && (s.link n).ackArmed then s.ackTrigger n else s)

/-- ACK_RECEIVED (R72): a block with a good CRC, and TRK_RTT when the arrival completes its measurement. -/
def execAckReceived (n cumv base map : Nat) (rtt : Option Nat) (s : State) : Host.Outcome State Fault Refusal :=
  guardedIn (6 + n / 4) s (decide (n < 16) && decide (cumv < 65536) && decide (base < 256) && decide (map < 2 ^ 24))
    (let s := s.begin
     if !s.linkRuns n then s
     else
       let s := match rtt with
         | some t => s.wr R.TRK_RTT (min t 0xFFFF) n
         | none => s
       s.ackIn n cumv base map)

/-- REPLAY_TIMER_EXPIRY (R74): nothing happens where CUM has advanced in this cycle (Table 2.7); the last expiry of the limit takes the link out of UP when the cycle ends (State.expiryStands). -/
def execReplayTimerExpiry (n : Nat) (s : State) : Host.Outcome State Fault Refusal :=
  guardedIn (6 + n / 4) s (decide (n < 16))
    (let s := s.begin
     if !s.linkRuns n || (s.link n).replay.isEmpty || (s.link n).cumAt == some s.hw then s else s.replayExpires n)

/-- CREDIT_RECEIVED (R83). -/
def execCreditReceived (n v limit : Nat) (s : State) : Host.Outcome State Fault Refusal :=
  guardedIn (6 + n / 4) s (decide (n < 16) && decide (v < 8) && decide (limit < 2 ^ 24))
    (if s.linkRuns n then s.begin.creditIn n v limit else s.begin)

/-- CREDIT_REFRESH (R82). -/
def execCreditRefresh (n : Nat) (s : State) : Host.Outcome State Fault Refusal :=
  guardedIn (6 + n / 4) s (decide (n < 16))
    (let s := s.begin
     if s.linkRuns n then
       (List.range (s.agreedVcs n)).foldl (fun s v =>
         let l := s.link n
         (s.setLink n { l with rxSent := l.rxSent.set 0 v (l.rxLimit.get 0 v) }).readyCtl n (.credit v (l.rxLimit.get 0 v))) s
     else s)

/-- CTL_ERR (R65): eight bytes of a control block arrive; one that does not decode is discarded and counted. -/
def execCtlErr (n : Nat) (raw : List Byte) (s : State) : Host.Outcome State Fault Refusal :=
  guardedIn (6 + n / 4) s (decide (n < 16))
    (if (decodeCtl raw).isNone then (s.begin.bump R.TRK_CTL_ERR n).irq (trunkPage n) 8 else s.begin)

/-- CAP_BLOCK_SEND (R86). -/
def execCapBlockSend (n : Nat) (s : State) : Host.Outcome State Fault Refusal :=
  guardedIn (6 + n / 4) s (decide (n < 16))
    (let s := s.begin
     let l := s.link n
     if s.linkState n = linkCap then
       ((s.setLink n { l with capSentSeen := l.capSentSeen || l.capSeen }).emit
         (.ctl n (.cap { s.offered n with seen := l.capSeen }))).sentBlocks n 1
     else if s.linkState n = linkUp ∧ 0 < l.capLeft then
       ((s.setLink n { l with capLeft := l.capLeft - 1 }).emit (.ctl n (.cap { s.offered n with seen := true }))).sentBlocks n 1
     else s)

/-- CAP_RECEIVED (R86). -/
def execCapReceived (n : Nat) (t : CapTerms) (s : State) : Host.Outcome State Fault Refusal :=
  guardedIn (6 + n / 4) s (decide (n < 16)) (s.begin.capIn n t)

/-- CAP_TIMEOUT (R86). -/
def execCapTimeout (n : Nat) (s : State) : Host.Outcome State Fault Refusal :=
  guardedIn (6 + n / 4) s (decide (n < 16))
    (if s.linkState n = linkCap then s.begin.enterDown n causeCapTimeout else s.begin)

/-- LINK_DOWN_DWELL (R105): 1 ms has passed since entry to DOWN. -/
def execLinkDownDwell (n : Nat) (s : State) : Host.Outcome State Fault Refusal :=
  guardedIn (6 + n / 4) s (decide (n < 16))
    (let s := s.begin
     if s.linkState n = linkDown then
       if s.rd R.TRK_LCFG_EN n = 1 then s.enterTrain n else s.updLink n (fun l => { l with dwelt := true })
     else s)

/-- LINK_EN_WRITE (R96): a write of TRK_LCFG; EN 0 in UP drains the link, in any other state it takes the link to DOWN at once; from HALT the cause stays that of entering HALT (Table 2.10; DEDUCED, log 147). EN 1 while the lanes are in an alternate mode starts training and leaves ALTMODE as it is (DESIGN CHOICE, log 148). -/
def execLinkEnWrite (path n data : Nat) (s : State) : Host.Outcome State Fault Refusal :=
  guarded (decide (path < 8) && decide (n < 16))
    (s.begin.gateWrite path (trunkPage n * 4096 + 0x40) data (fun s =>
      let s := s.store path (trunkPage n * 4096 + 0x40) data
        [R.TRK_LCFG_EN, R.TRK_LCFG_ROLE, R.TRK_LCFG_ALLOW_V21, R.TRK_LCFG_MAX_VCS, R.TRK_LCFG_ACK_CELLS,
         R.TRK_LCFG_REPLAY_LIMIT] n
      let st := s.linkState n
      if s.rd R.TRK_LCFG_EN n = 1 then
        if st = linkDown ∧ (s.link n).dwelt then s.enterTrain n else s
      else if st = linkUp then (s.linkToDrain n).drained n
      else if st = linkDown then s
      else s.linkToDown n (if st = linkHalt then s.rd R.TRK_LSTAT_CAUSE n else causeDisabled)))

/-- LINK_DRAIN_TIMEOUT (R96). -/
def execLinkDrainTimeout (n : Nat) (s : State) : Host.Outcome State Fault Refusal :=
  guardedIn (6 + n / 4) s (decide (n < 16))
    (if s.linkState n = linkDrain then s.begin.linkToDown n causeDisabled else s.begin)

/-- LINK_RETRAIN (R97): TRK_LCMD RETRAIN takes the link to DOWN, and to TRAIN once EN is 1 and 1 ms has passed. -/
def execLinkRetrain (path n : Nat) (s : State) : Host.Outcome State Fault Refusal :=
  guarded (decide (path < 8) && decide (n < 16))
    (s.begin.gateWrite path (trunkPage n * 4096 + 0x44) 1 (fun s => s.linkToDown n causeRetrain))

end Sys2Proof.Machine
end

