-- ==== Sys2Proof/Machine/Lanes.lean ====
section
/-! DEFINITION. The lane layer (chapter 03): training, lane health, learning, substitution, requalification and the alternate modes. -/

namespace Sys2Proof.Machine

/-- First lane page of a trunk. -/
def lanePage (n : Nat) : Nat := trunkPage n + 2

/-- No lane, in a lane map. -/
def noLane : Nat := 3

namespace State

/-! ### Lane maps -/

/-- Lowest lane of a mask of three; 3 for none. -/
def lowLane (m : Nat) : Nat := if m.testBit 0 then 0 else if m.testBit 1 then 1 else if m.testBit 2 then 2 else noLane

/-- Writes the receive map. -/
def setRxMap (s : State) (n p0 p1 spare retired : Nat) : State :=
  let s := ((s.wr R.TRK_LANESTAT_P0_LANE p0 n).wr R.TRK_LANESTAT_P1_LANE p1 n).wr R.TRK_LANESTAT_SPARE_LANE spare n
  (s.wr R.TRK_LANESTAT_RETIRED_MASK retired n).wr R.TRK_LANESTAT_RETIRED_LANE (lowLane retired) n

/-- Writes the transmit map. -/
def setTxMap (s : State) (n p0 p1 spare retired : Nat) : State :=
  let s := ((s.wr R.TRK_LANETX_P0_LANE p0 n).wr R.TRK_LANETX_P1_LANE p1 n).wr R.TRK_LANETX_SPARE_LANE spare n
  (s.wr R.TRK_LANETX_RETIRED_MASK retired n).wr R.TRK_LANETX_RETIRED_LANE (lowLane retired) n

def rxSpare (s : State) (n : Nat) : Nat := s.rd R.TRK_LANESTAT_SPARE_LANE n

/-- A receive lane that carries a position. -/
def rxActive (s : State) (n lane : Nat) : Bool :=
  lane < 3 && (s.rd R.TRK_LANESTAT_P0_LANE n == lane || s.rd R.TRK_LANESTAT_P1_LANE n == lane)

def rxRetired (s : State) (n lane : Nat) : Bool := (s.rd R.TRK_LANESTAT_RETIRED_MASK n).testBit lane

/-! ### Training -/

/-- Lanes of a PASS mask in the order L0, L1, LS. -/
def passing (m : Nat) : List Nat := [0, 1, 2].filter m.testBit

/-- P0, P1, spare and retired lanes of one direction (R106). -/
def bindLanes (width pass : Nat) (spare : Bool) : Nat × Nat × Nat × Nat :=
  let l := passing pass
  let p0 := l.getD 0 noLane
  let p1 := if 2 ≤ width then l.getD 1 noLane else noLane
  let sp := if spare then l.getD width noLane else noLane
  (p0, p1, sp, (([0, 1, 2].filter (fun k => k != p0 && k != p1 && k != sp)).map (2 ^ ·)).sum)

/-- A training attempt fails (R105). -/
def trainFail (s : State) (n : Nat) : State :=
  ((s.bump R.TRK_TRAIN_FAIL n).irq (lanePage n) 1).updLink n (fun l => { l with step := 0, retryWait := true })

/-- ASSIGN agrees width and maps, and the link enters CAP (R106). -/
def assignLanes (s : State) (n : Nat) (t : TrainInfo) : State :=
  let l := s.link n
  let w := min (min l.trainWidth t.peerWidth) (min (passing l.passRx).length (passing l.passTx).length)
  let spare := s.rd R.TRK_LANECFG_SPARE_EN n == 1 && t.peerSpare
  let rx := bindLanes w l.passRx spare
  let tx := bindLanes w l.passTx spare
  let s := (s.setRxMap n rx.1 rx.2.1 rx.2.2.1 rx.2.2.2).setTxMap n tx.1 tx.2.1 tx.2.2.1 tx.2.2.2
  let s := (s.wr R.TRK_LANESTAT_WIDTH w n).irq (lanePage n) 0
  (s.updLink n (fun l => { l with
    hardFailed := 0, predRuns := [], predLast := [], eyeAge := [], subst := none, substFrom := none, substEnd := none, txRseq := none,
    goodFrom := [(0, s.hw), (1, s.hw), (2, s.hw)].filter (fun (e : Nat × Nat) => e.2 ≠ 0) })).enterCap n

/-- The TRAIN block of a lane at a step (Table 3.1): this end offers its rate, width and spare and the lanes that passed CHECK, shows READY from DETECT on (DESIGN CHOICE, log 125), and requests a transmit preset, 0 to 10, which is a free value (log 125). -/
def trainBlock (s : State) (n step lane : Nat) : Ctl :=
  let l := s.link n
  .train lane step true l.trainRate (s.freeNat % 11) l.trainWidth (s.rd R.TRK_LANECFG_SPARE_EN n == 1)
    (if step = 6 then l.passRx else 0)

/-- What CHECK sends on each lane in its 200 µs at the agreed rate: 66-bit blocks, of which every 4,096th is an ALIGN (Table 3.2, R103). -/
def checkSends (s : State) (n : Nat) : State :=
  let total := if s.rd R.TRK_LANESTAT_RATE n = 1 then 78125 else 31250
  ((List.range (total / 4096)).foldl (fun (s : State) _ => (s.sendPrbs n 4095).sendAlign n) s).sendPrbs n (total % 4096)

/-- A training step begins with what it sends on the three lanes: TRAIN blocks, and at CHECK PRBS31 data blocks with ALIGN blocks (Table 3.2). -/
def trainSends (s : State) (n step : Nat) : State :=
  let s := s.updLink n (fun l => { l with step := step })
  if step = 5 then s.checkSends n
  else [0, 1, 2].foldl (fun (s : State) lane => (s.emit (.laneCtl n lane (s.trainBlock n step lane))).tookFree) s

/-- The transmit preset that the peer requests for a lane is set (EQUALISE, Table 3.2); 0 to 10 are presets. -/
def setPreset (s : State) (n lane preset : Nat) : State :=
  if 10 < preset then s else s.updLink n (fun l => { l with txPreset := l.txPreset.set 0 lane preset })

/-- The running training step ends (Table 3.2). -/
def trainStep (s : State) (n : Nat) (t : TrainInfo) : State :=
  let l := s.link n
  match l.step with
  | 1 => if s.seated n then s.trainSends n 2 else s
  | 2 => s.trainSends n 3
  | 3 => (s.wr R.TRK_LANESTAT_RATE (min l.trainRate t.peerRate) n).trainSends n 4
  | 4 => (((s.setPreset n 0 t.preset0).setPreset n 1 t.preset1).setPreset n 2 t.presetS).trainSends n 5
  | 5 =>
    if t.passRx % 8 = 0 ∨ t.passTx % 8 = 0 then s.trainFail n
    else
      let s := ((s.wr R.TRK_DESKEW_L0 t.deskew0 n).wr R.TRK_DESKEW_L1 t.deskew1 n).wr R.TRK_DESKEW_LS t.deskewS n
      (s.updLink n (fun l => { l with passRx := t.passRx % 8, passTx := t.passTx % 8 })).trainSends n 6
  | 6 => s.assignLanes n t
  | _ => s

/-! ### Substitution -/

/-- The lanes have been bound by ASSIGN and carry the link: CAP, UP, DRAIN, or HALT with its IDLE blocks (Table 2.5). -/
def lanesBound (s : State) (n : Nat) : Bool := s.linkRuns n || s.linkState n == linkCap || s.linkState n == linkHalt

/-- Sends the request of the substitution in progress on every transmit lane (R115). -/
def sendSubstReq (s : State) (n : Nat) : State :=
  match (s.link n).subst with
  | some (lane, kind, rseq) => s.sendOnLanes n (.substReq lane kind rseq)
  | none => s

/-- The interruption of a reactive substitution began with the first damaged cell that CUM has not passed, or begins now (R118; DEDUCED, log 128). -/
def interrupted (s : State) (n : Nat) : State :=
  s.updLink n (fun l => { l with substFrom := some (l.damagedAt.getD s.hw), substEnd := none })

/-- Starts a substitution of a receive lane (R115); the first request after reset has number 1 (DESIGN CHOICE, log 129). -/
def startSubst (s : State) (n lane kind : Nat) : State :=
  let s := s.updLink n (fun l => { l with rseq := (l.rseq + 1) % 256, subst := some (lane, kind, (l.rseq + 1) % 256) })
  let s := if kind = 0 then s.interrupted n else s
  (s.wr R.TRK_LANESTAT_SUBST_BUSY 1 n).sendSubstReq n

/-- The requalification test of a retired lane starts: it has held good from now on (R120). -/
def goodAgain (s : State) (n lane : Nat) : State :=
  s.updLink n (fun l => { l with goodFrom := l.goodFrom.set 0 lane s.hw })

/-- An active lane is lost and no substitution can replace it: the link leaves UP, or ends its drain, with cause LANE (R119); in CAP and HALT the substitution is given up, and CAP times out unless the lane carries on (DEDUCED, log 126). -/
def laneLost (s : State) (n : Nat) : State :=
  if s.linkRuns n then s.linkToDown n causeLane
  else s.dropSubst n

/-- The spare becomes retired (R109); during a substitution onto it the link leaves UP (Table 3.4). -/
def spareLost (s : State) (n : Nat) : State :=
  let sp := s.rxSpare n
  if sp = noLane then s
  else
    let s := (s.setRxMap n (s.rd R.TRK_LANESTAT_P0_LANE n) (s.rd R.TRK_LANESTAT_P1_LANE n) noLane
      (s.rd R.TRK_LANESTAT_RETIRED_MASK n ||| 2 ^ sp)).irq (lanePage n) 4
    let s := s.goodAgain n sp
    if (s.link n).subst.isSome then s.laneLost n else s

/-- A hard failure of a receive lane (R111, R115, R119, R121): on a lane whose predictive substitution is in progress the substitution becomes a reactive one; a retired lane starts its requalification again. -/
def hardFail (s : State) (n lane : Nat) : State :=
  if s.rxActive n lane ∧ s.lanesBound n then
    let s := s.updLink n (fun l => { l with hardFailed := l.hardFailed ||| 2 ^ lane })
    match (s.link n).subst with
    | some (l, k, r) =>
      if l = lane then
        let s := s.updLink n (fun x => { x with subst := some (l, 0, r) })
        if k = 0 then s else s.interrupted n
      else s.laneLost n
    | none => if s.rxSpare n = noLane then s.laneLost n else s.startSubst n lane 0
  else if s.rxSpare n = lane then s.spareLost n
  else if s.rxRetired n lane then s.goodAgain n lane
  else s

/-- The receive position that a lane carries. -/
def rxPosition (s : State) (n lane : Nat) : Nat := if s.rd R.TRK_LANESTAT_P0_LANE n = lane then 0 else 1

/-- SWITCH arrives for the substitution in progress and moves the failing lane's position to the spare (R116); `ns` is the interruption of a predictive one, that of a reactive one ends when CUM has passed every cell damaged by the failure (R118). -/
def switched (s : State) (n src dst pos rseq ns : Nat) : State :=
  match (s.link n).subst with
  | none => s
  | some (lane, kind, r) =>
    if lane ≠ src ∨ r ≠ rseq ∨ dst ≠ s.rxSpare n ∨ pos ≠ s.rxPosition n lane then s
    else
      let p0 := if pos = 0 then dst else s.rd R.TRK_LANESTAT_P0_LANE n
      let p1 := if pos = 1 then dst else s.rd R.TRK_LANESTAT_P1_LANE n
      let s := (s.setRxMap n p0 p1 noLane (s.rd R.TRK_LANESTAT_RETIRED_MASK n ||| 2 ^ src)).goodAgain n src
      let s := (s.updLink n (fun l => { l with subst := none })).wr R.TRK_LANESTAT_SUBST_BUSY 0 n
      let s := (s.tally (0x060 + n)).timeSwitched n
      if kind = 0 then
        ((s.bump R.TRK_SUBST_CNT_REACT n).event (lanePage n) 2 lane).substEnds n
      else ((s.keepMax R.TRK_SUBST_MAX ns n).bump R.TRK_SUBST_CNT_PRED n).event (lanePage n) 3 lane

/-- The lane a position moves to: the transmit spare, or a retired lane that the far end has requalified (R120; log 119). -/
def txSpare (s : State) (n : Nat) : Nat :=
  let sp := s.rd R.TRK_LANETX_SPARE_LANE n
  let l := passing (s.rd R.TRK_LANETX_RETIRED_MASK n)
  if sp ≠ noLane then sp else l.getD (if l.length < 2 then 0 else s.freeNat % l.length) noLane

/-- The first valid SUBST_REQ at the transmitter (R116): SWITCH goes out on every lane, and the position is on the spare from the next block on. -/
def substReqIn (s : State) (n lane rseq : Nat) : State :=
  let sp := s.txSpare n
  let p0 := s.rd R.TRK_LANETX_P0_LANE n
  let p1 := s.rd R.TRK_LANETX_P1_LANE n
  if (s.link n).txRseq = some rseq ∨ sp = noLane ∨ (p0 ≠ lane ∧ p1 ≠ lane) ∨ s.lanesBound n = false then s
  else
    let pos := if p0 = lane then 0 else 1
    let s := s.updLink n (fun l => { l with txRseq := some rseq })
    let s := ((s.sendOnLanes n (.switch lane sp pos rseq)).timeSwitched n).tookFree
    s.setTxMap n (if pos = 0 then sp else p0) (if pos = 1 then sp else p1) noLane
      ((s.rd R.TRK_LANETX_RETIRED_MASK n &&& (7 ^^^ 2 ^ sp)) ||| 2 ^ lane)

/-! ### Lane health and learning -/

/-- A window triggers: eye below a threshold for CONSEC measurements, or too many errors (R112). -/
def noteWindow (s : State) (n : Nat) (m : LaneSample) (fresh : Bool) : State × Bool :=
  let low := decide (m.eyeH < s.rd R.TRK_THR_EYE_EYE_H_MIN n) || decide (m.eyeV < s.rd R.TRK_THR_EYE_EYE_V_MIN n)
  let old := (s.link n).predRuns.get 0 m.lane
  let runs := if !fresh then old else if low then old + 1 else 0
  let trig := (fresh && decide (s.rd R.TRK_THR_EYE_CONSEC n ≤ runs)) || decide (s.rd R.TRK_THR_BIP n < m.errs)
  (s.updLink n (fun l => { l with
    predRuns := l.predRuns.set 0 m.lane runs, predLast := l.predLast.set false m.lane trig,
    winErrs := l.winErrs.set 0 m.lane m.errs }), trig)

/-- The learning period is running: it counts in UP alone, and in any other state it is paused (R113). -/
def learningNow (s : State) (n : Nat) : Bool := s.rd R.TRK_LANESTAT_LEARNING n == 1

/-- A predictive trigger on an active lane (R113, R115, R119). With PRED_EN 0, and while a substitution is already in progress in that direction, it does nothing (DESIGN CHOICE, log 130). -/
def predict (s : State) (n lane : Nat) : State :=
  if s.learningNow n ∨ s.rd R.TRK_LANECFG_PRED_EN n = 0 ∨ s.lanesBound n = false ∨ (s.link n).subst.isSome then s
  else if s.rxSpare n = noLane then s.irq (lanePage n) 5
  else s.startSubst n lane 1

/-- The eye of a lane that carries no position is measured in one window of eight (R108): whether this window is the lane's. -/
def eyeWindow (s : State) (n lane : Nat) : Bool :=
  let age := (s.link n).eyeAge.get 0 lane
  s.rxActive n lane || age == 0 || decide (8 ≤ age)

/-- The eye margins of the latest measurement stand in TRK_EYE; in a window without one they stay. -/
def takeEye (s : State) (n : Nat) (m : LaneSample) : State :=
  if s.eyeWindow n m.lane then
    ((s.wr R.TRK_EYE_EYE_H m.eyeH n m.lane).wr R.TRK_EYE_EYE_V m.eyeV n m.lane).updLink n (fun l => { l with
      eyeAge := l.eyeAge.set 0 m.lane 1 })
  else s.updLink n (fun l => { l with eyeAge := l.eyeAge.upd 0 m.lane (· + 1) })

/-- A window of a retired lane: an error, or an eye that is not above both thresholds, starts its requalification again (R120). -/
def watchRetired (s : State) (n : Nat) (m : LaneSample) : State :=
  if s.rxRetired n m.lane && (m.errs != 0 || decide (s.rd R.TRK_EYE_EYE_H n m.lane ≤ s.rd R.TRK_THR_EYE_EYE_H_MIN n) ||
      decide (s.rd R.TRK_EYE_EYE_V n m.lane ≤ s.rd R.TRK_THR_EYE_EYE_V_MIN n)) then s.goodAgain n m.lane
  else s

/-- One lane's measurement (R110, R112, R109, R113). -/
def healthOne (s : State) (n : Nat) (m : LaneSample) : State :=
  if 3 ≤ m.lane then s
  else
    let fresh := s.eyeWindow n m.lane
    let s := (((s.takeEye n m).bumpBy R.TRK_BIP m.errs n m.lane).watchRetired n m)
    let m := { m with eyeH := s.rd R.TRK_EYE_EYE_H n m.lane, eyeV := s.rd R.TRK_EYE_EYE_V n m.lane }
    let s :=
      if fresh ∧ s.linkState n = linkUp ∧ s.rd R.TRK_LANESTAT_LEARNING n = 1 then
        s.updLink n (fun l => { l with
          learnN := l.learnN.upd 0 m.lane (· + 1), learnH := l.learnH.upd 0 m.lane (· + m.eyeH),
          learnV := l.learnV.upd 0 m.lane (· + m.eyeV) })
      else s
    let r := s.noteWindow n m fresh
    if !r.2 then r.1
    else if r.1.rxActive n m.lane then r.1.predict n m.lane
    else if r.1.rxSpare n = m.lane then r.1.spareLost n
    else r.1

/-- A retired lane has held good for REQUAL_TIME (R120). -/
def heldGood (s : State) (n lane : Nat) : Bool :=
  decide ((s.link n).goodFrom.get 0 lane + s.rd R.TRK_LANECFG_REQUAL_TIME n * 1000000000 ≤ s.hw)

/-- What this receiver reports of a lane (R114). -/
def healthOf (s : State) (n lane : Nat) : HealthTerms :=
  let l := s.link n
  { lane := lane,
    use := if l.hardFailed.testBit lane then 3 else if s.rxActive n lane then 0 else if s.rxSpare n = lane then 1 else 2,
    learn := s.rd R.TRK_LANESTAT_LEARNING n == 1, pred := l.predLast.get false lane,
    eyeH := s.rd R.TRK_EYE_EYE_H n lane, eyeV := s.rd R.TRK_EYE_EYE_V n lane, errs := min (l.winErrs.get 0 lane) 0xFFFF }

/-- A mean of `k` measurements: its rounding is a free value (R113; log 15). -/
def meanOf (s : State) (sum k : Nat) : Nat :=
  if sum % k = 0 then sum / k else sum / k + s.freeNat % 2

/-- Stores the baseline margins of a lane. -/
def storeBase (s : State) (n lane : Nat) : State :=
  let l := s.link n
  let k := l.learnN.get 0 lane
  if k = 0 then s
  else
    let s := (s.wr R.TRK_EYE_EYE_H_BASE (s.meanOf (l.learnH.get 0 lane) k) n lane).tookFree
    (s.wr R.TRK_EYE_EYE_V_BASE (s.meanOf (l.learnV.get 0 lane) k) n lane).tookFree

/-- The learning period starts afresh (R113). -/
def relearn (s : State) (n : Nat) : State :=
  if s.linkState n = linkUp then
    (s.updLink n (fun l => { l with
      learnMs := 0, learnN := [], learnH := [], learnV := [], learned := false, learnAsked := false })).wr
      R.TRK_LANESTAT_LEARNING 1 n
  else s.updLink n (fun l => { l with learnAsked := true })

end State

/-- TRAIN_STEP_DONE (R105). -/
def execTrainStepDone (n : Nat) (t : TrainInfo) (s : State) : Host.Outcome State Fault Refusal :=
  guardedIn (6 + n / 4) s (decide (n < 16)) (if s.linkState n = linkTrain then s.begin.trainStep n t else s.begin)

/-- TRAIN_STEP_TIMEOUT (R105): SEAT has no limit. -/
def execTrainStepTimeout (n : Nat) (s : State) : Host.Outcome State Fault Refusal :=
  guardedIn (6 + n / 4) s (decide (n < 16))
    (if s.linkState n = linkTrain ∧ 2 ≤ (s.link n).step then s.begin.trainFail n else s.begin)

/-- TRAIN_RETRY (R105). -/
def execTrainRetry (n : Nat) (s : State) : Host.Outcome State Fault Refusal :=
  guardedIn (6 + n / 4) s (decide (n < 16))
    (if s.linkState n = linkTrain ∧ (s.link n).retryWait then
       (s.begin.updLink n (fun l => { l with retryWait := false })).trainSends n 2
     else s.begin)

/-- LANE_HEALTH_SAMPLE (R110): the 1 ms measurements of the lanes that were measured. -/
def execLaneHealthSample (n : Nat) (ms : List LaneSample) (s : State) : Host.Outcome State Fault Refusal :=
  guardedIn (6 + n / 4) s (decide (n < 16))
    (let s := s.begin
     let s :=
       if s.linkState n = linkUp ∧ s.rd R.TRK_LANESTAT_LEARNING n = 1 then
         s.updLink n (fun l => { l with learnMs := l.learnMs + 1 })
       else s
     ms.foldl (fun s m => s.healthOne n m) s)

/-- HEALTH_SEND (R114): on a Glenlink 2.1 link. -/
def execHealthSend (n : Nat) (s : State) : Host.Outcome State Fault Refusal :=
  guardedIn (6 + n / 4) s (decide (n < 16))
    (let s := s.begin
     if s.linkState n = linkUp ∧ s.rd R.TRK_LSTAT_V21 n = 1 then
       [0, 1, 2].foldl (fun s lane => s.readyCtl n (.health (s.healthOf n lane))) s
     else s)

/-- HEALTH_RECEIVED (R114). -/
def execHealthReceived (n : Nat) (h : HealthTerms) (s : State) : Host.Outcome State Fault Refusal :=
  guardedIn (6 + n / 4) s (decide (n < 16) && decide (h.lane < 3))
    (let s := s.begin
     if s.linkState n = linkUp ∧ s.rd R.TRK_LSTAT_V21 n = 1 then
       ((s.wr R.TRK_PEER_HEALTH_EYE_H h.eyeH n h.lane).wr R.TRK_PEER_HEALTH_EYE_V h.eyeV n h.lane).wr
         R.TRK_PEER_HEALTH_ERR h.errs n h.lane
     else s)

/-- LANE_HARD_FAIL (R111). -/
def execLaneHardFail (n lane : Nat) (s : State) : Host.Outcome State Fault Refusal :=
  guardedIn (6 + n / 4) s (decide (n < 16) && decide (lane < 3)) (s.begin.hardFail n lane)

/-- SUBST_REQ_REPEAT (R115). -/
def execSubstReqRepeat (n : Nat) (s : State) : Host.Outcome State Fault Refusal :=
  guardedIn (6 + n / 4) s (decide (n < 16)) (s.begin.sendSubstReq n)

/-- SUBST_REQ_RECEIVED (R116). -/
def execSubstReqReceived (n lane rseq : Nat) (s : State) : Host.Outcome State Fault Refusal :=
  guardedIn (6 + n / 4) s (decide (n < 16) && decide (lane < 3) && decide (rseq < 256)) (s.begin.substReqIn n lane rseq)

/-- SWITCH_RECEIVED (R116): `ns` is the interruption as R118 measures it. -/
def execSwitchReceived (n src dst pos rseq ns : Nat) (s : State) : Host.Outcome State Fault Refusal :=
  guardedIn (6 + n / 4) s (decide (n < 16) && decide (src < 3) && decide (dst < 3) && decide (pos < 2))
    (s.begin.switched n src dst pos rseq ns)

/-- SUBST_TIMEOUT (R119). -/
def execSubstTimeout (n : Nat) (s : State) : Host.Outcome State Fault Refusal :=
  guardedIn (6 + n / 4) s (decide (n < 16))
    (if (s.link n).subst.isSome then s.begin.laneLost n else s.begin)

/-- SPARE_LOST (R109). -/
def execSpareLost (n : Nat) (s : State) : Host.Outcome State Fault Refusal :=
  guardedIn (6 + n / 4) s (decide (n < 16)) (s.begin.spareLost n)

/-- LEARNING_DONE (R113). -/
def execLearningDone (n : Nat) (s : State) : Host.Outcome State Fault Refusal :=
  guardedIn (6 + n / 4) s (decide (n < 16))
    (let s := s.begin
     if s.linkState n = linkUp ∧ s.rd R.TRK_LANESTAT_LEARNING n = 1 then
       let s := [0, 1, 2].foldl (fun s lane => s.storeBase n lane) s
       ((s.updLink n (fun l => { l with learned := true })).wr R.TRK_LANESTAT_LEARNING 0 n).irq (lanePage n) 6
     else s)

/-- LANE_SUBSTITUTE (R115): TRK_LANECMD SUBSTITUTE, in every state in which the lanes are bound, as a predictive trigger acts (DEDUCED, log 130). -/
def execLaneSubstitute (path n lane : Nat) (s : State) : Host.Outcome State Fault Refusal :=
  guarded (decide (path < 8) && decide (n < 16) && decide (lane < 4))
    (s.begin.gateWrite path (lanePage n * 4096 + 0x44) (1 + 16 * lane) (fun s =>
      if s.lanesBound n ∧ s.rd R.TRK_LANESTAT_LEARNING n = 0 ∧ s.rxActive n lane ∧ s.rxSpare n ≠ noLane ∧
          (s.link n).subst = none then s.startSubst n lane 1
      else s))

/-- LANE_REQUALIFY (R120): TRK_LANECMD REQUALIFY starts a retired lane's test at once. -/
def execLaneRequalify (path n lane : Nat) (s : State) : Host.Outcome State Fault Refusal :=
  guarded (decide (path < 8) && decide (n < 16) && decide (lane < 4))
    (s.begin.gateWrite path (lanePage n * 4096 + 0x44) (2 + 16 * lane) (fun s =>
      if s.rxRetired n lane then s.goodAgain n lane else s))

/-- LANE_RELEARN (R113): TRK_LANECMD RELEARN. -/
def execLaneRelearn (path n : Nat) (s : State) : Host.Outcome State Fault Refusal :=
  guarded (decide (path < 8) && decide (n < 16))
    (s.begin.gateWrite path (lanePage n * 4096 + 0x44) 3 (fun s => s.relearn n))

/-- REQUALIFIED (R120): a retired lane that has held good for REQUAL_TIME becomes the spare; while there is one it stays retired (DEDUCED, log 29). -/
def execRequalified (n lane : Nat) (s : State) : Host.Outcome State Fault Refusal :=
  guardedIn (6 + n / 4) s (decide (n < 16) && decide (lane < 3))
    (let s := s.begin
     if s.rxRetired n lane ∧ s.rxSpare n = noLane ∧ s.heldGood n lane then
       let s := s.setRxMap n (s.rd R.TRK_LANESTAT_P0_LANE n) (s.rd R.TRK_LANESTAT_P1_LANE n) lane
         (s.rd R.TRK_LANESTAT_RETIRED_MASK n ^^^ 2 ^ lane)
       (s.updLink n (fun l => { l with hardFailed := l.hardFailed &&& (7 ^^^ 2 ^ lane) })).irq (lanePage n) 7
     else s)

end Sys2Proof.Machine
end

