-- ==== Sys2Proof/Machine/Switch.lean ====
section
/-! DEFINITION. The central scheduler of a switch plane (chapter 04, R136 to R140) and fences at their egress queues (R25 to R28). -/

namespace Sys2Proof.Machine

/-- An eligible VOQ: ingress port, egress port and VC. -/
structure Voq where
  inSp : Nat
  out : Nat
  vc : Nat
deriving DecidableEq, Repr

def Voq.urgent (v : Voq) : Bool := v.vc < 2

/-- What the iterations of a match have decided. -/
structure MatchState where
  pairs : List (Nat × Nat) := []
  grantPtr : Tab Nat := []
  acceptPtr : Tab Nat := []
deriving DecidableEq, Repr

/-- Key of a pointer: the port and the level, urgent 0 or normal 1. -/
def ptrKey (port : Nat) (urgent : Bool) : Nat := port * 2 + (if urgent then 0 else 1)

/-- The grants of one iteration: egress port, ingress port, urgent or not (Table 4.2). -/
def matchGrants (m : MatchState) (es : List Voq) : List (Nat × Nat × Bool) :=
  let freeOut := (List.range 24).filter (fun o => m.pairs.all (fun x => x.2 != o))
  freeOut.filterMap (fun o =>
    let rq := es.filter (fun v => v.out == o && m.pairs.all (fun x => x.1 != v.inSp))
    let urg := rq.any Voq.urgent
    let rq := if urg then rq.filter Voq.urgent else rq
    (firstFrom (m.grantPtr.get 0 (ptrKey o urg)) 24 (fun i => rq.any (fun v => v.inSp == i))).map (fun i => (o, i, urg)))

/-- One iteration: the accepts, and the pointers in the first (Table 4.2). -/
def matchIter (es : List Voq) (first : Bool) (m : MatchState) : MatchState :=
  let gs := matchGrants m es
  (List.range 24).foldl (fun m i =>
    let mine := gs.filter (fun g => g.2.1 == i)
    let urg := mine.any (fun g => g.2.2)
    let mine := if urg then mine.filter (fun g => g.2.2) else mine
    match firstFrom (m.acceptPtr.get 0 (ptrKey i urg)) 24 (fun o => mine.any (fun g => g.1 == o)) with
    | none => m
    | some o =>
      let m := { m with pairs := m.pairs ++ [(i, o)] }
      if first then
        { m with grantPtr := m.grantPtr.set 0 (ptrKey o urg) ((i + 1) % 24),
                 acceptPtr := m.acceptPtr.set 0 (ptrKey i urg) ((o + 1) % 24) }
      else m) m

namespace State

/-- The eligible VOQs of a plane (R136). -/
def eligible (s : State) (p : Nat) : List Voq :=
  (s.plane p).voq.filterMap (fun (x : Nat × List Nat) =>
    match x.2 with
    | [] => none
    | h :: _ =>
      match (s.plane p).units.get none h with
      | none => none
      | some u => if u.whole then some ⟨x.1 / 8 / 24, x.1 / 8 % 24, x.1 % 8⟩ else none)

/-- The VC that a matched pair serves (R139); VC0 and VC1 stand outside the rotation, so a cell of theirs does not move it (DEDUCED, log 113). -/
def pickVc (s : State) (p i o : Nat) (es : List Voq) : Option Nat :=
  let has := fun v => es.any (fun e => e.inSp == i && e.out == o && e.vc == v)
  if has 0 then some 0
  else if has 1 then some 1
  else
    match [2, 3, 4, 5, 6, 7].find? (fun v => has v && decide (0 < (s.plane p).xfer.get 0 (voqKey i o v))) with
    | some v => some v
    | none =>
      (firstFrom ((s.plane p).lastVc.get 5 (i * 24 + o) + 1) 6 (fun k => has (k + 2))).map (· + 2)

/-- Transfers one cell of a matched pair; a unit whose last cell it was joins its egress queue (R137, R139). -/
def transfer (s : State) (p i o v : Nat) : State :=
  let k := voqKey i o v
  match (s.plane p).voq.get [] k with
  | [] => s
  | h :: t =>
    match (s.plane p).units.get none h with
    | none => s
    | some u =>
      let done := (s.plane p).xfer.get 0 k + 1
      let last := decide (u.cells.length ≤ done)
      let s := s.updPlane p (fun x => { x with
        xfer := x.xfer.set 0 k (if last then 0 else done), voq := if last then x.voq.set [] k t else x.voq,
        lastVc := if v < 2 then x.lastVc else x.lastVc.set 5 (i * 24 + o) (v - 2) })
      let s := (s.bump R.SW_OUT_CELLS p o).tally (0x0C0 + 0x20 * p + o)
      if last then
        match u.members.find? (fun m => m.1 == o) with
        | some m => s.joinQueue p h o m.2
        | none => s
      else s

/-- One cell slot of a plane in service (R125, R138). -/
def cellSlot (s : State) (p : Nat) : State :=
  if !s.inService p then s
  else
    let es := s.eligible p
    let x := s.plane p
    let m := (List.range (s.rd R.SW_MATCH_CFG_ITER p)).foldl (fun m k => matchIter es (k == 0) m)
      { pairs := [], grantPtr := x.grantPtr, acceptPtr := x.acceptPtr }
    let s := s.setPlane p { x with grantPtr := m.grantPtr, acceptPtr := m.acceptPtr }
    if m.pairs.isEmpty then
      if es.any (fun v => !s.portDown v.out) then
        (s.updPlane p (fun x => { x with stall := x.stall + 1 })).tally (0x101 + 8 * p)
      else s
    else
      let s := (s.updPlane p (fun x => { x with stall := 0 })).tally (0x100 + 8 * p)
      m.pairs.foldl (fun s io => match s.pickVc p io.1 io.2 es with
        | some v => s.transfer p io.1 io.2 v
        | none => s) s

/-! ### Fences -/

/-- A copy of a FENCE that is not needed is dropped from its queue. -/
def dropFence (s : State) (p q h : Nat) : State := (s.unqueue p q h).dropMember p h (s.pair q).port 0

/-- A copy of FENCE unit `h` of plane `p` arrives at an egress (R25): the first copy of an Either fence makes it wait for those of the other planes in service, any other fence is complete. The answer says that the fence has been sent, so that this late copy is not needed. -/
def fenceCopy (s : State) (p q : Nat) (u : PUnit) : State × Bool :=
  match s.fenceOf q u.tid u.seq with
  | none =>
    let f : FenceState :=
      { seq := u.seq, copies := [p], awaited := if u.entry.policy = policyEither then s.planesInService.erase p else [],
        complete := false, sent := false }
    (s.updTun (fun t => { t with fences := t.fences.upd [] (q * 32768 + u.tid) (· ++ [f.settle]) }), false)
  | some f =>
    if f.copies.contains p then (s, false)
    else
      (s.updFence q u.tid u.seq (fun f => { f with
        awaited := f.awaited.erase p, copies := if f.sent then f.copies else f.copies ++ [p] }), f.sent)

/-- A copy of a FENCE unit is at the head of its plane's queue (R25). -/
def fenceArrives (s : State) (p q : Nat) : State :=
  match s.queue p q with
  | [] => s
  | e :: _ =>
    match (s.plane p).units.get none e.unit with
    | none => s
    | some u =>
      if u.kind ≠ kindFence then s
      else
        let r := s.fenceCopy p q u
        if r.2 then r.1.dropFence p q e.unit else r.1.tagHead q false

/-- The oldest incomplete fence of a tunnel at a queue has waited TMAP_FENCE_TMO and is completed (R28). -/
def fenceExpires (s : State) (q tid : Nat) : State :=
  match (s.fencesAt q tid).find? (fun f => !f.complete) with
  | none => s
  | some f =>
    let s := s.updFence q tid f.seq (fun f => { f with complete := true })
    (((s.bump R.TMAP_FENCE_TMO_CNT).tally 0x124).event 0x280 3 tid).tagHead q false

end State

/-- CELL_SLOT_MATCH (R138). -/
def execCellSlotMatch (p : Nat) (s : State) : Host.Outcome State Fault Refusal :=
  guardedIn (4 + p) s (decide (p < 2)) (s.begin.cellSlot p)

/-- SCHED_STALL (R140): 16 cell slots without a match while an eligible VOQ exists toward a port that is not down; in the cycle in which missed heartbeats declared the plane failed it gives the failure its cause (Table 4.9). -/
def execSchedStall (p : Nat) (s : State) : Host.Outcome State Fault Refusal :=
  guardedIn (4 + p) s (decide (p < 2))
    (let s := s.begin
     if s.heartbeatFailed p ∨ (s.inService p ∧ (s.eligible p).any (fun v => !s.portDown v.out)) then s.declareFailed p failSched
     else s)

/-- FENCE_ARRIVAL (R25). -/
def execFenceArrival (p q : Nat) (s : State) : Host.Outcome State Fault Refusal :=
  guardedIn (4 + p) s (decide (p < 2) && decide (q < 4096)) (s.begin.fenceArrives p q)

/-- FENCE_TIMEOUT (R28). -/
def execFenceTimeout (q tid : Nat) (s : State) : Host.Outcome State Fault Refusal :=
  guardedIn 1 s (decide (q < 4096) && decide (tid < 32768)) (s.begin.fenceExpires q tid)

end Sys2Proof.Machine
end

