-- ==== Sys2Proof/Machine/Egress.lean ====
section
/-! DEFINITION. An egress port (chapter 05, Service order; chapter 02, the transmitter): which unit goes next, the duplicate check, the charge to its allotment, the cells of a unit, control blocks between cells, resends, and the Carousels. -/

namespace Sys2Proof.Machine

namespace State

/-! ### Allotments -/

def allot (s : State) (i : Nat) : Allot := s.sch.allots.get {} i
def setAllot (s : State) (i : Nat) (x : Allot) : State := s.updSch (fun y => { y with allots := y.allots.set {} i x })

/-- A release group is released (SCH_REL_STAT). -/
def released (s : State) (g : Nat) : Bool :=
  g != 0 && (if g < 32 then (s.rd R.SCH_REL_STAT0).testBit g else (s.rd R.SCH_REL_STAT1).testBit (g - 32))

/-- The reserved rate counts as 0 (R182, R190). -/
def rsvOff (s : State) (a : Allot) : Bool := a.rsv == 0 || s.released a.grp

/-- A bucket in 1/16 byte is above 0 when it holds a whole byte, so that a release leaves it no lower than 1 - 17,920 bytes (R183; DEDUCED, log 25). -/
def aboveZero (b : Int) : Bool := decide (16 ≤ b)

def peakOpen (a : Allot) : Bool := a.peak == 0 || aboveZero a.bPeak

/-- Tier G, tier E, or not eligible (R182). -/
def tierOf (s : State) (a : Allot) : Nat :=
  if !peakOpen a then 2 else if !s.rsvOff a && aboveZero a.bRsv then 0 else 1

/-- The lowest that a bucket goes: 1 - 17,920 bytes (R183). -/
def bucketFloor : Int := (1 - 17920) * 16

/-- Charges a record for a unit of `cells` cells: the peak bucket, and the reserved bucket when `both` (R174, R183); a record without a peak limit is charged too, down to the floor (DEDUCED, log 25). -/
def charge (s : State) (i cells : Nat) (both : Bool) : State :=
  let a := s.allot i
  let less := fun (b : Int) => max (min b bucketFloor) (b - cells * 4096)
  s.setAllot i { a with bPeak := less a.bPeak, bRsv := if both && !s.rsvOff a then less a.bRsv else a.bRsv }

/-! ### What a trunk can carry -/

/-- The link VC of a class at a port: its own VC at an adapter. -/
def portVc (s : State) (n cls : Nat) : Nat := if n < 16 then foldVc (s.agreedVcs n) cls else cls

/-- Credit left on a link VC (R84). -/
def creditLeft (s : State) (n v : Nat) : Nat := dist24 ((s.link n).sent.get 0 v) ((s.link n).limit.get 0 v)

/-- The port has credit for a class (R84, R173); an adapter needs none. -/
def hasCredit (s : State) (n cls : Nat) : Bool := decide (16 ≤ n) || decide (1 ≤ s.creditLeft n (s.portVc n cls))

/-- No other unit is part-sent, and no abort waits, on the class's link VC (R63, R580). -/
def vcClear (s : State) (n cls : Nat) : Bool :=
  decide (16 ≤ n) ||
    ((s.egress n).sending.all (fun x => match x.2 with
      | some y => y.vc != s.portVc n cls
      | none => true) &&
     (s.link n).aborts.all (fun a => a.2.vc != s.portVc n cls))

/-- A port may start a unit of a class: credit, a clear VC, and no drain (R96). -/
def mayStart (s : State) (n cls : Nat) : Bool :=
  s.hasCredit n cls && s.vcClear n cls && (decide (16 ≤ n) || s.linkState n == linkUp)

/-! ### What an adapter cannot take yet -/

/-- The IN endpoint that takes a tunnel's units (R354). -/
def inEndpoint (s : State) (tid : Nat) : Option Nat :=
  ((List.range 15).map (· + 17)).find? (fun e => s.rd R.USB_EP_STAT_STATE 0 e != 0 && s.rd R.USB_EP_TID_TID 0 e == tid)

/-- A display source. -/
def src (s : State) (i : Nat) : DspSource := s.dsp.src.get {} i

/-- The adapter does not take the source's next unit yet (R247, R251). -/
def srcHolds (s : State) (i : Nat) : Bool :=
  let x := s.src i
  x.newMode.isSome || x.changing.isSome || (!x.flips.isEmpty && x.copy) || s.rd R.DSP_SRC_STAT_COPY_BUSY i == 1 || !x.held.isEmpty

/-- A display tunnel's source takes no unit now; a draining one takes units to discard them (R251, R264). -/
def displayHolds (s : State) (tid : Nat) : Bool :=
  [0, 1].any (fun i => s.rd R.DSP_SRC_TID i == tid && tid != 0 && s.rd R.DSP_SRC_STAT_STATE i != 0 &&
    s.rd R.DSP_SRC_STAT_STATE i != 4 && s.srcHolds i)

/-- A unit that its adapter, which knows it by the tunnel ID it carries out, cannot take yet is passed over: its source copies a frame or changes mode (R251), its IN endpoint is full or halted (R358, R364), the transmit buffer of a target MAC cannot take it whole (R339), or its logical engine has no room (R383). -/
def heldBack (s : State) (n : Nat) (u : PUnit) : Bool :=
  if n = 20 ∧ u.kind = kindData then
    match s.inEndpoint (outTid n u) with
    | none => false
    | some e =>
      s.rd R.USB_EP_STAT_STATE 0 e == 1 && (((s.usb.eps.get {} e).buf).isSome || s.rd R.USB_EP_STAT_HALTED 0 e == 1)
  else if n = 18 then
    match (s.net.egb.map Prod.snd).find? (fun e => e.1.testBit 15 && bitsOf e.1 14 0 == outTid n u) with
    | none => false
    | some e => (List.range 4).any (fun m =>
        (bitsOf e.1 19 16).testBit m && s.rd R.ETH_MAC_STAT_STATE m == 2 &&
          decide (32768 < (((s.net.macs.get {} m).tx.map (fun (x : TxFrame) => x.frame.length + 4)).sum +
            max 60 (u.payload.length + (if e.1.testBit 22 && beAt u.payload 12 2 != 0x8100 then 4 else 0)) + 4)))
  else if n = 21 ∨ n = 22 then
    match s.boundEngine (n - 21) (outTid n u) with
    | none => false
    | some l => !s.engRefuses l && s.unitWaits l u.payload.length
  else n == 19 && s.displayHolds (outTid n u)

/-! ### Selection -/

/-- Where a selected unit came from: the pinned send list, or a queue pair. -/
inductive Source where
  | pinned
  | queue (q tag : Nat)
deriving DecidableEq, Repr

/-- A unit that a level would send next. -/
structure Pick where
  level : Nat
  plane : Nat
  unit : Nat
  u : PUnit
  src : Source
  /-- Tier G rather than E, at level 4. -/
  tierG : Bool
deriving DecidableEq, Repr

/-- Queue pairs of a port with their class. -/
def portPairs (s : State) (n : Nat) (p : QPair → Bool) : List Nat :=
  (s.sch.pairs.filter (fun x => x.2.port == n && p x.2)).map Prod.fst

/-- Level 1: the first unit of the pinned send list (R171). A FENCE that is not complete holds those behind it (R26), and a unit later than a complete one waits for it (R27). -/
def pick1 (s : State) (n : Nat) : Option Pick :=
  let l := (s.egress n).pinned.filterMap (fun h => ((s.plane h.plane).units.get none h.unit).map (fun u => (h, u)))
  let l := l.takeWhile (fun x => !s.fenceWaits (x.2.queueAt n) x.2)
  match l.find? (fun x => !s.afterFence (x.2.queueAt n) x.2) with
  | none => none
  | some (h, u) => if s.mayStart n 0 && !s.heldBack n u then some ⟨1, h.plane, h.unit, u, .pinned, false⟩ else none

/-- Level 2: the unpinned protection unit that joined earliest. -/
def pick2 (s : State) (n : Nat) : Option Pick :=
  if !s.mayStart n 0 then none
  else
    let cs := (s.portPairs n (fun x => x.cls == 0)).filterMap (fun q =>
      ((s.pairHead q).filter (fun h => !s.heldBack n h.2.2)).map (fun h => (q, h)))
    let best := cs.foldl (fun (b : Option (Nat × Nat × QEnt × PUnit)) c => match b with
      | none => some c
      | some d => if c.2.2.1.joined < d.2.2.1.joined then some c else some d) none
    best.map (fun b => ⟨2, b.2.1, b.2.2.1.unit, b.2.2.2, .queue b.1 0, false⟩)

/-- Level 3: the next VC1 queue in turn whose record's peak bucket is above 0 (R174). -/
def pick3 (s : State) (n : Nat) : Option Pick :=
  if !s.mayStart n 1 then none
  else
    let qs := (s.portPairs n (fun x => x.cls == 1)).filter (fun q =>
      (s.pairHead q).any (fun h => peakOpen (s.allot h.2.2.entry.allot) && !s.heldBack n h.2.2))
    let rr := (s.egress n).rr
    match (match qs.find? (fun q => decide (rr < q)) with
      | some q => some q
      | none => qs.head?) with
    | none => none
    | some q => (s.pairHead q).map (fun h => ⟨3, h.1, h.2.1.unit, h.2.2, .queue q 0, false⟩)

/-- Level 4: the earliest finish tag of tier G, then of tier E; the lower queue of equal tags (R188). -/
def pick4 (s : State) (n : Nat) : Option Pick :=
  let cs := (s.portPairs n (fun x => decide (2 ≤ x.cls))).filterMap (fun q =>
    match s.pairHead q with
    | none => none
    | some h =>
      if s.mayStart n h.2.2.entry.cls && !s.heldBack n h.2.2 then
        some (q, s.tierOf (s.allot h.2.2.entry.allot), (s.pair q).tag.getD 0, h)
      else none)
  let best := fun t => (cs.filter (fun c => c.2.1 == t)).foldl
    (fun (b : Option (Nat × Nat × Nat × Nat × QEnt × PUnit)) c => match b with
      | none => some c
      | some d => if tagLt c.2.2.1 d.2.2.1 then some c else some d) none
  let mk := fun g (b : Nat × Nat × Nat × Nat × QEnt × PUnit) =>
    (⟨4, b.2.2.2.1, b.2.2.2.2.1.unit, b.2.2.2.2.2, .queue b.1 b.2.2.1, g⟩ : Pick)
  match best 0 with
  | some b => some (mk true b)
  | none => (best 1).map (mk false)

/-- The duplicate check of R37 on a selected unit: the new state of the store, and whether it is delivered. -/
def dedup (d : Option Dds) (sq : Nat) : Option Dds × Nat :=
  match d with
  | none => (some ⟨sq, 1⟩, 0)
  | some x =>
    let k := (sq + 65536 - x.last) % 65536
    if 1 ≤ k ∧ k ≤ 32768 then (some ⟨sq, (x.bitmap * 2 ^ min k 64 + 1) % 2 ^ 64⟩, 0)
    else if 65473 ≤ k then
      let b := 65536 - k
      if x.bitmap.testBit b then (some x, 1) else (some { x with bitmap := x.bitmap ||| 2 ^ b }, 0)
    else if k = 0 then (some x, 1)
    else (some x, 2)

/-- What the duplicate check decides for a unit at a port: 0 deliver, 1 duplicate, 2 stale, 3 no free entry (R146). -/
def checkDup (s : State) (n : Nat) (u : PUnit) : Option Dds × Nat :=
  let d := s.tun.dds.get none (n * 32768 + u.tid)
  if !u.entry.dedup then (d, 0)
  else if d.isNone && decide (32768 ≤ s.tun.dds.length) then (d, 3)
  else dedup d u.seq

/-- A picked unit leaves its list or queue; `sel` when the port selects it, so that virtual time moves (R187). -/
def takePick (s : State) (n : Nat) (k : Pick) (sel : Bool) : State :=
  let s := s.fencePassed k.plane (k.u.queueAt n) k.u.tid k.u.seq
  match k.src with
  | .pinned => s.updEgress n (fun e => e.keepHanded (fun h => !(h.plane == k.plane && h.unit == k.unit)))
  | .queue q tag =>
    if sel && k.level == 4 then
      let s := s.setQueue k.plane q ((s.queue k.plane q).filter (fun e => e.unit ≠ k.unit))
      let s := s.wr R.SCH_VT tag 0 n
      s.setPair q { s.pair q with fprev := tag, tag := none, tagged := (0, 0) }
    else
      let s := s.unqueue k.plane q k.unit
      if sel && k.level == 3 then s.updEgress n (fun e => { e with rr := q }) else s

/-- The first unpinned release of a protection tunnel toward a trunk that runs 2.0 is counted (R44). -/
def capWarn (s : State) (n tid : Nat) : State :=
  if s.tun.capWarned.get false (n * 32768 + tid) || s.rd R.TRK_LSTAT_V21 n == 1 then s
  else
    let s := s.updTun (fun t => { t with capWarned := t.capWarned.set false (n * 32768 + tid) true })
    (s.bump R.TMAP_CAPWARN_CNT).irq 0x280 6

/-- The port selects a unit: it becomes the level's part-sent unit (R170, R181, R187). -/
def selectPick (s : State) (n : Nat) (k : Pick) (d : Option Dds) (r : Nat) : State :=
  let before := s.tun.dds.get none (n * 32768 + k.u.tid)
  let s := if r = 3 then (s.bump R.SWA_DDS_FULL).irq 0x104 0
    else if k.u.entry.dedup then s.updTun (fun t => { t with dds := t.dds.set none (n * 32768 + k.u.tid) d })
    else s
  let s := s.takePick n k true
  let s := if k.level = 3 then s.charge k.u.entry.allot k.u.size false
    else if k.level = 4 then s.charge k.u.entry.allot k.u.size k.tierG
    else s
  let s := if k.level = 2 then s.capWarn n k.u.tid else s
  let sd : Sending :=
    { plane := k.plane, unit := k.unit, sent := 0, origTid := k.u.tid, tid := outTid n k.u,
      kind := k.u.kind, seq := k.u.seq, vc := s.portVc n k.u.entry.cls, ddsBefore := before, ddsKept := k.u.entry.dedup && r != 3,
      queue := match k.src with
        | .pinned => none
        | .queue q _ => some q }
  s.updEgress n (fun e => { e with sending := e.sending.set none k.level (some sd) })

/-- A unit that R37 discards is released without a charge, a tag or a cell slot (R170). -/
def discardPick (s : State) (n : Nat) (k : Pick) (r : Nat) : State :=
  let s := (s.takePick n k false).dropMember k.plane k.unit n 0
  if r = 1 then (s.bump R.TMAP_DUP_CNT).tally 0x122 else s.bump R.TMAP_STALE_CNT

/-- The abort cell that ends a part-sent unit of a level, when its VC has credit: it goes in the place of that unit's next cell (R171, R580; DEDUCED, log 150). -/
def abortAt (s : State) (n level : Nat) : Option (Nat × Cell) :=
  if n < 16 then (s.link n).aborts.find? (fun a => a.1 == level && decide (1 ≤ s.creditLeft n a.2.vc)) else none

/-- The part-sent unit of a level, when it can go on. -/
def partOf (s : State) (n level : Nat) : Option Sending :=
  match (s.egress n).sending.get none level with
  | none => none
  | some x => if 16 ≤ n ∨ 1 ≤ s.creditLeft n x.vc then some x else none

/-- The part-sent unit of a level, whether or not it can go on. -/
def busyLevel (s : State) (n level : Nat) : Bool := ((s.egress n).sending.get none level).isSome

/-- What a level would start. -/
def pickOf (s : State) (n : Nat) : Nat → Option Pick
  | 1 => s.pick1 n
  | 2 => s.pick2 n
  | 3 => s.pick3 n
  | _ => s.pick4 n

/-- The first level of R171 with a cell ready, having selected a unit where one had to be: duplicates are discarded on the way. `fuel` bounds them. -/
def chooseLevel (s : State) (n : Nat) : Nat → State × Option Nat
  | 0 => (s, none)
  | fuel + 1 =>
    match [1, 2, 3, 4].find? (fun l => (s.abortAt n l).isSome || (s.partOf n l).isSome || (!s.busyLevel n l && (s.pickOf n l).isSome)) with
    | none => (s, none)
    | some l =>
      if (s.abortAt n l).isSome || (s.partOf n l).isSome then (s, some l)
      else
        match s.pickOf n l with
        | none => (s, none)
        | some k =>
          let c := s.checkDup n k.u
          if c.2 = 1 ∨ c.2 = 2 then (s.discardPick n k c.2).chooseLevel n fuel
          else (s.selectPick n k c.1 c.2, some l)

/-! ### Sending -/

/-- A new cell goes out on a trunk: it takes the next sequence number, a credit and a replay entry (R67, R84). -/
def sendCell (s : State) (n : Nat) (c : Cell) : State :=
  let l := s.link n
  let c := { c with lseq := l.x }
  let s := s.setLink n { l with
    x := (l.x + 1) % 65536, replay := l.replay ++ [⟨l.x, c, none⟩],
    sent := l.sent.set 0 c.vc ((l.sent.get 0 c.vc + 1) % 2 ^ 24), sinceCtl := l.sinceCtl + 1, gapCtl := 0, gapLow := 0 }
  let s := (((s.emit (.cell n (encodeCell c))).sentBlocks n 32).bump R.TRK_TX_CELLS n).tally (0x010 + n)
  if 256 ≤ (s.link n).replay.length then
    ((s.updLink n (fun l => { l with stalledAt := some s.hw })).bump R.TRK_STALL_CNT n).irq (trunkPage n) 5
  else s

/-- A level's unit is done with: a WFQ pair's next head takes its tag behind it (R187, Table 5.3). -/
def endSending (s : State) (n level : Nat) (x : Sending) : State :=
  let s := s.updEgress n (fun e => { e with sending := e.sending.set none level none })
  match x.queue with
  | some q => if level = 4 then s.tagHead q true else s
  | none => s

/-- Copies of an Either fence in the other plane, which stand in a queue or the pinned send list of a port, are dropped once one is sent (R27). -/
def dropOther (s : State) (n p q tid sq : Nat) : State :=
  let o := 1 - p
  let mine := fun h => ((s.plane o).units.get none h).any (fun v => v.kind == kindFence && v.tid == tid && v.seq == sq)
  let hs := ((s.queue o q).take 1).map (fun (e : QEnt) => e.unit)
  let s := (hs.filter mine).foldl (fun s h => s.dropFence o q h) s
  let l := ((s.egress n).pinned ++ (s.egress n).waiting).filter (fun h => h.plane == o && mine h.unit)
  l.foldl (fun s h => s.dropMember o h.unit n 0) (s.updEgress n (fun e => e.keepHanded (fun h => !(h.plane == o && mine h.unit))))

/-- A FENCE unit has been sent (R27): the other plane's copy of an Either fence is not needed. -/
def fenceOut (s : State) (n : Nat) (x : Sending) (u : PUnit) : State :=
  if u.kind ≠ kindFence then s
  else
    let q := u.queueAt n
    let either := u.entry.policy == policyEither
    let had := either && (s.fenceOf q u.tid u.seq).any (fun f => f.copies.contains (1 - x.plane))
    let s := s.fenceSent x.plane q u.tid u.seq either
    if had then s.dropOther n x.plane q u.tid u.seq else s

/-- The k-th cell of a unit as a trunk sends it (R60, R61, R90). -/
def cellFor (s : State) (n : Nat) (x : Sending) (u : PUnit) : Cell :=
  let last := decide (u.cells.length ≤ x.sent + 1)
  let bytes := (u.payload.drop (236 * x.sent)).take 236
  { lseq := 0, vc := x.vc, cont := decide (0 < x.sent), kind := x.kind, plane := x.plane, tid := x.tid,
    len := if last then bytes.length else 0xFF, useq := x.seq,
    tsw := if x.sent = 0 ∧ s.rd R.TRK_LSTAT_V21 n = 1 then u.tsw else x.sent, payload := padTo 236 bytes }

/-- An uncorrectable error in the cell just read: the whole unit is discarded, and another plane's copy may still be delivered (R134). -/
def dataError (s : State) (n level : Nat) (x : Sending) : State :=
  let s := if x.ddsKept then s.updTun (fun t => { t with dds := t.dds.set none (n * 32768 + x.origTid) x.ddsBefore }) else s
  let s := (s.dropMember x.plane x.unit n x.sent).endSending n level x
  ((s.bump R.SW_ECC_CNT_UNCORR x.plane).tally 0x1D1).event (planePage x.plane) 4 x.origTid

/-- The adapter at SP17 holds the cells of a data unit until it has copied them to a slot (R278). -/
def copiesLater (n : Nat) (u : PUnit) : Bool := n == 17 && u.kind == kindData && u.payload.length != 16

/-- A port has read the last cell of a unit. -/
def unitRead (s : State) (n : Nat) (x : Sending) (u : PUnit) : State :=
  if copiesLater n u then { s with sto := { s.sto with copying := s.sto.copying ++ [(x.plane, x.unit, x.tid)] } }
  else s.forgetMember x.plane x.unit n

/-- Sends the next cell of a level's part-sent unit; `ecc` is 1 for a corrected and 2 for an uncorrectable error in it (R133, R134). -/
def sendPart (s : State) (n level ecc : Nat) (x : Sending) : State :=
  match (s.plane x.plane).units.get none x.unit with
  | none => s.endSending n level x
  | some u =>
    if ecc = 2 then s.dataError n level x
    else
      let s := if ecc = 1 then (s.bump R.SW_ECC_CNT_CORR x.plane).tally 0x1D0 else s
      let s := if n < 16 then s.sendCell n (s.cellFor n x u) else s
      let s := if copiesLater n u then s else s.releaseAt x.plane x.unit x.sent
      if x.sent + 1 < u.cells.length then
        s.updEgress n (fun e => { e with sending := e.sending.set none level (some { x with sent := x.sent + 1 }) })
      else
        let s := ((s.unitRead n x u).fenceOut n x u).endSending n level x
        if n < 16 then s else s.emit (.unit n ⟨x.tid, x.kind, u.payload, x.seq, u.tsw⟩)

/-- Sends an abort cell (R580). -/
def sendAbort (s : State) (n : Nat) (a : Nat × Cell) : State :=
  (s.updLink n (fun l => { l with aborts := l.aborts.erase a })).sendCell n a.2

/-- The port may send a new cell: a trunk in UP or DRAIN, with room in the replay buffer, its further CAP blocks sent, and no resend waiting (R73, R75, R86). -/
def portOpen (s : State) (n : Nat) : Bool :=
  decide (16 ≤ n) ||
    (s.linkRuns n && decide ((s.link n).replay.length < 256) && (s.link n).capLeft == 0 && (s.link n).resend.isEmpty)

/-- A cell boundary of an egress port: it sends the next cell from the first ready level (R171, R172); says whether one went. -/
def sendNext (s : State) (n ecc : Nat) : State × Bool :=
  if !s.portOpen n then (s, false)
  else
    match s.chooseLevel n ((s.plane 0).units.length + (s.plane 1).units.length + 1) with
    | (s, none) => (s, false)
    | (s, some l) =>
      match s.abortAt n l, s.partOf n l with
      | some a, _ => (s.sendAbort n a, true)
      | none, some x => (s.sendPart n l ecc x, true)
      | none, none => (s, false)

/-! ### Control blocks and resends -/

def isAck : Ctl → Bool
  | .ack .. => true
  | _ => false

def isTime : Ctl → Bool
  | .time .. => true
  | _ => false

/-- A block goes out on a trunk. -/
def sendCtl (s : State) (n : Nat) (b : Ctl) : State :=
  let r := (s.updLink n (fun l => { l with ready := l.ready.erase b })).timeDeparts n b
  let low := !isAck b && !isTime b
  let s := ((r.1.emit (.ctl n r.2)).sentBlocks n 1).updLink n (fun l => { l with
    sinceCtl := 0, gapCtl := l.gapCtl + 1, gapLow := l.gapLow + (if low then 1 else 0) })
  match b with
  | .ack _ _ m => if m = 0 then s else s.bump R.TRK_NAK_TX n
  | _ => s

/-- The next block of the oldest triggered ACK departs with the receiver's state as it is now (R77): blocks with BASE 0, 24, 48 and so on, as many as cover the holes. -/
def sendAck (s : State) (n : Nat) : State :=
  match (s.link n).acks with
  | [] => s
  | k :: t =>
    let bs := s.ackBlocks n
    let s := s.updLink n (fun l => { l with acks := if k + 1 < bs.length then (k + 1) :: t else t })
    match bs[k]? with
    | some b => s.sendCtl n b
    | none => s

/-- Sends the control blocks that fit in the gap between two cells: ready ACKs, ready TIMEs, then CREDIT and HEALTH blocks, at most two of these, and four in all (R66). `fuel` bounds them. -/
def fillGap (s : State) (n : Nat) : Nat → State
  | 0 => s
  | fuel + 1 =>
    let l := s.link n
    if 4 ≤ l.gapCtl then s
    else if !l.acks.isEmpty then (s.sendAck n).fillGap n fuel
    else
      match l.ready.find? isTime with
      | some b => (s.sendCtl n b).fillGap n fuel
      | none =>
        match l.ready with
        | [] => s
        | b :: _ => if 2 ≤ l.gapLow then s else (s.sendCtl n b).fillGap n fuel

/-- Sends what the present gap between cells takes. -/
def gap (s : State) (n : Nat) : State := s.fillGap n 8

/-- At least one control block goes after 16 consecutive cells (R58): IDLE when no other is ready (DEDUCED, log 124). -/
def keepGap (s : State) (n : Nat) : State :=
  if (s.link n).sinceCtl < 16 then s
  else
    let s := s.gap n
    if (s.link n).sinceCtl < 16 then s else s.sendCtl n .idle

/-- Resends the first cell that waits for it (R67, R73). -/
def resendOne (s : State) (n : Nat) : State :=
  let l := s.link n
  match l.resend with
  | [] => s
  | q :: t =>
    match l.replay.find? (fun r => r.seq == q) with
    | none => s.setLink n { l with resend := t }
    | some r =>
      let s := s.setLink n { l with
        resend := t, sinceCtl := l.sinceCtl + 1, gapCtl := 0, gapLow := 0,
        replay := l.replay.map (fun x => if x.seq = q then { x with resentAt := some s.hw } else x) }
      (((s.emit (.cell n (encodeCell r.cell))).sentBlocks n 32).bump R.TRK_RESENT n).tally (0x040 + n)

/-- A stall ends at the first cell slot after an ACK has freed an entry; a slot in the stall is counted (R75). -/
def stallSlot (s : State) (n : Nat) : State :=
  match (s.link n).stalledAt with
  | none => s
  | some t =>
    if (s.link n).replay.length < 256 then
      (s.bumpBy R.TRK_STALL_NS (s.hw - t) n).updLink n (fun l => { l with stalledAt := none })
    else s.tally (0x050 + n)

/-- Sends every ACK block that waits, as long as `fuel` lasts. -/
def sendAcks (s : State) (n : Nat) : Nat → State
  | 0 => s
  | fuel + 1 => if (s.link n).acks.isEmpty then s else (s.sendAck n).sendAcks n fuel

/-- Sends every ready block, when no cell is ready (R66); IDLE when there is none. -/
def sendReady (s : State) (n : Nat) : State :=
  if (s.link n).acks.isEmpty && (s.link n).ready.isEmpty then s.sendCtl n .idle
  else
    let s := s.sendAcks n 32
    let l := (s.link n).ready
    ((l.filter isTime) ++ (l.filter (fun b => !isTime b))).foldl (fun s b => s.sendCtl n b) s

/-- A cell is ready at a trunk: one to resend, or a new one that the next boundary sends (R66). -/
def cellReady (s : State) (n : Nat) : Bool := !(s.link n).resend.isEmpty || (s.sendNext n 0).2

/-- A cell boundary of a trunk whose link runs: the control blocks that fit in the gap, then a resend or a new cell (R58, R66, R73, R75); says whether a cell went. -/
def trunkCell (s : State) (n ecc : Nat) : State × Bool :=
  let s := ((s.stallSlot n).gap n).keepGap n
  if !(s.link n).resend.isEmpty then (s.resendOne n, true) else s.sendNext n ecc

/-- A cell slot of a trunk's transmitter; with no cell ready every block that waits goes (R66), and a link in CAP or HALT sends IDLE (Table 2.5). -/
def trunkSlot (s : State) (n ecc : Nat) : State :=
  if s.linkState n = linkCap ∨ s.linkState n = linkHalt then s.sendCtl n .idle
  else if !s.linkRuns n then s
  else
    let r := s.trunkCell n ecc
    if r.2 then r.1.drained n else (r.1.sendReady n).drained n

/-! ### Carousels and the pinned send list -/

/-- A pinned FENCE copy has arrived when the Carousel hands it to its port, which is where its order is kept (R25; DEDUCED, log 122); the answer says that the copy is not needed any more. -/
def pinnedFence (s : State) (n p h : Nat) : State × Bool :=
  match (s.plane p).units.get none h with
  | some u => if u.kind = kindFence then s.fenceCopy p (u.queueAt n) u else (s, false)
  | none => (s, false)

/-- A unit is handed to its port (R177). -/
def handUnit (s : State) (n p : Nat) (x : Pinned) : State :=
  let h : Handed := ⟨p, x.unit, x.release, x.release + s.rd R.SCH_LATE_TOL⟩
  let r := s.pinnedFence n p x.unit
  let s := r.1
  if r.2 then s.dropMember p x.unit n 0
  else
  (s.updEgress n (fun e =>
    if e.pinned.length < 8 then { e with pinned := e.pinned ++ [h] } else { e with waiting := e.waiting ++ [h] })).tally (0x110 + p)

/-- The units of a slot that has ended are handed, plane A's first. -/
def endSlot (s : State) (n slot p : Nat) : State :=
  let k := n * 4096 + slot
  let due := fun (x : Pinned) => decide (x.release / 8 * 8 + 8 ≤ s.panelNs)
  let l := (s.plane p).carousel.get [] k
  (l.filter due).foldl (fun s x => s.handUnit n p x)
    (s.updPlane p (fun x => { x with carousel := x.carousel.set [] k (l.filter (fun e => !due e)) }))

/-- Parked units that have come within the horizon move to their slots (R176). -/
def parkScan (s : State) (p : Nat) : State :=
  let near := fun (x : Pinned) => decide (x.release < s.panelNs + 32768)
  let l := (s.plane p).park
  s.updPlane p (fun x => { x with
    park := l.filter (fun e => !near e),
    carousel := (l.filter near).foldl (fun c e => c.upd [] (e.port * 4096 + e.release / 8 % 4096) (· ++ [e])) x.carousel })

/-- Handed units that have had no room until their deadline are missed (R178). -/
def missDeadline (s : State) (n : Nat) : State :=
  let late := fun (h : Handed) => decide (h.deadline ≤ s.panelNs)
  let l := (s.egress n).waiting
  (l.filter late).foldl (fun s h => s.missed h.plane h.unit n (h.deadline - h.release))
    (s.updEgress n (fun e => { e with waiting := l.filter (fun h => !late h) }))

end State

/-- EGRESS_CELL_BOUNDARY (R171): a port sends its next cell, a trunk after the control blocks that fit in the gap before it (R66); `ecc` is 1 when the cell read had a single-bit error and 2 when it was uncorrectable. -/
def execEgressCellBoundary (n ecc : Nat) (s : State) : Host.Outcome State Fault Refusal :=
  guardedIn 1 s (decide (n < 24) && decide (ecc < 3))
    (let s := s.begin
     if 16 ≤ n then (s.sendNext n ecc).1 else if s.linkRuns n then (s.trunkCell n ecc).1.drained n else s)

/-- CELL_TRANSMIT (R84): a cell slot of a trunk's transmitter. -/
def execCellTransmit (n ecc : Nat) (s : State) : Host.Outcome State Fault Refusal :=
  guardedIn 1 s (decide (n < 16) && decide (ecc < 3)) (s.begin.trunkSlot n ecc)

/-- ACK_SEND (R77): a triggered ACK departs with the blocks of its gap; while no cell is ready every ready block goes (R66). -/
def execAckSend (n : Nat) (s : State) : Host.Outcome State Fault Refusal :=
  guardedIn (6 + n / 4) s (decide (n < 16))
    (if s.linkRuns n ∧ (s.link n).acks ≠ [] then (if s.cellReady n then s.begin.gap n else s.begin.sendReady n)
     else s.begin)

/-- PARK_SCAN (R176). -/
def execParkScan (p : Nat) (s : State) : Host.Outcome State Fault Refusal :=
  guardedIn (4 + p) s (decide (p < 2)) (s.begin.parkScan p)

/-- CAROUSEL_SLOT_END (R177). -/
def execCarouselSlotEnd (n slot : Nat) (s : State) : Host.Outcome State Fault Refusal :=
  guardedIn 1 s (decide (n < 24) && decide (slot < 4096)) ((s.begin.endSlot n slot 0).endSlot n slot 1)

/-- MISS_DEADLINE (R178). -/
def execMissDeadline (n : Nat) (s : State) : Host.Outcome State Fault Refusal :=
  guardedIn 1 s (decide (n < 24)) (s.begin.missDeadline n)

end Sys2Proof.Machine
end

