-- ==== Sys2Proof/Machine/Time.lean ====
section
/-! DEFINITION. The commands of panel time (chapter 06): SET, STEP, SLEW and captures, the sources, the exchanges over trunks, and PPS_OUT. -/

namespace Sys2Proof.Machine

/-- TIM_CMD. -/
def timCmdAddr : Nat := 0x040058

/-- Days from 1970-01-01 to the first of January of a year. -/
def daysToYear (y : Nat) : Nat :=
  (y - 1970) * 365 + ((y - 1) / 4 - 492) - ((y - 1) / 100 - 19) + ((y - 1) / 400 - 4)

namespace State

def timResult (s : State) (r : Nat) : State := s.wr R.TIM_RESULT_LAST_RESULT r

/-- A command of TIM_CMD: refused while a SET or STEP waits for its boundary (R56, Table 6.9; log 132). -/
def timCmd (s : State) (path op : Nat) (act : State → State) : State :=
  s.gateWrite path timCmdAddr op (fun s => if s.rd R.TIM_RESULT_BUSY = 1 then s.timResult 0xC else act s)

/-- A SET or STEP is accepted, and waits for the next refill boundary, one in the cycle of a boundary for the following one (R185, R205). -/
def timAccept (s : State) (w : Sum (Nat × Nat) Int) : State :=
  ((s.ask (fun r => { r with times := r.times ++ [w] })).wr R.TIM_RESULT_BUSY 1).timResult 0

/-- SET (R205, R206, R209). -/
def timeSet (s : State) : State :=
  let sec := s.rd R.TIM_SET_SEC
  let ns := s.rd R.TIM_SET_NS
  if s.tim.engaged ∧ s.rd R.TIM_STAT_STATE ≠ timeFree then s.timResult 2
  else if s.pinnedMap then s.refuseStep ((sec * 1000000000 + ns : Nat) - (s.panelNs : Int))
  else s.timAccept (.inl (sec, ns))

/-- STEP (R205, R206, R209). -/
def timeStep (s : State) : State :=
  let d := signedOf 64 (s.rd R.TIM_STEP)
  if s.tim.engaged then s.timResult 2
  else if s.pinnedMap ∧ (s.rd R.TIM_PIN_STEP : Int) < |d| then s.refuseStep d
  else s.timAccept (.inr (16 * d))

/-! ### Sources -/

/-- The seconds of panel time that a frame's on-time marker stands for (R212, R213): B000 to B003 take the year from TIM_IRIG_YEAR, a two-digit year counts from 2000 (PRESUMED, log 34), and the control bits apply when IEEE1344 and LOCAL are 1. -/
def irigSec (s : State) (code year day hour min sec : Nat) (localOfs : Int) : Int :=
  let y := if code < 4 then s.rd R.TIM_IRIG_YEAR else 2000 + year
  let l : Int := if s.rd R.TIM_IRIG_CFG_IEEE1344 = 1 ∧ s.rd R.TIM_IRIG_CFG_LOCAL = 1 then localOfs else 0
  ((daysToYear y + (day - 1)) * 86400 + hour * 3600 + min * 60 + sec + s.rd R.TIM_UTC_OFS : Nat) + l

/-- The phase offset of a once-a-second source from its captured nanoseconds, wrapped into ±500,000,000 ns (R216). -/
def phaseOf (ns : Nat) : Int := if ns ≤ 500000000 then -(ns : Int) else 1000000000 - (ns : Int)

/-- A source of a kind is the one in use. -/
def usesKind (s : State) (k : Nat) : Bool := s.sourceHolds && s.rd R.TIM_STAT_SOURCE / 32 == k

/-- Two instants of hardware time lie 1 s ± 10 µs apart. -/
def secondApart (s : State) (last : Option Nat) : Bool :=
  match last with
  | none => false
  | some t => decide (t + 999990000 ≤ s.hw) && decide (s.hw ≤ t + 1000010000)

/-- A kind is disqualified: its fault is flagged if it was qualified, and the source in use chosen again (R210, R211). -/
def disqualify (s : State) (k : Nat) : State :=
  if k = kindPps then
    let was := s.tim.ppsQual
    let s := s.updTim (fun t => { t with ppsQual := false })
    (if was then s.timeEvent 6 else s).reselect
  else if k = kindIrig then
    let was := s.tim.irigQual
    let s := s.updTim (fun t => { t with irigQual := false })
    (if was then s.timeEvent 7 else s).reselect
  else
    let was := s.tim.ptpQual
    let s := s.updTim (fun t => { t with ptpQual := false })
    (if was then s.timeEvent 8 else s).reselect

/-- A 1PPS edge (R211, R214, R216). -/
def ppsEdge (s : State) : State :=
  let s := s.captureAt 0 (s.tsOffset 0 false)
  let near := s.secondApart s.tim.ppsLast
  let late := s.tim.ppsLast.isSome && !near
  let s := s.updTim (fun t => { t with ppsLast := some s.hw, ppsRun := if near then t.ppsRun + 1 else 1 })
  let s :=
    if late then s.disqualify kindPps
    else if 4 ≤ s.tim.ppsRun ∧ s.tim.ppsQual = false then (s.updTim (fun t => { t with ppsQual := true })).reselect
    else s
  if s.usesKind kindPps then s.followerSample (16 * phaseOf (s.rd R.TIM_CAP_NS 0 0)) 1000 else s

/-- An IRIG-B frame that decodes without error in the expression selected (R211, R212, R216). -/
def irigGood (s : State) (t : Int) : State :=
  let s := s.captureAt 1 (s.tsOffset 1 false)
  let near := s.secondApart s.tim.irigLast
  let s := s.updTim (fun x => { x with irigLast := some s.hw, irigBad := 0, irigRun := if near then x.irigRun + 1 else 1 })
  let s := if 3 ≤ s.tim.irigRun ∧ s.tim.irigQual = false then (s.updTim (fun x => { x with irigQual := true })).reselect else s
  if s.usesKind kindIrig then
    let ns := s.rd R.TIM_CAP_NS 0 1
    let d := t - ((s.tim.capSec.get 0 1 : Nat) + (if ns ≤ 500000000 then 0 else 1) : Int)
    let s := s.followerSample (16 * phaseOf ns) 1000
    if d = 0 then s else s.followerStep (d * 16000000000) false
  else s

/-- A frame in error, or one that is missing (R211). -/
def irigBadFrame (s : State) : State :=
  let s := s.updTim (fun x => { x with irigRun := 0, irigBad := x.irigBad + 1 })
  if 2 ≤ s.tim.irigBad then s.disqualify kindIrig else s

/-- Drops to the higher-priority source whose hold has ended (R210). -/
def holdExpired (s : State) (k : Nat) : State :=
  if s.tim.holding.contains k then
    let s := s.reselect
    if s.tim.holding.contains k then s.followSlot k else s
  else s

/-! ### Exchanges -/

/-- An end of a link in UP originates an exchange: TIME subtype 0, and on a 2.1 link its trim in subtype 4 (R220, R225). -/
def originate (s : State) (n : Nat) : State :=
  if s.linkState n ≠ linkUp then s
  else
    let x := s.trunkTime n
    let s := s.setTrunkTime n { x with nextId := (x.nextId + 1) % 32, exch := some { id := x.nextId }, done := none }
    let s := s.readyCtl n (.time 0 x.nextId 0)
    if s.rd R.TRK_LSTAT_V21 n = 1 then s.readyCtl n (.time 4 0 (s.rd R.TIM_ASYMU 0 n)) else s

/-- A measurement is discarded: counted and flagged unless a STEP or SET fell within it; eight counted ones in a row empty the mean (R223). -/
def discardExchange (s : State) (n : Nat) (e : Exchange) (d : Int) : State :=
  let x := s.trunkTime n
  let x := { x with exch := none, done := none, missRun := x.missRun + 1 }
  if e.stepped then (s.setTrunkTime n x).reselect
  else
    let s := s.setTrunkTime n { x with badRun := x.badRun + 1 }
    let s := (s.bump R.TIM_CDLY_BAD 0 n).event 0x042 0 (n + unsignedOf 24 d * 256)
    let s :=
      if 8 ≤ x.badRun + 1 then
        let s := s.setTrunkTime n { s.trunkTime n with kept := [] }
        ((s.wr R.TIM_CDLY_KNOWN 0 0 n).wr R.TIM_CDLY_KEPT 0 0 n).wr R.TIM_CDLY_MEAN 0 0 n
      else s
    s.reselect

/-- A kept measurement enters the mean of the last 16 (R224). -/
def keepExchange (s : State) (n d2 : Nat) (times : Nat × Nat × Nat × Nat) : State :=
  let x := s.trunkTime n
  let kept := (d2 :: x.kept).take 16
  let s := s.setTrunkTime n { x with exch := none, done := some times, kept := kept, badRun := 0, missRun := 0 }
  let m := s.roundDiv ((kept.sum : Nat) : Int) (2 * kept.length)
  let s := ((s.wr R.TIM_CDLY_MEAN m.toNat 0 n).tookFree).wr R.TIM_CDLY_KEPT kept.length 0 n
  (if kept.length = 16 then s.wr R.TIM_CDLY_KNOWN 1 0 n else s).reselect

/-- The answer's subtype 2 completes the measurement (R222, R223). -/
def measure (s : State) (n : Nat) (e : Exchange) (t1 t2 t3 t4 : Nat) : State :=
  let d2 : Int := ((t4 : Int) - t1) - (((t3 : Int) - t2) % 2 ^ 40)
  let mean2 : Int := 2 * s.rd R.TIM_CDLY_MEAN 0 n
  if e.switched ∨ e.stepped ∨ d2 < 0 ∨ 800000 < d2 ∨ (s.rd R.TIM_CDLY_KNOWN 0 n = 1 ∧ 2048 < |d2 - mean2|) then
    s.discardExchange n e (d2 / 2)
  else s.keepExchange n d2.toNat (t1, t2, t3, t4)

/-- The receive-minus-transmit asymmetry in use on a trunk, in 1/16 ns (R225). -/
def asymInUse (s : State) (n : Nat) : Int :=
  clampInt (-32768) 32767 (signedOf 16 (s.rd R.TIM_ASYMF 0 n) +
    (if s.rd R.TIM_TRK_TCFG_ADOPT_PEER 0 n = 1 ∧ s.rd R.TRK_LSTAT_V21 n = 1 then -signedOf 16 (s.rd R.TIM_PEER_ASYM 0 n)
     else signedOf 16 (s.rd R.TIM_ASYMU 0 n)))

/-- The answer's subtype 3: the peer's time state, and a sample for the follower when this trunk is the source in use (R210, R216, R221, R222). -/
def timeOfDay (s : State) (n id stamp : Nat) : State :=
  let x := s.trunkTime n
  let s := s.setTrunkTime n { x with peer := some (id.testBit 4, id.testBit 3, id % 8), done := none }
  let s := s.reselect
  match x.done with
  | none => s
  | some (t1, t2, t3, t4) =>
    if s.usesKind kindTrunk ∧ s.rd R.TIM_STAT_SOURCE % 16 = n then
      let far3 : Int := (stamp : Int) * 16000000000 + ((t3 : Int) - (stamp : Int) * 16000000000) % 2 ^ 40
      let far2 := far3 - ((t3 : Int) - t2) % 2 ^ 40
      let sec := s.panelNs / 1000000000
      let base : Int := (sec / 2 ^ 40 * 2 ^ 40 : Nat) * 16000000000
      let two := (far2 + base - t1) - ((t4 : Int) - (far3 + base)) + s.asymInUse n
      (s.followerSample (s.roundDiv two 2) 1).tookFree
    else s

/-- A block of the answer arrives on a lane: subtype 1 with t2, at t4; subtype 2 with t3; subtype 3 (R220, R222). -/
def echoIn (s : State) (n lane sub id stamp : Nat) : State :=
  let x := s.trunkTime n
  if s.linkState n ≠ linkUp then s
  else if sub = 3 then s.timeOfDay n id stamp
  else
    match x.exch with
    | none => s
    | some e =>
      if e.id ≠ id then s
      else if sub = 1 then
        s.setTrunkTime n { x with exch := some { e with t24 := some (stamp, s.stampAfter (s.rxLat n lane)) } }
      else
        match e.t1, e.t24 with
        | some t1, some (t2, t4) => s.measure n e t1 t2 stamp t4
        | _, _ => s

end State

/-- TIM_NOW_READ (R202): a read of TIM_NOW_NS latches the seconds of the same instant. -/
def execTimNowRead (path : Nat) (s : State) : Host.Outcome State Fault Refusal :=
  guarded (decide (path < 8))
    (s.begin.gateRead path 0x040040 (fun s => (s.setLatch path 0x040044 s.tim.sec).answer path s.tim.ns))

/-- TIME_SET (R205). -/
def execTimeSet (path : Nat) (s : State) : Host.Outcome State Fault Refusal :=
  guarded (decide (path < 8)) (s.begin.timCmd path 1 State.timeSet)

/-- TIME_STEP (R205). -/
def execTimeStep (path : Nat) (s : State) : Host.Outcome State Fault Refusal :=
  guarded (decide (path < 8)) (s.begin.timCmd path 2 State.timeStep)

/-- TIME_SLEW (R208, R209). -/
def execTimeSlew (path : Nat) (s : State) : Host.Outcome State Fault Refusal :=
  guarded (decide (path < 8))
    (s.begin.timCmd path 3 (fun s =>
      if s.tim.engaged then s.timResult 2 else (s.slewBy (signedOf 32 (s.rd R.TIM_SLEW))).timResult 0))

/-- SLEW_ABORT (R208). -/
def execSlewAbort (path : Nat) (s : State) : Host.Outcome State Fault Refusal :=
  guarded (decide (path < 8)) (s.begin.timCmd path 4 (fun s => (s.slewBy 0).timResult 0))

/-- TIME_CAPTURE (R233): a software capture into capture 2. -/
def execTimeCapture (path : Nat) (s : State) : Host.Outcome State Fault Refusal :=
  guarded (decide (path < 8)) (s.begin.timCmd path 5 (fun s => (s.captureAt 2 0).timResult 0))

/-- FADJ_WRITE (R204, R209). -/
def execFadjWrite (path data : Nat) (s : State) : Host.Outcome State Fault Refusal :=
  guarded (decide (path < 8))
    (s.begin.gateWrite path 0x040070 data (fun s =>
      if s.tim.engaged then s.timResult 2
      else s.wr R.TIM_FADJ (unsignedOf 32 (clampInt (-128000000) 128000000 (signedOf 32 (data % 2 ^ 32))))))

/-- SOURCE_QUALIFIED (R210): the source that a slot names has come to be qualified. -/
def execSourceQualified (k : Nat) (s : State) : Host.Outcome State Fault Refusal :=
  guardedIn 1 s (decide (k < 4)) (if s.sourceQualified (s.slotByte k) then s.begin.reselect else s.begin)

/-- SOURCE_DISQUALIFIED (R210): the source that a slot names is no longer qualified. -/
def execSourceDisqualified (k : Nat) (s : State) : Host.Outcome State Fault Refusal :=
  guardedIn 1 s (decide (k < 4)) (if s.sourceQualified (s.slotByte k) then s.begin else s.begin.reselect)

/-- SOURCE_HOLD_EXPIRY (R210). -/
def execSourceHoldExpiry (k : Nat) (s : State) : Host.Outcome State Fault Refusal :=
  guardedIn 1 s (decide (k < 4)) (s.begin.holdExpired k)

/-- PTP_QUAL_WRITE (R211, R215). -/
def execPtpQualWrite (path data : Nat) (s : State) : Host.Outcome State Fault Refusal :=
  guarded (decide (path < 8))
    (s.begin.gateWrite path 0x041048 data (fun s =>
      let s := s.store path 0x041048 data [R.TIM_PTP_QUAL_QUAL, R.TIM_PTP_QUAL_LOCK, R.TIM_PTP_QUAL_DELAY_KNOWN]
      (s.updTim (fun t => { t with ptpQual := data % 2 == 1 })).reselect))

/-- PTP_TMO (R211). -/
def execPtpTmo (s : State) : Host.Outcome State Fault Refusal :=
  nextIn 1 s (s.begin.disqualify kindPtp)

/-- IRIG_FRAME (R212): the on-time marker of a frame, with what the frame decodes to: its expression B000 to B007, two-digit year, day of year, time of day, and the seconds that its control bits add to reach UTC; `err` for a frame in error. -/
def execIrigFrame (err : Bool) (code year day hour min sec : Nat) (localOfs : Int) (s : State) :
    Host.Outcome State Fault Refusal :=
  nextIn 1 s (let s := s.begin
    if err || code != s.rd R.TIM_IRIG_CFG_CODE then s.irigBadFrame
    else s.irigGood (s.irigSec code year day hour min sec localOfs))

/-- IRIG_FAULT (R211): two frames in a row are missing. -/
def execIrigFault (s : State) : Host.Outcome State Fault Refusal :=
  nextIn 1 s ((s.begin.updTim (fun x => { x with irigRun := 0, irigBad := 2 })).disqualify kindIrig)

/-- PPS_EDGE (R214). -/
def execPpsEdge (s : State) : Host.Outcome State Fault Refusal := nextIn 1 s s.begin.ppsEdge

/-- PPS_FAULT (R211): no edge for 1.1 s. -/
def execPpsFault (s : State) : Host.Outcome State Fault Refusal :=
  nextIn 1 s ((s.begin.updTim (fun x => { x with ppsRun := 0, ppsLast := none })).disqualify kindPps)

/-- HOLD_TIME_EXPIRY (R577): FREE, unless a source is followed again. -/
def execHoldTimeExpiry (s : State) : Host.Outcome State Fault Refusal :=
  nextIn 1 s (let s := s.begin
    if s.rd R.TIM_STAT_STATE = timeHoldover then
      ((s.wr R.TIM_STAT_HOPS 7).wr R.TIM_STAT_DELAY_KNOWN 0).setTimeState timeFree 0
    else s)

/-- EXCHANGE_ORIGINATE (R220). -/
def execExchangeOriginate (n : Nat) (s : State) : Host.Outcome State Fault Refusal :=
  guardedIn (6 + n / 4) s (decide (n < 16)) (s.begin.originate n)

/-- TIME_SYMBOL_RECEIVED (R220): a TIME subtype 0 arrives on a lane and is answered; subtypes 2 and 3 follow subtype 1 as it departs. -/
def execTimeSymbolReceived (n lane id : Nat) (s : State) : Host.Outcome State Fault Refusal :=
  guardedIn (6 + n / 4) s (decide (n < 16) && decide (lane < 3) && decide (id < 32))
    (let s := s.begin
     if s.linkRuns n then s.readyCtl n (.time 1 id (s.stampAfter (s.rxLat n lane) % 2 ^ 40)) else s)

/-- TIME_ECHO_RECEIVED (R222): a block of the answer, subtype 1, 2 or 3, arrives on a lane. -/
def execTimeEchoReceived (n lane sub id stamp : Nat) (s : State) : Host.Outcome State Fault Refusal :=
  guardedIn (6 + n / 4) s (decide (n < 16) && decide (lane < 3) && decide (1 ≤ sub ∧ sub ≤ 3) && decide (id < 32))
    (s.begin.echoIn n lane sub id (stamp % 2 ^ 40))

/-- EXCHANGE_TIMEOUT (R223): the echo has not returned within 100 µs; the discarded d is a free value. -/
def execExchangeTimeout (n : Nat) (s : State) : Host.Outcome State Fault Refusal :=
  guardedIn (6 + n / 4) s (decide (n < 16))
    (let s := s.begin
     match (s.trunkTime n).exch with
     | none => s
     | some e => (s.discardExchange n e s.freeNat).tookFree)

/-- ASYM_TRIM_RECEIVED (R225). -/
def execAsymTrimReceived (n stamp : Nat) (s : State) : Host.Outcome State Fault Refusal :=
  guardedIn (6 + n / 4) s (decide (n < 16))
    (if s.rd R.TRK_LSTAT_V21 n = 1 then s.begin.wr R.TIM_PEER_ASYM (stamp % 2 ^ 16) 0 n else s.begin)

/-- PPS_OUT_RISE (R227, R228): the nanoseconds count passes 0, the offset of the pin before it. -/
def execPpsOutRise (s : State) : Host.Outcome State Fault Refusal :=
  nextIn 1 s (let s := s.begin
    if s.ppsDue ∧ s.rd R.TIM_PPSOUT_CFG_EN = 1 ∧ (s.rd R.TIM_PPSOUT_CFG_GATE = 0 ∨ s.rd R.TIM_STAT_SYNC_VALID = 1) then
      s.updTim (fun t => { t with ppsOut := true })
    else s)

/-- PPS_OUT_FALL (R228). -/
def execPpsOutFall (s : State) : Host.Outcome State Fault Refusal :=
  nextIn 1 s (s.begin.updTim (fun t => { t with ppsOut := false }))

end Sys2Proof.Machine
end

