-- ==== Sys2Proof/Machine/Sched.lean ====
section
/-! DEFINITION. The refill boundary and the scheduler's tables (chapter 05): SET and STEP as they apply, release groups, allotments, policers, queue pairs, samplers and histograms. -/

namespace Sys2Proof.Machine

/-- The command registers of pages 0x201 to 0x204. -/
def schQCmdAddr : Nat := 0x201048
def schAlCmdAddr : Nat := 0x202050
def schPolCmdAddr : Nat := 0x203050
def schSmpCmdAddr : Nat := 0x204048

/-- Puts a unit in its place by a key, after those with an equal key. -/
def insertByKey {α : Type} (key : α → Nat) (a : α) : List α → List α
  | [] => [a]
  | b :: t => if key a < key b then a :: b :: t else b :: insertByKey key a t

/-- Orders a list by a key, keeping the order of equal keys. -/
def orderByKey {α : Type} (key : α → Nat) (l : List α) : List α := l.foldl (fun t a => insertByKey key a t) []

namespace State

/-! ### Panel time at a boundary -/

/-- The Carousel units of a port whose slots a forward step passed over, in slot order, plane A's first (R207). -/
def passedSlots (s : State) (n : Nat) : List (Nat × Pinned) :=
  let of := fun (p : Nat) => ((s.plane p).carousel.filter (fun (x : Nat × List Pinned) => x.1 / 4096 == n)).flatMap
    (fun (x : Nat × List Pinned) => (x.2.filter (fun e => decide (e.release / 8 * 8 + 8 ≤ s.panelNs))).map (fun e => (p, e)))
  orderByKey (fun x => x.2.release / 8 * 2 + x.1) (of 0 ++ of 1)

/-- A port takes every unit that a forward step passed over (R207). -/
def handPassed (s : State) (n : Nat) : State :=
  let l := s.passedSlots n
  let keep := fun (x : Nat × List Pinned) =>
    (x.1, if x.1 / 4096 = n then x.2.filter (fun e => !decide (e.release / 8 * 8 + 8 ≤ s.panelNs)) else x.2)
  let s' := [0, 1].foldl (fun (s : State) p => s.updPlane p (fun y => { y with
    carousel := (y.carousel.map keep).filter (fun (x : Nat × List Pinned) => !x.2.isEmpty) })) s
  l.foldl (fun s x => s.handUnit n x.1 x.2) s'

/-- Parked units whose release a forward step passed over or brought within 8 ns go to their ports in order of release (R207). -/
def handParked (s : State) (p : Nat) : State :=
  let due := fun (x : Pinned) => decide (x.release < s.panelNs + 8)
  let l := (s.plane p).park
  (orderByKey Pinned.release (l.filter due)).foldl (fun s x => s.handUnit x.port p x)
    (s.updPlane p (fun y => { y with park := l.filter (fun x => !due x) }))

/-- A forward step adds its size to the deadline of every unit that waits for room (R178). -/
def stretchDeadlines (s : State) (d : Nat) : State :=
  s.updSch (fun x => { x with egress := x.egress.mapVals {} (fun _ (e : Egress) => { e with
    waiting := e.waiting.map (fun h => { h with deadline := h.deadline + d }) }) })

/-- What a step of `d` ns does besides moving panel time (R207, R223): flagged and journalled, exchanges discarded, passed units handed. -/
def stepped (s : State) (d : Int) : State :=
  let s := (s.event 0x040 4 (nsArg d)).timeStepped
  if 0 < d then
    ((((List.range 24).foldl (fun s n => s.handPassed n) s).handParked 0).handParked 1).stretchDeadlines d.toNat
  else s

/-- A waiting SET or STEP takes effect (R205). -/
def applyTime (s : State) (w : Sum (Nat × Nat) Int) : State :=
  match w with
  | .inl (sec, ns) =>
    let d : Int := (sec * 1000000000 + ns : Nat) - (s.panelNs : Int)
    ((s.setPanelNs (sec * 1000000000 + ns)).updTim (fun t => { t with frac := 0 })).stepped d
  | .inr d =>
    let old := s.panelNs
    let s := s.movePanel16 d
    s.stepped ((s.panelNs : Int) - old)

/-! ### Release groups, allotments and policers -/

/-- Release requests change the groups' states; a reclaim wins over a release (R191). -/
def applyRelease (s : State) (r : Requests) : State :=
  let next := fun (g : Nat) => (s.released g || r.relSet.get false g) && !r.relClr.get false g
  let word := fun (b : Nat) => ((List.range 32).map (fun i => if b + i != 0 && next (b + i) then 2 ^ i else 0)).sum
  let s' := (s.wr R.SCH_REL_STAT0 (word 0)).wr R.SCH_REL_STAT1 (word 32)
  if word 0 = s.rd R.SCH_REL_STAT0 ∧ word 32 = s.rd R.SCH_REL_STAT1 then s' else s'.irq 0x200 3

/-- The configuration that three record words give (Table 5.8). -/
def allotOf (a : Allot) (w : Nat × Nat × Nat) : Allot :=
  { a with rsv := bitsOf w.1 19 0, weight := max 1 (bitsOf w.1 27 20), peak := bitsOf w.2.1 19 0,
           grp := bitsOf w.2.1 25 20, burst := max 1 (bitsOf w.2.2 11 0) }

/-- The configuration that three policer words give; both buckets start full (R193). -/
def policerOf (x : Policer) (w : Nat × Nat × Nat) : Policer :=
  let cbs := bitsOf w.2.2 11 0
  let pbs := bitsOf w.2.2 27 16
  { x with cir := bitsOf w.1 19 0, pir := bitsOf w.2.1 19 0, cbs := cbs, pbs := pbs, c := cbs * 4096, p := pbs * 4096 }

/-- The words that wait change their records and policers (R185, R193). -/
def applyWords (s : State) (r : Requests) : State :=
  s.updSch (fun x => { x with
    allots := r.allots.foldl (fun t e => match e.2 with
      | some w => t.set {} e.1 (allotOf (t.get {} e.1) w)
      | none => t) x.allots
    policers := r.policers.foldl (fun t e => match e.2 with
      | some w => t.set {} e.1 (policerOf (t.get {} e.1) w)
      | none => t) x.policers })

/-- One record at a boundary: the refill, then the limit of BURST (R184, R185). -/
def refillAllot (s : State) (a : Allot) : Allot :=
  let lim : Int := a.burst * 4096
  { a with bRsv := min lim (if s.rsvOff a then a.bRsv else a.bRsv + a.rsv),
           bPeak := min lim (a.bPeak + a.peak) }

/-- One policer at a boundary: both buckets refill (R193). -/
def refillPolicer (x : Policer) : Policer :=
  { x with c := min (x.cbs * 4096) (x.c + x.cir), p := min (x.pbs * 4096) (x.p + x.pir) }

/-- SET and STEP requests take effect, with the captures of their cycle (R205, Table 6.8). -/
def applyTimes (s : State) (l : List (Sum (Nat × Nat) Int)) : State :=
  if l.isEmpty then s else (l.foldl (fun s x => s.applyTime x) s).recapture

/-- The refill boundary (R184, R185, R191, R193, R205, R207): steps first, then release states, records and buckets; what is asked for in the boundary's own CLK_CSR cycle waits for the following one. -/
def refill (s : State) : State :=
  let r := s.dueAsked
  let s := s.updSch (fun x => { x with asked := {}, fresh := r.2 })
  let s := if r.2.times.isEmpty then s.wr R.TIM_RESULT_BUSY 0 else s
  let s := ((s.applyTimes r.1.times).applyRelease r.1).applyWords r.1
  (s.updSch (fun x => { x with
    allots := x.allots.mapVals {} (fun _ a => s.refillAllot a),
    policers := x.policers.mapVals {} (fun _ a => refillPolicer a) })).tally 0x002

/-! ### Tables -/

/-- The index of a page goes on when AUTOINC is 1. -/
def nextIndex (s : State) (f auto : Field) : State :=
  if s.rd auto = 1 then s.wr f ((s.rd f + 1) % 4096) else s

/-- Cells that wait in a queue of a plane. -/
def queueCells (s : State) (p q : Nat) : Nat :=
  ((s.queue p q).map (fun e => match (s.plane p).units.get none e.unit with
    | some u => u.cells.length
    | none => 0)).sum

/-- A unit of a queue is part-sent at its port. -/
def queueSending (s : State) (q : Nat) : Bool :=
  let n := (s.pair q).port
  (s.egress n).sending.any (fun (x : Nat × Option Sending) => x.2.any (fun y => y.queue == some q))

/-- SCH_Q_CMD READ. -/
def schQRead (s : State) : State :=
  let q := s.rd R.SCH_Q_INDEX_INDEX
  let x := s.pair q
  let s := (s.wr R.SCH_Q_CFG_PORT x.port).wr R.SCH_Q_CFG_CLASS x.cls
  let s := (s.wr R.SCH_Q_DEPTH_A (min (s.queueCells 0 q) 0xFFFF)).wr R.SCH_Q_DEPTH_B (min (s.queueCells 1 q) 0xFFFF)
  ((s.wr R.SCH_Q_FTAG (x.tag.getD x.fprev)).wr R.SCH_Q_STAT_LAST_RESULT 0).nextIndex R.SCH_Q_INDEX_INDEX R.SCH_Q_INDEX_AUTOINC

/-- SCH_Q_CMD WRITE (R168). -/
def schQWrite (s : State) : State :=
  let q := s.rd R.SCH_Q_INDEX_INDEX
  let x := s.pair q
  let port := if s.rd R.SCH_Q_CFG_PORT < 24 then s.rd R.SCH_Q_CFG_PORT else 31
  let cls := s.rd R.SCH_Q_CFG_CLASS
  let busy := !(s.queue 0 q).isEmpty || !(s.queue 1 q).isEmpty || s.queueSending q
  let s :=
    if (x.port ≠ port ∨ x.cls ≠ cls) ∧ busy = true then s.wr R.SCH_Q_STAT_LAST_RESULT 1
    else (s.setPair q { x with port := port, cls := cls }).wr R.SCH_Q_STAT_LAST_RESULT 0
  s.nextIndex R.SCH_Q_INDEX_INDEX R.SCH_Q_INDEX_AUTOINC

/-- SCH_AL_DATA shows a record's words (Table 5.8). -/
def allotData (s : State) (a : Allot) : State :=
  let s := (s.wr R.SCH_AL_DATA0_RSV_RATE a.rsv).wr R.SCH_AL_DATA0_WEIGHT a.weight
  ((s.wr R.SCH_AL_DATA1_PEAK_RATE a.peak).wr R.SCH_AL_DATA1_REL_GRP a.grp).wr R.SCH_AL_DATA2_BURST a.burst

def schAlDone (s : State) (r : Nat) : State :=
  (s.wr R.SCH_AL_STAT_LAST_RESULT r).nextIndex R.SCH_AL_INDEX_INDEX R.SCH_AL_INDEX_AUTOINC

/-- SCH_AL_CMD READ: the record in force, with its buckets in bytes. -/
def schAlRead (s : State) : State :=
  let a := s.allot (s.rd R.SCH_AL_INDEX_INDEX)
  let s := s.allotData a
  ((s.wr R.SCH_AL_TOK_RSV (unsignedOf 32 (a.bRsv / 16))).wr R.SCH_AL_TOK_PEAK (unsignedOf 32 (a.bPeak / 16))).schAlDone 0

/-- SCH_AL_CMD WRITE (R185, R194). -/
def schAlWrite (s : State) : State :=
  let i := s.rd R.SCH_AL_INDEX_INDEX
  let rate := s.rd R.SCH_AL_DATA0_RSV_RATE
  let peak := s.rd R.SCH_AL_DATA1_PEAK_RATE
  let w := (rate + s.rd R.SCH_AL_DATA0_WEIGHT * 2 ^ 20, peak + s.rd R.SCH_AL_DATA1_REL_GRP * 2 ^ 20, s.rd R.SCH_AL_DATA2_BURST)
  if peak ≠ 0 ∧ peak < rate then s.schAlDone 4
  else (s.ask (fun r => { r with allots := r.allots.set none i (some w) })).schAlDone 0

/-- SCH_AL_CMD READ_PENDING (R185). -/
def schAlReadPending (s : State) : State :=
  let i := s.rd R.SCH_AL_INDEX_INDEX
  (s.allotData (match s.askedAllot i with
    | some w => allotOf (s.allot i) w
    | none => s.allot i)).schAlDone 0

def schPolDone (s : State) (r : Nat) : State :=
  (s.wr R.SCH_POL_STAT_LAST_RESULT r).nextIndex R.SCH_POL_INDEX_INDEX R.SCH_POL_INDEX_AUTOINC

/-- SCH_POL_CMD READ. -/
def schPolRead (s : State) : State :=
  let x := s.policer (s.rd R.SCH_POL_INDEX_INDEX)
  let s := (((s.wr R.SCH_POL_DATA0_CIR x.cir).wr R.SCH_POL_DATA1_PIR x.pir).wr R.SCH_POL_DATA2_CBS x.cbs).wr R.SCH_POL_DATA2_PBS x.pbs
  (((s.wr R.SCH_POL_GREEN x.green).wr R.SCH_POL_YELLOW x.yellow).wr R.SCH_POL_RED x.red).schPolDone 0

/-- SCH_POL_CMD WRITE (R193, R194). -/
def schPolWrite (s : State) : State :=
  let i := s.rd R.SCH_POL_INDEX_INDEX
  if s.rd R.SCH_POL_DATA1_PIR < s.rd R.SCH_POL_DATA0_CIR then s.schPolDone 4
  else
    let w := (s.rd R.SCH_POL_DATA0_CIR, s.rd R.SCH_POL_DATA1_PIR,
      s.rd R.SCH_POL_DATA2_CBS + s.rd R.SCH_POL_DATA2_PBS * 2 ^ 16)
    (s.ask (fun r => { r with policers := r.policers.set none i (some w) })).schPolDone 0

/-- SCH_POL_CMD CLEAR_CNT (R199). -/
def schPolClear (s : State) : State :=
  let i := s.rd R.SCH_POL_INDEX_INDEX
  (s.setPolicer i { s.policer i with green := 0, yellow := 0, red := 0 }).schPolDone 0

/-- Groups that a written word names: bit b of word `w` is group 32 w + b, and group 0 is none. -/
def groupsOf (w data : Nat) : List Nat := ((List.range 32).filter (fun b => data.testBit b && 32 * w + b != 0)).map (· + 32 * w)

/-- A release or reclaim is requested for groups (R191). -/
def askRelease (s : State) (gs : List Nat) : State :=
  s.ask (fun r => { r with relSet := gs.foldl (fun t g => t.set false g true) r.relSet })
def askReclaim (s : State) (gs : List Nat) : State :=
  s.ask (fun r => { r with relClr := gs.foldl (fun t g => t.set false g true) r.relClr })

/-! ### Samplers -/

/-- A mean moves a sixteenth of the way to a sample; its rounding is a free value (R196, log 15). -/
def meanStep (s : State) (mean x : Nat) : Nat := ((mean : Int) + s.roundDiv ((x : Int) - mean) 16).toNat

/-- Bin of a depth sample and of an age sample (R197). -/
def depthBin (x : Nat) : Nat := if x = 0 then 0 else min 15 (Nat.log2 x + 1)
def ageBin (x : Nat) : Nat := if x < 128 then 0 else min 15 (Nat.log2 x - 6)

/-- Counts a sample in every histogram that follows the queue. -/
def countBins (s : State) (p q depth age : Nat) : State :=
  let hs := (List.range 64).filter (fun h => s.rd R.SCH_HIST_SEL_EN 0 h == 1 && s.rd R.SCH_HIST_SEL_QUEUE 0 h == q &&
    s.rd R.SCH_HIST_SEL_PLANE 0 h == p)
  if !s.counting 0x204 then s
  else hs.foldl (fun s h =>
    let b := h * 16 + (if s.rd R.SCH_HIST_SEL_METRIC 0 h = 0 then depthBin depth else ageBin age)
    s.updSch (fun x => { x with bins := x.bins.set 0 b (min (x.bins.get 0 b + 1) (2 ^ 32 - 1)) })) s

/-- A visit of a plane's sampler (R195 to R197); a plane that is not in service is skipped (R198). -/
def sample (s : State) (p : Nat) : State :=
  if s.rd R.SCH_SMP_CFG_EN = 0 ∨ s.inService p = false then s
  else
    let q := s.sch.next.get 0 p
    let depth := s.queueCells p q
    let age := match s.queue p q with
      | [] => 0
      | e :: _ => min (s.hw - e.joined) (2 ^ 32 - 1)
    let k := p * 4096 + q
    let o := s.sch.samples.get {} k
    let cnt := if s.counting 0x204 then min (o.cnt + 1) (2 ^ 32 - 1) else o.cnt
    let n : Sample :=
      if !o.taken then ⟨depth, depth, 16 * depth, age, age, age, true, cnt⟩
      else ⟨min o.dMin depth, max o.dMax depth, s.meanStep o.dMean (16 * depth), min o.aMin age, max o.aMax age,
            s.meanStep o.aMean age, true, cnt⟩
    let s := (s.updSch (fun x => { x with samples := x.samples.set {} k n, next := x.next.set 0 p ((q + 1) % 4096) })).tookFree
    let s := s.countBins p q depth age
    if q = 4095 then s.bump (if p = 0 then R.SCH_SMP_SWEEPS_A else R.SCH_SMP_SWEEPS_B) else s

/-- SCH_SMP_CMD READ. -/
def schSmpRead (s : State) : State :=
  let x := s.sch.samples.get {} (s.rd R.SCH_SMP_INDEX_PLANE * 4096 + s.rd R.SCH_SMP_INDEX_QUEUE)
  ((((((s.wr R.SCH_SMP_DEPTH_MIN x.dMin).wr R.SCH_SMP_DEPTH_MAX x.dMax).wr R.SCH_SMP_DMEAN x.dMean).wr
    R.SCH_SMP_AGEMIN x.aMin).wr R.SCH_SMP_AGEMAX x.aMax).wr R.SCH_SMP_AGEMEAN x.aMean).wr R.SCH_SMP_CNT x.cnt

/-- SCH_SMP_CMD CLEAR. -/
def schSmpClear (s : State) : State :=
  let k := s.rd R.SCH_SMP_INDEX_PLANE * 4096 + s.rd R.SCH_SMP_INDEX_QUEUE
  s.updSch (fun x => { x with samples := x.samples.set {} k {} })

/-- A histogram is cleared. -/
def clearHist (s : State) (h : Nat) : State := s.updSch (fun x => { x with bins := x.bins.eraseIf (fun k => k / 16 == h) })

end State

/-- REFILL_BOUNDARY (R184). -/
def execRefillBoundary (s : State) : Host.Outcome State Fault Refusal := nextIn 1 s s.begin.refill

/-- SCH_Q_READ (R168). -/
def execSchQRead (path : Nat) (s : State) : Host.Outcome State Fault Refusal :=
  guarded (decide (path < 8)) (s.begin.gateWrite path schQCmdAddr 1 State.schQRead)

/-- SCH_Q_WRITE (R168). -/
def execSchQWrite (path : Nat) (s : State) : Host.Outcome State Fault Refusal :=
  guarded (decide (path < 8)) (s.begin.gateWrite path schQCmdAddr 2 State.schQWrite)

/-- SCH_AL_READ (R185). -/
def execSchAlRead (path : Nat) (s : State) : Host.Outcome State Fault Refusal :=
  guarded (decide (path < 8)) (s.begin.gateWrite path schAlCmdAddr 1 State.schAlRead)

/-- SCH_AL_WRITE (R194). -/
def execSchAlWrite (path : Nat) (s : State) : Host.Outcome State Fault Refusal :=
  guarded (decide (path < 8)) (s.begin.gateWrite path schAlCmdAddr 2 State.schAlWrite)

/-- SCH_AL_READ_PENDING (R185). -/
def execSchAlReadPending (path : Nat) (s : State) : Host.Outcome State Fault Refusal :=
  guarded (decide (path < 8)) (s.begin.gateWrite path schAlCmdAddr 3 State.schAlReadPending)

/-- SCH_POL_READ (R193). -/
def execSchPolRead (path : Nat) (s : State) : Host.Outcome State Fault Refusal :=
  guarded (decide (path < 8)) (s.begin.gateWrite path schPolCmdAddr 1 State.schPolRead)

/-- SCH_POL_WRITE (R194). -/
def execSchPolWrite (path : Nat) (s : State) : Host.Outcome State Fault Refusal :=
  guarded (decide (path < 8)) (s.begin.gateWrite path schPolCmdAddr 2 State.schPolWrite)

/-- SCH_POL_CLEAR_CNT (R199). -/
def execSchPolClearCnt (path : Nat) (s : State) : Host.Outcome State Fault Refusal :=
  guarded (decide (path < 8)) (s.begin.gateWrite path schPolCmdAddr 3 State.schPolClear)

/-- SCH_REL_SET (R191): a write of SCH_REL_SET[w]. -/
def execSchRelSet (path w data : Nat) (s : State) : Host.Outcome State Fault Refusal :=
  guarded (decide (path < 8) && decide (w < 2))
    (s.begin.gateWrite path (0x200068 + 4 * w) data (fun s => s.askRelease (State.groupsOf w data)))

/-- SCH_REL_CLR (R191): a write of SCH_REL_CLR[w]. -/
def execSchRelClr (path w data : Nat) (s : State) : Host.Outcome State Fault Refusal :=
  guarded (decide (path < 8) && decide (w < 2))
    (s.begin.gateWrite path (0x200070 + 4 * w) data (fun s => s.askReclaim (State.groupsOf w data)))

/-- SAMPLER_VISIT (R195). -/
def execSamplerVisit (p : Nat) (s : State) : Host.Outcome State Fault Refusal :=
  guardedIn (4 + p) s (decide (p < 2)) (s.begin.sample p)

/-- SCH_SMP_READ (R196). -/
def execSchSmpRead (path : Nat) (s : State) : Host.Outcome State Fault Refusal :=
  guarded (decide (path < 8)) (s.begin.gateWrite path schSmpCmdAddr 1 State.schSmpRead)

/-- SCH_SMP_CLEAR (R196). -/
def execSchSmpClear (path : Nat) (s : State) : Host.Outcome State Fault Refusal :=
  guarded (decide (path < 8)) (s.begin.gateWrite path schSmpCmdAddr 2 State.schSmpClear)

/-- HIST_SEL_WRITE (R197). -/
def execHistSelWrite (path h data : Nat) (s : State) : Host.Outcome State Fault Refusal :=
  guarded (decide (path < 8) && decide (h < 64))
    (s.begin.gateWrite path (0x204100 + 4 * h) data (fun s =>
      (s.store path (0x204100 + 4 * h) data
        [R.SCH_HIST_SEL_QUEUE, R.SCH_HIST_SEL_PLANE, R.SCH_HIST_SEL_METRIC, R.SCH_HIST_SEL_EN] 0 h).clearHist h))

end Sys2Proof.Machine
end

