-- ==== Sys2Proof/Machine/Display.lean ====
section
/-! DEFINITION. Display tunnels and scan-out (chapter 07): the checks of display units, the frame store, modes, flips and cursor at frame starts, self-refresh, output links and AUX, and the drain of a source. -/

namespace Sys2Proof.Machine

/-- States of a source (Table 7.11) and of an output (Table 7.14). -/
def srcDisabled : Nat := 0
def srcNoMode : Nat := 1
def srcRun : Nat := 2
def srcPsr : Nat := 3
def srcDraining : Nat := 4
def srcChange : Nat := 5
def outOff : Nat := 0
def outNoSink : Nat := 1
def outTraining : Nat := 2
def outActive : Nat := 3
def outPsr : Nat := 4
def outFailed : Nat := 5

/-- Events of Table 7.5. -/
def evFenceDone : Nat := 1
def evFenceAborted : Nat := 2
def evModeDone : Nat := 3
def evModeRefused : Nat := 4
def evPsrEnter : Nat := 5
def evPsrExit : Nat := 6

/-- STRIDE of a mode (R240). -/
def strideOf (m : DspMode) : Nat := (4 * m.hAct + 255) / 256 * 256

/-- Bits per pixel that a source's format carries (Table 7.1). -/
def sourceBpc (m : DspMode) : Nat := if m.deep then 10 else 8

/-! ### Tiles (Table 7.4) -/

/-- Field `i` of `w` bits of a row packed most significant bit first. -/
def packedAt (row : List Byte) (w i : Nat) : Nat := ofBe row / 2 ^ (8 * row.length - w * (i + 1)) % 2 ^ w

/-- A 24-bit or 30-bit R, G, B value as a pixel word, with the bits that scan-out ignores as given. -/
def rgbWord (deep : Bool) (ignored v : Nat) : Nat := if deep then ignored % 4 * 2 ^ 30 + v else ignored % 256 * 2 ^ 24 + v

/-- The rows of a packed picture: `w` bits for each of `tw` pixels, a whole number of bytes for each of `th` rows. -/
def packedRows (bs : List Byte) (w tw th : Nat) : List (List Nat) :=
  let rb := (w * tw + 7) / 8
  (List.range th).map (fun y => (List.range tw).map (fun x => packedAt ((bs.drop (y * rb)).take rb) w x))

/-- One tile record of `tw` × `th` pixels: its pixel words by row, and the bytes that follow it; none when it breaks Table 7.4. -/
def tileRecord (deep : Bool) (ignored tw th : Nat) (bs : List Byte) : Option (List (List Nat) × List Byte) :=
  let h := beAt bs 0 4
  let len := bitsOf h 15 0
  let body := (bs.drop 4).take len
  let rest := bs.drop (4 + len)
  if bs.length < 4 + len ∨ bitsOf h 23 16 ≠ 0 then none
  else
    match bitsOf h 31 30 with
    | 0 =>
      let d := if deep then 30 else 24
      if len = (d * tw + 7) / 8 * th then some ((packedRows body d tw th).map (·.map (rgbWord deep ignored)), rest) else none
    | 1 => if len = 4 then some (List.replicate th (List.replicate tw (ofBe body)), rest) else none
    | 2 =>
      let w := 2 ^ bitsOf h 29 28
      let n := bitsOf h 27 24 + 1
      if bitsOf h 29 28 = 3 ∨ 2 ^ w < n ∨ len ≠ 4 * n + (w * tw + 7) / 8 * th then none
      else
        let idx := packedRows (body.drop (4 * n)) w tw th
        if idx.any (·.any (fun i => decide (n ≤ i))) then none
        else some (idx.map (·.map (fun i => beAt body (4 * i) 4)), rest)
    | _ => none

/-- The records of the tiles at the given corners, each with its pixel rows; none when a record breaks Table 7.4 or bytes are left over. -/
def tileRecords (deep : Bool) (ignored right bottom : Nat) :
    List (Nat × Nat) → List Byte → Option (List (Nat × Nat × List (List Nat)))
  | [], [] => some []
  | [], _ :: _ => none
  | (x, y) :: t, bs =>
    match tileRecord deep ignored (min 64 (right - x)) (min 64 (bottom - y)) bs with
    | none => none
    | some (px, rest) => (tileRecords deep ignored right bottom t rest).map (fun l => (x, y, px) :: l)

/-- Corners of the tiles of a rectangle in raster order. -/
def tileCorners (x y w h : Nat) : List (Nat × Nat) :=
  (List.range ((h + 63) / 64)).flatMap (fun j => (List.range ((w + 63) / 64)).map (fun i => (x + 64 * i, y + 64 * j)))

namespace State

def setSrc (s : State) (i : Nat) (x : DspSource) : State := { s with dsp := { s.dsp with src := s.dsp.src.set {} i x } }
def updSrc (s : State) (i : Nat) (f : DspSource → DspSource) : State := s.setSrc i (f (s.src i))
def output (s : State) (o : Nat) : DspOutput := s.dsp.out.get {} o
def setOutput (s : State) (o : Nat) (x : DspOutput) : State := { s with dsp := { s.dsp with out := s.dsp.out.set {} o x } }
def updOutput (s : State) (o : Nat) (f : DspOutput → DspOutput) : State := s.setOutput o (f (s.output o))
def srcState (s : State) (i : Nat) : Nat := s.rd R.DSP_SRC_STAT_STATE i
def setSrcState (s : State) (i v : Nat) : State := s.wr R.DSP_SRC_STAT_STATE v i
def outState (s : State) (o : Nat) : Nat := s.rd R.DSP_OUT_STAT_STATE o
def setOutState (s : State) (o v : Nat) : State := s.wr R.DSP_OUT_STAT_STATE v o

/-- Page of a source and of an output. -/
def srcPage (i : Nat) : Nat := 0x301 + i
def outPage (o : Nat) : Nat := 0x304 + o

/-! ### Memory -/

/-- The address of pixel (x, y) of a buffer of a source (R240). -/
def pixelAddr (s : State) (i buf : Nat) (m : DspMode) (x y : Nat) : Nat :=
  s.rd R.DSP_FS_BASE * 2 ^ 27 + i * 2 ^ 26 + buf * 2 ^ 25 + y * strideOf m + 4 * x

/-- Writes rows of pixel words with the upper left one at (x, y). -/
def putPixels (s : State) (i buf : Nat) (m : DspMode) (x y : Nat) (rows : List (List Nat)) : State :=
  (rows.zip (List.range rows.length)).foldl
    (fun s r => s.dramWrite (s.pixelAddr i buf m x (y + r.2)) (r.1.flatMap (toLe 4))) s

/-- DSP_BG as a pixel word of the source's format, with the bits that scan-out ignores as given. -/
def backWord (s : State) (i : Nat) (deep : Bool) (ignored : Nat) : Nat :=
  let b := s.rd R.DSP_BG i
  if deep then rgbWord true ignored b
  else rgbWord false ignored (bitsOf b 29 22 * 2 ^ 16 + bitsOf b 19 12 * 2 ^ 8 + bitsOf b 9 2)

/-- Both buffers are filled with DSP_BG (R246). -/
def fillBuffers (s : State) (i : Nat) (m : DspMode) : State :=
  let rows := List.replicate m.vAct (List.replicate m.hAct (s.backWord i m.deep s.freeNat))
  ((s.putPixels i 0 m 0 0 rows).putPixels i 1 m 0 0 rows).tookFree

/-- The new front buffer is copied into the new back buffer (R247). -/
def copyBuffer (s : State) (i : Nat) (m : DspMode) : State :=
  let f := s.rd R.DSP_SRC_STAT_FRONT i
  (List.range m.vAct).foldl (fun s y =>
    (s.dramMoves 0x1C0 (s.pixelAddr i f m 0 y) (4 * m.hAct)).dramWrite (s.pixelAddr i (1 - f) m 0 y)
      (s.dramRead (s.pixelAddr i f m 0 y) (4 * m.hAct))) s

/-! ### Replies -/

/-- A reply or notice of Table 7.5 on the source's reply tunnel (R250). -/
def dspReply (s : State) (i ev detail token : Nat) : State :=
  let t := s.rd R.DSP_SRC_REPLY_TID i
  if t = 0 then s
  else
    s.originUnit 19 t kindMessage
      (toBe 2 (s.rd R.DSP_SRC_REPLY_MSGID i) ++ [BitVec.ofNat 8 ev, BitVec.ofNat 8 (i + detail * 16)] ++ toBe 4 token ++ toBe 8 s.tswNow)

/-! ### Clone groups and output links -/

/-- The source that drives an output (R236). -/
def outSource (s : State) (o : Nat) : Option Nat :=
  if (s.src 0).clone.testBit o then some 0 else if (s.src 1).clone.testBit o then some 1 else none

/-- Outputs of a source's clone group. -/
def groupOf (s : State) (i : Nat) : List Nat := (List.range 4).filter (fun o => s.outSource o == some i)

/-- Link rates of DisplayPort in kHz, by the code of MAX_RATE. -/
def dpRate : Nat → Nat
  | 0 => 1620000
  | 1 => 2700000
  | 2 => 5400000
  | _ => 8100000

/-- The code of a rate in DSP_OUT_STAT.RATE. -/
def rateCode (r : Nat) : Nat := if r = 1620000 then 0 else if r = 2700000 then 1 else if r = 5400000 then 2 else if r = 8100000 then 3 else 7

/-- The code of a lane count. -/
def laneCode (l : Nat) : Nat := if l = 1 then 0 else if l = 2 then 1 else 2

/-- The trunk whose lanes an output drives in Display Direct (R262). -/
def directTrunk (s : State) (o : Nat) : Option Nat :=
  (List.range 16).find? (fun n => s.rd R.TRK_LANESTAT_ALTMODE n == 2 && s.rd R.TRK_ALTCFG_DSP_OUT n == o)

/-- Lanes that an output may use: its MAX_LANES, two on a trunk. -/
def outLanes (s : State) (o : Nat) : Nat :=
  let l := 2 ^ s.rd R.DSP_OUT_CFG_MAX_LANES o
  if (s.directTrunk o).isSome then min 2 l else l

/-- Bits per component on an output's link (R260). -/
def outBpc (s : State) (o : Nat) (m : DspMode) (k : DspSink) : Nat :=
  let cap := match s.rd R.DSP_OUT_CFG_BPC o with
    | 1 => 6
    | 2 => 8
    | 3 => 10
    | _ => sourceBpc m
  min (sourceBpc m) (min cap k.bpc)

/-- A rate and lane count carry a mode (chapter 07, Modes). -/
def carries (s : State) (o : Nat) (m : DspMode) (k : DspSink) (c : Nat × Nat) : Bool :=
  decide (m.pclk * (3 * s.outBpc o m k) * 10 ≤ c.1 * c.2 * 8)

/-- Rates that an output and its sink share, highest first: those of DisplayPort, and on eDP those the sink lists. -/
def outRates (s : State) (o : Nat) (k : DspSink) : List Nat :=
  let cap := min (dpRate (s.rd R.DSP_OUT_CFG_MAX_RATE o)) k.rate
  let all := [8100000, 5400000, 2700000, 1620000] ++ (if s.rd R.DSP_OUT_CFG_EDP o = 1 then k.rates else [])
  orderByKey (fun r => 10000000 - r) ((all.filter (fun r => decide (r ≤ cap))).eraseDups)

/-- The combinations of R260 in the order of trial: lower rates first, then fewer lanes, and only those that carry the mode. -/
def outTries (s : State) (o : Nat) (m : Option DspMode) (k : DspSink) : List (Nat × Nat) :=
  let ls := [4, 2, 1].filter (fun l => decide (l ≤ min (s.outLanes o) k.lanes))
  let all := ls.flatMap (fun l => (s.outRates o k).map (fun r => (r, l)))
  match m with
  | none => all
  | some m => all.filter (s.carries o m k)

/-- The mode an output would carry. -/
def outMode (s : State) (o : Nat) : Option DspMode := (s.outSource o).bind (fun i => (s.src i).mode)

/-- An output enters FAILED with a cause (R260). -/
def outFail (s : State) (o cause : Nat) : State := ((s.setOutState o outFailed).wr R.DSP_OUT_STAT_CAUSE cause o).irq (outPage o) 4

/-- An output with a sink starts training (R260). -/
def startTraining (s : State) (o : Nat) : State :=
  match (s.output o).sink with
  | none => s
  | some k =>
    let l := s.outTries o (s.outMode o) k
    let s := s.updOutput o (fun x => { x with tries := l, lost := false })
    if l.isEmpty then s.outFail o 2 else s.setOutState o outTraining

/-- What an output's state is once its EN, its clone group or its sink has changed (R236, R260, R261). -/
def settleOutput (s : State) (o : Nat) : State :=
  if (s.output o).en = false ∨ s.outSource o = none then s.setOutState o outOff
  else if (s.output o).sink.isNone then s.setOutState o outNoSink
  else if s.outState o = outOff ∨ s.outState o = outNoSink then s.startTraining o
  else s

/-- An output is to run: its EN is 1, and no power state has turned it off (R265). -/
def outWanted (s : State) (o : Nat) : Bool := s.rd R.DSP_OUT_CFG_EN o == 1 && !s.drainedTo 2

/-- A source's CLONE and its outputs' EN take effect (R238). -/
def takeClone (s : State) (i : Nat) : State :=
  let old := s.groupOf i
  let s := s.updSrc i (fun x => { x with clone := s.rd R.DSP_SRC_CFG_CLONE i })
  let os := (old ++ s.groupOf i).eraseDups
  os.foldl (fun s o => (s.updOutput o (fun x => { x with en := s.outWanted o })).settleOutput o) s

/-- With no timing there is no frame start to wait for: changes of CLONE and EN take effect at once. -/
def cloneWritten (s : State) (i : Nat) : State := if (s.src i).mode.isNone then s.takeClone i else s

/-- DSP_OUT_CFG.EN was written. -/
def outEnWritten (s : State) (o : Nat) : State :=
  match s.outSource o with
  | none => (s.updOutput o (fun x => { x with en := s.outWanted o })).settleOutput o
  | some i => s.cloneWritten i

/-- HPD goes high with a sink (R261). -/
def hpdPlug (s : State) (o : Nat) (k : DspSink) : State :=
  let s := (s.wr R.DSP_OUT_STAT_HPD 1 o).wr R.DSP_OUT_STAT_PSR_CAP (if k.psr then 1 else 0) o
  let s := (s.updOutput o (fun x => { x with sink := some k })).irq (outPage o) 0
  if (s.output o).en && (s.outSource o).isSome then s.startTraining o else s

/-- HPD has been low for more than 2 ms (R261). -/
def hpdUnplug (s : State) (o : Nat) : State :=
  let s := (s.wr R.DSP_OUT_STAT_HPD 0 o).wr R.DSP_OUT_STAT_PSR_CAP 0 o
  let s := (s.updOutput o (fun x => { x with sink := none, tries := [], lost := false })).irq (outPage o) 1
  if (s.output o).en && (s.outSource o).isSome then (s.setOutState o outNoSink).wr R.DSP_OUT_STAT_CAUSE 1 o else s

/-- The sink at an output's own balls, which the output uses unless it runs in Display Direct (R262). -/
def setOwn (s : State) (o : Nat) (k : Option DspSink) : State := s.updOutput o (fun x => { x with own := k })

/-- What an output does as Display Direct, in `old`, gave it a trunk's lanes or took them from it: its sink is gone, and one at its own balls is seen again (R262). -/
def directMoved (s old : State) : State :=
  (List.range 4).foldl (fun s o =>
    if old.directTrunk o = s.directTrunk o then s
    else
      let s := if (s.output o).sink.isSome then s.hpdUnplug o else s
      match (s.output o).own, s.directTrunk o with
      | some k, none => s.hpdPlug o k
      | _, _ => s) s

/-- The output's source is in SELF_REFRESH. -/
def outAsleep (s : State) (o : Nat) : Bool := s.outState o == outPsr || (s.outSource o).any (fun i => s.srcState i == srcPsr)

/-- An IRQ_HPD: the sink's link status is read, at the end of self-refresh if the output is in it, and a lost link retrains (R261, Table 7.7). -/
def hpdIrq (s : State) (o : Nat) (lost : Bool) : State :=
  let s := s.irq (outPage o) 2
  if s.outAsleep o then s.updOutput o (fun x => { x with lost := x.lost || lost })
  else if lost ∧ s.outState o = outActive then s.startTraining o
  else s

/-- A training attempt ends (R260). -/
def trainDone (s : State) (o : Nat) (ok : Bool) : State :=
  if s.outState o ≠ outTraining then s
  else
    match (s.output o).tries with
    | [] => s
    | c :: t =>
      let s := s.bump R.DSP_TRAIN_CNT o
      if ok then
        let s := s.updOutput o (fun x => { x with link := c, tries := [] })
        let s := ((s.wr R.DSP_OUT_STAT_RATE (rateCode c.1) o).wr R.DSP_OUT_STAT_LANES (laneCode c.2) o).wr R.DSP_OUT_STAT_CAUSE 0 o
        (s.setOutState o outActive).irq (outPage o) 3
      else
        let s := s.updOutput o (fun x => { x with tries := t })
        if t.isEmpty then s.outFail o 3 else s

/-! ### Units -/

/-- The enabled source that a tunnel is bound to (R235). -/
def boundSource (s : State) (tid : Nat) : Option Nat :=
  [0, 1].find? (fun i => s.rd R.DSP_SRC_TID i == tid && tid != 0 && s.srcState i != srcDisabled)

/-- A unit discarded by R242 with its reason (DSP_BAD_LAST). -/
def badDisplay (s : State) (u : UnitMsg) (reason : Nat) : State :=
  let s := ((s.wr R.DSP_BAD_LAST_TID u.tid).wr R.DSP_BAD_LAST_REASON reason).wr R.DSP_BAD_LAST_TYPE (beAt u.payload 0 1)
  (s.bump R.DSP_BAD_UNIT).irq 0x300 0

/-- The length of `n` tile records by the LEN of their headers (Table 7.4); more than the bytes there are when they end within a record. -/
def tilesLen : Nat → List Byte → Nat
  | 0, _ => 0
  | n + 1, bs =>
    let k := 4 + bitsOf (beAt bs 0 4) 15 0
    if bs.length < 4 ∨ bs.length < k then bs.length + 1 else k + tilesLen n (bs.drop k)

/-- Body length that a type requires (Table 7.3). -/
def bodyLen (p : List Byte) : Nat :=
  match beAt p 0 1 with
  | 1 => 20
  | 2 => 4 * beAt p 12 2 * beAt p 14 2
  | 3 => tilesLen ((beAt p 12 2 + 63) / 64 * ((beAt p 14 2 + 63) / 64)) (p.drop 16)
  | 4 => if bitsOf (beAt p 1 1) 2 1 = 0 then 0 else 8192
  | _ => 0

/-- A field that must be 0 is not (Tables 7.2 and 7.3). -/
def nonZero (p : List Byte) : Bool :=
  let fl := beAt p 1 1
  beAt p 2 2 != 0 ||
    (match beAt p 0 1 with
     | 1 => decide (8 ≤ fl) || beAt p 8 8 != 0
     | 2 | 3 => decide (2 ≤ fl)
     | 4 => decide (8 ≤ fl) || beAt p 14 2 != 0
     | _ => decide (2 ≤ fl) || beAt p 8 8 != 0)

/-- The check of R242 on a display unit of a source: 0, or the reason for which it is discarded. -/
def displayCheck (s : State) (i : Nat) (p : List Byte) : Nat :=
  let t := beAt p 0 1
  if p.length < 16 then 1
  else if t = 0 ∨ 6 < t then 2
  else if p.length - 16 < bodyLen p ∨ (t = 2 ∧ p.length - 16 ≠ bodyLen p) then 1
  else if nonZero p then 3
  else if t = 2 ∨ t = 3 then
    match (s.src i).mode with
    | none => 6
    | some m =>
      let x := beAt p 8 2
      let y := beAt p 10 2
      let w := beAt p 12 2
      let h := beAt p 14 2
      if m.hAct < x + w ∨ m.vAct < y + h then 4
      else if t = 3 then
        if x % 64 ≠ 0 ∨ y % 64 ≠ 0 ∨ (w % 64 ≠ 0 ∧ x + w ≠ m.hAct) ∨ (h % 64 ≠ 0 ∧ y + h ≠ m.vAct) then 4
        else if (tileRecords m.deep 0 (x + w) (y + h) (tileCorners x y w h) (p.drop 16)).isNone then 5
        else 0
      else 0
  else if t = 4 ∧ bitsOf (beAt p 1 1) 2 1 = 3 then 7
  else 0

/-! ### Updates and self-refresh -/

/-- The outputs of a source in self-refresh wake their main links (R259, R264); a link that an IRQ_HPD found lost trains again (Table 7.7). -/
def wakeOutputs (s : State) (i : Nat) : State :=
  (s.groupOf i).foldl (fun s o =>
    if s.outState o = outPsr ∨ s.outState o = outActive then
      if (s.output o).lost then s.startTraining o else s.setOutState o outActive
    else s) s

/-- A source is powered: in P1 only with an enabled output, one whose EN is in force or waits for the frame start (R238, R265). -/
def srcPowered (s : State) (i : Nat) : Bool :=
  s.rd R.PWR_STAT_STATE != 1 || (List.range 4).any (fun o =>
    ((s.output o).en && s.outSource o == some i) || (s.outWanted o && (s.rd R.DSP_SRC_CFG_CLONE i).testBit o))

/-- An update of the source: IDLE starts again, and self-refresh ends (R257, R259). -/
def srcUpdate (s : State) (i : Nat) : State :=
  let s := (s.wr R.DSP_SRC_STAT_IDLE 0 i).updSrc i (fun x => { x with idle := 0, updAt := some s.hw })
  if s.srcState i ≠ srcPsr then s
  else
    let g := s.rd R.DSP_SRC_CFG_REL_GRP i
    let s := (s.setSrcState i srcRun).updSrc i (fun x => { x with exitAt := some s.hw, psrFrame := false })
    let s := if g = 0 then s else s.askReclaim [g]
    ((s.irq (srcPage i) 2).dspReply i evPsrExit 0 g).wakeOutputs i

/-- A source enters SELF_REFRESH (R258). -/
def enterPsr (s : State) (i : Nat) : State :=
  let g := s.rd R.DSP_SRC_CFG_REL_GRP i
  let s := (s.setSrcState i srcPsr).updSrc i (fun x => { x with psrFrame := true, exitAt := none })
  let s := if g = 0 then s else s.askRelease [g]
  ((s.bump R.DSP_PSR_CNT i).irq (srcPage i) 1).dspReply i evPsrEnter 0 g

/-- The conditions of R257 besides the frame count. -/
def psrReady (s : State) (i : Nat) : Bool :=
  s.rd R.DSP_SRC_CFG_PSR_EN i == 1 && s.srcState i == srcRun && (s.src i).flips.isEmpty &&
    s.rd R.DSP_SRC_STAT_COPY_BUSY i == 0 &&
    (s.groupOf i).all (fun o => s.outState o != outActive ||
      (s.rd R.DSP_OUT_CFG_EDP o == 1 && s.rd R.DSP_OUT_STAT_PSR_CAP o == 1))

/-! ### Applying units -/

/-- The mode that a MODE_SET names. -/
def modeOf (p : List Byte) : DspMode :=
  let f := beAt p 1 1
  { pclk := beAt p 16 4, hAct := beAt p 20 2, hFp := beAt p 22 2, hSync := beAt p 24 2, hBp := beAt p 26 2,
    vAct := beAt p 28 2, vFp := beAt p 30 2, vSync := beAt p 32 2, vBp := beAt p 34 2,
    hPol := f.testBit 0, vPol := f.testBit 1, deep := f.testBit 2 }

/-- The limits of Table 7.1. -/
def modeLegal (m : DspMode) : Bool :=
  let total := (m.hAct + m.hFp + m.hSync + m.hBp) * (m.vAct + m.vFp + m.vSync + m.vBp)
  decide (25000 ≤ m.pclk ∧ m.pclk ≤ 600000) && decide (640 ≤ m.hAct ∧ m.hAct ≤ 3840) && m.hAct % 8 == 0 &&
    decide (480 ≤ m.vAct ∧ m.vAct ≤ 2160) && decide (24 * total ≤ m.pclk * 1000 ∧ m.pclk * 1000 ≤ 120 * total)

/-- Every enabled output of the group with a sink can carry a mode (R246). -/
def modeFits (s : State) (i : Nat) (m : DspMode) : Bool :=
  (s.groupOf i).all (fun o => !(s.output o).en ||
    (match (s.output o).sink with
     | none => true
     | some k => !(s.outTries o (some m) k).isEmpty))

/-- MODE_SET (R246). -/
def modeSet (s : State) (u : UnitMsg) (i : Nat) : State :=
  let m := modeOf u.payload
  let token := beAt u.payload 4 4
  if !modeLegal m then (s.irq (srcPage i) 4).dspReply i evModeRefused 1 token
  else if !s.modeFits i m then (s.irq (srcPage i) 4).dspReply i evModeRefused 2 token
  else (s.srcUpdate i).updSrc i (fun x => { x with newMode := some (m, token) })

/-- The buffer that a rectangle writes (R245). -/
def rectBuffer (s : State) (i : Nat) (p : List Byte) : Nat :=
  if (beAt p 1 1).testBit 0 then s.rd R.DSP_SRC_STAT_FRONT i else 1 - s.rd R.DSP_SRC_STAT_FRONT i

/-- RECT_RAW (R243). -/
def rectRaw (s : State) (u : UnitMsg) (i : Nat) : State :=
  match (s.src i).mode with
  | none => s
  | some m =>
    let p := u.payload
    let w := beAt p 12 2
    let rows := (List.range (beAt p 14 2)).map (fun y => (List.range w).map (fun x => beAt p (16 + 4 * (y * w + x)) 4))
    (s.putPixels i (s.rectBuffer i p) m (beAt p 8 2) (beAt p 10 2) rows).srcUpdate i

/-- RECT_TILE (R244); the bits that scan-out ignores are a free value. -/
def rectTile (s : State) (u : UnitMsg) (i : Nat) : State :=
  match (s.src i).mode with
  | none => s
  | some m =>
    let p := u.payload
    let x := beAt p 8 2
    let y := beAt p 10 2
    let w := beAt p 12 2
    let h := beAt p 14 2
    match tileRecords m.deep s.freeNat (x + w) (y + h) (tileCorners x y w h) (p.drop 16) with
    | none => s
    | some l => (l.foldl (fun s t => s.putPixels i (s.rectBuffer i p) m t.1 t.2.1 t.2.2) s.tookFree).srcUpdate i

/-- CURSOR (R248): what takes effect at the next frame start. -/
def cursorUnit (s : State) (u : UnitMsg) (i : Nat) : State :=
  let p := u.payload
  let f := beAt p 1 1
  let c := (s.src i).newCursor.getD (s.src i).cursor
  let img := (p.drop 16).take 8192
  let c := { c with
    visible := f.testBit 0, x := signedOf 16 (beAt p 8 2), y := signedOf 16 (beAt p 10 2),
    hotX := beAt p 12 1, hotY := beAt p 13 1,
    top := if f.testBit 1 then img else c.top, bottom := if f.testBit 2 then img else c.bottom }
  (s.updSrc i (fun x => { x with newCursor := some c })).srcUpdate i

/-- FLIP (R247). -/
def flipUnit (s : State) (u : UnitMsg) (i : Nat) : State :=
  let s := s.updSrc i (fun x => { x with flips := x.flips ++ [s.hw], copy := (beAt u.payload 1 1).testBit 0 })
  (s.wr R.DSP_SRC_STAT_FLIP_PENDING 1 i).srcUpdate i

/-- A display FENCE (R249): every earlier unit has been applied; with WAIT_FLIP it waits for a pending flip. -/
def fenceUnitDsp (s : State) (u : UnitMsg) (i : Nat) : State :=
  let token := beAt u.payload 4 4
  if (beAt u.payload 1 1).testBit 0 ∧ (s.src i).flips ≠ [] then
    s.updSrc i (fun x => { x with waits := x.waits ++ [(token, x.flips.length)] })
  else s.dspReply i evFenceDone 0 token

/-- A unit that the adapter takes is discarded malformed (R242), or applied; a FENCE of kind 0x01 completes without a reply (R249). -/
def applyDisplay (s : State) (u : UnitMsg) (i : Nat) : State :=
  let c := s.displayCheck i u.payload
  if u.kind = kindFence then s
  else if c ≠ 0 then s.badDisplay u c
  else
    match beAt u.payload 0 1 with
    | 1 => s.modeSet u i
    | 2 => s.rectRaw u i
    | 3 => s.rectTile u i
    | 4 => s.cursorUnit u i
    | 5 => s.flipUnit u i
    | _ => s.fenceUnitDsp u i

/-- The TYPE of a unit: that of its header, or a FENCE's for a FENCE of kind 0x01. -/
def displayType (u : UnitMsg) : Nat := if u.kind = kindFence then 6 else beAt u.payload 0 1

/-- A unit at SP19 that a command of TYPE `want` brings: discarded unbound (R235), refused by a draining source (R264), left waiting (R251), or taken. A command whose unit has another TYPE of Table 7.3 does nothing. -/
def takeDisplay (s : State) (u : UnitMsg) (want : Nat) : State :=
  match s.boundSource u.tid with
  | none => (s.bump R.DSP_UNBOUND).irq 0x300 1
  | some i =>
    if s.srcState i = srcDraining then s.bump R.DSP_REFUSED i
    else if displayType u ≠ want ∧ 1 ≤ displayType u ∧ displayType u ≤ 6 then s
    else if s.srcHolds i then s.updSrc i (fun x => { x with held := x.held ++ [u] })
    else s.applyDisplay u i

/-- The units that waited are taken in their order, up to the next one that makes the rest wait again (R251). -/
def takeHeld (s : State) (i : Nat) : State :=
  (s.src i).held.foldl (fun s u =>
    if s.srcHolds i then s.updSrc i (fun x => { x with held := x.held ++ [u] }) else s.applyDisplay u i)
    (s.updSrc i (fun x => { x with held := [] }))

/-! ### Drains -/

/-- Units taken and not yet applied. -/
def srcOwes (s : State) (i : Nat) : Nat :=
  let x := s.src i
  x.flips.length + x.waits.length + (if x.newMode.isSome then 1 else 0) + (if x.changing.isSome then 1 else 0) +
    (if s.rd R.DSP_SRC_STAT_COPY_BUSY i = 1 then 1 else 0)

/-- A draining source with nothing left reads DISABLED, and its outputs show DSP_BG, those in self-refresh after they wake (R264). -/
def srcDrained (s : State) (i : Nat) : State :=
  if s.srcState i = srcDraining ∧ s.srcOwes i = 0 then
    (((s.setSrcState i srcDisabled).updSrc i (fun x => { x with fetching := false, exitAt := none, psrFrame := false })).irq
      (srcPage i) 0).wakeOutputs i
  else s

/-- A source is disabled: it drains what it has taken, and discards what waits to be taken (R264). -/
def srcDisable (s : State) (i : Nat) : State :=
  if s.srcState i = srcDisabled ∨ s.srcState i = srcDraining then s
  else
    let k := (s.src i).held.length
    (((s.setSrcState i srcDraining).updSrc i (fun x => { x with held := [] })).bumpBy R.DSP_REFUSED k i).srcDrained i

/-- The end of DSP_DRAIN (R264): what remains is discarded, each FENCE with FENCE_ABORTED. -/
def srcAbort (s : State) (i : Nat) : State :=
  if s.srcState i ≠ srcDraining then s
  else
    let k := s.srcOwes i
    let ws := (s.src i).waits
    let s := s.updSrc i (fun x => { x with flips := [], copy := false, waits := [], newMode := none, changing := none })
    let s := (s.wr R.DSP_SRC_STAT_FLIP_PENDING 0 i).wr R.DSP_SRC_STAT_COPY_BUSY 0 i
    let s := ws.foldl (fun s t => s.dspReply i evFenceAborted 0 t.1) (s.bumpBy R.DSP_ABORTED k i)
    (if k = 0 then s else s.irq (srcPage i) 5).srcDrained i

/-- Both sources drain and every output is off, for entry to P2 or deeper (R265). -/
def displayShuts (s : State) : State :=
  [0, 1].foldl srcDisable
    ((List.range 4).foldl (fun s o => (s.updOutput o (fun x => { x with en := false })).setOutState o outOff) s)

/-- A source leaves DISABLED: it has no mode yet. -/
def srcEnable (s : State) (i : Nat) : State :=
  let s := ((s.setSrcState i srcNoMode).wr R.DSP_SRC_MODE_H_ACT 0 i).wr R.DSP_SRC_MODE_V_ACT 0 i
  ((s.wr R.DSP_SRC_PCLK_KHZ 0 i).wr R.DSP_SRC_PCLK_FMT 0 i).updSrc i (fun x => { x with mode := none, scan := [] })

/-- A source with EN 1 and the outputs with EN 1 run again (R498). -/
def displayResumes (s : State) : State :=
  let s := [0, 1].foldl (fun s i =>
    if s.rd R.DSP_SRC_CFG_EN i = 1 ∧ s.srcState i = srcDisabled then
      (s.srcEnable i).updSrc i (fun x => { x with clone := s.rd R.DSP_SRC_CFG_CLONE i })
    else s) s
  (List.range 4).foldl (fun s o => (s.updOutput o (fun x => { x with en := s.outWanted o })).settleOutput o) s

/-! ### Frame starts -/

/-- Pending flips take effect (R247, R249); those applied in the cycle of this frame start wait for the next (Table 7.7). -/
def takeFlips (s : State) (i : Nat) : State :=
  let x := s.src i
  let rest := x.flips.filter (fun c => decide (s.hw ≤ c))
  let k := x.flips.length - rest.length
  if k = 0 then s
  else
    let s := s.updSrc i (fun x => { x with
      flips := rest
      copy := x.copy && !rest.isEmpty
      waits := (x.waits.filter (fun w => decide (k < w.2))).map (fun w => (w.1, w.2 - k)) })
    let s := s.wr R.DSP_SRC_STAT_FRONT ((s.rd R.DSP_SRC_STAT_FRONT i + k) % 2) i
    let s := if s.counting (srcPage i) then s.wr R.DSP_FLIP_CNT (s.rd R.DSP_FLIP_CNT i + k) i else s
    let s := (s.wr R.DSP_SRC_STAT_FLIP_PENDING (if rest.isEmpty then 0 else 1) i).wr R.DSP_SRC_STAT_COPY_BUSY
      (if x.copy && rest.isEmpty then 1 else 0) i
    (x.waits.filter (fun w => decide (w.2 ≤ k))).foldl (fun s t => s.dspReply i evFenceDone 0 t.1) s

/-- A pending mode takes effect: MODE_CHANGE (R246). -/
def takeMode (s : State) (i : Nat) : State :=
  match (s.src i).newMode with
  | none => s
  | some (m, token) =>
    let s := s.updSrc i (fun x => { x with mode := some m, newMode := none, changing := some token, fetching := false })
    let s := if s.srcState i = srcDraining then s else s.setSrcState i srcChange
    let s := ((s.wr R.DSP_SRC_MODE_H_ACT m.hAct i).wr R.DSP_SRC_MODE_V_ACT m.vAct i)
    let s := (s.wr R.DSP_SRC_PCLK_KHZ m.pclk i).wr R.DSP_SRC_PCLK_FMT (if m.deep then 1 else 0) i
    let s := s.fillBuffers i m
    (s.groupOf i).foldl (fun s o =>
      match (s.output o).sink with
      | none => s
      | some k =>
        if s.outState o = outActive ∧ s.carries o m k (s.output o).link then s
        else if s.outState o = outOff ∨ s.outState o = outNoSink then s
        else s.startTraining o) s

/-- The lines of the frame that ended with an underrun are journalled once, under the first output that met one (R255). -/
def journalLines (s : State) (i : Nat) : State :=
  let x := s.src i
  let s := s.updSrc i (fun x => { x with lines := 0, lateOut := none })
  match x.lateOut with
  | some o => s.journalAt s.tswNow (outPage o) 5 x.lines
  | none => s

/-- The fetcher of a source that left self-refresh starts again, unless the update came less than 1 ms ago (R259). -/
def resumeFetch (s : State) (i : Nat) : State :=
  match (s.src i).exitAt with
  | some t => if t + 1000000 ≤ s.hw then s.updSrc i (fun x => { x with fetching := true, exitAt := none }) else s
  | none => s

/-- IDLE counts a frame start, unless an update of the source was applied in its cycle (R257, Table 7.7). -/
def countIdle (s : State) (i : Nat) : State :=
  if (s.src i).updAt = some s.hw then s
  else (s.bump R.DSP_SRC_STAT_IDLE i).updSrc i (fun x => { x with idle := min (x.idle + 1) 0xFFFF })

/-- A frame start of a source (R238): the fetcher begins the frame's first line, and self-refresh is entered when its frames have passed (R257). A source without power has none (R265). -/
def frameStart (s : State) (i : Nat) : State :=
  if !s.srcPowered i then s else
  let s := ((s.bumpWrap R.DSP_FRAME_CNT i).tally (0x150 + i)).journalLines i
  let s := ((s.takeClone i).takeFlips i).updSrc i (fun x => { x with cursor := x.newCursor.getD x.cursor, newCursor := none, scan := [] })
  let s := (((s.takeMode i).resumeFetch i).srcDrained i).countIdle i
  if s.psrReady i ∧ s.rd R.DSP_SRC_CFG_PSR_FRAMES i ≤ (s.src i).idle then s.enterPsr i else s

/-- The latency tolerance of a source in µs: its buffer of `fill` steps over its drain (R254). -/
def tolerance (s : State) (i fill : Nat) : Nat :=
  match (s.src i).mode with
  | none => 0xFFFF
  | some m => fill * 256 * 1000 / (4 * m.pclk) - s.rd R.DSP_LT_GUARD

/-- The adapter states its latency tolerance (R254), with the fills as scan-out has left them. -/
def stateTolerance (s : State) (f0 f1 : Nat) : State :=
  let run := fun (i : Nat) => s.srcPowered i && (s.srcState i == srcRun || (s.srcState i == srcPsr && (s.src i).psrFrame))
  let a := if run 0 then s.tolerance 0 f0 else 0xFFFF
  let b := if run 1 then s.tolerance 1 f1 else 0xFFFF
  ((s.wr R.DSP_LT (min a b)).wr R.DSP_FILL f0 0).wr R.DSP_FILL f1 1

/-- The end of the frame sent with PSR active: the fetcher stops, the tolerance is withdrawn and the main links stand by (R258). -/
def psrStandby (s : State) (i : Nat) : State :=
  if (s.src i).psrFrame = false ∨ s.srcState i ≠ srcPsr then s
  else
    let s := (s.updSrc i (fun x => { x with psrFrame := false, fetching := false })).wr R.DSP_FILL 0 i
    let s := s.stateTolerance (s.rd R.DSP_FILL 0) (s.rd R.DSP_FILL 1)
    (s.groupOf i).foldl (fun s o => if s.outState o = outActive then s.setOutState o outPsr else s) s

/-- MODE_CHANGE ends (R246). -/
def modeChanged (s : State) (i : Nat) : State :=
  match (s.src i).changing with
  | none => s
  | some token =>
    let s := s.updSrc i (fun x => { x with changing := none, fetching := true })
    let s := if s.srcState i = srcChange then s.setSrcState i srcRun else s
    (((s.irq (srcPage i) 3).dspReply i evModeDone 0 token).srcDrained i).takeHeld i

/-- A copy ends (R247). -/
def copied (s : State) (i : Nat) : State :=
  if s.rd R.DSP_SRC_STAT_COPY_BUSY i = 0 then s
  else
    let s := match (s.src i).mode with
      | none => s
      | some m => s.copyBuffer i m
    ((s.wr R.DSP_SRC_STAT_COPY_BUSY 0 i).srcDrained i).takeHeld i

/-! ### Scan-out -/

/-- A source reads its buffer for scan-out: it runs, its fetcher is not stopped, and it is powered (R265). -/
def fetches (s : State) (i : Nat) : Bool :=
  (s.src i).fetching && (s.srcState i == srcRun || s.srcState i == srcPsr) && s.srcPowered i

/-- Bytes of a line of a mode as the fetcher reads it. -/
def lineBytes (m : DspMode) : Nat := 4 * m.hAct

/-- The address of byte `o` of a source's frame in raster order, in its front buffer. -/
def scanAddr (s : State) (i : Nat) (m : DspMode) (o : Nat) : Nat :=
  s.pixelAddr i (s.rd R.DSP_SRC_STAT_FRONT i) m 0 (o / lineBytes m) + o % lineBytes m

/-- The bytes that the fetcher reads when scan-out has left `fill` steps of 256 bytes: at the low-water mark, until the buffer is full or the frame ends (R253; log 134). -/
def fetchBytes (s : State) (i fill : Nat) : List Byte :=
  match (s.src i).mode with
  | none => []
  | some m =>
    let pos := (s.src i).scan.length
    if s.fetches i ∧ fill ≤ s.rd R.DSP_FETCH_LO i then
      (List.range (min ((2048 - fill) * 256) (lineBytes m * m.vAct - pos))).map (fun k => s.dram.get 0 (s.scanAddr i m (pos + k)))
    else []

/-- The scan-out buffer has drained to `fill` steps of 256 bytes, and the fetcher reads on, with `corr` corrected errors (R253, Table 7.8). -/
def fetch (s : State) (i fill corr : Nat) : State :=
  let bs := s.fetchBytes i fill
  if bs.isEmpty then s.wr R.DSP_FILL fill i
  else
    let k := (bs.length + 63) / 64
    let s := (s.updSrc i (fun x => { x with scan := x.scan ++ bs })).wr R.DSP_FILL (fill + (bs.length + 255) / 256) i
    ((({ s with pwr := { s.pwr with refresh := false } }.tally 0x156 k).tally 0x1C0 k).tally 0x1C3 corr).bumpBy R.DSP_DRAM_ERR_CORR corr

/-- The line that the fetcher is in is late: the rest of it shows its last pixel fetched, or DSP_BG when none of it was fetched, and the fetcher goes on with the next line (R255). -/
def lateLine (s : State) (i : Nat) (whole : Bool) : State :=
  match (s.src i).mode with
  | none => s
  | some m =>
    let all := (s.src i).scan
    let y := all.length / lineBytes m
    let kept := if whole then all.take (y * lineBytes m) else all
    let px := if kept.length % lineBytes m = 0 then toLe 4 (s.backWord i m.deep 0) else kept.drop (kept.length - 4)
    if m.vAct ≤ y then s
    else s.updSrc i (fun x => { x with
      scan := kept ++ (List.replicate (((y + 1) * lineBytes m - kept.length) / 4) px).flatten })

/-- The 64 bytes of an uncorrectable error show DSP_BG where they were fetched (R256). -/
def showBack (s : State) (addr : Nat) : State :=
  [0, 1].foldl (fun s i =>
    match (s.src i).mode with
    | none => s
    | some m =>
      let back := toLe 4 (s.backWord i m.deep 0)
      s.updSrc i (fun x => { x with scan := (x.scan.zip (List.range x.scan.length)).map (fun b =>
        if s.scanAddr i m b.2 / 64 = addr / 64 then (back.getD (b.2 % 4) 0) else b.1) })) s

/-- A line with an underrun at the ACTIVE outputs of the clone group (R255); `whole` when no pixel of it was fetched. -/
def underrun (s : State) (i : Nat) (whole : Bool) : State :=
  let os := (s.groupOf i).filter (fun o => s.outState o == outActive)
  match os with
  | [] => s
  | first :: _ =>
    os.foldl (fun s o =>
      let s := ((s.bump R.DSP_UNDERRUN o).tally (0x152 + o)).irq (outPage o) 5
      if whole then s.bump R.DSP_UNDERRUN_BG o else s)
      ((s.lateLine i whole).updSrc i (fun x => { x with lines := x.lines + 1, lateOut := x.lateOut.or (some first) }))

/-- The colour component that the cursor leaves over a frame's (R248): α × cursor + (1 − α) × frame with α = A / 255; its rounding is a free value (log 15). -/
def blend (s : State) (a c f : Nat) : Nat := (s.roundDiv ((a * c + (255 - a) * f : Nat) : Int) 255).toNat

/-- The cursor pixel over frame pixel (x, y), when the cursor covers it: its A, R, G, B bytes (R248). -/
def cursorPixel (c : Cursor) (x y : Int) : Option (Nat × Nat × Nat × Nat) :=
  let i := x - (c.x - c.hotX)
  let j := y - (c.y - c.hotY)
  if c.visible ∧ 0 ≤ i ∧ i < 64 ∧ 0 ≤ j ∧ j < 64 then
    let half := if j < 32 then c.top else c.bottom
    let w := beAt half (4 * ((j % 32).toNat * 64 + i.toNat)) 4
    some (bitsOf w 31 24, bitsOf w 23 16, bitsOf w 15 8, bitsOf w 7 0)
  else none

/-- The R, G and B components of a pixel word. -/
def components (deep : Bool) (w : Nat) : Nat × Nat × Nat :=
  if deep then (bitsOf w 29 20, bitsOf w 19 10, bitsOf w 9 0) else (bitsOf w 23 16, bitsOf w 15 8, bitsOf w 7 0)

/-- The pixel word that scan-out has for (x, y): as it was fetched, or as a fetch of it now would bring it; DSP_BG once the source is DISABLED (R237, R240, R245, R264). -/
def scanWord (s : State) (i : Nat) (m : DspMode) (x y : Nat) : Nat :=
  let o := y * lineBytes m + 4 * x
  let all := (s.src i).scan
  if s.srcState i = srcDisabled then s.backWord i m.deep 0
  else if o + 4 ≤ all.length then ofLe ((all.drop o).take 4)
  else ofLe (s.dramRead (s.scanAddr i m o) 4)

/-- The R, G and B components that a source shows at (x, y) of its active area (R237, R248). -/
def shownPixel (s : State) (i : Nat) (m : DspMode) (x y : Nat) : Nat × Nat × Nat :=
  let f := components m.deep (s.scanWord i m x y)
  match (if s.srcState i = srcDisabled then none else cursorPixel (s.src i).cursor x y) with
  | none => f
  | some (a, r, g, b) =>
    let up := fun (c : Nat) => if m.deep then 4 * c + c / 64 else c
    (s.blend a (up r) f.1, s.blend a (up g) f.2.1, s.blend a (up b) f.2.2)

/-- A component cut by `d` of `w` bits with a 2×2 ordered dither; its matrix is a free value (R260, log 135). -/
def dithered (w d x y c : Nat) : Nat :=
  min (2 ^ (w - d) - 1) ((c + (Config.dither (x % 2) (y % 2) d).toNat % 2 ^ d) / 2 ^ d)

/-- A source sends no video: a mode change runs (R246), also while the source drains, or its fetcher has not started again since self-refresh (R259). -/
def sendsNone (s : State) (i : Nat) : Bool :=
  (s.src i).changing.isSome || ((s.src i).exitAt.isSome && !(s.src i).fetching)

/-- What an output sends at (x, y): its source's pixel at the bits per component of the link; nothing unless it is ACTIVE with a mode and its source sends video (R236, R237, R246, R259, R260). -/
def outPixel (s : State) (o x y : Nat) : Option (Nat × Nat × Nat) :=
  match s.outSource o, s.outMode o, (s.output o).sink with
  | some i, some m, some k =>
    if s.outState o ≠ outActive ∨ s.sendsNone i then none
    else
      let p := s.shownPixel i m x y
      let cut := dithered (sourceBpc m) (sourceBpc m - s.outBpc o m k) x y
      some (cut p.1, cut p.2.1, cut p.2.2)
  | _, _, _ => none

/-! ### AUX -/

/-- DSP_AUX_CMD of an output. -/
def auxAddr (o : Nat) : Nat := 0x304054 + 0x1000 * o

/-- The 16 bytes of DSP_AUX_D. -/
def auxData (s : State) (o : Nat) : List Byte := (List.range 4).flatMap (fun j => toLe 4 (s.rd R.DSP_AUX_D o j))

/-- An AUX command of the firmware (R263): refused while training, PSR control or another command holds the channel. -/
def auxCmd (s : State) (path o op data : Nat) : State :=
  s.gateWrite path (auxAddr o) data (fun s =>
    if s.outState o = outTraining ∨ s.outState o = outPsr ∨ (s.output o).aux.isSome then s.wr R.DSP_AUX_STAT_LAST_RESULT 4 o
    else
      let len := bitsOf data 7 4 + 1
      let addr := if op < 3 then bitsOf data 27 8 else bitsOf data 14 8
      let s := (s.updOutput o (fun x => { x with aux := some (op, addr, len, 1) })).wr R.DSP_AUX_STAT_BUSY 1 o
      s.emit (.aux o op addr len (if op % 2 = 0 then (s.auxData o).take len else [])))

/-- An AUX command ends with a result. -/
def auxDone (s : State) (o r : Nat) : State :=
  (((s.updOutput o (fun x => { x with aux := none })).wr R.DSP_AUX_STAT_BUSY 0 o).wr R.DSP_AUX_STAT_LAST_RESULT r o).irq (outPage o) 6

/-- Bytes read over AUX reach DSP_AUX_D. -/
def auxStore (s : State) (o : Nat) (bs : List Byte) : State :=
  let all := bs.take 16 ++ (s.auxData o).drop (min 16 bs.length)
  (List.range 4).foldl (fun s j => s.wr R.DSP_AUX_D (ofLe ((all.drop (4 * j)).take 4)) o j) s

/-- An AUX reply (R263): 0 ACK with data, 1 NACK, 2 DEFER, which is tried again up to seven attempts. -/
def auxReply (s : State) (o code : Nat) (bs : List Byte) : State :=
  match (s.output o).aux with
  | none => s
  | some (op, addr, len, k) =>
    if code = 0 then (if op % 2 = 1 then s.auxStore o (bs.take len) else s).auxDone o 0
    else if code = 1 then s.auxDone o 1
    else if 7 ≤ k then s.auxDone o 2
    else
      (s.updOutput o (fun x => { x with aux := some (op, addr, len, k + 1) })).emit
        (.aux o op addr len (if op % 2 = 0 then (s.auxData o).take len else []))

/-! ### Enabling -/

/-- Fields of DSP_SRC_CFG besides EN. -/
def srcCfgFields : List Field :=
  [R.DSP_SRC_CFG_EN, R.DSP_SRC_CFG_CLONE, R.DSP_SRC_CFG_REL_GRP, R.DSP_SRC_CFG_PSR_EN, R.DSP_SRC_CFG_PSR_FRAMES]

/-- A write of DSP_SRC_CFG. -/
def srcCfgWrite (s : State) (path i data : Nat) (act : State → State) : State :=
  let a := 0x301040 + 0x1000 * i
  s.gateWrite path a data (fun s => (act (s.store path a data srcCfgFields i)).cloneWritten i)

end State

/-- MODE_SET (R246). -/
def execModeSet (u : UnitMsg) (s : State) : Host.Outcome State Fault Refusal :=
  nextIn 12 s (s.begin.takeDisplay u 1)

/-- RECT_RAW (R243). -/
def execRectRaw (u : UnitMsg) (s : State) : Host.Outcome State Fault Refusal :=
  nextIn 12 s (s.begin.takeDisplay u 2)

/-- RECT_TILE (R244). -/
def execRectTile (u : UnitMsg) (s : State) : Host.Outcome State Fault Refusal :=
  nextIn 12 s (s.begin.takeDisplay u 3)

/-- CURSOR (R248). -/
def execCursor (u : UnitMsg) (s : State) : Host.Outcome State Fault Refusal :=
  nextIn 12 s (s.begin.takeDisplay u 4)

/-- FLIP (R247). -/
def execFlip (u : UnitMsg) (s : State) : Host.Outcome State Fault Refusal :=
  nextIn 12 s (s.begin.takeDisplay u 5)

/-- DISPLAY_FENCE (R249): a FENCE unit of kind 0x01 completes in the same way and sends no reply. -/
def execDisplayFence (u : UnitMsg) (s : State) : Host.Outcome State Fault Refusal :=
  nextIn 12 s (s.begin.takeDisplay u 6)

/-- FRAME_START (R238). -/
def execFrameStart (i : Nat) (s : State) : Host.Outcome State Fault Refusal :=
  guardedIn 12 s (decide (i < 2)) (s.begin.frameStart i)

/-- PSR_STANDBY (R258). -/
def execPsrStandby (i : Nat) (s : State) : Host.Outcome State Fault Refusal :=
  guardedIn 12 s (decide (i < 2)) (s.begin.psrStandby i)

/-- MODE_CHANGE_DONE (R246). -/
def execModeChangeDone (i : Nat) (s : State) : Host.Outcome State Fault Refusal :=
  guardedIn 12 s (decide (i < 2)) (s.begin.modeChanged i)

/-- COPY_DONE (R247). -/
def execCopyDone (i : Nat) (s : State) : Host.Outcome State Fault Refusal :=
  guardedIn 12 s (decide (i < 2)) (s.begin.copied i)

/-- FETCH_START (R253): with what scan-out has left in the buffer. -/
def execFetchStart (i : Nat) (run : FetchRun) (s : State) : Host.Outcome State Fault Refusal :=
  guardedIn 12 s (decide (i < 2) && decide (run.fill ≤ 2048)) (s.begin.fetch i run.fill run.corr)

/-- FETCH_DRAM_UNCORR (R256); a failed DRAM die meets it at every block that is fetched. -/
def execFetchDramUncorr (addr : Nat) (s : State) : Host.Outcome State Fault Refusal :=
  nextIn 12 s (((s.begin.showBack addr).bump R.DSP_DRAM_ERR_UNCORR).event 0x300 2 addr)

/-- LATENCY_TOLERANCE_UPDATE (R254): with the fills of the two sources as scan-out has left them. -/
def execLatencyToleranceUpdate (f0 f1 : Nat) (s : State) : Host.Outcome State Fault Refusal :=
  guardedIn 12 s (decide (f0 ≤ 2048) && decide (f1 ≤ 2048)) (s.begin.stateTolerance f0 f1)

/-- UNDERRUN (R255). -/
def execUnderrun (i : Nat) (whole : Bool) (s : State) : Host.Outcome State Fault Refusal :=
  guardedIn 12 s (decide (i < 2)) (s.begin.underrun i whole)

/-- HPD_PLUG (R261): with what the sink reports; in Display Direct the output's own balls stay idle (R262). -/
def execHpdPlug (o : Nat) (sink : DspSink) (s : State) : Host.Outcome State Fault Refusal :=
  guardedIn 12 s (decide (o < 4)) (let s := s.begin.setOwn o (some sink)
     if (s.directTrunk o).isSome then s else s.hpdPlug o sink)

/-- HPD_UNPLUG (R261). -/
def execHpdUnplug (o : Nat) (s : State) : Host.Outcome State Fault Refusal :=
  guardedIn 12 s (decide (o < 4)) (let s := s.begin.setOwn o none
     if (s.directTrunk o).isSome then s else s.hpdUnplug o)

/-- IRQ_HPD (R261): `lost` when the sink's link status shows the link lost. -/
def execIrqHpd (o : Nat) (lost : Bool) (s : State) : Host.Outcome State Fault Refusal :=
  guardedIn 12 s (decide (o < 4)) (if (s.directTrunk o).isSome then s.begin else s.begin.hpdIrq o lost)

/-- OUTPUT_TRAIN_ATTEMPT_DONE (R260). -/
def execOutputTrainAttemptDone (o : Nat) (ok : Bool) (s : State) : Host.Outcome State Fault Refusal :=
  guardedIn 12 s (decide (o < 4)) (s.begin.trainDone o ok)

/-- AUX_NATIVE_READ (R263). -/
def execAuxNativeRead (path o data : Nat) (s : State) : Host.Outcome State Fault Refusal :=
  guarded (decide (path < 8) && decide (o < 4)) (s.begin.auxCmd path o 1 data)

/-- AUX_NATIVE_WRITE (R263). -/
def execAuxNativeWrite (path o data : Nat) (s : State) : Host.Outcome State Fault Refusal :=
  guarded (decide (path < 8) && decide (o < 4)) (s.begin.auxCmd path o 2 data)

/-- AUX_I2C_READ (R263). -/
def execAuxI2cRead (path o data : Nat) (s : State) : Host.Outcome State Fault Refusal :=
  guarded (decide (path < 8) && decide (o < 4)) (s.begin.auxCmd path o 3 data)

/-- AUX_I2C_WRITE (R263). -/
def execAuxI2cWrite (path o data : Nat) (s : State) : Host.Outcome State Fault Refusal :=
  guarded (decide (path < 8) && decide (o < 4)) (s.begin.auxCmd path o 4 data)

/-- AUX_REPLY (R263). -/
def execAuxReply (o code : Nat) (data : List Byte) (s : State) : Host.Outcome State Fault Refusal :=
  guardedIn 12 s (decide (o < 4) && decide (code < 3)) (s.begin.auxReply o code data)

/-- AUX_TIMEOUT (R263): while the output trains, the AUX channel is the training's, which ends in FAILED with cause AUX_FAIL (Table 7.14; log 136). -/
def execAuxTimeout (o : Nat) (s : State) : Host.Outcome State Fault Refusal :=
  guardedIn 12 s (decide (o < 4)) (let s := s.begin
     if (s.output o).aux.isSome then s.auxDone o 3
     else if s.outState o = outTraining then (s.updOutput o (fun x => { x with tries := [] })).outFail o 4
     else s)

/-- SOURCE_ENABLE (R235): a write of DSP_SRC_CFG with EN 1. -/
def execSourceEnable (path i data : Nat) (s : State) : Host.Outcome State Fault Refusal :=
  guarded (decide (path < 8) && decide (i < 2))
    (s.begin.srcCfgWrite path i (data / 2 * 2 + 1) (fun s =>
      if s.srcState i = srcDisabled ∧ s.drainedTo 2 = false then s.srcEnable i else s))

/-- SOURCE_DISABLE (R264): a write of DSP_SRC_CFG with EN 0. -/
def execSourceDisable (path i data : Nat) (s : State) : Host.Outcome State Fault Refusal :=
  guarded (decide (path < 8) && decide (i < 2))
    (s.begin.srcCfgWrite path i (data / 2 * 2) (fun s => s.srcDisable i))

/-- SOURCE_DRAIN_TIMEOUT (R264). -/
def execSourceDrainTimeout (i : Nat) (s : State) : Host.Outcome State Fault Refusal :=
  guardedIn 12 s (decide (i < 2)) (s.begin.srcAbort i)

/-- ALT_MODE_WRITE (R123, R262): a write of TRK_ALTCFG; MODE is taken only while EN is 0 and the link is DOWN. -/
def execAltModeWrite (path n data : Nat) (s : State) : Host.Outcome State Fault Refusal :=
  guarded (decide (path < 8) && decide (n < 16))
    (s.begin.gateWrite path ((0x082 + 8 * n) * 4096 + 0xA0) data (fun old =>
      let s := old.store path ((0x082 + 8 * n) * 4096 + 0xA0) data [R.TRK_ALTCFG_ETH_MAC, R.TRK_ALTCFG_DSP_OUT] n
      let m := data % 4
      let s := if s.rd R.TRK_LCFG_EN n = 0 ∧ s.linkState n = linkDown then
          (s.wr R.TRK_ALTCFG_MODE m n).wr R.TRK_LANESTAT_ALTMODE (if m = 3 then 0 else m) n
        else s
      s.directMoved old))

end Sys2Proof.Machine
end

