-- ==== Sys2Proof/Machine/Keys.lean ====
section
/-! DEFINITION. Keys, tamper and access authority (chapter 13): derivation, key slots, masks and owner authority, one-time-programmable contents, the tamper response, attestation and debug access. -/

namespace Sys2Proof.Machine

/-- States of KEY_STAT.ROOT. -/
def rootEmpty : Nat := 0
def rootProvisioned : Nat := 1
def rootZeroised : Nat := 2

/-- Key types of Table 13.6. -/
def typeAes : Nat := 1
def typeHmac : Nat := 2
def typeP384 : Nat := 3

/-- Results of KEY_STAT, KEY_ATT_STAT and KEY_DBG_STAT that are shared. -/
def keyNotOwner : Nat := 1
def keyNoRoot : Nat := 2
def keyBadTag : Nat := 3
def keyBadBlob : Nat := 4
def keyUsage : Nat := 5
def keySlotState : Nat := 6
def keyAlready : Nat := 7
def keyTamper : Nat := 8
def keyDebugOpen : Nat := 9
def keyZeroised : Nat := 10
def keyBusy : Nat := 12
def keyBadOp : Nat := 13

/-- Addresses of the command registers. -/
def keyCmdAddr : Nat := 0x020044
def authCmdAddr : Nat := 0x02104C
def dbgCmdAddr : Nat := 0x022044
def otpCmdAddr : Nat := 0x024080

/-- The ASCII bytes of a label. -/
def ascii (l : String) : List Byte := l.toList.map (fun c => BitVec.ofNat 8 c.toNat)

/-- The test root (R416). -/
def testRoot : List Byte := List.replicate 32 0xA5

namespace State

def updKey (s : State) (f : KeyState → KeyState) : State := { s with key := f s.key }
def slot (s : State) (k : Nat) : Option KeySlot := s.key.slots.get none k
def setSlot (s : State) (k : Nat) (x : Option KeySlot) : State := s.updKey (fun y => { y with slots := y.slots.set none k x })

/-- The bytes of `n` words of a buffer register. -/
def bufBytes (s : State) (f : Field) (n : Nat) : List Byte := (List.range n).flatMap (fun i => toLe 4 (s.rd f 0 i))

/-- Puts bytes at the start of a buffer of `n` words. -/
def setBuf (s : State) (f : Field) (n : Nat) (bs : List Byte) : State :=
  let all := bs ++ (s.bufBytes f n).drop bs.length
  (List.range n).foldl (fun s i => s.wr f (leAt all (4 * i) 4) 0 i) s

/-- SERIAL as 8 bytes. -/
def serial (s : State) : List Byte := toLe 8 (s.rd R.KEY_SERIAL)

def rootIs (s : State) (r : Nat) : Bool := s.rd R.KEY_STAT_ROOT == r

/-! ### Derivation -/

/-- HKDF of a root under a label of Table 13.5 and its context (R416). -/
def derive (s : State) (root : List Byte) (label : String) (ctx : List Byte) (n : Nat) : List Byte :=
  Config.hkdf root s.serial (ascii label ++ ctx) n

/-- The root in use: the stored root, or the test root while debug is open. -/
def rootInUse (s : State) : Option (List Byte) := if s.debugOpen then some testRoot else s.key.root

def rootEpoch (s : State) : List Byte := toLe 4 (s.rd R.KEY_EPOCH)

/-- The attestation private key of a root (Table 13.5). -/
def attestKey (s : State) (root : List Byte) : Nat :=
  ofBe (s.derive root "WTL-BH4816 attest" s.rootEpoch 64) % (Config.p384Order - 1) + 1

/-- The check value of a root. -/
def checkOf (s : State) (root : List Byte) : List Byte := s.derive root "WTL-BH4816 check" [] 4

/-- The wrap key and the attestation key are derived from the root in use. -/
def rederive (s : State) : State :=
  match s.rootInUse with
  | none => s.updKey (fun k => { k with wrapKey := [], attKey := none })
  | some r => s.updKey (fun k => { k with wrapKey := s.derive r "WTL-BH4816 wrap" s.rootEpoch 32, attKey := some (s.attestKey r) })

/-! ### Owner authority -/

/-- A register write that needs owner authority (R408): without it, it is refused as R407 gives. -/
def ownerWrite (s : State) (path addr data : Nat) (act : State → State) : State :=
  s.gateWrite path addr data (fun s => if s.ownerPath path then act s else s.deny path true addr data 0xF)

def authResult (s : State) (r : Nat) : State := s.wr R.KEY_AUTH_STAT_LAST_RESULT r

/-- KEY_AUTH_CMD READ: zero for a page without a mask (R409). -/
def authRead (s : State) : State :=
  let p := s.rd R.KEY_AUTH_INDEX
  let v := fun (f : Field) => if pageListed p then s.rd f p else 0
  (((s.wr R.KEY_AUTH_DATA_RD (v R.PAGE_AUTH_RD)).wr R.KEY_AUTH_DATA_WR (v R.PAGE_AUTH_WR)).wr R.KEY_AUTH_DATA_LOCKED
    (v R.PAGE_AUTH_LOCKED)).authResult 0

/-- KEY_AUTH_CMD WRITE: bit 0 of RD and of WR stays 1 (R406, R409). -/
def authWrite (s : State) (path : Nat) : State :=
  let p := s.rd R.KEY_AUTH_INDEX
  if !s.ownerPath path then s.authResult 1
  else if !pageListed p then s.authResult 3
  else if s.rd R.PAGE_AUTH_LOCKED p = 1 then s.authResult 2
  else
    ((s.wr R.PAGE_AUTH_RD (s.rd R.KEY_AUTH_DATA_RD ||| 1) p).wr R.PAGE_AUTH_WR (s.rd R.KEY_AUTH_DATA_WR ||| 1) p).authResult 0

/-- KEY_AUTH_CMD LOCK. -/
def authLock (s : State) (path : Nat) : State :=
  let p := s.rd R.KEY_AUTH_INDEX
  if !s.ownerPath path then s.authResult 1
  else if !pageListed p then s.authResult 3
  else (s.wr R.PAGE_AUTH_LOCKED 1 p).authResult 0

/-! ### Key store commands -/

def keyResult (s : State) (r : Nat) : State := s.wr R.KEY_STAT_LAST_RESULT r

/-- An enabled tamper source is active. -/
def tamperActive (s : State) : Bool := s.rd R.KEY_TMP_LIVE &&& s.rd R.KEY_TMP_EN != 0

/-- Why PROVISION is refused (R415). -/
def provisionRefused (s : State) (path : Nat) : Option Nat :=
  if !s.ownerPath path then some keyNotOwner
  else if s.rootIs rootProvisioned then some keyAlready
  else if s.debugOpen then some keyDebugOpen
  else if s.tamperActive then some keyTamper
  else none

/-- A blob that LOAD does not take (R418). -/
def blobBad (s : State) (b : List Byte) (slot : Nat) : Bool :=
  leAt b 0 1 != 1 || leAt b 1 1 != slot || leAt b 2 1 < typeAes || typeP384 < leAt b 2 1 || 32 ≤ leAt b 3 1 ||
    leAt b 92 4 != 0 || leAt b 4 4 != s.rd R.KEY_EPOCH

/-- The key of a slot that may be used. -/
def loaded (s : State) (k : Nat) : Option KeySlot := (s.slot k).filter (fun x => !x.unusable)

/-- Why an operation with the key of a slot is refused: the slot's state, then its type and USAGE bit, where the operation asks for one (R419), and its ENG_MASK for the image of logical engine `eng` (R420). -/
def slotRefused (s : State) (k : Nat) (kind bit eng : Option Nat) : Option Nat :=
  match s.loaded k with
  | none => some keySlotState
  | some x =>
    if kind.all (fun t => x.kind == t) && bit.all (fun b => x.usage.testBit b) && eng.all (fun l => x.engMask.testBit l) then none
    else some keyUsage

/-- A hub without a root refuses an operation (A zeroised hub). -/
def needRoot (s : State) (o : Option Nat) : Option Nat := if s.rootIs rootProvisioned then o else some keyNoRoot

/-- The logical engine whose ENG_MASK bit an access needs (R420): none on a path that no engine's image uses (DEDUCED, log 127). -/
def engineOf (path l : Nat) : Option Nat := if path = pathEngine then some l else none

/-- Why a key store command is refused: an UNUSABLE slot serves none but LOAD, CLEAR and GENERATE (R418), and a LOADED one takes a DERIVE only with USAGE bit DERIVE (R419, log 145); `l` is the logical engine of an access on the ENGINE path. -/
def keyRefused (s : State) (path op k kind l : Nat) (buf : List Byte) : Option Nat :=
  match op with
  | 1 => s.provisionRefused path
  | 2 => s.needRoot (if s.blobBad buf k then some keyBadBlob else none)
  | 3 => none
  | 4 => s.needRoot (if typeAes ≤ kind ∧ kind ≤ typeP384 then none else some keyBadOp)
  | 5 => s.slotRefused k none none (engineOf path l)
  | 6 => s.needRoot (if (s.slot k).any (·.unusable) then some keySlotState
    else if (s.slot k).any (fun x => !x.usage.testBit 4) then some keyUsage
    else if typeAes ≤ kind ∧ kind ≤ typeP384 then none else some keyBadOp)
  | 7 => s.needRoot (s.slotRefused k (some typeP384) (some 2) (engineOf path l))
  | 8 => s.needRoot (s.slotRefused k (some typeHmac) (some 3) (engineOf path l))
  | 9 => s.slotRefused k (some typeP384) none (engineOf path l)
  | 10 => s.needRoot none
  | _ => some keyBadOp

/-- A key store command begins (R56): the buffer it works on is the one of this instant. -/
def keyCmd (s : State) (path op k kind usage l : Nat) : State :=
  let buf := s.bufBytes R.KEY_BUF 64
  if s.rd R.KEY_STAT_BUSY = 1 then s.keyResult keyBusy
  else
    match s.keyRefused path op k kind l buf with
    | some r => s.keyResult r
    | none => (s.updKey (fun x => { x with job := some ⟨op, k, kind, usage, buf⟩ })).wr R.KEY_STAT_BUSY 1

/-- Bytes in a key of a type. -/
def keyBytes (kind : Nat) : Nat := if kind = typeAes then 32 else 48

/-- PROVISION completes (R415): 32 free bytes become the root. -/
def provision (s : State) : State :=
  let r := s.freeBytes 32
  let s := { s with free := s.free + 32 }
  let s := (s.wr R.KEY_EPOCH ((s.rd R.KEY_EPOCH + 1) % 2 ^ 32)).wr R.KEY_STAT_ROOT rootProvisioned
  (s.updKey (fun k => { k with root := some r, check := s.checkOf r })).rederive.keyResult 0

/-- LOAD completes (R417, R418). -/
def keyLoad (s : State) (k : Nat) (b : List Byte) : State :=
  match Config.gcmOpen s.key.wrapKey ((b.drop 16).take 12) (b.take 16) ((b.drop 28).take 48) ((b.drop 76).take 16) with
  | some key =>
    (s.setSlot k (some ⟨false, leAt b 2 1, leAt b 3 1, leAt b 8 2, (b.drop 10).take 6, key.take (keyBytes (leAt b 2 1))⟩)).keyResult 0
  | none => ((s.setSlot k (some ⟨true, 0, 0, 0, [], []⟩)).bump R.KEY_BADTAG_CNT).keyResult keyBadTag

/-- A slot takes a new key; its LABEL is not stated and is free. -/
def fillSlot (s : State) (j : KeyJob) (key : List Byte) : State :=
  let label := s.freeBytes 6
  ({ s with free := s.free + 6 }.setSlot j.slot (some ⟨false, j.kind, j.usage, leAt j.buf 0 2, label, key⟩)).keyResult 0

/-- GENERATE completes. -/
def keyGenerate (s : State) (j : KeyJob) : State :=
  let key := s.freeBytes (keyBytes j.kind)
  { s with free := s.free + keyBytes j.kind }.fillSlot j key

/-- DERIVE completes: the context follows ENG_MASK in the buffer. -/
def keyDerive (s : State) (j : KeyJob) : State :=
  s.fillSlot j (s.derive (s.rootInUse.getD []) "WTL-BH4816 owner" ((j.buf.drop 2).take 16) (keyBytes j.kind))

/-- WRAP completes: the slot's blob (R417). -/
def keyWrap (s : State) (k : Nat) : State :=
  match s.loaded k with
  | none => s.keyResult keySlotState
  | some x =>
    let iv := s.freeBytes 12
    let s := { s with free := s.free + 12 }
    let head := [1, BitVec.ofNat 8 k, BitVec.ofNat 8 x.kind, BitVec.ofNat 8 x.usage] ++ s.rootEpoch ++ toLe 2 x.engMask ++ padTo 6 x.label
    let c := Config.gcmSeal s.key.wrapKey iv head (padTo 48 x.key)
    (s.setBuf R.KEY_BUF 64 (head ++ iv ++ padTo 48 c.1 ++ padTo 16 c.2 ++ [0, 0, 0, 0])).keyResult 0

/-- An operation with a loaded slot's key writes its result into KEY_BUF. -/
def keyUse (s : State) (k n : Nat) (f : List Byte → List Byte) : State :=
  match s.loaded k with
  | none => s.keyResult keySlotState
  | some x => (s.setBuf R.KEY_BUF 64 (padTo n (f x.key))).keyResult 0

/-- READ_ATT_PUB completes. -/
def keyAttPub (s : State) : State :=
  match s.key.attKey with
  | none => s.keyResult keyNoRoot
  | some d => (s.setBuf R.KEY_BUF 64 (padTo 97 (Config.ecdsaPublic d))).keyResult 0

/-- What a key store command does as it completes. -/
def keyAct (s : State) (j : KeyJob) : State :=
  match j.op with
  | 1 => s.provision
  | 2 => s.keyLoad j.slot j.buf
  | 3 => (s.setSlot j.slot none).keyResult 0
  | 4 => s.keyGenerate j
  | 5 => s.keyWrap j.slot
  | 6 => s.keyDerive j
  | 7 => s.keyUse j.slot 96 (fun k => Config.ecdsaSign (ofBe k) (j.buf.take 48))
  | 8 => s.keyUse j.slot 48 (fun k => Config.hmac384 k (j.buf.take 48))
  | 9 => s.keyUse j.slot 97 (fun k => Config.ecdsaPublic (ofBe k))
  | _ => s.keyAttPub

/-- The key store command in progress completes. -/
def keyDone (s : State) : State :=
  match s.key.job with
  | none => s
  | some j => ((s.keyAct j).updKey (fun x => { x with job := none })).wr R.KEY_STAT_BUSY 0

/-! ### One-time-programmable contents -/

def otpResult (s : State) (r : Nat) : State := s.wr R.KEY_OTP_STAT_LAST_RESULT r

/-- Why an OTP command is refused (R408, R413). -/
def otpRefused (s : State) (path op kind svn : Nat) : Option Nat :=
  if !s.ownerPath path then some 1
  else
    match op with
    | 1 => if s.key.codeHash.isSome then some 2 else none
    | 2 => if s.key.debugHash.isSome then some 2 else none
    | 3 => if s.key.dbgNever then some 2 else none
    | _ =>
      if !imageKinds.any (fun k => k.1 == kind) then some 4
      else if svn ≤ s.svnMinOf kind then some 3
      else none

/-- An OTP command begins. -/
def otpCmd (s : State) (path op kind svn : Nat) : State :=
  if s.rd R.KEY_OTP_STAT_BUSY = 1 then s.otpResult keyBusy
  else
    match s.otpRefused path op kind svn with
    | some r => s.otpResult r
    | none =>
      (s.updKey (fun x => { x with otpJob := some ⟨op, 0, kind, svn, s.bufBytes R.KEY_OTP_BUF 12⟩ })).wr R.KEY_OTP_STAT_BUSY 1

/-- What an OTP command programs. -/
def otpAct (s : State) (j : KeyJob) : State :=
  match j.op with
  | 1 => (s.updKey (fun x => { x with codeHash := some j.buf })).wr R.KEY_OTP_STAT_CODE 1
  | 2 => (s.updKey (fun x => { x with debugHash := some j.buf })).wr R.KEY_OTP_STAT_DEBUG 1
  | 3 => (s.updKey (fun x => { x with dbgNever := true })).wr R.KEY_OTP_STAT_DBG_NEVER 1
  | _ => s.updKey (fun x => { x with svnMin := x.svnMin.set 0 j.kind j.usage })

/-- The OTP command in progress completes. -/
def otpDone (s : State) : State :=
  match s.key.otpJob with
  | none => s
  | some j => (((s.otpAct j).updKey (fun x => { x with otpJob := none })).wr R.KEY_OTP_STAT_BUSY 0).otpResult 0

/-! ### Tamper -/

/-- Debug access is closed. -/
def debugShut (s : State) : State :=
  (((s.wr R.KEY_DBG_STAT_OPEN 0).wr R.KEY_DBG_STAT_SCOPE 0).wr R.KEY_STAT_DEBUG 0).wr R.KEY_STAT_TEST_ROOT 0

/-- The debug nonce is discarded. -/
def nonceGone (s : State) : State := (s.updKey (fun k => { k with nonce := none })).wr R.KEY_DBG_STAT_NONCE_OPEN 0

/-- A key store or attestation command in progress is aborted with ZEROISED. -/
def keyAborts (s : State) : State :=
  let s := if s.key.job.isSome then (s.wr R.KEY_STAT_BUSY 0).keyResult keyZeroised else s
  let s := if s.key.att.isSome then (s.wr R.KEY_ATT_STAT_BUSY 0).wr R.KEY_ATT_STAT_LAST_RESULT keyZeroised else s
  s.updKey (fun k => { k with job := none, att := none })

/-- TAMPER is flagged, and INT_N asserted (R422, R534). -/
def tamperFlag (s : State) : State :=
  { s with csr := { s.csr with intn := s.csr.intn.set false (0x023 * 32) true } }.irq 0x023 0

/-- The journal entry that PENDING holds back follows once the journal runs (R422). -/
def tamperFollows (s : State) : State :=
  if s.rd R.KEY_TMP_LOG_PENDING = 1 ∧ s.domainRuns 1 then
    (s.wr R.KEY_TMP_LOG_PENDING 0).journalAt s.tswNow 0x023 0 (s.rd R.KEY_TMP_LOG_CAUSES)
  else s

/-- The tamper event is told: at once while the core die runs, with the journal entry to follow when the journal runs again, or all of it later (R422). -/
def tamperTold (s : State) : State :=
  let s := s.wr R.KEY_TMP_LOG_PENDING 1
  if s.rst.off then s else s.tamperFlag.tamperFollows

/-- The tamper response (R422). -/
def zeroise (s : State) (causes : Nat) : State :=
  let s := (s.keyAborts.nonceGone.debugShut.wr R.KEY_STAT_ROOT rootZeroised).updKey (fun k => { k with
    root := none, check := [], wrapKey := [], attKey := none, slots := [] })
  let s := (s.wr R.KEY_TMP_LOG_CAUSES causes).wr R.KEY_TMP_TIME (s.aonTime / 32768)
  (s.bump R.KEY_TMP_LOG_ZCOUNT).tamperTold

/-- The sources active in an island cycle; the first cycle with an enabled one zeroises the hub. -/
def tamper (s : State) (sources : Nat) : State :=
  let was := s.key.tampered
  let s := s.wr R.KEY_TMP_LIVE sources
  let s := s.updKey (fun k => { k with tampered := s.tamperActive })
  if s.tamperActive && !was then s.zeroise (s.rd R.KEY_TMP_LIVE &&& s.rd R.KEY_TMP_EN) else s

/-- The tamper sources at a measurement of VBAT: VBAT itself above 3.9 V, or below 2.0 V while the island runs from it (Table 13.7, R560); the others as they were. -/
def vbatSources (s : State) (mv : Nat) : Nat :=
  if 3900 < mv ∨ (s.rst.off ∧ mv < 2000) then s.rd R.KEY_TMP_LIVE ||| 16 else s.rd R.KEY_TMP_LIVE &&& 0x6F

/-- VBAT is measured: below 2.5 V, while VDD_AON is present, it sets BAT_LOW (Table 13.7). -/
def vbat (s : State) (mv : Nat) : State :=
  let s := s.wr R.KEY_BAT_VBAT mv
  if 2500 ≤ mv then s.wr R.KEY_BAT_BAT_LOW 0
  else if s.rst.off then s
  else (s.wr R.KEY_BAT_BAT_LOW 1).irq 0x023 1

/-! ### Attestation -/

/-- A CBOR head: major type and argument, in the shortest form (RFC 8949). -/
def cborHead (major n : Nat) : List Byte :=
  if n < 24 then toBe 1 (major * 32 + n)
  else if n < 2 ^ 8 then toBe 1 (major * 32 + 24) ++ toBe 1 n
  else if n < 2 ^ 16 then toBe 1 (major * 32 + 25) ++ toBe 2 n
  else if n < 2 ^ 32 then toBe 1 (major * 32 + 26) ++ toBe 4 n
  else toBe 1 (major * 32 + 27) ++ toBe 8 n

def cborInt (n : Nat) : List Byte := cborHead 0 n
def cborBytes (b : List Byte) : List Byte := cborHead 2 b.length ++ b
def cborArray (l : List (List Byte)) : List Byte := cborHead 4 l.length ++ l.flatten
def cborBool (b : Bool) : List Byte := [if b then 0xF5 else 0xF4]

/-- A measurement of an image (Table 13.9). -/
def measurement (i : Image) : List Byte :=
  cborArray [cborInt i.kind, cborInt i.slot, cborInt i.ver, cborInt i.svn, cborBytes (Config.sha384 i.hdr), cborBool i.verified]

/-- The images measured: those of the cache, then those of pair A and pair B, and the customer image (R426). -/
def measured (s : State) : List Image :=
  s.eng.cache ++ (s.mgt.pair.get {} 0).img.toList ++ (s.mgt.pair.get {} 1).img.toList ++ s.mgt.customer.toList

/-- The attestation payload (Table 13.9). -/
def attPayload (s : State) : List Byte :=
  let entries := [cborBytes (s.bufBytes R.KEY_ATT_NONCE 8), cborInt (s.rd R.KEY_SERIAL), cborInt (s.rd R.KEY_STAT_LIFECYCLE),
    cborInt (if s.debugOpen then 1 else 0), cborInt (s.rd R.KEY_EPOCH), cborInt s.tswNow, cborArray (s.measured.map measurement),
    cborArray [cborBytes Config.imageKeyHash, cborBytes (s.key.codeHash.getD []), cborBytes (s.key.debugHash.getD [])],
    cborArray (imageKinds.map (fun k => cborInt (s.svnMinOf k.1))), cborBytes Config.calibrationHash,
    cborInt (s.rd R.KEY_TMP_LOG_ZCOUNT)]
  cborHead 5 entries.length ++ ((List.range entries.length).zip entries).flatMap (fun e => cborInt (e.1 + 1) ++ e.2)

/-- The protected header: algorithm ES384. -/
def attProtected : List Byte := [0xA1, 0x01, 0x38, 0x22]

/-- The COSE_Sign1 statement (R425). -/
def attStatement (s : State) (d : Nat) : List Byte :=
  let body := s.attPayload
  let kid := (Config.sha384 (Config.ecdsaPublic d)).take 8
  let tbs := cborArray [cborHead 3 10 ++ ascii "Signature1", cborBytes attProtected, cborBytes [], cborBytes body]
  let sig := padTo 96 (Config.ecdsaSign d (Config.sha384 tbs))
  [0xD2] ++ cborArray [cborBytes attProtected, [0xA1, 0x04] ++ cborBytes kid, cborBytes body, cborBytes sig]

/-- KEY_ATT_CMD ATTEST: the statement is that of the root and the instant at which it began (Table 13.11). -/
def attest (s : State) : State :=
  if s.rd R.KEY_ATT_STAT_BUSY = 1 then s.wr R.KEY_ATT_STAT_LAST_RESULT keyBusy
  else
    match s.key.attKey with
    | none => s.wr R.KEY_ATT_STAT_LAST_RESULT keyNoRoot
    | some d =>
      if !s.rootIs rootProvisioned then s.wr R.KEY_ATT_STAT_LAST_RESULT keyNoRoot
      else (s.updKey (fun k => { k with att := some (s.attStatement d) })).wr R.KEY_ATT_STAT_BUSY 1

/-- The statement completes. -/
def attestDone (s : State) : State :=
  match s.key.att with
  | none => s
  | some b =>
    let s := (s.updKey (fun k => { k with att := none })).setBuf R.KEY_ATT_DATA (min 512 ((b.length + 3) / 4)) b
    ((s.wr R.KEY_ATT_STAT_LEN b.length).wr R.KEY_ATT_STAT_BUSY 0).wr R.KEY_ATT_STAT_LAST_RESULT 0

/-! ### Debug -/

def dbgResult (s : State) (r : Nat) : State := s.wr R.KEY_DBG_STAT_LAST_RESULT r

/-- KEY_DBG_CMD CHALLENGE (R428, R429). -/
def challenge (s : State) (scope : Nat) : State :=
  if s.key.dbgNever then s.dbgResult 6
  else if s.key.debugHash.isNone then s.dbgResult 7
  else if 8 ≤ s.key.fails then s.dbgResult 5
  else
    let n := s.freeBytes 32
    let s := { s with free := s.free + 32 }
    (((s.updKey (fun k => { k with nonce := some (n, scope) })).setBuf R.KEY_DBG_NONCE 8 n).wr R.KEY_DBG_STAT_NONCE_OPEN 1).dbgResult 0

/-- A RESPOND fails, and is counted (R429). -/
def respondFails (s : State) (r : Nat) : State :=
  let s := s.updKey (fun k => { k with fails := k.fails + 1 })
  ((s.bump R.KEY_DBG_STAT_FAILS).wr R.KEY_DBG_STAT_LOCKOUT (if 8 ≤ s.key.fails then 1 else 0)).dbgResult r

/-- What the owner signs (Table 13.10, step 3). -/
def debugDigest (s : State) (nonce : List Byte) (scope : Nat) : List Byte :=
  Config.sha384 (ascii "WTL-BH4816 debug" ++ nonce ++ s.serial ++ toLe 4 scope)

/-- Debug opens with a scope: every slot is emptied, and keys are derived from the test root (Table 13.10, step 6). -/
def debugOpens (s : State) (scope : Nat) : State :=
  let s := s.updKey (fun k => { k with slots := [] })
  let s := (((s.wr R.KEY_DBG_STAT_OPEN 1).wr R.KEY_DBG_STAT_SCOPE scope).wr R.KEY_STAT_DEBUG 1).wr R.KEY_STAT_TEST_ROOT 1
  { s.rederive.journalAt s.tswNow 0x022 (s.freeNat % 32) scope with free := s.free + 1 }.dbgResult 0

/-- KEY_DBG_CMD RESPOND (Table 13.10, R429). -/
def respond (s : State) : State :=
  let b := s.bufBytes R.KEY_DBG_BUF 49
  match s.key.nonce with
  | none => s.respondFails 1
  | some (n, scope) =>
    let fresh := s.rd R.KEY_DBG_STAT_NONCE_OPEN
    let s := s.nonceGone
    if fresh = 0 then s.respondFails 2
    else if s.key.debugHash ≠ some (Config.sha384 (b.take 97)) then s.respondFails 3
    else if !Config.ecdsaVerify (b.take 97) (s.debugDigest n scope) ((b.drop 97).take 96) then s.respondFails 4
    else s.debugOpens scope

/-- Debug closes (R430). -/
def debugCloses (s : State) : State := (s.debugShut.updKey (fun k => { k with slots := [] })).rederive

/-- KEY_DBG_CMD CLOSE: refused in LIFECYCLE MANUFACTURE with a result that the spec does not give (R427). -/
def dbgClose (s : State) : State :=
  if s.rd R.KEY_STAT_LIFECYCLE = 0 then (s.dbgResult (s.freeNat % 16)).tookFree
  else if s.rd R.KEY_DBG_STAT_OPEN = 1 then s.debugCloses.dbgResult 0
  else s.dbgResult 0

/-- KEY_CMD takes a word; on the ENGINE path the image of logical engine `l` writes it. -/
def keyWord (s : State) (path data l : Nat) : State :=
  s.keyCmd path (data % 16) (bitsOf data 13 8) (bitsOf data 18 16) (bitsOf data 28 24) l

/-- A write of KEY_CMD. -/
def keyWrite (s : State) (path op k kind usage : Nat) (l : Nat := 0) : State :=
  s.gateWrite path keyCmdAddr (op + k * 2 ^ 8 + kind * 2 ^ 16 + usage * 2 ^ 24) (fun s => s.keyCmd path op k kind usage l) (engineOf path l)

/-- A write of KEY_OTP_CMD. -/
def otpWrite (s : State) (path op kind svn : Nat) : State :=
  s.gateWrite path otpCmdAddr (op + kind * 2 ^ 8 + svn * 2 ^ 16) (fun s => s.otpCmd path op kind svn)

end State

/-- KEY_AUTH_READ (R409). -/
def execKeyAuthRead (path : Nat) (s : State) : Host.Outcome State Fault Refusal :=
  guarded (decide (path < 8)) (s.begin.gateWrite path authCmdAddr 1 State.authRead)

/-- KEY_AUTH_WRITE (R409). -/
def execKeyAuthWrite (path : Nat) (s : State) : Host.Outcome State Fault Refusal :=
  guarded (decide (path < 8)) (s.begin.gateWrite path authCmdAddr 2 (fun s => s.authWrite path))

/-- KEY_AUTH_LOCK (R409). -/
def execKeyAuthLock (path : Nat) (s : State) : Host.Outcome State Fault Refusal :=
  guarded (decide (path < 8)) (s.begin.gateWrite path authCmdAddr 3 (fun s => s.authLock path))

/-- PROVISION (R415): KEY_CMD OP 1. -/
def execProvision (path : Nat) (s : State) : Host.Outcome State Fault Refusal :=
  guarded (decide (path < 8)) (s.begin.keyWrite path 1 0 0 0)

/-- KEY_LOAD (R418): KEY_CMD OP 2. -/
def execKeyLoad (path k : Nat) (s : State) : Host.Outcome State Fault Refusal :=
  guarded (decide (path < 8) && decide (k < 64)) (s.begin.keyWrite path 2 k 0 0)

/-- KEY_CLEAR (R418): KEY_CMD OP 3. -/
def execKeyClear (path k : Nat) (s : State) : Host.Outcome State Fault Refusal :=
  guarded (decide (path < 8) && decide (k < 64)) (s.begin.keyWrite path 3 k 0 0)

/-- KEY_GENERATE (R419): KEY_CMD OP 4. -/
def execKeyGenerate (path k kind usage : Nat) (s : State) : Host.Outcome State Fault Refusal :=
  guarded (decide (path < 8) && decide (k < 64) && decide (kind < 8) && decide (usage < 32)) (s.begin.keyWrite path 4 k kind usage)

/-- KEY_WRAP (R419): KEY_CMD OP 5. -/
def execKeyWrap (who : KeyUser) (k : Nat) (s : State) : Host.Outcome State Fault Refusal :=
  guarded (decide (who.path < 8) && decide (k < 64) && decide (who.eng < 16)) (s.begin.keyWrite who.path 5 k 0 0 who.eng)

/-- KEY_DERIVE (R419): KEY_CMD OP 6. -/
def execKeyDerive (path k kind usage : Nat) (s : State) : Host.Outcome State Fault Refusal :=
  guarded (decide (path < 8) && decide (k < 64) && decide (kind < 8) && decide (usage < 32)) (s.begin.keyWrite path 6 k kind usage)

/-- KEY_SIGN (R419): KEY_CMD OP 7. -/
def execKeySign (who : KeyUser) (k : Nat) (s : State) : Host.Outcome State Fault Refusal :=
  guarded (decide (who.path < 8) && decide (k < 64) && decide (who.eng < 16)) (s.begin.keyWrite who.path 7 k 0 0 who.eng)

/-- KEY_MAC (R419): KEY_CMD OP 8. -/
def execKeyMac (who : KeyUser) (k : Nat) (s : State) : Host.Outcome State Fault Refusal :=
  guarded (decide (who.path < 8) && decide (k < 64) && decide (who.eng < 16)) (s.begin.keyWrite who.path 8 k 0 0 who.eng)

/-- KEY_READ_PUB (R419): KEY_CMD OP 9. -/
def execKeyReadPub (who : KeyUser) (k : Nat) (s : State) : Host.Outcome State Fault Refusal :=
  guarded (decide (who.path < 8) && decide (k < 64) && decide (who.eng < 16)) (s.begin.keyWrite who.path 9 k 0 0 who.eng)

/-- KEY_READ_ATT_PUB (R426): KEY_CMD OP 10. -/
def execKeyReadAttPub (path : Nat) (s : State) : Host.Outcome State Fault Refusal :=
  guarded (decide (path < 8)) (s.begin.keyWrite path 10 0 0 0)

/-- KEY_CMD_COMPLETE (R415). -/
def execKeyCmdComplete (s : State) : Host.Outcome State Fault Refusal := nextIn 0 s s.begin.keyDone

/-- OTP_PROG_CODE_HASH (R413): KEY_OTP_CMD OP 1. -/
def execOtpProgCodeHash (path : Nat) (s : State) : Host.Outcome State Fault Refusal :=
  guarded (decide (path < 8)) (s.begin.otpWrite path 1 0 0)

/-- OTP_PROG_DEBUG_HASH (R413): KEY_OTP_CMD OP 2. -/
def execOtpProgDebugHash (path : Nat) (s : State) : Host.Outcome State Fault Refusal :=
  guarded (decide (path < 8)) (s.begin.otpWrite path 2 0 0)

/-- OTP_SET_DBG_NEVER (R413): KEY_OTP_CMD OP 3. -/
def execOtpSetDbgNever (path : Nat) (s : State) : Host.Outcome State Fault Refusal :=
  guarded (decide (path < 8)) (s.begin.otpWrite path 3 0 0)

/-- OTP_RAISE_SVN (R413): KEY_OTP_CMD OP 4. -/
def execOtpRaiseSvn (path kind svn : Nat) (s : State) : Host.Outcome State Fault Refusal :=
  guarded (decide (path < 8) && decide (kind < 256) && decide (svn < 64)) (s.begin.otpWrite path 4 kind svn)

/-- OTP_COMMAND_DONE (R413). -/
def execOtpCommandDone (s : State) : Host.Outcome State Fault Refusal := nextIn 0 s s.begin.otpDone

/-- TAMPER_LOCK (R424): a write of KEY_TMP_LOCK. -/
def execTamperLock (path data : Nat) (s : State) : Host.Outcome State Fault Refusal :=
  guarded (decide (path < 8))
    (s.begin.ownerWrite path 0x02304C data (fun s => s.store path 0x02304C data [R.KEY_TMP_LOCK_LOCK]))

/-- ATTEST (R425). -/
def execAttest (path : Nat) (s : State) : Host.Outcome State Fault Refusal :=
  guarded (decide (path < 8)) (s.begin.gateWrite path 0x024040 1 State.attest)

/-- ATTEST_DONE (R425). -/
def execAttestDone (s : State) : Host.Outcome State Fault Refusal := nextIn 0 s s.begin.attestDone

/-- DEBUG_CHALLENGE (R428): KEY_DBG_CMD OP 1. -/
def execDebugChallenge (path scope : Nat) (s : State) : Host.Outcome State Fault Refusal :=
  guarded (decide (path < 8) && decide (scope < 8))
    (s.begin.gateWrite path dbgCmdAddr (1 + scope * 2 ^ 8) (fun s => s.challenge scope))

/-- DEBUG_RESPOND (R428): KEY_DBG_CMD OP 2. -/
def execDebugRespond (path : Nat) (s : State) : Host.Outcome State Fault Refusal :=
  guarded (decide (path < 8)) (s.begin.gateWrite path dbgCmdAddr 2 State.respond)

/-- DEBUG_CLOSE (R430): KEY_DBG_CMD OP 3. -/
def execDebugClose (path : Nat) (s : State) : Host.Outcome State Fault Refusal :=
  guarded (decide (path < 8)) (s.begin.gateWrite path dbgCmdAddr 3 State.dbgClose)

/-- DEBUG_NONCE_EXPIRY (R428): a RESPOND that follows finds it expired. -/
def execDebugNonceExpiry (s : State) : Host.Outcome State Fault Refusal :=
  nextIn 0 s (s.begin.wr R.KEY_DBG_STAT_NONCE_OPEN 0)

end Sys2Proof.Machine
end

