-- ==== Sys2Proof/Machine/Fuses.lean ====
section
/-! DEFINITION. Power channels and electronic fusing (chapter 14): channel states, the start, the breaker, reverse current, power-good and the fault timer, measurement, the power die and its link. -/

namespace Sys2Proof.Machine

/-- Channel states (Table 14.3). -/
def chOff : Nat := 0
def chWait : Nat := 1
def chRamp : Nat := 2
def chEnhance : Nat := 3
def chOn : Nat := 4
def chRevOff : Nat := 5
def chTripped : Nat := 6

/-- Causes (Table 14.8). -/
def fusSeatOpen : Nat := 1
def fusBreaker : Nat := 2
def fusInstant : Nat := 3
def fusShortStart : Nat := 4
def fusPassDevice : Nat := 5
def fusStartTimeout : Nat := 6
def fusSag : Nat := 7
def fusInputRange : Nat := 8
def fusThermal : Nat := 9
def fusFetShort : Nat := 10
def fusCommand : Nat := 11

/-- The trip point of the heat accumulator, with its 16 fraction bits. -/
def heatTrip : Nat := 2 ^ 40

/-- The page of channel `c`; addresses of FUS_CFG and FUS_CMD. -/
def fusPage (c : Nat) : Nat := 0x061 + c
def fusCfgAddr (c : Nat) : Nat := 0x061040 + 0x1000 * c
def fusCmdAddr (c : Nat) : Nat := 0x061044 + 0x1000 * c

/-- The default curve of a channel (Table 14.6): points of current in 2 mA and time in ms. -/
def defaultCurve (c : Nat) : List (Nat × Nat) := (curveI (decide (16 ≤ c))).zip curveT

/-- A curve that APPLY_CURVE takes: currents rise, times fall, and the last current lies below FUS_ITRIP (R448). -/
def curveGood (l : List (Nat × Nat)) (itrip : Nat) : Bool :=
  (l.zip (l.drop 1)).all (fun p => decide (p.1.1 < p.2.1) && decide (p.2.2 < p.1.2)) && l.all (fun p => decide (p.1 < itrip))

/-- The heating of one tick at current `i`, in 2^-16 of a heat unit, as a numerator and a denominator (R446). -/
def heatRate (i : Nat) : List (Nat × Nat) → Nat × Nat
  | (i0, t0) :: (i1, t1) :: rest =>
    if i ≤ i1 then (2 ^ 40 * (t1 * (i1 - i0) + (t0 - t1) * (i - i0)), 1000 * t0 * t1 * (i1 - i0))
    else heatRate i ((i1, t1) :: rest)
  | [(_, t)] => (2 ^ 40, 1000 * t)
  | [] => (0, 1)

/-- The gate is driven in a state: RAMP, ENHANCE or ON. -/
def driven (st : Nat) : Bool := st == chRamp || st == chEnhance || st == chOn

/-- The states from which the breaker and the temperature latch a channel: all but OFF and TRIPPED. -/
def started (st : Nat) : Bool := st != chOff && st != chTripped

/-- A cause that the comparator gives. -/
def comparatorCause (c : Nat) : Bool := c == fusInstant || c == fusShortStart

namespace State

def chSt (s : State) (c : Nat) : Nat := s.rd R.FUS_STAT_STATE c

/-- The channel is in a state that drives its gate. -/
def chDriven (s : State) (c : Nat) : Bool := driven (s.chSt c)

/-- The gate of a channel is driven: below 10.8 V of VIN_PD every gate is held off, whatever the state (R560). -/
def gateOn (s : State) (c : Nat) : Bool := s.chDriven c && !s.fus.held

/-- The channel is active: driven, or in REV_OFF. -/
def chActive (s : State) (c : Nat) : Bool := s.chDriven c || s.chSt c == chRevOff

/-- The power die's copy of panel time, in ns (R438). -/
def copyTime (s : State) : Nat := s.fus.copyNs + (s.hw - s.fus.copyAt)

/-- The timestamp word of a power die event: SYNC_VALID 0 while the link is down (R438). -/
def fusTsw (s : State) : Nat :=
  let t := s.copyTime
  let w := s.tswOf (t / 1000000000) (t % 1000000000)
  if s.pdLinkUp then w else w - w / 2 % 2 * 2

/-- Journal entries of the power die wait for the link (R438, R230). -/
def fusJournal (s : State) (page b arg : Nat) : State :=
  if s.pdLinkUp then s.journalAt s.fusTsw page b arg
  else s.updFus (fun f => { f with late := f.late ++ [(s.fusTsw, page, b, arg)] })

/-- A power die event that journals. -/
def fusEvent (s : State) (page b arg : Nat) : State := (s.irq page b).fusJournal page b arg

/-- Power-good is withdrawn (R456). -/
def pgGone (s : State) (c : Nat) : State :=
  let t := s.wr R.FUS_STAT_PG 0 c
  if s.rd R.FUS_STAT_PG c = 1 then t.irq (fusPage c) 1 else t

/-- What the power die's tick of 1 µs that is now began with on channel `c`. -/
def tickStart (s : State) (c : Nat) : ChanTick :=
  let now := ⟨s.chSt c, s.rd R.FUS_STAT_DIR c, s.rd R.FUS_STAT_CAUSE c, s.rd R.FUS_TRIP_CNT c, (s.chan c).ftimer, (s.chan c).bad⟩
  match (s.chan c).was with
  | some (t, w) => if t / 1000 = s.hw / 1000 then w else now
  | none => now

/-- What the tick began with is kept as something changes in it. -/
def noteTick (s : State) (c : Nat) : State := s.setChan c { s.chan c with was := some (s.hw, s.tickStart c) }

/-- A channel changes state; outside ON, power-good is withdrawn and the fault timer stands at 0. -/
def chGo (s : State) (c st : Nat) : State :=
  let s := (s.noteTick c).wr R.FUS_STAT_STATE st c
  if st = chOn then s
  else
    ((s.setChan c { s.chan c with ftimer := 0, bad := false, pgcount := 0 }).wr R.FUS_STAT_FTIMER 0 c).pgGone c

/-- A channel latches (R444 to R458). -/
def chTrip (s : State) (c cause : Nat) : State :=
  let s := ((s.chGo c chTripped).wr R.FUS_STAT_CAUSE cause c).bump R.FUS_TRIP_CNT c
  let s := s.setChan c { s.chan c with tripAt := s.hw }
  s.fusEvent (fusPage c) 2 (cause + min (s.chan c).current.natAbs 0xFFFF * 65536)

/-- A trip of the states `ok`, with a cause by the state: it also latches a channel whose seat opened in the same tick, and gives its cause to one that EN 0 turned off in it (Table 14.9). -/
def latchFrom (s : State) (c : Nat) (ok : Nat → Bool) (cause : Nat → Nat) : State :=
  let st := s.chSt c
  let b := (s.tickStart c).st
  let why := s.rd R.FUS_STAT_CAUSE c
  if ok st then s.chTrip c (cause st)
  else if ok b && st == chWait && why == fusSeatOpen then s.chTrip c (cause b)
  else if ok b && st == chOff && why == fusCommand then s.wr R.FUS_STAT_CAUSE (cause b) c
  else s

/-- A channel enters WAIT with a cause that is not latched. -/
def chWaits (s : State) (c cause : Nat) : State := (s.chGo c chWait).wr R.FUS_STAT_CAUSE cause c

/-- Channel `c` is one that the power die has and drives. -/
def chLives (s : State) (c : Nat) : Bool := decide (c < 18) && s.fus.alive

/-! ### FUS_CFG -/

/-- A channel latched in the power die's tick of 1 µs that is now. -/
def trippedNow (s : State) (c : Nat) : Bool := s.chSt c == chTripped && (s.chan c).tripAt / 1000 == s.hw / 1000

/-- EN of a channel as the hub acts on it: 1 takes OFF to WAIT, 0 takes any other state to OFF, with the cause of a trip of the same tick (R439, Table 14.9); each write returns RETRIES to 0 (R450). -/
def chEnable (s : State) (c en : Nat) : State :=
  let s := (s.wr R.FUS_STAT_RETRIES 0 c).wr R.FUS_CFG_EN en c
  if en = 1 then (if s.chSt c = chOff then s.chGo c chWait else s)
  else if s.chSt c = chOff then s
  else (s.chGo c chOff).wr R.FUS_STAT_CAUSE (if s.trippedNow c then s.rd R.FUS_STAT_CAUSE c else fusCommand) c

/-- The direction of a channel, written and in use. -/
def chSetDir (s : State) (c d : Nat) : State := (s.wr R.FUS_CFG_DIR d c).wr R.FUS_STAT_DIR (if d = 1 then 1 else 0) c

/-- A Hard Reset recovery of the channel's cable runs. -/
def recovering (s : State) (c : Nat) : Bool := decide (c < 16) && (s.phy c).recovery.isSome

/-- A written FUS_CFG word (R439, R454, R480): a change of DIR is taken in OFF and WAIT only; in a recovery a write that changes DIR or EN is ignored. -/
def fusCfg (s : State) (path c data : Nat) : State :=
  let d := data / 2 % 4
  let newDir := decide (c < 16) && d != s.rd R.FUS_CFG_DIR c
  if s.recovering c && (newDir || data % 2 != s.rd R.FUS_CFG_EN c) then s.wr R.FUS_STAT_LAST_RESULT 1 c
  else
    let s := s.store path (fusCfgAddr c) data
      ([R.FUS_CFG_AUTO_RETRY, R.FUS_CFG_RETRY_MAX, R.FUS_CFG_SLOPE] ++ if c < 16 then [R.FUS_CFG_FRS_ARM] else []) c
    let s := if !newDir then s
      else if d ≤ 1 && (s.chSt c == chOff || s.chSt c == chWait) then s.chSetDir c d
      else s.wr R.FUS_STAT_LAST_RESULT 1 c
    s.chEnable c (data % 2)

def fusCfgWrite (s : State) (path c data : Nat) : State :=
  s.gateWrite path (fusCfgAddr c) data (fun s => s.fusCfg path c data)

/-! ### Starting and faults -/

/-- The seats of a cable channel have settled; a feed channel has none (Table 14.4). -/
def chSeated (s : State) (c : Nat) : Bool := decide (16 ≤ c) || s.seated c

/-- The start conditions have held for their times (R440). -/
def chStart (s : State) (c : Nat) : State :=
  if s.chSt c = chWait ∧ s.rd R.FUS_CFG_EN c = 1 ∧ s.chSeated c ∧ s.fus.held = false then s.chGo c chRamp else s

/-- The ramp is complete (R443), unless the gates are held off (R560). -/
def chRamped (s : State) (c : Nat) : State :=
  if s.chSt c = chRamp ∧ s.fus.held = false then (s.chGo c chEnhance).setChan c { (s.chGo c chEnhance).chan c with fromRamp := true } else s

/-- A recovery ends as its channel reaches ON, or at RECOVER_MAX (R483). -/
def recovered (s : State) (n : Nat) : State :=
  if (s.phy n).recovery.isNone then s
  else
    ((s.setPhy n { s.phy n with recovery := none }).wr R.CPD_STAT_STATE (if (s.phy n).settled then 1 else 0) (n / 4) (n % 4)).irq
      (0x074 + n / 4) (8 * (n % 4) + 6)

/-- V_GS has reached 7 V (R445), which it does not while the gates are held off (R560). -/
def chEnhanced (s : State) (c : Nat) : State :=
  if s.chSt c ≠ chEnhance ∨ s.fus.held then s
  else
    let s := if (s.chan c).fromRamp then s.bump R.FUS_START_CNT c else s
    let s := (s.chGo c chOn).setChan c { s.chan c with fromRamp := false }
    if c < 16 then s.recovered c else s

/-- Reverse current (R451); it wins over the comparator in its tick (Table 14.9). -/
def chReverse (s : State) (c : Nat) : State :=
  let rev := fun (s : State) => ((s.chGo c chRevOff).bump R.FUS_REV_CNT c).irq (fusPage c) 3
  let b := s.tickStart c
  if s.chDriven c then rev s
  else if driven b.st && s.chSt c == chTripped && comparatorCause (s.rd R.FUS_STAT_CAUSE c) then
    rev ((s.wr R.FUS_STAT_CAUSE b.cause c).wr R.FUS_TRIP_CNT b.trips c)
  else s

/-- The forward voltage has returned (R451); no gate closes while all are held off (R560). -/
def chForward (s : State) (c : Nat) : State :=
  if s.chSt c = chRevOff ∧ s.fus.held = false then (s.chGo c chEnhance).setChan c { (s.chGo c chEnhance).chan c with fromRamp := false } else s

/-- The comparator fires (R444), which is armed while the gate is driven; it gives its cause to a breaker trip of its tick (Table 14.9). -/
def chInstant (s : State) (c : Nat) : State :=
  let cause := fun st => if st = chOn then fusInstant else fusShortStart
  let b := (s.tickStart c).st
  if s.fus.held then s
  else if driven b && s.chSt c == chTripped && s.rd R.FUS_STAT_CAUSE c == fusBreaker then s.wr R.FUS_STAT_CAUSE (cause b) c
  else s.latchFrom c driven cause

/-- More than 200 mA with the gate off (R457). -/
def chShort (s : State) (c : Nat) : State :=
  if s.gateOn c || (s.chSt c == chTripped && s.rd R.FUS_STAT_CAUSE c == fusFetShort) then s
  else (s.chTrip c fusFetShort).fusEvent (fusPage c) 6 c

/-- Input out of range (R442): from any state other than OFF and TRIPPED (R439). -/
def chInput (s : State) (c : Nat) : State := if started (s.chSt c) then s.chWaits c fusInputRange else s

/-- A seat pin of a cable channel reads open (R441); a Fast Role Swap of the same tick is not carried out (Table 14.9). -/
def chSeatOpen (s : State) (c : Nat) : State :=
  if s.chActive c then ((s.wr R.FUS_STAT_DIR (s.tickStart c).dir c).chWaits c fusSeatOpen).irq (fusPage c) 4 else s

/-! ### The breaker -/

def curveOf (s : State) (c : Nat) : List (Nat × Nat) := (s.chan c).curve.getD (defaultCurve c)

/-- H, as FUS_HEAT shows it. -/
def setHeat (s : State) (c h : Nat) : State :=
  (s.setChan c { s.chan c with heat := h }).wr R.FUS_HEAT (min (h / 65536) (2 ^ 25 - 1)) c

/-- One tick of the breaker (R446, R447): rounding below the 16 fraction bits is free (log 15). A staged curve takes effect with the tick, after its update (Table 14.9). -/
def breakerTick (s : State) (c : Nat) : State :=
  let x := s.chan c
  let i := x.current.natAbs
  let l := s.curveOf c
  let tau := s.rd R.FUS_TAU c * 100000
  let h : Int :=
    if ((l.head?.map Prod.fst).getD 0) < i then
      let r := heatRate i l
      x.heat + s.roundDiv r.1 r.2
    else (x.heat : Int) - s.roundDiv x.heat tau
  let s := (s.setHeat c h.toNat).tookFree
  let s := if x.staged.isSome then s.setChan c { s.chan c with curve := x.staged, staged := none } else s
  if heatTrip ≤ (s.chan c).heat then s.latchFrom c started (fun _ => fusBreaker) else s

/-- The automatic retry (R450). -/
def chRetry (s : State) (c : Nat) : State :=
  let cause := s.rd R.FUS_STAT_CAUSE c
  if s.chSt c = chTripped ∧ s.rd R.FUS_CFG_AUTO_RETRY c = 1 ∧ (cause = fusBreaker ∨ (16 ≤ c ∧ cause = fusSag)) ∧
      (s.chan c).tripAt + s.rd R.FUS_RETRY_RETRY_DELAY c * 1000000 ≤ s.hw ∧
      (s.chan c).heat * 100 ≤ s.rd R.FUS_RETRY_RETRY_HEAT c * heatTrip ∧
      s.rd R.FUS_STAT_RETRIES c < s.rd R.FUS_CFG_RETRY_MAX c then
    ((s.wr R.FUS_STAT_RETRIES (s.rd R.FUS_STAT_RETRIES c + 1) c).irq (fusPage c) 7).chGo c chWait
  else s

/-! ### Power-good and the fault timer -/

/-- One tick of the fault timer and then of power-good (R455, R456), on the input, output and V_GS in mV. In a tick that began in ON and in which a seat opened or EN became 0, the fault timer's trip still counts (Table 14.9). -/
def pgTick (s : State) (c vin vout vgs : Nat) : State :=
  let x := s.chan c
  let b := s.tickStart c
  let on := s.chSt c == chOn
  let above := decide (((s.curveOf c).head?.map Prod.fst).getD 0 < x.current.natAbs)
  let bad := decide (vout + s.rd R.FUS_PG_PG_DROP c * 10 < vin) || decide (vgs < 7000)
  let ft := if above || bad then (if on then x.ftimer else b.ftimer) + 1 else 0
  if !on then (if b.st = chOn ∧ s.rd R.FUS_FTMO c ≤ ft ∧ bad then s.latchFrom c (· == chOn) (fun _ => fusSag) else s)
  else
    let s := (s.setChan c { x with ftimer := ft, bad := bad }).wr R.FUS_STAT_FTIMER (if 0 < ft then 1 else 0) c
    if s.rd R.FUS_FTMO c ≤ ft ∧ bad then s.chTrip c fusSag
    else if 0 < ft then (s.setChan c { s.chan c with pgcount := 0 }).pgGone c
    else
      let n := x.pgcount + 1
      let s := s.setChan c { s.chan c with pgcount := n }
      if 100 * s.rd R.FUS_PG_PG_DELAY c ≤ n ∧ s.rd R.FUS_STAT_PG c = 0 then (s.wr R.FUS_STAT_PG 1 c).irq (fusPage c) 0 else s

/-- The voltage of the panel bus, which is the input of a cable channel that sources and the output of any other (Table 14.1). -/
def showPbus (s : State) (c vin vout : Nat) : State :=
  s.wr R.FUS_PBUS (min (if 16 ≤ c ∨ s.rd R.FUS_STAT_DIR c = 1 then vout else vin) 65535)

/-- The fault timer has reached FAULT_TMO while SAG or WEAK holds (R455). -/
def ftimerExpires (s : State) (c : Nat) : State :=
  let b := s.tickStart c
  let (ft, bad) := if s.chSt c = chOn then ((s.chan c).ftimer, (s.chan c).bad) else (b.ftimer, b.bad)
  if s.rd R.FUS_FTMO c ≤ ft ∧ bad then s.latchFrom c (· == chOn) (fun _ => fusSag) else s

/-! ### Measurement -/

/-- The sum of a factory gain or offset and its user trim, saturating at 16 bits signed (R461). -/
def calSum (s : State) (f u : Field) (c : Nat) : Int :=
  clampInt (-32768) 32767 (signedOf 16 (s.rd f c) + signedOf 16 (s.rd u c))

/-- A corrected sample: raw × (1 + G / 2^16) + O (R461). -/
def calibrated (s : State) (raw g o : Int) : Int := raw + s.roundDiv (raw * g) 65536 + o

/-- A raw voltage in mV, corrected by the gain and offset for voltage (R461). -/
def corrected (s : State) (c raw : Nat) : Nat :=
  (clampInt 0 65535 (s.calibrated raw (s.calSum R.FUS_CALF_V_G R.FUS_CALU_V_G c) (s.calSum R.FUS_CALF_V_O R.FUS_CALU_V_O c))).toNat

/-- A sample of a channel (R459, R460): raw current in 2 mA, raw channel-side voltage and raw V_GS in mV; both voltages are corrected alike (DEDUCED, log 62). -/
def chSample (s : State) (c : Nat) (rawI : Int) (rawV rawVgs : Nat) : State :=
  let lim : Int := (25000000 / s.rd R.FUS_SHUNT c : Nat)
  let i := clampInt (-lim) lim
    (s.calibrated rawI (s.calSum R.FUS_CALF_I_G R.FUS_CALU_I_G c) (s.calSum R.FUS_CALF_I_O R.FUS_CALU_I_O c))
  let s := s.tookFree
  let v := s.corrected c rawV
  let s := s.tookFree
  let vgs := s.corrected c rawVgs
  let s := s.tookFree
  let x := s.chan c
  let w := ((i, v) :: x.window).take 50
  let e := x.energy + s.roundDiv ((v : Int) * i * 40 * 65536) 1000000
  let s := (s.setChan c { x with current := i, window := w, energy := e }).tookFree
  let show16 := fun (a : Int) => unsignedOf 16 (clampInt (-32768) 32767 a)
  let meanI := s.roundDiv ((w.map Prod.fst).sum) 50
  let meanV := s.roundDiv (((w.map Prod.snd).sum : Nat) : Int) 50
  let meanP := s.roundDiv ((w.map (fun p => (p.2 : Int) * p.1 * 2)).sum) 50000
  let s := (((s.wr R.FUS_IV_I (show16 i) c).wr R.FUS_IV_V v c).wr R.FUS_IV_AVG_I (show16 meanI) c).wr R.FUS_IV_AVG_V meanV.toNat c
  let s := (s.wr R.FUS_POWER (unsignedOf 32 meanP) c).tookFree
  let s := (s.wr R.FUS_ENERGY (unsignedOf 64 (e / 65536)) c).wr R.FUS_VGS vgs c
  let s := if v < s.rd R.FUS_PEAK_VMIN c then s.wr R.FUS_PEAK_VMIN v c else s
  s.keepMax R.FUS_PEAK_IMAX (min i.natAbs 65535) c

/-! ### FUS_CMD -/

def fusResult (s : State) (c r : Nat) : State := s.wr R.FUS_STAT_LAST_RESULT r c

/-- CLEAR: on a cable channel it takes effect, once the temperature has exceeded OT_SHUT, only 15 °C below it (R458). -/
def fusClear (s : State) (c : Nat) : State :=
  let hot := decide (c < 16) && s.rd R.FUS_PD_STAT_OT == 1 && decide ((s.rd R.FUS_PD_CFG_OT_SHUT : Int) - 15 < s.fus.temp)
  if hot then s.fusResult c 0
  else
    let s := (s.wr R.FUS_STAT_RETRIES 0 c).fusResult c 0
    if s.chSt c = chTripped then s.chGo c chWait else s

/-- APPLY_CURVE (R448). -/
def applyCurve (s : State) (c : Nat) : State :=
  let l := (List.range 8).map (fun k => (s.rd R.FUS_CURVE_I c k, s.rd R.FUS_CURVE_T c k))
  if curveGood l (s.rd R.FUS_ITRIP c) then (s.setChan c { s.chan c with staged := some l }).fusResult c 0 else s.fusResult c 2

/-- PEAK_CLR. -/
def peakClear (s : State) (c : Nat) : State := (s.wr R.FUS_PEAK_VMIN 0xFFFF c).wr R.FUS_PEAK_IMAX 0 c

/-- ENERGY_CLR. -/
def energyClear (s : State) (c : Nat) : State := (s.setChan c { s.chan c with energy := 0 }).wr R.FUS_ENERGY 0 c

/-- A write of FUS_CMD. -/
def fusCmd (s : State) (path c op : Nat) (act : State → State) : State := s.gateWrite path (fusCmdAddr c) op act

/-! ### The preload memory, the power die and its link -/

/-- FUS_UCFG_CMD PROGRAM (R462): the programming begins; it takes up to 50 ms, how long is free (log 159). -/
def preloadProgram (s : State) (path : Nat) : State :=
  if s.rd R.FUS_UCFG_STAT_BUSY = 1 then s.wr R.FUS_UCFG_STAT_LAST_RESULT 0xC
  else if !s.ownerPath path then s.wr R.FUS_UCFG_STAT_LAST_RESULT 1
  else if 4 ≤ s.fus.banks.length then s.wr R.FUS_UCFG_STAT_LAST_RESULT 2
  else
    let b := (List.range 18).map (fun c => s.rd R.FUS_PRELOAD_SET 0 c)
    ((s.updFus (fun f => { f with prog := some (s.hw + 1 + s.freeNat % 50000000, b) })).tookFree).wr R.FUS_UCFG_STAT_BUSY 1

/-- The programming of a bank ends at its time; the bank takes effect at the next power-die cold power-up. -/
def preloadDone (s : State) : State :=
  match s.fus.prog with
  | none => s
  | some (t, b) =>
    if s.hw < t then s
    else
      let s := s.updFus (fun f => { f with banks := f.banks ++ [b], prog := none })
      ((s.wr R.FUS_UCFG_STAT_BANKS s.fus.banks.length).wr R.FUS_UCFG_STAT_BUSY 0).wr R.FUS_UCFG_STAT_LAST_RESULT 0

/-- The die-to-die link is up: entries that waited reach the journal (R437, R438). -/
def pdUp (s : State) : State :=
  let l := s.fus.late
  let s := ((s.wr R.FUS_PD_STAT_PRESENT 1).updFus (fun f => { f with late := [] })).irq 0x060 1
  l.foldl (fun (s : State) (e : Nat × Nat × Nat × Nat) => s.journalAt e.1 e.2.1 e.2.2.1 e.2.2.2) s

/-- The die-to-die link is lost. -/
def pdLost (s : State) : State := if s.pdLinkUp then (s.wr R.FUS_PD_STAT_PRESENT 0).irq 0x060 0 else s

/-- A register key that the power die holds, on pages 0x061 to 0x077: all but the authority masks (R555). -/
def pdKey (k : Nat) : Bool := decide (0x061 ≤ k / 32 / 4096) && decide (k / 32 / 4096 ≤ 0x077) && k / 32 % 4096 != 0x30

/-- A channel as power-die cold power-up leaves it: H takes the preload in force, and a channel with EN 1 enters WAIT (R449, R452). -/
def chPowerUp (s : State) (pre : List Nat) (c : Nat) : State :=
  let p := pre.getD c 0xFFFFFF
  let s := (s.wr R.FUS_PRELOAD p c).setHeat c (p * 65536)
  if s.rd R.FUS_CFG_EN c = 1 then s.wr R.FUS_STAT_STATE chWait c else s

/-- VIN_PD is measured in mV: the gates are held off below 10.8 V (R560). -/
def vinPd (s : State) (mv : Nat) : State :=
  (s.wr R.FUS_PD_STAT_VIN_PD (mv / 10)).updFus (fun f => { f with held := decide (mv < 10800) })

/-- VIN_PD rises through 9.6 V: the power die's state takes its reset values (R436). -/
def pdPowerUp (s : State) (mv : Nat) : State :=
  let s := { s with regs := s.regs.eraseIf pdKey }
  let s := s.updFus (fun f => { f with alive := true, chan := [], phy := [], late := [], temp := 0 })
  (List.range 18).foldl (fun s c => s.chPowerUp (s.fus.banks.getLast?.getD []) c) (s.vinPd mv)

/-- The programming of a bank that loses its power may be done or not: a free value says which. -/
def progCut (s : State) : State :=
  match s.fus.prog with
  | none => s
  | some (_, b) =>
    let s := s.updFus (fun f => { f with banks := if s.freeNat % 2 = 1 then f.banks ++ [b] else f.banks, prog := none })
    s.tookFree.wr R.FUS_UCFG_STAT_BUSY 0

/-- VIN_PD falls: below 9.0 V the power die loses its state and the link (R560). -/
def vinLow (s : State) (mv : Nat) : State :=
  let s := s.vinPd mv
  if mv < 9000 then (s.progCut.updFus (fun f => { f with alive := false })).pdLost else s

/-- The power die's temperature (R458): above OT_SHUT every cable channel latches, in whichever state it is. -/
def pdTemp (s : State) (t : Int) : State :=
  let s := (s.updFus (fun f => { f with temp := t })).wr R.FUS_PD_STAT_TEMP (unsignedOf 8 t)
  let shut : Int := s.rd R.FUS_PD_CFG_OT_SHUT
  if shut < t then
    (List.range 16).foldl (fun s c => if s.chSt c = chTripped ∧ s.rd R.FUS_STAT_CAUSE c = fusThermal then s else s.chTrip c fusThermal)
      (if s.rd R.FUS_PD_STAT_OT = 1 then s else (s.wr R.FUS_PD_STAT_OT 1).irq 0x060 2)
  else if t ≤ shut - 15 then s.wr R.FUS_PD_STAT_OT 0
  else s

/-- The core die corrects the power die's copy of panel time (R438). -/
def copyCorrected (s : State) : State := s.updFus (fun f => { f with copyNs := s.panelNs, copyAt := s.hw })

end State

/-- The outcome of an event on channel `c`: nothing while the power die has no power. -/
def chEvent (s : State) (c : Nat) (act : State → Nat → State) : Host.Outcome State Fault Refusal :=
  guarded (decide (c < 18)) (if s.fus.alive then act s.begin c else s.begin)

/-- CHANNEL_ENABLE (R439): a write of FUS_CFG with EN 1. -/
def execChannelEnable (path c data : Nat) (s : State) : Host.Outcome State Fault Refusal :=
  guarded (decide (path < 8) && decide (c < 18)) (s.begin.fusCfgWrite path c (data / 2 * 2 + 1))

/-- CHANNEL_DISABLE (R439): a write of FUS_CFG with EN 0. -/
def execChannelDisable (path c data : Nat) (s : State) : Host.Outcome State Fault Refusal :=
  guarded (decide (path < 8) && decide (c < 18)) (s.begin.fusCfgWrite path c (data / 2 * 2))

/-- CHANNEL_DIR_WRITE (R454): a write of FUS_CFG. -/
def execChannelDirWrite (path c data : Nat) (s : State) : Host.Outcome State Fault Refusal :=
  guarded (decide (path < 8) && decide (c < 18)) (s.begin.fusCfgWrite path c data)

/-- START_CONDITIONS_MET (R440). -/
def execStartConditionsMet (c : Nat) (s : State) : Host.Outcome State Fault Refusal := chEvent s c State.chStart

/-- RAMP_COMPLETE (R443). -/
def execRampComplete (c : Nat) (s : State) : Host.Outcome State Fault Refusal := chEvent s c State.chRamped

/-- START_TIMEOUT (R443). -/
def execStartTimeout (c : Nat) (s : State) : Host.Outcome State Fault Refusal :=
  chEvent s c (fun s c => s.latchFrom c (· == chRamp) (fun _ => fusStartTimeout))

/-- ENHANCE_DONE (R445). -/
def execEnhanceDone (c : Nat) (s : State) : Host.Outcome State Fault Refusal := chEvent s c State.chEnhanced

/-- PASS_DEVICE_TIMEOUT (R445). -/
def execPassDeviceTimeout (c : Nat) (s : State) : Host.Outcome State Fault Refusal :=
  chEvent s c (fun s c => s.latchFrom c (· == chEnhance) (fun _ => fusPassDevice))

/-- INSTANT_TRIP (R444). -/
def execInstantTrip (c : Nat) (s : State) : Host.Outcome State Fault Refusal := chEvent s c State.chInstant

/-- BREAKER_TICK (R446). -/
def execBreakerTick (c : Nat) (s : State) : Host.Outcome State Fault Refusal := chEvent s c State.breakerTick

/-- AUTO_RETRY (R450). -/
def execAutoRetry (c : Nat) (s : State) : Host.Outcome State Fault Refusal := chEvent s c State.chRetry

/-- REVERSE_CURRENT (R451). -/
def execReverseCurrent (c : Nat) (s : State) : Host.Outcome State Fault Refusal := chEvent s c State.chReverse

/-- FORWARD_RECOVERY (R451). -/
def execForwardRecovery (c : Nat) (s : State) : Host.Outcome State Fault Refusal := chEvent s c State.chForward

/-- FAULT_TIMER_EXPIRY (R455). -/
def execFaultTimerExpiry (c : Nat) (s : State) : Host.Outcome State Fault Refusal := chEvent s c State.ftimerExpires

/-- POWER_GOOD_UPDATE (R456): the input, output and V_GS of the tick, in mV. -/
def execPowerGoodUpdate (c vin vout vgs : Nat) (s : State) : Host.Outcome State Fault Refusal :=
  chEvent s c (fun s c => (s.showPbus c vin vout).pgTick c vin vout vgs)

/-- FET_SHORT (R457). -/
def execFetShort (c : Nat) (s : State) : Host.Outcome State Fault Refusal := chEvent s c State.chShort

/-- PD_OVER_TEMP (R458): the power die's temperature in °C. -/
def execPdOverTemp (t : Int) (s : State) : Host.Outcome State Fault Refusal :=
  .next (if s.fus.alive then s.begin.pdTemp t else s.begin)

/-- INPUT_OUT_OF_RANGE (R442). -/
def execInputOutOfRange (c : Nat) (s : State) : Host.Outcome State Fault Refusal := chEvent s c State.chInput

/-- CHANNEL_SAMPLE (R460): the raw current in 2 mA, the raw channel-side voltage and V_GS in mV. -/
def execChannelSample (c : Nat) (rawI : Int) (rawV vgs : Nat) (s : State) : Host.Outcome State Fault Refusal :=
  chEvent s c (fun s c => s.chSample c rawI rawV vgs)

/-- FUS_CLEAR (R450): FUS_CMD OP 1. -/
def execFusClear (path c : Nat) (s : State) : Host.Outcome State Fault Refusal :=
  guarded (decide (path < 8) && decide (c < 18)) (s.begin.fusCmd path c 1 (fun s => s.fusClear c))

/-- APPLY_CURVE (R448): FUS_CMD OP 2. -/
def execApplyCurve (path c : Nat) (s : State) : Host.Outcome State Fault Refusal :=
  guarded (decide (path < 8) && decide (c < 18)) (s.begin.fusCmd path c 2 (fun s => s.applyCurve c))

/-- SET_HEAT (R449): FUS_CMD OP 3. -/
def execSetHeat (path c : Nat) (s : State) : Host.Outcome State Fault Refusal :=
  guarded (decide (path < 8) && decide (c < 18))
    (s.begin.fusCmd path c 3 (fun s => (s.setHeat c (s.rd R.FUS_HEAT_SET c * 65536)).fusResult c 0))

/-- PEAK_CLR (R464): FUS_CMD OP 4. -/
def execPeakClr (path c : Nat) (s : State) : Host.Outcome State Fault Refusal :=
  guarded (decide (path < 8) && decide (c < 18)) (s.begin.fusCmd path c 4 (fun s => (s.peakClear c).fusResult c 0))

/-- ENERGY_CLR (R460): FUS_CMD OP 5. -/
def execEnergyClr (path c : Nat) (s : State) : Host.Outcome State Fault Refusal :=
  guarded (decide (path < 8) && decide (c < 18)) (s.begin.fusCmd path c 5 (fun s => (s.energyClear c).fusResult c 0))

/-- PRELOAD_PROGRAM (R462). -/
def execPreloadProgram (path : Nat) (s : State) : Host.Outcome State Fault Refusal :=
  guarded (decide (path < 8)) (s.begin.gateWrite path 0x06004C 1 (fun s => s.preloadProgram path))

/-- PD_LINK_UP (R437). -/
def execPdLinkUp (s : State) : Host.Outcome State Fault Refusal :=
  .next (if s.fus.alive && s.domainRuns 1 && !s.pdLinkUp then s.begin.pdUp else s.begin)

/-- PD_LINK_LOST (R437). -/
def execPdLinkLost (s : State) : Host.Outcome State Fault Refusal := .next s.begin.pdLost

/-- PD_TIME_CORRECTION (R438). -/
def execPdTimeCorrection (s : State) : Host.Outcome State Fault Refusal :=
  .next (if s.pdLinkUp then s.begin.copyCorrected else s.begin)

/-- POWER_DIE_COLD_POWER_UP (R436): VIN_PD in mV. -/
def execPowerDieColdPowerUp (mv : Nat) (s : State) : Host.Outcome State Fault Refusal :=
  .next (if s.fus.alive = false ∧ 9600 ≤ mv then s.begin.pdPowerUp mv else s.begin)

/-- VIN_PD_LOW (R560): VIN_PD in mV. -/
def execVinPdLow (mv : Nat) (s : State) : Host.Outcome State Fault Refusal :=
  .next (if s.fus.alive then s.begin.vinLow mv else s.begin)

end Sys2Proof.Machine
end

