-- ==== Sys2Proof/Machine/Cpd.lean ====
section
/-! DEFINITION. The cable power dialogue (chapter 15): the CPD PHYs with their transmission, reception and automatic answers, role swaps, the Fast Role Swap, Hard Reset and its recovery, and the seats. -/

namespace Sys2Proof.Machine

/-- States and transmit results of CPD_STAT. -/
def cpdDetached : Nat := 0
def cpdReady : Nat := 1
def cpdRecovery : Nat := 2
def txOk : Nat := 0
def txFailed : Nat := 1
def txDiscarded : Nat := 2
def txCrossed : Nat := 3
def txHardReset : Nat := 4
def txNotReady : Nat := 5
def txRespTmo : Nat := 6

/-- USB Power Delivery message types. -/
def pdGoodCrc : Nat := 0x01
def pdAccept : Nat := 0x03
def pdReject : Nat := 0x04
def pdPsRdy : Nat := 0x06
def pdDrSwap : Nat := 0x09
def pdPrSwap : Nat := 0x0A
def pdWait : Nat := 0x0C
def pdSoftReset : Nat := 0x0D
def pdVendor : Nat := 0x0F
def pdNotSupported : Nat := 0x10
def pdFrSwap : Nat := 0x13

/-- The type of a control message; none for a data or extended message. -/
def controlType (hdr : Nat) : Option Nat := if bitsOf hdr 15 12 = 0 then some (hdr % 32) else none

/-- The block of PHY `n` (Table 15.7). -/
def cpdBase (n : Nat) : Nat := 0x074040 + 0x1000 * (n / 4) + 0x100 * (n % 4)

/-- The interrupt page of PHY `n`. -/
def cpdPage (n : Nat) : Nat := 0x074 + n / 4

namespace State

def crd (s : State) (f : Field) (n : Nat) : Nat := s.rd f (n / 4) (n % 4)
def cwr (s : State) (f : Field) (v n : Nat) : State := s.wr f v (n / 4) (n % 4)
def cbump (s : State) (f : Field) (n : Nat) : State := s.bump f (n / 4) (n % 4)

/-- Bit `k` of PHY `n` in its page's PAGE_IRQ_STAT: 0 RX, 1 TX_DONE, 2 TX_FAIL, 3 HARD_RESET, 4 SWAP_CROSSED, 5 FRS, 6 RECOVERED, 7 FRS_TMO. -/
def cpdIrq (s : State) (n k : Nat) : State := s.irq (cpdPage n) (8 * (n % 4) + k)
def cpdEvent (s : State) (n k : Nat) : State := s.fusEvent (cpdPage n) (8 * (n % 4) + k) n

def cpdState (s : State) (n : Nat) : Nat := s.crd R.CPD_STAT_STATE n

/-- The PHY is not DETACHED. -/
def cpdAttached (s : State) (n : Nat) : Bool := s.cpdState n != cpdDetached

/-- The receive registers show the oldest message. -/
def rxShow (s : State) (n : Nat) : State :=
  let q := (s.phy n).rx
  let s := s.cwr R.CPD_STAT_RX_FILL q.length n
  let m := q.head?.getD ⟨0, [], 0⟩
  let s := ((s.cwr R.CPD_RX_HDR_HDR m.hdr n).cwr R.CPD_RX_HDR_VALID (if q.isEmpty then 0 else 1) n).cwr R.CPD_RX_TIME m.ns n
  ([R.CPD_RX_DATA0, R.CPD_RX_DATA1, R.CPD_RX_DATA2, R.CPD_RX_DATA3, R.CPD_RX_DATA4, R.CPD_RX_DATA5, R.CPD_RX_DATA6].zip
    (List.range 7)).foldl (fun (s : State) (p : Field × Nat) => s.cwr p.1 (wordAt m.data p.2) n) s

/-- The software's message ends with a result. -/
def txEnd (s : State) (n result : Nat) : State :=
  ((s.setPhy n { s.phy n with tx := none }).cwr R.CPD_STAT_TX_BUSY 0 n).cwr R.CPD_STAT_TX_RESULT result n

/-- Both MessageID counters become 0: no earlier message can be repeated. -/
def idsZero (s : State) (n : Nat) : State := (s.setPhy n { s.phy n with rxId := none }).cwr R.CPD_STAT_MSGID 0 n

/-! ### Swaps -/

/-- Any swap in progress ends, and with it the request that started it (R474, R475). -/
def swapEnd (s : State) (n : Nat) : State :=
  (s.setPhy n { s.phy n with swap := none, asked := [] }).cwr R.CPD_STAT_SWAP 0 n

/-- A swap of message type `t` ends: the one in progress when it is of that type, and the hub's own request for it. -/
def swapOver (s : State) (n t : Nat) : State :=
  let x := s.phy n
  let s := s.setPhy n { x with asked := x.asked.filter (· != t) }
  if x.swap.any (fun w => w.1 == t) then (s.setPhy n { s.phy n with swap := none }).cwr R.CPD_STAT_SWAP 0 n else s

/-- The hub's own role swap of message type `t` is pending: from SEND until its swap has ended or it is discarded (R475). -/
def pendingSwap (s : State) (n t : Nat) : Bool :=
  (t == pdPrSwap || t == pdDrSwap) && ((s.phy n).asked.contains t || (s.phy n).tx.any (fun m => controlType m.hdr == some t))

/-- A swap is in progress from its GoodCRC; the direction is latched (R474). -/
def swapStart (s : State) (n kind : Nat) : State :=
  ((s.setPhy n { s.phy n with swap := some (kind, none) }).cwr R.CPD_STAT_SWAP 1 n).cwr R.CPD_STAT_DIR0 (s.rd R.FUS_STAT_DIR n) n

/-- What a message, sent or received, does to the swap in progress (R474). -/
def swapNote (s : State) (n hdr : Nat) : State :=
  match controlType hdr with
  | none => s
  | some t =>
    if t = pdPrSwap ∨ t = pdDrSwap ∨ t = pdFrSwap then s.swapStart n t
    else
      match (s.phy n).swap with
      | none => s
      | some (k, acc) =>
        if t = pdReject ∨ t = pdWait ∨ t = pdNotSupported ∨ (t = pdAccept ∧ k = pdDrSwap) then s.swapOver n k
        else if t = pdAccept then s.setPhy n { s.phy n with swap := some (k, some 0) }
        else if t = pdPsRdy then
          match acc with
          | none => s
          | some 0 => s.setPhy n { s.phy n with swap := some (k, some 1) }
          | some _ => s.swapOver n k
        else s

/-! ### Attachment -/

/-- A PHY leaves READY for DETACHED (R466). -/
def cpdLeave (s : State) (n : Nat) : State :=
  if s.cpdState n = cpdDetached then s
  else
    let s := if (s.phy n).tx.isSome then s.txEnd n txNotReady else s
    let s := (s.setPhy n { s.phy n with rx := [], auto := none, resp := false, recovery := none, hrDue := false, drove := false }).idsZero n
    let s := ((s.swapEnd n).rxShow n).cwr R.CPD_STAT_STATE cpdDetached n
    let t := (s.wr R.TRK_ALTCFG_MODE 0 n).wr R.TRK_LANESTAT_ALTMODE 0 n
    if s.domainRuns 12 then t.directMoved s else t

/-- A PHY is READY while EN is 1 and its seats have settled (R466). -/
def cpdAttach (s : State) (n : Nat) : State :=
  if s.crd R.CPD_CFG_EN n = 1 ∧ s.seated n then
    (if s.cpdState n = cpdDetached then s.cwr R.CPD_STAT_STATE cpdReady n else s)
  else s.cpdLeave n

/-- The seat pins of trunk `n` are read (Table 14.13): 1 while a pin reads seated. -/
def seatsRead (s : State) (n : Nat) (a b : Bool) : State :=
  (s.wr R.FUS_STAT_SEAT_A (if a then 0 else 1) n).wr R.FUS_STAT_SEAT_B (if b then 0 else 1) n

/-- A seat pin of trunk `n` reads open: the channel, the PHY and the link (R441, R466, R95). -/
def seatOpens (s : State) (n : Nat) : State :=
  let s := ((s.setPhy n { s.phy n with settled := false }).chSeatOpen n).cpdAttach n
  if s.linkState n = linkUp ∨ s.linkState n = linkDrain then s.linkToDown n causeSeat else s

/-- Both seat pins of trunk `n` have read seated for 20 ms. -/
def seatSettles (s : State) (n : Nat) : State :=
  let s := s.seatsRead n false false
  (s.setPhy n { s.phy n with settled := true }).cpdAttach n

/-! ### Transmission -/

/-- The header of a message as the hub sends it: MessageID, SpecRevision, PortPowerRole and PortDataRole are the hub's (R467). -/
def cpdHeader (s : State) (n hdr id : Nat) : Nat :=
  hdr / 4096 * 4096 + id * 512 + (1 - s.rd R.FUS_STAT_DIR n) * 256 + 128 + s.crd R.CPD_CFG_DFP n * 32 + hdr % 32

/-- A message goes out. -/
def cpdOut (s : State) (n : Nat) (m : CpdTx) : State :=
  s.emit (.cpd n (s.cpdHeader n m.hdr (s.crd R.CPD_STAT_MSGID n)) (m.data.take (bitsOf m.hdr 14 12)))

/-- The data words of CPD_TX_DATA. -/
def txData (s : State) (n : Nat) : List Nat :=
  [R.CPD_TX_DATA0, R.CPD_TX_DATA1, R.CPD_TX_DATA2, R.CPD_TX_DATA3, R.CPD_TX_DATA4, R.CPD_TX_DATA5, R.CPD_TX_DATA6].map
    (fun f => s.crd f n)

def cpdResult (s : State) (n r : Nat) : State := s.cwr R.CPD_STAT_LAST_RESULT r n

/-- CPD_CMD SEND (R468, R480, R488). -/
def cpdSend (s : State) (n : Nat) : State :=
  if s.crd R.CPD_STAT_TX_BUSY n = 1 then s.cpdResult n 0xC
  else if s.cpdState n ≠ cpdReady then (s.cwr R.CPD_STAT_TX_RESULT txNotReady n).cpdResult n 0
  else
    let hdr := s.crd R.CPD_TX_HDR_HDR n
    let m : CpdTx := ⟨hdr, s.txData n, false, 0, s.crd R.CPD_TX_HDR_EXPECT_RESP n == 1⟩
    ((s.setPhy n { s.phy n with tx := some m }).cwr R.CPD_STAT_TX_BUSY 1 n).cpdResult n 0

/-- The message on the line. -/
def onLine (s : State) (n : Nat) : Option CpdTx :=
  match (s.phy n).auto, (s.phy n).tx with
  | some m, _ => if m.sent then some m else (s.phy n).tx.filter (·.sent)
  | none, t => t.filter (·.sent)

/-- The line has been idle for 25 µs: what waits goes out, the hub's own answer first. -/
def txStart (s : State) (n : Nat) : State :=
  if (s.onLine n).isSome then s
  else
    match (s.phy n).auto, (s.phy n).tx with
    | some m, _ => (s.setPhy n { s.phy n with auto := some { m with sent := true } }).cpdOut n m
    | none, some m => (s.setPhy n { s.phy n with tx := some { m with sent := true } }).cpdOut n m
    | none, none => s

/-- The hub's own answer is on the line. -/
def autoSent (s : State) (n : Nat) : Bool := (s.phy n).auto.any (·.sent)

/-- A GoodCRC with the MessageID of the message on the line (R468, R471, R473, R474). -/
def goodCrc (s : State) (n : Nat) : State :=
  match s.onLine n with
  | none => s
  | some m =>
    let auto := s.autoSent n
    let s := s.cwr R.CPD_STAT_MSGID ((s.crd R.CPD_STAT_MSGID n + 1) % 8) n
    if auto then s.setPhy n { s.phy n with auto := none }
    else
      let s := (s.txEnd n txOk).cpdIrq n 1
      let own := [pdPrSwap, pdDrSwap].filter (fun t => controlType m.hdr == some t)
      let s := s.setPhy n { s.phy n with resp := (s.phy n).resp || m.expect, asked := ((s.phy n).asked ++ own).eraseDups }
      let s := if controlType m.hdr = some pdSoftReset then s.idsZero n else s
      s.swapNote n m.hdr

/-- No GoodCRC within 1.0 ms: sent again up to twice, then failed (R468). -/
def txRetry (s : State) (n : Nat) : State :=
  match s.onLine n with
  | none => s
  | some m =>
    let auto := s.autoSent n
    if m.tries < 2 then
      let m' := { m with tries := m.tries + 1 }
      (s.setPhy n (if auto then { s.phy n with auto := some m' } else { s.phy n with tx := some m' })).cpdOut n m
    else
      let s := s.cbump R.CPD_TX_FAIL n
      if auto then s.setPhy n { s.phy n with auto := none }
      else (s.txEnd n txFailed).cpdIrq n 2

/-- A read-back mismatch (R469): the message waits for an idle line again. -/
def txCollides (s : State) (n : Nat) : State :=
  match s.onLine n with
  | none => s
  | some m =>
    let m' := { m with sent := false }
    (s.setPhy n (if s.autoSent n then { s.phy n with auto := some m' } else { s.phy n with tx := some m' })).cbump R.CPD_COLL n

/-! ### Reception -/

/-- A GoodCRC goes out for a message. -/
def sendGoodCrc (s : State) (n hdr : Nat) : State := s.emit (.cpd n (s.cpdHeader n pdGoodCrc (bitsOf hdr 11 9)) [])

/-- A message enters the receive queue. -/
def rxPush (s : State) (n hdr : Nat) (data : List Nat) : State :=
  let ns := s.copyTime % 1000000000
  ((s.setPhy n { s.phy n with rx := (s.phy n).rx ++ [⟨hdr, data.take 7, ns⟩] }).rxShow n).cpdIrq n 0

/-- A Structured VDM: its header word, when the message is one. -/
def vdmHeader (hdr : Nat) (data : List Nat) : Option Nat :=
  if hdr % 32 = pdVendor ∧ bitsOf hdr 15 15 = 0 ∧ 1 ≤ bitsOf hdr 14 12 ∧ (wordAt data 0).testBit 15 then some (wordAt data 0) else none

/-- The VDOs with which the hub answers a VDM by itself (R484). -/
def vdmAnswer (s : State) (hdr : Nat) (data : List Nat) : Option (List Nat) :=
  let svid := s.rd R.CPD_SVID
  match vdmHeader hdr data with
  | none => none
  | some v =>
    if s.rd R.CPD_VDM_CFG_AUTO = 0 ∨ svid = 0 ∨ bitsOf v 7 6 ≠ 0 then none
    else
      let ack := v + 0x40
      if v % 32 = 2 then some [ack, svid * 65536]
      else if v % 32 = 3 ∧ bitsOf v 31 16 = svid then some [ack, 1, 2 + s.rd R.CPD_VDM_CFG_DD_RATE * 16]
      else none

/-- An Attention in Display Direct is an HPD report (R486). -/
def attention (s : State) (n hdr : Nat) (data : List Nat) (sink : DspSink) (lost : Bool) : State :=
  match vdmHeader hdr data with
  | none => s
  | some v =>
    let svid := s.rd R.CPD_SVID
    if s.domainRuns 12 ∧ s.rd R.TRK_ALTCFG_MODE n = 2 ∧ svid ≠ 0 ∧ bitsOf v 31 16 = svid ∧ bitsOf v 10 8 = 2 ∧ v % 32 = 6 ∧ bitsOf v 7 6 = 0 then
      let o := s.rd R.TRK_ALTCFG_DSP_OUT n
      let vdo := wordAt data 1
      let s := if vdo.testBit 0 then (if s.rd R.DSP_OUT_STAT_HPD o = 0 then s.hpdPlug o sink else s)
        else if s.rd R.DSP_OUT_STAT_HPD o = 1 then s.hpdUnplug o else s
      if vdo.testBit 1 then s.hpdIrq o lost else s
    else s

/-- The end has the leaf role. -/
def leafEnd (s : State) (n : Nat) : Bool := (s.offered n).role == 1

/-- A role swap of type `t` crosses the hub's own request at a leaf-role end: the own request is dropped (R475), and a transmission of it that was in progress has ended. -/
def crossedAtLeaf (s : State) (n t : Nat) : State :=
  let s := if (s.phy n).tx.any (fun m => controlType m.hdr == some t) then s.txEnd n txCrossed
    else s.cwr R.CPD_STAT_TX_RESULT txCrossed n
  let s := (s.setPhy n { s.phy n with resp := false }).swapOver n t
  (s.cbump R.CPD_CROSSED n).cpdEvent n 4

/-- A new message is taken: it is answered by the hub or enters the queue (R470 to R474, R484, R486). -/
def rxTake (s : State) (n hdr : Nat) (data : List Nat) (sink : DspSink) (lost : Bool) : State :=
  let s := s.setPhy n { s.phy n with rxId := some (bitsOf hdr 11 9) }
  let s := if controlType hdr = some pdSoftReset then s.idsZero n else s
  let s := (s.swapNote n hdr).attention n hdr data sink lost
  match s.vdmAnswer hdr data with
  | some vdos => s.setPhy n { s.phy n with auto := some ⟨pdVendor + vdos.length * 4096, vdos, false, 0, false⟩ }
  | none => s.rxPush n hdr data

/-- A message arrives: the response timer stops (R473), and a SEND that waits for an idle line is discarded (R472), unless it is the request of type `spare` that the message crosses. -/
def txDiscard (s : State) (n : Nat) (spare : Option Nat) : State :=
  let s := s.setPhy n { s.phy n with resp := false }
  match (s.phy n).tx with
  | none => s
  | some m => if m.sent || (spare.isSome && controlType m.hdr == spare) then s else s.txEnd n txDiscarded

/-- A message with a good CRC (R470 to R473, R475). -/
def cpdReceive (s : State) (n hdr : Nat) (data : List Nat) (sink : DspSink) (lost : Bool) : State :=
  let full := decide (4 ≤ (s.phy n).rx.length)
  let again := (s.phy n).rxId == some (bitsOf hdr 11 9)
  match if full || again then none else (controlType hdr).filter (s.pendingSwap n) with
  | some t =>
    if s.leafEnd n then (((s.crossedAtLeaf n t).txDiscard n none).sendGoodCrc n hdr).rxTake n hdr data sink lost
    else
      let s := (s.txDiscard n (some t)).sendGoodCrc n hdr
      ((s.setPhy n { s.phy n with rxId := some (bitsOf hdr 11 9) }).cbump R.CPD_CROSSED n).swapNote n hdr
  | none =>
    let s := s.txDiscard n none
    if full then s.cbump R.CPD_RX_DROP n
    else if again then
      let s := s.sendGoodCrc n hdr
      if controlType hdr = some pdSoftReset then s.idsZero n else s
    else (s.sendGoodCrc n hdr).rxTake n hdr data sink lost

/-- A read of word 6 of CPD_RX_DATA: the oldest message leaves (R470). -/
def cpdRxRead (s : State) (path n : Nat) : State :=
  let s := s.answer path (s.crd R.CPD_RX_DATA6 n)
  (s.setPhy n { s.phy n with rx := (s.phy n).rx.drop 1 }).rxShow n

/-- The sender response timer expires (R473, R474). -/
def respExpires (s : State) (n : Nat) : State :=
  if (s.phy n).resp then
    (((s.setPhy n { s.phy n with resp := false }).swapEnd n).cwr R.CPD_STAT_TX_RESULT txRespTmo n).cpdIrq n 2
  else s

/-! ### Fast Role Swap -/

/-- The Fast Role Swap signal is sent: any transmission is abandoned, with a result that the spec does not give (R476). -/
def frsSend (s : State) (n : Nat) : State :=
  let s := if (s.phy n).tx.isSome then (s.txEnd n (s.freeNat % 16)).tookFree else s
  (s.setPhy n { s.phy n with auto := none }).emit (.cpdSignal n false)

/-- An armed sink channel turns round (R453); no gate closes while all are held off (R560). -/
def frsTurn (s : State) (c : Nat) : State :=
  if s.rd R.FUS_CFG_DIR c = 1 ∧ s.rd R.FUS_CFG_FRS_ARM c = 1 ∧ (s.chSt c = chOn ∨ s.chSt c = chRevOff) ∧ s.fus.held = false then
    let s := ((s.noteTick c).wr R.FUS_STAT_DIR 0 c).chGo c chEnhance
    (s.setChan c { s.chan c with fromRamp := false }).irq (fusPage c) 5
  else s

/-- The Fast Role Swap signal is reported (R477). -/
def frsReport (s : State) (n : Nat) : State :=
  if s.cpdState n ≠ cpdReady then s
  else (((s.cbump R.CPD_FRS_CNT n).cpdIrq n 5).setPhy n { s.phy n with confirm := true }).frsTurn n

/-- CPD_CMD FRS_CONFIRM (R478). -/
def frsConfirm (s : State) (n : Nat) : State :=
  (((s.chSetDir n 0).wr R.FUS_CFG_FRS_ARM 0 n).setPhy n { s.phy n with confirm := false }).cpdResult n 0

/-! ### Hard Reset -/

/-- A Hard Reset, sent or received (R479 to R481). -/
def hardReset (s : State) (n : Nat) : State :=
  let x := s.phy n
  let dir := if x.swap.isSome then s.crd R.CPD_STAT_DIR0 n else s.rd R.FUS_CFG_DIR n
  let s := if x.tx.isSome then s.txEnd n txHardReset
    else if x.asked ≠ [] then s.cwr R.CPD_STAT_TX_RESULT txHardReset n else s
  let s := (s.setPhy n { s.phy n with rx := [], auto := none, resp := false, recovery := some dir, hrDue := false, drove := s.chDriven n }).idsZero n
  let s := ((s.swapEnd n).rxShow n).cwr R.CPD_STAT_STATE cpdRecovery n
  let s := (s.cbump R.CPD_HR_CNT n).cpdEvent n 3
  if dir = 1 then
    let s := if s.chActive n then s.chGo n chWait else s
    (s.chSetDir n 1).chEnable n 1
  else s

/-- The hub sends a Hard Reset (R479). -/
def hrSend (s : State) (n : Nat) : State := (s.emit (.cpdSignal n true)).hardReset n

/-- A Hard Reset that waited goes out once the transmission in progress has ended (R479). -/
def hrWaited (s : State) (n : Nat) : State := if (s.phy n).hrDue then s.hrSend n else s

/-- CPD_CMD HARD_RESET (R479): it waits for a transmission in progress; a DETACHED PHY sends nothing. -/
def cpdHardReset (s : State) (n : Nat) : State :=
  if !s.cpdAttached n then s.cwr R.CPD_STAT_TX_RESULT txNotReady n
  else if (s.onLine n).isSome then s.setPhy n { s.phy n with hrDue := true }
  else s.hrSend n

/-- No GoodCRC within 1.0 ms (R468): a Hard Reset that waited goes out, or the message is sent again or has failed. -/
def txTimeout (s : State) (n : Nat) : State := if (s.phy n).hrDue then s.hrSend n else s.txRetry n

/-- PS_HR has passed at a SOURCE end: the gate of a channel that drove at the Hard Reset is turned off (R482). -/
def psHr (s : State) (n : Nat) : State :=
  if (s.phy n).recovery = some 0 ∧ (s.phy n).drove then
    (if s.chActive n then s.chGo n chOff else s).setPhy n { s.phy n with drove := false }
  else s

/-- SRC_RECOVER has passed at a SOURCE end, since the turn-off or since the Hard Reset (R482). -/
def srcRecover (s : State) (n : Nat) : State :=
  if (s.phy n).recovery = some 0 ∧ (s.phy n).drove = false then (s.chSetDir n 0).chEnable n 1 else s

/-- A write of CPD_CMD. -/
def cpdCmd (s : State) (path n op : Nat) (act : State → State) : State := s.gateWrite path (cpdBase n + 4) op act

end State

/-- The outcome of an event on PHY `n`: nothing while the power die has no power. -/
def cpdEventOn (s : State) (n : Nat) (act : State → Nat → State) : Host.Outcome State Fault Refusal :=
  guarded (decide (n < 16)) (if s.fus.alive then act s.begin n else s.begin)

/-- SEAT_OPEN (R441): which of SEAT_A and SEAT_B read open; with neither, both have come to read seated, and the 20 ms of SEAT_SETTLED begin. -/
def execSeatOpen (n : Nat) (a b : Bool) (s : State) : Host.Outcome State Fault Refusal :=
  cpdEventOn s n (fun s n => if a || b then (s.seatsRead n a b).seatOpens n else s.seatsRead n a b)

/-- SEAT_SETTLED (R466). -/
def execSeatSettled (n : Nat) (s : State) : Host.Outcome State Fault Refusal := cpdEventOn s n State.seatSettles

/-- CPD_ENABLE_WRITE (R466): a write of CPD_CFG. -/
def execCpdEnableWrite (path n data : Nat) (s : State) : Host.Outcome State Fault Refusal :=
  guarded (decide (path < 8) && decide (n < 16))
    (s.begin.gateWrite path (cpdBase n) data (fun s =>
      (s.store path (cpdBase n) data [R.CPD_CFG_EN, R.CPD_CFG_DFP, R.CPD_CFG_AUTO_FRS] (n / 4) (n % 4)).cpdAttach n))

/-- CPD_SEND (R468): CPD_CMD OP 1. -/
def execCpdSend (path n : Nat) (s : State) : Host.Outcome State Fault Refusal :=
  guarded (decide (path < 8) && decide (n < 16)) (s.begin.cpdCmd path n 1 (fun s => s.cpdSend n))

/-- CPD_TRANSMIT_START (R468). -/
def execCpdTransmitStart (n : Nat) (s : State) : Host.Outcome State Fault Refusal := cpdEventOn s n State.txStart

/-- CPD_GOODCRC_RECEIVED (R468): a GoodCRC with MessageID `id`. -/
def execCpdGoodcrcReceived (n id : Nat) (s : State) : Host.Outcome State Fault Refusal :=
  cpdEventOn s n (fun s n => if id = s.crd R.CPD_STAT_MSGID n then (s.goodCrc n).hrWaited n else s)

/-- CPD_RETRY_TIMEOUT (R468). -/
def execCpdRetryTimeout (n : Nat) (s : State) : Host.Outcome State Fault Refusal :=
  cpdEventOn s n State.txTimeout

/-- CPD_COLLISION (R469). -/
def execCpdCollision (n : Nat) (s : State) : Host.Outcome State Fault Refusal :=
  cpdEventOn s n (fun s n => (s.txCollides n).hrWaited n)

/-- CPD_MESSAGE_RECEIVED (R470): a message other than GoodCRC; `sink` and `lost` are what an HPD report of R486 finds. -/
def execCpdMessageReceived (n hdr : Nat) (data : List Nat) (good : Bool) (sink : DspSink) (lost : Bool) (s : State) :
    Host.Outcome State Fault Refusal :=
  guarded (decide (n < 16) && decide (hdr < 65536) && data.all (fun w => decide (w < 2 ^ 32)))
    (let s := s.begin
     if !s.fus.alive || !s.cpdAttached n then s
     else if good then
       let t := s.cpdReceive n hdr data sink lost
       if (t.onLine n).isSome then t else t.hrWaited n
     else s.cbump R.CPD_RX_CRC n)

/-- CPD_RX_READ (R470): a read of word 6 of CPD_RX_DATA. -/
def execCpdRxRead (path n : Nat) (s : State) : Host.Outcome State Fault Refusal :=
  guarded (decide (path < 8) && decide (n < 16)) (s.begin.gateRead path (cpdBase n + 0x48) (fun s => s.cpdRxRead path n))

/-- CPD_RESPONSE_TIMEOUT (R473). -/
def execCpdResponseTimeout (n : Nat) (s : State) : Host.Outcome State Fault Refusal := cpdEventOn s n State.respExpires

/-- CPD_SWAP_END (R474): CPD_CMD OP 5. -/
def execCpdSwapEnd (path n : Nat) (s : State) : Host.Outcome State Fault Refusal :=
  guarded (decide (path < 8) && decide (n < 16)) (s.begin.cpdCmd path n 5 (fun s => (s.swapEnd n).cpdResult n 0))

/-- CPD_HARD_RESET (R479): CPD_CMD OP 2. -/
def execCpdHardReset (path n : Nat) (s : State) : Host.Outcome State Fault Refusal :=
  guarded (decide (path < 8) && decide (n < 16))
    (s.begin.cpdCmd path n 2 (fun s => (s.cpdHardReset n).cpdResult n 0))

/-- HARD_RESET_RECEIVED (R479). -/
def execHardResetReceived (n : Nat) (s : State) : Host.Outcome State Fault Refusal :=
  cpdEventOn s n (fun s n => if s.cpdAttached n then s.hardReset n else s)

/-- PS_HR_EXPIRY (R482). -/
def execPsHrExpiry (n : Nat) (s : State) : Host.Outcome State Fault Refusal := cpdEventOn s n State.psHr

/-- SRC_RECOVER_EXPIRY (R482). -/
def execSrcRecoverExpiry (n : Nat) (s : State) : Host.Outcome State Fault Refusal := cpdEventOn s n State.srcRecover

/-- RECOVER_MAX_EXPIRY (R483). -/
def execRecoverMaxExpiry (n : Nat) (s : State) : Host.Outcome State Fault Refusal := cpdEventOn s n State.recovered

/-- CPD_FRS_SEND (R476): CPD_CMD OP 3. -/
def execCpdFrsSend (path n : Nat) (s : State) : Host.Outcome State Fault Refusal :=
  guarded (decide (path < 8) && decide (n < 16)) (s.begin.cpdCmd path n 3 (fun s => ((s.frsSend n).hrWaited n).cpdResult n 0))

/-- AUTO_FRS (R476): PBUS has read below PBUS_THR for two ticks. -/
def execAutoFrs (n : Nat) (s : State) : Host.Outcome State Fault Refusal :=
  cpdEventOn s n (fun s n =>
    if s.crd R.CPD_CFG_AUTO_FRS n = 1 ∧ s.rd R.FUS_STAT_DIR n = 0 ∧ s.rd R.CPD_FRS_CFG_PBUS_THR ≠ 0 then (s.frsSend n).hrWaited n else s)

/-- FRS_DETECTED (R477). -/
def execFrsDetected (n : Nat) (s : State) : Host.Outcome State Fault Refusal := cpdEventOn s n State.frsReport

/-- CPD_FRS_CONFIRM (R478): CPD_CMD OP 4. -/
def execCpdFrsConfirm (path n : Nat) (s : State) : Host.Outcome State Fault Refusal :=
  guarded (decide (path < 8) && decide (n < 16)) (s.begin.cpdCmd path n 4 (fun s => s.frsConfirm n))

/-- FRS_TMO (R478): the confirmation timer expires. -/
def execFrsTmo (n : Nat) (s : State) : Host.Outcome State Fault Refusal :=
  cpdEventOn s n (fun s n =>
    if (s.phy n).confirm then (s.setPhy n { s.phy n with confirm := false }).cpdIrq n 7 else s)

end Sys2Proof.Machine
end

