-- ==== Sys2Proof/Machine/Engines.lean ====
section
/-! DEFINITION. The tunnel engines (chapter 12): bindings, mailboxes and descriptors, sends, checkpoints, failures and takeovers, reloads, starts and drains, and the image cache. -/

namespace Sys2Proof.Machine

/-- ENG_HEALTH.STATE. -/
def engOff : Nat := 0
def engLoading : Nat := 1
def engRun : Nat := 2
def engSpare : Nat := 3
def engFailed : Nat := 4
def engDraining : Nat := 5
def engReloading : Nat := 6

/-- ENG_HEALTH.FAULT. -/
def faultWatchdog : Nat := 1
def faultEcc : Nat := 2
def faultTrap : Nat := 3
def faultCommand : Nat := 4
def faultLoad : Nat := 5

/-- Pages: common state, cluster k, engine e. -/
def engPage : Nat := 0x360
def enginePage (e : Nat) : Nat := 0x370 + e

/-- The top of the memory that serving images may use (R380). -/
def engTop : Nat := 0x3C000

/-- The words of an RX descriptor (Table 12.4). -/
def rxWords (x : RxEnt) (ver : Nat) : List Nat :=
  [(if x.router then 1 else 0) + x.kind * 2 ^ 8 + x.localId * 2 ^ 16, ver, x.tid + x.seq * 2 ^ 16, x.payload.length,
    x.ofs, x.tsw % 2 ^ 32, x.tsw / 2 ^ 32, 0]

namespace State

def engSt (s : State) (e : Nat) : Nat := s.rd R.ENG_HEALTH_STATE e
def setEngSt (s : State) (e v : Nat) : State := s.wr R.ENG_HEALTH_STATE v e

/-- The version of the image that runs or is staged on an engine; 0 without one. -/
def verOf (s : State) (e : Nat) : Nat := ((s.engine e).img.map (·.ver)).getD 0

/-- The engine serves its logical engine: its mailboxes fill and its sends count. -/
def serves (s : State) (e : Nat) : Bool := s.engSt e == engRun || s.engSt e == engDraining || s.engSt e == engReloading

/-- The image of an engine has a checkpoint region. -/
def hasCkpt (s : State) (e : Nat) : Bool := (s.engine e).img.any (fun i => i.ckptSize != 0)

/-- The lowest spare that covers a logical engine: of the same kind and version, quick to resume, with a checkpoint region. -/
def coverOf (s : State) (l : Nat) : Option Nat :=
  match s.imageOf l with
  | none => none
  | some i =>
    if 16 < i.resumeUs ∨ i.ckptSize = 0 then none
    else
      ((List.range 8).map (· + 8 * (l / 8))).find? (fun e => s.engSt e == engSpare &&
        (s.engine e).img.any (fun j => j.kind == i.kind && j.ver == i.ver))

/-- A cached image. -/
def cached (s : State) (kind slot : Nat) : Option Image := s.eng.cache.find? (fun i => i.kind == kind && i.slot == slot)

/-- Where an image of the cache stands in DRAM (R381). -/
def cacheAddr (s : State) (i : Image) : Nat := s.rd R.ENG_CACHE_BASE * 2 ^ 24 + i.place * 2 ^ 20

/-- The body of a cached image as DRAM holds it. -/
def cachedBody (s : State) (i : Image) : List Byte := s.dramRead (s.cacheAddr i + 256) i.body.length

/-- The body that a load reads from the cache is the one that matched BODY_HASH as it entered, or matches it again (R381). -/
def bodyMatches (s : State) (i : Image) : Bool :=
  s.cachedBody i == i.body || decide (Config.sha384 (s.cachedBody i) = (i.hdr.drop 0x40).take 48)

/-- The header and body of a cached image are read from DRAM. -/
def cacheReads (s : State) (i : Image) : State := s.dramMoves 0x1C0 (s.cacheAddr i) (256 + i.body.length)

/-- The lowest place of the cache that no cached image has, and none that a RELOAD has named. -/
def freePlace (s : State) : Nat :=
  let used := (s.eng.cache ++ s.eng.eng.filterMap (fun x => x.2.reload)).map (·.place)
  ((List.range 32).find? (fun k => !used.contains k)).getD 0

/-- Puts bytes in an engine's local memory. -/
def engStore (s : State) (e a : Nat) (bs : List Byte) : State :=
  s.setEngine e { s.engine e with mem := (s.engine e).mem.setRun 0 a bs }

/-- The hot-spare image of the cache that a spare runs in its top 16 KiB, from the slot that the directory marks ACTIVE before the other. -/
def hotSpare (s : State) : Option Image :=
  match s.dirEntries.find? (fun d => d.1 == kindHotSpare && d.2.2.1) with
  | some d => (s.cached kindHotSpare d.2.1).orElse (fun _ => s.cached kindHotSpare (1 - d.2.1))
  | none => (s.cached kindHotSpare 0).orElse (fun _ => s.cached kindHotSpare 1)

/-- The body check before an engine starts fails (R382). -/
def loadFails (s : State) (e : Nat) : State :=
  let s := ((s.setEngSt e engFailed).wr R.ENG_HEALTH_FAULT faultLoad e).irq (enginePage e) 0
  s.event engPage 2 (Config.journalArg engPage 2 [e]).toNat

/-- A spare stages: the hot-spare image, checked like any other, stands above its serving image, which never starts. -/
def engStages (s : State) (e : Nat) : State :=
  match s.hotSpare with
  | none => s.setEngSt e engSpare
  | some h => if s.bodyMatches h then ((s.engStore e engTop (s.cachedBody h)).cacheReads h).setEngSt e engSpare else s.loadFails e

/-- Loads a cached image into an engine: its body at local address 0. -/
def engLoad (s : State) (e : Nat) (i : Image) : State :=
  let s := s.setEngine e { s.engine e with img := some i, mem := (s.engine e).mem.setRun 0 0 (s.cachedBody i), reload := none }
  (s.wr R.ENG_VER i.ver e).cacheReads i

/-! ### Responses and drains -/

/-- A response without results of an image: those words are free. -/
def plainRsp (s : State) (cmd : List Nat) (status ver : Nat) : State × List Nat :=
  let w0 := wordAt cmd 0
  ({ s with free := s.free + 6 },
    [w0 % 256 + status * 2 ^ 8 + bitsOf w0 31 16 * 2 ^ 16, ver] ++
      (List.range 6).map (fun k => (Config.freeValue (s.free + k)).toNat % 2 ^ 32))

/-- A response joins the RSP mailbox. -/
def pushRsp (s : State) (e : Nat) (w : List Nat) : State :=
  (s.updLog (s.logOf e) (fun x => { x with rsp := x.rsp ++ [w] })).irq (enginePage e) 1

/-- The engine is OFF (R391). -/
def engOffNow (s : State) (e : Nat) : State :=
  ((s.setEngSt e engOff).setEngine e {}).wr R.ENG_VER 0 e |>.irq (enginePage e) 3

/-- The tunnels bound to a logical engine in a direction: 0 inbound, 1 origin (R378). -/
def boundTunnels (s : State) (l dir : Nat) : List Nat :=
  ((List.range 256).map (fun i => s.eng.bind.get 0 (l / 8 * 256 + i))).filterMap (fun w =>
    if w.testBit 15 && bitsOf w 20 20 == dir && bitsOf w 18 16 == l % 8 then some (bitsOf w 14 0) else none)

/-- The units that wait at the cluster's switch port for a logical engine are discarded and counted, and their cells released (R391). -/
def portRefuses (s : State) (l e : Nat) : State :=
  (s.boundTunnels l 0).foldl (fun s t =>
    (s.bumpBy R.ENG_REFUSED (s.tunnelSeqs (21 + l / 8) t).length e).dropTunnel (21 + l / 8) t) s

/-- The end of a drain: what remains is discarded and counted, and each command is answered ABORTED (R391). Of sends, 64 have a place in the mailbox (R383). -/
def engDrainEnd (s : State) (e : Nat) : State :=
  let l := s.logOf e
  let x := s.logEng l
  let v := s.verOf e
  let s := (s.portRefuses l e).bumpBy R.ENG_ABORTED (x.unit.length + x.msg.length + x.cmd.length + min 64 x.send.length) e
  let s := x.cmd.foldl (fun s c => let r := s.plainRsp c 2 v; r.1.pushRsp e r.2) s
  (s.setLog l { rsp := (s.logEng l).rsp }).engOffNow e

/-- A draining engine that has worked through its mailboxes goes OFF. -/
def engDrained (s : State) (e : Nat) : State :=
  let x := s.logEng (s.logOf e)
  if s.engSt e = engDraining ∧ x.unit = [] ∧ x.msg = [] ∧ x.cmd = [] ∧ x.send = [] then s.engDrainEnd e else s

/-! ### Units in -/

/-- A unit at a cluster's switch port (R378, R383, R391). A unit whose mailbox or region is full stays in the planes. -/
def engUnit (s : State) (k : Nat) (u : UnitMsg) : State :=
  match s.boundEngine k u.tid with
  | none => s.bump R.ENG_UNBOUND k
  | some l =>
    let e := s.physOf l
    if s.engRefuses l then s.bump R.ENG_REFUSED e
    else if s.unitWaits l u.payload.length then s
    else
      match s.rxPlace l u.payload.length with
      | none => s
      | some a =>
        match (s.engine e).img with
        | none => s
        | some i =>
          (s.engStore e (i.rxOfs + a) u.payload).updLog l (fun x => { x with
            unit := x.unit ++ [⟨false, u.kind, 0, u.tid, u.seq, u.tsw, a, u.payload⟩] })

/-- A router delivery for a logical engine (R383, R391): none while it has to wait. -/
def engMessage (s : State) (l : Nat) (u : UnitMsg) (localId : Nat) : Option State :=
  let e := s.physOf l
  if s.engRefuses l then some (s.bump R.ENG_REFUSED e)
  else if 32 ≤ (s.logEng l).msg.length then none
  else
    match (s.engine e).img, s.rxPlace l u.payload.length with
    | some i, some a =>
      some ((s.engStore e (i.rxOfs + a) u.payload).updLog l (fun x => { x with
        msg := x.msg ++ [⟨true, u.kind, localId, u.tid, u.seq, u.tsw, a, u.payload⟩] }))
    | _, _ => none

/-- Entries that an engine has taken are released: at once without a checkpoint region, at each commit with one (R386). -/
def releaseTaken (s : State) (l : Nat) : State :=
  s.updLog l (fun x => { x with
    unit := x.unit.drop x.unitPos, unitPos := 0, msg := x.msg.drop x.msgPos, msgPos := 0, cmd := x.cmd.drop x.cmdPos, cmdPos := 0 })

/-- A failed engine is reset and reloads, as a spare or to serve again (R389). -/
def engReloads (s : State) (e : Nat) (asSpare : Bool) : State :=
  (s.setEngSt e engLoading).setEngine e { s.engine e with asSpare := asSpare, mem := [], finalCkpt := false, reload := none }

/-- A failed engine that was taken over, and has not restarted. -/
def takenOver (s : State) (e : Nat) : Bool := s.engSt e == engFailed && s.rd R.ENG_HEALTH_FAULT e != faultLoad

/-- The engines of a cluster that were taken over restart: as spares, or OFF without AUTO_RESPARE (R389, Table 12.5). -/
def respare (s : State) (k : Nat) : State :=
  (((List.range 8).map (· + 8 * k)).filter s.takenOver).foldl
    (fun s e => if s.rd R.ENG_CFG_AUTO_RESPARE e = 1 then s.engReloads e true else s.engOffNow e) s

/-- A failed logical engine takes its first unit again: a takeover is over and its length known (R388), and a repair is told (R389); either way an engine that was taken over before restarts. -/
def firstTaken (s : State) (l : Nat) : State :=
  match (s.logEng l).failedAt with
  | none => s
  | some t =>
    let d := s.hw - t
    let told := if (s.logEng l).repair then s.event engPage 1 (Config.journalArg engPage 1 [l, s.physOf l, d]).toNat
      else s.keepMax R.ENG_TAKEOVER_MAX d
    (told.respare (l / 8)).updLog l (fun x => { x with failedAt := none, repair := false })

/-- A serving engine takes the next entry of a mailbox: 0 UNIT, 1 MSG, 2 CMD. -/
def engTake (s : State) (e box : Nat) : State :=
  let l := s.logOf e
  let x := s.logEng l
  let done := fun (s : State) => (if s.hasCkpt e then s else s.releaseTaken l).engDrained e
  match box with
  | 2 =>
    match x.cmd[x.cmdPos]? with
    | none => s
    | some c => done ((s.emit (.desc e 2 c [])).updLog l (fun x => { x with cmdPos := x.cmdPos + 1 }))
  | 1 =>
    match x.msg[x.msgPos]? with
    | none => s
    | some r =>
      let s := (s.emit (.desc e 1 (rxWords r (s.verOf e)) r.payload)).tally (0x190 + e)
      done ((s.updLog l (fun x => { x with msgPos := x.msgPos + 1 })).firstTaken l)
  | _ =>
    match x.unit[x.unitPos]? with
    | none => s
    | some r =>
      let s := (s.emit (.desc e 0 (rxWords r (s.verOf e)) r.payload)).tally (0x190 + e)
      done ((s.updLog l (fun x => { x with unitPos := x.unitPos + 1 })).firstTaken l)

/-! ### Commands and responses -/

/-- ENG_CMDQ_PUSH (R384, R391). -/
def cmdPush (s : State) (e : Nat) : State :=
  let l := s.logOf e
  let w := (List.range 8).map (fun i => s.rd R.ENG_CMDQ_W e i)
  let done := fun (s : State) (r : Nat) => s.wr R.ENG_CMDQ_STAT_LAST_RESULT r e
  match (s.engine e).img with
  | none => done s 2
  | some i =>
    if s.engRefuses l ∨ s.engSt e = engSpare then done s 2
    else if i.ver < wordAt w 1 ∨ wordAt w 1 < i.minCmd then
      if 16 ≤ (s.logEng l).rsp.length then done s 1
      else
        let r := s.plainRsp w 1 i.ver
        done (r.1.pushRsp e r.2) 0
    else if 16 ≤ (s.logEng l).cmd.length then done s 1
    else done (s.updLog l (fun x => { x with cmd := x.cmd ++ [w] })) 0

/-- A read of ENG_RSP_W word 7: the oldest response leaves, and an answer that waited for its place joins the 16 of the mailbox (R383). -/
def rspRead (s : State) (path e : Nat) : State :=
  let l := s.logOf e
  match (s.logEng l).rsp with
  | [] => s.answer path 0
  | r :: rs =>
    let s := s.updLog l (fun x => { x with rsp := rs })
    (if 16 ≤ rs.length then s.irq (enginePage e) 1 else s).answer path (wordAt r 7)

/-! ### Sends and checkpoints -/

/-- The switch port of an engine's cluster. -/
def engPort (e : Nat) : Nat := 21 + e / 8

/-- A SEND enters the planes. -/
def sendNowEng (s : State) (e : Nat) (x : SendEnt) : State :=
  (s.originUnit (engPort e) x.tid x.kind x.payload).tally (0x1A0 + e)

/-- ENGINE_SEND (R385, R388): a unit without DEDUP_OK waits for the next commit, and so does what follows it on its tunnel; behind the 64 of the mailbox it waits in the engine (R383). -/
def engSend (s : State) (e w0 w1 w2 w3 w4 : Nat) (payload : List Byte) : State :=
  let l := s.logOf e
  let tid := bitsOf w2 14 0
  let len := bitsOf w3 15 0
  let s := s.engStore e (min w4 engTop) (payload.take (engTop - w4))
  let bad := decide (w1 ≠ s.verOf e) || !((s.binding (l / 8) tid 1).any (fun w => bitsOf w 18 16 == l % 8))
  if 16384 < len then (s.bump R.ENG_SEND_ERR e).bump R.TMAP_OVERSIZE_CNT
  else if bad ∨ engTop < w4 + len then s.bump R.ENG_SEND_ERR e
  else
    let x : SendEnt := ⟨tid, bitsOf w0 11 8, (s.engine e).mem.getRun 0 w4 len⟩
    let q := (s.logEng l).send
    if s.hasCkpt e && (!w0.testBit 12 || q.any (fun y => y.tid == tid)) then
      s.updLog l (fun y => { y with send := y.send ++ [x] })
    else s.sendNowEng e x

/-- A checkpoint commits (R386): what waited for it is sent, taken entries are released, and the release points and USEQs are those of this instant. -/
def commitCkpt (s : State) (e : Nat) (region : List Byte) : State :=
  let l := s.logOf e
  match (s.engine e).img with
  | none => s
  | some i =>
    if i.ckptSize = 0 then s
    else
      let s := s.engStore e i.ckptOfs (region.take i.ckptSize)
      let copy := (s.engine e).mem.getRun 0 i.ckptOfs i.ckptSize
      let s := (s.logEng l).send.foldl (fun s x => s.sendNowEng e x) (s.updLog l (fun x => { x with send := [] }))
      let us := (s.boundTunnels l 1).map (fun t => (t, s.tun.useq.get 0 t))
      let s := s.updLog l (fun x => { x with ckpt := some ⟨copy, i.fmt, us⟩, commitAt := some s.hw })
      let s := s.setEngine e { s.engine e with finalCkpt := s.engSt e == engReloading }
      ((s.releaseTaken l).wr R.ENG_HEALTH_CKPT_STALE 0 e).engDrained e

/-! ### Failures -/

/-- A logical engine resumes on an engine from its committed checkpoint (R388, R389): its entries after the release points are presented again, sends that waited are forgotten, and its origin tunnels go on at the recorded USEQs. -/
def resumeAt (s : State) (l e : Nat) : State :=
  let x := s.logEng l
  let s := match x.ckpt, (s.engine e).img with
    | some c, some i => s.engStore e i.ckptOfs c.region
    | _, _ => s
  let s := match (s.engine e).img with
    | some i => (x.unit ++ x.msg).foldl (fun (s : State) (r : RxEnt) => s.engStore e (i.rxOfs + r.ofs) r.payload) s
    | none => s
  let s := match x.ckpt with
    | some c => c.useqs.foldl (fun (s : State) (p : Nat × Nat) => s.updTun (fun t => { t with useq := t.useq.set 0 p.1 p.2 })) s
    | none => s
  s.updLog l (fun x => { x with unitPos := 0, msgPos := 0, cmdPos := 0, send := [] })

/-- A covering spare takes a logical engine over (R388); the failed engine is held in reset until the spare takes its first unit. -/
def takeover (s : State) (l e sp cause : Nat) : State :=
  let old := s.logOf sp
  let s := s.updEng (fun x => { x with phys := (x.phys.set l l sp).set old old e })
  let s := (((s.setEngSt sp engRun).wr R.ENG_HEALTH_LOGICAL l sp).wr R.ENG_HEALTH_FAULT 0 sp).resumeAt l sp
  let s := s.updLog l (fun x => { x with failedAt := some s.hw, repair := false })
  let s := (s.setEngSt e engFailed).setEngine e { s.engine e with asSpare := s.rd R.ENG_CFG_AUTO_RESPARE e == 1, mem := [], finalCkpt := false, reload := none }
  let s := (s.wr R.ENG_HEALTH_LOGICAL old e).bump R.ENG_TAKEOVER_CNT |>.tally 0x1B0
  s.event engPage 0 (Config.journalArg engPage 0 [l, e, sp, cause]).toNat

/-- A spare takes over a logical engine and has not yet taken its first unit. -/
def takingOverAt (s : State) (l : Nat) : Bool := (s.logEng l).failedAt.isSome && !(s.logEng l).repair

/-- A serving engine fails (R387): at the end of the cycle the cluster settles which spare takes over (R403); a checkpoint that the engine raises meanwhile does not commit. -/
def engFail (s : State) (e fault : Nat) : State :=
  if s.serves e then s.updEng (fun x => { x with failing := x.failing ++ [(e, fault)] }) else s

/-- The engine has failed in this cycle. -/
def fails (s : State) (e : Nat) : Bool := s.eng.failing.any (fun x => x.1 == e)

/-- An engine's failure takes effect (R388, R389); a spare that fails during its takeover is reloaded (R403). -/
def engFailNow (s : State) (e fault : Nat) : State :=
  if !s.serves e then s
  else
    let l := s.logOf e
    let s := ((s.wr R.ENG_HEALTH_FAULT fault e).bump R.ENG_FAULTS e).irq (enginePage e) 0
    if s.engSt e = engDraining then s.engDrainEnd e
    else
      match (if s.takingOverAt l then none else s.coverOf l) with
      | some sp => s.takeover l e sp fault
      | none => (s.engReloads e false).updLog l (fun x => { x with failedAt := some s.hw, repair := true })

/-- A failed engine has reloaded from the cache (R389); `intact` when nothing went wrong on the way. -/
def reloadDone (s : State) (e : Nat) (intact : Bool) : State :=
  let x := s.engine e
  if s.engSt e ≠ engLoading ∧ !(s.takenOver e && x.asSpare) then s
  else
    match x.img.bind (fun i => s.cached i.kind i.slot) with
    | none => s.loadFails e
    | some i =>
      if !(intact && s.bodyMatches i) then s.loadFails e
      else
        let s := (s.engLoad e i).wr R.ENG_HEALTH_FAULT 0 e
        if x.asSpare then s.engStages e
        else
          (s.setEngSt e engRun).resumeAt (s.logOf e) e

/-- The failures of the cycle that ends take effect, those of the lower logical engines first (R403). -/
def failuresStand (s : State) : State :=
  let l := (List.range 16).flatMap (fun l => s.eng.failing.filter (fun x => s.logOf x.1 == l && s.domainRuns (10 + x.1 / 8)))
  l.foldl (fun s x => s.engFailNow x.1 x.2) (s.updEng (fun x => { x with failing := [] }))

/-! ### ENG_CMD and ENG_CFG -/

/-- A takeover of the cluster is in progress. -/
def takingOver (s : State) (k : Nat) : Bool :=
  (List.range 8).any (fun i => s.takingOverAt (8 * k + i) && s.engSt (s.physOf (8 * k + i)) == engRun)

def engResult (s : State) (e r : Nat) : State := s.wr R.ENG_HEALTH_RESULT r e

/-- ENG_CMD RELOAD (R390). -/
def engReload (s : State) (e : Nat) : State :=
  let k := e / 8
  let busy := ((List.range 8).map (· + 8 * k)).any (fun f => f != e && (s.engSt f == engLoading || s.engSt f == engReloading))
  if s.engSt e ≠ engRun then s.engResult e 4
  else if busy ∨ s.takingOver k then s.engResult e 0xC
  else
    match s.cached (s.rd R.ENG_CFG_KIND e) (s.rd R.ENG_CFG_SLOT e), (s.engine e).img with
    | some i, some old =>
      if i.fmtMin ≤ old.fmt ∧ old.fmt ≤ i.fmt then
        ((s.setEngSt e engReloading).setEngine e { s.engine e with finalCkpt := false, reload := some i }).engResult e 0
      else s.engResult e 2
    | _, _ => s.engResult e 1

/-- A reload ends: the image that RELOAD named resumes from the final checkpoint (R390). -/
def reloadComplete (s : State) (e : Nat) (intact : Bool) : State :=
  if s.engSt e ≠ engReloading ∨ (s.hasCkpt e ∧ (s.engine e).finalCkpt = false) then s
  else
    match (s.engine e).reload with
    | none => s.loadFails e
    | some i =>
      if !(intact && s.bodyMatches i) then (s.setEngine e { s.engine e with reload := none }).loadFails e
      else ((s.engLoad e i).resumeAt (s.logOf e) e).setEngSt e engRun

/-- An engine starts to serve or stages as a spare (R381). -/
def engStart (s : State) (e : Nat) (intact : Bool) : State :=
  if s.engSt e ≠ engOff ∧ s.engSt e ≠ engFailed then s
  else
    match s.cached (s.rd R.ENG_CFG_KIND e) (s.rd R.ENG_CFG_SLOT e) with
    | none => s.engResult e 1
    | some i =>
      let s := (((s.wr R.ENG_CFG_EN 1 e).engResult e 0).wr R.ENG_HEALTH_LOGICAL (s.logOf e) e).engLoad e i
      if !(intact && s.bodyMatches i) then s.loadFails e
      else
        let s := s.wr R.ENG_HEALTH_FAULT 0 e
        if s.rd R.ENG_CFG_ROLE e = 1 then s.engStages e
        else
          (s.setEngSt e engRun).updLog (s.logOf e) (fun x => { x with commitAt := some s.hw })

/-- An engine drains (R391); one that does not run has nothing to work through. Its EN stays as it is. -/
def engDrains (s : State) (e : Nat) : State :=
  if s.engSt e = engRun ∨ s.engSt e = engReloading then (s.setEngSt e engDraining).engDrained e
  else if s.engSt e = engOff ∨ s.engSt e = engDraining then s
  else s.engDrainEnd e

/-- EN of an engine becomes 0. -/
def engStop (s : State) (e : Nat) : State := (s.wr R.ENG_CFG_EN 0 e).engDrains e

/-- A write of ENG_CFG; EN 1 is ignored while the engine drains. -/
def engCfgWrite (s : State) (path e data : Nat) (intact : Bool) : State :=
  let a := 0x370040 + 0x1000 * e
  s.gateWrite path a data (fun s =>
    let s := s.store path a data [R.ENG_CFG_ROLE, R.ENG_CFG_KIND, R.ENG_CFG_SLOT, R.ENG_CFG_AUTO_RESPARE] e
    if data % 2 = 0 then s.engStop e else if s.drainedTo 2 then s.wr R.ENG_CFG_EN 1 e else s.engStart e intact)

/-! ### The image cache -/

def cacheResult (s : State) (r : Nat) : State := (s.wr R.ENG_CACHE_STAT_BUSY 0).wr R.ENG_CACHE_STAT_LAST_RESULT r

/-- Verifies an image of flash and enters it, in the place of one of the same kind and slot (R382). -/
def cacheEnter (s : State) (kind slot : Nat) : State :=
  match s.verifyImage kind slot with
  | .error r =>
    (s.cacheResult r).event engPage 2 (Config.journalArg engPage 2 [kind, slot, r]).toNat
  | .ok i =>
    let rest := s.eng.cache.filter (fun j => !(j.kind == kind && j.slot == slot))
    if 24 ≤ rest.length then s.cacheResult 7
    else
      let i := { i with place := s.freePlace }
      ((s.updEng (fun x => { x with cache := rest ++ [i] })).dramWrite (s.cacheAddr i) (i.hdr ++ i.body)).cacheResult 0

/-- ENG_CACHE_CMD LOAD begins. -/
def cacheLoad (s : State) (kind slot : Nat) : State :=
  if s.rd R.ENG_CACHE_STAT_BUSY = 1 then s.wr R.ENG_CACHE_STAT_LAST_RESULT 0xC
  else (s.updEng (fun x => { x with loading := some (kind, slot) })).wr R.ENG_CACHE_STAT_BUSY 1

/-- An engine runs, stages or reloads a cached image, or a spare its hot-spare image. -/
def imageInUse (s : State) (kind slot : Nat) : Bool :=
  (List.range 16).any (fun e => (s.engSt e != engOff && (s.engine e).img.any (fun i => i.kind == kind && i.slot == slot)) ||
    (s.engSt e == engReloading && (s.engine e).reload.any (fun i => i.kind == kind && i.slot == slot)) ||
    (s.engSt e == engSpare && s.hotSpare.any (fun i => i.kind == kind && i.slot == slot)))

/-- ENG_CACHE_CMD EVICT (R403). -/
def cacheEvict (s : State) (kind slot : Nat) : State :=
  if s.rd R.ENG_CACHE_STAT_BUSY = 1 then s.wr R.ENG_CACHE_STAT_LAST_RESULT 0xC
  else if (s.cached kind slot).isNone then s.wr R.ENG_CACHE_STAT_LAST_RESULT imgNone
  else if s.imageInUse kind slot then s.wr R.ENG_CACHE_STAT_LAST_RESULT 8
  else
    (s.updEng (fun x => { x with cache := x.cache.filter (fun j => !(j.kind == kind && j.slot == slot)) })).wr
      R.ENG_CACHE_STAT_LAST_RESULT 0

/-! ### Bindings -/

/-- The word in ENG_BIND_DATA. -/
def bindData (s : State) (k : Nat) : Nat :=
  s.rd R.ENG_BIND_DATA_TID k + s.rd R.ENG_BIND_DATA_VALID k * 2 ^ 15 + s.rd R.ENG_BIND_DATA_ENGINE k * 2 ^ 16 +
    s.rd R.ENG_BIND_DATA_DIR k * 2 ^ 20

def bindRead (s : State) (k : Nat) : State :=
  let w := s.eng.bind.get 0 (k * 256 + s.rd R.ENG_BIND_INDEX k)
  ((((s.wr R.ENG_BIND_DATA_TID (bitsOf w 14 0) k).wr R.ENG_BIND_DATA_VALID (bitsOf w 15 15) k).wr
    R.ENG_BIND_DATA_ENGINE (bitsOf w 18 16) k).wr R.ENG_BIND_DATA_DIR (bitsOf w 20 20) k).wr R.ENG_BIND_STAT_LAST_RESULT 0 k

/-- ENG_BIND_CMD WRITE (R378). -/
def bindWrite (s : State) (k : Nat) : State :=
  let i := s.rd R.ENG_BIND_INDEX k
  let w := s.bindData k
  let twice := w.testBit 15 && (List.range 256).any (fun j =>
    let v := s.eng.bind.get 0 (k * 256 + j)
    j != i && v.testBit 15 && bitsOf v 14 0 == bitsOf w 14 0 && bitsOf v 20 20 == bitsOf w 20 20)
  if twice then s.wr R.ENG_BIND_STAT_LAST_RESULT 1 k
  else (s.updEng (fun x => { x with bind := x.bind.set 0 (k * 256 + i) w })).wr R.ENG_BIND_STAT_LAST_RESULT 0 k

/-- Every engine is disabled, for entry to P2 or deeper (R392). -/
def enginesStop (s : State) : State := (List.range 16).foldl engDrains s

/-- The engines with EN 1 start again (R498). -/
def enginesResume (s : State) : State :=
  (List.range 16).foldl (fun s e => if s.rd R.ENG_CFG_EN e = 1 ∧ s.engSt e = engOff then s.engStart e true else s) s

end State

/-- ENGINE_UNIT (R378): a unit at the switch port of cluster `k`. -/
def execEngineUnit (k : Nat) (u : UnitMsg) (s : State) : Host.Outcome State Fault Refusal :=
  guardedIn (10 + k) s (decide (k < 2)) (s.begin.engUnit k u)

/-- ENG_CMDQ_PUSH (R384). -/
def execEngCmdqPush (path e : Nat) (s : State) : Host.Outcome State Fault Refusal :=
  guarded (decide (path < 8) && decide (e < 16)) (s.begin.gateWrite path (0x370058 + 0x1000 * e) 0 (fun s => s.cmdPush e))

/-- ENG_RSP_READ (R384): a read of word 7 of ENG_RSP_W. -/
def execEngRspRead (path e : Nat) (s : State) : Host.Outcome State Fault Refusal :=
  guarded (decide (path < 8) && decide (e < 16)) (s.begin.gateRead path (0x37009C + 0x1000 * e) (fun s => s.rspRead path e))

/-- ENGINE_SEND (R385): words 0 to 4 of the descriptor, and the bytes that the image has put at the payload's offset. -/
def execEngineSend (e w0 w1 w2 w3 w4 : Nat) (payload : List Byte) (s : State) : Host.Outcome State Fault Refusal :=
  guardedIn (10 + e / 8) s (decide (e < 16)) (if s.serves e && !s.fails e then s.begin.engSend e w0 w1 w2 w3 w4 payload else s.begin)

/-- CHECKPOINT_DOORBELL (R386): with what the image has put in its checkpoint region. -/
def execCheckpointDoorbell (e : Nat) (region : List Byte) (s : State) : Host.Outcome State Fault Refusal :=
  guardedIn (10 + e / 8) s (decide (e < 16)) (if s.serves e && !s.fails e then s.begin.commitCkpt e region else s.begin)

/-- CKPT_STALE (R386): no commit has landed within ENG_CKPT_MAX. -/
def execCkptStale (e : Nat) (s : State) : Host.Outcome State Fault Refusal :=
  guardedIn (10 + e / 8) s (decide (e < 16))
    (if s.serves e && s.hasCkpt e then (s.begin.wr R.ENG_HEALTH_CKPT_STALE 1 e).irq (enginePage e) 2 else s.begin)

/-- ENGINE_WATCHDOG (R387); a kick in the same cycle wins (Table 12.8). -/
def execEngineWatchdog (e : Nat) (s : State) : Host.Outcome State Fault Refusal :=
  guardedIn (10 + e / 8) s (decide (e < 16))
    (if (s.engine e).kickAt = some s.hw then s.begin else s.begin.engFail e faultWatchdog)

/-- The corrected errors that an engine's local memory has met. -/
def State.engCorrected (s : State) (e corr : Nat) : State := (s.bumpBy R.ENG_ECC_CNT_CORR corr e).tally 0x1D0 corr

/-- ENGINE_FAULT (R387). -/
def execEngineFault (e : Nat) (err : EngineErr) (s : State) : Host.Outcome State Fault Refusal :=
  guardedIn (10 + e / 8) s (decide (e < 16))
    (if err.trap then (s.begin.engCorrected e err.corr).engFail e faultTrap
     else (((s.begin.engCorrected e err.corr).bump R.ENG_ECC_CNT_UNCORR e).tally 0x1D1).engFail e faultEcc)

/-- ENG_RESTART (R387). -/
def execEngRestart (path e : Nat) (s : State) : Host.Outcome State Fault Refusal :=
  guarded (decide (path < 8) && decide (e < 16))
    (s.begin.gateWrite path (0x370044 + 0x1000 * e) 2 (fun s =>
      if s.serves e then (s.engFail e faultCommand).engResult e 0 else s.engResult e 4))

/-- ENGINE_RELOAD_DONE (R389): `intact` when the loaded body matches BODY_HASH. -/
def execEngineReloadDone (e : Nat) (intact : Bool) (s : State) : Host.Outcome State Fault Refusal :=
  guardedIn (10 + e / 8) s (decide (e < 16)) (s.begin.reloadDone e intact)

/-- ENG_RELOAD (R390). -/
def execEngReload (path e : Nat) (s : State) : Host.Outcome State Fault Refusal :=
  guarded (decide (path < 8) && decide (e < 16))
    (s.begin.gateWrite path (0x370044 + 0x1000 * e) 1 (fun s => s.engReload e))

/-- RELOAD_COMPLETE (R390). -/
def execReloadComplete (e : Nat) (intact : Bool) (s : State) : Host.Outcome State Fault Refusal :=
  guardedIn (10 + e / 8) s (decide (e < 16)) (s.begin.reloadComplete e intact)

/-- ENGINE_START (R381): a write of ENG_CFG with EN 1. -/
def execEngineStart (path e data : Nat) (intact : Bool) (s : State) : Host.Outcome State Fault Refusal :=
  guarded (decide (path < 8) && decide (e < 16)) (s.begin.engCfgWrite path e (data / 2 * 2 + 1) intact)

/-- ENGINE_DISABLE (R391): a write of ENG_CFG with EN 0. -/
def execEngineDisable (path e data : Nat) (s : State) : Host.Outcome State Fault Refusal :=
  guarded (decide (path < 8) && decide (e < 16)) (s.begin.engCfgWrite path e (data / 2 * 2) true)

/-- ENGINE_DRAIN_TIMEOUT (R391). -/
def execEngineDrainTimeout (e : Nat) (s : State) : Host.Outcome State Fault Refusal :=
  guardedIn (10 + e / 8) s (decide (e < 16)) (if s.engSt e = engDraining then s.begin.engDrainEnd e else s.begin)

/-- ENG_CACHE_LOAD (R382): ENG_CACHE_CMD LOAD. -/
def execEngCacheLoad (path kind slot : Nat) (s : State) : Host.Outcome State Fault Refusal :=
  guarded (decide (path < 8) && decide (kind < 256) && decide (slot < 2))
    (s.begin.gateWrite path 0x360044 (1 + kind * 2 ^ 8 + slot * 2 ^ 16) (fun s => s.cacheLoad kind slot))

/-- ENG_CACHE_EVICT (R403). -/
def execEngCacheEvict (path kind slot : Nat) (s : State) : Host.Outcome State Fault Refusal :=
  guarded (decide (path < 8) && decide (kind < 256) && decide (slot < 2))
    (s.begin.gateWrite path 0x360044 (2 + kind * 2 ^ 8 + slot * 2 ^ 16) (fun s => s.cacheEvict kind slot))

/-- ENG_BIND_READ (R378). -/
def execEngBindRead (path k : Nat) (s : State) : Host.Outcome State Fault Refusal :=
  guarded (decide (path < 8) && decide (k < 2)) (s.begin.gateWrite path (0x361048 + 0x1000 * k) 1 (fun s => s.bindRead k))

/-- ENG_BIND_WRITE (R378). -/
def execEngBindWrite (path k : Nat) (s : State) : Host.Outcome State Fault Refusal :=
  guarded (decide (path < 8) && decide (k < 2)) (s.begin.gateWrite path (0x361048 + 0x1000 * k) 2 (fun s => s.bindWrite k))

/-- ENGINE_TAKE_ENTRY (R386): from the UNIT (0), MSG (1) or CMD (2) mailbox; a reloading engine takes nothing (R390). -/
def execEngineTakeEntry (e box : Nat) (s : State) : Host.Outcome State Fault Refusal :=
  guardedIn (10 + e / 8) s (decide (e < 16) && decide (box < 3))
    (if (s.engSt e = engRun ∨ s.engSt e = engDraining) ∧ s.fails e = false then s.begin.engTake e box else s.begin)

/-- A kick, which wins over an expiry of the same cycle (Table 12.8). -/
def State.engKick (s : State) (e : Nat) : State :=
  (s.setEngine e { s.engine e with kickAt := some s.hw }).updEng (fun x => { x with failing := x.failing.erase (e, faultWatchdog) })

/-- ENGINE_WDT_KICK (R387). -/
def execEngineWdtKick (e : Nat) (s : State) : Host.Outcome State Fault Refusal :=
  guardedIn (10 + e / 8) s (decide (e < 16))
    (if s.serves e then s.begin.engKick e else s.begin)

/-- ENGINE_RSP_POST (R384): the eight words of a response; it waits in the engine while the mailbox is full. -/
def execEngineRspPost (e : Nat) (words : List Nat) (s : State) : Host.Outcome State Fault Refusal :=
  guardedIn (10 + e / 8) s (decide (e < 16) && decide (words.length = 8) && words.all (fun w => decide (w < 2 ^ 32)))
    (if s.serves e ∧ (s.logEng (s.logOf e)).rsp.length < 16 then s.begin.pushRsp e words else s.begin)

/-- ENG_CACHE_LOAD_DONE (R382). -/
def execEngCacheLoadDone (s : State) : Host.Outcome State Fault Refusal :=
  nextIn 1 s (match s.eng.loading.filter (fun _ => s.domainRuns 17) with
    | none => s.begin
    | some (kind, slot) => (s.begin.updEng (fun x => { x with loading := none })).cacheEnter kind slot)

end Sys2Proof.Machine
end

