-- ==== Sys2Proof/Machine/TunnelMap.lean ====
section
/-! DEFINITION. The tunnel map's commands (chapter 01, Setup, commit and teardown): READ_A, READ_B, STAGE, COMMIT, DISCARD, READ_STAGED, the commit at its boundary, and the scrubber. -/

namespace Sys2Proof.Machine

/-- TMAP_CMD. -/
def tmapCmdAddr : Nat := 0x280054

/-- Result codes of TMAP_STAT and SWx_MCG_STAT beyond the commit checks. -/
def resOk : Nat := 0
def resOtherPath : Nat := 8
def resFull : Nat := 9
def resNoAuthority : Nat := 0xA
def resNothingStaged : Nat := 0xB
def resBusy : Nat := 0xC
def resBadOp : Nat := 0xD

namespace State

def tmapResult (s : State) (r : Nat) : State := s.wr R.TMAP_STAT_LAST_RESULT r

/-- A refused commit (COMMIT_REFUSED of Table 1.18). -/
def tmapRefuse (s : State) (r : Nat) : State := (s.tmapResult r).irq 0x280 1

/-- TMAP_INDEX goes on when AUTOINC is 1: after 32,767 comes 1 (Table 1.14). -/
def tmapNext (s : State) : State :=
  if s.rd R.TMAP_INDEX_AUTOINC = 1 then
    s.wr R.TMAP_INDEX_INDEX (if s.rd R.TMAP_INDEX_INDEX = 32767 then 1 else s.rd R.TMAP_INDEX_INDEX + 1)
  else s

/-- A command of page 0x280, ignored with result BUSY while one is in progress (R56). -/
def tmapCmd (s : State) (path op : Nat) (act : State → State) : State :=
  s.gateWrite path tmapCmdAddr op (fun s => if s.rd R.TMAP_STAT_BUSY = 1 then s.tmapResult resBusy else act s)

/-- TMAP_DATA takes an entry's words. -/
def tmapData (s : State) (e : Entry) : State :=
  (((s.wr R.TMAP_DATA e.w0 0 0).wr R.TMAP_DATA e.w1 0 1).wr R.TMAP_DATA e.w2 0 2).wr R.TMAP_DATA e.w3 0 3

/-- TMAP_DATA takes four words that the spec leaves open. -/
def tmapDataFree (s : State) : State :=
  (List.range 4).foldl (fun s j => (s.wr R.TMAP_DATA s.freeNat 0 j).tookFree) s

/-- READ_A and READ_B: the committed entry of one copy; an uncorrectable entry reads as free values (log 13). -/
def tmapRead (s : State) (p : Nat) : State :=
  let i := s.rd R.TMAP_INDEX_INDEX
  let s := if s.eccAt p i = .bad then s.tmapDataFree else s.tmapData (s.mapAt p i)
  (s.tmapResult resOk).tmapNext

/-- The entry that TMAP_DATA holds. -/
def tmapDataEntry (s : State) : Entry :=
  ⟨s.rd R.TMAP_DATA 0 0, s.rd R.TMAP_DATA 0 1, s.rd R.TMAP_DATA 0 2, s.rd R.TMAP_DATA 0 3⟩

/-- The edit set is open on another path (R45). -/
def tmapOther (s : State) (path : Nat) : Bool := !s.tun.edit.isEmpty && s.tun.editPath != path

/-- STAGE (R45, R46). -/
def tmapStage (s : State) (path : Nat) : State :=
  let i := s.rd R.TMAP_INDEX_INDEX
  if s.tmapOther path then s.tmapResult resOtherPath
  else if s.tun.edit.all (fun x => x.1 ≠ i) && decide (256 ≤ s.tun.edit.length) then s.tmapResult resFull
  else
    let s := s.updTun (fun t => { t with
      edit := Tab.put i (s.tmapDataEntry) t.edit,
      editPath := if t.edit.isEmpty then path else t.editPath })
    (s.tmapResult resOk).tmapNext

/-- The trunks that an entry sends on. -/
def entryTrunks (s : State) (e : Entry) : List Nat :=
  ((s.membersOf s.authPlane e 24).map Prod.fst).filter (· < 16)

/-- The commit checks of Table 1.10 on one staged entry: 0 when it passes all. -/
def tmapCheck (s : State) (i : Nat) (e : Entry) : Nat :=
  if i = 0 then 1
  else if e.valid && !e.mcast && decide (23 < e.egressSp) then 2
  else if e.mcast && bitsOf e.w1 11 10 != 0 then 3
  else if e.valid && (decide (e.cls = 0) == decide (e.pinLat = 0)) then 4
  else if (e.ordered && e.policy != policyEither) || (e.fallback && decide (policyB < e.policy)) then 5
  else if e.rewrite && e.nextTid == 0 then 6
  else if e.valid && e.reqV21 &&
      (s.entryTrunks e).any (fun n => s.linkState n == linkUp && s.rd R.TRK_LSTAT_V21 n == 0) then 7
  else if e.rsvd then 0xE
  else 0

/-- The first staged entry, by index, that fails a check. -/
def tmapBad (s : State) : Option (Nat × Nat) :=
  (s.tun.edit.map (fun x => (x.1, s.tmapCheck x.1 x.2))).find? (fun x => x.2 != 0)

/-- A management pair is live. -/
def pairLive (s : State) : Bool := s.rd R.RGM_STAT_PAIR_A == 3 || s.rd R.RGM_STAT_PAIR_B == 3

/-- The Ringmaster grants a commit that waits for a live pair, under the current epoch (R49, R159); with no plane holding authority it is refused. -/
def tmapGrant (s : State) : State :=
  if !s.tun.commitWaitsPair then s
  else
    let s := s.updTun (fun t => { t with commitWaitsPair := false })
    if s.rd R.RGM_STAT_AUTH_VALID = 0 then ((s.wr R.TMAP_STAT_BUSY 0).tmapRefuse resNoAuthority).afterCommit
    else s.updTun (fun t => { t with commitGranted := true, commitEpoch := s.rd R.RGM_EPOCH })

/-- COMMIT (R47, R49). -/
def tmapCommit (s : State) (path : Nat) : State :=
  if s.tmapOther path then s.tmapRefuse resOtherPath
  else if s.tun.edit.isEmpty then s.tmapRefuse resNothingStaged
  else
    match s.tmapBad with
    | some (i, code) => (s.tmapRefuse code).wr R.TMAP_BAD_INDEX i
    | none =>
      if s.rd R.RGM_STAT_AUTH_VALID = 0 then s.tmapRefuse resNoAuthority
      else
        let s := (s.wr R.TMAP_STAT_BUSY 1).updTun (fun t => { t with commitWaitsPair := true })
        if s.pairLive then s.tmapGrant else s

/-- DISCARD (R45). -/
def tmapDiscard (s : State) (path : Nat) : State :=
  if s.tmapOther path then s.tmapResult resOtherPath
  else (s.updTun (fun t => { t with edit := [] })).tmapResult resOk

/-- READ_STAGED (Table 1.15). -/
def tmapReadStaged (s : State) : State :=
  let i := s.rd R.TMAP_INDEX_INDEX
  match s.tun.edit.find? (fun x => x.1 = i) with
  | some x => ((s.tmapData x.2).tmapResult resOk).tmapNext
  | none => s.tmapRead 0

/-- One entry of a commit takes effect on both planes: a tunnel that becomes valid starts its numbers, its duplicate state and its record of fences already sent afresh, one that becomes invalid frees that state, and a moved tunnel goes home (R19, R20, R32, R38). -/
def tmapApplyOne (s : State) (i : Nat) (e : Entry) : State :=
  let was := (s.mapAt s.authPlane i).valid
  let s := (s.mapPut 0 i e).mapPut 1 i e
  s.updTun (fun t => { t with
    moved := t.moved.set 0 i 0,
    useq := if e.valid && !was then t.useq.set 0 i 0 else t.useq,
    dds := if e.valid && was then t.dds else t.dds.eraseIf (fun k => k % 32768 == i),
    fences := if e.valid && was then t.fences
      else t.fences.mapVals [] (fun k l => if k % 32768 = i then l.filter (fun f => !f.sent) else l) })

/-- The granted commit at its boundary (R48, R49); a grant that bears another epoch than the current one is dropped (R159). -/
def tmapApply (s : State) : State :=
  if !s.tun.commitGranted then s
  else
    let s := (s.updTun (fun t => { t with commitGranted := false })).wr R.TMAP_STAT_BUSY 0
    if s.rd R.RGM_STAT_AUTH_VALID = 0 ∨ s.tun.commitEpoch ≠ s.rd R.RGM_EPOCH then s.tmapRefuse resNoAuthority
    else
      let s := s.tun.edit.foldl (fun s x => s.tmapApplyOne x.1 x.2) s
      ((((s.updTun (fun t => { t with edit := [] })).tmapResult resOk).bumpWrap R.TMAP_COMMIT_CNT).tally 0x123).irq 0x280 0

/-- A commit found no live pair within 1 ms (R49). -/
def tmapPairTimeout (s : State) : State :=
  if s.tun.commitWaitsPair then
    ((s.updTun (fun t => { t with commitWaitsPair := false })).wr R.TMAP_STAT_BUSY 0).tmapRefuse resNoAuthority
  else s

/-- The scrubber at one index (R41, R43); while no plane holds authority plane A's copy is the one kept (DESIGN CHOICE, log 11). -/
def scrubOne (s : State) (i : Nat) : State :=
  let a := s.authPlane
  match s.readCopy a i with
  | (s, x) =>
    match s.readCopy (1 - a) i with
    | (s, y) =>
      match x, y with
      | some e, some f =>
        if e = f then s else (s.mapPut (1 - a) i e).event 0x280 5 i
      | some e, none => s.mapPut (1 - a) i e
      | none, some f => s.mapPut a i f
      | none, none => s

/-- The indexes at which a copy holds anything or has an error. -/
def scrubList (s : State) : List Nat :=
  ((s.tun.map.map (fun (x : Nat × Entry) => x.1 % 32768)) ++ (s.tun.ecc.map (fun (x : Nat × EccState) => x.1 % 32768))).eraseDups

end State

/-- TMAP_READ_A (R45). -/
def execTmapReadA (path : Nat) (s : State) : Host.Outcome State Fault Refusal :=
  guarded (decide (path < 8)) (s.begin.tmapCmd path 1 (fun s => s.tmapRead 0))

/-- TMAP_READ_B (R45). -/
def execTmapReadB (path : Nat) (s : State) : Host.Outcome State Fault Refusal :=
  guarded (decide (path < 8)) (s.begin.tmapCmd path 2 (fun s => s.tmapRead 1))

/-- TMAP_STAGE (R46). -/
def execTmapStage (path : Nat) (s : State) : Host.Outcome State Fault Refusal :=
  guarded (decide (path < 8)) (s.begin.tmapCmd path 3 (fun s => s.tmapStage path))

/-- TMAP_COMMIT (R47). -/
def execTmapCommit (path : Nat) (s : State) : Host.Outcome State Fault Refusal :=
  guarded (decide (path < 8)) (s.begin.tmapCmd path 4 (fun s => s.tmapCommit path))

/-- TMAP_COMMIT_APPLY (R48). -/
def execTmapCommitApply (s : State) : Host.Outcome State Fault Refusal :=
  nextIn 1 s s.begin.tmapApply.afterCommit

/-- TMAP_COMMIT_PAIR_TIMEOUT (R49). -/
def execTmapCommitPairTimeout (s : State) : Host.Outcome State Fault Refusal :=
  nextIn 1 s s.begin.tmapPairTimeout.afterCommit

/-- TMAP_DISCARD (R45). -/
def execTmapDiscard (path : Nat) (s : State) : Host.Outcome State Fault Refusal :=
  guarded (decide (path < 8)) (s.begin.tmapCmd path 5 (fun s => s.tmapDiscard path))

/-- TMAP_READ_STAGED (R45). -/
def execTmapReadStaged (path : Nat) (s : State) : Host.Outcome State Fault Refusal :=
  guarded (decide (path < 8)) (s.begin.tmapCmd path 6 State.tmapReadStaged)

/-- SCRUB_PASS (R43), after `upsets` struck the map. -/
def execScrubPass (upsets : List MapUpset) (s : State) : Host.Outcome State Fault Refusal :=
  nextIn 1 s (let s := upsets.foldl State.upset s.begin
         s.scrubList.foldl State.scrubOne s)

end Sys2Proof.Machine
end

