-- ==== Sys2Proof/Machine/Groups.lean ====
section
/-! DEFINITION. Multicast groups (R141 to R143) and the Sheepdog audit (R144, R145) of chapter 04. -/

namespace Sys2Proof.Machine

/-- SWx_MCG_CMD of a plane. -/
def mcgCmdAddr (p : Nat) : Nat := 0x102048 + 0x80000 * p

namespace State

def updMcg (s : State) (f : McgEdit → McgEdit) : State := { s with mcg := f s.mcg }

/-- Both pages show one edit set: the result of a command stands in both (R142). -/
def mcgResult (s : State) (r : Nat) : State := (s.wr R.SW_MCG_STAT_LAST_RESULT r 0).wr R.SW_MCG_STAT_LAST_RESULT r 1
def mcgBusy (s : State) (v : Nat) : State := (s.wr R.SW_MCG_STAT_BUSY v 0).wr R.SW_MCG_STAT_BUSY v 1

/-- A command of a group page, ignored with result BUSY while a commit is in progress (R56, R142). -/
def mcgCmd (s : State) (path p op : Nat) (act : State → State) : State :=
  s.gateWrite path (mcgCmdAddr p) op (fun s => if s.rd R.SW_MCG_STAT_BUSY p = 1 then s.mcgResult resBusy else act s)

/-- Key of the indexed group word. -/
def mcgKey (s : State) (p : Nat) : Nat := s.rd R.SW_MCG_INDEX_GROUP p * 32 + s.rd R.SW_MCG_INDEX_WORD p

/-- Groups with a staged word, in order. -/
def mcgGroups (s : State) : List Nat := (s.mcg.words.map (fun (x : Nat × Option Nat) => x.1 / 32)).eraseDups

def mcgOther (s : State) (path : Nat) : Bool := !s.mcg.words.isEmpty && s.mcg.path != path

/-- READ: this plane's committed word. -/
def mcgRead (s : State) (p : Nat) : State :=
  (s.wr R.SW_MCG_DATA ((s.plane p).mcg.get 0 (s.mcgKey p)) p).mcgResult resOk

/-- STAGE: a word of one of at most 16 groups. -/
def mcgStage (s : State) (path p : Nat) : State :=
  let k := s.mcgKey p
  if s.mcgOther path then s.mcgResult resOtherPath
  else if !s.mcgGroups.contains (k / 32) && decide (16 ≤ s.mcgGroups.length) then s.mcgResult resFull
  else
    (s.updMcg (fun m => { m with
      words := m.words.set none k (some (s.rd R.SW_MCG_DATA p)),
      path := if m.words.isEmpty then path else m.path })).mcgResult resOk

/-- A group's word as it will stand after the commit. -/
def mcgAfter (s : State) (g w : Nat) : Nat :=
  (s.mcg.words.get none (g * 32 + w)).getD (s.mcgWord s.authPlane g w)

/-- The checks of R142 on one group: 0 when it passes all. -/
def mcgCheck (s : State) (g : Nat) : Nat :=
  let m := s.mcgAfter g 0
  if bitsOf m 31 24 ≠ 0 then 2
  else if (List.range 24).any (fun i => m.testBit i && bitsOf (s.mcgAfter g (i + 1)) 31 12 != 0) then 3
  else if (List.range 24).any (fun i => !m.testBit i && s.mcgAfter g (i + 1) != 0) then 0xE
  else 0

/-- The Ringmaster grants a group commit that waits for a live pair, under the current epoch (R49, R142, R159). -/
def mcgGrant (s : State) : State :=
  if !s.mcg.waitsPair then s
  else
    let s := s.updMcg (fun m => { m with waitsPair := false })
    if s.rd R.RGM_STAT_AUTH_VALID = 0 then ((s.mcgBusy 0).mcgResult resNoAuthority).afterCommit
    else s.updMcg (fun m => { m with granted := true, epoch := s.rd R.RGM_EPOCH })

/-- COMMIT (R142, R49). -/
def mcgCommit (s : State) (path : Nat) : State :=
  if s.mcgOther path then s.mcgResult resOtherPath
  else if s.mcg.words.isEmpty then s.mcgResult resNothingStaged
  else
    match (s.mcgGroups.map (fun g => (g, s.mcgCheck g))).find? (fun x => x.2 != 0) with
    | some (g, code) => ((s.mcgResult code).wr R.SW_MCG_STAT_BAD_GROUP g 0).wr R.SW_MCG_STAT_BAD_GROUP g 1
    | none =>
      if s.rd R.RGM_STAT_AUTH_VALID = 0 then s.mcgResult resNoAuthority
      else
        let s := (s.mcgBusy 1).updMcg (fun m => { m with waitsPair := true })
        if s.pairLive then s.mcgGrant else s

/-- The granted commit takes effect on both planes (R142); a grant that bears another epoch than the current one is dropped (R159). -/
def mcgApply (s : State) : State :=
  if !s.mcg.granted then s
  else
    let s := (s.updMcg (fun m => { m with granted := false })).mcgBusy 0
    if s.rd R.RGM_STAT_AUTH_VALID = 0 ∨ s.mcg.epoch ≠ s.rd R.RGM_EPOCH then s.mcgResult resNoAuthority
    else
      let put := fun (s : State) (p : Nat) => s.updPlane p (fun x => { x with
        mcg := s.mcg.words.foldl (fun t (e : Nat × Option Nat) => t.set 0 e.1 (e.2.getD 0)) x.mcg })
      let s := (((put (put s 0) 1).updMcg (fun m => { m with words := [] })).mcgResult resOk).tally 0x123
      (s.bumpWrap R.SW_MCG_COMMIT_CNT 0).bumpWrap R.SW_MCG_COMMIT_CNT 1

/-- A group commit found no live pair within 1 ms (R49). -/
def mcgPairTimeout (s : State) : State :=
  if s.mcg.waitsPair then
    ((s.updMcg (fun m => { m with waitsPair := false })).mcgBusy 0).mcgResult resNoAuthority
  else s

/-- DISCARD. -/
def mcgDiscard (s : State) (path : Nat) : State :=
  if s.mcgOther path then s.mcgResult resOtherPath
  else (s.updMcg (fun m => { m with words := [] })).mcgResult resOk

/-- READ_STAGED: the staged word, or the committed one (Table 4.15). -/
def mcgReadStaged (s : State) (p : Nat) : State :=
  match s.mcg.words.get none (s.mcgKey p) with
  | some w => (s.wr R.SW_MCG_DATA w p).mcgResult resOk
  | none => s.mcgRead p

/-! ### Sheepdog -/

/-- Page of a plane's Sheepdog. -/
def sdgPage (p : Nat) : Nat := planePage p + 1

/-- A finding is counted, flagged and journalled with its cell and tunnel (Table 4.4). -/
def sdgFind (s : State) (p b arg : Nat) : State := (s.tally (0x102 + 8 * p)).event (sdgPage p) b arg

/-- Sheepdog compares a cell's counts, acting from the second sweep on (R145, Table 4.4). -/
def sdgCell (s : State) (p i : Nat) : State :=
  let c := (s.plane p).cells.get {} i
  let acts := (s.plane p).swept
  let put := fun (s : State) (c : CellEnt) => s.updPlane p (fun x => { x with cells := x.cells.set {} i c })
  let arg := i + c.tid * 2 ^ 16
  if c.alloc then
    if c.shadow = 0 then
      if acts && c.orphan then
        let s := (s.wr R.SW_SDG_LAST_CELL i p).wr R.SW_SDG_LAST_TID c.tid p
        let s := if s.rd R.SW_SDG_CFG_AUTO_RECLAIM p = 1 then (put s {}).bump R.SW_SDG_RECLAIM p else s
        s.sdgFind p 0 arg
      else put s { c with orphan := true }
    else
      let s := put s { c with orphan := false, ref := if acts then c.shadow else c.ref }
      if acts && c.shadow != c.ref then (s.bump R.SW_SDG_REFFIX p).sdgFind p 1 arg else s
  else if acts && c.shadow != 0 then
    ((put s { c with alloc := true, ref := c.shadow }).bump R.SW_SDG_FREEHELD p).sdgFind p 2 arg
  else s

/-- One visit: an upset of the cell's entry (allocated, reference count, shadow count) may have come before it. -/
def sdgVisit (s : State) (p : Nat) (upset : Option (Bool × Nat × Nat)) : State :=
  let i := s.rd R.SW_SDG_STAT_CELL p
  let s := match upset with
    | none => s
    | some (a, r, h) => s.updPlane p (fun x => { x with
        cells := x.cells.upd {} i (fun c => { c with alloc := a, ref := r, shadow := h }) })
  if (s.plane p).sweeping && decide (i < bufferCells) then (s.sdgCell p i).wr R.SW_SDG_STAT_CELL (i + 1) p else s

/-- The end of a sweep: the free list against the cells found free (R144, R145); the tunnel and cell of a free-list finding are free values. -/
def sdgEnd (s : State) (p : Nat) (upset : Int) : State :=
  let s := s.updPlane p (fun x => { x with freeUpset := x.freeUpset + upset })
  let x := s.plane p
  if !x.sweeping || decide (s.rd R.SW_SDG_STAT_CELL p < bufferCells) then s
  else
    let bad := x.freeUpset != 0
    let acts := x.swept
    let s := s.setPlane p { x with
      sweeping := false, swept := true, mismatched := bad, freeUpset := if acts then 0 else x.freeUpset }
    let s := (s.bump R.SW_SDG_STAT_SWEEPS p).wr R.SW_SDG_STAT_CELL 0 p
    let s := s.irq (sdgPage p) 4
    if bad && acts then
      let s := ((s.bump R.SW_SDG_FREEERR p).sdgFind p 3 (s.freeNat % 2 ^ 31)).tookFree
      if x.mismatched then s.declareFailed p failSheepdog else s
    else s

end State

/-- MCG_READ (R142). -/
def execMcgRead (path p : Nat) (s : State) : Host.Outcome State Fault Refusal :=
  guarded (decide (path < 8) && decide (p < 2)) (s.begin.mcgCmd path p 1 (fun s => s.mcgRead p))

/-- MCG_STAGE (R142). -/
def execMcgStage (path p : Nat) (s : State) : Host.Outcome State Fault Refusal :=
  guarded (decide (path < 8) && decide (p < 2)) (s.begin.mcgCmd path p 2 (fun s => s.mcgStage path p))

/-- MCG_COMMIT (R142). -/
def execMcgCommit (path p : Nat) (s : State) : Host.Outcome State Fault Refusal :=
  guarded (decide (path < 8) && decide (p < 2)) (s.begin.mcgCmd path p 3 (fun s => s.mcgCommit path))

/-- MCG_COMMIT_APPLY (R142). -/
def execMcgCommitApply (s : State) : Host.Outcome State Fault Refusal := nextIn 1 s s.begin.mcgApply.afterCommit

/-- MCG_COMMIT_PAIR_TIMEOUT (R49). -/
def execMcgCommitPairTimeout (s : State) : Host.Outcome State Fault Refusal := nextIn 1 s s.begin.mcgPairTimeout.afterCommit

/-- MCG_DISCARD (R142). -/
def execMcgDiscard (path p : Nat) (s : State) : Host.Outcome State Fault Refusal :=
  guarded (decide (path < 8) && decide (p < 2)) (s.begin.mcgCmd path p 4 (fun s => s.mcgDiscard path))

/-- MCG_READ_STAGED (R142). -/
def execMcgReadStaged (path p : Nat) (s : State) : Host.Outcome State Fault Refusal :=
  guarded (decide (path < 8) && decide (p < 2)) (s.begin.mcgCmd path p 5 (fun s => s.mcgReadStaged p))

/-- SHEEPDOG_SWEEP_START (R144). -/
def execSheepdogSweepStart (p : Nat) (s : State) : Host.Outcome State Fault Refusal :=
  guardedIn (4 + p) s (decide (p < 2))
    (let s := s.begin
     if s.inService p ∧ s.rd R.SW_SDG_CFG_EN p = 1 then
       (s.updPlane p (fun x => { x with sweeping := true })).wr R.SW_SDG_STAT_CELL 0 p
     else s)

/-- SHEEPDOG_VISIT (R145): the visit of the next cell, after an upset of its entry if there was one. -/
def execSheepdogVisit (p : Nat) (upset : Option (Bool × Nat × Nat)) (s : State) : Host.Outcome State Fault Refusal :=
  guardedIn (4 + p) s (decide (p < 2)) (s.begin.sdgVisit p upset)

/-- SHEEPDOG_SWEEP_END (R145): `upset` is what an upset has added to the free list's length. -/
def execSheepdogSweepEnd (p : Nat) (upset : Int) (s : State) : Host.Outcome State Fault Refusal :=
  guardedIn (4 + p) s (decide (p < 2)) (s.begin.sdgEnd p upset)

end Sys2Proof.Machine
end

