-- ==== Sys2Proof/Machine/Ringmaster.lean ====
section
/-! DEFINITION. The Ringmaster's own events and commands (chapter 04): replicas, claims of authority, management pairs, HANDOVER and SWAP_LIVE. -/

namespace Sys2Proof.Machine

/-- RGM_CMD. -/
def rgmCmdAddr : Nat := 0x01C04C

namespace State

/-- The live pair (R162). -/
def livePair (s : State) : Option Nat :=
  if s.pairState 0 = pairIsLive then some 0 else if s.pairState 1 = pairIsLive then some 1 else none

/-- A pair becomes live, and the commits that waited for one are granted (R49); the pair that was live becomes STANDBY. -/
def makeLive (s : State) (x : Nat) : State :=
  let s := if s.pairState (1 - x) = pairIsLive then s.setPairState (1 - x) pairStandby else s
  ((s.setPairState x pairIsLive).tmapGrant).mcgGrant

/-! ### Replicas -/

/-- A replica disagrees (R156, R157): reloaded, counted and masked after 16 disagreements in 1 s; with a replica masked, a disagreement of the other two freezes the Ringmaster. -/
def replicaMismatch (s : State) (r : Nat) : State :=
  let masked := s.rd R.RGM_STAT_MASKED
  if s.frozen ∨ masked.testBit r then s
  else if masked ≠ 0 then (s.wr R.RGM_STAT_FROZEN 1).irq rgmPage 6
  else
    let s := ((s.bump R.RGM_TMR_CNT).tally 0x1F0).irq rgmPage 4
    let l := (s.rgm.disagree.get [] r).filter (fun t => decide (s.hw < t + 1000000000)) ++ [s.hw]
    let s := s.updRgm (fun x => { x with disagree := x.disagree.set [] r l })
    if 16 ≤ l.length then (s.wr R.RGM_STAT_MASKED (2 ^ r)).irq rgmPage 5 else s

/-! ### Claims -/

/-- A plane in service claims authority, unless it was demoted and has not heard its peer since (R161). -/
def claimStands (s : State) (p : Nat) (claims : Bool) : Bool := claims && s.inService p && (s.plane p).mayClaim

/-- The losing plane of a vote is demoted (R160, R161). -/
def demote (s : State) (p : Nat) : State := s.updPlane p (fun x => { x with claims := false, mayClaim := false })

/-- The vote of Table 4.7 on the claims of planes A and B, with those that wait for the end of the cycle (Table 4.9). -/
def vote (s : State) (a b : Bool) : State :=
  let ca := s.claimStands 0 (a || (s.plane 0).claims)
  let cb := s.claimStands 1 (b || (s.plane 1).claims)
  if s.frozen then
    (s.updPlane 0 (fun x => { x with claims := x.claims || ca })).updPlane 1 (fun x => { x with claims := x.claims || cb })
  else if s.rd R.RGM_STAT_AUTH_VALID = 1 then
    let o := 1 - s.rd R.RGM_STAT_AUTH
    if (if o = 0 then ca else cb) then
      let s := (s.demote o).bump R.RGM_DISPUTE_CNT
      s.event rgmPage 2 s.rgmArg
    else s
  else if ca then (if cb then (s.demote 1).grant 0 else s.grant 0)
  else if cb then s.grant 1
  else s

/-- The planes' own claims are decided at the end of the cycle (R158): two planes that have entered service together both claim, and plane A takes authority. -/
def settleClaims (s : State) : State :=
  if s.rd R.RGM_STAT_AUTH_VALID = 0 ∧ s.frozen = false ∧ ((s.plane 0).claims ∨ (s.plane 1).claims) then
    s.vote (s.plane 0).claims (s.plane 1).claims
  else s

/-! ### Pairs -/

/-- A pair beats as STANDBY. -/
def beatsReady (s : State) (x : Nat) (beats : Bool) : Bool := beats && s.pairState x == pairStandby

/-- Heartbeats of pairs A and B in one cycle (R162, R163): with no pair live the first one as STANDBY becomes live, and the preferred pair once per reset takes over at its first. -/
def pairBeats (s : State) (a b : Bool) : State :=
  let pref := s.rd R.RGM_CFG_PREF_PAIR
  let ra := s.beatsReady 0 a
  let rb := s.beatsReady 1 b
  let rp := if pref = 0 then ra else rb
  let ro := if pref = 0 then rb else ra
  if s.frozen ∨ (ra = false ∧ rb = false) then s
  else
    match s.livePair with
    | none => if rp then (s.updRgm (fun x => { x with prefDone := true })).makeLive pref else if ro then s.makeLive (1 - pref) else s
    | some _ =>
      if rp ∧ s.rgm.prefDone = false then (s.updRgm (fun x => { x with prefDone := true })).makeLive pref else s

/-- The Ringmaster shows a pair's state; a frozen one keeps the live pair (R157). -/
def showPair (s : State) (x v : Nat) : State := if s.frozen ∧ s.pairState x = pairIsLive then s else s.setPairState x v

/-- A pair has halted (R163): when it was the live one, the other becomes live if it is STANDBY, and the change is counted, flagged and journalled. -/
def pairLost (s : State) (x : Nat) : State :=
  let was := s.pairState x
  let s := s.showPair x pairHalted
  if was = pairIsLive ∧ s.frozen = false then
    let s := if s.pairState (1 - x) = pairStandby then s.makeLive (1 - x) else s
    let s := s.bump R.RGM_PAIR_CNT
    s.event rgmPage 3 s.rgmArg
  else s

/-! ### Commands -/

/-- RGM_CMD HANDOVER. -/
def rgmHandover (s : State) : State :=
  if s.frozen then s.wr R.RGM_RESULT 2
  else if s.rd R.RGM_STAT_AUTH_VALID = 0 ∨ s.planeState (1 - s.rd R.RGM_STAT_AUTH) ≠ planeStandby then s.wr R.RGM_RESULT 1
  else if s.committing then (s.updRgm (fun r => { r with handoverWaits := true })).wr R.RGM_RESULT 0
  else s.handover.wr R.RGM_RESULT 0

/-- The pair that SWAP_LIVE makes live: the STANDBY pair that is not live, the preferred one of two. -/
def swapTarget (s : State) : Option Nat :=
  match s.livePair with
  | some x => if s.pairState (1 - x) = pairStandby then some (1 - x) else none
  | none =>
    let p := s.rd R.RGM_CFG_PREF_PAIR
    if s.pairState p = pairStandby then some p else if s.pairState (1 - p) = pairStandby then some (1 - p) else none

/-- RGM_CMD SWAP_LIVE. -/
def rgmSwapLive (s : State) : State :=
  if s.frozen then s.wr R.RGM_RESULT 2
  else
    match s.swapTarget with
    | some x => (s.makeLive x).wr R.RGM_RESULT 0
    | none => s.wr R.RGM_RESULT 1

end State

/-- REPLICA_MISMATCH (R156). -/
def execReplicaMismatch (r : Nat) (s : State) : Host.Outcome State Fault Refusal :=
  guardedIn 0 s (decide (r < 3)) (s.begin.replicaMismatch r)

/-- AUTHORITY_CLAIM (R158): the planes that claim in this cycle. -/
def execAuthorityClaim (a b : Bool) (s : State) : Host.Outcome State Fault Refusal := nextIn 0 s (s.begin.vote a b)

/-- CROSS_PLANE_HEARTBEAT (R161): plane `p` receives its peer's heartbeat. -/
def execCrossPlaneHeartbeat (p : Nat) (s : State) : Host.Outcome State Fault Refusal :=
  guardedIn (4 + p) s (decide (p < 2)) (s.begin.updPlane p (fun x => { x with mayClaim := true }))

/-- PAIR_HEARTBEAT (R163): the pairs that send a heartbeat in this cycle. -/
def execPairHeartbeat (a b : Bool) (s : State) : Host.Outcome State Fault Refusal := nextIn 0 s (s.begin.pairBeats a b)

/-- RGM_HANDOVER (R165). -/
def execRgmHandover (path : Nat) (s : State) : Host.Outcome State Fault Refusal :=
  guarded (decide (path < 8)) (s.begin.gateWrite path rgmCmdAddr 1 State.rgmHandover)

/-- RGM_SWAP_LIVE (R162). -/
def execRgmSwapLive (path : Nat) (s : State) : Host.Outcome State Fault Refusal :=
  guarded (decide (path < 8)) (s.begin.gateWrite path rgmCmdAddr 2 State.rgmSwapLive)

end Sys2Proof.Machine
end

