-- ==== Sys2Proof/Machine/Flags.lean ====
section
/-! DEFINITION. The flags that the hub computes from state: INT_N and its two reasons (R532 to R534), and PAGE_STAT (Table 18.7). -/

namespace Sys2Proof.Machine

/-- The word with the bits of a list that are true. -/
def domainSet (l : List (Nat × Bool)) : Nat := (l.map (fun x => if x.2 then 2 ^ x.1 else 0)).sum

namespace State

/-- A routed group is pending, and an event of R534 has not been cleared. -/
def intnRouted (s : State) : Bool := (List.range 32).any (fun g => (s.rd R.MON_ROUTE_INT).testBit g && s.groupPending g)
def intnEvent (s : State) : Bool := !s.csr.intn.isEmpty

/-- INT_N is asserted (R533, R534). -/
def intN (s : State) : Bool := s.intnRouted || s.intnEvent

/-- PAGE_STAT (Table 18.7). -/
def pageStat (s : State) (p : Nat) : Nat :=
  domainSet [(0, s.rd R.PAGE_CTL_SRST p == 1), (1, s.rd R.ERR_CAPT0_VALID p == 1), (2, s.rd R.PAGE_CTL_LOCK p == 1),
    (3, s.irqActive p)]

end State

end Sys2Proof.Machine
end

