-- ==== Sys2Proof/Machine/Journal.lean ====
section
/-! DEFINITION. The event journal (chapter 06, R229 to R232, R579). -/

namespace Sys2Proof.Machine

namespace State

/-- Entries that the ring holds (R579). -/
def jnlFill (s : State) : Nat :=
  if s.jnl.full then 16384 else (s.rd R.MON_JNL_HEAD + 16384 - s.rd R.MON_JNL_TAIL) % 16384

/-- A lost entry (R231). -/
def jnlLose (s : State) : State :=
  (({ s with jnl := { s.jnl with lost := true } }.bump R.MON_JNL_LOST).tally 0x131).irq 0x058 1

/-- Puts an entry at the head; THRESH and FULL are set as the fill reaches them. -/
def jnlPut (s : State) (e : JEnt) : State :=
  let old := s.jnlFill
  let h := s.rd R.MON_JNL_HEAD
  let s := { s with jnl := { s.jnl with ring := s.jnl.ring.set none h (some (e, s.jnl.lost)), lost := false } }
  let s := if old = 16384 then s.wr R.MON_JNL_TAIL ((s.rd R.MON_JNL_TAIL + 1) % 16384) else s
  let s := s.wr R.MON_JNL_HEAD ((h + 1) % 16384)
  let s := { s with jnl := { s.jnl with full := decide (16383 ≤ old) } }
  let s := s.tally 0x130
  let s := if old < s.rd R.MON_JNL_THR ∧ s.rd R.MON_JNL_THR ≤ s.jnlFill then s.irq 0x058 0 else s
  if old < 16384 ∧ s.jnl.full then s.irq 0x058 2 else s

/-- The oldest queued entry reaches the ring (R230, R231): a full ring overwrites its oldest entry, or loses the new one. -/
def jnlWrite (s : State) : State :=
  match s.jnl.arrivals with
  | [] => s
  | e :: t =>
    let s := { s with jnl := { s.jnl with arrivals := t } }
    if s.jnl.full ∧ s.rd R.MON_JNL_CFG_MODE = 1 then s.jnlLose else s.jnlPut e

/-- Word `k` of the entry at the tail; 0 when the journal is empty, and 0 in an entry never written (log 36). -/
def jnlWord (s : State) (k : Nat) : Nat :=
  if s.jnlFill = 0 then 0
  else
    match s.jnl.ring.get none (s.rd R.MON_JNL_TAIL) with
    | none => 0
    | some (e, lost) =>
      match k with
      | 0 => e.tsw % 2 ^ 32
      | 1 => e.tsw / 2 ^ 32 % 2 ^ 32
      | 2 => e.page % 2 ^ 10 + e.bit % 32 * 2 ^ 10 + (if lost then 2 ^ 15 else 0) + e.arg / 2 ^ 32 % 2 ^ 16 * 2 ^ 16
      | _ => e.arg % 2 ^ 32

/-- The tail is set (R579). -/
def jnlTail (s : State) (v : Nat) : State :=
  { s.wr R.MON_JNL_TAIL v with jnl := { s.jnl with full := false } }

end State

/-- JOURNAL_ENTRY_WRITE (R231). -/
def execJournalEntryWrite (s : State) : Host.Outcome State Fault Refusal := nextIn 1 s s.begin.jnlWrite

/-- JNL_TAIL_WRITE (R579). -/
def execJnlTailWrite (path data : Nat) (s : State) : Host.Outcome State Fault Refusal :=
  guarded (decide (path < 8)) (s.begin.gateWrite path 0x058048 data (fun s => s.jnlTail (data % 2 ^ 14)))

/-- JNL_DATA_READ (R579): a read of word 3. -/
def execJnlDataRead (path : Nat) (s : State) : Host.Outcome State Fault Refusal :=
  guarded (decide (path < 8))
    (s.begin.gateRead path 0x05805C (fun s =>
      let t := s.answer path (s.jnlWord 3)
      if s.rd R.MON_JNL_CFG_AUTOADV = 1 ∧ 0 < s.jnlFill then t.jnlTail ((s.rd R.MON_JNL_TAIL + 1) % 16384) else t))

/-- JNL_SW_WRITE (R8): a write of MON_JNL_SW_HI appends an entry with the lower half that the path wrote last. -/
def execJnlSwWrite (path data : Nat) (s : State) : Host.Outcome State Fault Refusal :=
  guarded (decide (path < 8))
    (s.begin.gateWrite path 0x05806C data (fun s =>
      (s.journalAt s.tswNow 0x058 31 ((s.stagedLo path 0x058068).getD 0 + data % 2 ^ 16 * 2 ^ 32)).stageLo path 0x058068 none))

end Sys2Proof.Machine
end

