-- ==== Sys2Proof/Machine/Regul.lean ====
section
/-! DEFINITION. The board's regulators and the core voltage (chapter 16, R506 to R515): setpoints, PMBus requests and their acknowledgements. -/

namespace Sys2Proof.Machine

/-- PMBus command codes; the spec gives PAGE, the others are the PMBus standard's (PRESUMED, log 70). -/
def pmbPage : Nat := 0x00
def pmbOperation : Nat := 0x01
def pmbVoutMode : Nat := 0x20
def pmbVoutCommand : Nat := 0x21
def pmbStatusWord : Nat := 0x79

/-- A request for an output voltage. -/
def RegOp.isVolt : RegOp → Bool
  | .volt _ => true
  | _ => false

namespace State

def updPwr (s : State) (f : PwrState → PwrState) : State := { s with pwr := f s.pwr }

/-- The setpoint PWR_VID[k] in mV (R507). -/
def vid (s : State) (k : Nat) : Nat :=
  (clampInt 680 850 ((s.rd R.PWR_VIDF 0 k : Int) + signedOf 8 (s.rd R.PWR_VIDU 0 k))).toNat

/-- The index of a state's setpoint (R507). -/
def vidIndex (st : Nat) : Nat := if st ≤ 1 then 0 else if st = 2 then 1 else 2

/-- VOUT_MODE is linear (R508). -/
def voutLinear (s : State) : Bool := s.pwr.voutMode / 32 % 8 == 0

/-- The nearest whole quotient; of two equally near, a free one (log 15). -/
def nearest (s : State) (a k : Nat) : Nat :=
  if a % k * 2 = k then a / k + s.freeNat % 2 else if a % k * 2 < k then a / k else a / k + 1

/-- VOUT_COMMAND for a setpoint: V × 2^−N rounded (R508); a half is rounded by a free value. -/
def voutCommand (s : State) (mv : Nat) : Nat :=
  let n := s.pwr.voutMode % 32
  if n < 16 then s.nearest mv (1000 * 2 ^ n) else s.nearest (mv * 2 ^ (32 - n)) 1000

/-- PAGE goes before a command to the regulator of record `r`, unless PMB_PAGE is 0xFF (R506); `e` is the command, of its address, its PEC and its rate. -/
def pmbSend (s : State) (r : Nat) (e : Nat → Bool → Bool → Emit) : State :=
  let a := s.rd R.PWR_REG_CFG_ADDR 0 r
  let pg := s.rd R.PWR_REG_CFG_PMB_PAGE 0 r
  let pec := s.rd R.PWR_PMB_CFG_PEC == 1
  let fast := s.rd R.PWR_PMB_CFG_RATE == 1
  let s := if pg = 0xFF then s else s.emit (.pmbus a pmbPage pg pec fast)
  s.emit (e a pec fast)

/-- A command that writes to the regulator of record `r`. -/
def pmbWrite (s : State) (r cmd data : Nat) : State := s.pmbSend r (fun a pec fast => .pmbus a cmd data pec fast)

/-- A command that reads from the regulator of record `r`. -/
def pmbRead (s : State) (r cmd : Nat) : State := s.pmbSend r (fun a pec fast => .pmbusRead a cmd pec fast)

/-- Output voltages at the head of the queue that VOUT_MODE does not let the hub ask for are not sent, and FAULT shows (R508). -/
def voltsRefused (s : State) : State :=
  if s.voutLinear then s
  else
    let rest := s.pwr.reqs.dropWhile (fun x => x.2.isVolt)
    if rest.length = s.pwr.reqs.length then s
    else (s.wr R.PWR_REG_STAT_FAULT 1 0 0).updPwr (fun p => { p with reqs := rest })

/-- The first request goes out and awaits its acknowledgement. -/
def regSend (s : State) : State :=
  let s := s.voltsRefused
  match s.pwr.reqs with
  | [] => s
  | (r, op) :: _ =>
    let s := (s.wr R.PWR_REG_STAT_PENDING 1 0 r).updPwr (fun p => { p with idle := false })
    match op with
    | .volt mv => ((s.pmbWrite r pmbVoutCommand (s.voutCommand mv)).updPwr (fun p => { p with asked := mv })).tookFree
    | .off => (s.pmbWrite r pmbOperation 0x00).updPwr (fun p => { p with off := p.off.filter (· != r) ++ [r] })
    | .on => s.pmbWrite r pmbOperation 0x80

/-- Requests are made in order, of the records in use (R506, R509). -/
def regAsk (s : State) (l : List (Nat × RegOp)) : State :=
  let l := l.filter (fun x => s.rd R.PWR_REG_CFG_EN 0 x.1 == 1)
  let fresh := s.pwr.reqs.isEmpty
  let s := s.updPwr (fun p => { p with reqs := p.reqs ++ l, fails := if fresh then 0 else p.fails })
  if fresh then s.regSend else s

/-- The setpoint of the present state. -/
def vidNow (s : State) : Nat := s.vid (vidIndex (s.rd R.PWR_STAT_STATE))

/-- The setpoint last asked for, one that still waits its turn among them; 0 before the first. -/
def vidAsked (s : State) : Nat :=
  (s.pwr.reqs.reverse.findSome? (fun x => match x.2 with
    | .volt mv => some mv
    | _ => none)).getD s.pwr.asked

/-- A user trim that was written during a transition is asked for after it, where it changed the setpoint (R511, Table 16.10). -/
def vidRequest (s : State) : State :=
  let own := s.pwr.trimmed.contains (vidIndex (s.rd R.PWR_STAT_STATE))
  let s := s.updPwr (fun p => { p with trimmed := [] })
  if !own || s.vidAsked == s.vidNow then s else s.regAsk [(0, .volt s.vidNow)]

/-- A poll acknowledges the first request (R510). -/
def regClean (s : State) (r : Nat) (op : RegOp) (status : Nat) (pgood : Bool) : Bool :=
  match op with
  | .off => status.testBit 6
  | _ => status &&& s.rd R.PWR_STATUS_MASK == 0 && (r != 0 || pgood)

/-- The DRAM die has lost its contents, the image cache with them (Table 16.2). -/
def dramLost (s : State) : State :=
  { s with dram := [], eng := { s.eng with cache := [] }, pwr := { s.pwr with refresh := false } }

/-- The DRAM die goes into self-refresh (R491). -/
def selfRefresh (s : State) : State :=
  if s.pwr.refresh then s else (s.updPwr (fun p => { p with refresh := true })).tally 0x1C2

/-- The first request is acknowledged; the next goes out. After record 0's regulator has powered up, VOUT_MODE is read (R508). -/
def regAcked (s : State) (r : Nat) (op : RegOp) (mode : Nat) : State :=
  let s := (s.wr R.PWR_REG_STAT_PENDING 0 0 r).updPwr (fun p => { p with reqs := p.reqs.drop 1, fails := 0, idle := false })
  let s := match op with
    | .volt mv => s.wr R.PWR_VCORE mv
    | .off => if r = 3 then s.dramLost else s
    | .on =>
      let s := s.updPwr (fun p => { p with off := p.off.filter (· != r), voutMode := if r = 0 then mode % 256 else p.voutMode })
      if r = 0 then s.pmbRead 0 pmbVoutMode else s
  s.regSend

/-- No request is left. -/
def regsDone (s : State) : Bool := s.pwr.reqs.isEmpty

/-- A regulator fault: REG_FAULT, INT_N, and the record and its last STATUS_WORD journalled (R513, R514). -/
def regFault (s : State) (r : Nat) : State :=
  (s.wr R.PWR_STAT_REG_FAULT 1).alarm 0x030 4 (Config.journalArg 0x030 4 [r, s.rd R.PWR_REG_STAT_STATUS 0 r]).toNat

/-- STATUS_WORD of every enabled record is read, and each that is not clean is journalled (R515). -/
def regAlert (s : State) (l : List Nat) : State :=
  let s := s.irq 0x030 5
  ((List.range 4).filter (fun r => s.rd R.PWR_REG_CFG_EN 0 r == 1)).foldl (fun s r =>
    let w := l.getD r 0 % 65536
    let s := (s.pmbRead r pmbStatusWord).wr R.PWR_REG_STAT_STATUS w 0 r
    if w &&& s.rd R.PWR_STATUS_MASK = 0 then s
    else s.journalAt s.tswNow 0x030 5 (Config.journalArg 0x030 5 [r, w]).toNat) s

/-- An alert that waited for an acknowledgement is served (Table 16.10). -/
def alertServed (s : State) : State :=
  match s.pwr.alert with
  | some l => if s.regsDone then (s.updPwr (fun p => { p with alert := none })).regAlert l else s
  | none => s

end State

end Sys2Proof.Machine
end

