-- ==== Sys2Proof/Machine/Mgmt.lean ====
section
/-! DEFINITION. Management (chapter 12): the lockstep pairs with their halts, watchdogs and restarts, the mailbox, pair B's customer image, the boot flow, the boot flash and the event counters. -/

namespace Sys2Proof.Machine

/-- Page 0x010 and the page of pair `p`. -/
def mgtPage : Nat := 0x010
def pairPage (p : Nat) : Nat := 0x011 + p

/-- MGT_HALT_REC.CAUSE. -/
def haltLockstep : Nat := 1
def haltWatchdog : Nat := 2
def haltEcc : Nat := 3
def haltBoot : Nat := 4
def haltCommand : Nat := 5
def haltHeartbeat : Nat := 6

/-- MGT_CMD and MGT_FLASH_CMD. -/
def mgtCmdAddr : Nat := 0x010044
def flashCmdAddr : Nat := 0x010058

/-- Stages of MGT_BOOT_STAT. -/
def stageDirectory : Nat := 1
def stageResLoad : Nat := 2
def stageResRun : Nat := 3
def stageDram : Nat := 4
def stageEngines : Nat := 5
def stagePairB : Nat := 6
def stageDone : Nat := 7
def stageFailed : Nat := 15

namespace State

def updMgt (s : State) (f : MgtState → MgtState) : State := { s with mgt := f s.mgt }
def mpair (s : State) (p : Nat) : MgtPair := s.mgt.pair.get {} p
def setMpair (s : State) (p : Nat) (x : MgtPair) : State := s.updMgt (fun m => { m with pair := m.pair.set {} p x })

/-! ### Halts -/

/-- A pair halts (R393, R395): cause and program counters are recorded, counted and journalled, and the Ringmaster is told; nothing that the pair has not yet sent goes out (`State.senderHalted`). -/
def pairHalt (s : State) (p cause pc0 pc1 : Nat) : State :=
  let s := ((s.wr R.MGT_HALT_REC_CAUSE cause p).wr R.MGT_HALT_PC0 pc0 p).wr R.MGT_HALT_PC1 pc1 p
  let s := (s.bump R.MGT_HALT_CNT p).event (pairPage p) 0 (Config.journalArg (pairPage p) 0 [cause, pc0, pc1]).toNat
  (s.setMpair p { s.mpair p with halted := true }).pairLost p

/-- A running pair halts by a command, at program counters that the spec does not give; a pair that does not run has nothing to halt. -/
def pairHaltCmd (s : State) (p : Nat) : State :=
  if s.pairRuns p then
    ({ s with free := s.free + 2 } : State).pairHalt p haltCommand (s.freeNat % 2 ^ 32) ((Config.freeValue (s.free + 1)).toNat % 2 ^ 32)
  else s

/-- The errors of a pair's memory are counted before it halts: `corr` that were corrected, and the one that was not. -/
def pairFault (s : State) (p cause pc0 pc1 corr : Nat) : State :=
  let s := (s.bumpBy R.MGT_ECC_CNT_CORR corr p).tally 0x1D0 corr
  let s := if cause = haltEcc then (s.bump R.MGT_ECC_CNT_UNCORR p).tally 0x1D1 else s
  s.pairHalt p cause pc0 pc1

/-- A kick of pair `p`'s watchdog by its own cores (R394); one that comes too early halts the pair. -/
def wdtKick (s : State) (p pc0 pc1 : Nat) : State :=
  if !s.pairRuns p then s
  else if (s.mpair p).kickAt.any (fun t => decide (s.hw < t + s.rd R.MGT_WDT_CFG_WIN_MIN p * 1000)) then
    s.pairHalt p haltWatchdog pc0 pc1
  else s.setMpair p { s.mpair p with kickAt := some s.hw }

/-! ### Restarts -/

/-- The automatic restarts of a pair in the last hour. -/
def recentPairRestarts (s : State) (p : Nat) : List Nat :=
  (s.mpair p).restarts.filter (fun t => decide (s.hw < t + 3600000000000))

/-- The customer image where pair B keeps it. -/
def customerBase : Nat := 0x40000

/-- A pair's memory with its images loaded: the resident image at 0, pair B's customer image at 0x4_0000 (R396, R397). -/
def pairMemory (s : State) (p : Nat) (i : Image) : Tab Byte :=
  let m := Tab.setRun 0 0 i.body []
  match p, s.mgt.customer with
  | 1, some c => m.setRun 0 customerBase c.body
  | _, _ => m

/-- The customer image that pair B runs: the ACTIVE one of the flash, when it verifies (R398). -/
def customerLoads (s : State) : State :=
  let c := match s.dirEntries.find? (fun e => e.1 == kindCustomer && e.2.2.1) with
    | none => none
    | some e => match s.verifyImage kindCustomer e.2.1 with
      | .ok i => some i
      | .error _ => none
  let s := s.updMgt (fun m => { m with customer := c, customerOff := false, handler := 0, forward := [] })
  (s.wr R.MGT_B_VER ((c.map (·.ver)).getD 0)).wr R.MGT_STAT_B_FAULT 0

/-- A pair starts from a resident image and stands by. -/
def pairStarts (s : State) (p : Nat) (i : Image) : State :=
  let s := if p = 1 then s.customerLoads else s
  (s.setMpair p { s.mpair p with mem := s.pairMemory p i, img := some i, kickAt := none, halted := false }).showPair p pairStandby

/-- The slot of a kind that the directory marks ACTIVE; slot 0 when it marks none. -/
def activeSlot (s : State) (kind : Nat) : Nat :=
  ((s.dirEntries.find? (fun e => e.1 == kind && e.2.2.1)).map (·.2.1)).getD 0

/-- The resident image of the image cache, from the ACTIVE slot before the other. -/
def cachedResident (s : State) : Option Image :=
  let a := s.activeSlot kindResident
  ((s.cached kindResident a).orElse (fun _ => s.cached kindResident (1 - a))).filter s.bodyMatches

/-- The resident image that a pair loads: that of the image cache (R395), and while the cache holds none its own, or the one that pair A booted (log 71). -/
def residentOf (s : State) (p : Nat) : Option Image :=
  s.cachedResident.or ((s.mpair p).img.or (s.mpair 0).img)

/-- A pair is reset, and returns as STANDBY where its domain has power (R395, R492). -/
def pairReturns (s : State) (p : Nat) : State :=
  match s.residentOf p with
  | none => s
  | some i =>
    if s.domainRuns (2 + p) then ((if s.cachedResident = some i then s.cacheReads i else s).pairStarts p i).irq (pairPage p) 1 else s

/-- A halted pair; a frozen Ringmaster may still show it as live (R157). -/
def pairIsHalted (s : State) (p : Nat) : Bool := s.pairState p == pairHalted || (s.mpair p).halted

/-- The automatic restart of a halted pair (R395). -/
def pairRestart (s : State) (p : Nat) : State :=
  if s.pairIsHalted p = false ∨ s.rd R.MGT_CFG_AUTO_RESTART = 0 ∨
      s.rd R.MGT_CFG_RESTART_MAX ≤ (s.recentPairRestarts p).length ∨ (s.residentOf p).isNone then s
  else (s.setMpair p { s.mpair p with restarts := s.recentPairRestarts p ++ [s.hw] }).pairReturns p

def mgtResult (s : State) (r : Nat) : State := s.wr R.MGT_STAT_LAST_RESULT r

def stage (s : State) : Nat := s.rd R.MGT_BOOT_STAT_STAGE
def toStage (s : State) (n : Nat) : State := s.wr R.MGT_BOOT_STAT_STAGE n

/-- The boot flow holds pair `p`: pair A until it has started, and pair B, which is OFF throughout, until it is done (R399). -/
def bootHolds (s : State) (p : Nat) : Bool := decide (s.stage < if p = 0 then 4 else 7)

/-- MGT_CMD RESTART_A and RESTART_B: refused for the live pair. A pair that runs is halted first; one that the boot flow holds stays as it is. -/
def restartCmd (s : State) (p : Nat) : State :=
  if s.pairState p = pairIsLive then s.mgtResult 1
  else if s.bootHolds p then s.mgtResult 0
  else ((s.pairHaltCmd p).pairReturns p).mgtResult 0

/-- The accesses of a path whose sender has lost its power or its reset are gone with it; one of the host stays in the host. -/
def senderGone (s : State) (path : Nat) : State :=
  { s with pwr := { s.pwr with waiting := s.pwr.waiting.filter (fun w => w.path != path) } }

/-- A pair is OFF, its memory empty; pair B's customer image runs no more (R426), and nothing of it waits (R520). What a frozen Ringmaster shows stands (R157), and the pair then counts as halted. -/
def pairOffNow (s : State) (p : Nat) : State :=
  let s := s.showPair p pairOff
  let s := s.setMpair p { s.mpair p with mem := [], kickAt := none, halted := s.pairState p != pairOff }
  let s := if (s.pairRuns 0 || s.pairRuns 1) then s else s.senderGone pathResident
  if p = 1 then (s.updMgt (fun m => { m with customerOff := true, handler := 0, forward := [] })).senderGone pathPairB else s

/-- MGT_CMD STOP_B. -/
def stopB (s : State) : State :=
  if s.pairState 1 = pairIsLive then s.mgtResult 1
  else ((s.pairHaltCmd 1).pairOffNow 1).mgtResult 0

/-! ### The mailbox and the customer image -/

/-- The RX descriptor of a mailbox entry; the version and the payload offset of one for management are not stated, and are free. -/
def mgtWords (s : State) (x : RxEnt) : List Nat :=
  rxWords { x with ofs := (Config.freeValue (s.free + 1)).toNat % 2 ^ 32 } (s.freeNat % 2 ^ 32)

/-- The live pair's resident image takes every mailbox entry but those kept for the customer image (R396, Table 12.6). -/
def mboxDrain (s : State) : State :=
  match s.livePair with
  | none => s
  | some p =>
    if !s.pairRuns p then s
    else
      let l := s.mgt.mbox.filter (fun x => !x.localId.testBit 15)
      l.foldl (fun s x => ({ s with free := s.free + 2 } : State).emit (.mgtDesc p (s.mgtWords x) x.payload))
        (s.updMgt (fun m => { m with mbox := m.mbox.filter (fun x => x.localId.testBit 15) }))

/-- A router delivery to management: none while the mailbox is full. -/
def mgtMessage (s : State) (u : UnitMsg) (localId : Nat) : Option State :=
  let s := s.mboxDrain
  if 64 ≤ s.mgt.mbox.length then none
  else some (s.updMgt (fun m => { m with mbox := m.mbox ++ [⟨true, u.kind, localId, u.tid, u.seq, u.tsw, 0, u.payload⟩] })).mboxDrain

/-- An access outside pair B's memory and CSR window halts the customer image (R397), which pair B still holds (R426). -/
def customerFault (s : State) : State :=
  ((s.updMgt (fun m => { m with customerOff := true })).wr R.MGT_STAT_B_FAULT 1).irq mgtPage 2

/-- Bytes `a` to `a + n - 1` lie in the memory of the customer image. -/
def customerHolds (a n : Nat) : Bool := decide (customerBase ≤ a) && decide (a + n ≤ 0x100000)

/-- MBOX_READ: the oldest entry whose LOCAL_ID has bit 15 set goes to pair B's memory as an RX descriptor. -/
def mboxRead (s : State) (a : Nat) : State :=
  match s.mgt.mbox.find? (fun x => x.localId.testBit 15) with
  | none => s.emit (.ecall 0)
  | some x =>
    if !customerHolds a 32 then s.customerFault
    else
      let w := s.mgtWords x
      let s := { s with free := s.free + 2 }
      let s := s.updMgt (fun m => { m with mbox := m.mbox.erase x })
      (s.setMpair 1 { s.mpair 1 with mem := (s.mpair 1).mem.setRun 0 a (w.flatMap (toLe 4)) }).emit (.ecall 1)

/-! ### Boot -/

/-- The boot fails (R400): pair A halts, STAGE shows FAILED with the cause, and INT_N is asserted. -/
def bootFails (s : State) (cause : Nat) : State :=
  let s := (s.toStage stageFailed).wr R.MGT_BOOT_STAT_CAUSE cause
  let pc0 := s.freeNat % 2 ^ 32
  let pc1 := (Config.freeValue (s.free + 1)).toNat % 2 ^ 32
  let s := { s with free := s.free + 2 }
  (s.pairHalt 0 haltBoot pc0 pc1).alarm mgtPage 1 (Config.journalArg mgtPage 1 [cause]).toNat

/-- The boot ROM holds a verified resident image, which pair A starts from at the next step. -/
def residentLoaded (s : State) (i : Image) (slot : Nat) : State :=
  (((s.updMgt (fun m => { m with booted := some i })).wr R.MGT_RES_VER i.ver).wr R.MGT_BOOT_STAT_RESSLOT slot).toStage stageResRun

/-- Boot step 1: the directory is read, and its FLASH_MHZ is used. -/
def bootDirectory (s : State) : State :=
  match s.dirBase with
  | none => s.bootFails 7
  | some b =>
    ((s.wr R.MGT_BOOT_STAT_DIRCOPY (b / 0x1000)).wr R.MGT_FLASH_CFG_MHZ (leAt (s.flashRead b 9) 8 1)).toStage stageResLoad

/-- Boot step 2: the ACTIVE resident slot, then the other, with FALLBACK set. -/
def bootResident (s : State) : State :=
  let a := s.activeSlot kindResident
  match s.verifyImage kindResident a with
  | .ok i => s.residentLoaded i a
  | .error _ =>
    let s := s.wr R.MGT_BOOT_STAT_FALLBACK 1
    match s.verifyImage kindResident (1 - a) with
    | .ok i => s.residentLoaded i (1 - a)
    | .error c => s.bootFails c

/-- Boot step 3: the resident image starts; its first heartbeat as STANDBY makes pair A live, and it requests PWR_VID[0] before it trains DRAM (R562). -/
def bootStartA (s : State) : State :=
  match s.mgt.booted with
  | none => s
  | some i => ((((s.updMgt (fun m => { m with booted := none })).pairStarts 0 i).pairBeats true false).toStage stageDram).regAsk [(0, .volt (s.vid 0))]

/-- A spare of the boot flow: E7 or E15 stages an engine image of the cache; which one the resident image configures is not stated, and is free (log 158). -/
def bootSpare (s : State) (e : Nat) : State :=
  let is := s.eng.cache.filter (fun i => decide (0x10 ≤ i.kind) && decide (i.kind < kindHotSpare))
  let t := s.wr R.ENG_CFG_ROLE 1 e
  (match is[s.freeNat % is.length]? with
    | none => t
    | some i => ((t.tookFree.wr R.ENG_CFG_KIND i.kind e).wr R.ENG_CFG_SLOT i.slot e)).engStart e true

/-- Boot steps 5 and 6: the ACTIVE engine images are cached, and E7 and E15 stand by as spares. -/
def bootEngines (s : State) : State :=
  let es := s.dirEntries.filter (fun e => e.2.2.1 && decide (0x10 ≤ e.1) && decide (e.1 ≤ kindHotSpare))
  let s := es.foldl (fun (s : State) (e : Nat × Nat × Bool × Nat × Nat) => s.cacheEnter e.1 e.2.1) s
  ((s.bootSpare 7).bootSpare 15).toStage stagePairB

/-- Boot step 7: pair B starts when MGT_CFG.B_EN is 1. -/
def bootPairB (s : State) : State :=
  let s := match s.rd R.MGT_CFG_B_EN, (s.mpair 0).img with
    | 1, some i => (s.pairStarts 1 i).pairBeats false true
    | _, _ => s
  (s.toStage stageDone).irq mgtPage 0

/-- A step of the boot flow completes and STAGE shows the next (R399). -/
def bootStep (s : State) : State :=
  match s.stage with
  | 0 => (s.setPairState 0 pairBooting).toStage stageDirectory
  | 1 => s.bootDirectory
  | 2 => s.bootResident
  | 3 => s.bootStartA
  | 4 => s.toStage stageEngines
  | 5 => s.bootEngines
  | 6 => s.bootPairB
  | _ => s

/-! ### The boot flash -/

/-- The flash address in use: 24 bits unless ADDR4 is 1. -/
def flashAddr (s : State) : Nat :=
  if s.rd R.MGT_FLASH_CFG_ADDR4 = 1 then s.rd R.MGT_FLASH_ADDR else s.rd R.MGT_FLASH_ADDR % 2 ^ 24

/-- The 256 bytes of the flash buffer. -/
def flashBuf (s : State) : List Byte := (List.range 64).flatMap (fun i => toLe 4 (s.rd R.MGT_FLASH_BUF 0 i))

/-- Alignment that an operation needs: 256 for PROGRAM (2), the sector for ERASE_4K (3) and ERASE_64K (4). -/
def flashAlign (op : Nat) : Nat :=
  match op with
  | 2 => 0x100
  | 3 => 0x1000
  | 4 => 0x10000
  | _ => 1

/-- MGT_FLASH_CMD: the operation begins. -/
def flashCmd (s : State) (op : Nat) : State :=
  if s.rd R.MGT_FLASH_STAT_BUSY = 1 then s.wr R.MGT_FLASH_STAT_LAST_RESULT 0xC
  else if s.flashAddr % flashAlign op ≠ 0 then s.wr R.MGT_FLASH_STAT_LAST_RESULT 1
  else (s.updMgt (fun m => { m with flashOp := some (op, s.flashAddr, s.flashBuf) })).wr R.MGT_FLASH_STAT_BUSY 1

/-- 256 bytes go into the flash buffer. -/
def setFlashBuf (s : State) (bs : List Byte) : State :=
  (List.range 64).foldl (fun s i => s.wr R.MGT_FLASH_BUF (leAt bs (4 * i) 4) 0 i) s

def updFlash (s : State) (f : Tab Byte → Tab Byte) : State := s.updMgt (fun m => { m with flash := f m.flash })

/-- `n` bytes of flash from `a` on read 0xFF. -/
def flashErase (s : State) (a n : Nat) : State := s.updFlash (fun t => t.eraseIf (fun k => decide (a ≤ k) && decide (k < a + n)))

/-- What a flash operation does. -/
def flashAct (s : State) (op a : Nat) (buf : List Byte) : State :=
  match op with
  | 1 => s.setFlashBuf (s.flashRead a 256)
  | 2 => s.updFlash (fun t => t.setRun 0xFF a buf)
  | 3 => s.flashErase a 0x1000
  | _ => s.flashErase a 0x10000

/-- A flash operation completes. -/
def flashDone (s : State) : State :=
  match s.mgt.flashOp with
  | none => s
  | some (op, a, buf) =>
    (((s.flashAct op a buf).updMgt (fun m => { m with flashOp := none })).wr R.MGT_FLASH_STAT_BUSY 0).wr
      R.MGT_FLASH_STAT_LAST_RESULT 0

/-! ### Event counters -/

/-- A write of MGT_EVC_SEL[c] selects an event and clears the counter (R402). -/
def evcSelect (s : State) (path c data : Nat) : State :=
  let a := 0x014100 + 0x10 * c
  s.gateWrite path a data (fun s => (s.store path a data [R.MGT_EVC_SEL_EVENT, R.MGT_EVC_SEL_EN] 0 c).wr R.MGT_EVC 0 0 c)

/-- MGT_EVC_CLR: one counter, or all. -/
def evcClear (s : State) (data : Nat) : State :=
  if data.testBit 31 then (List.range 64).foldl (fun s c => s.wr R.MGT_EVC 0 0 c) s else s.wr R.MGT_EVC 0 0 (data % 64)

/-- A counter at 2^48 - 1 that still counts wraps (R402). -/
def evcWrap (s : State) (c : Nat) : State :=
  if s.rd R.MGT_EVC 0 c = 2 ^ 48 - 1 ∧ s.rd R.MGT_EVC_SEL_EN 0 c = 1 ∧ s.rd R.MGT_EVC_CTL_FREEZE = 0 then s.tallyAt c 1 else s

end State

/-- PAIR_HEARTBEAT_MISS (R163): how many heartbeats in a row the pair has missed, and its program counters. -/
def execPairHeartbeatMiss (p missed pc0 pc1 : Nat) (s : State) : Host.Outcome State Fault Refusal :=
  guardedIn 0 s (decide (p < 2) && decide (pc0 < 2 ^ 32) && decide (pc1 < 2 ^ 32))
    (if s.pairRuns p ∧ s.frozen = false ∧ s.rd R.RGM_CFG_PAIR_HB_MISS ≤ missed then s.begin.pairHalt p haltHeartbeat pc0 pc1
     else s.begin)

/-- PAIR_HALT (R393): LOCKSTEP, WATCHDOG or ECC, with the cores' program counters and the corrected errors that their memory has met. -/
def execPairHalt (p cause corr : Nat) (pcs : Nat × Nat) (s : State) : Host.Outcome State Fault Refusal :=
  guardedIn (2 + p) s (decide (p < 2) && decide (1 ≤ cause) && decide (cause ≤ 3) && decide (pcs.1 < 2 ^ 32) && decide (pcs.2 < 2 ^ 32))
    (if s.pairRuns p then s.begin.pairFault p cause pcs.1 pcs.2 corr else s.begin)

/-- WDT_KICK (R394): a write of MGT_WDT_KICK[p]; `src` is the pair whose cores write on the RESIDENT path. -/
def execWdtKick (path p src data pc0 pc1 : Nat) (s : State) : Host.Outcome State Fault Refusal :=
  guarded (decide (path < 8) && decide (p < 2) && decide (pc0 < 2 ^ 32) && decide (pc1 < 2 ^ 32))
    (s.begin.gateWrite path (0x011044 + 0x1000 * p) data (fun s =>
      if path = pathResident ∧ src = p ∧ data = 0xC0DE then s.wdtKick p pc0 pc1 else s))

/-- PAIR_WATCHDOG_EXPIRY (R394); a kick in the same cycle wins (Table 12.8). -/
def execPairWatchdogExpiry (p pc0 pc1 : Nat) (s : State) : Host.Outcome State Fault Refusal :=
  guardedIn (2 + p) s (decide (p < 2) && decide (pc0 < 2 ^ 32) && decide (pc1 < 2 ^ 32))
    (if s.pairRuns p ∧ (s.mpair p).kickAt ≠ some s.hw then s.begin.pairHalt p haltWatchdog pc0 pc1 else s.begin)

/-- PAIR_RESTART (R395). -/
def execPairRestart (p : Nat) (s : State) : Host.Outcome State Fault Refusal :=
  guardedIn 1 s (decide (p < 2)) (s.begin.pairRestart p)

/-- RESTART_A: MGT_CMD OP 1. -/
def execRestartA (path : Nat) (s : State) : Host.Outcome State Fault Refusal :=
  guarded (decide (path < 8)) (s.begin.gateWrite path mgtCmdAddr 1 (fun s => s.restartCmd 0))

/-- RESTART_B: MGT_CMD OP 2. -/
def execRestartB (path : Nat) (s : State) : Host.Outcome State Fault Refusal :=
  guarded (decide (path < 8)) (s.begin.gateWrite path mgtCmdAddr 2 (fun s => s.restartCmd 1))

/-- STOP_B: MGT_CMD OP 3. -/
def execStopB (path : Nat) (s : State) : Host.Outcome State Fault Refusal :=
  guarded (decide (path < 8)) (s.begin.gateWrite path mgtCmdAddr 3 State.stopB)

/-- ECALL_YIELD (Table 12.6): the resident image runs; nothing else changes. -/
def execEcallYield (s : State) : Host.Outcome State Fault Refusal := nextIn 3 s s.begin

/-- ECALL_SET_HANDLER (Table 12.6). -/
def execEcallSetHandler (a1 : Nat) (s : State) : Host.Outcome State Fault Refusal :=
  guardedIn 3 s (decide (a1 < 2 ^ 32)) (if s.customerRuns then s.begin.updMgt (fun m => { m with handler := a1 }) else s.begin)

/-- ECALL_IRQ_FORWARD (Table 12.6). -/
def execEcallIrqForward (a1 a2 : Nat) (s : State) : Host.Outcome State Fault Refusal :=
  guardedIn 3 s (decide (a1 < 1024) && decide (a2 < 2 ^ 32))
    (if s.customerRuns then s.begin.updMgt (fun m => { m with forward := m.forward.set 0 a1 a2 }) else s.begin)

/-- ECALL_MBOX_READ (Table 12.6). -/
def execEcallMboxRead (a1 : Nat) (s : State) : Host.Outcome State Fault Refusal :=
  guardedIn 3 s (decide (a1 < 2 ^ 32)) (if s.customerRuns then s.begin.mboxRead a1 else s.begin)

/-- PAIRB_FAULT (R397). -/
def execPairbFault (s : State) : Host.Outcome State Fault Refusal :=
  nextIn 3 s (if s.customerRuns then s.begin.customerFault else s.begin)

/-- BOOT_STEP_DONE (R399). -/
def execBootStepDone (s : State) : Host.Outcome State Fault Refusal :=
  nextIn 1 s s.begin.bootStep

/-- FLASH_READ (R400): MGT_FLASH_CMD OP 1. -/
def execFlashRead (path : Nat) (s : State) : Host.Outcome State Fault Refusal :=
  guarded (decide (path < 8)) (s.begin.gateWrite path flashCmdAddr 1 (fun s => s.flashCmd 1))

/-- FLASH_PROGRAM (R400): MGT_FLASH_CMD OP 2. -/
def execFlashProgram (path : Nat) (s : State) : Host.Outcome State Fault Refusal :=
  guarded (decide (path < 8)) (s.begin.gateWrite path flashCmdAddr 2 (fun s => s.flashCmd 2))

/-- FLASH_ERASE_4K (R400): MGT_FLASH_CMD OP 3. -/
def execFlashErase4k (path : Nat) (s : State) : Host.Outcome State Fault Refusal :=
  guarded (decide (path < 8)) (s.begin.gateWrite path flashCmdAddr 3 (fun s => s.flashCmd 3))

/-- FLASH_ERASE_64K (R400): MGT_FLASH_CMD OP 4. -/
def execFlashErase64k (path : Nat) (s : State) : Host.Outcome State Fault Refusal :=
  guarded (decide (path < 8)) (s.begin.gateWrite path flashCmdAddr 4 (fun s => s.flashCmd 4))

/-- FLASH_OP_DONE (R400). -/
def execFlashOpDone (s : State) : Host.Outcome State Fault Refusal := nextIn 1 s s.begin.flashDone

/-- EVC_SEL_WRITE (R402). -/
def execEvcSelWrite (path c data : Nat) (s : State) : Host.Outcome State Fault Refusal :=
  guarded (decide (path < 8) && decide (c < 64)) (s.begin.evcSelect path c data)

/-- EVC_CLEAR (R402). -/
def execEvcClear (path data : Nat) (s : State) : Host.Outcome State Fault Refusal :=
  guarded (decide (path < 8)) (s.begin.gateWrite path 0x014044 data (fun s => s.evcClear data))

/-- EVC_FREEZE (R402). -/
def execEvcFreeze (path data : Nat) (s : State) : Host.Outcome State Fault Refusal :=
  guarded (decide (path < 8))
    (s.begin.gateWrite path 0x014040 data (fun s => s.store path 0x014040 data [R.MGT_EVC_CTL_FREEZE]))

/-- EVC_WRAP (R402): the next event of a full counter. -/
def execEvcWrap (c : Nat) (s : State) : Host.Outcome State Fault Refusal :=
  guardedIn 1 s (decide (c < 64)) (s.begin.evcWrap c)

end Sys2Proof.Machine
end

