-- ==== Sys2Proof/Machine/Pages.lean ====
section
/-! DEFINITION. The page index (Table 18.1): which registers each page holds, the common header (Table 18.3), and the fields that a reset, a retention or a page soft reset keeps. -/

namespace Sys2Proof.Machine

/-- A block of like pages: the first page, the pages between instances and their number, and the registers beyond the header. -/
structure PageBlock where
  first : Nat
  step : Nat
  count : Nat
  regs : List Reg
deriving DecidableEq, Repr

/-- Pages of Table 18.1, part 1. -/
def pageBlocks1 : List PageBlock := [
  ⟨0x000, 0, 1, R.page000⟩,
  ⟨0x001, 0, 1, R.page001⟩,
  ⟨0x010, 0, 1, R.page010⟩,
  ⟨0x011, 1, 2, R.page011⟩,
  ⟨0x014, 0, 1, R.page014⟩,
  ⟨0x01C, 0, 1, R.page01C⟩,
  ⟨0x020, 0, 1, R.page020⟩,
  ⟨0x021, 0, 1, R.page021⟩,
  ⟨0x022, 0, 1, R.page022⟩,
  ⟨0x023, 0, 1, R.page023⟩,
  ⟨0x024, 0, 1, R.page024⟩,
  ⟨0x030, 0, 1, R.page030⟩,
  ⟨0x031, 0, 1, R.page031⟩,
  ⟨0x032, 0, 1, R.page032⟩,
  ⟨0x040, 0, 1, R.page040⟩,
  ⟨0x041, 0, 1, R.page041⟩]

/-- Pages of Table 18.1, part 2. -/
def pageBlocks2 : List PageBlock := [
  ⟨0x042, 0, 1, R.page042⟩,
  ⟨0x043, 0, 1, R.page043⟩,
  ⟨0x050, 0, 1, R.page050⟩,
  ⟨0x051, 0, 1, R.page051⟩,
  ⟨0x058, 0, 1, R.page058⟩,
  ⟨0x060, 0, 1, R.page060⟩,
  ⟨0x061, 1, 18, R.page061⟩,
  ⟨0x073, 0, 1, R.page073⟩,
  ⟨0x074, 1, 4, R.page074⟩,
  ⟨0x080, 8, 16, R.page080⟩,
  ⟨0x081, 8, 16, R.page081⟩,
  ⟨0x082, 8, 16, R.page082⟩,
  ⟨0x083, 8, 16, R.page083⟩,
  ⟨0x100, 128, 2, R.page100⟩,
  ⟨0x101, 128, 2, R.page101⟩,
  ⟨0x102, 128, 2, R.page102⟩]

/-- Pages of Table 18.1, part 3. -/
def pageBlocks3 : List PageBlock := [
  ⟨0x103, 128, 2, R.page103⟩,
  ⟨0x104, 0, 1, R.page104⟩,
  ⟨0x200, 0, 1, R.page200⟩,
  ⟨0x201, 0, 1, R.page201⟩,
  ⟨0x202, 0, 1, R.page202⟩,
  ⟨0x203, 0, 1, R.page203⟩,
  ⟨0x204, 0, 1, R.page204⟩,
  ⟨0x280, 0, 1, R.page280⟩,
  ⟨0x300, 0, 1, R.page300⟩,
  ⟨0x301, 1, 2, R.page301⟩,
  ⟨0x304, 1, 4, R.page304⟩,
  ⟨0x310, 0, 1, R.page310⟩,
  ⟨0x311, 1, 2, R.page311⟩,
  ⟨0x313, 0, 1, R.page313⟩,
  ⟨0x314, 0, 1, R.page314⟩,
  ⟨0x320, 0, 1, R.page320⟩]

/-- Pages of Table 18.1, part 4. -/
def pageBlocks4 : List PageBlock := [
  ⟨0x321, 0, 1, R.page321⟩,
  ⟨0x322, 0, 1, R.page322⟩,
  ⟨0x323, 0, 1, R.page323⟩,
  ⟨0x328, 0, 1, R.page328⟩,
  ⟨0x340, 0, 1, R.page340⟩,
  ⟨0x341, 1, 4, R.page341⟩,
  ⟨0x345, 0, 1, R.page345⟩,
  ⟨0x346, 0, 1, R.page346⟩,
  ⟨0x350, 0, 1, R.page350⟩,
  ⟨0x351, 0, 1, R.page351⟩,
  ⟨0x352, 0, 1, R.page352⟩,
  ⟨0x353, 0, 1, R.page353⟩,
  ⟨0x360, 0, 1, R.page360⟩,
  ⟨0x361, 1, 2, R.page361⟩,
  ⟨0x370, 1, 16, R.page370⟩]

/-- Every page of Table 18.1 with the registers of its chapter's table. -/
def pageBlocks : List PageBlock := pageBlocks1 ++ pageBlocks2 ++ pageBlocks3 ++ pageBlocks4

/-- The instance that a page is of a block. -/
def PageBlock.inst (b : PageBlock) (p : Nat) : Option Nat :=
  if b.step = 0 then (if p = b.first then some 0 else none)
  else if b.first ≤ p ∧ (p - b.first) % b.step = 0 ∧ (p - b.first) / b.step < b.count then some ((p - b.first) / b.step)
  else none

/-- The registers of a page beyond its header, and which instance of them it holds. -/
def pageRegs (p : Nat) : Nat × List Reg :=
  (pageBlocks.findSome? (fun b => (b.inst p).map (fun i => (i, b.regs)))).getD (0, [])

/-- The header registers that hold something (Table 18.3); their instance is the page. -/
def headerRegs : List Reg := [
  ⟨0x08, 0, 1, none, false, [R.PAGE_CTL_EN, R.PAGE_CTL_SRST, R.PAGE_CTL_LOCK]⟩,
  ⟨0x10, 0, 1, none, false, (List.range 32).map irqField⟩,
  ⟨0x14, 0, 1, none, false, [R.PAGE_IRQ_EN]⟩,
  ⟨0x20, 0, 1, none, false, [R.ERR_CAPT0_OFFSET, R.ERR_CAPT0_PATH, R.ERR_CAPT0_WRITE, R.ERR_CAPT0_CAUSE, R.ERR_CAPT0_VALID]⟩,
  ⟨0x24, 0, 1, none, false, [R.ERR_CAPT1]⟩,
  ⟨0x28, 0, 1, none, false, [R.ERR_CAPT2_BE, R.ERR_CAPT2_PAGE, R.ERR_CAPT2_COUNT]⟩,
  ⟨0x2C, 0, 1, none, false, [R.ERR_CAPT3_NS]⟩,
  ⟨0x30, 0, 1, none, false, [R.PAGE_AUTH_RD, R.PAGE_AUTH_WR, R.PAGE_AUTH_LOCKED]⟩,
  ⟨0x34, 0, 1, none, false, [R.PAGE_SCRATCH]⟩]

/-- The register at a byte address: its first index, the register, and its number among its like. -/
structure Place where
  i : Nat
  reg : Reg
  j : Nat
deriving DecidableEq, Repr

/-- The number of the like registers of `r` at offset `off`. -/
def Reg.nth (r : Reg) (off : Nat) : Option Nat :=
  if r.sj = 0 then (if off = r.off then some 0 else none)
  else if r.off ≤ off ∧ (off - r.off) % r.sj = 0 ∧ (off - r.off) / r.sj < r.cj then some ((off - r.off) / r.sj)
  else none

/-- The _HI half of a pair is the next word. -/
def Reg.nthHi (r : Reg) (off : Nat) : Option Nat := if r.pair ∧ 4 ≤ off then r.nth (off - 4) else none

/-- Where a byte address lies; none at an offset that holds nothing (R6), and at the _HI half of a pair. -/
def placeAt (addr : Nat) : Option Place :=
  let p := addr / 4096
  let off := addr % 4096
  if !pageListed p then none
  else if off < 0x40 then (headerRegs.find? (fun r => r.off == off)).map (fun r => ⟨p, r, 0⟩)
  else
    let (i, regs) := pageRegs p
    regs.findSome? (fun r => (r.nth off).map (fun j => ⟨i, r, j⟩))

/-- The pair whose _HI half lies at a byte address. -/
def pairAt (addr : Nat) : Option Place :=
  let (i, regs) := pageRegs (addr / 4096)
  if !pageListed (addr / 4096) then none
  else regs.findSome? (fun r => (r.nthHi (addr % 4096)).map (fun j => ⟨i, r, j⟩))

/-- The byte address, and the page, of a key of the register store. -/
def keyAddr (k : Nat) : Nat := k / 32 % 2 ^ 22
def keyPage (k : Nat) : Nat := keyAddr k / 4096

/-- The field that a key of the register store belongs to. -/
def fieldOf (k : Nat) : Option Field :=
  (placeAt (keyAddr k)).bind (fun x => x.reg.fields.find? (fun f => f.lsb == k % 32))

/-- A key holds a field with an access type for which `p` holds. -/
def keyAcc (p : Access → Bool) (k : Nat) : Bool :=
  match fieldOf k with
  | some f => p f.acc
  | none => false

/-- A counter of a page. -/
def keyCounter (k : Nat) : Bool := keyAcc (fun a => a == Access.ctr) k

/-- What a domain that is switched off keeps in retention: RW, RWL and RWS fields, the page's EN and LOCK, and its authority mask (R490). -/
def keyRetained (k : Nat) : Bool :=
  let off := keyAddr k % 4096
  off == 0x08 || off == 0x30 || keyAcc (fun a => a == Access.rw || a == Access.rwl || a == Access.rws) k

/-- RWS fields, which a warm reset keeps (Table 17.2). -/
def keyRws (k : Nat) : Bool := keyAcc (fun a => a == Access.rws) k

/-- The block code of a page (Table 18.4). -/
def pageBlock (p : Nat) : Nat :=
  if p ≤ 0x001 then 0x01
  else if p ≤ 0x014 then 0x02
  else if p = 0x01C then 0x03
  else if p ≤ 0x024 then 0x04
  else if p ≤ 0x031 then 0x05
  else if p = 0x032 then 0x06
  else if p ≤ 0x043 then 0x07
  else if p ≤ 0x058 then 0x08
  else if p ≤ 0x072 then 0x09
  else if p ≤ 0x077 then 0x0A
  else if p ≤ 0x0FF then 0x0B
  else if p ≤ 0x104 then 0x0C
  else if p ≤ 0x183 then 0x0D
  else if p ≤ 0x204 then 0x0E
  else if p = 0x280 then 0x0F
  else if p ≤ 0x307 then 0x10
  else if p ≤ 0x314 then 0x11
  else if p ≤ 0x323 then 0x12
  else if p = 0x328 then 0x13
  else if p ≤ 0x346 then 0x14
  else if p ≤ 0x353 then 0x15
  else 0x16

/-- The first pages of the blocks' ranges (R547). -/
def pageFirsts : List Nat :=
  [0x360, 0x350, 0x340, 0x320, 0x310, 0x300, 0x280, 0x200, 0x180, 0x100, 0x080, 0x060, 0x050, 0x040, 0x030, 0x020, 0x010]

/-- INSTANCE of a page (R547). -/
def pageInstance (p : Nat) : Nat := p - (pageFirsts.find? (fun f => f ≤ p)).getD 0

/-- PAGE_ID (Table 18.4). -/
def pageId (p : Nat) : Nat := pageBlock p + pageInstance p * 256 + 0x10000

/-- IRQ_COUNT of a page (Table 18.5): the highest PAGE_IRQ_STAT bit its chapter gives it, plus 1. -/
def irqCount (p : Nat) : Nat :=
  if p = 0x010 ∨ p = 0x058 ∨ p = 0x060 ∨ p = 0x300 ∨ p = 0x310 ∨ p = 0x360 then 3
  else if p = 0x011 ∨ p = 0x012 ∨ p = 0x021 ∨ p = 0x023 ∨ p = 0x051 ∨ p = 0x351 then 2
  else if p = 0x014 ∨ p = 0x032 ∨ p = 0x042 ∨ p = 0x104 then 1
  else if p = 0x01C ∨ p = 0x280 ∨ (0x304 ≤ p ∧ p ≤ 0x307) then 7
  else if p = 0x030 ∨ p = 0x301 ∨ p = 0x302 then 6
  else if p = 0x040 then 9
  else if 0x061 ≤ p ∧ p ≤ 0x072 then 8
  else if 0x074 ≤ p ∧ p ≤ 0x077 then 32
  else if 0x080 ≤ p ∧ p ≤ 0x0FF then (if p % 8 = 0 then 9 else if p % 8 = 2 then 8 else 0)
  else if p = 0x100 ∨ p = 0x180 ∨ p = 0x350 ∨ p = 0x352 then 8
  else if p = 0x101 ∨ p = 0x181 then 5
  else if p = 0x200 ∨ p = 0x311 ∨ p = 0x312 ∨ p = 0x314 ∨ p = 0x328 ∨ (0x340 ≤ p ∧ p ≤ 0x344) ∨
      (0x370 ≤ p ∧ p ≤ 0x37F) then 4
  else if p = 0x320 then 11
  else 0

/-- The PAGE_IRQ_STAT bits of a page; bit 0 of page 0x310 is RSVD. -/
def irqBits (p : Nat) : List Nat := (List.range (irqCount p)).filter (fun b => !(p == 0x310 && b == 0))

/-- The BUSY bits of a page's command registers, to which R56 applies (PAGE_CAP.CMD, Table 18.5). -/
def busyFields (p : Nat) : List Field :=
  if p = 0x010 then [R.MGT_FLASH_STAT_BUSY]
  else if p = 0x020 then [R.KEY_STAT_BUSY]
  else if p = 0x021 then [R.KEY_AUTH_STAT_BUSY]
  else if p = 0x024 then [R.KEY_ATT_STAT_BUSY, R.KEY_OTP_STAT_BUSY]
  else if p = 0x040 then [R.TIM_RESULT_BUSY]
  else if p = 0x060 then [R.FUS_UCFG_STAT_BUSY]
  else if p = 0x102 ∨ p = 0x182 then [R.SW_MCG_STAT_BUSY]
  else if p = 0x201 then [R.SCH_Q_STAT_BUSY]
  else if p = 0x202 then [R.SCH_AL_STAT_BUSY]
  else if p = 0x203 then [R.SCH_POL_STAT_BUSY]
  else if p = 0x280 then [R.TMAP_STAT_BUSY]
  else if 0x304 ≤ p ∧ p ≤ 0x307 then [R.DSP_AUX_STAT_BUSY]
  else if p = 0x328 then [R.MRT_STAT_BUSY]
  else if p = 0x345 then [R.ETH_CLS_STAT_BUSY]
  else if p = 0x346 then [R.ETH_EGB_STAT_BUSY]
  else if p = 0x360 then [R.ENG_CACHE_STAT_BUSY]
  else if p = 0x361 ∨ p = 0x362 then [R.ENG_BIND_STAT_BUSY]
  else []

/-- PAGE_CAP (Table 18.5). -/
def pageCap (p : Nat) : Nat :=
  irqCount p + pageDomain p * 256 + (if (busyFields p).isEmpty then 0 else 0x10000)

namespace State

/-- The value of a register's fields, as a word. -/
def regWord (s : State) (fs : List Field) (i : Nat := 0) (j : Nat := 0) : Nat :=
  fs.foldl (fun w f => w + s.rd f i j * 2 ^ f.lsb) 0

/-- A command of the page is in progress. -/
def pageBusy (s : State) (p : Nat) : Bool := (busyFields p).any (fun f => s.rd f (pageRegs p).1 == 1)

/-- The second index of a register: the bank that its index register selects, or its number among its like. -/
def placeJ (s : State) (x : Place) : Nat :=
  match x.reg.bank with
  | some f => s.rd f x.i
  | none => x.j

/-- The registers for whose key `p` holds take their reset values. -/
def eraseKeys (s : State) (p : Nat → Bool) : State := { s with regs := s.regs.eraseIf p }

end State

end Sys2Proof.Machine
end

