-- ==== Sys2Proof/Machine/Reset.lean ====
section
/-! DEFINITION. What cold and warm resets keep (Tables 17.1 and 17.2), what a domain that is switched off keeps (R490), the resets' commands (R524 to R530, R560) and the temperature sensors (R535). -/

namespace Sys2Proof.Machine

/-- The registers of the core die outside AON that a warm reset keeps (Table 17.2, R189, R219, R232, R530): the reset records, the journal's pointers, panel time's registers, each port's V, the release state, the lanes' learning and baselines, and what the core die knows of the power die. -/
def warmFields : List Field := [
  R.CHIP_RST_CAUSE_COLD, R.CHIP_RST_CAUSE_PIN, R.CHIP_RST_CAUSE_COMMAND, R.CHIP_RST_CAUSE_PLL, R.CHIP_RST_CAUSE_P4_WAKE,
  R.CHIP_RST_CNT, R.CHIP_RST_TSW, R.CHIP_RST_DENIED, R.MON_JNL_HEAD, R.MON_JNL_TAIL,
  R.TIM_FADJ, R.TIM_SLEW_RATE, R.TIM_SLEW_LEFT, R.TIM_FOL_CFG_LOCK_THR, R.TIM_FOL_CFG_STEP_THR, R.TIM_FOL_CFG_KP,
  R.TIM_FOL_CFG_KI, R.TIM_HOLD, R.TIM_PIN_STEP, R.TIM_UTC_OFS,
  R.TIM_STAT_STATE, R.TIM_STAT_SYNC_VALID, R.TIM_STAT_DELAY_KNOWN, R.TIM_STAT_HOPS, R.TIM_STAT_SLOT, R.TIM_STAT_SOURCE,
  R.TIM_SRC_CFG_TRUNK0, R.TIM_SRC_CFG_DLY_SET0, R.TIM_SRC_CFG_KIND0, R.TIM_SRC_CFG_TRUNK1, R.TIM_SRC_CFG_DLY_SET1,
  R.TIM_SRC_CFG_KIND1, R.TIM_SRC_CFG_TRUNK2, R.TIM_SRC_CFG_DLY_SET2, R.TIM_SRC_CFG_KIND2, R.TIM_SRC_CFG_TRUNK3,
  R.TIM_SRC_CFG_DLY_SET3, R.TIM_SRC_CFG_KIND3, R.TIM_SRC_HOLD, R.TIM_IRIG_CFG_CODE, R.TIM_IRIG_CFG_IEEE1344,
  R.TIM_IRIG_CFG_LOCAL, R.TIM_IRIG_YEAR, R.TIM_PPSIN_CFG_EDGE, R.TIM_PPSOUT_CFG_EN, R.TIM_PPSOUT_CFG_GATE,
  R.TIM_PPSOUT_CFG_WIDTH, R.TIM_ASYMU, R.TIM_TRK_TCFG_ADOPT_PEER, R.TIM_TSOU,
  R.SCH_VT, R.SCH_REL_STAT0, R.SCH_REL_STAT1,
  R.TRK_LANESTAT_LEARNING, R.TRK_EYE_EYE_H_BASE, R.TRK_EYE_EYE_V_BASE,
  R.FUS_PD_STAT_OT, R.FUS_PD_STAT_TEMP, R.FUS_PD_STAT_VIN_PD, R.FUS_UCFG_STAT_BANKS, R.FUS_UCFG_STAT_BUSY, R.FUS_PBUS]

/-- Registers that every reset of the core die keeps: the power die's, their PAGE_CTL.LOCK with them (DESIGN CHOICE, log 139) but not the authority masks of its pages, which the fabric holds, and what shows them. -/
def keyPowerDie (k : Nat) : Bool :=
  (pageDomain (keyPage k) == 31 && keyAddr k % 4096 != 0x30) ||
    (fieldOf k).any (fun f => [R.FUS_PD_STAT_OT, R.FUS_PD_STAT_TEMP, R.FUS_PD_STAT_VIN_PD, R.FUS_UCFG_STAT_BANKS,
      R.FUS_UCFG_STAT_BUSY, R.FUS_PBUS].contains f)

/-- A register that a warm reset keeps: AON's, the authority masks, RWS fields and `warmFields`. -/
def keptWarm (k : Nat) : Bool :=
  pageDomain (keyPage k) == 0 || keyAddr k % 4096 == 0x30 || keyRws k || keyPowerDie k ||
    (fieldOf k).any (fun f => warmFields.contains f)

/-- A register of the VBAT island: page 0x023 but its authority mask (R432), ROOT and ROOT_EPOCH. -/
def keyIsland (k : Nat) : Bool :=
  (keyPage k == 0x023 && keyAddr k % 4096 != 0x30) ||
    (fieldOf k).any (fun f => [R.KEY_STAT_ROOT, R.KEY_EPOCH].contains f)

/-- A register that a cold reset keeps: the power die's and the VBAT island's; every authority mask takes its default (R409, R555). -/
def keptCold (k : Nat) : Bool := keyPowerDie k || keyIsland k

/-- A register that a wake from P4 keeps: AON's (R495). -/
def keptHibernate (k : Nat) : Bool := keyPowerDie k || pageDomain (keyPage k) == 0

/-- The domains that run in the state P0: all of Table 16.1. -/
def allDomains : Nat := 0x3FFFF

namespace State

/-- PWR_DOM_STAT: the domains that are powered, clocked and out of reset. -/
def showDomains (s : State) : State :=
  s.wr R.PWR_DOM_STAT (if s.rst.off then 0 else if s.rst.held || s.rst.lost then s.pwr.doms &&& 1 else s.pwr.doms)

/-- Regulator requests are dropped; the regulators keep their last setting (R531). An alert that waited for them is still to be served. -/
def regsDropped (s : State) : State :=
  (List.range 4).foldl (fun s r => s.wr R.PWR_REG_STAT_PENDING 0 0 r)
    (s.updPwr (fun p => { p with reqs := [], idle := false, fails := 0, restoring := false }))

/-- A flash command that a reset cuts short may have acted or not: a free value says which. -/
def flashCut (s : State) : State :=
  match s.mgt.flashOp with
  | none => s
  | some (op, a, buf) => (if s.freeNat % 2 = 1 then s.flashAct op a buf else s).tookFree

/-- OTP contents show in KEY_OTP_STAT. -/
def otpShows (s : State) : State :=
  ((s.wr R.KEY_OTP_STAT_CODE (if s.key.codeHash.isSome then 1 else 0)).wr R.KEY_OTP_STAT_DEBUG
    (if s.key.debugHash.isSome then 1 else 0)).wr R.KEY_OTP_STAT_DBG_NEVER (if s.key.dbgNever then 1 else 0)

/-- Both planes and both pairs show OFF and no plane holds authority (R164), a change of authority where one held it (R159). -/
def ringmasterOff (s : State) : State :=
  let s := (s.wr R.RGM_STAT_PAIR_A 0).wr R.RGM_STAT_PAIR_B 0
  if s.rd R.RGM_STAT_AUTH_VALID = 1 then s.noAuth else s

/-- Accesses that waited for a clock meet a domain held in reset (R528); the host loses its link and keeps its other requests. -/
def waitingDenied (s : State) : State :=
  (s.pwr.waiting.filter (fun w => w.req.isNone)).foldl (fun (s : State) (w : WaitingAccess) =>
    let s := s.bump R.CHIP_RST_DENIED
    if w.write then s else s.answer w.path 0xFFFFFFFF) (s.updPwr (fun p => { p with waiting := [] }))

/-- Panel time through a warm reset (R219): it runs on, and LOCKED or ACQUIRE becomes HOLDOVER with the SYNC_VALID it had. -/
def timeKept (s : State) : State :=
  let followed := s.rd R.TIM_STAT_STATE == timeLocked || s.rd R.TIM_STAT_STATE == timeAcquire
  let s := if followed && s.tim.engaged then
      s.wr R.TIM_FADJ (unsignedOf 32 (clampInt (-128000000) 128000000 (s.tim.integral / 32768)))
    else s
  let s := if followed then (s.wr R.TIM_STAT_STATE timeHoldover).wr R.TIM_STAT_SOURCE 0 else s
  s.updTim (fun t => { sec := t.sec, ns := t.ns, frac := t.frac, slewAcc := t.slewAcc, integral := t.integral, engaged := t.engaged })

/-- The lanes keep their learning (Table 17.2). -/
def lanesKept (s : State) : State :=
  { s with links := s.links.mapVals {} (fun _ (l : Link) =>
      { learnMs := l.learnMs, learnN := l.learnN, learnH := l.learnH, learnV := l.learnV, learnAsked := l.learnAsked,
        learned := l.learned, learnRate := l.learnRate }) }

/-- The scheduler keeps its assignments, records, policers and f_prev; head tags are dropped (R189). -/
def schedKept (s : State) : State :=
  { s with sch := {
      pairs := s.sch.pairs.mapVals {} (fun _ (q : QPair) => { q with tag := none }),
      allots := s.sch.allots, policers := s.sch.policers } }

/-- Everything outside AON takes its reset value but what Table 17.2 keeps through a warm reset (R529). -/
def warmState (s : State) : State :=
  let s := s.flashCut.timeKept.lanesKept.schedKept
  let s := s.eraseKeys (fun k => !keptWarm k)
  let s := { s with
    tun := { map := s.tun.map, ecc := s.tun.ecc, useq := s.tun.useq },
    planes := s.planes.mapVals {} (fun _ (p : Plane) => { mcg := p.mcg }),
    mcg := {}, rgm := { disagree := s.rgm.disagree }, dram := [], dsp := {}, sto := {}, brg := {}, net := {}, usb := {}, eng := {},
    mgt := { flash := s.mgt.flash },
    key := { s.key with slots := [], job := none },
    jnl := { s.jnl with arrivals := [] },
    csr := { softReset := s.csr.softReset.filter (fun p => pageDomain p == 0 || pageDomain p == 31),
             intn := s.csr.intn.eraseIf (fun k => pageDomain (k / 32) != 0) } }
  (s.wr R.KEY_STAT_BUSY 0).ringmasterOff

/-- The regulators that are off are turned on in the order 1, 0, 2, 3 (R509), and VDD_CORE is asked for its setpoint `mv` where `moves` says so, or where its regulator comes up anew. -/
def regsBack (s : State) (mv : Nat) (moves : Bool) : List (Nat × RegOp) :=
  ([1, 0, 2, 3].filter (fun r => s.pwr.off.contains r)).map (fun r => (r, RegOp.on)) ++
    (if moves || s.pwr.off.contains 0 then [(0, RegOp.volt mv)] else [])

/-- What P0 needs of the regulators after a warm reset that left another state. -/
def regsWanted (s : State) : List (Nat × RegOp) := s.regsBack (s.vid 0) (s.pwr.asked != 0 && s.pwr.asked != s.vid 0)

/-- The state of chapter 16 after a warm reset: P0, with every domain to be on and no transition (R494); the regulators that a deeper state turned off or down come back before the domains do (R509). -/
def warmPower (s : State) : State :=
  let moved := s.rd R.PWR_STAT_STATE != 0 || s.pwr.trans.isSome || s.rst.volts
  let s := s.regsDropped.waitingDenied
  let s := s.updPwr (fun p => { aonFrom := p.aonFrom, voutMode := p.voutMode, off := p.off, asked := p.asked, alert := p.alert, doms := allDomains })
  let s := { s with rst := { s.rst with volts := moved } }
  ((s.wr R.PWR_STAT_STATE 0).wr R.PWR_STAT_BUSY 0).wr R.PWR_STAT_TARGET 0

/-- The state of a core die that comes up from power-on: what its registers do not keep under `keep` takes its reset value. -/
def coreDie (s : State) (keep : Nat → Bool) : State :=
  let s := s.flashCut
  { State.reset with
    pending := s.pending, hw := s.hw, free := s.free, out := s.out, regs := s.regs.eraseIf (fun k => !keep k),
    fus := s.fus, mgt := { flash := s.mgt.flash }, key := s.key, pwr := s.pwr, rst := s.rst }

/-- Every domain but AON returns from P4 as after a cold reset (R490, R495); panel time comes from the AON timer to within 61 µs, in state FREE (R219). -/
def hibernated (s : State) : State :=
  let dis := s.rgm.disagree
  let asleep := s.pwr.asleep
  let aon := s.aonTime
  let intn := s.csr.intn.eraseIf (fun k => pageDomain (k / 32) != 0)
  let soft := s.csr.softReset.filter (fun p => pageDomain p == 0 || pageDomain p == 31)
  let s := s.coreDie keptHibernate
  let s := ({ s with rgm := { disagree := dis }, csr := { intn := intn, softReset := soft } } : State).ringmasterOff
  match asleep with
  | none => s
  | some (ns, from_) =>
    let err : Int := (s.freeNat % 122001 : Nat) - 61000
    s.tookFree.setPanelNs (((ns + (aon - from_) * 1000000000 / 32768 : Nat) : Int) + err).toNat

/-- A wake from P4 (R495). -/
def hibernateReset (s : State) : State := s.hibernated.wr R.CHIP_RST_CAUSE_P4_WAKE 1

/-- A warm reset (R529, R530); `f` flags its cause in CHIP_RST_CAUSE. What P4 had switched off returns as after a cold reset (R490). -/
def warmReset (s : State) (f : List Field) : State :=
  let s := if s.pwr.doms.testBit 1 then s else s.hibernated
  let tsw := s.tswNow
  let s := s.warmPower.warmState
  let s := f.foldl (fun s f => s.wr f 1) s
  let s := (s.wr R.CHIP_RST_TSW tsw).wr R.CHIP_RST_CNT (min (s.rd R.CHIP_RST_CNT + 1) 0xFFFFFFFF)
  { s with rst := { s.rst with armed := false } }.wr R.FUS_PD_STAT_PRESENT 0

/-- The reset is held while RST_N is low or the root PLL is not locked (R525, R527), and then until the regulators it asks have acknowledged (R509). Once it is released, what waited for it follows: a late tamper event's journal entry (R422), and an alert (Table 16.10). -/
def holdOrRelease (s : State) : State :=
  let wait := s.rst.pin || s.rst.pll || (s.rst.held && s.rst.lost)
  let s := if wait || !s.rst.volts || !s.regsDone then s else s.regAsk s.regsWanted
  let volts := s.rst.volts && (wait || !s.regsDone)
  let s := { s with rst := { s.rst with held := wait || volts, volts := volts } }.showDomains
  if wait || volts then s else s.tamperFollows.alertServed

/-- The stored root is checked against its check value (R414). -/
def rootChecked (s : State) (intact : Bool) : State :=
  match s.key.root with
  | none => s
  | some r =>
    if intact && s.checkOf r == s.key.check then s
    else ((s.updKey (fun k => { k with root := none, check := [] })).wr R.KEY_STAT_ROOT rootZeroised).wr R.KEY_TMP_LOG_INTEGRITY 1

/-- A cold reset (R524): every core-die domain, AON included; the VBAT island, the OTP memory, the flash and the power die stay. `mode` is the VOUT_MODE of the VDD_CORE regulator as it is read (R508). -/
def coldReset (s : State) (mode : Nat) (intact : Bool) : State :=
  let told := s.csr.intn.eraseIf (fun k => k / 32 != 0x023)
  let s := s.coreDie keptCold
  let s := { s with
    key := { root := s.key.root, check := s.key.check, codeHash := s.key.codeHash, debugHash := s.key.debugHash,
             dbgNever := s.key.dbgNever, svnMin := s.key.svnMin, tampered := s.key.tampered },
    csr := { intn := told },
    pwr := { aonFrom := s.hw, voutMode := mode % 256 },
    rst := { pin := s.rst.pin, held := s.rst.pin, pdRead := s.fus.alive } }
  let s := ((s.otpShows.rootChecked intact).rederive.showDomains).pmbRead 0 pmbVoutMode
  (if s.rd R.KEY_TMP_LOG_PENDING = 1 then s.tamperFlag else s).tamperFollows

/-- VDD_AON fell: nothing of the core die but what a cold reset keeps is left, and no domain runs (R560). -/
def coreDies (s : State) : State :=
  let told := s.csr.intn.eraseIf (fun k => k / 32 != 0x023)
  let s := s.coreDie keptCold
  let s := { s with
    key := { root := s.key.root, check := s.key.check, codeHash := s.key.codeHash, debugHash := s.key.debugHash,
             dbgNever := s.key.dbgNever, svnMin := s.key.svnMin, tampered := s.key.tampered },
    csr := { intn := told }, pwr := {}, rst := { pin := s.rst.pin, off := true } }
  s.showDomains

/-- All power to the VBAT island is gone: the root is lost, and the island's registers take their reset values (R414, R424). -/
def islandDies (s : State) : State :=
  let s := s.eraseKeys keyIsland
  let s := { s with csr := { s.csr with intn := s.csr.intn.eraseIf (fun k => k / 32 == 0x023) } }
  s.updKey (fun k => { k with root := none, check := [], wrapKey := [], attKey := none, tampered := false })

/-- RST_N has been low for `ns` (R525): from 520 ns on it resets the hub, under 480 ns it does nothing, and in between a free value says which. -/
def rstLow (s : State) (ns : Nat) : State :=
  let (s, takes) := if 520 ≤ ns then (s, true) else if ns < 480 then (s, false) else (s.tookFree, s.freeNat % 2 == 1)
  if !takes || s.rst.pin then s
  else if s.rst.held then { s with rst := { s.rst with pin := true } }.wr R.CHIP_RST_CAUSE_PIN 1
  else
    let f := if s.rst.armed then [R.CHIP_RST_CAUSE_PIN, R.CHIP_RST_CAUSE_COMMAND] else [R.CHIP_RST_CAUSE_PIN]
    { s.warmReset f with rst := { s.rst with pin := true, armed := false } }.holdOrRelease

/-- CHIP_RST_CMD WARM (R526). -/
def armReset (s : State) (path : Nat) : State :=
  if s.ownerPath path then ({ s with rst := { s.rst with armed := true } }).wr R.CHIP_RST_STAT_LAST_RESULT 0
  else s.wr R.CHIP_RST_STAT_LAST_RESULT 1

/-- A reading of a temperature sensor: the raw reading with the factory and user offsets, saturated (R535, R556). -/
def tempRead (s : State) (k : Nat) (raw : Int) : Int :=
  clampInt (-32768) 32767 (raw + signedOf 16 (s.rd R.MON_TEMPF 0 k) + signedOf 16 (s.rd R.MON_TEMPU 0 k))

/-- One sensor is read; the highest reading since the last page soft reset is kept (Table 17.12). -/
def tempOne (s : State) (k : Nat) (raw : Int) : State :=
  let t := s.tempRead k raw
  let s := s.wr R.MON_TEMP (unsignedOf 16 t) 0 k
  if !s.csr.tempSeen || decide (signedOf 16 (s.rd R.MON_TEMP_MAX_TEMP) < t) then
    { (s.wr R.MON_TEMP_MAX_TEMP (unsignedOf 16 t)).wr R.MON_TEMP_MAX_SENSOR k with csr := { s.csr with tempSeen := true } }
  else s

/-- The sensors that read above a threshold in °C. -/
def tempAbove (s : State) (f : Field) : List Nat :=
  (List.range 8).filter (fun k => decide ((16 * s.rd f : Nat) < signedOf 16 (s.rd R.MON_TEMP 0 k)))

/-- The eight sensors are read (R535). Each sensor that has come to exceed CRIT since the reading before, and each that exceeds it while its bit is clear, sets CRIT and is journalled with its reading. -/
def temperatures (s : State) (raw : List Int) : State :=
  let s := (List.range 8).foldl (fun s k => s.tempOne k (raw.getD k 0)) s
  let s := if (s.tempAbove R.MON_TEMP_THR_HOT).isEmpty then s else s.irq 0x051 0
  let now := s.tempAbove R.MON_TEMP_THR_CRIT
  let told := if s.irqBit 0x051 1 then now.filter (fun k => !s.csr.crit.contains k) else now
  let s := { s with csr := { s.csr with crit := now } }
  told.foldl (fun s k => s.alarm 0x051 1 (k + s.rd R.MON_TEMP 0 k * 65536)) s

end State

/-- RST_N_ASSERT (R525): RST_N goes low, or VDD_SRAM falls below 0.72 V or VDD_CORE below 0.62 V, which the hub treats alike (R562, Table 19.14). -/
def execRstNAssert (ns : Nat) (s : State) : Host.Outcome State Fault Refusal :=
  .next (if s.rst.off then s.begin else s.begin.rstLow ns)

/-- RST_N_RELEASE (R525): RST_N is high and both monitored rails are above their levels (R562); the boot flow runs from its first step. -/
def execRstNRelease (s : State) : Host.Outcome State Fault Refusal :=
  .next (let s := s.begin
         if s.rst.pin then
           let s := { s with rst := { s.rst with pin := false } }
           if s.rst.off then s else s.holdOrRelease
         else s)

/-- CHIP_RST_WARM (R526): CHIP_RST_CMD WARM. -/
def execChipRstWarm (path : Nat) (s : State) : Host.Outcome State Fault Refusal :=
  guarded (decide (path < 8)) (s.begin.gateWrite path 0x1040 1 (fun s => s.armReset path))

/-- WARM_RESET (R526, R529): the warm reset that CHIP_RST_CMD asked for starts 10 µs later. -/
def execWarmReset (s : State) : Host.Outcome State Fault Refusal :=
  .next (let s := s.begin
         if s.rst.armed && !s.rst.off then (s.warmReset [R.CHIP_RST_CAUSE_COMMAND]).holdOrRelease else s)

/-- COLD_RESET (R524, R560): VDD_AON rises through 0.70 V; `intact` says that the island's store still holds what was written to it. -/
def execColdReset (voutMode : Nat) (intact : Bool) (s : State) : Host.Outcome State Fault Refusal :=
  guarded (decide (voutMode < 256)) (s.begin.coldReset voutMode intact)

/-- ROOT_PLL_TIMEOUT (R527). -/
def execRootPllTimeout (s : State) : Host.Outcome State Fault Refusal :=
  .next (let s := s.begin
         if s.rst.lost && !s.rst.pll && !s.rst.off then
           let s := if s.rst.held then s.wr R.CHIP_RST_CAUSE_PLL 1 else s.warmReset [R.CHIP_RST_CAUSE_PLL]
           { s with rst := { s.rst with pll := true } }.holdOrRelease
         else s)

/-- PLL_RELOCK (R517, R527): PLL `k` of CLK_LOCK has lock; the root PLL has had it for 1 ms. -/
def execPllRelock (k : Nat) (s : State) : Host.Outcome State Fault Refusal :=
  guarded (decide (k < 16))
    (let s := s.begin
     if s.rst.off then s
     else
       let s := s.wr R.CLK_LOCK (s.rd R.CLK_LOCK ||| 2 ^ k)
       if k = 0 then { s with rst := { s.rst with lost := false, pll := false } }.holdOrRelease else s)

/-- CORE_DIE_POWER_LOSS (R560): VDD_AON falls below 0.66 V. -/
def execCoreDiePowerLoss (s : State) : Host.Outcome State Fault Refusal :=
  .next (if s.rst.off then s.begin else s.begin.coreDies)

/-- ISLAND_POWER_LOSS (R424): VBAT and VDD_AON are both absent. -/
def execIslandPowerLoss (s : State) : Host.Outcome State Fault Refusal :=
  .next (if s.rst.off then s.begin.islandDies else s.begin)

/-- TEMPERATURE_SAMPLE (R535): the raw readings of the eight sensors in 1/16 °C. -/
def execTemperatureSample (raw : List Int) (s : State) : Host.Outcome State Fault Refusal :=
  guardedIn 1 s (decide (raw.length = 8)) (s.begin.temperatures raw)

end Sys2Proof.Machine
end

