-- ==== Sys2Proof/Machine/Network.lean ====
section
/-! DEFINITION. The network adapter (chapter 10): reception and the classifier, egress bindings and transmission, transmit timestamps, wake filters, links and drains. -/

namespace Sys2Proof.Machine

/-- The network adapter's switch port, and its pages. -/
def spNetwork : Nat := 18
def ethPage : Nat := 0x340
def macPage (m : Nat) : Nat := 0x341 + m

/-- ETH_MAC_STAT.STATE. -/
def macDisabled : Nat := 0
def macNoLink : Nat := 1
def macRun : Nat := 2
def macDraining : Nat := 3

/-- A frame carries an 802.1Q tag; where its EtherType lies; its VLAN ID. -/
def frameTagged (f : List Byte) : Bool := beAt f 12 2 == 0x8100
def typeAt (f : List Byte) : Nat := if frameTagged f then 16 else 12
def frameVid (f : List Byte) : Nat := beAt f 14 2 % 4096

/-- A PAUSE frame (IEEE 802.3 Annex 31B), and the pause time it asks for in units of 512 bit times. -/
def isPause (f : List Byte) : Bool :=
  beAt f 0 6 == 0x0180C2000001 && beAt f 12 2 == 0x8808 && beAt f 14 2 == 1
def pauseQuanta (f : List Byte) : Nat := beAt f 16 2

/-- A classifier entry matches a frame from MAC `m` (R333). -/
def clsMatch (e : Nat × Nat × Nat) (m : Nat) (f : List Byte) : Bool :=
  let w1 := e.2.1
  w1.testBit 31 && e.2.2.testBit m &&
    (w1.testBit 29 || (if w1.testBit 28 then !frameTagged f else frameTagged f && frameVid f == bitsOf w1 27 16)) &&
    (w1.testBit 30 || beAt f 0 6 == bitsOf w1 15 0 * 2 ^ 32 + e.1)

/-- Where the PTP message of a frame starts when the MAC recognises an event message, and whether it is over EtherType 0x88F7 (R340). -/
def ptpEvent (f : List Byte) : Option (Nat × Bool) :=
  let o := typeAt f
  let event := fun (b : Nat) => decide (beAt f b 1 % 16 ≤ 3)
  if beAt f o 2 = 0x88F7 then (if event (o + 2) then some (o + 2, true) else none)
  else if beAt f o 2 = 0x0800 ∧ beAt f (o + 11) 1 = 17 ∧ beAt f (o + 2) 1 / 16 = 4 then
    let udp := o + 2 + beAt f (o + 2) 1 % 16 * 4
    if beAt f (udp + 2) 2 = 319 ∧ event (udp + 8) then some (udp + 8, false) else none
  else none

/-- Bytes `i` onward of a list are replaced. -/
def putBytes (l : List Byte) (i : Nat) (bs : List Byte) : List Byte := l.take i ++ bs ++ l.drop (i + bs.length)

/-- The frame that a MAC sends for a unit: tagged if its binding says so, and padded to 60 bytes (R338). -/
def txFrame (vlanIns : Bool) (tci : Nat) (p : List Byte) : List Byte :=
  let f := if vlanIns && !frameTagged p then p.take 12 ++ toBe 2 0x8100 ++ toBe 2 tci ++ p.drop 12 else p
  f ++ List.replicate (60 - f.length) 0

/-- One unit of pause time, 512 bits, in tenths of ns, by MODE. -/
def pauseTenths (mode : Nat) : Nat := if mode = 3 then 512 else if mode = 2 then 2048 else 5120

namespace State

def updNet (s : State) (f : NetState → NetState) : State := { s with net := f s.net }
def mac (s : State) (m : Nat) : EthMac := s.net.macs.get {} m
def updMac (s : State) (m : Nat) (f : EthMac → EthMac) : State :=
  s.updNet (fun x => { x with macs := x.macs.upd {} m f })
def macState (s : State) (m : Nat) : Nat := s.rd R.ETH_MAC_STAT_STATE m
def setMacState (s : State) (m v : Nat) : State := s.wr R.ETH_MAC_STAT_STATE v m

/-- Offset in use of the receive and transmit timestamp points of a MAC (Table 6.5), in 10 ps. -/
def rxPoint (s : State) (m : Nat) : Int := s.tsOffset (3 + m) (s.rd R.ETH_MAC_STAT_MODE m != 3)
def txPoint (s : State) (m : Nat) : Int := s.tsOffset (7 + m) (s.rd R.ETH_MAC_STAT_MODE m != 3)

/-- The entries of the classifier and of the egress bindings, lowest first. -/
def clsEntry (s : State) (i : Nat) : Nat × Nat × Nat := s.net.cls.get (0, 0, 0) i
def egbEntry (s : State) (i : Nat) : Nat × Nat := s.net.egb.get (0, 0) i

/-- The lowest-numbered entry that matches a frame: the table lists every entry that is not zero, in order (R333). -/
def classify (s : State) (m : Nat) (f : List Byte) : Option (Nat × Nat × Nat) :=
  (s.net.cls.map Prod.snd).find? (fun e => clsMatch e m f)

/-! ### Drains -/

/-- A draining MAC with nothing left reads DISABLED (R344). -/
def macDrained (s : State) (m : Nat) : State :=
  if s.macState m = macDraining ∧ (s.mac m).tx = [] ∧ (s.mac m).under = false ∧ s.net.rx.all (fun r => r.mac != m) then
    (s.setMacState m macDisabled).irq (macPage m) 3
  else s

/-! ### Reception -/

/-- The bytes in a MAC's receive buffer. -/
def rxFill (s : State) (m : Nat) : Nat := ((s.net.rx.filter (fun r => r.mac == m)).map (·.size)).sum

/-- Frames enter the planes in the order in which they were received, as far as the ingress point takes them, and each one that a plane took is counted (R335, R336). -/
def pumpNet : Nat → State → State
  | 0, s => s
  | fuel + 1, s =>
    match s.net.rx with
    | [] => s
    | r :: rs =>
      if !(s.sch.ingress.get [] spNetwork).isEmpty then s
      else
        match s.net.entering with
        | some k =>
          let s := s.updNet (fun x => { x with rx := rs, entering := none })
          let s := if k < s.sch.entered.get 0 spNetwork then (s.bump R.ETH_RX_FRAMES r.mac).tally (0x140 + r.mac) else s
          pumpNet fuel (s.macDrained r.mac)
        | none =>
          pumpNet fuel ((s.updNet (fun x => { x with entering := some (s.sch.entered.get 0 spNetwork) })).originUnitAt
            spNetwork r.tid kindData r.payload r.tsw)

def netSettled (s : State) : State := pumpNet (2 * s.net.rx.length + 1) s

/-- A frame that passes R332 is classified (R333, R334). -/
def rxClassified (s : State) (m : Nat) (f : List Byte) (tid : Nat) (strip : Bool) : State :=
  let p := if strip && frameTagged f then f.take 12 ++ f.drop 16 else f
  (s.updNet (fun x => { x with rx := x.rx ++ [⟨m, tid, s.tswAfter (s.rxPoint m), p, f.length + 4⟩] })).netSettled

/-- A frame received by a MAC, from the destination address to the last data byte; `good` when its FCS holds (R332 to R335). -/
def rxFrame (s : State) (m : Nat) (f : List Byte) (good : Bool) : State :=
  let n := f.length + 4
  if !good then s.bump R.ETH_RX_FCS m
  else if n < 64 then s.bump R.ETH_RX_RUNT m
  else if (s.mac m).maxFrame < n then s.bump R.ETH_RX_LONG m
  else if isPause f then
    let s := s.bump R.ETH_PAUSE_RX m
    if s.rd R.ETH_MAC_CFG_PAUSE_EN m = 1 then
      s.updMac m (fun x => { x with
        pausedTo := s.hw + (pauseQuanta f * pauseTenths (s.rd R.ETH_MAC_STAT_MODE m) + 9) / 10 })
    else s
  else if 32768 < s.rxFill m + n then ((s.bump R.ETH_RX_OVF m).tally (0x148 + m)).irq (macPage m) 2
  else
    match s.classify m f with
    | some e =>
      if e.2.2.testBit 4 then s.bump R.ETH_CLS_DISC m
      else s.rxClassified m f (bitsOf e.2.2 30 16) (e.2.2.testBit 5)
    | none =>
      let t := s.rd R.ETH_MAC_DEF_DEF_TID m
      if t = 0 then s.bump R.ETH_CLS_MISS m else s.rxClassified m f t false

/-! ### Transmission -/

/-- The bytes in a MAC's transmit buffer, with their FCS. -/
def txFill (s : State) (m : Nat) : Nat := ((s.mac m).tx.map (fun (x : TxFrame) => x.frame.length + 4)).sum

/-- The binding of a tunnel (R337). -/
def egbFor (s : State) (tid : Nat) : Option (Nat × Nat) :=
  (s.net.egb.map Prod.snd).find? (fun e => e.1.testBit 15 && bitsOf e.1 14 0 == tid)

/-- A unit's frame joins one target MAC's buffer, or is counted (R339, R344). -/
def txOne (s : State) (e : Nat × Nat) (p : List Byte) (m : Nat) : State :=
  if s.macState m = macRun then
    let f := txFrame (e.1.testBit 22) (bitsOf e.2 14 12 * 2 ^ 13 + bitsOf e.2 11 0) p
    s.updMac m (fun x => { x with tx := x.tx ++ [⟨f, bitsOf e.1 21 20⟩] })
  else if s.macState m = macDraining then s.bump R.ETH_TX_REFUSED m
  else s.bump R.ETH_TX_LINKDOWN m

/-- A unit at SP18 (R337, R339): it stays in the planes while a target's buffer cannot take it whole. -/
def ethUnit (s : State) (u : UnitMsg) : State :=
  let lost := fun (s : State) => (s.bump R.ETH_UNBOUND).irq ethPage 3
  match s.egbFor u.tid with
  | none => lost s
  | some e =>
    let ms := (List.range 4).filter (fun m => (bitsOf e.1 19 16).testBit m)
    let n := u.payload.length
    if n < 12 ∨ ms.any (fun m => decide ((s.mac m).maxFrame < n + 4)) = true then lost s
    else
      let k := (txFrame (e.1.testBit 22) 0 u.payload).length + 4
      if ms.any (fun m => s.macState m == macRun && decide (32768 < s.txFill m + k)) then s
      else ms.foldl (fun s m => s.txOne e u.payload m) s

/-- A transmit time joins the transmit timestamp queue (R341). -/
def pushStamp (s : State) (x : TxStamp) : State :=
  if 32 ≤ s.net.txts.length then (s.bump R.ETH_TXTS_LOST).irq ethPage 1
  else (s.updNet (fun y => { y with txts := y.txts ++ [x] })).irq ethPage 0

/-- A MAC sends the frame at the head of its buffer now (R340 to R342). -/
def txSend (s : State) (m : Nat) : State :=
  match (s.mac m).tx with
  | [] => s
  | x :: rest =>
    let s := s.updMac m (fun y => { y with tx := rest })
    let s := (s.bump R.ETH_TX_FRAMES m).tally (0x144 + m)
    let t := ((s.panel10ps + s.txPoint m) / 100).toNat
    let sec := t / 1000000000
    let ns := t % 1000000000
    let out := fun (s : State) (f : List Byte) => (s.emit (.frame m (f ++ frameFcs f))).macDrained m
    match ptpEvent x.frame with
    | none => out s x.frame
    | some (b, l2) =>
      let mtype := beAt x.frame b 1 % 16
      if x.ts = 2 ∧ l2 ∧ mtype = 0 then
        let f := putBytes x.frame (b + 34) (toBe 6 sec ++ toBe 4 ns)
        let fl := beAt f (b + 6) 1
        out s (putBytes f (b + 6) (toBe 1 (if fl.testBit 1 then fl - 2 else fl)))
      else if x.ts = 0 then out s x.frame
      else out (s.pushStamp ⟨m, mtype, beAt x.frame (b + 30) 2, sec % 2 ^ 32, ns⟩) x.frame

/-! ### Links and EN -/

/-- A MAC's frames that a lost link leaves unsent are counted (R339, Table 10.2). -/
def txLost (s : State) (m : Nat) : State :=
  let k := (s.mac m).tx.length
  ((s.bumpBy R.ETH_TX_LINKDOWN k m).updMac m (fun x => { x with tx := [] })).macDrained m

/-- A trunk's lanes run as this MAC's (Table 3.5). -/
def macAlt (s : State) (m : Nat) : Bool :=
  (List.range 16).any (fun n => s.rd R.TRK_ALTCFG_MODE n == 1 && s.rd R.TRK_ALTCFG_ETH_MAC n == m)

/-- The link of a MAC comes up: it enters RUN with the mode and MAX_FRAME that its configuration now gives (R347). -/
def macUp (s : State) (m : Nat) : State :=
  if s.macState m ≠ macNoLink then s
  else
    let alt := s.macAlt m
    let s := s.setMacState m macRun
    let s := s.wr R.ETH_MAC_STAT_MODE (if alt then 3 else s.rd R.ETH_MAC_CFG_MODE m) m
    let s := s.wr R.ETH_MAC_STAT_ALT (if alt then 1 else 0) m
    (s.updMac m (fun x => { x with maxFrame := s.rd R.ETH_MAC_CFG_MAX_FRAME m, pausedTo := 0 })).irq (macPage m) 0

/-- The link of a MAC is lost; a frame that was being sent ends with an invalid FCS, and one that was being received is lost. -/
def macDown (s : State) (m : Nat) (cut : Bool) : State :=
  let s := s.updMac m (fun x => { x with under := false })
  if s.macState m = macRun ∨ s.macState m = macDraining then
    let s := if s.macState m = macRun then s.setMacState m macNoLink else s
    let s := if cut then (match (s.mac m).tx with
        | x :: _ => s.emit (.frame m (x.frame ++ (frameFcs x.frame).map (fun b => ~~~b)))
        | [] => s)
      else s
    (s.txLost m).irq (macPage m) 1
  else s

/-- A MAC drains (R344); its EN stays as it is. Whether a frame is being received at that moment is a free value: it is then received whole (Table 10.2). -/
def macDrains (s : State) (m : Nat) : State :=
  if s.macState m = macRun then
    ((s.setMacState m macDraining).updMac m (fun x => { x with under := s.freeNat % 2 == 1 })).tookFree.macDrained m
  else if s.macState m = macNoLink then (s.setMacState m macDraining).macDrained m
  else s

/-- EN of a MAC becomes 0; whether a frame is under way then is a free value (R344; log 143). -/
def macStop (s : State) (m : Nat) : State := (s.wr R.ETH_MAC_CFG_EN 0 m).macDrains m

/-- A write of ETH_MAC_CFG; EN 1 is ignored while the MAC drains. -/
def macCfgWrite (s : State) (path m data : Nat) : State :=
  let a := 0x341040 + 0x1000 * m
  s.gateWrite path a data (fun s =>
    let s := s.store path a data [R.ETH_MAC_CFG_MODE, R.ETH_MAC_CFG_AN_EN, R.ETH_MAC_CFG_PAUSE_EN, R.ETH_MAC_CFG_MAX_FRAME] m
    if data % 2 = 0 then s.macStop m
    else if s.macState m = macDisabled then
      let s := s.wr R.ETH_MAC_CFG_EN 1 m
      if s.drainedTo 3 then s else s.setMacState m macNoLink
    else s)

/-- A frame of the MAC that waits at the ingress point leaves it. -/
def netLeaves (s : State) (m : Nat) : State :=
  match s.net.rx with
  | r :: _ =>
    if s.net.entering.isSome ∧ r.mac = m then
      (s.setIngress spNetwork ((s.sch.ingress.get [] spNetwork).drop 1)).updNet (fun x => { x with entering := none })
    else s
  | [] => s

/-- The end of ETH_DRAIN (R344): what remains is discarded and counted, a frame at the ingress point with it. -/
def macDrainEnd (s : State) (m : Nat) : State :=
  if s.macState m ≠ macDraining then s
  else
    let s := s.netLeaves m
    let gone := s.net.rx.filter (fun r => r.mac == m)
    let s := s.bumpBy R.ETH_TX_ABORTED ((s.mac m).tx.length + gone.length + (if (s.mac m).under then 1 else 0)) m
    let s := s.updNet (fun x => { x with rx := x.rx.filter (fun r => r.mac != m) })
    (s.updMac m (fun x => { x with tx := [], under := false })).netSettled.macDrained m

/-- Every MAC is disabled, for entry to P3 (R345). -/
def macsStop (s : State) : State := (List.range 4).foldl macDrains s

/-- The MACs with EN 1 run again (R498). -/
def macsResume (s : State) : State :=
  (List.range 4).foldl (fun s m =>
    if s.rd R.ETH_MAC_CFG_EN m = 1 ∧ s.macState m = macDisabled then s.setMacState m macNoLink else s) s

/-! ### Wake filters -/

/-- The lowest enabled wake filter that a frame matches (R343). -/
def wakeFilter (s : State) (f : List Byte) : Option Nat :=
  (List.range 4).find? (fun k => (s.rd R.ETH_WAKE_CFG_FILTERS).testBit k &&
    beAt f 0 6 == s.rd R.ETH_WAKE_DA_HI 0 k * 2 ^ 32 + s.rd R.ETH_WAKE_DA_LO 0 k && beAt f (typeAt f) 2 == s.rd R.ETH_WAKE_TYPE 0 k)

/-- A frame that a MAC held for wake receives in P3: what it leaves, and whether it wakes the hub. -/
def wakeMatch (s : State) (m : Nat) (f : List Byte) (good : Bool) : State × Bool :=
  if good && s.rd R.ETH_WAKE_CFG_KEEP == 1 && (s.rd R.ETH_WAKE_CFG_PORTS).testBit m then
    match s.wakeFilter f with
    | none => (s, false)
    | some k =>
      ((((s.bump R.ETH_WAKE_CNT).wr R.ETH_WAKE_LAST_MAC m).wr R.ETH_WAKE_LAST_FILTER k).irq ethPage 2, true)
  else (s, false)

/-! ### Classifier and binding commands -/

def clsDone (s : State) (r : Nat) : State :=
  (s.wr R.ETH_CLS_STAT_LAST_RESULT r).nextIndex R.ETH_CLS_INDEX_INDEX R.ETH_CLS_INDEX_AUTOINC

def clsRead (s : State) : State :=
  let e := s.clsEntry (s.rd R.ETH_CLS_INDEX_INDEX)
  (((s.wr R.ETH_CLS_DATA0 e.1).wr R.ETH_CLS_DATA1 e.2.1).wr R.ETH_CLS_DATA2 e.2.2).clsDone 0

def clsWrite (s : State) : State :=
  let w2 := s.rd R.ETH_CLS_DATA2
  if bitsOf w2 15 6 ≠ 0 ∨ w2.testBit 31 then s.clsDone 0xE
  else if w2.testBit 4 = false ∧ bitsOf w2 30 16 = 0 then s.clsDone 2
  else (s.updNet (fun x => { x with
    cls := x.cls.set (0, 0, 0) (s.rd R.ETH_CLS_INDEX_INDEX) (s.rd R.ETH_CLS_DATA0, s.rd R.ETH_CLS_DATA1, w2) })).clsDone 0

def egbDone (s : State) (r : Nat) : State :=
  (s.wr R.ETH_EGB_STAT_LAST_RESULT r).nextIndex R.ETH_EGB_INDEX_INDEX R.ETH_EGB_INDEX_AUTOINC

def egbRead (s : State) : State :=
  let e := s.egbEntry (s.rd R.ETH_EGB_INDEX_INDEX)
  ((s.wr R.ETH_EGB_DATA0 e.1).wr R.ETH_EGB_DATA1 e.2).egbDone 0

def egbWrite (s : State) : State :=
  let w0 := s.rd R.ETH_EGB_DATA0
  let w1 := s.rd R.ETH_EGB_DATA1
  if bitsOf w0 31 23 ≠ 0 ∨ bitsOf w1 31 15 ≠ 0 then s.egbDone 0xE
  else if w0.testBit 15 ∧ bitsOf w0 14 0 = 0 then s.egbDone 2
  else (s.updNet (fun x => { x with egb := x.egb.set (0, 0) (s.rd R.ETH_EGB_INDEX_INDEX) (w0, w1) })).egbDone 0

end State

/-- ETH_FRAME_RECEIVED (R332): `begun` when the frame began before EN was written 0 (Table 10.2). -/
def execEthFrameReceived (m : Nat) (frame : List Byte) (good begun : Bool) (s : State) :
    Host.Outcome State Fault Refusal :=
  guardedIn 14 s (decide (m < 4))
    (let s := s.begin
     if 3 ≤ s.rd R.PWR_STAT_STATE then s
     else if s.macState m = macRun then s.rxFrame m frame good
     else if s.macState m = macDraining ∧ begun ∧ (s.mac m).under then
       ((s.updMac m (fun x => { x with under := false })).rxFrame m frame good).macDrained m
     else s)

/-- ETH_EGRESS_UNIT (R337): the planes offer a unit at SP18. -/
def execEthEgressUnit (u : UnitMsg) (s : State) : Host.Outcome State Fault Refusal := nextIn 14 s (s.begin.ethUnit u)

/-- ETH_FRAME_TRANSMIT (R338): the frame at the head of a MAC's buffer passes the pins; not while the MAC is paused. -/
def execEthFrameTransmit (m : Nat) (s : State) : Host.Outcome State Fault Refusal :=
  guardedIn 14 s (decide (m < 4))
    (if (s.macState m = macRun ∨ s.macState m = macDraining) ∧ (s.mac m).pausedTo ≤ s.hw then s.begin.txSend m else s.begin)

/-- TXTS_READ (R341): a read of ETH_TXTS[3] removes the oldest entry. -/
def execTxtsRead (path : Nat) (s : State) : Host.Outcome State Fault Refusal :=
  guarded (decide (path < 8))
    (s.begin.gateRead path 0x340090 (fun s => (s.updNet (fun x => { x with txts := x.txts.drop 1 })).answer path 0))

/-- ETH_LINK_DOWN: `cut` when a frame was being sent (Table 10.2). -/
def execEthLinkDown (m : Nat) (cut : Bool) (s : State) : Host.Outcome State Fault Refusal :=
  guardedIn 14 s (decide (m < 4)) (s.begin.macDown m cut)

/-- ETH_LINK_UP (R347). -/
def execEthLinkUp (m : Nat) (s : State) : Host.Outcome State Fault Refusal :=
  guardedIn 14 s (decide (m < 4)) (s.begin.macUp m)

/-- MAC_DISABLE (R344): a write of ETH_MAC_CFG with EN 0. -/
def execMacDisable (path m data : Nat) (s : State) : Host.Outcome State Fault Refusal :=
  guarded (decide (path < 8) && decide (m < 4)) (s.begin.macCfgWrite path m (data / 2 * 2))

/-- MAC_ENABLE (R347): a write of ETH_MAC_CFG with EN 1. -/
def execMacEnable (path m data : Nat) (s : State) : Host.Outcome State Fault Refusal :=
  guarded (decide (path < 8) && decide (m < 4)) (s.begin.macCfgWrite path m (data / 2 * 2 + 1))

/-- MAC_DRAIN_TIMEOUT (R344). -/
def execMacDrainTimeout (m : Nat) (s : State) : Host.Outcome State Fault Refusal :=
  guardedIn 14 s (decide (m < 4)) (s.begin.macDrainEnd m)

/-- ETH_CLS_READ (R347). -/
def execEthClsRead (path : Nat) (s : State) : Host.Outcome State Fault Refusal :=
  guarded (decide (path < 8)) (s.begin.gateWrite path 0x345050 1 State.clsRead)

/-- ETH_CLS_WRITE (R347). -/
def execEthClsWrite (path : Nat) (s : State) : Host.Outcome State Fault Refusal :=
  guarded (decide (path < 8)) (s.begin.gateWrite path 0x345050 2 State.clsWrite)

/-- ETH_EGB_READ (R347). -/
def execEthEgbRead (path : Nat) (s : State) : Host.Outcome State Fault Refusal :=
  guarded (decide (path < 8)) (s.begin.gateWrite path 0x34604C 1 State.egbRead)

/-- ETH_EGB_WRITE (R347). -/
def execEthEgbWrite (path : Nat) (s : State) : Host.Outcome State Fault Refusal :=
  guarded (decide (path < 8)) (s.begin.gateWrite path 0x34604C 2 State.egbWrite)

end Sys2Proof.Machine
end

