-- ==== Sys2Proof/Machine/Storage.lean ====
section
/-! DEFINITION. The storage adapter (chapter 08): block tunnels and their units, the root ports and their bring-up, timeouts, controller resets and drains. -/

namespace Sys2Proof.Machine

/-- The storage adapter's switch port, and its pages. -/
def spStorage : Nat := 17
def stoPage : Nat := 0x310
def rpPage (p : Nat) : Nat := 0x311 + p
def btPage : Nat := 0x314

/-- STO_BT_STAT.STATE. -/
def btDisabled : Nat := 0
def btBinding : Nat := 1
def btRun : Nat := 2
def btDraining : Nat := 3
def btFault : Nat := 4

/-- STO_BT_STAT.RESULT. -/
def btOk : Nat := 0
def btBadNs : Nat := 1
def btBadTid : Nat := 2
def btWriter : Nat := 3
def btNoQueue : Nat := 4
def btPortDown : Nat := 5
def btFormatChanged : Nat := 6

/-- STO_RP_STAT.STATE. -/
def rpOff : Nat := 0
def rpTraining : Nat := 1
def rpInit : Nat := 2
def rpReady : Nat := 3
def rpFailed : Nat := 4
def rpResetting : Nat := 5

/-- STO_RP_STAT.CAUSE. -/
def rpcNone : Nat := 0
def rpcNoLink : Nat := 1
def rpcNotNvme : Nat := 2
def rpcCap : Nat := 3
def rpcReadyTmo : Nat := 4
def rpcCfs : Nat := 5
def rpcLinkDown : Nat := 6
def rpcAdminTmo : Nat := 7

/-- Adapter statuses of Table 8.4, with ORIGIN 2. -/
def stBadCommand : Nat := 0x8001
def stNotWritable : Nat := 0x8002
def stLbaRange : Nat := 0x8003
def stQueueFull : Nat := 0x8004
def stAbortedDrain : Nat := 0x8005
def stTimeout : Nat := 0x8006
def stControllerLost : Nat := 0x8007
def stDataMissing : Nat := 0x8008
def stDramErr : Nat := 0x8009
def stTagInUse : Nat := 0x800A
def stRefused : Nat := 0x800B

/-- The controller's status in a completion unit: success, or ORIGIN 1 with DNR, SCT and SC (R281); `sc` is SCT and SC. -/
def nvmeStatus (sc dnr : Nat) : Nat := if sc = 0 then 0 else 0x4000 + dnr % 2 * 0x2000 + sc % 2048

/-- The completion unit of Table 8.3. -/
def completionUnit (op tag status tsw : Nat) : List Byte :=
  [0x81] ++ toBe 1 op ++ toBe 2 tag ++ toBe 2 status ++ [0, 0] ++ toBe 8 tsw

/-- The fields of a command unit (Table 8.2). -/
def cmdOp (p : List Byte) : Nat := beAt p 0 1
def cmdFlags (p : List Byte) : Nat := beAt p 1 1
def cmdTag (p : List Byte) : Nat := beAt p 2 2
def cmdSlba (p : List Byte) : Nat := beAt p 4 8
def cmdNlbM1 (p : List Byte) : Nat := beAt p 12 2

/-- A command unit fails R277 on a tunnel with the given block size. -/
def badCommand (block : Nat) (p : List Byte) : Bool :=
  let op := cmdOp p
  let fl := cmdFlags p
  p.length != 16 || op == 0 || decide (4 < op) || beAt p 14 2 != 0 ||
    (if op ≤ 2 then fl / 2 != 0 || decide (16384 < (cmdNlbM1 p + 1) * block)
     else if op = 3 then fl != 0 || cmdSlba p != 0 || cmdNlbM1 p != 0
     else fl / 4 != 0 || fl % 2 != 0)

namespace State

/-! ### Block tunnels -/

def updSto (s : State) (f : StoState → StoState) : State := { s with sto := f s.sto }
def stoTun (s : State) (b : Nat) : StoTun := s.sto.tuns.get {} b
def setStoTun (s : State) (b : Nat) (t : StoTun) : State := s.updSto (fun x => { x with tuns := x.tuns.set {} b t })
def updStoTun (s : State) (b : Nat) (f : StoTun → StoTun) : State := s.setStoTun b (f (s.stoTun b))
def stoPort (s : State) (p : Nat) : StoPort := s.sto.ports.get {} p
def setStoPort (s : State) (p : Nat) (x : StoPort) : State := s.updSto (fun y => { y with ports := y.ports.set {} p x })
def bt (s : State) (f : Field) (b : Nat) : Nat := s.rd f 0 b
def btState (s : State) (b : Nat) : Nat := s.bt R.STO_BT_STAT_STATE b
def setBtState (s : State) (b v : Nat) : State := s.wr R.STO_BT_STAT_STATE v 0 b
def rpState (s : State) (p : Nat) : Nat := s.rd R.STO_RP_STAT_STATE p
def setRpState (s : State) (p v : Nat) : State := s.wr R.STO_RP_STAT_STATE v p

/-- The root port of a block tunnel's namespace. -/
def btPort (s : State) (b : Nat) : Nat := s.bt R.STO_BT_CFG_NS b / 32

/-- The block tunnels on a port that are not DISABLED. -/
def tunsOn (s : State) (p : Nat) : List Nat := (List.range 32).filter (fun b => s.btState b != btDisabled && s.btPort b == p)

/-- The block size of a tunnel's namespace. -/
def btBlock (s : State) (b : Nat) : Nat := if s.rd R.STO_NS_INFO_LBA4K 0 (s.bt R.STO_BT_CFG_NS b) = 1 then 4096 else 512

/-- Where slot `k` of tunnel `b` starts in DRAM (R276). -/
def slotAddr (s : State) (b k : Nat) : Nat := s.rd R.STO_DRAM_BASE * 2 ^ 25 + (64 * b + k) * 16384

/-- Sends something to the device at a root port. -/
def nvme (s : State) (p : Nat) (m : NvmeOut) : State := s.emit (.nvme p m)

/-- Bus addresses that the adapter assigns (R274): the device's BAR0, a slot's data, and the queues, whose places are free (log 137). -/
def busBar0 : Nat := 0x80000000
def busSlot (b k : Nat) : Nat := 0x100000000 + (64 * b + k) * 16384
def busQueue (p qid cq : Nat) : Nat := 0x200000000 + (Config.queueOffset p qid cq).toNat

/-- The command of a slot enters its tunnel's submission queue (R275, R280). -/
def submitCmd (s : State) (b : Nat) (c : StoCmd) : State :=
  let op := match c.op with
    | 1 => 2
    | 2 => 1
    | 3 => 0
    | _ => 8
  (s.tally 0x160).nvme (s.btPort b) (.submit (b + 1) c.slot op c.flags (s.rd R.STO_NS_ID 0 (s.bt R.STO_BT_CFG_NS b)) c.slba c.nlb
    (busSlot b c.slot))

/-- An admin command of a tunnel is issued: 1 and 2 create its queues, 3 and 4 delete them (Table 8.1, R275, R287). -/
def issueAdmin (s : State) (b k : Nat) : State :=
  let p := s.btPort b
  let s := s.updStoTun b (fun t => { t with admin := k })
  match k with
  | 1 => s.nvme p (.createCq (b + 1) 65 (busQueue p (b + 1) 1))
  | 2 => s.nvme p (.createSq (b + 1) 65 (busQueue p (b + 1) 0))
  | 3 => s.nvme p (.deleteSq (b + 1))
  | 4 => s.nvme p (.deleteCq (b + 1))
  | _ => s

/-- Counts a DRAM error that a command's data met: 1 corrected, 2 uncorrectable (R286). -/
def stoDram (s : State) (dram : Nat) : State :=
  if dram = 0 then s
  else if dram = 1 then (s.bump R.STO_DRAM_ERR_CORR).tally 0x1C3
  else (s.bump R.STO_DRAM_ERR_UNCORR).irq stoPage 2

/-! ### Replies -/

/-- A reply joins its tunnel's, with the time at which its status was known (Table 8.3). -/
def reply (s : State) (b : Nat) (slot : Option Nat) (op tag status : Nat) (data : Option (List Byte)) : State :=
  let s := if status = 0 then s.bumpWrap R.STO_BT_DONE 0 b else s.bump R.STO_BT_ERR 0 b
  s.updStoTun b (fun t => { t with replies := t.replies ++ [⟨slot, data, completionUnit op tag status s.tswNow⟩] })

/-- An outstanding command completes with a status; its slot is free once the completion is entered (R280). -/
def finishCmd (s : State) (b : Nat) (c : StoCmd) (status : Nat) (data : Option (List Byte)) : State :=
  (s.updStoTun b (fun t => { t with
    cmds := t.cmds.map (fun x => if x.slot = c.slot then { x with phase := .replied } else x) })).reply
    b (some c.slot) c.op c.tag status data

/-- A slot is free. -/
def freeSlot (s : State) (b k : Nat) : State := s.updStoTun b (fun t => { t with cmds := t.cmds.filter (fun c => c.slot ≠ k) })

/-- The command in a slot. -/
def cmdAt (s : State) (b k : Nat) : Option StoCmd := (s.stoTun b).cmds.find? (fun c => c.slot == k)

/-! ### Units taken -/

/-- Answers a command unit at once; the data unit of a refused WRITE is discarded (R278, R287). -/
def refuseCmd (s : State) (b : Nat) (p : List Byte) (status : Nat) : State :=
  let s := s.reply b none (cmdOp p) (cmdTag p) status none
  if p.length = 16 ∧ cmdOp p = 2 then s.updStoTun b (fun t => { t with next := .drop (status == stRefused) }) else s

/-- The lowest free slot. -/
def freeSlotOf (s : State) (b : Nat) : Nat :=
  ((List.range 64).find? (fun k => (s.stoTun b).cmds.all (fun c => c.slot != k))).getD 0

/-- A command unit is checked and submitted, or waits for its data (R277, R280). A unit too short to hold a TAG is answered with free bytes in its place. -/
def takeCommand (s : State) (b : Nat) (payload : List Byte) : State :=
  let p := if 4 ≤ payload.length then payload else (payload ++ toBe 4 s.freeNat).take 4
  let s := if 4 ≤ payload.length then s else s.tookFree
  let t := s.stoTun b
  let op := cmdOp p
  if s.btState b = btDraining then (s.refuseCmd b p stRefused).bump R.STO_BT_REFUSED 0 b
  else if s.rpState (s.btPort b) ≠ rpReady then s.refuseCmd b p stControllerLost
  else if badCommand (s.btBlock b) p then s.refuseCmd b p stBadCommand
  else if t.cmds.any (fun c => c.tag == cmdTag p) then s.refuseCmd b p stTagInUse
  else if 64 ≤ t.cmds.length then s.refuseCmd b p stQueueFull
  else if (op = 2 ∨ op = 4) ∧ s.bt R.STO_BT_CFG_WRITE b = 0 then s.refuseCmd b p stNotWritable
  else if op ≠ 3 ∧ s.rd R.STO_NS_SIZE 0 (s.bt R.STO_BT_CFG_NS b) < cmdSlba p + cmdNlbM1 p + 1 then
    s.refuseCmd b p stLbaRange
  else
    let k := s.freeSlotOf b
    let c : StoCmd := ⟨k, op, cmdFlags p, cmdTag p, cmdSlba p, cmdNlbM1 p + 1, if op = 2 then .data else .sent⟩
    let s := s.updStoTun b (fun t => { t with cmds := t.cmds ++ [c], next := if op = 2 then .data k else t.next })
    if op = 2 then s else s.submitCmd b c

/-- The WRITE in slot `k` completes with DATA_MISSING, and `next` says what the next unit of the tunnel is (R278). -/
def dataMissing (s : State) (b k : Nat) (next : StoNext) : State :=
  let s := s.updStoTun b (fun t => { t with next := next })
  match s.cmdAt b k with
  | some c => s.finishCmd b c stDataMissing none
  | none => s

/-- The unit that follows a WRITE is copied into the command's slot, or completes it (R278, R286). -/
def takeData (s : State) (b k : Nat) (payload : List Byte) (dram : Nat) : State :=
  match s.cmdAt b k with
  | none => s.updStoTun b (fun t => { t with next := .command })
  | some c =>
    if payload.length = c.nlb * s.btBlock b ∧ payload.length ≠ 16 then
      let s := ((s.updStoTun b (fun t => { t with next := .command })).dramWrite (s.slotAddr b k) payload).stoDram dram
      if dram = 2 then s.finishCmd b c stDramErr none
      else ((s.updStoTun b (fun t => { t with
        cmds := t.cmds.map (fun x => if x.slot = k then { x with phase := .sent } else x) })).submitCmd b c).dramMoves
          0x1C0 (s.slotAddr b k) payload.length
    else
      let s := s.dataMissing b k .command
      if payload.length = 16 then s.takeCommand b payload else s

/-- The cells of the data units of a tunnel that the adapter held, the oldest `n` of them, are released (R278, R287). -/
def releaseCopied (s : State) (tid n : Nat) : State :=
  let mine := (s.sto.copying.filter (fun x => x.2.2 == tid)).take n
  mine.foldl (fun s x => s.dropMember x.1 x.2.1 17 0)
    (s.updSto (fun y => { y with copying := mine.foldl (fun l x => l.erase x) y.copying }))

/-- The cells of a unit that has been acted on. -/
def copied17 (s : State) (u : UnitMsg) : State :=
  if u.kind = kindData ∧ u.payload.length ≠ 16 then s.releaseCopied u.tid 1 else s

/-- A unit of a request tunnel is acted on (R278, R282). Units behind an incomplete FENCE wait, and a FENCE holds what follows it. -/
def actStorage (s : State) (b : Nat) (u : UnitMsg) (dram : Nat) : State :=
  let t := s.stoTun b
  if t.fence then s.updStoTun b (fun t => { t with held := t.held ++ [(u, dram)] })
  else State.copied17 (u := u) <|
    match t.next with
    | .data k => s.takeData b k u.payload dram
    | .drop drains =>
      let s := s.updStoTun b (fun t => { t with next := .command })
      if u.payload.length = 16 ∧ u.kind = kindData then s.takeCommand b u.payload
      else if drains then s.bump R.STO_BT_REFUSED 0 b else s
    | .command =>
      if u.kind = kindFence then s.updStoTun b (fun t => { t with fence := true })
      else if u.kind = kindData then s.takeCommand b u.payload
      else s

/-- The block tunnel of a unit that came into the planes at `port` (R270). -/
def boundTunnel (s : State) (u : UnitMsg) (port : Nat) : Option Nat :=
  (List.range 32).find? (fun b =>
    (s.btState b == btRun || s.btState b == btDraining) && s.bt R.STO_BT_TID_REQ b == u.tid &&
      s.bt R.STO_BT_CFG_OWNER_SP b == port)

/-! ### Drains -/

/-- In P1 a port with no block tunnel enabled has no power (R289). -/
def rpIdle (s : State) (p : Nat) : Bool :=
  s.rd R.PWR_STAT_STATE == 1 && (s.tunsOn p).isEmpty &&
    (List.range 32).all (fun b => s.bt R.STO_BT_CFG_EN b == 0 || s.btPort b != p)

/-- A port whose EN is 0, or that the power state turns off, and that has no tunnel left is shut down: the controller, once CC.EN has enabled it, by CC.SHN, and then STO_PERST_N is asserted (R288, R289). -/
def rpShut (s : State) (p : Nat) : State :=
  if (s.rd R.STO_RP_CFG_EN p = 0 ∨ s.drainedTo 2 ∨ s.rpIdle p) ∧ s.rpState p ≠ rpOff ∧ s.tunsOn p = [] then
    let s := if s.rpState p = rpReady ∨ (s.stoPort p).ccEn then s.nvme p .shutdown else s
    ((((s.setRpState p rpOff).wr R.STO_RP_STAT_WIDTH 0 p).wr R.STO_RP_STAT_GEN 0 p).wr R.STO_RP_STAT_QPAIRS 0 p).setStoPort p {}
  else s

/-- The drain of a tunnel ends: what is queued is discarded, and the tunnel reads DISABLED (R287). -/
def btEnd (s : State) (b : Nat) : State :=
  let req := s.bt R.STO_BT_TID_REQ b
  let k := (s.stoTun b).held.length + (s.tunnelSeqs spStorage req).length
  let s := s.releaseCopied req s.sto.copying.length
  let p := s.btPort b
  let s := ((s.dropTunnel spStorage req).bumpBy R.STO_BT_REFUSED k 0 b).setStoTun b {}
  ((s.setBtState b btDisabled).irq btPage 0).rpShut p

/-- The tunnel's FENCE is complete: every earlier command has its completion unit entered (R282). -/
def fenceMet (s : State) (b : Nat) : Bool :=
  let t := s.stoTun b
  t.fence && t.replies.isEmpty && t.cmds.all (fun c => c.phase == StoPhase.timedOut)

/-- A draining tunnel has nothing outstanding and no admin command in progress. -/
def drainMet (s : State) (b : Nat) : Bool :=
  let t := s.stoTun b
  s.btState b == btDraining && t.admin == 0 && !t.fence && t.cmds.isEmpty && t.replies.isEmpty

/-- A draining tunnel whose queues are gone and whose replies are entered. -/
def drainOver (s : State) (b : Nat) : Bool :=
  s.btState b == btDraining && (s.stoTun b).admin == 5 && (s.stoTun b).replies.isEmpty

/-- A tunnel's reply tunnel. -/
def replyTid (s : State) (b : Nat) : Nat := s.bt R.STO_BT_TID_REPLY b

/-- The reply unit of a tunnel is no longer at the ingress point: of the tunnels that offered one on its reply tunnel, in their order, as many have entered theirs as no longer wait. -/
def replyGone (s : State) (b : Nat) : Bool :=
  let same := s.sto.sending.filter (fun c => s.replyTid c == s.replyTid b)
  let waits := ((s.sch.ingress.get [] spStorage).filter (fun w => w.tid == s.replyTid b)).length
  (same.take (same.length - waits)).contains b

/-- The reply unit at the ingress point has been entered (R280, R283). -/
def replyEntered (s : State) (b : Nat) : State :=
  let s := s.updSto (fun x => { x with sending := x.sending.erase b })
  match (s.stoTun b).replies with
  | [] => s
  | r :: rs =>
    match r.data with
    | some _ => s.updStoTun b (fun t => { t with replies := { r with data := none } :: rs })
    | none =>
      let s := (s.updStoTun b (fun t => { t with replies := rs, mid := false })).tally 0x161
      match r.slot with
      | some k => s.freeSlot b k
      | none => s

/-- A tunnel may send its next reply unit: none of its own waits at the ingress point, and no other tunnel is between the two units of a READ's reply on the same reply tunnel (R279, R283). -/
def maySend (s : State) (b : Nat) : Bool :=
  !(s.stoTun b).replies.isEmpty && !s.sto.sending.contains b &&
    (List.range 32).all (fun c => c == b || !(s.stoTun c).mid || s.replyTid c != s.replyTid b)

/-- A tunnel sends one reply unit (R271, R283). -/
def sendReply (s : State) (b : Nat) : State :=
  match (s.stoTun b).replies with
  | [] => s
  | r :: _ =>
    let s := (s.updSto (fun x => { x with sending := x.sending ++ [b], last := b })).updStoTun b (fun t => { t with
      mid := t.mid || r.data.isSome })
    s.originUnit spStorage (s.replyTid b) kindData (r.data.getD r.cpl)

/-- One thing that the adapter does of itself: none when there is nothing to do. -/
def stoMove (s : State) : Option State :=
  match s.sto.sending.find? s.replyGone with
  | some b => some (s.replyEntered b)
  | none =>
    match (List.range 32).find? s.fenceMet with
    | some b =>
      let l := (s.stoTun b).held
      some (l.foldl (fun s x => s.actStorage b x.1 x.2) (s.updStoTun b (fun t => { t with fence := false, held := [] })))
    | none =>
      match (List.range 32).find? s.drainMet with
      | some b => some (s.issueAdmin b (if s.rpState (s.btPort b) = rpReady then 3 else 5))
      | none =>
        match (List.range 32).find? s.drainOver with
        | some b => some (s.btEnd b)
        | none => (firstFrom (s.sto.last + 1) 32 s.maySend).map s.sendReply

/-- The adapter does what it can; `fuel` bounds the moves. -/
def stoSettle : Nat → State → State
  | 0, s => s
  | fuel + 1, s =>
    match s.stoMove with
    | none => s
    | some t => stoSettle fuel t

/-- A bound on the moves: two for each unit of a reply, for those that units held behind a FENCE can cause, and for each tunnel's end. -/
def stoFuel (s : State) : Nat :=
  ((List.range 32).map (fun b => 4 * (s.stoTun b).replies.length + 12 * (s.stoTun b).held.length)).sum + 256

def settled (s : State) : State := stoSettle s.stoFuel s

/-- A unit at SP17 is taken or discarded (R270). -/
def takeStorage (s : State) (u : UnitMsg) (port dram : Nat) : State :=
  match s.boundTunnel u port with
  | none => ((s.copied17 u).bump R.STO_UNBOUND).irq stoPage 1
  | some b => (s.actStorage b u dram).settled

/-- A tunnel enters DRAINING (R287); its EN stays as it is. -/
def btDrains (s : State) (b : Nat) : State :=
  if s.btState b = btRun ∨ s.btState b = btBinding then s.setBtState b btDraining
  else if s.btState b = btFault then s.btEnd b
  else s

/-- EN of a block tunnel becomes 0. -/
def btDrain (s : State) (b : Nat) : State := (s.wr R.STO_BT_CFG_EN 0 0 b).btDrains b

/-- At the end of STO_DRAIN the submission queue is deleted, and commands that wait for their data are aborted, the data unit of each discarded when it comes (R278, R287). -/
def btDrainTimeout (s : State) (b : Nat) : State :=
  if s.btState b ≠ btDraining ∨ (s.stoTun b).admin ≠ 0 then s
  else
    let cs := (s.stoTun b).cmds.filter (fun c => c.phase == StoPhase.data)
    let s := cs.foldl (fun s c => (s.finishCmd b c stAbortedDrain none).bump R.STO_BT_ABORTED 0 b) s
    ((s.updStoTun b (fun t => { t with
      aborted := cs.length
      next := match t.next with
        | .data _ => .drop false
        | x => x })).issueAdmin b 3).settled

/-- The submission queue is gone: the controller has aborted what was submitted (R287). -/
def sqDeleted (s : State) (b : Nat) : State :=
  let cs := (s.stoTun b).cmds.filter (fun c => c.phase == StoPhase.sent)
  let n := (s.stoTun b).aborted + cs.length
  let s := cs.foldl (fun s c => (s.finishCmd b c stAbortedDrain none).bump R.STO_BT_ABORTED 0 b) s
  let s := (s.updStoTun b (fun t => { t with cmds := t.cmds.filter (fun c => c.phase != StoPhase.timedOut) })).issueAdmin b 4
  if n = 0 then s else s.event btPage 3 (b + n * 2 ^ 8)

/-- A binding fails (R269, R275). -/
def bindFail (s : State) (b result : Nat) : State :=
  ((s.wr R.STO_BT_STAT_RESULT result 0 b).wr R.STO_BT_CFG_EN 0 0 b).irq btPage 1

/-- An admin command of a tunnel completes (R287). -/
def adminDone (s : State) (b : Nat) (ok : Bool) : State :=
  let t := s.stoTun b
  let drains := s.btState b == btDraining
  (match t.admin with
   | 1 =>
     if drains then s.setStoTun b { t with admin := 0 }
     else if ok then s.issueAdmin b 2
     else ((s.setStoTun b {}).setBtState b btDisabled).bindFail b btNoQueue
   | 2 =>
     if drains then s.setStoTun b { t with admin := 0 }
     else if ok then (s.setStoTun b { t with admin := 0 }).setBtState b btRun
     else ((s.setStoTun b {}).setBtState b btDisabled).bindFail b btNoQueue
   | 3 => s.sqDeleted b
   | 4 => s.setStoTun b { t with admin := 5 }
   | _ => s).settled

/-- A step of bring-up begins, with what the adapter sends for it (R274). -/
def rpBegin (s : State) (p k : Nat) : State :=
  let x := s.stoPort p
  match k with
  | 1 => s.setStoPort p { perst := true, step := 1 }
  | 3 => (s.setStoPort p { perst := false, step := 3, bar0 := busBar0, master := true }).nvme p (.config busBar0 256 512)
  | 5 => (s.setStoPort p { x with step := 5, ccEn := true }).nvme p (.enable 4096)
  | 6 => (s.setStoPort p { x with step := 6 }).nvme p (.adminQueues 16 (busQueue p 0 0) (busQueue p 0 1))
  | 7 => (s.setStoPort p { x with step := 7 }).nvme p .identify
  | 8 => (s.setStoPort p { x with step := 8 }).nvme p (.setQueues 32)
  | 9 => (s.setStoPort p { x with step := 9 }).nvme p .identifySpaces
  | _ => s.setStoPort p { x with perst := false, step := k }

/-! ### Binding -/

/-- What binding tunnel `b` is refused with; 0 when it binds (R269, R275, Table 8.10). -/
def bindResult (s : State) (b : Nat) : Nat :=
  let ns := s.bt R.STO_BT_CFG_NS b
  if s.rd R.STO_NS_INFO_VALID 0 ns = 0 ∨ s.rd R.STO_NS_INFO_USABLE 0 ns = 0 then btBadNs
  else if s.bt R.STO_BT_TID_REQ b = 0 ∨ s.bt R.STO_BT_TID_REPLY b = 0 then btBadTid
  else if s.bt R.STO_BT_CFG_WRITE b = 1 ∧ (List.range 32).any (fun c =>
      c != b && s.btState c != btDisabled && s.bt R.STO_BT_CFG_WRITE c == 1 && s.bt R.STO_BT_CFG_NS c == ns) then btWriter
  else if s.rpState (ns / 32) ≠ rpReady then btPortDown
  else if s.rd R.STO_RP_STAT_QPAIRS (ns / 32) < b + 1 then btNoQueue
  else btOk

/-- Bring-up starts (R274); a port that a power state keeps without power stays OFF (R289). -/
def rpStart (s : State) (p : Nat) : State :=
  if (s.rpState p = rpOff ∨ s.rpState p = rpFailed) ∧ s.rpIdle p = false ∧ s.drainedTo 2 = false then
    ((s.setRpState p rpTraining).wr R.STO_RP_STAT_CAUSE rpcNone p).rpBegin p 1
  else s

/-- Tunnel `b` is refused only because P1 keeps its port, whose EN is 1, without power (R289). -/
def portSleeps (s : State) (b : Nat) : Bool :=
  let p := s.btPort b
  s.bindResult b == btPortDown && s.rpIdle p && s.rd R.STO_RP_CFG_EN p == 1 && s.rpState p == rpOff

/-- Binds tunnel `b`, or refuses (R269). A port that P1 keeps without power comes up for it, and the tunnel binds at READY (R289, log 138). -/
def btBind (s : State) (b : Nat) : State :=
  if s.btState b ≠ btDisabled then s
  else if s.portSleeps b then (s.wr R.STO_BT_CFG_EN 1 0 b).rpStart (s.btPort b)
  else
    let r := s.bindResult b
    if r ≠ btOk then s.bindFail b r
    else
      let ns := s.bt R.STO_BT_CFG_NS b
      let t : StoTun := { nsid := s.rd R.STO_NS_ID 0 ns, lba4k := s.rd R.STO_NS_INFO_LBA4K 0 ns }
      ((((s.setStoTun b t).issueAdmin b 1).wr R.STO_BT_STAT_RESULT btOk 0 b).wr R.STO_BT_CFG_EN 1 0 b).setBtState b btBinding

/-- A write of STO_BT_CFG: the other fields change only while the tunnel is DISABLED (R291); EN 1 binds, EN 0 drains. -/
def btCfgWrite (s : State) (path data : Nat) : State :=
  s.gateWrite path 0x314044 data (fun s =>
    let b := s.rd R.STO_BT_INDEX
    let s := if s.btState b = btDisabled then
        s.store path 0x314044 data [R.STO_BT_CFG_WRITE, R.STO_BT_CFG_NS, R.STO_BT_CFG_OWNER_SP] 0 b
      else s
    if data % 2 = 1 then s.btBind b else ((s.btDrain b).settled).rpShut (s.btPort b))

/-! ### Controllers -/

/-- Every command outstanding on a tunnel completes with CONTROLLER_LOST, and a drain of it ends (R285, Table 8.6). -/
def loseTunnel (s : State) (b : Nat) : State :=
  let t := s.stoTun b
  let cs := t.cmds.filter (fun c => c.phase == StoPhase.data || c.phase == StoPhase.sent)
  let s := cs.foldl (fun s c => s.finishCmd b c stControllerLost none) s
  s.updStoTun b (fun t => { t with
    cmds := t.cmds.filter (fun c => c.phase != StoPhase.timedOut)
    next := match t.next with
      | .data _ => .drop false
      | x => x
    admin := if s.btState b = btDraining then 5 else 0 })

/-- A controller reset (R285), while a link is up: bring-up goes on from step 3, or from step 1 after a link loss. One that meets a bring-up or another reset starts those steps again (DEDUCED, log 138). -/
def rpReset (s : State) (p cause : Nat) (linkLost : Bool) : State :=
  if !(s.rpState p == rpReady || decide (3 ≤ (s.stoPort p).step)) then s
  else
    let s := ((s.setRpState p rpResetting).wr R.STO_RP_STAT_CAUSE cause p).bump R.STO_RP_RESETS p
    let s := (s.event (rpPage p) 2 cause).rpBegin p (if linkLost then 1 else 3)
    ((s.tunsOn p).foldl loseTunnel s).settled

/-- A bring-up step failed (R274). -/
def rpFail (s : State) (p cause : Nat) : State :=
  ((((s.setRpState p rpFailed).wr R.STO_RP_STAT_CAUSE cause p).setStoPort p { s.stoPort p with step := 0 }).irq (rpPage p) 1).rpShut p

/-- A namespace is usable (R268). -/
def usable (n : NsInfo) : Bool := (n.lba == 512 || n.lba == 4096) && n.metaSize == 0 && !n.prot

/-- Fills one entry of the namespace table, or marks it invalid. -/
def fillEntry (s : State) (p k : Nat) : Option NsInfo → State
  | none =>
    ((((s.wr R.STO_NS_ID 0 0 k).wr R.STO_NS_INFO_VALID 0 0 k).wr R.STO_NS_INFO_USABLE 0 0 k).wr R.STO_NS_INFO_LBA4K 0 0 k).wr
      R.STO_NS_SIZE 0 0 k |>.wr R.STO_NS_INFO_PORT 0 0 k
  | some n =>
    ((((s.wr R.STO_NS_ID n.nsid 0 k).wr R.STO_NS_INFO_VALID 1 0 k).wr R.STO_NS_INFO_USABLE
      (if usable n then 1 else 0) 0 k).wr R.STO_NS_INFO_LBA4K (if n.lba = 4096 then 1 else 0) 0 k).wr
      R.STO_NS_SIZE n.blocks 0 k |>.wr R.STO_NS_INFO_PORT p 0 k

/-- Fills a port's 32 entries in ascending NSID order (R268). -/
def fillSpaces (s : State) (p : Nat) (l : List NsInfo) : State :=
  let l := l.mergeSort (fun a b => decide (a.nsid ≤ b.nsid))
  (List.range 32).foldl (fun s k => s.fillEntry p (32 * p + k) l[k]?) s

/-- A tunnel's namespace is what it was bound to, its LBA format usable as it was (R268, R285). -/
def sameSpace (s : State) (b : Nat) : Bool :=
  let ns := s.bt R.STO_BT_CFG_NS b
  s.rd R.STO_NS_INFO_VALID 0 ns == 1 && s.rd R.STO_NS_INFO_USABLE 0 ns == 1 && s.rd R.STO_NS_ID 0 ns == (s.stoTun b).nsid &&
    s.rd R.STO_NS_INFO_LBA4K 0 ns == (s.stoTun b).lba4k

/-- The port enters READY, and the tunnels on it resume or fault (R274, R285); one that a power state drained binds again (R498). -/
def rpUp (s : State) (p : Nat) : State :=
  let s := ((s.setRpState p rpReady).setStoPort p { s.stoPort p with step := 0 }).irq (rpPage p) 0
  let s := (s.tunsOn p).foldl (fun s b =>
    if s.btState b = btDraining ∨ s.btState b = btFault then s
    else if s.sameSpace b then (((s.issueAdmin b 1).issueAdmin b 2).issueAdmin b 0).setBtState b btRun
    else (s.setBtState b btFault).wr R.STO_BT_STAT_RESULT btFormatChanged 0 b) s
  (List.range 32).foldl (fun s b =>
    if s.bt R.STO_BT_CFG_EN b = 1 ∧ s.btState b = btDisabled ∧ s.btPort b = p then s.btBind b else s) s

/-- A bring-up step of R274 ends with what it found. -/
def rpStep (s : State) (p : Nat) (f : RpFinding) : State :=
  let next := fun (s : State) (k : Nat) => s.rpBegin p k
  let shown := fun (s : State) (v : Nat) => if s.rpState p = rpResetting then s else s.setRpState p v
  match (s.stoPort p).step with
  | 1 => next s 2
  | 2 =>
    if f.ok then
      let s := s.wr R.STO_RP_STAT_WIDTH (min f.width (s.rd R.STO_RP_CFG_MAX_WIDTH p)) p
      shown (next (s.wr R.STO_RP_STAT_GEN (min f.gen (s.rd R.STO_RP_CFG_MAX_GEN p)) p) 3) rpInit
    else s.rpFail p rpcNoLink
  | 3 => if f.ok then next s 4 else s.rpFail p rpcNotNvme
  | 4 => if f.ok ∧ 64 ≤ f.mqes ∧ f.mpsmin = 0 then next s 5 else s.rpFail p rpcCap
  | 5 => if f.ok then next s 6 else s.rpFail p rpcCfs
  | 6 => if f.ok then next s 7 else s.rpFail p rpcAdminTmo
  | 7 => if f.ok then next s 8 else s.rpFail p rpcAdminTmo
  | 8 => if f.ok then next (s.wr R.STO_RP_STAT_QPAIRS (min f.granted 32) p) 9 else s.rpFail p rpcAdminTmo
  | 9 => if f.ok then (s.fillSpaces p f.spaces).rpUp p else s.rpFail p rpcAdminTmo
  | _ => s

/-- A port is drained and shut down (R288); the bring-up or the reset of one that is not READY ends there. -/
def rpStop (s : State) (p : Nat) : State :=
  let s := if s.rpState p = rpReady ∨ s.rpState p = rpOff then s else s.setStoPort p { s.stoPort p with step := 0 }
  (((s.tunsOn p).foldl btDrain s).settled).rpShut p

/-- A write of STO_RP_CFG. EN written 1 while the port shuts down is ignored. -/
def rpCfgWrite (s : State) (path p data : Nat) : State :=
  let a := 0x311040 + 0x1000 * p
  s.gateWrite path a data (fun s =>
    let s := s.store path a data [R.STO_RP_CFG_MAX_WIDTH, R.STO_RP_CFG_MAX_GEN, R.STO_RP_CFG_ASPM_L1] p
    if data % 2 = 1 then
      if s.rd R.STO_RP_CFG_EN p = 0 ∧ s.rpState p ≠ rpOff then s else (s.wr R.STO_RP_CFG_EN 1 p).rpStart p
    else (s.wr R.STO_RP_CFG_EN 0 p).rpStop p)

/-- Every block tunnel drains and both ports shut down, for entry to P2 or deeper; no EN field is written (R289, R498). -/
def stoShutdown (s : State) : State :=
  [0, 1].foldl (fun s p =>
    let s := if s.rpState p = rpReady ∨ s.rpState p = rpOff then s else s.setStoPort p { s.stoPort p with step := 0 }
    (((s.tunsOn p).foldl btDrains s).settled).rpShut p) s

/-- The ports with EN 1 come up again (R498). -/
def stoResumes (s : State) : State :=
  [0, 1].foldl (fun s p => if s.rd R.STO_RP_CFG_EN p = 1 ∧ s.rpState p = rpOff then s.rpStart p else s) s

/-- In P1 the ports with no block tunnel enabled are powered off (R289). -/
def stoTrims (s : State) : State := [0, 1].foldl (fun s p => s.rpShut p) s

end State

/-- STO_COMMAND_UNIT (R280): a unit at SP17 that entered the planes at `port`; `dram` is the DRAM error its data meets, 1 corrected or 2 uncorrectable. -/
def execStoCommandUnit (u : UnitMsg) (port dram : Nat) (s : State) : Host.Outcome State Fault Refusal :=
  guardedIn 13 s (decide (port < 24) && decide (dram < 3)) (s.begin.takeStorage u port dram)

/-- STO_DATA_UNIT (R278). -/
def execStoDataUnit (u : UnitMsg) (port dram : Nat) (s : State) : Host.Outcome State Fault Refusal :=
  guardedIn 13 s (decide (port < 24) && decide (dram < 3)) (s.begin.takeStorage u port dram)

/-- STO_DATA_TIMEOUT (R278): no unit followed a WRITE within STO_DATA_TMO; a draining tunnel waits for it to the end of STO_DRAIN (Table 8.6). -/
def execStoDataTimeout (b : Nat) (s : State) : Host.Outcome State Fault Refusal :=
  guardedIn 13 s (decide (b < 32))
    (match (s.stoTun b).next with
     | .data k => if s.btState b = btDraining then s.begin else (s.begin.dataMissing b k (.drop false)).settled
     | _ => s.begin)

/-- NVME_COMPLETION (R281): the controller completes the command in a slot with SCT and SC `sc` and DNR, having written a READ's `data` to the slot. -/
def execNvmeCompletion (b slot sc dnr dram : Nat) (data : List Byte) (s : State) :
    Host.Outcome State Fault Refusal :=
  guardedIn 13 s (decide (b < 32) && decide (slot < 64) && decide (sc < 2048) && decide (dnr < 2) && decide (dram < 3))
    (let s := s.begin
     match s.cmdAt b slot with
     | none => s
     | some c =>
       let n := c.nlb * s.btBlock b
       let s := if c.op = 1 then s.dramWrite (s.slotAddr b slot) (data.take n) else s
       match c.phase with
       | .timedOut => ((s.freeSlot b slot).bump R.STO_LATE).settled
       | .sent =>
         let s := s.stoDram dram
         let s := if c.op = 1 ∧ sc = 0 then s.dramMoves 0x1C0 (s.slotAddr b slot) n else s
         if dram = 2 then (s.finishCmd b c stDramErr none).settled
         else
           (s.finishCmd b c (nvmeStatus sc dnr)
             (if c.op = 1 ∧ sc = 0 then some (s.dramRead (s.slotAddr b slot) n) else none)).settled
       | _ => s)

/-- STO_FENCE (R282): a FENCE unit of a request tunnel. -/
def execStoFence (u : UnitMsg) (port : Nat) (s : State) : Host.Outcome State Fault Refusal :=
  guardedIn 13 s (decide (port < 24)) (s.begin.takeStorage { u with kind := kindFence, payload := [] } port 0)

/-- STO_CMD_TIMEOUT (R284): of a WRITE that still waits for its data too, whose data unit is then discarded. -/
def execStoCmdTimeout (b slot : Nat) (s : State) : Host.Outcome State Fault Refusal :=
  guardedIn 13 s (decide (b < 32) && decide (slot < 64))
    (let s := s.begin
     let note := fun (s : State) (c : StoCmd) =>
       ((s.bump R.STO_BT_TMO 0 b).tally 0x162).event btPage 2 (b + c.tag * 2 ^ 16)
     match s.cmdAt b slot with
     | none => s
     | some c =>
       match c.phase with
       | .replied | .timedOut => s
       | ph =>
         let s := s.updStoTun b (fun t => { t with
           cmds := t.cmds.map (fun x => if x.slot = slot then { x with phase := .timedOut } else x)
           next := if ph = .data then .drop false else t.next })
         (note ((s.nvme (s.btPort b) (.abort (b + 1) slot)).reply b none c.op c.tag stTimeout none) c).settled)

/-- STO_ABORT_TIMEOUT (R284): a timed-out command is not complete after a further STO_CMD_TMO. -/
def execStoAbortTimeout (b slot : Nat) (s : State) : Host.Outcome State Fault Refusal :=
  guardedIn 13 s (decide (b < 32) && decide (slot < 64))
    (match s.cmdAt b slot with
     | some c => if c.phase = .timedOut then s.begin.rpReset (s.btPort b) rpcNone false else s.begin
     | none => s.begin)

/-- ROOT_PORT_ENABLE (R274): a write of STO_RP_CFG with EN 1. -/
def execRootPortEnable (path p data : Nat) (s : State) : Host.Outcome State Fault Refusal :=
  guarded (decide (path < 8) && decide (p < 2)) (s.begin.rpCfgWrite path p (data / 2 * 2 + 1))

/-- RP_BRINGUP_STEP_DONE (R274). -/
def execRpBringupStepDone (p : Nat) (found : RpFinding) (s : State) : Host.Outcome State Fault Refusal :=
  guardedIn 13 s (decide (p < 2)) (s.begin.rpStep p found)

/-- CONTROLLER_READY_TIMEOUT (R274). -/
def execControllerReadyTimeout (p : Nat) (s : State) : Host.Outcome State Fault Refusal :=
  guardedIn 13 s (decide (p < 2)) (if (s.stoPort p).step = 5 then s.begin.rpFail p rpcReadyTmo else s.begin)

/-- ROOT_PORT_DISABLE (R288): a write of STO_RP_CFG with EN 0. -/
def execRootPortDisable (path p data : Nat) (s : State) : Host.Outcome State Fault Refusal :=
  guarded (decide (path < 8) && decide (p < 2)) (s.begin.rpCfgWrite path p (data / 2 * 2))

/-- CONTROLLER_RESET_CMD (R285): STO_RP_CMD RESET. -/
def execControllerResetCmd (path p : Nat) (s : State) : Host.Outcome State Fault Refusal :=
  guarded (decide (path < 8) && decide (p < 2))
    (s.begin.gateWrite path (0x311044 + 0x1000 * p) 1 (fun s =>
      (s.wr R.STO_RP_STAT_LAST_RESULT 0 p).rpReset p rpcNone false))

/-- RP_RESCAN (R268): STO_RP_CMD RESCAN, with the namespaces that the controller now has. -/
def execRpRescan (path p : Nat) (spaces : List NsInfo) (s : State) : Host.Outcome State Fault Refusal :=
  guarded (decide (path < 8) && decide (p < 2))
    (s.begin.gateWrite path (0x311044 + 0x1000 * p) 2 (fun s =>
      if s.tunsOn p ≠ [] ∨ s.rpState p ≠ rpReady then s.wr R.STO_RP_STAT_LAST_RESULT 0xC p
      else (s.wr R.STO_RP_STAT_LAST_RESULT 0 p).fillSpaces p spaces))

/-- CONTROLLER_FATAL (R285): CSTS.CFS, or a fatal AER message. -/
def execControllerFatal (p : Nat) (aer : Bool) (s : State) : Host.Outcome State Fault Refusal :=
  guardedIn 13 s (decide (p < 2))
    (if aer then ((s.begin.bump R.STO_RP_AER_UNCORR p).irq (rpPage p) 3).rpReset p rpcNone false
     else s.begin.rpReset p rpcCfs false)

/-- RP_LINK_DOWN (R285). -/
def execRpLinkDown (p : Nat) (s : State) : Host.Outcome State Fault Refusal :=
  guardedIn 13 s (decide (p < 2)) (s.begin.rpReset p rpcLinkDown true)

/-- AER_MESSAGE (R273): a correctable or an uncorrectable message that is not fatal. -/
def execAerMessage (p : Nat) (uncorr : Bool) (s : State) : Host.Outcome State Fault Refusal :=
  guardedIn 13 s (decide (p < 2))
    ((s.begin.bump (if uncorr then R.STO_RP_AER_UNCORR else R.STO_RP_AER_CORR) p).irq (rpPage p) 3)

/-- BLOCK_TUNNEL_ENABLE (R269): a write of STO_BT_CFG with EN 1. -/
def execBlockTunnelEnable (path data : Nat) (s : State) : Host.Outcome State Fault Refusal :=
  guarded (decide (path < 8)) (s.begin.btCfgWrite path (data / 2 * 2 + 1))

/-- BLOCK_TUNNEL_DISABLE (R287): a write of STO_BT_CFG with EN 0. -/
def execBlockTunnelDisable (path data : Nat) (s : State) : Host.Outcome State Fault Refusal :=
  guarded (decide (path < 8)) (s.begin.btCfgWrite path (data / 2 * 2))

/-- BLOCK_TUNNEL_DRAIN_TIMEOUT (R287): STO_DRAIN has passed. -/
def execBlockTunnelDrainTimeout (b : Nat) (s : State) : Host.Outcome State Fault Refusal :=
  guardedIn 13 s (decide (b < 32)) (s.begin.btDrainTimeout b)

/-- ADMIN_COMMAND_DONE (R287): the queue creation or deletion in progress for a tunnel ends. -/
def execAdminCommandDone (b : Nat) (ok : Bool) (s : State) : Host.Outcome State Fault Refusal :=
  guardedIn 13 s (decide (b < 32)) (s.begin.adminDone b ok)

/-- QUEUE_DELETE_TIMEOUT (R287). -/
def execQueueDeleteTimeout (b : Nat) (s : State) : Host.Outcome State Fault Refusal :=
  guardedIn 13 s (decide (b < 32))
    (if (s.stoTun b).admin = 3 ∨ (s.stoTun b).admin = 4 then s.begin.rpReset (s.btPort b) rpcAdminTmo false else s.begin)

end Sys2Proof.Machine
end

