-- ==== Sys2Proof/Machine/Usb.lean ====
section
/-! DEFINITION. The USB adapter (chapter 11): EP0 and descriptors, bulk endpoints bound to tunnels, suspend and remote wake, bus reset, drains, and the hub's ports. -/

namespace Sys2Proof.Machine

/-- The USB adapter's switch port, and its pages. -/
def spUsb : Nat := 20
def usbPage : Nat := 0x350
def usbEpPage : Nat := 0x351
def usbHubPage : Nat := 0x352

/-- USB_STAT.STATE. -/
def usbDetached : Nat := 0
def usbDefault : Nat := 1
def usbAddressed : Nat := 2
def usbConfigured : Nat := 3

/-- USB_EP_STAT.STATE. -/
def epDisabled : Nat := 0
def epOpen : Nat := 1
def epDraining : Nat := 2

/-- USB_PORT_STAT.STATE. -/
def portOff : Nat := 0
def portDisconnected : Nat := 1
def portDisabled : Nat := 2
def portEnabled : Nat := 3
def portSuspended : Nat := 4
def portResetting : Nat := 5

/-- The data of a stage have their width. -/
def ctlStageOk : CtlStage → Bool
  | .data word => decide (word < 2 ^ 32)
  | .setup | .status => true

/-- A data toggle is DATA0 or DATA1. -/
def outTokenOk : OutToken → Bool
  | .ping => true
  | .packet toggle => decide (toggle < 2)

/-- An IN token goes to an IN endpoint of the function, or, with none, to the hub's status-change endpoint. -/
def inTokenOk : Option Nat → Bool
  | none => true
  | some e => decide (17 ≤ e) && decide (e < 32)

/-- Answers of the function. -/
def usbAck : Nat := 0
def usbNak : Nat := 1
def usbNyet : Nat := 2
def usbStall : Nat := 3
def usbData : Nat := 4

/-- An endpoint is an IN endpoint; its address as USB gives it (R356). -/
def epIn (e : Nat) : Bool := decide (16 < e)
def epAddr (e : Nat) : Nat := if epIn e then 0x80 + (e - 16) else e

/-- The endpoint number of an endpoint address. -/
def epOfAddr (a : Nat) : Nat := a % 16 + (if a.testBit 7 then 16 else 0)

/-- An endpoint number names a bulk endpoint. -/
def epNamed (e : Nat) : Bool := decide (1 ≤ e) && decide (e < 32) && e != 16

/-- The bulk endpoints. -/
def bulkEps : List Nat := (List.range 32).filter epNamed

/-- Descriptor `k` of the string store (R352). -/
def descriptorAt : Nat → Nat → List Byte → Option (List Byte)
  | 0, _, _ => none
  | fuel + 1, k, l =>
    match l with
    | [] => none
    | b :: _ =>
      if b = 0 then none
      else if k = 0 then some (l.take b.toNat)
      else descriptorAt fuel (k - 1) (l.drop b.toNat)

/-- The endpoint descriptors of the function's interface (R352). -/
def epDescriptors (maxp : Nat) (interval : Byte) : List Byte :=
  bulkEps.flatMap (fun e => [7, 5] ++ toLe 1 (epAddr e) ++ [2] ++ toLe 2 maxp ++ [interval])

namespace State

def updUsb (s : State) (f : UsbState → UsbState) : State := { s with usb := f s.usb }
def ep (s : State) (e : Nat) : UsbEp := s.usb.eps.get {} e
def setEp (s : State) (e : Nat) (x : UsbEp) : State := s.updUsb (fun u => { u with eps := u.eps.set {} e x })
def epField (s : State) (f : Field) (e : Nat) : Nat := s.rd f 0 e
def epState (s : State) (e : Nat) : Nat := s.epField R.USB_EP_STAT_STATE e
def epTid (s : State) (e : Nat) : Nat := s.epField R.USB_EP_TID_TID e
def epHalted (s : State) (e : Nat) : Bool := s.epField R.USB_EP_STAT_HALTED e == 1
def usbState (s : State) : Nat := s.rd R.USB_STAT_STATE
def usbSuspended (s : State) : Bool := s.rd R.USB_STAT_SUSPENDED == 1
def wakePending (s : State) : Bool := s.rd R.USB_STAT_WAKE_PENDING == 1

/-- The function answers on an endpoint. -/
def usbAnswer (s : State) (e code : Nat) (data : List Byte) : State :=
  let s := s.emit (.usb (epAddr e) code data)
  if code = usbNak then s.tally 0x182 else s

/-- The maximum bulk packet at the speed in use (R349). -/
def usbMaxPacket (s : State) : Nat := if s.rd R.USB_STAT_HS = 1 then 512 else 64

/-- A packet is in an endpoint's buffer, or nothing is (USB_EP_STAT.FULL and the bytes). -/
def setEpBuf (s : State) (e : Nat) (x : UsbEp) : State :=
  let s := s.setEp e x
  (s.wr R.USB_EP_STAT_FULL (if x.buf.isSome then 1 else 0) 0 e).wr R.USB_EP_STAT_BYTES ((x.buf.getD []).length) 0 e

/-- The data toggle of an endpoint changes. -/
def flipToggle (s : State) (e : Nat) : State := s.wr R.USB_EP_STAT_TOGGLE (1 - s.epField R.USB_EP_STAT_TOGGLE e) 0 e

/-! ### Detaching and drains -/

/-- The function detaches: the host sees a disconnect (R351). -/
def usbDetach (s : State) : State :=
  let s := s.updUsb (fun u => { u with
    attached := false, selective := false, driving := false, setup := [], ep0Out := [], ep0In := [], writing := false, hubAddr := 0, hubConf := 0,
    hubWake := false, hubWaking := false, hubHalt := false, portChange := [] })
  let s := ((s.wr R.USB_STAT_STATE usbDetached).wr R.USB_STAT_SUSPENDED 0).wr R.USB_STAT_HS 0
  ((s.wr R.USB_STAT_REMOTE_WAKE 0).wr R.USB_STAT_WAKE_PENDING 0).wr R.USB_STAT_ADDRESS 0

/-- The function attaches while EN is 1 and VBUS is present (R351). -/
def usbAttach (s : State) : State :=
  if s.rd R.USB_CFG_EN = 1 ∧ s.rd R.USB_STAT_VBUS = 1 ∧ s.usb.attached = false then
    (s.updUsb (fun u => { u with attached := true })).wr R.USB_STAT_STATE usbDefault
  else s

/-- EN is 0 and no endpoint is left to drain: the function detaches (R371). -/
def usbDetachIfDone (s : State) : State :=
  if s.rd R.USB_CFG_EN = 0 ∧ s.usb.attached ∧ bulkEps.all (fun e => s.epState e == epDisabled) = true then s.usbDetach else s

/-- A draining endpoint with an empty buffer reads DISABLED (R370). -/
def epDrained (s : State) (e : Nat) : State :=
  if s.epState e = epDraining ∧ (s.ep e).buf = none then
    ((s.wr R.USB_EP_STAT_STATE epDisabled 0 e).irq usbEpPage 0).usbDetachIfDone
  else s

/-- The buffer of an endpoint is empty: a FENCE that waited for it is complete (R362), and a drain may be done. -/
def epEmptied (s : State) (e : Nat) : State := (s.setEpBuf e {}).epDrained e

/-! ### OUT endpoints -/

/-- The payload of Table 11.3. -/
def usbPayload (e : Nat) (short : Bool) (data : List Byte) : List Byte :=
  toBe 1 (epAddr e) ++ toBe 1 (if short then 1 else 0) ++ toBe 2 data.length ++ data

/-- The packet of endpoint `e` waits at the ingress point, which it joined while nothing waited there. -/
def packetWaits (s : State) (e : Nat) : Bool :=
  s.usb.entering && (s.sch.ingress.get [] spUsb).head?.any (fun w => w.kind == kindData && w.tid == s.epTid e)

/-- OUT packets enter the planes in turn, as far as the ingress point takes them, and free their buffers (R357). -/
def pumpUsb : Nat → State → State
  | 0, s => s
  | fuel + 1, s =>
    match s.usb.outQ with
    | [] => s
    | e :: es =>
      if s.packetWaits e then s
      else if s.usb.entering then pumpUsb fuel ((s.updUsb (fun u => { u with outQ := es, entering := false })).epEmptied e)
      else if !(s.sch.ingress.get [] spUsb).isEmpty then s
      else
        let d := (s.ep e).buf.getD []
        pumpUsb fuel ((s.updUsb (fun u => { u with entering := true })).originUnitAt spUsb (s.epTid e) kindData
          (usbPayload e (decide (d.length < s.usbMaxPacket)) d) (s.ep e).tsw)

def usbSettled (s : State) : State := pumpUsb (2 * s.usb.outQ.length + 1) s

/-- Empties a buffer without its packet passing; an OUT packet that waits at the ingress point leaves it. -/
def dropPacket (s : State) (e : Nat) : State :=
  let head := s.usb.entering && s.usb.outQ.head? == some e
  let s := if head && s.packetWaits e then s.setIngress spUsb ((s.sch.ingress.get [] spUsb).drop 1) else s
  let s := s.updUsb (fun u => { u with outQ := u.outQ.filter (· ≠ e), entering := if head then false else u.entering })
  s.epEmptied e

/-- Empties a buffer and counts the packet (R363, R364, R369). -/
def flushEp (s : State) (e : Nat) : State :=
  if (s.ep e).buf = none then s else (s.bump R.USB_EP_FLUSHED 0 e).dropPacket e

/-- An error in endpoint memory: 1 corrected, 2 uncorrectable (Table 11.7). -/
def usbEcc (s : State) (ecc : Nat) : State :=
  if ecc = 1 then (s.bump R.USB_ECC_CNT_CORR).tally 0x1D0
  else if ecc = 2 then ((s.bump R.USB_ECC_CNT_UNCORR).tally 0x1D1).irq usbPage 7
  else s

/-- A PING at high speed: ACK when the endpoint could take a packet, NAK when not (R357, R370). -/
def usbPing (s : State) (e : Nat) : State :=
  if s.usbState ≠ usbConfigured ∨ s.rd R.USB_STAT_HS = 0 then s
  else if s.epHalted e then s.usbAnswer e usbStall []
  else s.usbAnswer e (if s.epState e = epOpen ∧ (s.ep e).buf = none then usbAck else usbNak) []

/-- An OUT packet (R357). An endpoint that is full or not open answers NAK; a packet with the toggle of the last one is acknowledged and dropped, as USB 2.0 gives. -/
def usbOut (s : State) (e toggle ecc : Nat) (data : List Byte) : State :=
  if s.usbState ≠ usbConfigured ∨ s.usbMaxPacket < data.length then s
  else if s.epHalted e then s.usbAnswer e usbStall []
  else if s.epState e ≠ epOpen ∨ (s.ep e).buf ≠ none then s.usbAnswer e usbNak []
  else if toggle ≠ s.epField R.USB_EP_STAT_TOGGLE e then s.usbAnswer e usbAck []
  else
    let s := ((s.flipToggle e).bumpWrap R.USB_EP_PKTS 0 e).tally 0x180
    let s := (s.setEpBuf e { buf := some data, tsw := s.tswNow }).updUsb (fun u => { u with outQ := u.outQ ++ [e] })
    if ecc = 2 then ((s.usbEcc ecc).flushEp e).usbAnswer e usbAck []
    else
      let s := (s.usbEcc ecc).usbSettled
      s.usbAnswer e (if (s.ep e).buf ≠ none ∧ s.rd R.USB_STAT_HS = 1 then usbNyet else usbAck) []

/-! ### IN endpoints -/

/-- A unit at SP20 is discarded as unbound or as malformed (R359). -/
def usbUnbound (s : State) : State := (s.bump R.USB_UNBOUND).irq usbPage 4
def usbBadUnit (s : State) : State := (s.bump R.USB_BAD_UNIT).irq usbPage 5

/-- A packet enters the buffer of an IN endpoint, which may trigger a remote wake (R358, R367). -/
def usbTake (s : State) (e : Nat) (data : List Byte) (last : Bool) : State :=
  let s := s.setEpBuf e { buf := some data, last := last }
  if s.usbSuspended ∧ s.epField R.USB_EP_CFG_WAKE e = 1 ∧ s.rd R.USB_CFG_WAKE_EN = 1 ∧ s.rd R.USB_STAT_REMOTE_WAKE = 1 then
    s.wr R.USB_STAT_WAKE_PENDING 1
  else s

/-- A DATA unit at SP20 (R358, R359); it stays in the planes while the buffer is full or the endpoint halted. -/
def usbUnit (s : State) (u : UnitMsg) : State :=
  match s.inEndpoint u.tid with
  | none => s.usbUnbound
  | some e =>
    let p := u.payload
    let len := beAt p 2 2
    if p.length < 4 ∨ p.length ≠ 4 + len ∨ s.usbMaxPacket < len ∨ beAt p 1 1 / 2 ≠ 0 ∨ s.usbState ≠ usbConfigured then s.usbBadUnit
    else if s.epState e = epDraining then s.bump R.USB_EP_REFUSED 0 e
    else if (s.ep e).buf ≠ none ∨ s.epHalted e then s
    else s.usbTake e (p.drop 4) ((beAt p 1 1).testBit 0)

/-- A MESSAGE that the router delivers to IN endpoint `e` (R361): the new state, or none while the endpoint cannot take it. -/
def usbMessage (s : State) (e : Nat) (body : List Byte) : Option State :=
  if s.usbMaxPacket < body.length ∨ s.usbState ≠ usbConfigured then some s.usbBadUnit
  else if s.epState e = epDraining then some (s.bump R.USB_EP_REFUSED 0 e)
  else if s.epState e = epDisabled then some s.usbUnbound
  else if (s.ep e).buf ≠ none ∨ s.epHalted e then none
  else some (s.usbTake e body true)

/-- An IN token (R360, R364). -/
def usbToken (s : State) (e ecc : Nat) : State :=
  let x := s.ep e
  if s.usbState ≠ usbConfigured then s
  else if s.epHalted e then s.usbAnswer e usbStall []
  else if x.resetAfter then (s.flushEp e).usbAnswer e usbNak []
  else
    match x.buf with
    | none => s.usbAnswer e usbNak []
    | some d =>
      if ecc = 2 then ((s.usbEcc ecc).flushEp e).usbAnswer e usbNak []
      else ((s.usbEcc ecc).setEp e { x with offered := true }).usbAnswer e usbData (if x.zlp then [] else d)

/-- The host acknowledges an IN packet (R360, R363). -/
def usbAcked (s : State) (e : Nat) : State :=
  let x := s.ep e
  match x.buf with
  | none => s
  | some d =>
    if !x.offered then s
    else
      let s := (s.flipToggle e).tally 0x181
      if x.zlp then s.epEmptied e
      else
        let s := s.bumpWrap R.USB_EP_PKTS 0 e
        if x.last ∧ d.length = s.usbMaxPacket ∧ x.resetAfter = false then s.setEp e { x with zlp := true, offered := false }
        else s.epEmptied e

/-- A FENCE unit at SP20 completes once the buffer is empty (R359, R362). -/
def usbFence (s : State) (u : UnitMsg) : State :=
  match s.inEndpoint u.tid with
  | none => s.usbUnbound
  | some e =>
    if s.usbState ≠ usbConfigured then s.usbBadUnit
    else if s.epState e = epDraining then s.bump R.USB_EP_REFUSED 0 e
    else if (s.ep e).buf = none then s
    else s.setEp e { s.ep e with fence := true }

/-- An ENDPOINT_RESET unit at SP20 (R359, R363): a packet that is being sent is finished first, but not on a halted endpoint, which sends nothing (Table 11.6); a draining one takes nothing new (R370). -/
def usbResetUnit (s : State) (u : UnitMsg) : State :=
  match s.inEndpoint u.tid with
  | none => s.usbUnbound
  | some e =>
    if s.usbState ≠ usbConfigured then s.usbBadUnit
    else if s.epState e = epDraining then s.bump R.USB_EP_REFUSED 0 e
    else
      let s := (s.bump R.USB_EP_RESETS 0 e).irq usbEpPage 1
      if (s.ep e).offered && !s.epHalted e then s.setEp e { s.ep e with resetAfter := true } else s.flushEp e

/-- The adapter sends an ENDPOINT_RESET unit for an enabled endpoint (R364, R369). -/
def sendReset (s : State) (e : Nat) : State :=
  let t := if epIn e then s.epField R.USB_EP_TID_NTID e else s.epTid e
  if s.epState e = epDisabled ∨ t = 0 then s
  else (s.originUnit spUsb t kindEndpointReset (toBe 1 (epAddr e))).bump R.USB_EP_RESETS 0 e

/-- CLEAR_FEATURE(ENDPOINT_HALT) (R364). -/
def clearHalt (s : State) (e : Nat) : State :=
  let s := (s.wr R.USB_EP_STAT_HALTED 0 0 e).wr R.USB_EP_STAT_TOGGLE 0 0 e
  ((s.flushEp e).sendReset e).usbSettled

/-- SET_FEATURE(ENDPOINT_HALT) (R364): the buffer keeps its content, unless an ENDPOINT_RESET waits for it. -/
def setHalt (s : State) (e : Nat) : State :=
  let s := s.wr R.USB_EP_STAT_HALTED 1 0 e
  if (s.ep e).resetAfter then s.flushEp e else s

/-! ### Suspend, wake and reset -/

/-- The function suspends (R366). -/
def usbSuspend (s : State) (selective : Bool) : State :=
  if s.usb.attached = false then s
  else if s.usbSuspended then (if selective then s else s.updUsb (fun u => { u with selective := false }))
  else
    let s := s.updUsb (fun u => { u with selective := selective, driving := false, hubWaking := false })
    ((s.wr R.USB_STAT_SUSPENDED 1).bump R.USB_SUSPEND_CNT).irq usbPage 1

/-- A change of a hub port that the hub reports to the host until the host clears it. -/
def portChanged (s : State) (n bit : Nat) : State :=
  s.updUsb (fun u => { u with portChange := u.portChange.upd 0 n (fun w => w ||| 2 ^ bit) })

/-- The function signals its wake (R367): K upstream for K_MS, or on port 5. -/
def wakeSignal (s : State) : State :=
  let ms := s.rd R.USB_CFG_K_MS
  (s.updUsb (fun u => { u with driving := true, kUntil := s.hw + ms * 1000000 })).emit (.usbWake s.usb.selective ms)

/-- The function sees a host resume (R368): of the bus, or of port 5, whose change the hub then reports. -/
def hostResume (s : State) : State :=
  if !s.usbSuspended then s
  else
    let drove := s.usb.driving
    let pending := s.wakePending
    let s := if drove && decide (s.hw < s.usb.kUntil) then s.emit .usbWakeStop else s
    let s := if s.usb.selective then s.portChanged 4 2 else s
    let s := (s.wr R.USB_STAT_SUSPENDED 0).wr R.USB_STAT_WAKE_PENDING 0
    let s := (s.updUsb (fun u => { u with driving := false, selective := false, hubWaking := false })).irq usbPage 2
    if pending then
      let s := (s.bump R.USB_WAKE_CNT).irq usbPage 3
      if drove then s else s.bump R.USB_WAKE_COLL
    else s

/-- A reset of the upstream port resets the hub: its downstream ports are disabled, and the speed is found again (R369). -/
def hubReset (s : State) (hs : Bool) : State :=
  let s := (s.wr R.USB_STAT_HS (if hs && s.rd R.USB_CFG_FS_ONLY == 0 then 1 else 0)).updUsb (fun u =>
    { u with hubAddr := 0, hubConf := 0, hubWake := false, hubWaking := false, hubHalt := false, portChange := [], portReset := [] })
  (List.range 4).foldl (fun s n =>
    if portEnabled ≤ s.rd R.USB_PORT_STAT_STATE 0 n then s.wr R.USB_PORT_STAT_STATE portDisabled 0 n else s) s

/-- A bus reset (R369): of the upstream port, or of port 5; a control transfer in progress is abandoned with the access it waits for, and a drain is done at once (Table 11.6). `control` says that a transfer other than a CSR_WRITE was in progress. -/
def usbReset (s : State) (port5 hs control : Bool) : State :=
  if s.usb.attached = false then s
  else
    let lost := control || s.usb.writing || s.pwr.waiting.any (fun w => w.path == pathUsb)
    let s : State := { s with pwr := { s.pwr with waiting := s.pwr.waiting.filter (fun w => w.path != pathUsb) } }
    let s := s.updUsb (fun u =>
      { u with selective := false, driving := false, setup := [], ep0Out := [], ep0In := [], writing := false })
    let s := bulkEps.foldl (fun s e => (s.wr R.USB_EP_STAT_HALTED 0 0 e).wr R.USB_EP_STAT_TOGGLE 0 0 e) s
    let s := ((s.wr R.USB_STAT_STATE usbDefault).wr R.USB_STAT_ADDRESS 0).wr R.USB_STAT_REMOTE_WAKE 0
    let s := (s.wr R.USB_STAT_WAKE_PENDING 0).wr R.USB_STAT_SUSPENDED 0
    let s := s.bump R.USB_BUS_RESET_CNT
    let s := if lost then (s.bump R.USB_CTL_ABANDON).irq usbPage 6 else s
    let s := if port5 then s.portChanged 4 4 else s.hubReset hs
    ((bulkEps.foldl sendReset (bulkEps.foldl flushEp s)).usbSettled).event usbPage 0 (s.rd R.USB_CTL_ABANDON)

/-! ### EN, enables and drains -/

/-- What enabling endpoint `e` is refused with; 0 when it opens (R355). -/
def epResult (s : State) (e : Nat) : Nat :=
  let t := s.epTid e
  if t = 0 then 1
  else if epIn e && bulkEps.any (fun f => epIn f && f != e && s.epState f != epDisabled && s.epTid f == t) then 2
  else 0

/-- An endpoint drains (R370); its EN stays as it is. -/
def epDrains (s : State) (e : Nat) : State :=
  if s.epState e = epOpen then (s.wr R.USB_EP_STAT_STATE epDraining 0 e).epDrained e else s

/-- EN of an endpoint becomes 0. -/
def epStop (s : State) (e : Nat) : State := (s.wr R.USB_EP_CFG_EN 0 0 e).epDrains e

/-- A write of USB_EP_CFG of the indexed endpoint. -/
def epCfgWrite (s : State) (path data : Nat) : State :=
  s.gateWrite path 0x351044 data (fun s =>
    let e := s.rd R.USB_EP_INDEX
    let s := s.store path 0x351044 data [R.USB_EP_CFG_WAKE] 0 e
    if data % 2 = 0 then s.epStop e
    else if s.epState e ≠ epDisabled then s
    else
      let r := s.epResult e
      let s := s.wr R.USB_EP_STAT_RESULT r 0 e
      if r ≠ 0 then s
      else
        let s := s.wr R.USB_EP_CFG_EN 1 0 e
        if s.drainedTo 2 then s else s.wr R.USB_EP_STAT_STATE epOpen 0 e)

/-- The end of USB_DRAIN for an endpoint (R370). -/
def epDrainEnd (s : State) (e : Nat) : State :=
  if s.epState e ≠ epDraining ∨ (s.ep e).buf = none then s
  else (s.bump R.USB_EP_ABORTED 0 e).dropPacket e

/-- EN of every bulk endpoint becomes 0, for USB_CFG.EN 0. -/
def usbDrainAll (s : State) : State := bulkEps.foldl epStop s

/-- Every bulk endpoint drains, for entry to P2 or deeper (R372). -/
def usbQuiets (s : State) : State := bulkEps.foldl epDrains s

/-- An endpoint with EN 1 is open again (R498); one whose TID, rewritten meanwhile, R355 refuses stays DISABLED with EN 0, as a refused write leaves it. -/
def epResume (s : State) (e : Nat) : State :=
  if s.epField R.USB_EP_CFG_EN e = 1 ∧ s.epState e = epDisabled then
    let r := s.epResult e
    let s := s.wr R.USB_EP_STAT_RESULT r 0 e
    if r = 0 then s.wr R.USB_EP_STAT_STATE epOpen 0 e else s.wr R.USB_EP_CFG_EN 0 0 e
  else s

/-- The endpoints resume, and the function attaches (R498). -/
def usbResumes (s : State) : State := bulkEps.foldl epResume s.usbAttach

/-- A write of USB_CFG (R371); EN 1 is ignored while the function drains to detach. -/
def usbCfgWrite (s : State) (path data : Nat) : State :=
  s.gateWrite path 0x350040 data (fun s =>
    let s := s.store path 0x350040 data [R.USB_CFG_WAKE_EN, R.USB_CFG_FS_ONLY, R.USB_CFG_K_MS]
    if data % 2 = 0 then ((s.wr R.USB_CFG_EN 0).usbDrainAll).usbDetachIfDone
    else if s.rd R.USB_CFG_EN = 0 ∧ s.usb.attached then s
    else (s.wr R.USB_CFG_EN 1).usbAttach)

/-! ### EP0 -/

/-- The bytes of the string store (R350). -/
def stringStore (s : State) : List Byte := (List.range 192).flatMap (fun w => toLe 4 (s.rd R.USB_DESC_DATA 0 w))

/-- A byte that the spec leaves open. -/
def freeByte (s : State) (k : Nat) : Byte := BitVec.ofNat 8 (Config.freeValue (s.free + k)).toNat

/-- The device descriptor of the function or of the hub at high or full speed; the hub, with one Transaction Translator, shows bDeviceProtocol 1 at high speed and 0 at full speed (USB 2.0, log 55). A byte that the spec does not state is free. -/
def deviceDescriptor (s : State) (hub high : Bool) : List Byte :=
  let id := if hub then toLe 2 (s.rd R.USB_ID1_VENDOR) ++ toLe 2 (s.rd R.USB_ID1_PRODUCT)
    else toLe 2 (s.rd R.USB_ID0_VENDOR) ++ toLe 2 (s.rd R.USB_ID0_PRODUCT)
  let cls := if hub then [9, 0, if high then 1 else 0] else [s.freeByte 0, s.freeByte 1, s.freeByte 2]
  [18, 1, 0, 2] ++ cls ++ [64] ++ id ++ toLe 2 (s.rd R.USB_ID2) ++ [1, 2, 3, 1]

/-- The configuration descriptor, with its interface and endpoints, for a maximum bulk packet. -/
def configDescriptor (s : State) (hub : Bool) (kind maxp : Nat) : List Byte :=
  let eps := if hub then [7, 5, 0x81, 3, 1, 0, s.freeByte 3] else epDescriptors maxp (s.freeByte 3)
  let iface := if hub then [9, 4, 0, 0, 1, 9, 0, 0, s.freeByte 4]
    else [9, 4, 0, 0, 30, 0xFF, s.freeByte 4, s.freeByte 5, s.freeByte 6]
  [9] ++ toLe 1 kind ++ toLe 2 (18 + eps.length) ++ [1, 1, 0, 0xE0, s.freeByte 7] ++ iface ++ eps

/-- GET_DESCRIPTOR (R352). -/
def getDescriptor (s : State) (hub : Bool) (value : Nat) : Option (List Byte) :=
  let high := s.rd R.USB_STAT_HS == 1
  let other := if high then 64 else 512
  match value / 256, value % 256 with
  | 1, 0 => some (s.deviceDescriptor hub high)
  | 2, 0 => some (s.configDescriptor hub 2 s.usbMaxPacket)
  | 3, k => descriptorAt 768 k s.stringStore
  | 6, 0 => some ([10, 6] ++ ((s.deviceDescriptor hub !high).drop 2).take 6 ++ [1, 0])
  | 7, 0 => some (s.configDescriptor hub 7 other)
  | _, _ => none

/-- The status stage of a request without data, or STALL. -/
def ep0Ok (s : State) : State := s.emit (.usb 0 usbData [])
def ep0Stall (s : State) : State := s.emit (.usb 0 usbStall [])

/-- A data stage toward the host, cut to the length asked for. -/
def ep0Send (s : State) (len : Nat) (bs : List Byte) : State :=
  (s.updUsb (fun u => { u with ep0In := ((bs.take len).drop ((min bs.length len - 1) / 64 * 64)) })).emit (.usb 0 usbData (bs.take len))

/-- Toggles and halts of the bulk endpoints start again, as USB 2.0 gives for SET_CONFIGURATION and SET_INTERFACE. -/
def endpointsAnew (s : State) : State :=
  bulkEps.foldl (fun s e => (s.wr R.USB_EP_STAT_HALTED 0 0 e).wr R.USB_EP_STAT_TOGGLE 0 0 e) s

/-- SET_CONFIGURATION of the function. -/
def setConfiguration (s : State) (v : Nat) : State :=
  s.endpointsAnew.wr R.USB_STAT_STATE (if v = 1 then usbConfigured else usbAddressed)

/-- Standard requests to the function (R352); a request error of USB 2.0 chapter 9 is a STALL. -/
def functionRequest (s : State) (rtype req value index len : Nat) : State :=
  let e := epOfAddr index
  let conf := s.usbState == usbConfigured
  match rtype, req with
  | 0x80, 0 => s.ep0Send len [BitVec.ofNat 8 (1 + 2 * s.rd R.USB_STAT_REMOTE_WAKE), 0]
  | 0x81, 0 => if conf && index == 0 then s.ep0Send len [0, 0] else s.ep0Stall
  | 0x82, 0 =>
    if e % 16 = 0 then s.ep0Send len [0, 0]
    else if conf && epNamed e then s.ep0Send len [if s.epHalted e then 1 else 0, 0] else s.ep0Stall
  | 0x00, 1 => if value = 1 then (s.wr R.USB_STAT_REMOTE_WAKE 0).ep0Ok else s.ep0Stall
  | 0x00, 3 => if value = 1 then (s.wr R.USB_STAT_REMOTE_WAKE 1).ep0Ok else if value = 2 then s.ep0Ok else s.ep0Stall
  | 0x02, 1 => if value = 0 ∧ epNamed e ∧ conf then (s.clearHalt e).ep0Ok else if value = 0 ∧ e % 16 = 0 then s.ep0Ok else s.ep0Stall
  | 0x02, 3 => if value = 0 ∧ epNamed e ∧ conf then (s.setHalt e).ep0Ok else s.ep0Stall
  | 0x00, 5 =>
    ((s.wr R.USB_STAT_ADDRESS (value % 128)).wr R.USB_STAT_STATE (if value % 128 = 0 then usbDefault else usbAddressed)).ep0Ok
  | 0x80, 6 =>
    match s.getDescriptor false value with
    | some d => ({ s with free := s.free + 8 }).ep0Send len d
    | none => s.ep0Stall
  | 0x80, 8 => s.ep0Send len [if conf then 1 else 0]
  | 0x00, 9 => if value % 256 ≤ 1 ∧ usbAddressed ≤ s.usbState then (s.setConfiguration (value % 256)).ep0Ok else s.ep0Stall
  | 0x81, 10 => if conf && index == 0 then s.ep0Send len [0] else s.ep0Stall
  | 0x01, 11 => if conf && index == 0 && value == 0 then s.endpointsAnew.ep0Ok else s.ep0Stall
  | _, _ => s.ep0Stall

/-- A hub wake event: in global suspend a wake of the hub is pending when the host has enabled it (Table 11.6, log 155). -/
def hubEvent (s : State) : State :=
  if s.usbSuspended && !s.usb.selective && s.usb.hubWake then s.updUsb (fun u => { u with hubWaking := true }) else s

/-- The host clears a change of a hub port. -/
def portCleared (s : State) (n bit : Nat) : State :=
  s.updUsb (fun u => { u with portChange := u.portChange.upd 0 n (fun w => if w.testBit bit then w - 2 ^ bit else w) })

/-- A downstream port is in a reset no longer. -/
def resetGone (s : State) (n : Nat) : State := s.updUsb (fun u => { u with portReset := u.portReset.set 0 n 0 })

/-- The resets of downstream ports that are due end: the port is enabled, and the change is reported. -/
def portResetsEnd (s : State) : State :=
  (s.usb.portReset.filter (fun (x : Nat × Nat) => decide (x.2 ≤ s.hw))).foldl (fun (s : State) (x : Nat × Nat) =>
    if s.rd R.USB_PORT_STAT_STATE 0 x.1 = portResetting then
      ((s.wr R.USB_PORT_STAT_STATE portEnabled 0 x.1).resetGone x.1).portChanged x.1 4
    else s.resetGone x.1) s

/-- The port features of USB 2.0 that Table 11.1 leaves the hub: all but PORT_INDICATOR (R349, log 55). -/
def portFeatures : List Nat := [0, 1, 2, 3, 4, 8, 9, 16, 17, 18, 19, 20, 21]

/-- A port feature that the host sets or clears on downstream port `n` (USB 2.0 chapter 11): power, reset, suspend and enable. A reset lasts 10 to 20 ms there, a free value (log 55). -/
def portFeature (s : State) (n feature : Nat) (set : Bool) : State :=
  let st := s.rd R.USB_PORT_STAT_STATE 0 n
  let go := fun (v : Nat) => s.wr R.USB_PORT_STAT_STATE v 0 n
  match feature, set with
  | 8, true =>
    if (s.rd R.USB_HUB_CFG_PORT_EN).testBit n ∧ st = portOff then
      ((go portDisconnected).wr R.USB_PORT_STAT_POWER 1 0 n).wr R.USB_PORT_STAT_OC 0 0 n
    else s
  | 8, false => ((go portOff).wr R.USB_PORT_STAT_POWER 0 0 n).resetGone n
  | 4, true =>
    if portDisabled ≤ st then
      ((go portResetting).updUsb (fun u =>
        { u with portReset := u.portReset.set 0 n (s.hw + 10000000 + s.freeNat % 10000001) })).tookFree
    else s
  | 2, true => if st = portEnabled then go portSuspended else s
  | 2, false => if st = portSuspended then (go portEnabled).portChanged n 2 else s
  | 1, false => if portEnabled ≤ st then (go portDisabled).resetGone n else s
  | f, false => if 16 ≤ f ∧ f ≤ 20 then s.portCleared n (f - 16) else s
  | _, _ => s

/-- The hub class descriptor (R348, R349): five ports, of which port 5 is not removable; a byte that the spec does not state is free. -/
def hubDescriptor (s : State) : List Byte :=
  [9, 0x29, 5, BitVec.ofNat 8 (12 + s.rd R.USB_HUB_CFG_PWR_SW) + (s.freeByte 0 &&& 0x60), 0] ++
    toLe 1 (s.rd R.USB_HUB_CFG_POWER_ON2GOOD) ++ [s.freeByte 1, 0x20, 0xFF]

/-- The status of a hub port as USB 2.0 gives it; port 5 carries the function. -/
def portStatus (s : State) (port : Nat) : List Byte :=
  let word := fun (conn en susp oc power low high : Bool) =>
    conn.toNat + en.toNat * 2 + susp.toNat * 4 + oc.toNat * 8 + power.toNat * 256 + low.toNat * 512 + high.toNat * 1024
  if port = 5 then
    toLe 2 (word s.usb.attached s.usb.attached (s.usbSuspended && s.usb.selective) false true false (s.rd R.USB_STAT_HS == 1)) ++
      toLe 2 (s.usb.portChange.get 0 4)
  else
    let n := port - 1
    let st := s.rd R.USB_PORT_STAT_STATE 0 n
    let conn := decide (portDisabled ≤ st)
    let speed := s.rd R.USB_PORT_STAT_SPEED 0 n
    toLe 2 (word conn (decide (portEnabled ≤ st) && st != portResetting) (st == portSuspended) (s.rd R.USB_PORT_STAT_OC 0 n == 1)
      (s.rd R.USB_PORT_STAT_POWER 0 n == 1) (conn && speed == 0) (conn && speed == 2) +
        (if st = portResetting then 16 else 0)) ++ toLe 2 (s.usb.portChange.get 0 n)

/-- Requests to the hub: the standard requests, and the descriptor, status and port features of USB 2.0 chapter 11; port 5 carries the function. -/
def hubRequest (s : State) (rtype req value index len : Nat) : State :=
  let port := index % 256
  match rtype, req with
  | 0x80, 0 => s.ep0Send len [if s.usb.hubWake then 3 else 1, 0]
  | 0x81, 0 => if s.usb.hubConf = 1 ∧ index = 0 then s.ep0Send len [0, 0] else s.ep0Stall
  | 0x82, 0 =>
    if index % 16 = 0 then s.ep0Send len [0, 0]
    else if s.usb.hubConf = 1 ∧ index % 256 = 0x81 then s.ep0Send len [if s.usb.hubHalt then 1 else 0, 0] else s.ep0Stall
  | 0x00, 1 => if value = 1 then (s.updUsb (fun u => { u with hubWake := false })).ep0Ok else s.ep0Stall
  | 0x00, 3 =>
    if value = 1 then (s.updUsb (fun u => { u with hubWake := true })).ep0Ok else if value = 2 then s.ep0Ok else s.ep0Stall
  | 0x02, 1 =>
    if value = 0 ∧ index % 256 = 0x81 ∧ s.usb.hubConf = 1 then (s.updUsb (fun u => { u with hubHalt := false })).ep0Ok
    else if value = 0 ∧ index % 16 = 0 then s.ep0Ok else s.ep0Stall
  | 0x02, 3 => if value = 0 ∧ index % 256 = 0x81 ∧ s.usb.hubConf = 1 then (s.updUsb (fun u => { u with hubHalt := true })).ep0Ok else s.ep0Stall
  | 0x81, 10 => if s.usb.hubConf = 1 ∧ index = 0 then s.ep0Send len [0] else s.ep0Stall
  | 0x01, 11 => if s.usb.hubConf = 1 ∧ index = 0 ∧ value = 0 then (s.updUsb (fun u => { u with hubHalt := false })).ep0Ok else s.ep0Stall
  | 0xA0, 0 => s.ep0Send len [0, 0, 0, 0]
  | 0xA0, 6 => if value / 256 = 0x29 then ({ s with free := s.free + 2 }).ep0Send len s.hubDescriptor else s.ep0Stall
  | 0xA3, 0 => if 1 ≤ port ∧ port ≤ 5 then s.ep0Send len (s.portStatus port) else s.ep0Stall
  | 0x00, 5 => (s.updUsb (fun u => { u with hubAddr := value % 128 })).ep0Ok
  | 0x80, 6 =>
    match s.getDescriptor true value with
    | some d => ({ s with free := s.free + 8 }).ep0Send len d
    | none => s.ep0Stall
  | 0x80, 8 => s.ep0Send len [BitVec.ofNat 8 s.usb.hubConf]
  | 0x00, 9 => if value % 256 ≤ 1 ∧ s.usb.hubAddr ≠ 0 then (s.updUsb (fun u => { u with hubConf := value % 256, hubHalt := false })).ep0Ok else s.ep0Stall
  | 0x23, 3 =>
    if !portFeatures.contains value then s.ep0Stall
    else if port = 5 then
      (if value = 2 then (s.usbSuspend true).ep0Ok else if value = 4 then (s.usbReset true false false).ep0Ok else s.ep0Ok)
    else if 1 ≤ port ∧ port ≤ 4 then (s.portFeature (port - 1) value true).ep0Ok else s.ep0Stall
  | 0x23, 1 =>
    if !portFeatures.contains value then s.ep0Stall
    else if port = 5 then
      (if value = 2 then (s.hostResume).ep0Ok
       else if 16 ≤ value ∧ value ≤ 20 then (s.portCleared 4 (value - 16)).ep0Ok else s.ep0Ok)
    else if 1 ≤ port ∧ port ≤ 4 then (s.portFeature (port - 1) value false).ep0Ok else s.ep0Stall
  | 0x20, 1 => if value ≤ 1 then s.ep0Ok else s.ep0Stall
  | 0x20, 3 => if value ≤ 1 then s.ep0Ok else s.ep0Stall
  | 0x23, 8 => if index = 1 then s.ep0Ok else s.ep0Stall
  | 0x23, 9 => if index = 1 then s.ep0Ok else s.ep0Stall
  | 0x23, 11 => if index = 1 then s.ep0Ok else s.ep0Stall
  | 0xA3, 10 =>
    if index = 1 then ({ s with free := s.free + len }).ep0Send len ((List.range len).map s.freeByte) else s.ep0Stall
  | _, _ => s.ep0Stall

/-- An IN token to the hub's status-change endpoint (R349): the ports with a change to report, bit n + 1 for port n; NAK when there is none. -/
def hubStatus (s : State) : State :=
  let bits := ((List.range 5).filter (fun n => s.usb.portChange.get 0 n != 0)).map (fun n => 2 ^ (n + 1))
  if s.usb.attached = false ∨ s.usb.hubConf = 0 then s
  else if s.usb.hubHalt then s.emit (.usbHub usbStall [])
  else if bits = [] then (s.emit (.usbHub usbNak [])).tally 0x182
  else s.emit (.usbHub usbData (toLe 1 bits.sum))

/-- An error in the EP0 buffers or the string store: a packet with an uncorrectable one is discarded, and EP0 answers NAK (Table 11.7). -/
def ep0Ecc (s : State) (ecc : Nat) (go : State → State) : State :=
  if ecc = 2 then ((s.usbEcc ecc).updUsb (fun u => { u with ep0Out := [], writing := false })).usbAnswer 0 usbNak []
  else go (s.usbEcc ecc)

end State

/-- UNIT_ENTER_PLANE (R129): an ingress point enters the units that wait there once the planes can allocate their cells; its adapter then hands it the next (R283, R336, R357). -/
def execUnitEnterPlane (sp : Nat) (s : State) : Host.Outcome State Fault Refusal :=
  guardedIn 1 s (decide (16 ≤ sp) && decide (sp < 24))
    (let s := s.begin.pumpIngress sp
     if sp = spStorage then s.settled else if sp = spNetwork then s.netSettled else if sp = spUsb then s.usbSettled
     else if sp = spBridge then s.bridgeSettled else s)

/-- USB_STANDARD_REQUEST (R352): a request on EP0 of the function, or of the hub. -/
def execUsbStandardRequest (tgt : Ep0Target) (rtype req value index len : Nat) (s : State) :
    Host.Outcome State Fault Refusal :=
  guardedIn 15 s (decide (tgt.ecc < 3) && decide (rtype < 256) && decide (req < 256) && decide (value < 65536) && decide (index < 65536) && decide (len < 65536))
    (let s := s.begin
     if s.usb.attached = false then s
     else
       let s := s.updUsb (fun u => { u with
         setup := toLe 1 rtype ++ toLe 1 req ++ toLe 2 value ++ toLe 2 index ++ toLe 2 len, writing := false })
       s.ep0Ecc tgt.ecc (fun s => if tgt.hub then s.hubRequest rtype req value index len else s.functionRequest rtype req value index len))

/-- USB_OUT_PACKET (R357): a packet and the error that endpoint memory shows on it (1 corrected, 2 uncorrectable), or a PING. -/
def execUsbOutPacket (e : Nat) (token : OutToken) (ecc : Nat) (data : List Byte) (s : State) : Host.Outcome State Fault Refusal :=
  guardedIn 15 s (decide (1 ≤ e) && decide (e < 16) && outTokenOk token && decide (ecc < 3))
    (match token with
     | .ping => s.begin.usbPing e
     | .packet toggle => s.begin.usbOut e toggle ecc data)

/-- USB_IN_UNIT (R358): a DATA unit at SP20. -/
def execUsbInUnit (u : UnitMsg) (s : State) : Host.Outcome State Fault Refusal := nextIn 15 s (s.begin.usbUnit u)

/-- USB_IN_TOKEN (R360): to an IN endpoint of the function, or, with none, to the hub's status-change endpoint. -/
def execUsbInToken (e : Option Nat) (ecc : Nat) (s : State) : Host.Outcome State Fault Refusal :=
  guardedIn 15 s (inTokenOk e && decide (ecc < 3))
    (match e with
     | none => s.begin.hubStatus
     | some e => s.begin.usbToken e ecc)

/-- USB_IN_ACK (R360). -/
def execUsbInAck (e : Nat) (s : State) : Host.Outcome State Fault Refusal :=
  guardedIn 15 s (decide (17 ≤ e) && decide (e < 32)) (s.begin.usbAcked e)

/-- USB_FENCE (R362). -/
def execUsbFence (u : UnitMsg) (s : State) : Host.Outcome State Fault Refusal := nextIn 15 s (s.begin.usbFence u)

/-- USB_ENDPOINT_RESET_UNIT (R363). -/
def execUsbEndpointResetUnit (u : UnitMsg) (s : State) : Host.Outcome State Fault Refusal :=
  nextIn 15 s (s.begin.usbResetUnit u)

/-- USB_ENDPOINT_HALT (R364). -/
def execUsbEndpointHalt (e : Nat) (s : State) : Host.Outcome State Fault Refusal :=
  guardedIn 15 s (epNamed e) (if s.usbState = usbConfigured then s.begin.setHalt e else s.begin)

/-- USB_CLEAR_HALT (R364). -/
def execUsbClearHalt (e : Nat) (s : State) : Host.Outcome State Fault Refusal :=
  guardedIn 15 s (epNamed e) (if s.usbState = usbConfigured then s.begin.clearHalt e else s.begin)

/-- USB_SUSPEND (R366). -/
def execUsbSuspend (s : State) : Host.Outcome State Fault Refusal := nextIn 15 s (s.begin.usbSuspend false)

/-- USB_PORT5_SUSPEND (R366). -/
def execUsbPort5Suspend (s : State) : Host.Outcome State Fault Refusal := nextIn 15 s (s.begin.usbSuspend true)

/-- USB_WAKE_SIGNAL (R367): 5 ms have passed since the suspension began; the wake is the function's, or the hub's own (Table 11.6, log 155). -/
def execUsbWakeSignal (s : State) : Host.Outcome State Fault Refusal :=
  nextIn 15 s (if s.usbSuspended && (s.wakePending || s.usb.hubWaking) && !s.usb.driving then s.begin.wakeSignal else s.begin)

/-- USB_HOST_RESUME (R368). -/
def execUsbHostResume (s : State) : Host.Outcome State Fault Refusal := nextIn 15 s s.begin.hostResume

/-- USB_BUS_RESET (R369): of the upstream port, with high speed on offer, or of port 5; `control` when a control transfer is in progress. -/
def execUsbBusReset (port5 hs control : Bool) (s : State) : Host.Outcome State Fault Refusal :=
  nextIn 15 s (s.begin.usbReset port5 hs control)

/-- USB_VBUS_CHANGE (R351). -/
def execUsbVbusChange (present : Bool) (s : State) : Host.Outcome State Fault Refusal :=
  nextIn 15 s
    (let s := s.begin.wr R.USB_STAT_VBUS (if present then 1 else 0)
     if present then s.usbAttach else s.usbDetach)

/-- USB_FUNCTION_EN_WRITE (R371): a write of USB_CFG. -/
def execUsbFunctionEnWrite (path data : Nat) (s : State) : Host.Outcome State Fault Refusal :=
  guarded (decide (path < 8)) (s.begin.usbCfgWrite path data)

/-- USB_EP_ENABLE (R355): a write of USB_EP_CFG with EN 1. -/
def execUsbEpEnable (path data : Nat) (s : State) : Host.Outcome State Fault Refusal :=
  guarded (decide (path < 8)) (s.begin.epCfgWrite path (data / 2 * 2 + 1))

/-- USB_EP_DISABLE (R370): a write of USB_EP_CFG with EN 0. -/
def execUsbEpDisable (path data : Nat) (s : State) : Host.Outcome State Fault Refusal :=
  guarded (decide (path < 8)) (s.begin.epCfgWrite path (data / 2 * 2))

/-- USB_EP_DRAIN_TIMEOUT (R370). -/
def execUsbEpDrainTimeout (e : Nat) (s : State) : Host.Outcome State Fault Refusal :=
  guardedIn 15 s (epNamed e) (s.begin.epDrainEnd e)

/-- USB_OVER_CURRENT (R373): in global suspend it is a hub wake event when the host has enabled the hub's remote wakeup (Table 11.6). -/
def execUsbOverCurrent (n : Nat) (s : State) : Host.Outcome State Fault Refusal :=
  guardedIn 15 s (decide (n < 4))
    (let s := ((s.begin.wr R.USB_PORT_STAT_STATE portOff 0 n).wr R.USB_PORT_STAT_POWER 0 0 n).wr R.USB_PORT_STAT_OC 1 0 n
     ((((s.resetGone n).bump R.USB_OC_CNT 0 n).irq usbHubPage n).portChanged n 3).hubEvent)

/-- USB_DESC_DATA_ACCESS (R375): a write of `data` to USB_DESC_DATA, which takes effect only while USB_CFG.EN is 0, or a read, where `data` is the error that endpoint memory shows (1 corrected, 2 uncorrectable: counted, and the word read is a free value; R350, log 155). -/
def execUsbDescDataAccess (path : Nat) (write : Bool) (data : Nat) (s : State) : Host.Outcome State Fault Refusal :=
  guarded (decide (path < 8))
    (let next := fun (s : State) =>
       if s.rd R.USB_DESC_INDEX_AUTOINC = 1 then
         let w := s.rd R.USB_DESC_INDEX_WORD + 1
         s.wr R.USB_DESC_INDEX_WORD (if 192 ≤ w then 0 else w)
       else s
     if write then
       s.begin.gateWrite path 0x353044 data (fun s =>
         let w := s.rd R.USB_DESC_INDEX_WORD
         next (if s.rd R.USB_CFG_EN = 0 ∧ w < 192 then s.wr R.USB_DESC_DATA (data % 2 ^ 32) 0 w else s))
     else
       s.begin.gateRead path 0x353044 (fun s =>
         let w := s.rd R.USB_DESC_INDEX_WORD
         let bad := decide (data = 2)
         let v := if 192 ≤ w then 0 else if bad then s.freeNat % 2 ^ 32 else s.rd R.USB_DESC_DATA 0 w
         next (((if bad then s.tookFree else s).usbEcc data).answer path v)))

/-- DOWNSTREAM_PORT_CONNECT (R348): a device connects to or disconnects from a powered downstream port. -/
def execDownstreamPortConnect (n : Nat) (connected : Bool) (speed : Nat) (s : State) :
    Host.Outcome State Fault Refusal :=
  guardedIn 15 s (decide (n < 4) && decide (speed < 3))
    (let s := s.begin
     if s.rd R.USB_PORT_STAT_POWER 0 n = 0 then s
     else
       let s := (s.wr R.USB_PORT_STAT_STATE (if connected then portDisabled else portDisconnected) 0 n).resetGone n
       ((s.wr R.USB_PORT_STAT_SPEED (if connected then speed else 0) 0 n).irq usbHubPage (4 + n)).portChanged n 0)

end Sys2Proof.Machine
end

