-- ==== Sys2Proof/Machine/Router.lean ====
section
/-! DEFINITION. The host bridge inward and the message router (chapter 09): inbound windows and their host accesses, router lookups, deliveries and holds, the cause queue, and the enabling and draining of windows. -/

namespace Sys2Proof.Machine

/-- Reasons of HBR_IN_LAST. -/
def inNoWindow : Nat := 1
def inRange : Nat := 2
def inPerm : Nat := 3
def inBme : Nat := 4
def inHostDown : Nat := 5
def inHostErr : Nat := 6

/-- STATUS of a response unit (Table 9.4). -/
def stOk : Nat := 0
def stUr : Nat := 1
def stCa : Nat := 2
def stPoisoned : Nat := 3

/-- MRT_CMD and MRT_CAUSE. -/
def mrtCmdAddr : Nat := 0x32804C
def mrtCauseAddr : Nat := 0x328068

/-- Router targets (Table 9.5). -/
def targetMsix : Nat := 0
def targetEngine : Nat := 1
def targetUsb : Nat := 2
def targetMgt : Nat := 3

/-- The router serves these unit kinds (R320). -/
def routerKind (k : Nat) : Bool := k == kindInterrupt || k == kindMessage || k == kindEndpointReset

/-- The message ID under which a unit is looked up, and the body that its target receives. -/
def routerId (u : UnitMsg) : Nat := if u.kind = kindEndpointReset then 0xFFFF else beAt u.payload 0 2
def routerBody (u : UnitMsg) : List Byte := if u.kind = kindEndpointReset then u.payload else u.payload.drop 2

namespace State

/-! ### Inbound windows -/

/-- An inbound unit that is discarded or answered with an error is counted, recorded, flagged and journalled (R314). -/
def inFailed (s : State) (tid reason : Nat) : State :=
  (((s.bump R.HBR_IN_DISC).wr R.HBR_IN_LAST_TID tid).wr R.HBR_IN_LAST_REASON reason).event 0x320 5 tid

/-- The lowest-numbered enabled inbound window of a tunnel (R313). -/
def inWindow (s : State) (tid : Nat) : Option Nat :=
  (List.range 32).find? (fun i => s.iwin R.HBR_IWIN_STAT_STATE i == winOpen && s.iwin R.HBR_IWIN_TID i == tid)

/-- Why window `i` does not serve an access of `len` bytes at `addr` (R313). -/
def inRefusal (s : State) (i : Nat) (write : Bool) (addr len : Nat) : Option Nat :=
  if 2 ^ s.iwin R.HBR_IWIN_CFG_SIZE i < addr + len then some inRange
  else if (if write then s.iwin R.HBR_IWIN_CFG_WR_EN i else s.iwin R.HBR_IWIN_CFG_RD_EN i) = 0 then some inPerm
  else if s.rd R.HBR_LINK_STAT_BME = 0 then some inBme
  else if s.rd R.HBR_LINK_STAT_UP = 0 then some inHostDown
  else none

/-- The host address of an inbound address. -/
def hostAddr (s : State) (i addr : Nat) : Nat :=
  let g := 2 ^ s.iwin R.HBR_IWIN_CFG_SIZE i
  (s.iwin R.HBR_IWIN_HBASE i / g * g + addr) % 2 ^ 64

/-- The attributes that a unit's host accesses carry: RO and NS with PASS_ATTR 1 (R314). -/
def inAttr (s : State) (u : UnitMsg) : Nat := if s.rd R.HBR_CFG_PASS_ATTR = 1 then beAt u.payload 6 1 % 4 else 0

/-- A payload that does not have the layout of Table 9.4. -/
def badHeader (u : UnitMsg) : Bool :=
  let len := beAt u.payload 2 2
  let data := u.payload.length - 16
  decide (u.payload.length < 16) || len == 0 || decide (16368 < len) || data != (if u.kind = kindReadRequest then 0 else len)

/-- The window that serves an inbound unit, or the reason why none does; the spec gives no reason for a malformed unit, and its reason is free. -/
def inServed (s : State) (u : UnitMsg) : Except Nat Nat :=
  if badHeader u then .error (s.freeNat % 16)
  else
    match s.inWindow u.tid with
    | none => .error inNoWindow
    | some i =>
      match s.inRefusal i (u.kind != kindReadRequest) (beAt u.payload 8 8) (beAt u.payload 2 2) with
      | some r => .error r
      | none => .ok i

/-- A refusal is counted in its window. -/
def inRefused (s : State) (u : UnitMsg) (reason : Nat) : State :=
  let s := match s.inWindow u.tid with
    | some i => s.bump R.HBR_IWIN_STAT_REFUSED 0 i
    | none => s
  (s.inFailed u.tid reason).tookFree

/-- The host writes of a unit: at most the Max Payload Size each, none crossing 4 KiB (R314). -/
def inWrites (s : State) (a attr : Nat) (data : List Byte) : State :=
  (pieces s.mps 4096 (data.length + 1) a data.length).foldl
    (fun (s : State) (p : Nat × Nat) => s.tlpOut (.hostWrite p.1 attr ((data.drop (p.1 - a)).take p.2))) s

/-- A DATA unit (R314). -/
def inData (s : State) (u : UnitMsg) : State :=
  match s.inServed u with
  | .error r => s.inRefused u r
  | .ok i => s.inWrites (s.hostAddr i (beAt u.payload 8 8)) (s.inAttr u) (u.payload.drop 16)

/-- The host reads that an access of `len` bytes at `a` takes: at most the Max Read Request Size each, none crossing 4 KiB (R315). -/
def readPieces (s : State) (a len : Nat) : List (Nat × Nat) := pieces s.mrrs 4096 (len + 1) a len

/-- The 8-bit tags that host reads hold (Table 9.1). -/
def readTags (s : State) : Nat := (s.brg.inReqs.map (fun (x : Nat × Option InReq) => x.2.elim 0 (·.reads))).sum

/-- The answer to an inbound request (R315, R316). -/
def inAnswer (s : State) (win : Option Nat) (write : Bool) (reply tage len status : Nat) (data : List Byte) : State :=
  let s := match win with
    | some i => s.updBrg (fun b => { b with inAnswers := b.inAnswers ++ [(i, reply)] })
    | none => s
  s.originUnit spBridge reply (if write then kindWriteAck else kindReadResponse) (responseHeader tage len status ++ data)

/-- The STATUS that a reason gives: UR for no window, out of range or not permitted, CA for the rest (R315). -/
def inStatus (r : Nat) : Nat := if r = inBme ∨ r = inHostDown ∨ r = inHostErr then stCa else stUr

/-- A READ_REQUEST or WRITE_NP (R315): its host accesses are made under a free identifier, or it is answered with an error; none while there are not enough tags for its host reads (Table 9.1). -/
def inRequest (s : State) (u : UnitMsg) : Option State :=
  let write := u.kind == kindWriteNp
  let tage := beAt u.payload 0 2
  let len := beAt u.payload 2 2
  let reply := beAt u.payload 4 2 % 2 ^ 15
  match s.inServed u with
  | .error r => some ((s.inRefused u r).inAnswer (s.inWindow u.tid) write reply tage len (inStatus r) [])
  | .ok i =>
    let a := s.hostAddr i (beAt u.payload 8 8)
    let reads := if write then [(a + len - 1, 0)] else s.readPieces a len
    if 256 < s.readTags + reads.length then none
    else
      let id := Tab.firstFree 0 s.brg.inReqs
      let s := s.updBrg (fun b => { b with inReqs := b.inReqs.set none id (some ⟨i, u.tid, reply, tage, len, write, reads.length⟩) })
      let s := if write then s.inWrites a (s.inAttr u) (u.payload.drop 16) else s
      some (reads.foldl (fun (s : State) (p : Nat × Nat) => s.tlpOut (.hostRead p.1 p.2 id)) s)

/-- An inbound request of the tunnel awaits its host accesses. -/
def inPending (s : State) (tid : Nat) : Bool := s.brg.inReqs.any (fun (x : Nat × Option InReq) => x.2.any (fun r => r.tid == tid))

/-! ### The router -/

/-- The router entry of a tunnel and message ID: its TARGET, TINDEX and LOCAL_ID. -/
def routerEntry (s : State) (tid id : Nat) : Option (Nat × Nat × Nat) :=
  (s.brg.router.find? (fun (x : Nat × Nat × Nat) =>
    bitsOf x.2.2 0 0 == 1 && bitsOf x.2.1 14 0 == tid && bitsOf x.2.1 31 16 == id)).map
    (fun x => (bitsOf x.2.2 3 1, bitsOf x.2.2 9 4, bitsOf x.2.2 31 16))

/-- A miss (R320). -/
def routerMiss (s : State) (tid id : Nat) : State :=
  (((s.bump R.MRT_MISS_CNT).wr R.MRT_MISS_ID_TID tid).wr R.MRT_MISS_ID_MSGID id).irq 0x328 0

/-- A unit of a kind that its target does not take (R321). -/
def routerKindErr (s : State) : State := (s.bump R.MRT_KIND_ERR).irq 0x328 2

/-- The MSIX target (R322, R323): the cause queue, then the vector. -/
def msixDeliver (s : State) (v localId : Nat) : State :=
  let s := if s.brg.cause.length < 64 then s.updBrg (fun b => { b with cause := b.cause ++ [(v, localId)] })
    else (s.bump R.MRT_CAUSE_LOST).irq 0x328 3
  s.msixWrite v

/-- Delivers a unit to its target (Table 9.6): none while the target cannot take it (R324). -/
def routerDeliver (s : State) (u : UnitMsg) (target index localId : Nat) : Option State :=
  let body := { u with payload := routerBody u }
  if target = targetMsix then
    if u.kind ≠ kindInterrupt then some s.routerKindErr
    else if s.rd R.HBR_LINK_STAT_UP = 0 then none
    else some (s.msixDeliver index localId)
  else if target = targetEngine then s.engMessage (index % 16) body localId
  else if target = targetUsb then
    if u.kind = kindInterrupt then some s.routerKindErr else s.usbMessage (16 + index % 16) body.payload
  else s.mgtMessage body localId

/-- The entry that a router unit's lookup finds: the one found when it was first looked up, if it is held (R319). -/
def heldEntry (s : State) (h : HeldUnit) : Option (Nat × Nat × Nat) :=
  h.entry.or (if routerKind h.unit.kind then s.routerEntry h.unit.tid (routerId h.unit) else none)

/-- The router acts on a unit: none while it has to be held. -/
def routerAct (s : State) (h : HeldUnit) : Option State :=
  match s.heldEntry h with
  | none => some (s.routerMiss h.unit.tid (routerId h.unit))
  | some (t, i, l) => s.routerDeliver h.unit t i l

/-! ### Units at SP16 -/

/-- The bridge acts on a unit, or it has to wait: a request for tags, a FENCE for earlier requests of its tunnel, a router unit for its target (R317, R324). -/
def unitAct (s : State) (h : HeldUnit) : Option State :=
  let u := h.unit
  if u.kind = kindData then some (s.inData u)
  else if u.kind = kindReadRequest ∨ u.kind = kindWriteNp then s.inRequest u
  else if u.kind = kindReadResponse ∨ u.kind = kindWriteAck then some (s.bridgeResponse u).bridgeSettled
  else if u.kind = kindFence then (if s.inPending u.tid then none else some s)
  else s.routerAct h

def setHold (s : State) (tid : Nat) (l : List HeldUnit) : State :=
  s.updBrg (fun b => { b with inHold := b.inHold.set [] tid l })

/-- The units of a tunnel that wait go on, in order, up to one that still has to wait, which keeps the entry of its lookup. -/
def holdRun (s : State) (tid : Nat) : List HeldUnit → State
  | [] => s.setHold tid []
  | h :: t =>
    match s.unitAct h with
    | some s' => s'.holdRun tid t
    | none => s.setHold tid ({ h with entry := s.heldEntry h } :: t)

/-- What waits on a tunnel is tried again. -/
def holdRetry (s : State) (tid : Nat) : State := s.holdRun tid (s.brg.inHold.get [] tid)

/-- Every tunnel's waiting units are tried again, for the tags that came free. -/
def holdAll (s : State) : State := (s.brg.inHold.map Prod.fst).foldl holdRetry s

/-- A unit at SP16, behind those of its tunnel that wait (R317, R324); a router unit's lookup is counted. -/
def unitArrives (s : State) (u : UnitMsg) : State :=
  let s := if routerKind u.kind then s.tally 0x174 else s
  s.holdRun u.tid (s.brg.inHold.get [] u.tid ++ [⟨u, none⟩])

/-! ### Host completions -/

/-- An inbound request ends with a STATUS, and what waited for it goes on (R315, R317, R325). -/
def inEnds (s : State) (id status : Nat) (reason : Option Nat) (data : List Byte) : State :=
  match s.brg.inReqs.get none id with
  | none => s
  | some r =>
    let s := s.updBrg (fun b => { b with inReqs := b.inReqs.set none id none })
    let s := match reason with
      | some x => s.inFailed r.tid x
      | none => s
    let s := s.inAnswer (some r.win) r.write r.reply r.tage r.len status
      (if r.write ∨ (status ≠ stOk ∧ status ≠ stPoisoned) then [] else padTo r.len data)
    (s.holdRetry r.tid).holdAll.iwinDrained r.win

/-- The last host completion of an inbound request: 0 Successful Completion, 1 Unsupported Request, 2 Completer Abort. -/
def hostCompletion (s : State) (id status : Nat) (poisoned : Bool) (data : List Byte) : State :=
  let s := s.tally 0x170
  if status ≠ 0 then s.inEnds id stCa (some inHostErr) []
  else if poisoned then s.inEnds id stPoisoned (some inHostErr) data
  else s.inEnds id stOk none data

/-- Every inbound request that satisfies `p` is answered with CA. -/
def inAborts (s : State) (p : InReq → Bool) (reason : Nat) : State :=
  ((s.brg.inReqs.filter (fun (x : Nat × Option InReq) => x.2.any p)).map Prod.fst).foldl
    (fun s id => s.inEnds id stCa (some reason) []) s

/-- The host link goes down (R327); what the host held back goes with it. -/
def hostLinkLost (s : State) : State :=
  let s := (s.wr R.HBR_LINK_STAT_UP 0).irq 0x320 1
  let s : State := { s with pwr := { s.pwr with waiting := s.pwr.waiting.filter (fun w => w.req.isNone) } }
  (s.bridgeQuiet (fun r => r.kind != BrgKind.np)).inAborts (fun _ => true) inHostDown

/-! ### Windows enabled and disabled -/

/-- A request that has not been sent completes early, as one that has (R303). -/
def failUnsent (s : State) (x : BrgSend) : State :=
  let s := match x with
    | .read w addr len attr host locked =>
      (s.failRead ⟨false, .read, w, 0, len, addr, attr, 0, false, 0, 0, host, 0, 0, 0, 0⟩ 0 locked).tally 0x172
    | .np w _ _ _ => s.npFail w stCa
    | x => s.aborted x
  (s.bump R.HBR_ABT_OTHER).irq 0x320 2

/-- A request that waits to be sent ends without being sent, but a posted one that needs no tag is sent. -/
def failWaiting (s : State) (x : BrgWait) : State :=
  if sendTag x.send then (s.failUnsent x.send).semLeft x.send else s.sendNow x

/-- What is left in a draining outbound window completes early (R325). -/
def owinForced (s : State) (w : Nat) : State :=
  let mine := s.brg.waiting.filter (fun x => sendWin x.send == w)
  let asks := s.brg.semWait.filter (fun x => sendWin x.2.send == w)
  let s := s.updBrg (fun b => { b with
    waiting := b.waiting.filter (fun x => sendWin x.send != w), semWait := b.semWait.filter (fun x => sendWin x.2.send != w) })
  let s := asks.foldl (fun s x => s.failUnsent x.2.send) (mine.foldl failWaiting s)
  let s := (s.liveWhere (fun r => r.win == w)).foldl (fun s t => s.endEarly R.HBR_ABT_OTHER false t) s
  (s.unlockWin w).bridgeSettled

/-- An outbound window drains; its EN stays as it is. -/
def owinDrains (s : State) (w : Nat) : State :=
  if s.owin R.HBR_OWIN_STAT_STATE w = winOpen then (s.wr R.HBR_OWIN_STAT_STATE winDraining 0 w).owinDrained w else s

/-- An inbound window drains; its EN stays as it is. -/
def iwinDrains (s : State) (i : Nat) : State :=
  if s.iwin R.HBR_IWIN_STAT_STATE i = winOpen then (s.wr R.HBR_IWIN_STAT_STATE winDraining 0 i).iwinDrained i else s

/-- EN of an outbound window becomes 0. -/
def owinClose (s : State) (w : Nat) : State := (s.wr R.HBR_OWIN_CFG_EN 0 0 w).owinDrains w

/-- EN of an inbound window becomes 0. -/
def iwinClose (s : State) (i : Nat) : State := (s.wr R.HBR_IWIN_CFG_EN 0 0 i).iwinDrains i

/-- Every window drains, for entry to P3 or P4 (R328). -/
def windowsClose (s : State) : State := (List.range 32).foldl iwinDrains ((List.range 64).foldl owinDrains s)

/-- The windows with EN 1 are open again (R498). -/
def windowsOpen (s : State) : State :=
  let s := (List.range 64).foldl (fun s w =>
    if s.owin R.HBR_OWIN_CFG_EN w = 1 ∧ s.owin R.HBR_OWIN_STAT_STATE w = winDisabled then s.wr R.HBR_OWIN_STAT_STATE winOpen 0 w else s) s
  (List.range 32).foldl (fun s i =>
    if s.iwin R.HBR_IWIN_CFG_EN i = 1 ∧ s.iwin R.HBR_IWIN_STAT_STATE i = winDisabled then s.wr R.HBR_IWIN_STAT_STATE winOpen 0 i else s) s

def owinCfg : List Field :=
  [R.HBR_OWIN_CFG_RD_EN, R.HBR_OWIN_CFG_WR_EN, R.HBR_OWIN_CFG_NP, R.HBR_OWIN_CFG_EMULATE, R.HBR_OWIN_CFG_MSG,
    R.HBR_OWIN_CFG_SIZE, R.HBR_OWIN_CFG_SEM]

def iwinCfg : List Field := [R.HBR_IWIN_CFG_RD_EN, R.HBR_IWIN_CFG_WR_EN, R.HBR_IWIN_CFG_SIZE]

/-- A write of HBR_OWIN_CFG or HBR_IWIN_CFG: the other fields are taken only while the window reads DISABLED, and EN 1 only then (R325, R330). -/
def winCfgWrite (s : State) (path data : Nat) (inward : Bool) : State :=
  if inward then
    s.gateWrite path 0x322044 data (fun s =>
      let i := s.rd R.HBR_IWIN_INDEX
      let free := s.iwin R.HBR_IWIN_STAT_STATE i == winDisabled
      let s := if free then s.store path 0x322044 data iwinCfg 0 i else s
      if data % 2 = 0 then s.iwinClose i
      else if free then
        let s := s.wr R.HBR_IWIN_CFG_EN 1 0 i
        if s.drainedTo 3 then s else s.wr R.HBR_IWIN_STAT_STATE winOpen 0 i
      else s)
  else
    s.gateWrite path 0x321044 data (fun s =>
      let w := s.rd R.HBR_OWIN_INDEX
      let free := s.owin R.HBR_OWIN_STAT_STATE w == winDisabled
      let s := if free then s.store path 0x321044 data owinCfg 0 w else s
      if data % 2 = 0 then s.owinClose w
      else if free then
        let s := s.wr R.HBR_OWIN_CFG_EN 1 0 w
        if s.drainedTo 3 then s else s.wr R.HBR_OWIN_STAT_STATE winOpen 0 w
      else s)

/-! ### Router entries -/

def mrtDone (s : State) (r : Nat) : State :=
  (s.wr R.MRT_STAT_LAST_RESULT r).nextIndex R.MRT_INDEX_INDEX R.MRT_INDEX_AUTOINC

/-- MRT_CMD READ. -/
def mrtRead (s : State) : State :=
  let w := s.brg.router.get (0, 0) (s.rd R.MRT_INDEX_INDEX)
  ((s.wr R.MRT_DATA w.1 0 0).wr R.MRT_DATA w.2 0 1).mrtDone 0

/-- MRT_CMD WRITE (R319). -/
def mrtWrite (s : State) : State :=
  let i := s.rd R.MRT_INDEX_INDEX
  let w0 := s.rd R.MRT_DATA 0 0
  let w1 := s.rd R.MRT_DATA 0 1
  let twice := w1.testBit 0 && s.brg.router.any (fun (x : Nat × Nat × Nat) =>
    x.1 != i && bitsOf x.2.2 0 0 == 1 && bitsOf x.2.1 14 0 == bitsOf w0 14 0 && bitsOf x.2.1 31 16 == bitsOf w0 31 16)
  if w0.testBit 15 ∨ bitsOf w1 15 10 ≠ 0 then s.mrtDone 0xE
  else if 4 ≤ bitsOf w1 3 1 then s.mrtDone 2
  else if twice then s.mrtDone 1
  else (s.updBrg (fun b => { b with router := b.router.set (0, 0) i (w0, w1) })).mrtDone 0

/-- MRT_CMD CLEAR: the entry's VALID becomes 0. -/
def mrtClear (s : State) : State :=
  let i := s.rd R.MRT_INDEX_INDEX
  let w := s.brg.router.get (0, 0) i
  (s.updBrg (fun b => { b with router := b.router.set (0, 0) i (w.1, w.2 / 2 * 2) })).mrtDone 0

/-- A read of MRT_CAUSE: the oldest entry leaves (R323). -/
def causeRead (s : State) (path : Nat) : State :=
  match s.brg.cause with
  | [] => s.answer path 0
  | (v, l) :: t => (s.updBrg (fun b => { b with cause := t })).answer path (l + v * 2 ^ 24 + 2 ^ 31)

/-- The head of a tunnel's hold runs out of time (R324). -/
def holdExpires (s : State) (tid : Nat) : State :=
  match s.brg.inHold.get [] tid with
  | [] => s
  | h :: t =>
    if !routerKind h.unit.kind then s
    else
      let s := (s.bump R.MRT_HOLD_DISC).irq 0x328 1
      let s := if (s.heldEntry h).any (fun e => e.1 == targetMgt) then s.bump R.MGT_MBOX_LOST else s
      s.holdRun tid t

end State

/-- INBOUND_DATA (R314): a DATA unit at SP16. -/
def execInboundData (u : UnitMsg) (s : State) : Host.Outcome State Fault Refusal :=
  nextIn 16 s (s.begin.unitArrives { u with kind := kindData })

/-- INBOUND_READ_REQUEST (R315). -/
def execInboundReadRequest (u : UnitMsg) (s : State) : Host.Outcome State Fault Refusal :=
  nextIn 16 s (s.begin.unitArrives { u with kind := kindReadRequest })

/-- INBOUND_WRITE_NP (R315). -/
def execInboundWriteNp (u : UnitMsg) (s : State) : Host.Outcome State Fault Refusal :=
  nextIn 16 s (s.begin.unitArrives { u with kind := kindWriteNp })

/-- HOST_COMPLETION (R316): the last one that an inbound request needs, and the data of them all. -/
def execHostCompletion (id status : Nat) (poisoned : Bool) (data : List Byte) (s : State) : Host.Outcome State Fault Refusal :=
  guardedIn 16 s (decide (status < 3)) (s.begin.hostCompletion id status poisoned data)

/-- HOST_COMPLETION_TIMEOUT (R315). -/
def execHostCompletionTimeout (id : Nat) (s : State) : Host.Outcome State Fault Refusal :=
  nextIn 16 s (s.begin.inEnds id stCa (some inHostErr) [])

/-- BRIDGE_RESPONSE (R301): a READ_RESPONSE or WRITE_ACK unit at SP16, behind the units of its tunnel that wait (R317). -/
def execBridgeResponse (u : UnitMsg) (s : State) : Host.Outcome State Fault Refusal :=
  nextIn 16 s (if u.kind = kindReadResponse ∨ u.kind = kindWriteAck then s.begin.unitArrives u else s.begin)

/-- BRIDGE_FENCE_UNIT (R317). -/
def execBridgeFenceUnit (u : UnitMsg) (s : State) : Host.Outcome State Fault Refusal :=
  nextIn 16 s (s.begin.unitArrives { u with kind := kindFence })

/-- ROUTER_UNIT (R320): an INTERRUPT, MESSAGE or ENDPOINT_RESET unit at SP16. -/
def execRouterUnit (u : UnitMsg) (s : State) : Host.Outcome State Fault Refusal :=
  nextIn 16 s (if routerKind u.kind then s.begin.unitArrives u else s.begin)

/-- ROUTER_HOLD_RELEASE (R324). -/
def execRouterHoldRelease (tid : Nat) (s : State) : Host.Outcome State Fault Refusal :=
  guardedIn 16 s (decide (tid < 32768)) (s.begin.holdRetry tid)

/-- ROUTER_HOLD_TIMEOUT (R324). -/
def execRouterHoldTimeout (tid : Nat) (s : State) : Host.Outcome State Fault Refusal :=
  guardedIn 16 s (decide (tid < 32768)) (s.begin.holdExpires tid)

/-- MRT_CAUSE_READ (R323). -/
def execMrtCauseRead (path : Nat) (s : State) : Host.Outcome State Fault Refusal :=
  guarded (decide (path < 8)) (s.begin.gateRead path mrtCauseAddr (fun s => s.causeRead path))

/-- MRT_READ (R319). -/
def execMrtRead (path : Nat) (s : State) : Host.Outcome State Fault Refusal :=
  guarded (decide (path < 8)) (s.begin.gateWrite path mrtCmdAddr 1 State.mrtRead)

/-- MRT_WRITE (R319). -/
def execMrtWrite (path : Nat) (s : State) : Host.Outcome State Fault Refusal :=
  guarded (decide (path < 8)) (s.begin.gateWrite path mrtCmdAddr 2 State.mrtWrite)

/-- MRT_CLEAR (R319). -/
def execMrtClear (path : Nat) (s : State) : Host.Outcome State Fault Refusal :=
  guarded (decide (path < 8)) (s.begin.gateWrite path mrtCmdAddr 3 State.mrtClear)

/-- WINDOW_ENABLE (R325): a write of the indexed window's CFG with EN 1. -/
def execWindowEnable (path data : Nat) (inward : Bool) (s : State) : Host.Outcome State Fault Refusal :=
  guarded (decide (path < 8)) (s.begin.winCfgWrite path (data / 2 * 2 + 1) inward)

/-- WINDOW_DISABLE (R325): a write of the indexed window's CFG with EN 0. -/
def execWindowDisable (path data : Nat) (inward : Bool) (s : State) : Host.Outcome State Fault Refusal :=
  guarded (decide (path < 8)) (s.begin.winCfgWrite path (data / 2 * 2) inward)

/-- WINDOW_DRAIN_TIMEOUT (R325). -/
def execWindowDrainTimeout (w : Nat) (inward : Bool) (s : State) : Host.Outcome State Fault Refusal :=
  guardedIn 16 s (decide (w < if inward then 32 else 64))
    (if inward then
      (if s.iwin R.HBR_IWIN_STAT_STATE w = winDraining then s.begin.inAborts (fun r => r.win == w) inHostErr else s.begin)
     else if s.owin R.HBR_OWIN_STAT_STATE w = winDraining then s.begin.owinForced w else s.begin)

/-- HOST_LINK_DOWN (R327). -/
def execHostLinkDown (s : State) : Host.Outcome State Fault Refusal :=
  nextIn 16 s (if s.rd R.HBR_LINK_STAT_UP = 1 then s.begin.hostLinkLost else s.begin)

end Sys2Proof.Machine
end

