-- ==== Sys2Proof/Machine/Power.lean ====
section
/-! DEFINITION. Power states, domains and clocks (chapter 16): requests and their vetoes (R496 to R500), entry and exit (R497, R501), wake sources (R502 to R504), regulator acknowledgements (R510 to R515), the PLLs (R517), and the tamper response's part in them (Table 16.10). -/

namespace Sys2Proof.Machine

def pwrPage : Nat := 0x030
def pwrReqAddr : Nat := 0x30040

/-- Refusers of Table 16.4. -/
def refProtection : Nat := 1
def refStorage : Nat := 2
def refRegulator : Nat := 7
def refEth : Nat := 8
def refWake : Nat := 9

namespace State

def pwrState (s : State) : Nat := s.rd R.PWR_STAT_STATE
def pwrBusy (s : State) : Bool := s.rd R.PWR_STAT_BUSY == 1

/-! ### Domains -/

/-- A trunk of group `g` has EN 1. -/
def groupEnabled (s : State) (g : Nat) : Bool := (List.range 4).any (fun k => s.rd R.TRK_LCFG_EN (4 * g + k) == 1)

/-- A trunk of group `g` runs an alternate mode. -/
def groupAlt (s : State) (g : Nat) : Bool := (List.range 4).any (fun k => s.rd R.TRK_ALTCFG_MODE (4 * g + k) != 0)

/-- Something in DSP, STO or ETH is enabled, or still drains. -/
def dspEnabled (s : State) : Bool :=
  [0, 1].any (fun i => s.rd R.DSP_SRC_CFG_EN i == 1 || s.srcState i != srcDisabled) || (List.range 4).any (fun o => s.rd R.DSP_OUT_CFG_EN o == 1)

def stoEnabled (s : State) : Bool :=
  [0, 1].any (fun p => s.rd R.STO_RP_CFG_EN p == 1 || s.rpState p != rpOff) ||
    (List.range 32).any (fun b => s.bt R.STO_BT_CFG_EN b == 1 || s.btState b != btDisabled)

def ethEnabled (s : State) : Bool := (List.range 4).any (fun m => s.rd R.ETH_MAC_CFG_EN m == 1 || s.macState m != macDisabled)

/-- The domains that are on in a state (Table 16.2). -/
def stateDomains (s : State) (st : Nat) : Nat :=
  let bEn := s.rd R.MGT_CFG_B_EN == 1
  match st with
  | 0 => allDomains
  | 1 => domainSet ([(0, true), (1, true), (2, true), (3, bEn), (4, true), (5, true),
      (10, (List.range 8).any (fun e => s.engSt e != engOff)), (11, (List.range 8).any (fun e => s.engSt (8 + e) != engOff)),
      (12, s.dspEnabled), (13, s.stoEnabled), (14, s.ethEnabled), (15, true), (16, true), (17, true)] ++
      (List.range 4).map (fun g => (6 + g, s.groupEnabled g || s.groupAlt g)))
  | 2 => domainSet ([(0, true), (1, true), (2, true), (3, bEn), (4, true), (5, true), (14, true), (15, true), (16, true), (17, true)] ++
      (List.range 4).map (fun g => (6 + g, s.groupEnabled g)))
  | 3 => domainSet [(0, true), (1, true), (2, s.livePair == some 0), (3, s.livePair == some 1), (14, s.rd R.ETH_WAKE_CFG_KEEP == 1)]
  | _ => 1

/-- Accesses of images on a cluster's engines wait no longer (R520). -/
def engSenderGone (s : State) (c : Nat) : State :=
  s.updPwr (fun p => { p with waiting := p.waiting.filter (fun w => !(w.path == pathEngine && w.eng.any (fun l => s.physOf l / 8 == c))) })

/-- What a domain holds outside its retained registers is lost when it is switched off (R490). -/
def domainLost (s : State) (d : Nat) : State :=
  let s := s.eraseKeys (fun k => pageDomain (keyPage k) == d && !keyRetained k)
  if d = 1 then (s.senderGone pathMtun).senderGone pathJtag
  else if d = 2 ∨ d = 3 then s.pairOffNow (d - 2)
  else if 6 ≤ d ∧ d ≤ 9 then { s with links := s.links.eraseIf (fun n => n / 4 == d - 6) }
  else if d = 10 ∨ d = 11 then
    (s.engSenderGone (d - 10)).updEng (fun x => { x with
      eng := x.eng.eraseIf (fun e => e / 8 == d - 10), log := x.log.eraseIf (fun e => e / 8 == d - 10),
      phys := x.phys.eraseIf (fun e => e / 8 == d - 10) })
  else if d = 12 then { s with dsp := {} }
  else if d = 13 then { s with sto := {} }
  else if d = 14 then s.updNet (fun x => { cls := x.cls, egb := x.egb })
  else if d = 15 then ({ s with usb := {} } : State).senderGone pathUsb
  else if d = 16 then s.updBrg (fun b => { router := b.router })
  else s

/-- The domains that a PLL of CLK_LOCK serves (Table 16.8). -/
def pllDomains (k : Nat) : List Nat :=
  if 1 ≤ k ∧ k ≤ 8 then [6 + (k - 1) / 2]
  else match k with
    | 0 => [1]
    | 9 => [13, 16]
    | 10 => [14]
    | 11 => [12]
    | 12 => [17]
    | 13 => [12]
    | 14 => [12]
    | _ => [15]

/-- The PLLs of domains that are off are not locked. -/
def pllsStop (s : State) : State :=
  s.wr R.CLK_LOCK (s.rd R.CLK_LOCK &&&
    domainSet ((List.range 16).map (fun k => (k, (pllDomains k).any (fun d => s.pwr.doms.testBit d)))))

/-- The domains of `mask` are on and the others off: those that go off lose their state, and PWR_DOM_STAT shows it. -/
def switchDomains (s : State) (mask : Nat) : State :=
  let gone := (List.range 18).filter (fun d => s.pwr.doms.testBit d && !mask.testBit d)
  let s := if gone.contains 16 && s.rd R.HBR_LINK_STAT_UP == 1 then s.hostLinkLost else s
  let s := gone.foldl domainLost s
  (s.updPwr (fun p => { p with doms := mask })).showDomains.pllsStop

/-- MGT_CFG.B_EN in a state that has MGT-B on with it alone switches that domain (Table 16.2); a live pair B that loses it hands over first. -/
def pairBPower (s : State) : State :=
  let on := s.rd R.MGT_CFG_B_EN == 1
  if (s.rd R.PWR_STAT_STATE = 1 ∨ s.rd R.PWR_STAT_STATE = 2) ∧ s.pwr.trans.isNone ∧ s.pwr.doms.testBit 3 ≠ on then
    let s := if s.pairRuns 1 then s.pairLost 1 else s
    s.switchDomains (s.pwr.doms ^^^ 2 ^ 3)
  else s

/-! ### Vetoes -/

/-- A protection tunnel of the map has had a unit looked up within PWR_PROT_IDLE. -/
def protectionBusy (s : State) : Bool :=
  s.tun.lookedAt.any (fun x =>
    let e := s.mapAt s.authPlane x.1
    e.valid && e.cls == 0 && decide (s.hw < x.2 - 1 + s.rd R.PWR_PROT_IDLE * 1000000))

/-- A cable channel that sources reads FUS_POWER above PWR_CPD_LOAD. -/
def cableLoaded (s : State) : Bool :=
  (List.range 16).any (fun c => s.rd R.FUS_STAT_DIR c == 0 &&
    decide (((s.rd R.PWR_CPD_LOAD * 10 : Nat) : Int) < signedOf 32 (s.rd R.FUS_POWER c)))

/-- Refuser `i`'s condition holds (Table 16.4). -/
def vetoHolds (s : State) (i : Nat) : Bool :=
  match i with
  | 1 => s.protectionBusy
  | 2 => (List.range 32).any (fun b => !(s.stoTun b).cmds.isEmpty)
  | 3 => (s.usb.attached && !s.usbSuspended) || s.wakePending
  | 4 => s.cableLoaded
  | 5 => s.rd R.KEY_STAT_BUSY == 1
  | 6 => !s.tun.edit.isEmpty || !s.mcg.words.isEmpty
  | 7 => !s.pwr.reqs.isEmpty
  | _ => false

/-- A refuser of Table 16.4 refuses entry to a state. -/
def vetoes (i target : Nat) : Bool := if i = 1 then decide (2 ≤ target) else if i = 7 then true else decide (3 ≤ target)

/-- The entry needs another core voltage, which VOUT_MODE does not let the hub ask for (R508). -/
def voltBlocked (s : State) (target : Nat) : Bool :=
  decide (target < 4) && vidIndex target != vidIndex s.pwrState && s.rd R.PWR_REG_CFG_EN 0 0 == 1 && !s.voutLinear

/-- The refusers of an entry at step 1. -/
def refusersOf (s : State) (target : Nat) : List Nat :=
  ([1, 2, 3, 4, 5, 6, 7].filter (fun i => vetoes i target && (s.vetoHolds i || (i == 7 && s.voltBlocked target))))

/-- The refusers of an entry from step 2 to the commit (R499): the continuous ones. -/
def watchersOf (s : State) (target : Nat) : List Nat :=
  [1, 3, 4, 5, 6].filter (fun i => vetoes i target && s.vetoHolds i)

/-- An entry is refused or aborted (R500): counted for each refuser, and recorded for the lowest. -/
def refused (s : State) (target : Nat) (aborted : Bool) (refs : List Nat) : State :=
  match refs with
  | [] => s
  | r :: _ =>
    let s := refs.foldl (fun (s : State) i => s.bump R.PWR_REFUSE_CNT 0 i) s
    let s := ((s.wr R.PWR_LAST_REF_ID r).wr R.PWR_LAST_REF_TARGET target).wr R.PWR_LAST_REF_ABORTED (if aborted then 1 else 0)
    let s := (s.wr R.PWR_LAST_REF_TSW s.tswNow).tally 0x1E0
    s.event pwrPage (if aborted then 2 else 1) (r + target * 16 + (if aborted then 128 else 0))

/-! ### Step 2: functions and trunks drain -/

/-- A trunk retrains, for an entry to P2 or an exit from it. -/
def retrainOne (s : State) (n : Nat) : State := s.linkToDown n causeRetrain

/-- The functions that P2 removes drain (R265, R289, R392, R372). -/
def drainsQuiet (s : State) : State :=
  (s.updPwr (fun p => { p with drained := 2 })).displayShuts.stoShutdown.enginesStop.usbQuiets

/-- The functions that P3 and P4 remove drain (R328, R345). -/
def drainsDeep (s : State) : State := (s.windowsClose.macsStop).updPwr (fun p => { p with drained := 3 })

/-- Step 2 of an entry begins (Table 16.3): for P2 every running trunk retrains at one lane and 10.3125 GBd. -/
def drainsBegin (s : State) (target : Nat) : State :=
  let s := if 2 ≤ target ∧ s.pwr.drained < 2 then s.drainsQuiet else s
  let s := if 3 ≤ target ∧ s.pwr.drained < 3 then s.drainsDeep else s
  if target = 2 then
    let up := (List.range 16).filter (fun n => s.linkState n == linkUp)
    up.foldl retrainOne (s.updPwr (fun p => { p with quiet := true, retrain := up }))
  else s

/-- The functions that stand drained at level 2 or 3 read DISABLED. -/
def functionsDrained (s : State) (level : Nat) : Bool :=
  (decide (level < 2) || ([0, 1].all (fun i => s.srcState i == srcDisabled) && [0, 1].all (fun p => s.rpState p == rpOff) &&
    (List.range 32).all (fun b => s.btState b == btDisabled) && (List.range 16).all (fun e => s.engSt e == engOff) &&
    bulkEps.all (fun e => s.epState e == epDisabled))) &&
  (decide (level < 3) || ((List.range 64).all (fun w => s.owin R.HBR_OWIN_STAT_STATE w == winDisabled) &&
    (List.range 32).all (fun i => s.iwin R.HBR_IWIN_STAT_STATE i == winDisabled) &&
    (List.range 4).all (fun m => s.macState m == macDisabled)))

/-- The trunks that an entry to P2 retrains are up again, or go by their own rules (Table 16.10). -/
def trunksRetrained (s : State) : Bool :=
  s.pwr.retrain.all (fun n => s.linkState n == linkUp || s.rd R.TRK_LSTAT_CAUSE n != causeRetrain || s.rd R.TRK_LCFG_EN n == 0)

/-- Every trunk drains by R96, for P3 and P4. -/
def trunksDrain (s : State) : State :=
  (List.range 16).foldl (fun s n =>
    if s.linkState n = linkUp then s.linkToDrain n
    else if s.linkState n = linkDrain ∨ s.linkState n = linkDown then s
    else s.linkToDown n causeDisabled) (s.updPwr (fun p => { p with shut := true }))

/-- Both planes go to OFF with their EN as it is, and no plane holds authority; a FENCE waits for a plane that left service no longer (R25). -/
def planesStop (s : State) : State :=
  let s := if s.rd R.RGM_STAT_AUTH_VALID = 1 then (s.loseAuth (s.rd R.RGM_STAT_AUTH)).noAuth else s
  [0, 1].foldl (fun s p => ((s.failFences p).emptyPlane p).wr R.SW_STAT_STATE planeOff p) s

/-! ### Steps 3 to 5, and the way back -/

def setTrans (s : State) (t : PwrTrans) : State := s.updPwr (fun p => { p with trans := some t })

/-- What follows a transition: a trim and an alert that waited for it (Table 16.10). -/
def transDone (s : State) : State := s.vidRequest.alertServed

/-- In P1 each downstream USB port with PORT_EN 0, and each storage port with no block tunnel enabled, is powered off (R289, R372). -/
def portsOffP1 (s : State) : State :=
  if s.pwrState = 1 then
    ((List.range 4).filter (fun n => !(s.rd R.USB_HUB_CFG_PORT_EN).testBit n)).foldl
      (fun s n => (s.wr R.USB_PORT_STAT_STATE portOff 0 n).wr R.USB_PORT_STAT_POWER 0 0 n) s.stoTrims
  else s

/-- Step 5: the entry commits. -/
def commitEntry (s : State) (t : PwrTrans) : State :=
  let s := ((s.wr R.PWR_STAT_STATE t.target).wr R.PWR_STAT_BUSY 0).wr R.PWR_STAT_TARGET 0
  let s := (s.wr R.PWR_STAT_LAST_RESULT 0).updPwr (fun p => { p with trans := none })
  let s := s.portsOffP1.irq pwrPage 0
  if t.target = 4 then s.dramLost else s.transDone

/-- The regulator requests of step 4 (R507, R509). -/
def entryRequests (s : State) (t : PwrTrans) : List (Nat × RegOp) :=
  if t.target = 4 then [3, 2, 0, 1].map (fun r => (r, .off))
  else if vidIndex t.target = vidIndex t.source then []
  else [(0, .volt (s.vid (vidIndex t.target)))]

/-- Steps 3 and 4: domains are switched off, DRAM goes into self-refresh for P3, or loses its contents unless it is in self-refresh already, and the regulators are asked. -/
def switchOff (s : State) (t : PwrTrans) : State :=
  let s := s.switchDomains (s.stateDomains t.target)
  let s := if t.target = 3 then s.selfRefresh else s
  let s := if t.target = 4 then
      (if s.pwr.refresh then s else s.dramLost).updPwr (fun p => { p with asleep := some (s.panelNs, s.aonTime) })
    else s
  let s := (s.setTrans { t with stage := .volts }).regAsk (s.entryRequests t)
  if s.regsDone then s.commitEntry t else s

/-- An exit, or an aborted entry's way back, asks for its voltage (R501): regulators that are off are turned on in the order 1, 0, 2, 3. -/
def backVolts (s : State) (t : PwrTrans) : State :=
  let mv := s.vid (vidIndex t.target)
  let l := s.regsBack mv (s.pwr.asked != mv && vidIndex t.target != vidIndex t.source)
  let s := (s.setTrans { t with stage := .volts, leaving := true }).regAsk l
  if s.regsDone then s.setTrans { t with stage := .domains, leaving := true } else s

/-- An entry is aborted (R499): it goes back to the state it started from. -/
def abortEntry (s : State) (t : PwrTrans) (refs : List Nat) : State :=
  let s := (s.refused t.target true refs).regsDropped.alertServed
  s.backVolts { source := t.target, target := t.source, leaving := true, stage := .volts }

/-- The entry in progress that can still be aborted. -/
def entering (s : State) : Option PwrTrans := s.pwr.trans.filter (fun t => !t.leaving && !s.pwr.restoring)

/-- The continuous vetoes are evaluated (R499). -/
def watchEntry (s : State) : State :=
  match s.entering with
  | none => s
  | some t => if (s.watchersOf t.target).isEmpty then s else s.abortEntry t (s.watchersOf t.target)

/-- An exit begins (R501). -/
def leave (s : State) (target : Nat) : State :=
  let s := ((s.wr R.PWR_STAT_BUSY 1).wr R.PWR_STAT_TARGET target)
  s.backVolts { source := s.pwrState, target := target, leaving := true, stage := .volts }

/-- PWR_REQ (R496). -/
def pwrRequest (s : State) (path target : Nat) : State :=
  if s.pwrBusy then s.wr R.PWR_STAT_LAST_RESULT 0xC
  else if 5 ≤ target then s.wr R.PWR_STAT_LAST_RESULT 0xD
  else if target = s.pwrState then s.wr R.PWR_STAT_LAST_RESULT 0
  else if target < s.pwrState then s.leave target
  else if !s.ownerPath path then s.wr R.PWR_STAT_LAST_RESULT 1
  else
    let s := if s.voltBlocked target then s.wr R.PWR_REG_STAT_FAULT 1 0 0 else s
    let refs := s.refusersOf target
    if !refs.isEmpty then (s.refused target false refs).wr R.PWR_STAT_LAST_RESULT 2
    else
      let s := (s.wr R.PWR_STAT_BUSY 1).wr R.PWR_STAT_TARGET target
      (s.setTrans { source := s.pwrState, target := target, leaving := false, stage := .functions }).drainsBegin target

/-- Step 2 of an entry is over as far as `t` has come: the next stage follows. -/
def quiesced (s : State) (t : PwrTrans) : State :=
  match t.stage with
  | .functions =>
    if !s.functionsDrained s.pwr.drained then s
    else if 3 ≤ t.target then (s.setTrans { t with stage := .trunks }).trunksDrain
    else if t.target = 2 && !s.trunksRetrained then s
    else s.switchOff t
  | .trunks => if (List.range 16).all (fun n => s.linkState n == linkDown) then s.planesStop.switchOff t else s
  | _ => s

/-- Step 4 of R501: what the state runs resumes with its configuration as it stood (R498). -/
def functionsResume (s : State) (was target : Nat) : State :=
  let s := s.updPwr (fun p => { p with drained := if target = 2 then 2 else if 3 ≤ target then 3 else 0 })
  let s := if 2 ≤ was ∧ target < 2 then s.displayResumes.stoResumes.enginesResume.usbResumes else s
  if 3 ≤ was ∧ target < 3 then s.windowsOpen.macsResume else s

/-- Step 3 of R501: planes enter service again, and trunks train or retrain. -/
def trafficResumes (s : State) (was target : Nat) : State :=
  let s := s.updPwr (fun p => { p with quiet := decide (target = 2), shut := decide (3 ≤ target), retrain := [] })
  if 3 ≤ target then s
  else
    let s := [0, 1].foldl (fun s p =>
      if s.rd R.SW_CFG_EN p = 1 ∧ s.planeState p = planeOff then s.beginRestart p else s) s
    let en := (List.range 16).filter (fun n => s.rd R.TRK_LCFG_EN n == 1)
    en.foldl (fun s n =>
      if s.linkState n = linkDown then (if 3 ≤ was then s.enterTrain n else s)
      else if was = 2 ∨ target = 2 then s.retrainOne n
      else s) s

/-- The pair that P3 had off returns (Table 16.2). -/
def pairsResume (s : State) (was target : Nat) : State :=
  if was = 3 ∧ target < 3 then
    [0, 1].foldl (fun s p =>
      if (s.pairState p = pairOff ∨ ((s.mpair p).halted ∧ (s.mpair p).mem = [])) ∧ s.domainRuns (2 + p) ∧ (p = 0 ∨ s.rd R.MGT_CFG_B_EN = 1) then s.pairReturns p else s) s
  else s

/-- Steps 2 to 4 of R501: the domains of the target are on and out of reset, and STATE shows it. -/
def exitDone (s : State) (t : PwrTrans) : State :=
  let s := if s.pwr.doms.testBit 1 then s else s.hibernateReset
  let was := s.pwr.drained
  let aborted := s.pwrState == t.target
  let s := s.switchDomains (s.stateDomains t.target)
  let s := s.updPwr (fun p => { p with trans := none, scl := false, asleep := none })
  let s := if t.target = 3 then s.selfRefresh else s.updPwr (fun p => { p with refresh := false })
  let s := ((s.wr R.PWR_STAT_STATE t.target).wr R.PWR_STAT_BUSY 0).wr R.PWR_STAT_TARGET 0
  let s := s.wr R.PWR_STAT_LAST_RESULT (if aborted then 3 else 0)
  let w := if t.source = 4 then 3 else t.source
  let s := ((s.trafficResumes w t.target).functionsResume was t.target).pairsResume w t.target
  (if t.target = 1 then s.portsOffP1 else if t.source = 1 ∧ t.target = 0 then s.stoResumes else s).transDone.tamperFollows

/-! ### Wake -/

/-- The hub wakes to P0 on a source of Table 16.6, the lower bit when two fall together (R502). -/
def wakes (s : State) (sources trunk : Nat) : State :=
  let b := if sources.testBit 0 then 1 else if sources.testBit 1 then 2 else if sources.testBit 2 then 4
    else if sources.testBit 3 then 8 else 16
  let s := ((s.wr R.PWR_WAKE_LAST_SRC b).wr R.PWR_WAKE_LAST_TRUNK (if b = 2 then trunk else 0)).wr R.PWR_WAKE_LAST_FROM s.pwrState
  let s := (s.bump R.PWR_WAKE_CNT).tally 0x1E1
  let s := s.event pwrPage 3 (s.regWord [R.PWR_WAKE_LAST_SRC, R.PWR_WAKE_LAST_TRUNK, R.PWR_WAKE_LAST_FROM])
  let s := if s.pwrState = 3 then s.updPwr (fun p => { p with scl := false }) else s
  s.leave 0

/-- The sources of a set that are enabled and fire in a state (Table 16.6): the network's in P3 with KEEP 1 alone. -/
def wakeSources (s : State) (sources st : Nat) : Nat :=
  (sources &&& s.rd R.PWR_WAKE_EN ||| (sources &&& 4)) &&& (if st = 3 ∧ s.rd R.ETH_WAKE_CFG_KEEP = 1 then 0x1F else 0xF)

/-- Wake sources fire: in P3 and P4 they wake the hub, and during an entry to them they abort it, together with the vetoes that hold at that instant (R499, R500, R502, Table 16.10). -/
def wakeEvent (s : State) (sources trunk : Nat) : State :=
  match s.entering with
  | some t =>
    let e := s.wakeSources sources t.target
    if t.target < 3 ∨ e = 0 then s
    else s.abortEntry t (s.watchersOf t.target ++ (if e.testBit 4 then [refEth] else []) ++ (if e % 16 = 0 then [] else [refWake]))
  | none =>
    let e := s.wakeSources sources s.pwrState
    if 3 ≤ s.pwrState ∧ s.pwr.trans.isNone ∧ e ≠ 0 then s.wakes e trunk else s

/-- The tamper sources active in an island cycle: a response wakes the hub, or aborts an entry (R422, Tables 16.6 and 16.10). -/
def tamperSeen (s : State) (sources : Nat) : State :=
  let was := s.key.tampered
  let s := s.tamper sources
  if s.key.tampered && !was && !s.rst.off then s.wakeEvent 4 0 else s

/-- CLK_CSR is stopped: in P3 and P4, but for a change of state in which CORE runs (R504, Table 16.9). -/
def csrStopped (s : State) : Bool := !s.pwr.doms.testBit 1 || (s.pwrState == 3 && s.pwr.trans.isNone)

/-! ### Regulators -/

/-- The first request is acknowledged: an entry's last one commits it (R512), an exit's lets its domains power on, and one that restored a setting aborts its entry (R513). -/
def regPolled (s : State) (status : Nat) (pgood : Bool) (mode : Nat) : State :=
  match s.pwr.reqs with
  | [] => s
  | (r, op) :: _ =>
    if s.pwr.idle then s
    else if !s.regClean r op status pgood then (s.pmbRead r pmbStatusWord).wr R.PWR_REG_STAT_STATUS status 0 r
    else
      let s := ((s.pmbRead r pmbStatusWord).wr R.PWR_REG_STAT_STATUS status 0 r).regAcked r op mode
      match s.pwr.trans with
      | none => if s.rst.volts && s.regsDone then s.holdOrRelease else s.alertServed
      | some t =>
        if s.pwr.restoring then
          (s.updPwr (fun p => { p with restoring := false })).abortEntry t [refRegulator]
        else if !s.regsDone then s.watchEntry
        else if t.leaving then (s.setTrans { t with stage := .domains }).alertServed
        else s.commitEntry t

/-- What a request that was not acknowledged replaced. -/
def previousOp (s : State) (t : PwrTrans) : RegOp → RegOp
  | .off => .on
  | .on => .off
  | .volt _ => .volt (if s.rd R.PWR_VCORE = 0 then s.vid (vidIndex t.source) else s.rd R.PWR_VCORE)

/-- A request that must be met is repeated later; the third failure is a regulator fault (R514). -/
def regRepeats (s : State) (r : Nat) : State :=
  let n := s.pwr.fails + 1
  let s := s.updPwr (fun p => { p with fails := n, idle := true })
  if n = 3 then s.regFault r else s

/-- The first request has had no acknowledgement for 2 ms (R513, R514). -/
def regTimesOut (s : State) (status : Nat) : State :=
  match s.pwr.reqs with
  | [] => s
  | (r, op) :: rest =>
    if s.pwr.idle then s
    else
      let s := (((s.pmbRead r pmbStatusWord).wr R.PWR_REG_STAT_STATUS status 0 r).wr R.PWR_REG_STAT_PENDING 0 0 r).bump R.PWR_REG_NOACK
      match s.pwr.trans with
      | none =>
        if s.rst.volts then s.regRepeats r
        else ((s.updPwr (fun p => { p with reqs := rest })).regSend).alertServed
      | some t =>
        if t.leaving then s.regRepeats r
        else if s.pwr.restoring then
          (((s.updPwr (fun p => { p with restoring := false, off := p.off.filter (· != r) })).regsDropped).regFault r).abortEntry t [refRegulator]
        else
          ((s.regsDropped).updPwr (fun p => { p with restoring := true, reqs := [(r, s.previousOp t op)] })).regSend

/-- PMB_ALERT_N goes low: served at once, or after the acknowledgement that is awaited (R515, Table 16.10). -/
def alertLow (s : State) (l : List Nat) : State :=
  if s.regsDone then s.regAlert l else s.updPwr (fun p => { p with alert := some l })

/-- A write of PWR_VIDU[k]: where it changes the setpoint of the present state, that is asked for (R511); during a transition the request follows it (Table 16.10). -/
def trimWrite (s : State) (path k data : Nat) : State :=
  let a := 0x31074 + 4 * k
  s.gateWrite path a data (fun s =>
    let t := s.store path a data [R.PWR_VIDU] 0 k
    if t.vid k = s.vid k then t
    else if t.pwr.trans.isSome then t.updPwr (fun p => { p with trimmed := p.trimmed ++ [k] })
    else if k = vidIndex t.pwrState then t.regAsk [(0, .volt t.vidNow)]
    else t)

/-! ### Clocks -/

/-- The links of a PLL go down by their chapters' rules (R517). -/
def pllLinksDown (s : State) (k : Nat) : State :=
  if 1 ≤ k ∧ k ≤ 8 then
    let g := (k - 1) / 2
    let rate := k % 2
    (List.range 4).foldl (fun s i =>
      let n := 4 * g + i
      if s.rd R.TRK_LANESTAT_RATE n = rate ∧ s.linkState n ≠ linkDown ∧ s.linkState n ≠ linkHalt then s.linkToDown n causeLane
      else s) s
  else if k = 9 then
    let s := if s.rd R.HBR_LINK_STAT_UP = 1 then s.hostLinkLost else s
    [0, 1].foldl (fun s p => s.rpReset p rpcLinkDown true) s
  else if k = 10 then (List.range 4).foldl (fun s m => s.macDown m false) s
  else if k = 11 then
    (List.range 4).foldl (fun s o => if s.outState o = outActive ∨ s.outState o = outPsr then s.startTraining o else s) s
  else if k = 15 then s.usbDetach
  else s

/-- A PLL loses lock (R517); loss of the root PLL stops every clock it drives. -/
def lockLost (s : State) (k : Nat) : State :=
  let s := s.wr R.CLK_LOCK (s.rd R.CLK_LOCK &&& (0xFFFF - 2 ^ k))
  let s := (s.wr R.CLK_LOL (s.rd R.CLK_LOL ||| 2 ^ k)).bump R.CLK_LOL_CNT
  let s := (s.event 0x032 0 (s.rd R.CLK_LOL)).pllLinksDown k
  if k = 0 then { s with rst := { s.rst with lost := true } }.showDomains else s

end State

/-- POWER_STATE_REQUEST (R496): a write of PWR_REQ. -/
def execPowerStateRequest (path target : Nat) (s : State) : Host.Outcome State Fault Refusal :=
  guarded (decide (path < 8) && decide (target < 8)) (s.begin.gateWrite path pwrReqAddr target (fun s => s.pwrRequest path target))

/-- ENTRY_QUIESCE_DONE (R497): what step 2 drains may have come to its end. -/
def execEntryQuiesceDone (s : State) : Host.Outcome State Fault Refusal :=
  nextIn 0 s (let s := s.begin.watchEntry
              match s.entering with
              | some t => s.quiesced t
              | none => s)

/-- REGULATOR_ACK (R510, R512): a poll of the regulator asked last reads STATUS_WORD `status`, REG_PGOOD `pgood` and, after power-up, VOUT_MODE `mode`. -/
def execRegulatorAck (status : Nat) (pgood : Bool) (mode : Nat) (s : State) : Host.Outcome State Fault Refusal :=
  guardedIn 0 s (decide (status < 65536) && decide (mode < 256)) (s.begin.regPolled status pgood mode)

/-- REGULATOR_NOACK (R513, R514): 2 ms have passed without an acknowledgement. -/
def execRegulatorNoack (status : Nat) (s : State) : Host.Outcome State Fault Refusal :=
  guardedIn 0 s (decide (status < 65536)) (s.begin.regTimesOut status)

/-- REGULATOR_RETRY (R514). -/
def execRegulatorRetry (s : State) : Host.Outcome State Fault Refusal :=
  nextIn 0 s (if s.pwr.idle then s.begin.regSend else s.begin)

/-- EXIT_STEP_DONE (R501): every domain of the new state is powered, clocked and out of reset. -/
def execExitStepDone (s : State) : Host.Outcome State Fault Refusal :=
  nextIn 0 s (let s := s.begin
              match s.pwr.trans with
              | some t => if t.leaving && t.stage == .domains && s.functionsDrained s.pwr.drained then s.exitDone t else s
              | none => s)

/-- WAKE_EVENT (R502): wake sources by their bits of Table 16.6, and the trunk of a seat change. -/
def execWakeEvent (sources trunk : Nat) (s : State) : Host.Outcome State Fault Refusal :=
  guardedIn 0 s (decide (sources < 32) && decide (trunk < 16)) (s.begin.wakeEvent sources trunk)

/-- AON_TIMER_WAKE (R502): the AON timer reaches PWR_WAKE_TIME. -/
def execAonTimerWake (s : State) : Host.Outcome State Fault Refusal :=
  nextIn 0 s (if s.rd R.PWR_WAKE_TIME = 0 then s.begin else s.begin.wakeEvent 8 0)

/-- I2C_ADDRESS_MATCH (R504): the slave acknowledges its address; in P3 and P4, without a clock, it holds SCL and wakes the hub. -/
def execI2cAddressMatch (addr : Nat) (s : State) : Host.Outcome State Fault Refusal :=
  guardedIn 0 s (decide (addr < 128))
    (let s := s.begin
     if addr = s.rd R.PWR_I2C_CFG_ADDR then
       let s := if s.csrStopped then s.updPwr (fun p => { p with scl := true }) else s
       s.wakeEvent 1 0
     else s)

/-- WAKE_FRAME (R343): a frame at a MAC held for wake in P3, or during entry to P3. -/
def execWakeFrame (m : Nat) (frame : List Byte) (good : Bool) (s : State) : Host.Outcome State Fault Refusal :=
  guardedIn 14 s (decide (m < 4))
    (let s := s.begin
     if s.pwrState = 3 ∨ s.entering.any (fun t => t.target == 3) then
       let r := s.wakeMatch m frame good
       if r.2 then r.1.wakeEvent 16 0 else r.1
     else s)

/-- TAMPER_DETECTED (R422): the sources active in an island cycle. -/
def execTamperDetected (sources : Nat) (s : State) : Host.Outcome State Fault Refusal :=
  guarded (decide (sources < 128)) (s.begin.tamperSeen sources)

/-- BAT_LOW (Table 13.7): VBAT as measured, in mV; it is a tamper source as well. -/
def execBatLow (mv : Nat) (s : State) : Host.Outcome State Fault Refusal :=
  guarded (decide (mv < 4096)) ((s.begin.vbat mv).tamperSeen ((s.begin.vbat mv).vbatSources mv))

/-- PMBUS_ALERT (R515): PMB_ALERT_N goes low; the STATUS_WORDs that the four records then read. -/
def execPmbusAlert (st : List Nat) (s : State) : Host.Outcome State Fault Refusal :=
  guardedIn 0 s (decide (st.length = 4) && st.all (fun w => decide (w < 65536))) (s.begin.alertLow st)

/-- VID_TRIM_WRITE (R507, R511): a write of PWR_VIDU[k]. -/
def execVidTrimWrite (path k data : Nat) (s : State) : Host.Outcome State Fault Refusal :=
  guarded (decide (path < 8) && decide (k < 3)) (s.begin.trimWrite path k data)

/-- PLL_LOSS_OF_LOCK (R517): PLL `k` of CLK_LOCK. -/
def execPllLossOfLock (k : Nat) (s : State) : Host.Outcome State Fault Refusal :=
  guardedIn 0 s (decide (k < 16)) (s.begin.lockLost k)

/-- AON_TRIM (R503): while CLK_CSR runs the AON oscillator is trimmed, and its error before that shows. -/
def execAonTrim (ppm : Int) (s : State) : Host.Outcome State Fault Refusal :=
  guardedIn 1 s (decide (-32768 ≤ ppm) && decide (ppm < 32768)) (s.begin.wr R.CLK_AON_PPM (unsignedOf 16 ppm))

/-- DRAM_SELF_REFRESH_ENTRY (R491): no request for 2 µs; every stated latency tolerance exceeds 4 µs. -/
def execDramSelfRefreshEntry (s : State) : Host.Outcome State Fault Refusal :=
  nextIn 17 s (let s := s.begin
               if s.pwrState ≤ 2 ∧ 4 < s.rd R.DSP_LT then s.selfRefresh else s)

end Sys2Proof.Machine
end

