-- ==== Sys2Proof/Machine/Views.lean ====
section
/-! DEFINITION. What a register reads (R3, R9, Table 0.5): its fields as they are stored, or a view of state that the hub holds elsewhere; and the header registers that are computed (Tables 18.4 to 18.7). -/

namespace Sys2Proof.Machine

/-- The address of instance (0, 0) of a register, by which the views below know it. -/
def Place.base (x : Place) : Nat := (x.reg.fields.head?.map (fun f => f.addr)).getD 0

/-- Two 16-bit values in one word, the first the lower. -/
def halves (lo hi : Nat) : Nat := lo % 65536 + hi % 65536 * 65536

namespace State

/-- Cells in the VOQs of a plane from switch port `sp`. -/
def voqDepth (s : State) (p sp : Nat) : Nat :=
  ((List.range 24).map (fun out => ((List.range 8).map (fun vc => s.voqCells p sp out vc)).sum)).sum

/-- Registers of chapters 01 to 05 that show state: plane `i`, trunk `i`. -/
def viewTraffic (s : State) (a i : Nat) : Option Nat :=
  match a with
  | 0x280058 => some (s.regWord [R.TMAP_STAT_BUSY, R.TMAP_STAT_LAST_RESULT] +
      (if s.tun.edit.isEmpty then 0 else 2 + s.tun.editPath * 4 + s.tun.edit.length * 32))
  | 0x08008C => some (halves (s.link i).x (s.oldest i))
  | 0x080090 => some (halves (s.cum i) (s.link i).landing.length)
  | 0x080098 => some (s.creditLeft i (s.rd R.TRK_CRED_SEL_VC i))
  | 0x08009C => some ((s.link i).rxSent.get 0 (s.rd R.TRK_CRED_SEL_VC i))
  | 0x100048 => some (s.regWord [R.SW_STAT_STATE, R.SW_STAT_CMD_RESULT, R.SW_STAT_FAIL_CAUSE] i +
      min 15 (s.recentRestarts i).length * 2 ^ 12)
  | 0x100054 => some (halves (s.freeCells i) (s.rd R.SW_FREE_LOW i))
  | 0x100058 => some (s.reservedTotal i)
  | 0x101044 => some (halves (s.rd R.SW_SDG_STAT_SWEEPS i) (min (s.rd R.SW_SDG_STAT_CELL i) 49151))
  | 0x10204C => some (s.regWord [R.SW_MCG_STAT_BUSY, R.SW_MCG_STAT_LAST_RESULT, R.SW_MCG_STAT_BAD_GROUP] i +
      (if s.mcg.words.isEmpty then 0 else 2 + s.mcg.path * 4 + s.mcgGroups.length * 32))
  | 0x103054 => some (s.voqDepth i (s.rd R.SW_PORT_SEL i))
  | 0x104040 => some s.tun.dds.length
  | 0x01C040 => some (s.rgmWord)
  | 0x200050 => some (halves (s.plane 0).park.length (s.plane 1).park.length)
  | 0x202054 => some (s.regWord [R.SCH_AL_STAT_BUSY, R.SCH_AL_STAT_LAST_RESULT] +
      (if (s.askedAllot (s.rd R.SCH_AL_INDEX_INDEX)).isSome then 2 else 0))
  | 0x20406C => some (s.sch.bins.get 0 (s.rd R.SCH_HIST_INDEX_HIST * 16 + s.rd R.SCH_HIST_INDEX_BIN))
  | _ => none

/-- Registers of chapters 03 and 06 that show state: trunk `i`, register `j` among its like. -/
def viewTime (s : State) (a i j : Nat) : Option Nat :=
  match a with
  | 0x083050 => some (s.txLat i j).toNat
  | 0x083054 => some (s.rxLat i j).toNat
  | 0x040040 => some s.tim.ns
  | 0x043040 => some (if j < 3 then s.rd R.TIM_TSOF 0 j % 65536 else s.rd R.TIM_TSOF 0 j)
  | 0x04204C => some (unsignedOf 16 (s.asymInUse j))
  | 0x043048 => some (unsignedOf 16 (s.tsOffset j (decide (3 ≤ j) && s.rd R.ETH_MAC_STAT_MODE ((j - 3) % 4) != 3)))
  | 0x05804C => some s.jnlFill
  | 0x058050 => some (s.jnlWord j)
  | _ => none

/-- Registers of chapters 08 to 10 that show state. -/
def viewAdapters (s : State) (a : Nat) : Option Nat :=
  match a with
  | 0x31404C =>
    let b := s.rd R.STO_BT_INDEX
    some (s.regWord [R.STO_BT_STAT_STATE, R.STO_BT_STAT_RESULT] 0 b + (s.stoTun b).cmds.length * 2 ^ 24)
  | 0x320064 => some (256 - s.brg.freeTags.length)
  | 0x321054 =>
    let w := s.rd R.HBR_OWIN_INDEX
    some (s.regWord [R.HBR_OWIN_STAT_STATE, R.HBR_OWIN_STAT_NP_FAIL] 0 w +
      (s.brg.reqs.filter (fun x => x.2.any (fun r => r.live && r.win == w))).length % 256 * 2 ^ 8)
  | 0x328068 => some (match s.brg.cause with
      | [] => 0
      | (v, l) :: _ => l + v * 2 ^ 24 + 2 ^ 31)
  | 0x328070 => some (s.brg.router.filter (fun x => x.2.2 % 2 == 1)).length
  | 0x340084 => some (match s.net.txts with
      | [] => 0
      | t :: _ => t.seq % 65536 + t.mtype % 16 * 2 ^ 16 + t.mac % 4 * 2 ^ 24 + 2 ^ 31)
  | 0x340088 => some (match s.net.txts with
      | [] => 0
      | t :: _ => t.sec % 2 ^ 32)
  | 0x34008C => some (match s.net.txts with
      | [] => 0
      | t :: _ => t.ns)
  | _ => none

/-- KEY_SLOT_STAT of the selected slot. -/
def slotStat (s : State) : Nat :=
  match s.slot (s.rd R.KEY_SLOT_SEL) with
  | none => 0
  | some k => (if k.unusable then 2 else 1) + k.kind * 2 ^ 4 + k.usage * 2 ^ 8 + k.engMask * 2 ^ 16

/-- The logical engine that engine `e` serves is covered by a spare. -/
def engCovered (s : State) (e : Nat) : Bool := s.serves e && (s.coverOf (s.logOf e)).isSome

/-- Registers of chapter 12 that show state: pair `i`, cluster `i` or engine `i`. -/
def viewEngines (s : State) (a i j : Nat) : Option Nat :=
  match a with
  | 0x010068 => some s.mgt.mbox.length
  | 0x01105C => some (min 15 (s.recentPairRestarts i).length)
  | 0x361050 => some (domainSet ((List.range 8).map (fun e => (e, s.engSt (8 * i + e) == engSpare)) ++
      (List.range 8).map (fun l => (8 + l, s.serves (s.physOf (8 * i + l)) && (s.coverOf (8 * i + l)).isSome))))
  | 0x370048 => some (s.regWord [R.ENG_HEALTH_STATE, R.ENG_HEALTH_LOGICAL, R.ENG_HEALTH_FAULT, R.ENG_HEALTH_CKPT_STALE,
      R.ENG_HEALTH_RESULT] i + (if s.engCovered i then 2 ^ 13 else 0))
  | 0x370054 => some (match (s.logEng (s.logOf i)).commitAt with
      | none => 0
      | some t => min ((s.hw - t) / 1000) 0xFFFFFFFF)
  | 0x37005C => some ((s.logEng (s.logOf i)).cmd.length + min 16 (s.logEng (s.logOf i)).rsp.length * 2 ^ 8 +
      s.rd R.ENG_CMDQ_STAT_LAST_RESULT i * 2 ^ 16)
  | 0x370080 => some (match (s.logEng (s.logOf i)).rsp with
      | [] => 0
      | r :: _ => wordAt r j)
  | _ => none

/-- Registers of chapters 13 to 17 that show state: channel `i`, register `j` among its like. -/
def viewControl (s : State) (a i j : Nat) : Option Nat :=
  match a with
  | 0x000040 => some (s.regWord [R.CHIP_PART_PART, R.CHIP_PART_CORE_REV] + (if s.rst.pdRead then s.rd R.CHIP_PART_PD_REV * 2 ^ 24 else 0))
  | 0x020050 => some s.slotStat
  | 0x02408C => some (s.key.svnMin.get 0 (s.rd R.KEY_SVN_SEL))
  | 0x0610D8 => some (halves (unsignedOf 16 (s.calSum R.FUS_CALF_I_G R.FUS_CALU_I_G i))
      (unsignedOf 16 (s.calSum R.FUS_CALF_I_O R.FUS_CALU_I_O i)))
  | 0x0610E4 => some (halves (unsignedOf 16 (s.calSum R.FUS_CALF_V_G R.FUS_CALU_V_G i))
      (unsignedOf 16 (s.calSum R.FUS_CALF_V_O R.FUS_CALU_V_O i)))
  | 0x03004C => some (domainSet ((List.range 8).map (fun k => (k, s.vetoHolds k))))
  | 0x030070 => some s.aonTime
  | 0x031080 => some (s.vid j)
  | 0x050040 => some (domainSet ((List.range 32).map (fun g => (g, s.groupPending g))))
  | 0x050054 => some (domainSet [(0, s.intN), (1, s.intnRouted), (2, s.intnEvent)])
  | 0x050080 => some (domainSet ((List.range 32).map (fun b => (b, s.irqActive (32 * j + b)))))
  | _ => none

/-- The value of a register: the view where it has one, else its fields. -/
def regValue (s : State) (x : Place) : Nat :=
  let a := x.base
  let j := s.placeJ x
  (((((s.viewTraffic a x.i).orElse (fun _ => s.viewTime a x.i j)).orElse (fun _ => s.viewAdapters a)).orElse
    (fun _ => s.viewEngines a x.i j)).orElse (fun _ => s.viewControl a x.i j)).getD (s.regWord x.reg.fields x.i j)

/-- What a read of a byte address finds, the latches apart (R6, Table 18.3). -/
def readAt (s : State) (addr : Nat) : Nat :=
  let p := addr / 4096
  match addr % 4096 with
  | 0x000 => if pageListed p then pageId p else 0
  | 0x004 => if pageListed p then pageCap p else 0
  | 0x00C => if pageListed p then s.pageStat p else 0
  | _ =>
    match placeAt addr with
    | some x => s.regValue x
    | none => 0

end State

end Sys2Proof.Machine
end

