-- ==== Sys2Proof/Machine/Route.lean ====
section
/-! DEFINITION. What a register access does on the registers that have commands of their own: a write of a command register runs the command that its OP names (R9, R56), a write of an EN field the command that the chapter gives, and a read that takes something runs that read. The access has passed the gate of Access.lean, and the command's own gate lets it through again. -/

namespace Sys2Proof.Machine

namespace State

/-- The state after a command of another row, which the access carries out; what it puts out follows what is out already. -/
def ran (s : State) (o : Host.Outcome State Fault Refusal) : State :=
  match o with
  | .next t => { t with out := s.out ++ t.out }
  | _ => s

/-- TMAP_CMD, the commands of a plane's pages, RGM_CMD and the trunk commands. -/
def cmdTraffic (s : State) (path i : Nat) (a data : Nat) : Option State :=
  match a, data % 16 with
  | 0x280054, 1 => some (s.ran (execTmapReadA path s))
  | 0x280054, 2 => some (s.ran (execTmapReadB path s))
  | 0x280054, 3 => some (s.ran (execTmapStage path s))
  | 0x280054, 4 => some (s.ran (execTmapCommit path s))
  | 0x280054, 5 => some (s.ran (execTmapDiscard path s))
  | 0x280054, 6 => some (s.ran (execTmapReadStaged path s))
  | 0x280054, _ => some (s.tmapResult (if s.rd R.TMAP_STAT_BUSY = 1 then resBusy else resBadOp))
  | 0x080040, _ => some (s.ran (execLinkEnWrite path i data s))
  | 0x080044, 1 => some (s.ran (execLinkRetrain path i s))
  | 0x080044, _ => some s
  | 0x082044, 1 => some (s.ran (execLaneSubstitute path i (data / 16 % 4) s))
  | 0x082044, 2 => some (s.ran (execLaneRequalify path i (data / 16 % 4) s))
  | 0x082044, 3 => some (s.ran (execLaneRelearn path i s))
  | 0x082044, _ => some s
  | 0x0820A0, _ => some (s.ran (execAltModeWrite path i data s))
  | 0x100040, _ => some (s.ran (if data % 2 = 1 then execPlaneEnable path i data s else execPlaneDisable path i data s))
  | 0x100044, 1 => some (s.ran (execPlaneRestartCmd path i s))
  | 0x100044, _ => some (s.wr R.SW_STAT_CMD_RESULT 3 i)
  | 0x102048, 1 => some (s.ran (execMcgRead path i s))
  | 0x102048, 2 => some (s.ran (execMcgStage path i s))
  | 0x102048, 3 => some (s.ran (execMcgCommit path i s))
  | 0x102048, 4 => some (s.ran (execMcgDiscard path i s))
  | 0x102048, 5 => some (s.ran (execMcgReadStaged path i s))
  | 0x102048, _ => some (s.mcgResult (if s.rd R.SW_MCG_STAT_BUSY i = 1 then resBusy else resBadOp))
  | 0x01C04C, 1 => some (s.ran (execRgmHandover path s))
  | 0x01C04C, 2 => some (s.ran (execRgmSwapLive path s))
  | 0x01C04C, _ => some (s.wr R.RGM_RESULT 3)
  | _, _ => none

/-- The scheduler's commands and the time commands. -/
def cmdSched (s : State) (path j : Nat) (a data : Nat) : Option State :=
  match a, data % 16 with
  | 0x200068, _ => some (s.ran (execSchRelSet path 0 data s))
  | 0x20006C, _ => some (s.ran (execSchRelSet path 1 data s))
  | 0x200070, _ => some (s.ran (execSchRelClr path 0 data s))
  | 0x200074, _ => some (s.ran (execSchRelClr path 1 data s))
  | 0x201048, 1 => some (s.ran (execSchQRead path s))
  | 0x201048, 2 => some (s.ran (execSchQWrite path s))
  | 0x201048, _ => some ((s.wr R.SCH_Q_STAT_LAST_RESULT resBadOp).nextIndex R.SCH_Q_INDEX_INDEX R.SCH_Q_INDEX_AUTOINC)
  | 0x202050, 1 => some (s.ran (execSchAlRead path s))
  | 0x202050, 2 => some (s.ran (execSchAlWrite path s))
  | 0x202050, 3 => some (s.ran (execSchAlReadPending path s))
  | 0x202050, _ => some (s.schAlDone resBadOp)
  | 0x203050, 1 => some (s.ran (execSchPolRead path s))
  | 0x203050, 2 => some (s.ran (execSchPolWrite path s))
  | 0x203050, 3 => some (s.ran (execSchPolClearCnt path s))
  | 0x203050, _ => some (s.schPolDone resBadOp)
  | 0x204048, 1 => some (s.ran (execSchSmpRead path s))
  | 0x204048, 2 => some (s.ran (execSchSmpClear path s))
  | 0x204048, _ => some s
  | 0x204100, _ => some (s.ran (execHistSelWrite path j data s))
  | 0x040058, 1 => some (s.ran (execTimeSet path s))
  | 0x040058, 2 => some (s.ran (execTimeStep path s))
  | 0x040058, 3 => some (s.ran (execTimeSlew path s))
  | 0x040058, 4 => some (s.ran (execSlewAbort path s))
  | 0x040058, 5 => some (s.ran (execTimeCapture path s))
  | 0x040058, _ => some (s.timResult resBadOp)
  | 0x040070, _ => some (s.ran (execFadjWrite path data s))
  | 0x041048, _ => some (s.ran (execPtpQualWrite path data s))
  | 0x058048, _ => some (s.ran (execJnlTailWrite path data s))
  | _, _ => none

/-- The namespaces that a RESCAN on the generic path finds: what the controller has now is a free value. -/
def freeSpaces (s : State) : List NsInfo :=
  let v := fun k => (Config.freeValue (s.free + k)).toNat
  (List.range (v 0 % 17)).map (fun i =>
    { nsid := v (5 * i + 1), blocks := v (5 * i + 2), lba := v (5 * i + 3), metaSize := v (5 * i + 4), prot := v (5 * i + 5) })

/-- Display, storage, bridge and router. -/
def cmdAdapters (s : State) (path i j : Nat) (a data : Nat) : Option State :=
  match a, data % 16 with
  | 0x304054, 1 => some (s.ran (execAuxNativeRead path i data s))
  | 0x304054, 2 => some (s.ran (execAuxNativeWrite path i data s))
  | 0x304054, 3 => some (s.ran (execAuxI2cRead path i data s))
  | 0x304054, 4 => some (s.ran (execAuxI2cWrite path i data s))
  | 0x304054, _ => some (s.wr R.DSP_AUX_STAT_LAST_RESULT resBadOp i)
  | 0x301040, _ => some (s.ran (if data % 2 = 1 then execSourceEnable path i data s else execSourceDisable path i data s))
  | 0x311040, _ => some (s.ran (if data % 2 = 1 then execRootPortEnable path i data s else execRootPortDisable path i data s))
  | 0x311044, 1 => some (s.ran (execControllerResetCmd path i s))
  | 0x311044, 2 => some { s.ran (execRpRescan path i s.freeSpaces s) with free := s.free + 81 }
  | 0x311044, _ => some (s.wr R.STO_RP_STAT_LAST_RESULT resBadOp i)
  | 0x314044, _ => some (s.ran (if data % 2 = 1 then execBlockTunnelEnable path data s else execBlockTunnelDisable path data s))
  | 0x32005C, _ => some (s.ran (execHbrFence path (data % 64) s))
  | 0x323040, _ => some (if data % 2 = 1 then s.ran (execHbrSemRelease path j s) else s)
  | 0x321044, _ => some (s.ran (if data % 2 = 1 then execWindowEnable path data false s else execWindowDisable path data false s))
  | 0x322044, _ => some (s.ran (if data % 2 = 1 then execWindowEnable path data true s else execWindowDisable path data true s))
  | 0x32804C, 1 => some (s.ran (execMrtRead path s))
  | 0x32804C, 2 => some (s.ran (execMrtWrite path s))
  | 0x32804C, 3 => some (s.ran (execMrtClear path s))
  | 0x32804C, _ => some (s.mrtDone resBadOp)
  | _, _ => none

/-- Network, USB and the engines. -/
def cmdEngines (s : State) (path i : Nat) (a data : Nat) : Option State :=
  match a, data % 16 with
  | 0x341040, _ => some (s.ran (if data % 2 = 1 then execMacEnable path i data s else execMacDisable path i data s))
  | 0x345050, 1 => some (s.ran (execEthClsRead path s))
  | 0x345050, 2 => some (s.ran (execEthClsWrite path s))
  | 0x345050, _ => some (s.clsDone resBadOp)
  | 0x34604C, 1 => some (s.ran (execEthEgbRead path s))
  | 0x34604C, 2 => some (s.ran (execEthEgbWrite path s))
  | 0x34604C, _ => some (s.egbDone resBadOp)
  | 0x350040, _ => some (s.ran (execUsbFunctionEnWrite path data s))
  | 0x351044, _ => some (s.ran (if data % 2 = 1 then execUsbEpEnable path data s else execUsbEpDisable path data s))
  | 0x353044, _ => some (s.ran (execUsbDescDataAccess path true data s))
  | 0x370040, _ => some (if data % 2 = 1 then
      { s.ran (execEngineStart path i data (s.freeNat % 2 == 1) s) with free := s.free + 1 }
    else s.ran (execEngineDisable path i data s))
  | 0x370044, 1 => some (s.ran (execEngReload path i s))
  | 0x370044, 2 => some (s.ran (execEngRestart path i s))
  | 0x370044, _ => some s
  | 0x370058, _ => some (s.ran (execEngCmdqPush path i s))
  | 0x360044, 1 => some (s.ran (execEngCacheLoad path (data / 256 % 256) (data / 65536 % 2) s))
  | 0x360044, 2 => some (s.ran (execEngCacheEvict path (data / 256 % 256) (data / 65536 % 2) s))
  | 0x360044, _ => some (s.wr R.ENG_CACHE_STAT_LAST_RESULT (if s.rd R.ENG_CACHE_STAT_BUSY = 1 then resBusy else resBadOp))
  | 0x361048, 1 => some (s.ran (execEngBindRead path i s))
  | 0x361048, 2 => some (s.ran (execEngBindWrite path i s))
  | 0x361048, _ => some (s.wr R.ENG_BIND_STAT_LAST_RESULT resBadOp i)
  | _, _ => none

/-- The management cores, the counters, the key store, authority and attestation. -/
def cmdKeys (s : State) (path i j : Nat) (a data : Nat) : Option State :=
  match a, data % 16 with
  | 0x010044, 1 => some (s.ran (execRestartA path s))
  | 0x010044, 2 => some (s.ran (execRestartB path s))
  | 0x010044, 3 => some (s.ran (execStopB path s))
  | 0x010044, _ => some (s.mgtResult resBadOp)
  | 0x010058, 1 => some (s.ran (execFlashRead path s))
  | 0x010058, 2 => some (s.ran (execFlashProgram path s))
  | 0x010058, 3 => some (s.ran (execFlashErase4k path s))
  | 0x010058, 4 => some (s.ran (execFlashErase64k path s))
  | 0x010058, _ => some (s.wr R.MGT_FLASH_STAT_LAST_RESULT (if s.rd R.MGT_FLASH_STAT_BUSY = 1 then resBusy else resBadOp))
  | 0x011044, _ => some
      { s.ran (execWdtKick path i i data (s.freeNat % 2 ^ 32) ((Config.freeValue (s.free + 1)).toNat % 2 ^ 32) s) with
        free := s.free + 2 }
  | 0x014040, _ => some (s.ran (execEvcFreeze path data s))
  | 0x014044, _ => some (s.ran (execEvcClear path data s))
  | 0x014100, _ => some (s.ran (execEvcSelWrite path j data s))
  | 0x020044, _ => some (if path = pathEngine then ({ s with free := s.free + 1 }).keyWord path data (s.freeNat % 16) else s.keyWord path data 0)
  | 0x02104C, 1 => some (s.ran (execKeyAuthRead path s))
  | 0x02104C, 2 => some (s.ran (execKeyAuthWrite path s))
  | 0x02104C, 3 => some (s.ran (execKeyAuthLock path s))
  | 0x02104C, _ => some (s.authResult resBadOp)
  | 0x022044, 1 => some (s.ran (execDebugChallenge path (data / 256 % 8) s))
  | 0x022044, 2 => some (s.ran (execDebugRespond path s))
  | 0x022044, 3 => some (s.ran (execDebugClose path s))
  | 0x022044, _ => some (s.dbgResult resBadOp)
  | 0x02304C, _ => some (s.ran (execTamperLock path data s))
  | 0x024040, 1 => some (s.ran (execAttest path s))
  | 0x024040, _ => some (s.wr R.KEY_ATT_STAT_LAST_RESULT (if s.rd R.KEY_ATT_STAT_BUSY = 1 then resBusy else resBadOp))
  | 0x024080, 1 => some (s.ran (execOtpProgCodeHash path s))
  | 0x024080, 2 => some (s.ran (execOtpProgDebugHash path s))
  | 0x024080, 3 => some (s.ran (execOtpSetDbgNever path s))
  | 0x024080, 4 => some (s.ran (execOtpRaiseSvn path (data / 256 % 256) (data / 65536 % 64) s))
  | 0x024080, _ => some (s.otpResult
      (if s.rd R.KEY_OTP_STAT_BUSY = 1 then resBusy else if s.ownerPath path then resBadOp else 1))
  | _, _ => none

/-- The power die, power states and resets. -/
def cmdPower (s : State) (path i j : Nat) (a data : Nat) : Option State :=
  match a, data % 16 with
  | 0x06004C, 1 => some (s.ran (execPreloadProgram path s))
  | 0x06004C, _ => some (s.wr R.FUS_UCFG_STAT_LAST_RESULT resBadOp)
  | 0x061040, _ => some (s.ran (execChannelDirWrite path i data s))
  | 0x061044, 1 => some (s.ran (execFusClear path i s))
  | 0x061044, 2 => some (s.ran (execApplyCurve path i s))
  | 0x061044, 3 => some (s.ran (execSetHeat path i s))
  | 0x061044, 4 => some (s.ran (execPeakClr path i s))
  | 0x061044, 5 => some (s.ran (execEnergyClr path i s))
  | 0x061044, _ => some (s.fusResult i resBadOp)
  | 0x074040, _ => some (s.ran (execCpdEnableWrite path (4 * i + j) data s))
  | 0x074044, 1 => some (s.ran (execCpdSend path (4 * i + j) s))
  | 0x074044, 2 => some (s.ran (execCpdHardReset path (4 * i + j) s))
  | 0x074044, 3 => some (s.ran (execCpdFrsSend path (4 * i + j) s))
  | 0x074044, 4 => some (s.ran (execCpdFrsConfirm path (4 * i + j) s))
  | 0x074044, 5 => some (s.ran (execCpdSwapEnd path (4 * i + j) s))
  | 0x074044, _ => some (s.cpdResult (4 * i + j) resBadOp)
  | 0x030040, _ => some (s.ran (execPowerStateRequest path (data % 8) s))
  | 0x031074, _ => some (s.ran (execVidTrimWrite path j data s))
  | 0x001040, 1 => some (s.ran (execChipRstWarm path s))
  | 0x001040, _ => some (s.wr R.CHIP_RST_STAT_LAST_RESULT resBadOp)
  | _, _ => none

/-- A write of a register that has a command of its own: its address as that of instance (0, 0), and its two indexes. -/
def cmdWrite (s : State) (path i j a data : Nat) : Option State :=
  ((((((s.cmdTraffic path i a data).orElse (fun _ => s.cmdSched path j a data)).orElse
    (fun _ => s.cmdAdapters path i j a data)).orElse (fun _ => s.cmdEngines path i a data)).orElse
    (fun _ => s.cmdKeys path i j a data)).orElse (fun _ => s.cmdPower path i j a data))

/-- A read that takes something, answered by the command of that read. -/
def cmdRead (s : State) (path i j a : Nat) : Option State :=
  match a with
  | 0x040040 => some (s.ran (execTimNowRead path s))
  | 0x323040 => some (s.ran (execHbrSemRead path j s))
  | 0x328068 => some (s.ran (execMrtCauseRead path s))
  | 0x340090 => some (s.ran (execTxtsRead path s))
  | 0x353044 => some (s.ran (execUsbDescDataAccess path false 0 s))
  | 0x074088 => some (s.ran (execCpdRxRead path (4 * i + j) s))
  | 0x058050 => if j = 3 then some (s.ran (execJnlDataRead path s)) else none
  | 0x370080 => if j = 7 then some (s.ran (execEngRspRead path i s)) else none
  | _ => none

end State

end Sys2Proof.Machine
end

