-- ==== Sys2Proof/Machine/Csr.lean ====
section
/-! DEFINITION. The register fabric (chapters 00 and 18): what a read and a write of any CSR address do, the 64-bit pairs, the page header, and page soft reset. -/

namespace Sys2Proof.Machine

namespace State

/-! ### Plain writes -/

/-- The fields that a write reaches now: some registers take writes only in a state that their chapter names. -/
def takesWrite (s : State) (x : Place) : Bool :=
  let j := s.placeJ x
  match x.base with
  | 0x301044 => s.srcState x.i == srcDisabled
  | 0x300040 => s.srcState 0 == srcDisabled && s.srcState 1 == srcDisabled
  | 0x310040 => (List.range 32).all (fun b => s.btState b == btDisabled)
  | 0x314048 => s.btState j == btDisabled
  | 0x321048 => s.owin R.HBR_OWIN_STAT_STATE j == winDisabled
  | 0x32104C => s.owin R.HBR_OWIN_STAT_STATE j == winDisabled
  | 0x322048 => s.iwin R.HBR_IWIN_STAT_STATE j == winDisabled
  | 0x32204C => s.iwin R.HBR_IWIN_STAT_STATE j == winDisabled
  | 0x350048 => s.rd R.USB_CFG_EN == 0
  | 0x35004C => s.rd R.USB_CFG_EN == 0
  | 0x350050 => s.rd R.USB_CFG_EN == 0
  | 0x351048 => s.epState j == epDisabled
  | 0x360040 => (List.range 16).all (fun e => s.engSt e == engOff)
  | 0x021040 => s.rd R.KEY_OWNER_LOCK == 0
  | 0x023040 => s.rd R.KEY_TMP_LOCK_LOCK == 0
  | 0x023044 => s.rd R.KEY_TMP_LOCK_LOCK == 0
  | 0x023048 => s.rd R.KEY_TMP_LOCK_LOCK == 0
  | a => !(decide (0x07404C ≤ a) && decide (a ≤ 0x074068)) || s.rd R.CPD_STAT_TX_BUSY x.i j == 0

/-- Table 13.2: registers that only owner authority may write. -/
def ownerOnly (x : Place) : Bool :=
  x.base == 0x021040 || x.base == 0x023040 || x.base == 0x023044 || x.base == 0x023048

/-- The word that a register stores of one written: limits and RSVD bits that its chapter gives beyond each field's own. -/
def wordStored (s : State) (x : Place) (data : Nat) : Nat :=
  match x.base with
  | 0x201044 => if 24 ≤ data % 32 then data ||| 31 else data
  | 0x346044 => if bitsOf data 21 20 = 3 then data - 2 ^ 20 else data
  | 0x351040 => if data % 16 = 0 then data + 1 else data
  | 0x043044 => if s.placeJ x < 3 then data % 2 ^ 16 else data
  | 0x021040 => data ||| 1
  | 0x023048 => data / 256 * 256 + (if data % 256 < 128 then 216 else max 196 (min 216 (data % 256)))
  | 0x030064 => data ||| 4
  | 0x061050 => data / 65536 * 65536 + min (data % 65536) (40000000 / max 1 (s.rd R.FUS_SHUNT x.i))
  | a => if a = 0x14 then data &&& domainSet ((irqBits x.i).map (fun b => (b, true))) else data

/-- What a write sets off beyond the value it stores; `old` is the state before it. -/
def afterWrite (s old : State) (x : Place) (data : Nat) : State :=
  match x.base with
  | 0x008 =>
    if data.testBit 1 then { s with csr := { s.csr with softReset := (s.csr.softReset ++ [x.i]).eraseDups } } else s
  | 0x010 =>
    { s with csr := { s.csr with intn := s.csr.intn.eraseIf (fun k => k / 32 == x.i && data.testBit (k % 32)) } }
  | 0x020 => if data.testBit 31 then s.wr R.ERR_CAPT2_COUNT 0 x.i else s
  | 0x041040 => s.reselect
  | 0x058040 =>
    if old.rd R.MON_JNL_CFG_EN = 0 ∧ s.rd R.MON_JNL_CFG_EN = 1 then { s with jnl := { s.jnl with lost := false } } else s
  | 0x304040 => s.outEnWritten x.i
  | 0x352040 => s.portsOffP1
  | 0x010040 => s.pairBPower
  | 0x011040 => s.wr R.MGT_WDT_CFG_WIN_MIN (min (s.rd R.MGT_WDT_CFG_WIN_MIN x.i) (s.rd R.MGT_WDT_CFG_WIN_MAX x.i)) x.i
  | _ => s

/-- A write of a register without a command of its own (Table 0.5): refused without owner authority where Table 13.2 asks for it, ignored while the chapter says so, stored otherwise. -/
def plainWrite (s : State) (path addr : Nat) (x : Place) (data : Nat) : State :=
  if ownerOnly x && !s.ownerPath path then s.deny path true addr data 0xF
  else if !s.takesWrite x then s
  else
    let act := fun (s : State) => s.store path addr (s.wordStored x data) x.reg.fields x.i (s.placeJ x)
    if x.base = 0x014 then s.routing (x.i / 32) act else (act s).afterWrite s x data

/-! ### Pairs and the header -/

/-- The command that an access carries out passes the gate with it, and is no access of its own. -/
def carried (s : State) (f : State → Option State) : Option State :=
  (f (s.asArrived (some true))).map (fun t => t.asArrived s.csr.arrived)

/-- Both halves of a writable pair are applied (R8): the _LO half that the path has staged, or the one that stands when it has staged none. -/
def applyPair (s : State) (path : Nat) (x : Place) (addr data : Nat) : State :=
  if x.base = 0x058068 then (s.carried (fun s => some (s.ran (execJnlSwWrite path data s)))).getD s
  else if !s.takesWrite x then s
  else
    match x.reg.fields with
    | f :: _ =>
      if f.acc = .rw then
        let v := (s.stagedLo path addr).getD (s.rd f x.i (s.placeJ x) % 2 ^ 32) + data % 2 ^ 32 * 2 ^ 32
        (s.put f (if x.base = 0x32104C then v / 4096 * 4096 else v) x.i (s.placeJ x)).stageLo path addr none
      else s
    | [] => s

/-- PAGE_IRQ_FORCE (R551): no counter and no journal entry; each interrupt is forwarded where the customer image asked for it. -/
def forceIrq (s : State) (page data : Nat) : State :=
  let bs := (irqBits page).filter (fun b => data.testBit b)
  let s := s.routing (page / 32) (fun s => bs.foldl (fun s b => s.wr (irqField b) 1 page) s)
  bs.foldl (fun s b => s.forwardIrq page b) s

/-- What a write of a listed page does once the hub lets it through. -/
def writeAct (s : State) (path addr data : Nat) : State :=
  if addr % 4096 = 0x018 then s.forceIrq (addr / 4096) data
  else
    match placeAt addr with
    | some x =>
      if x.reg.pair then s.stageLo path addr (some (data % 2 ^ 32))
      else (s.carried (fun s => s.cmdWrite path x.i x.j x.base data)).getD (s.plainWrite path addr x data)
    | none =>
      match pairAt addr with
      | some x => s.applyPair path x (addr - 4) data
      | none => s

/-- The capture registers whose latching read is TIM_CAP_NS[c] (Table 6.11). -/
def capNs (addr : Nat) : Option Nat :=
  if addr = 0x041080 then some 0 else if addr = 0x041090 then some 1 else if addr = 0x0410A0 then some 2 else none

/-- The pair's group has a latching read of its own (R202). -/
def groupLatch (x : Place) : Bool := x.base == 0x040044 || x.base == 0x041084

/-- What a read of a listed page does once the hub lets it through: the value, and the latches of R7 and R553. -/
def readAct (s : State) (path addr : Nat) : State :=
  match placeAt addr with
  | some x =>
    match s.carried (fun s => s.cmdRead path x.i x.j x.base) with
    | some t => t
    | none =>
      let v := s.readAt addr
      if x.reg.pair then
        if groupLatch x then s.answer path (s.latched path addr % 2 ^ 32)
        else (s.setLatch path addr (v / 2 ^ 32)).answer path (v % 2 ^ 32)
      else
        let s := match capNs addr with
          | some c => s.setLatch path (addr + 4) (s.tim.capSec.get 0 c)
          | none => s
        s.answer path v
  | none =>
    match pairAt addr with
    | some x =>
      let l := s.latched path (addr - 4)
      s.answer path (if groupLatch x then l / 2 ^ 32 else l)
    | none => s.answer path (s.readAt addr)

/-! ### Accesses of any width -/

/-- The cause of Table 18.8 that R5 gives an access: all four byte enables, at an aligned address. -/
def badAccess (addr be : Nat) : Option Nat :=
  if be ≠ 0xF then some causeWidth else if addr % 4 ≠ 0 then some causeAlign else none

/-- An access that fails R5: captured whatever the mask says; on a page that is in reset, or behind a link that is down, it is refused as any access is; on an unlisted page nothing captures it. -/
def captureBad (s : State) (path : Nat) (write : Bool) (addr data be cause : Nat) : State :=
  let page := addr / 4096
  if s.noSender path || !pageListed page then s
  else if s.rst.held && pageDomain page != 0 then s.bump R.CHIP_RST_DENIED
  else if pageDomain page = 31 ∧ s.pdLinkUp = false then
    (s.bump R.FUS_LINK_ERR).capture 0x060 path write causeLinkDown (addr % 4096) data be page
  else s.capture page path write cause (addr % 4096) data be 0

/-- A CSR write with the byte enables `be`; one that fails R5 waits like any other behind an access that holds its path (R521). -/
def csrWrite (s : State) (path addr data : Nat) (be : Nat := 0xF) : State :=
  match badAccess addr be with
  | some c =>
    let t := s.tlpIn path
    if !s.noSender path && s.pathHeld path then t.queueAccess { path := path, write := true, addr := addr, data := data, be := be }
    else t.captureBad path true addr data be c
  | none => if pageListed (addr / 4096) then s.gateWrite path addr data (fun s => s.writeAct path addr data) else s.tlpIn path

/-- A CSR read with the byte enables `be`; the answer is emitted. -/
def csrRead (s : State) (path addr : Nat) (be : Nat := 0xF) : State :=
  match badAccess addr be with
  | some c =>
    let t := s.tlpIn path
    if s.noSender path then s
    else if s.pathHeld path then t.queueAccess { path := path, write := false, addr := addr, data := 0, be := be }
    else (t.captureBad path false addr 0 be c).answer path 0xFFFFFFFF
  | none =>
    if pageListed (addr / 4096) then s.gateRead path addr (fun s => s.readAct path addr)
    else if s.noSender path then s
    else if s.pathHeld path then (s.tlpIn path).queueAccess { path := path, write := false, addr := addr, data := 0 }
    else (s.tlpIn path).answer path 0

/-! ### Page soft reset -/

/-- What a chapter's soft reset of a page does beyond its counters; on a lane page it clears the margins measured last, and leaves the learned baselines and the sums that they come from (DESIGN CHOICE, log 141). -/
def softResetExtra (s : State) (page : Nat) : State :=
  let i := (pageRegs page).1
  if 0x080 ≤ page ∧ page ≤ 0x0FF then
    match page % 8 with
    | 0 => s.linkToDown i 0
    | 2 => [0, 1, 2].foldl (fun s k => (s.wr R.TRK_EYE_EYE_H 0 i k).wr R.TRK_EYE_EYE_V 0 i k) s
    | _ => s
  else if 0x061 ≤ page ∧ page ≤ 0x072 then s.peakClear i
  else
    match page with
    | 0x280 => s.updTun (fun t => { t with edit := [] })
    | 0x100 => s.wr R.SW_FREE_LOW (s.freeCells 0) 0
    | 0x180 => s.wr R.SW_FREE_LOW (s.freeCells 1) 1
    | 0x203 => s.updSch (fun x => { x with
        policers := x.policers.mapVals {} (fun _ p => { p with green := 0, yellow := 0, red := 0 }) })
    | 0x204 => s.updSch (fun x => { x with samples := [], bins := [] })
    | 0x041 => [0, 1, 2].foldl (fun s c => s.wr R.TIM_CAP_NS 0 0 c) (s.updTim (fun t => { t with capSec := [] }))
    | 0x058 => { s.wr R.MON_JNL_TAIL (s.rd R.MON_JNL_HEAD) with jnl := { s.jnl with full := false } }
    | 0x340 => s.updNet (fun x => { x with txts := [] })
    | 0x051 =>
      let s := (s.wr R.MON_TEMP_MAX_TEMP 0).wr R.MON_TEMP_MAX_SENSOR 0
      { s with csr := { s.csr with tempSeen := false } }
    | _ => s

/-- The header's part of a page soft reset (R550): PAGE_IRQ_STAT, the capture registers and the latches. -/
def softResetHeader (s : State) (page : Nat) : State :=
  let s := s.eraseKeys (fun k => keyPage k == page && (keyAddr k % 4096 == 0x010 ||
    (decide (0x020 ≤ keyAddr k % 4096) && decide (keyAddr k % 4096 ≤ 0x02C))))
  { s with csr := { s.csr with
      intn := s.csr.intn.eraseIf (fun k => k / 32 == page),
      latch := s.csr.latch.eraseIf (fun k => k % 2 ^ 22 / 4096 == page),
      softReset := s.csr.softReset.erase page } }

/-- The pages whose soft reset clears no counter (R124, chapter 04: page 0x01C). -/
def keepsCounters (page : Nat) : Bool := page == 0x01C || (decide (0x080 ≤ page) && decide (page ≤ 0x0FF) && page % 8 == 3)

/-- A page soft reset acts (R550): its header's part comes last, so that a LINK_DOWN that the reset of a link page itself causes is cleared with the rest (DESIGN CHOICE, log 140). -/
def softReset (s : State) (page : Nat) : State :=
  let s := if keepsCounters page then s else s.eraseKeys (fun k => keyPage k == page && keyCounter k)
  ((s.softResetExtra page).softResetHeader page).wr R.PAGE_CTL_SRST 0 page

end State

/-- REGISTER_WRITE (R9): a write of any CSR address with its byte enables. -/
def execRegisterWrite (path addr data be : Nat) (s : State) : Host.Outcome State Fault Refusal :=
  guarded (decide (path < 8) && decide (addr < 2 ^ 22) && decide (data < 2 ^ 32) && decide (be < 16))
    (s.begin.csrWrite path addr data be)

/-- LATCHING_READ (R7): a read of any CSR address with its byte enables, and of the registers that latch among them. -/
def execLatchingRead (path addr be : Nat) (s : State) : Host.Outcome State Fault Refusal :=
  guarded (decide (path < 8) && decide (addr < 2 ^ 22) && decide (be < 16)) (s.begin.csrRead path addr be)

/-- HI_WRITE_APPLY (R8): a write of the _HI half of a pair, by its address. -/
def execHiWriteApply (path addr data : Nat) (s : State) : Host.Outcome State Fault Refusal :=
  guarded (decide (path < 8) && decide (addr < 2 ^ 22) && decide (addr % 4 = 0) && decide (data < 2 ^ 32) && (pairAt addr).isSome)
    (s.begin.csrWrite path addr data)

/-- SOFT_RESET_REQUEST (R550): a write of PAGE_CTL with SRST 1. -/
def execSoftResetRequest (path page data : Nat) (s : State) : Host.Outcome State Fault Refusal :=
  guarded (decide (path < 8) && pageListed page && decide (data < 2 ^ 32))
    (s.begin.csrWrite path (page * 4096 + 0x008) (data ||| 2))

/-- SOFT_RESET_ACT (R550): the page has no command in progress, and its soft reset acts. -/
def execSoftResetAct (page : Nat) (s : State) : Host.Outcome State Fault Refusal :=
  guarded (pageListed page)
    (let s := s.begin
     let runs := if pageDomain page = 31 then s.fus.alive else s.domainRuns (pageDomain page)
     if s.csr.softReset.contains page && !s.pageBusy page && runs then s.softReset page else s)

/-- PAGE_LOCK (R11): a write of PAGE_CTL with LOCK 1. -/
def execPageLock (path page data : Nat) (s : State) : Host.Outcome State Fault Refusal :=
  guarded (decide (path < 8) && pageListed page && decide (data < 2 ^ 32))
    (s.begin.csrWrite path (page * 4096 + 0x008) (data ||| 4))

/-- PAGE_IRQ_FORCE (R551). -/
def execPageIrqForce (path page data : Nat) (s : State) : Host.Outcome State Fault Refusal :=
  guarded (decide (path < 8) && pageListed page && decide (data < 2 ^ 32))
    (s.begin.csrWrite path (page * 4096 + 0x018) data)

end Sys2Proof.Machine
end

