-- ==== Sys2Proof/Machine/Paths.lean ====
section
/-! DEFINITION. The access paths that carry register accesses over other protocols (Table 13.1): USB requests (R353), the management tunnel (R410, R411) and I2C (R504, R505); and the accesses that wait for a stopped domain (R493, R521). -/

namespace Sys2Proof.Machine

namespace State

/-! ### The accesses of the wire protocols -/

/-- The value of the last answer to a read on a path, among what has been put out. -/
def answerOn (path : Nat) (out : List Emit) : Nat :=
  out.foldl (fun v e => match e with
    | .csr p x => if p = path then x else v
    | _ => v) 0

/-- A read whose answer another protocol carries: the state without the answer, and its value. -/
def quietRead (s : State) (path addr : Nat) : State × Nat :=
  let t := ({ s with out := [] } : State).csrRead path addr
  ({ t with out := s.out ++ t.out.filter (fun e => match e with
      | .csr p _ => p != path
      | _ => true) }, answerOn path t.out)

/-- The hub refuses an access to a path: by the page's mask, or for want of owner authority (R407, R408). -/
def refuses (s : State) (path : Nat) (write : Bool) (addr : Nat) : Bool :=
  pageListed (addr / 4096) && decide (addr % 4 = 0) &&
    (decide (s.verdict path write addr = .denied) ||
      (write && decide (s.verdict path write addr = .go) && !s.ownerPath path &&
        ((placeAt addr).any (fun x => ownerOnly x || x.base == 0x02304C))))

/-- An access would wait (R521): one that R5 or R6 answers waits only behind another of its path. -/
def mustWait (s : State) (path : Nat) (write : Bool) (addr : Nat) : Bool :=
  if pageListed (addr / 4096) && decide (addr % 4 = 0) then decide (s.verdict path write addr = .waits)
  else !s.rst.off && s.pathHeld path

/-! ### USB (R353) -/

/-- The register access of a vendor request: STALL when the hub refuses it, NAK while it waits, data or the zero-length packet otherwise. -/
def usbAccess (s : State) (write : Bool) (addr data : Nat) : State :=
  if s.refuses pathUsb write addr then
    let s := if write then s.csrWrite pathUsb addr data else (s.quietRead pathUsb addr).1
    s.ep0Stall
  else if s.mustWait pathUsb write addr then
    (if write then s.csrWrite pathUsb addr data else s.csrRead pathUsb addr).usbAnswer 0 usbNak []
  else if write then (s.csrWrite pathUsb addr data).ep0Ok
  else
    let r := s.quietRead pathUsb addr
    r.1.ep0Send 4 (toLe 4 r.2)

/-- The SETUP packet of a vendor request on EP0 of the function (Table 11.2). -/
def vendorSetup (s : State) (write : Bool) (addr len : Nat) : State :=
  s.updUsb (fun u => { u with
    setup := toLe 1 (if write then 0x40 else 0xC0) ++ toLe 1 (if write then 2 else 1) ++ toLe 4 addr ++ toLe 2 len,
    ep0Out := [], writing := false })

/-- A CSR_READ makes its access at its SETUP packet (R353). -/
def vendorRead (s : State) (addr len : Nat) : State :=
  let s := s.vendorSetup false addr len
  if len ≠ 4 ∨ 2 ^ 22 ≤ addr then s.ep0Stall else s.usbAccess false addr 0

/-- A CSR_WRITE holds its SETUP and its data, and makes its access at the IN token of its status stage (R353); a status stage without data is answered with STALL. -/
def vendorWrite (s : State) (addr len : Nat) : CtlStage → State
  | .setup =>
    let s := s.vendorSetup true addr len
    if len ≠ 4 ∨ 2 ^ 22 ≤ addr then s.ep0Stall else s.updUsb (fun u => { u with writing := true })
  | .data word => if s.usb.writing then (s.updUsb (fun u => { u with ep0Out := toLe 4 word })).usbAnswer 0 usbAck [] else s
  | .status =>
    if !s.usb.writing then s
    else
      let t := s.updUsb (fun u => { u with writing := false })
      if s.usb.ep0Out.length ≠ 4 then t.ep0Stall
      else t.usbAccess true (ofLe ((s.usb.setup.drop 2).take 4)) (ofLe s.usb.ep0Out)

/-! ### The management tunnel (R410, R411) -/

/-- One operation of Table 13.3: its status and the data read. -/
def mtunOp (s : State) (op addr data : Nat) : State × Nat × Nat :=
  if op ≠ 1 ∧ op ≠ 2 then (s, 3, 0)
  else if addr % 4 ≠ 0 then
    (if op = 2 then s.csrWrite pathMtun addr data else (s.quietRead pathMtun addr).1, 2, 0)
  else if s.refuses pathMtun (op == 2) addr then
    (if op = 2 then s.csrWrite pathMtun addr data else (s.quietRead pathMtun addr).1, 1, 0)
  else if op = 2 then (s.csrWrite pathMtun addr data, 0, 0)
  else
    let r := s.quietRead pathMtun addr
    (r.1, 0, r.2)

/-- Operations in order, up to one that waits: what the reply holds after them, and what is left. -/
def mtunOps (s : State) : List (Nat × Nat × Nat) → List Byte → State × List Byte × List (Nat × Nat × Nat)
  | [], r => (s, r, [])
  | (op, addr, data) :: t, r =>
    if (op == 1 || op == 2) && s.mustWait pathMtun (op == 2) addr then
      (if op = 2 then s.csrWrite pathMtun addr data else s.csrRead pathMtun addr, r, (op, addr, data) :: t)
    else
      let x := s.mtunOp op addr data
      (x.1.asArrived none).mtunOps t (r ++ toBe 1 x.2.1 ++ toBe 3 addr ++ toBe 4 x.2.2)

/-- The operations of a command body, from its byte 2 on; bits 23:22 of an address are not looked at. -/
def mtunBody (b : List Byte) : List (Nat × Nat × Nat) :=
  (List.range (beAt b 0 1)).map (fun i =>
    (beAt b (2 + 8 * i) 1, beAt b (3 + 8 * i) 3 % 2 ^ 22, beAt b (6 + 8 * i) 4))

/-- The agent goes on with a command: one reply when its last operation is complete. -/
def mtunRun (s : State) (j : MtunJob) : State :=
  let r := s.mtunOps j.left j.reply
  if r.2.2.isEmpty then
    let s : State := { r.1 with csr := { r.1.csr with mtun := none } }
    s.originUnit 23 (s.rd R.KEY_MTUN_REPLY) kindMessage (toBe 2 0xC001 ++ toBe 1 j.count ++ toBe 1 j.seq ++ r.2.1)
  else { r.1 with csr := { r.1.csr with mtun := some { j with left := r.2.2, reply := r.2.1 } } }

/-- A command begins, or waits until the reply to the one before it is sent. -/
def mtunTake (s : State) (x : Nat × UnitMsg) : State :=
  if s.csr.mtun.isSome then { s with csr := { s.csr with mtunWaits := s.csr.mtunWaits ++ [x] } }
  else
    let b := x.2.payload.drop 2
    s.mtunRun ⟨beAt b 0 1, beAt b 1 1, mtunBody b, []⟩

/-- The agent takes a unit (R410, R411). -/
def mtunGood (s : State) (inSp : Nat) (u : UnitMsg) : Bool :=
  let b := u.payload.drop 2
  let t := s.rd R.KEY_MTUN_CFG_TRUNK
  u.kind == kindMessage && beAt u.payload 0 2 == 0xC000 && s.rd R.KEY_MTUN_CFG_EN == 1 && inSp == t &&
    s.rd R.TRK_LSTAT_PEER_ROLE t == 0 && decide (1 ≤ beAt b 0 1) && decide (beAt b 0 1 ≤ 16) &&
    b.length == 2 + 8 * beAt b 0 1

/-- A unit on the management tunnel. -/
def mtunUnit (s : State) (inSp : Nat) (u : UnitMsg) : State :=
  if u.tid ≠ s.rd R.KEY_MTUN_CFG_TID then s
  else if s.mtunGood inSp u then s.mtunTake (inSp, u)
  else (s.bump R.KEY_MTUN_BAD).irq 0x021 1

/-! ### Waiting accesses (R493, R521) -/

/-- The access that a path waits for, and the accesses behind it. -/
def waitsOn (s : State) (path : Nat) : List WaitingAccess := s.pwr.waiting.filter (fun w => w.path == path)

/-- The oldest waiting access of a path completes once its domain's clock runs or the host has credits again, and goes on under the mask of its arrival (R409); those behind it follow at their own resumption. -/
def resume (s : State) (path : Nat) : State :=
  match s.waitsOn path with
  | [] => s
  | w :: rest =>
    let t := ({ s with pwr := { s.pwr with waiting := s.pwr.waiting.filter (fun w => w.path != path) } } : State).asArrived (some w.mask)
    if (badAccess w.addr w.be).isNone && decide (t.verdict path w.write w.addr = .waits) then s
    else
      let back := fun (s : State) => ({ s with pwr := { s.pwr with waiting := s.pwr.waiting ++ rest } } : State).asArrived none
      if path = pathMtun then
        match t.csr.mtun with
        | some j =>
          let t := (t.mtunRun j).asArrived none
          if t.csr.mtun.isSome then t
          else t.csr.mtunWaits.foldl mtunTake { t with csr := { t.csr with mtunWaits := [] } }
        | none => back t
      else if path = pathUsb then back (t.usbAccess w.write w.addr w.data)
      else
        match w.req, w.eng with
        | some r, _ => back (t.hostTakes r)
        | none, some l => back (t.gateWrite path w.addr w.data (fun s => s.keyWord path w.data l) (some l))
        | none, none => back (if w.write then t.csrWrite path w.addr w.data w.be else t.csrRead path w.addr w.be)

/-- An access waits for a page of domain `d`. -/
def wantedDomain (s : State) (d : Nat) : Bool := s.pwr.waiting.any (fun w => pageDomain (w.addr / 4096) == d)

/-- A domain that P1 has switched off is switched on for an access (R493). -/
def autoOn (s : State) (d : Nat) : State :=
  if s.pwrState = 1 ∧ s.pwr.trans.isNone ∧ s.pwr.doms.testBit d = false ∧ s.wantedDomain d then
    let s := s.switchDomains (s.pwr.doms ||| 2 ^ d)
    (List.range 8).foldl (fun s path =>
      if (s.waitsOn path).head?.any (fun w => pageDomain (w.addr / 4096) == d) then s.resume path else s) s
  else s

/-- A domain that an access switched on and in which nothing is enabled is switched off again (R493). -/
def idleOff (s : State) (d : Nat) : State :=
  if s.pwrState = 1 ∧ s.pwr.trans.isNone ∧ s.pwr.doms.testBit d ∧ (s.stateDomains 1).testBit d = false then
    s.switchDomains (s.pwr.doms ^^^ 2 ^ d)
  else s

/-! ### I2C (R505) -/

/-- The slave can take an access: it holds SCL for none, and a clock runs for it. -/
def i2cReady (s : State) (dev : Nat) : Bool :=
  dev == s.rd R.PWR_I2C_CFG_ADDR && !s.pwr.scl && (s.waitsOn pathI2c).isEmpty && (decide (s.pwrState < 3) || s.pwr.trans.isSome)

end State

/-- USB_CSR_READ (R353): a CSR_READ vendor request at its SETUP packet, with wValue and wIndex as one address, and the error that endpoint memory shows on it. -/
def execUsbCsrRead (addr len ecc : Nat) (s : State) : Host.Outcome State Fault Refusal :=
  guardedIn 15 s (decide (ecc < 3) && decide (addr < 2 ^ 32) && decide (len < 65536))
    (if s.usb.attached then s.begin.ep0Ecc ecc (fun s => s.vendorRead addr len) else s.begin)

/-- USB_CSR_WRITE (R353): a stage of a CSR_WRITE vendor request, with the address and length of its SETUP packet, which the later stages do not look at, and the error that endpoint memory shows on it. -/
def execUsbCsrWrite (addr len : Nat) (stage : CtlStage) (ecc : Nat) (s : State) : Host.Outcome State Fault Refusal :=
  guardedIn 15 s (decide (ecc < 3) && decide (addr < 2 ^ 32) && decide (len < 65536) && ctlStageOk stage)
    (if s.usb.attached then s.begin.ep0Ecc ecc (fun s => s.vendorWrite addr len stage) else s.begin)

/-- MTUN_COMMAND (R411): a unit on the management tunnel at SP23, and the switch port at which it entered the hub. -/
def execMtunCommand (inSp : Nat) (u : UnitMsg) (s : State) : Host.Outcome State Fault Refusal :=
  guardedIn 1 s (decide (inSp < 24)) (s.begin.mtunUnit inSp u)

/-- ACCESS_RESUME (R521). -/
def execAccessResume (path : Nat) (s : State) : Host.Outcome State Fault Refusal :=
  guarded (decide (path < 8)) (s.begin.resume path)

/-- DOMAIN_AUTO_POWER_ON (R493). -/
def execDomainAutoPowerOn (d : Nat) (s : State) : Host.Outcome State Fault Refusal :=
  guardedIn 0 s (decide (6 ≤ d) && decide (d < 15)) (s.begin.autoOn d)

/-- DOMAIN_IDLE_POWER_OFF (R493): 10 ms after the last access. -/
def execDomainIdlePowerOff (d : Nat) (s : State) : Host.Outcome State Fault Refusal :=
  guardedIn 0 s (decide (6 ≤ d) && decide (d < 15)) (s.begin.idleOff d)

/-- I2C_WRITE (R505): a write to device address `dev`; the data bytes that follow the address bytes. -/
def execI2cWrite (dev addr : Nat) (data : List Byte) (s : State) : Host.Outcome State Fault Refusal :=
  guardedIn 0 s (decide (dev < 128) && decide (addr < 2 ^ 22))
    (let s := s.begin
     if s.i2cReady dev && data.length == 4 then s.csrWrite pathI2c addr (beAt data 0 4) else s)

/-- I2C_READ (R505). -/
def execI2cRead (dev addr : Nat) (s : State) : Host.Outcome State Fault Refusal :=
  guardedIn 0 s (decide (dev < 128) && decide (addr < 2 ^ 22))
    (let s := s.begin
     if s.i2cReady dev then s.csrRead pathI2c addr else s)

end Sys2Proof.Machine
end

