-- ==== Sys2Proof/Machine/Dispatch.lean ====
section
/-! DEFINITION. The dispatch: one arm for each command. -/

namespace Sys2Proof.Machine

def exec (i : Instr) (s : State) : Host.Outcome State Fault Refusal :=
  match i with
  | .registerWrite path addr data be => Sys2Proof.Machine.execRegisterWrite path addr data be s
  | .latchingRead path addr be => Sys2Proof.Machine.execLatchingRead path addr be s
  | .hiWriteApply path addr data => Sys2Proof.Machine.execHiWriteApply path addr data s
  | .softResetRequest path page data => Sys2Proof.Machine.execSoftResetRequest path page data s
  | .softResetAct page => Sys2Proof.Machine.execSoftResetAct page s
  | .pageLock path page data => Sys2Proof.Machine.execPageLock path page data s
  | .pageIrqForce path page data => Sys2Proof.Machine.execPageIrqForce path page data s
  | .unitIngress sp u upsets => Sys2Proof.Machine.execUnitIngress sp u upsets s
  | .fenceArrival p q => Sys2Proof.Machine.execFenceArrival p q s
  | .fenceTimeout q tid => Sys2Proof.Machine.execFenceTimeout q tid s
  | .scrubPass upsets => Sys2Proof.Machine.execScrubPass upsets s
  | .tmapReadA path => Sys2Proof.Machine.execTmapReadA path s
  | .tmapReadB path => Sys2Proof.Machine.execTmapReadB path s
  | .tmapStage path => Sys2Proof.Machine.execTmapStage path s
  | .tmapCommit path => Sys2Proof.Machine.execTmapCommit path s
  | .tmapCommitApply => Sys2Proof.Machine.execTmapCommitApply s
  | .tmapCommitPairTimeout => Sys2Proof.Machine.execTmapCommitPairTimeout s
  | .tmapDiscard path => Sys2Proof.Machine.execTmapDiscard path s
  | .tmapReadStaged path => Sys2Proof.Machine.execTmapReadStaged path s
  | .cellReceived n lane raw fault => Sys2Proof.Machine.execCellReceived n lane raw fault s
  | .ackTimerExpiry n => Sys2Proof.Machine.execAckTimerExpiry n s
  | .ackSend n => Sys2Proof.Machine.execAckSend n s
  | .ackReceived n cumv base map rtt => Sys2Proof.Machine.execAckReceived n cumv base map rtt s
  | .cellTransmit n ecc => Sys2Proof.Machine.execCellTransmit n ecc s
  | .replayTimerExpiry n => Sys2Proof.Machine.execReplayTimerExpiry n s
  | .creditReceived n v limit => Sys2Proof.Machine.execCreditReceived n v limit s
  | .creditRefresh n => Sys2Proof.Machine.execCreditRefresh n s
  | .ctlErr n raw => Sys2Proof.Machine.execCtlErr n raw s
  | .capBlockSend n => Sys2Proof.Machine.execCapBlockSend n s
  | .capReceived n t => Sys2Proof.Machine.execCapReceived n t s
  | .capTimeout n => Sys2Proof.Machine.execCapTimeout n s
  | .linkDownDwell n => Sys2Proof.Machine.execLinkDownDwell n s
  | .linkEnWrite path n data => Sys2Proof.Machine.execLinkEnWrite path n data s
  | .linkDrainTimeout n => Sys2Proof.Machine.execLinkDrainTimeout n s
  | .linkRetrain path n => Sys2Proof.Machine.execLinkRetrain path n s
  | .trainStepDone n t => Sys2Proof.Machine.execTrainStepDone n t s
  | .trainStepTimeout n => Sys2Proof.Machine.execTrainStepTimeout n s
  | .trainRetry n => Sys2Proof.Machine.execTrainRetry n s
  | .laneHealthSample n ms => Sys2Proof.Machine.execLaneHealthSample n ms s
  | .healthSend n => Sys2Proof.Machine.execHealthSend n s
  | .healthReceived n h => Sys2Proof.Machine.execHealthReceived n h s
  | .laneHardFail n lane => Sys2Proof.Machine.execLaneHardFail n lane s
  | .substReqRepeat n => Sys2Proof.Machine.execSubstReqRepeat n s
  | .substReqReceived n lane rseq => Sys2Proof.Machine.execSubstReqReceived n lane rseq s
  | .switchReceived n src dst pos rseq ns => Sys2Proof.Machine.execSwitchReceived n src dst pos rseq ns s
  | .substTimeout n => Sys2Proof.Machine.execSubstTimeout n s
  | .spareLost n => Sys2Proof.Machine.execSpareLost n s
  | .learningDone n => Sys2Proof.Machine.execLearningDone n s
  | .laneSubstitute path n lane => Sys2Proof.Machine.execLaneSubstitute path n lane s
  | .laneRequalify path n lane => Sys2Proof.Machine.execLaneRequalify path n lane s
  | .laneRelearn path n => Sys2Proof.Machine.execLaneRelearn path n s
  | .requalified n lane => Sys2Proof.Machine.execRequalified n lane s
  | .altModeWrite path n data => Sys2Proof.Machine.execAltModeWrite path n data s
  | .unitEnterPlane sp => Sys2Proof.Machine.execUnitEnterPlane sp s
  | .cellSlotMatch p => Sys2Proof.Machine.execCellSlotMatch p s
  | .schedStall p => Sys2Proof.Machine.execSchedStall p s
  | .egressCellBoundary n ecc => Sys2Proof.Machine.execEgressCellBoundary n ecc s
  | .planeFatalError p => Sys2Proof.Machine.execPlaneFatalError p s
  | .planePowerLost p => Sys2Proof.Machine.execPlanePowerLost p s
  | .planeHeartbeatMiss p missed => Sys2Proof.Machine.execPlaneHeartbeatMiss p missed s
  | .planeDisable path p data => Sys2Proof.Machine.execPlaneDisable path p data s
  | .planeEnable path p data => Sys2Proof.Machine.execPlaneEnable path p data s
  | .planeRestartBegin p => Sys2Proof.Machine.execPlaneRestartBegin p s
  | .planeRestartCmd path p => Sys2Proof.Machine.execPlaneRestartCmd path p s
  | .planeEnterService p => Sys2Proof.Machine.execPlaneEnterService p s
  | .sheepdogSweepStart p => Sys2Proof.Machine.execSheepdogSweepStart p s
  | .sheepdogVisit p upset => Sys2Proof.Machine.execSheepdogVisit p upset s
  | .sheepdogSweepEnd p upset => Sys2Proof.Machine.execSheepdogSweepEnd p upset s
  | .mcgRead path p => Sys2Proof.Machine.execMcgRead path p s
  | .mcgStage path p => Sys2Proof.Machine.execMcgStage path p s
  | .mcgCommit path p => Sys2Proof.Machine.execMcgCommit path p s
  | .mcgCommitApply => Sys2Proof.Machine.execMcgCommitApply s
  | .mcgCommitPairTimeout => Sys2Proof.Machine.execMcgCommitPairTimeout s
  | .mcgDiscard path p => Sys2Proof.Machine.execMcgDiscard path p s
  | .mcgReadStaged path p => Sys2Proof.Machine.execMcgReadStaged path p s
  | .replicaMismatch r => Sys2Proof.Machine.execReplicaMismatch r s
  | .authorityClaim a b => Sys2Proof.Machine.execAuthorityClaim a b s
  | .pairHeartbeat a b => Sys2Proof.Machine.execPairHeartbeat a b s
  | .pairHeartbeatMiss p missed pc0 pc1 => Sys2Proof.Machine.execPairHeartbeatMiss p missed pc0 pc1 s
  | .pairHalt p cause corr pcs => Sys2Proof.Machine.execPairHalt p cause corr pcs s
  | .rgmHandover path => Sys2Proof.Machine.execRgmHandover path s
  | .rgmSwapLive path => Sys2Proof.Machine.execRgmSwapLive path s
  | .parkScan p => Sys2Proof.Machine.execParkScan p s
  | .carouselSlotEnd n slot => Sys2Proof.Machine.execCarouselSlotEnd n slot s
  | .missDeadline n => Sys2Proof.Machine.execMissDeadline n s
  | .refillBoundary => Sys2Proof.Machine.execRefillBoundary s
  | .schQRead path => Sys2Proof.Machine.execSchQRead path s
  | .schQWrite path => Sys2Proof.Machine.execSchQWrite path s
  | .schAlRead path => Sys2Proof.Machine.execSchAlRead path s
  | .schAlWrite path => Sys2Proof.Machine.execSchAlWrite path s
  | .schAlReadPending path => Sys2Proof.Machine.execSchAlReadPending path s
  | .schPolRead path => Sys2Proof.Machine.execSchPolRead path s
  | .schPolWrite path => Sys2Proof.Machine.execSchPolWrite path s
  | .schPolClearCnt path => Sys2Proof.Machine.execSchPolClearCnt path s
  | .schRelSet path w data => Sys2Proof.Machine.execSchRelSet path w data s
  | .schRelClr path w data => Sys2Proof.Machine.execSchRelClr path w data s
  | .samplerVisit p => Sys2Proof.Machine.execSamplerVisit p s
  | .schSmpRead path => Sys2Proof.Machine.execSchSmpRead path s
  | .schSmpClear path => Sys2Proof.Machine.execSchSmpClear path s
  | .histSelWrite path h data => Sys2Proof.Machine.execHistSelWrite path h data s
  | .timNowRead path => Sys2Proof.Machine.execTimNowRead path s
  | .timeSet path => Sys2Proof.Machine.execTimeSet path s
  | .timeStep path => Sys2Proof.Machine.execTimeStep path s
  | .timeSlew path => Sys2Proof.Machine.execTimeSlew path s
  | .slewAbort path => Sys2Proof.Machine.execSlewAbort path s
  | .timeCapture path => Sys2Proof.Machine.execTimeCapture path s
  | .fadjWrite path data => Sys2Proof.Machine.execFadjWrite path data s
  | .sourceQualified k => Sys2Proof.Machine.execSourceQualified k s
  | .sourceDisqualified k => Sys2Proof.Machine.execSourceDisqualified k s
  | .sourceHoldExpiry k => Sys2Proof.Machine.execSourceHoldExpiry k s
  | .ptpQualWrite path data => Sys2Proof.Machine.execPtpQualWrite path data s
  | .ptpTmo => Sys2Proof.Machine.execPtpTmo s
  | .irigFrame err code year day hour min sec localOfs => Sys2Proof.Machine.execIrigFrame err code year day hour min sec localOfs s
  | .irigFault => Sys2Proof.Machine.execIrigFault s
  | .ppsEdge => Sys2Proof.Machine.execPpsEdge s
  | .ppsFault => Sys2Proof.Machine.execPpsFault s
  | .holdTimeExpiry => Sys2Proof.Machine.execHoldTimeExpiry s
  | .exchangeOriginate n => Sys2Proof.Machine.execExchangeOriginate n s
  | .timeSymbolReceived n lane id => Sys2Proof.Machine.execTimeSymbolReceived n lane id s
  | .timeEchoReceived n lane sub id stamp => Sys2Proof.Machine.execTimeEchoReceived n lane sub id stamp s
  | .exchangeTimeout n => Sys2Proof.Machine.execExchangeTimeout n s
  | .asymTrimReceived n stamp => Sys2Proof.Machine.execAsymTrimReceived n stamp s
  | .ppsOutRise => Sys2Proof.Machine.execPpsOutRise s
  | .ppsOutFall => Sys2Proof.Machine.execPpsOutFall s
  | .journalEntryWrite => Sys2Proof.Machine.execJournalEntryWrite s
  | .jnlTailWrite path data => Sys2Proof.Machine.execJnlTailWrite path data s
  | .jnlDataRead path => Sys2Proof.Machine.execJnlDataRead path s
  | .jnlSwWrite path data => Sys2Proof.Machine.execJnlSwWrite path data s
  | .modeSet u => Sys2Proof.Machine.execModeSet u s
  | .rectRaw u => Sys2Proof.Machine.execRectRaw u s
  | .rectTile u => Sys2Proof.Machine.execRectTile u s
  | .cursor u => Sys2Proof.Machine.execCursor u s
  | .flip u => Sys2Proof.Machine.execFlip u s
  | .displayFence u => Sys2Proof.Machine.execDisplayFence u s
  | .frameStart idx => Sys2Proof.Machine.execFrameStart idx s
  | .psrStandby idx => Sys2Proof.Machine.execPsrStandby idx s
  | .modeChangeDone idx => Sys2Proof.Machine.execModeChangeDone idx s
  | .copyDone idx => Sys2Proof.Machine.execCopyDone idx s
  | .fetchStart idx run => Sys2Proof.Machine.execFetchStart idx run s
  | .fetchDramUncorr addr => Sys2Proof.Machine.execFetchDramUncorr addr s
  | .latencyToleranceUpdate f0 f1 => Sys2Proof.Machine.execLatencyToleranceUpdate f0 f1 s
  | .underrun idx whole => Sys2Proof.Machine.execUnderrun idx whole s
  | .hpdPlug o sink => Sys2Proof.Machine.execHpdPlug o sink s
  | .hpdUnplug o => Sys2Proof.Machine.execHpdUnplug o s
  | .irqHpd o lost => Sys2Proof.Machine.execIrqHpd o lost s
  | .outputTrainAttemptDone o ok => Sys2Proof.Machine.execOutputTrainAttemptDone o ok s
  | .auxNativeRead path o data => Sys2Proof.Machine.execAuxNativeRead path o data s
  | .auxNativeWrite path o data => Sys2Proof.Machine.execAuxNativeWrite path o data s
  | .auxI2cRead path o data => Sys2Proof.Machine.execAuxI2cRead path o data s
  | .auxI2cWrite path o data => Sys2Proof.Machine.execAuxI2cWrite path o data s
  | .auxReply o code data => Sys2Proof.Machine.execAuxReply o code data s
  | .auxTimeout o => Sys2Proof.Machine.execAuxTimeout o s
  | .sourceDisable path idx data => Sys2Proof.Machine.execSourceDisable path idx data s
  | .sourceDrainTimeout idx => Sys2Proof.Machine.execSourceDrainTimeout idx s
  | .stoCommandUnit u port dram => Sys2Proof.Machine.execStoCommandUnit u port dram s
  | .stoDataUnit u port dram => Sys2Proof.Machine.execStoDataUnit u port dram s
  | .stoDataTimeout b => Sys2Proof.Machine.execStoDataTimeout b s
  | .nvmeCompletion b slot sc dnr dram data => Sys2Proof.Machine.execNvmeCompletion b slot sc dnr dram data s
  | .stoFence u port => Sys2Proof.Machine.execStoFence u port s
  | .stoCmdTimeout b slot => Sys2Proof.Machine.execStoCmdTimeout b slot s
  | .stoAbortTimeout b slot => Sys2Proof.Machine.execStoAbortTimeout b slot s
  | .rootPortEnable path p data => Sys2Proof.Machine.execRootPortEnable path p data s
  | .rpBringupStepDone p found => Sys2Proof.Machine.execRpBringupStepDone p found s
  | .controllerReadyTimeout p => Sys2Proof.Machine.execControllerReadyTimeout p s
  | .rootPortDisable path p data => Sys2Proof.Machine.execRootPortDisable path p data s
  | .controllerResetCmd path p => Sys2Proof.Machine.execControllerResetCmd path p s
  | .rpRescan path p spaces => Sys2Proof.Machine.execRpRescan path p spaces s
  | .controllerFatal p aer => Sys2Proof.Machine.execControllerFatal p aer s
  | .rpLinkDown p => Sys2Proof.Machine.execRpLinkDown p s
  | .aerMessage p uncorr => Sys2Proof.Machine.execAerMessage p uncorr s
  | .blockTunnelEnable path data => Sys2Proof.Machine.execBlockTunnelEnable path data s
  | .blockTunnelDisable path data => Sys2Proof.Machine.execBlockTunnelDisable path data s
  | .blockTunnelDrainTimeout b => Sys2Proof.Machine.execBlockTunnelDrainTimeout b s
  | .adminCommandDone b ok => Sys2Proof.Machine.execAdminCommandDone b ok s
  | .queueDeleteTimeout b => Sys2Proof.Machine.execQueueDeleteTimeout b s
  | .hostWrite off attr data => Sys2Proof.Machine.execHostWrite off attr data s
  | .hostRead place len host attr => Sys2Proof.Machine.execHostRead place len host attr s
  | .hostAtomic off op size operand compare host attr => Sys2Proof.Machine.execHostAtomic off op size operand compare host attr s
  | .hostLockedRead off len host attr => Sys2Proof.Machine.execHostLockedRead off len host attr s
  | .hostUnlock => Sys2Proof.Machine.execHostUnlock s
  | .hbrFence path w => Sys2Proof.Machine.execHbrFence path w s
  | .semaphoreAcquired idx => Sys2Proof.Machine.execSemaphoreAcquired idx s
  | .semWaitTimeout idx => Sys2Proof.Machine.execSemWaitTimeout idx s
  | .bridgeResponse u => Sys2Proof.Machine.execBridgeResponse u s
  | .hbrReadTimeout t => Sys2Proof.Machine.execHbrReadTimeout t s
  | .lockTimeout => Sys2Proof.Machine.execLockTimeout s
  | .hbrSemRead path idx => Sys2Proof.Machine.execHbrSemRead path idx s
  | .hbrSemRelease path idx => Sys2Proof.Machine.execHbrSemRelease path idx s
  | .inboundData u => Sys2Proof.Machine.execInboundData u s
  | .inboundReadRequest u => Sys2Proof.Machine.execInboundReadRequest u s
  | .inboundWriteNp u => Sys2Proof.Machine.execInboundWriteNp u s
  | .hostCompletion id status poisoned data => Sys2Proof.Machine.execHostCompletion id status poisoned data s
  | .bridgeFenceUnit u => Sys2Proof.Machine.execBridgeFenceUnit u s
  | .routerUnit u => Sys2Proof.Machine.execRouterUnit u s
  | .routerHoldRelease tid => Sys2Proof.Machine.execRouterHoldRelease tid s
  | .routerHoldTimeout tid => Sys2Proof.Machine.execRouterHoldTimeout tid s
  | .msixUnmask v addr word => Sys2Proof.Machine.execMsixUnmask v addr word s
  | .mrtCauseRead path => Sys2Proof.Machine.execMrtCauseRead path s
  | .mrtRead path => Sys2Proof.Machine.execMrtRead path s
  | .mrtWrite path => Sys2Proof.Machine.execMrtWrite path s
  | .mrtClear path => Sys2Proof.Machine.execMrtClear path s
  | .windowDisable path data inward => Sys2Proof.Machine.execWindowDisable path data inward s
  | .windowDrainTimeout w inward => Sys2Proof.Machine.execWindowDrainTimeout w inward s
  | .flr => Sys2Proof.Machine.execFlr s
  | .hostLinkDown => Sys2Proof.Machine.execHostLinkDown s
  | .hostLinkUp width gen => Sys2Proof.Machine.execHostLinkUp width gen s
  | .ethFrameReceived m frame good begun => Sys2Proof.Machine.execEthFrameReceived m frame good begun s
  | .ethEgressUnit u => Sys2Proof.Machine.execEthEgressUnit u s
  | .ethFrameTransmit m => Sys2Proof.Machine.execEthFrameTransmit m s
  | .txtsRead path => Sys2Proof.Machine.execTxtsRead path s
  | .wakeFrame m frame good => Sys2Proof.Machine.execWakeFrame m frame good s
  | .ethLinkDown m cut => Sys2Proof.Machine.execEthLinkDown m cut s
  | .ethLinkUp m => Sys2Proof.Machine.execEthLinkUp m s
  | .macDisable path m data => Sys2Proof.Machine.execMacDisable path m data s
  | .macDrainTimeout m => Sys2Proof.Machine.execMacDrainTimeout m s
  | .ethClsRead path => Sys2Proof.Machine.execEthClsRead path s
  | .ethClsWrite path => Sys2Proof.Machine.execEthClsWrite path s
  | .ethEgbRead path => Sys2Proof.Machine.execEthEgbRead path s
  | .ethEgbWrite path => Sys2Proof.Machine.execEthEgbWrite path s
  | .usbStandardRequest tgt rtype req value index len => Sys2Proof.Machine.execUsbStandardRequest tgt rtype req value index len s
  | .usbCsrRead addr len ecc => Sys2Proof.Machine.execUsbCsrRead addr len ecc s
  | .usbCsrWrite addr len stage ecc => Sys2Proof.Machine.execUsbCsrWrite addr len stage ecc s
  | .usbOutPacket e token ecc data => Sys2Proof.Machine.execUsbOutPacket e token ecc data s
  | .usbInUnit u => Sys2Proof.Machine.execUsbInUnit u s
  | .usbInToken e ecc => Sys2Proof.Machine.execUsbInToken e ecc s
  | .usbInAck e => Sys2Proof.Machine.execUsbInAck e s
  | .usbFence u => Sys2Proof.Machine.execUsbFence u s
  | .usbEndpointResetUnit u => Sys2Proof.Machine.execUsbEndpointResetUnit u s
  | .usbEndpointHalt e => Sys2Proof.Machine.execUsbEndpointHalt e s
  | .usbClearHalt e => Sys2Proof.Machine.execUsbClearHalt e s
  | .usbSuspend => Sys2Proof.Machine.execUsbSuspend s
  | .usbPort5Suspend => Sys2Proof.Machine.execUsbPort5Suspend s
  | .usbWakeSignal => Sys2Proof.Machine.execUsbWakeSignal s
  | .usbHostResume => Sys2Proof.Machine.execUsbHostResume s
  | .usbBusReset port5 hs control => Sys2Proof.Machine.execUsbBusReset port5 hs control s
  | .usbVbusChange present => Sys2Proof.Machine.execUsbVbusChange present s
  | .usbFunctionEnWrite path data => Sys2Proof.Machine.execUsbFunctionEnWrite path data s
  | .usbEpEnable path data => Sys2Proof.Machine.execUsbEpEnable path data s
  | .usbEpDisable path data => Sys2Proof.Machine.execUsbEpDisable path data s
  | .usbEpDrainTimeout e => Sys2Proof.Machine.execUsbEpDrainTimeout e s
  | .usbOverCurrent n => Sys2Proof.Machine.execUsbOverCurrent n s
  | .usbDescDataAccess path write data => Sys2Proof.Machine.execUsbDescDataAccess path write data s
  | .engineUnit k u => Sys2Proof.Machine.execEngineUnit k u s
  | .engCmdqPush path e => Sys2Proof.Machine.execEngCmdqPush path e s
  | .engRspRead path e => Sys2Proof.Machine.execEngRspRead path e s
  | .engineSend e w0 w1 w2 w3 w4 payload => Sys2Proof.Machine.execEngineSend e w0 w1 w2 w3 w4 payload s
  | .checkpointDoorbell e region => Sys2Proof.Machine.execCheckpointDoorbell e region s
  | .ckptStale e => Sys2Proof.Machine.execCkptStale e s
  | .engineWatchdog e => Sys2Proof.Machine.execEngineWatchdog e s
  | .engineFault e err => Sys2Proof.Machine.execEngineFault e err s
  | .engRestart path e => Sys2Proof.Machine.execEngRestart path e s
  | .engineReloadDone e intact => Sys2Proof.Machine.execEngineReloadDone e intact s
  | .engReload path e => Sys2Proof.Machine.execEngReload path e s
  | .reloadComplete e intact => Sys2Proof.Machine.execReloadComplete e intact s
  | .engineStart path e data intact => Sys2Proof.Machine.execEngineStart path e data intact s
  | .engineDisable path e data => Sys2Proof.Machine.execEngineDisable path e data s
  | .engineDrainTimeout e => Sys2Proof.Machine.execEngineDrainTimeout e s
  | .engCacheLoad path kind slot => Sys2Proof.Machine.execEngCacheLoad path kind slot s
  | .engCacheEvict path kind slot => Sys2Proof.Machine.execEngCacheEvict path kind slot s
  | .engBindRead path k => Sys2Proof.Machine.execEngBindRead path k s
  | .engBindWrite path k => Sys2Proof.Machine.execEngBindWrite path k s
  | .wdtKick path p src data pc0 pc1 => Sys2Proof.Machine.execWdtKick path p src data pc0 pc1 s
  | .pairWatchdogExpiry p pc0 pc1 => Sys2Proof.Machine.execPairWatchdogExpiry p pc0 pc1 s
  | .pairRestart p => Sys2Proof.Machine.execPairRestart p s
  | .restartA path => Sys2Proof.Machine.execRestartA path s
  | .restartB path => Sys2Proof.Machine.execRestartB path s
  | .stopB path => Sys2Proof.Machine.execStopB path s
  | .ecallYield => Sys2Proof.Machine.execEcallYield s
  | .ecallSetHandler a1 => Sys2Proof.Machine.execEcallSetHandler a1 s
  | .ecallIrqForward a1 a2 => Sys2Proof.Machine.execEcallIrqForward a1 a2 s
  | .ecallMboxRead a1 => Sys2Proof.Machine.execEcallMboxRead a1 s
  | .pairbFault => Sys2Proof.Machine.execPairbFault s
  | .bootStepDone => Sys2Proof.Machine.execBootStepDone s
  | .flashRead path => Sys2Proof.Machine.execFlashRead path s
  | .flashProgram path => Sys2Proof.Machine.execFlashProgram path s
  | .flashErase4k path => Sys2Proof.Machine.execFlashErase4k path s
  | .flashErase64k path => Sys2Proof.Machine.execFlashErase64k path s
  | .flashOpDone => Sys2Proof.Machine.execFlashOpDone s
  | .evcSelWrite path c data => Sys2Proof.Machine.execEvcSelWrite path c data s
  | .evcClear path data => Sys2Proof.Machine.execEvcClear path data s
  | .evcFreeze path data => Sys2Proof.Machine.execEvcFreeze path data s
  | .evcWrap c => Sys2Proof.Machine.execEvcWrap c s
  | .keyAuthRead path => Sys2Proof.Machine.execKeyAuthRead path s
  | .keyAuthWrite path => Sys2Proof.Machine.execKeyAuthWrite path s
  | .keyAuthLock path => Sys2Proof.Machine.execKeyAuthLock path s
  | .mtunCommand inSp u => Sys2Proof.Machine.execMtunCommand inSp u s
  | .provision path => Sys2Proof.Machine.execProvision path s
  | .keyLoad path k => Sys2Proof.Machine.execKeyLoad path k s
  | .keyClear path k => Sys2Proof.Machine.execKeyClear path k s
  | .keyGenerate path k kind usage => Sys2Proof.Machine.execKeyGenerate path k kind usage s
  | .keyWrap who k => Sys2Proof.Machine.execKeyWrap who k s
  | .keyDerive path k kind usage => Sys2Proof.Machine.execKeyDerive path k kind usage s
  | .keySign who k => Sys2Proof.Machine.execKeySign who k s
  | .keyMac who k => Sys2Proof.Machine.execKeyMac who k s
  | .keyReadPub who k => Sys2Proof.Machine.execKeyReadPub who k s
  | .keyReadAttPub path => Sys2Proof.Machine.execKeyReadAttPub path s
  | .keyCmdComplete => Sys2Proof.Machine.execKeyCmdComplete s
  | .otpProgCodeHash path => Sys2Proof.Machine.execOtpProgCodeHash path s
  | .otpProgDebugHash path => Sys2Proof.Machine.execOtpProgDebugHash path s
  | .otpSetDbgNever path => Sys2Proof.Machine.execOtpSetDbgNever path s
  | .otpRaiseSvn path kind svn => Sys2Proof.Machine.execOtpRaiseSvn path kind svn s
  | .otpCommandDone => Sys2Proof.Machine.execOtpCommandDone s
  | .tamperDetected sources => Sys2Proof.Machine.execTamperDetected sources s
  | .batLow mv => Sys2Proof.Machine.execBatLow mv s
  | .tamperLock path data => Sys2Proof.Machine.execTamperLock path data s
  | .attest path => Sys2Proof.Machine.execAttest path s
  | .attestDone => Sys2Proof.Machine.execAttestDone s
  | .debugChallenge path scope => Sys2Proof.Machine.execDebugChallenge path scope s
  | .debugRespond path => Sys2Proof.Machine.execDebugRespond path s
  | .debugClose path => Sys2Proof.Machine.execDebugClose path s
  | .debugNonceExpiry => Sys2Proof.Machine.execDebugNonceExpiry s
  | .channelEnable path c data => Sys2Proof.Machine.execChannelEnable path c data s
  | .channelDisable path c data => Sys2Proof.Machine.execChannelDisable path c data s
  | .channelDirWrite path c data => Sys2Proof.Machine.execChannelDirWrite path c data s
  | .startConditionsMet c => Sys2Proof.Machine.execStartConditionsMet c s
  | .rampComplete c => Sys2Proof.Machine.execRampComplete c s
  | .startTimeout c => Sys2Proof.Machine.execStartTimeout c s
  | .enhanceDone c => Sys2Proof.Machine.execEnhanceDone c s
  | .passDeviceTimeout c => Sys2Proof.Machine.execPassDeviceTimeout c s
  | .instantTrip c => Sys2Proof.Machine.execInstantTrip c s
  | .breakerTick c => Sys2Proof.Machine.execBreakerTick c s
  | .autoRetry c => Sys2Proof.Machine.execAutoRetry c s
  | .reverseCurrent c => Sys2Proof.Machine.execReverseCurrent c s
  | .forwardRecovery c => Sys2Proof.Machine.execForwardRecovery c s
  | .faultTimerExpiry c => Sys2Proof.Machine.execFaultTimerExpiry c s
  | .powerGoodUpdate c vin vout vgs => Sys2Proof.Machine.execPowerGoodUpdate c vin vout vgs s
  | .fetShort c => Sys2Proof.Machine.execFetShort c s
  | .pdOverTemp t => Sys2Proof.Machine.execPdOverTemp t s
  | .seatOpen n a b => Sys2Proof.Machine.execSeatOpen n a b s
  | .seatSettled n => Sys2Proof.Machine.execSeatSettled n s
  | .inputOutOfRange c => Sys2Proof.Machine.execInputOutOfRange c s
  | .channelSample c rawI rawV vgs => Sys2Proof.Machine.execChannelSample c rawI rawV vgs s
  | .fusClear path c => Sys2Proof.Machine.execFusClear path c s
  | .applyCurve path c => Sys2Proof.Machine.execApplyCurve path c s
  | .setHeat path c => Sys2Proof.Machine.execSetHeat path c s
  | .peakClr path c => Sys2Proof.Machine.execPeakClr path c s
  | .energyClr path c => Sys2Proof.Machine.execEnergyClr path c s
  | .preloadProgram path => Sys2Proof.Machine.execPreloadProgram path s
  | .pdLinkUp => Sys2Proof.Machine.execPdLinkUp s
  | .pdLinkLost => Sys2Proof.Machine.execPdLinkLost s
  | .pdTimeCorrection => Sys2Proof.Machine.execPdTimeCorrection s
  | .powerDieColdPowerUp mv => Sys2Proof.Machine.execPowerDieColdPowerUp mv s
  | .vinPdLow mv => Sys2Proof.Machine.execVinPdLow mv s
  | .cpdEnableWrite path n data => Sys2Proof.Machine.execCpdEnableWrite path n data s
  | .cpdSend path n => Sys2Proof.Machine.execCpdSend path n s
  | .cpdTransmitStart n => Sys2Proof.Machine.execCpdTransmitStart n s
  | .cpdGoodcrcReceived n id => Sys2Proof.Machine.execCpdGoodcrcReceived n id s
  | .cpdRetryTimeout n => Sys2Proof.Machine.execCpdRetryTimeout n s
  | .cpdCollision n => Sys2Proof.Machine.execCpdCollision n s
  | .cpdMessageReceived n hdr data good sink lost => Sys2Proof.Machine.execCpdMessageReceived n hdr data good sink lost s
  | .cpdRxRead path n => Sys2Proof.Machine.execCpdRxRead path n s
  | .cpdResponseTimeout n => Sys2Proof.Machine.execCpdResponseTimeout n s
  | .cpdSwapEnd path n => Sys2Proof.Machine.execCpdSwapEnd path n s
  | .cpdHardReset path n => Sys2Proof.Machine.execCpdHardReset path n s
  | .hardResetReceived n => Sys2Proof.Machine.execHardResetReceived n s
  | .psHrExpiry n => Sys2Proof.Machine.execPsHrExpiry n s
  | .srcRecoverExpiry n => Sys2Proof.Machine.execSrcRecoverExpiry n s
  | .recoverMaxExpiry n => Sys2Proof.Machine.execRecoverMaxExpiry n s
  | .cpdFrsSend path n => Sys2Proof.Machine.execCpdFrsSend path n s
  | .autoFrs n => Sys2Proof.Machine.execAutoFrs n s
  | .frsDetected n => Sys2Proof.Machine.execFrsDetected n s
  | .cpdFrsConfirm path n => Sys2Proof.Machine.execCpdFrsConfirm path n s
  | .frsTmo n => Sys2Proof.Machine.execFrsTmo n s
  | .powerStateRequest path target => Sys2Proof.Machine.execPowerStateRequest path target s
  | .entryQuiesceDone => Sys2Proof.Machine.execEntryQuiesceDone s
  | .regulatorAck status pgood mode => Sys2Proof.Machine.execRegulatorAck status pgood mode s
  | .regulatorNoack status => Sys2Proof.Machine.execRegulatorNoack status s
  | .regulatorRetry => Sys2Proof.Machine.execRegulatorRetry s
  | .exitStepDone => Sys2Proof.Machine.execExitStepDone s
  | .wakeEvent sources trunk => Sys2Proof.Machine.execWakeEvent sources trunk s
  | .aonTimerWake => Sys2Proof.Machine.execAonTimerWake s
  | .domainAutoPowerOn d => Sys2Proof.Machine.execDomainAutoPowerOn d s
  | .domainIdlePowerOff d => Sys2Proof.Machine.execDomainIdlePowerOff d s
  | .accessResume path => Sys2Proof.Machine.execAccessResume path s
  | .i2cWrite dev addr data => Sys2Proof.Machine.execI2cWrite dev addr data s
  | .i2cRead dev addr => Sys2Proof.Machine.execI2cRead dev addr s
  | .i2cAddressMatch addr => Sys2Proof.Machine.execI2cAddressMatch addr s
  | .pmbusAlert st => Sys2Proof.Machine.execPmbusAlert st s
  | .vidTrimWrite path k data => Sys2Proof.Machine.execVidTrimWrite path k data s
  | .pllLossOfLock k => Sys2Proof.Machine.execPllLossOfLock k s
  | .aonTrim ppm => Sys2Proof.Machine.execAonTrim ppm s
  | .rstNAssert ns => Sys2Proof.Machine.execRstNAssert ns s
  | .rstNRelease => Sys2Proof.Machine.execRstNRelease s
  | .chipRstWarm path => Sys2Proof.Machine.execChipRstWarm path s
  | .warmReset => Sys2Proof.Machine.execWarmReset s
  | .coldReset voutMode intact => Sys2Proof.Machine.execColdReset voutMode intact s
  | .rootPllTimeout => Sys2Proof.Machine.execRootPllTimeout s
  | .temperatureSample raw => Sys2Proof.Machine.execTemperatureSample raw s
  | .dramSelfRefreshEntry => Sys2Proof.Machine.execDramSelfRefreshEntry s
  | .pllRelock k => Sys2Proof.Machine.execPllRelock k s
  | .coreDiePowerLoss => Sys2Proof.Machine.execCoreDiePowerLoss s
  | .islandPowerLoss => Sys2Proof.Machine.execIslandPowerLoss s
  | .hostCompletionTimeout id => Sys2Proof.Machine.execHostCompletionTimeout id s
  | .hostConfigWrite bme mps mrrs msixEn conf => Sys2Proof.Machine.execHostConfigWrite bme mps mrrs msixEn conf s
  | .downstreamPortConnect n connected speed => Sys2Proof.Machine.execDownstreamPortConnect n connected speed s
  | .engineTakeEntry e box => Sys2Proof.Machine.execEngineTakeEntry e box s
  | .engineWdtKick e => Sys2Proof.Machine.execEngineWdtKick e s
  | .engineRspPost e words => Sys2Proof.Machine.execEngineRspPost e words s
  | .engCacheLoadDone => Sys2Proof.Machine.execEngCacheLoadDone s
  | .sourceEnable path idx data => Sys2Proof.Machine.execSourceEnable path idx data s
  | .macEnable path m data => Sys2Proof.Machine.execMacEnable path m data s
  | .windowEnable path data inward => Sys2Proof.Machine.execWindowEnable path data inward s
  | .crossPlaneHeartbeat p => Sys2Proof.Machine.execCrossPlaneHeartbeat p s

end Sys2Proof.Machine
end

