-- ==== Sys2Proof/Machine/Tick.lean ====
section
/-! DEFINITION. What the hub does in a nanosecond in which no command comes: hardware time and panel time run, the resets of USB ports end, and an entry to a power state watches its vetoes (log 2). -/

namespace Sys2Proof.Machine

namespace State

/-- Panel time runs: CORE has its clock, through a warm reset too (R200, R219). -/
def panelRuns (s : State) : Bool := s.pwr.doms.testBit 1 && !s.rst.lost && !s.rst.off

/-- The replay expiries of the cycle that ends stand (R74, Table 2.7). -/
def expiriesStand (s : State) : State := (List.range 16).foldl (fun s n => if s.domainRuns (6 + n / 4) then s.expiryStands n else s) s

/-- One nanosecond without a command: the claims, the expiries and the engine failures of the cycle that ends are decided first (R74, R158, R403), and the live pair takes its mailbox (R396). -/
def idle (s : State) : State :=
  let s := { s.begin.expiriesStand.failuresStand.mboxDrain with hw := s.hw + 1 }
  let s := if s.domainRuns 0 then s.settleClaims else s
  let s := if s.panelRuns then s.tickPanel else s
  let s := if s.domainRuns 1 && decide (s.hw % 4 = 0) then s.tally 0x001 else s
  let s := if s.fus.alive then s.preloadDone else s
  let s := if s.domainRuns 15 then s.portResetsEnd else s
  if s.domainRuns 0 then s.watchEntry else s

end State

end Sys2Proof.Machine
end

