-- ==== Sys2Proof/WellFormed.lean ====
section
/-! DEFINITION. Which commands can reach the hub: those whose operands name an instance, a path, a page and values that it has. Any other command faults with noSuchInstance. -/

namespace Sys2Proof

open Machine

/-- The operands of a command are in range. -/
def Instr.wf (i : Instr) : Bool :=
  match i with
  | .registerWrite path addr data be => decide (path < 8) && decide (addr < 2 ^ 22) && decide (data < 2 ^ 32) && decide (be < 16)
  | .latchingRead path addr be => decide (path < 8) && decide (addr < 2 ^ 22) && decide (be < 16)
  | .hiWriteApply path addr data => decide (path < 8) && decide (addr < 2 ^ 22) && decide (addr % 4 = 0) && decide (data < 2 ^ 32) && (pairAt addr).isSome
  | .softResetRequest path page data => decide (path < 8) && pageListed page && decide (data < 2 ^ 32)
  | .softResetAct page => pageListed page
  | .pageLock path page data => decide (path < 8) && pageListed page && decide (data < 2 ^ 32)
  | .pageIrqForce path page data => decide (path < 8) && pageListed page && decide (data < 2 ^ 32)
  | .unitIngress sp _ _ => decide (sp < 24)
  | .fenceArrival p q => decide (p < 2) && decide (q < 4096)
  | .fenceTimeout q tid => decide (q < 4096) && decide (tid < 32768)
  | .scrubPass _ => true
  | .tmapReadA path => decide (path < 8)
  | .tmapReadB path => decide (path < 8)
  | .tmapStage path => decide (path < 8)
  | .tmapCommit path => decide (path < 8)
  | .tmapCommitApply => true
  | .tmapCommitPairTimeout => true
  | .tmapDiscard path => decide (path < 8)
  | .tmapReadStaged path => decide (path < 8)
  | .cellReceived n lane _ _ => decide (n < 16) && decide (lane < 3)
  | .ackTimerExpiry n => decide (n < 16)
  | .ackSend n => decide (n < 16)
  | .ackReceived n cumv base map _ => decide (n < 16) && decide (cumv < 65536) && decide (base < 256) && decide (map < 2 ^ 24)
  | .cellTransmit n ecc => decide (n < 16) && decide (ecc < 3)
  | .replayTimerExpiry n => decide (n < 16)
  | .creditReceived n v limit => decide (n < 16) && decide (v < 8) && decide (limit < 2 ^ 24)
  | .creditRefresh n => decide (n < 16)
  | .ctlErr n _ => decide (n < 16)
  | .capBlockSend n => decide (n < 16)
  | .capReceived n _ => decide (n < 16)
  | .capTimeout n => decide (n < 16)
  | .linkDownDwell n => decide (n < 16)
  | .linkEnWrite path n _ => decide (path < 8) && decide (n < 16)
  | .linkDrainTimeout n => decide (n < 16)
  | .linkRetrain path n => decide (path < 8) && decide (n < 16)
  | .trainStepDone n _ => decide (n < 16)
  | .trainStepTimeout n => decide (n < 16)
  | .trainRetry n => decide (n < 16)
  | .laneHealthSample n _ => decide (n < 16)
  | .healthSend n => decide (n < 16)
  | .healthReceived n h => decide (n < 16) && decide (h.lane < 3)
  | .laneHardFail n lane => decide (n < 16) && decide (lane < 3)
  | .substReqRepeat n => decide (n < 16)
  | .substReqReceived n lane rseq => decide (n < 16) && decide (lane < 3) && decide (rseq < 256)
  | .switchReceived n src dst pos _ _ => decide (n < 16) && decide (src < 3) && decide (dst < 3) && decide (pos < 2)
  | .substTimeout n => decide (n < 16)
  | .spareLost n => decide (n < 16)
  | .learningDone n => decide (n < 16)
  | .laneSubstitute path n lane => decide (path < 8) && decide (n < 16) && decide (lane < 4)
  | .laneRequalify path n lane => decide (path < 8) && decide (n < 16) && decide (lane < 4)
  | .laneRelearn path n => decide (path < 8) && decide (n < 16)
  | .requalified n lane => decide (n < 16) && decide (lane < 3)
  | .altModeWrite path n _ => decide (path < 8) && decide (n < 16)
  | .unitEnterPlane sp => decide (16 ≤ sp) && decide (sp < 24)
  | .cellSlotMatch p => decide (p < 2)
  | .schedStall p => decide (p < 2)
  | .egressCellBoundary n ecc => decide (n < 24) && decide (ecc < 3)
  | .planeFatalError p => decide (p < 2)
  | .planePowerLost p => decide (p < 2)
  | .planeHeartbeatMiss p _ => decide (p < 2)
  | .planeDisable path p _ => decide (path < 8) && decide (p < 2)
  | .planeEnable path p _ => decide (path < 8) && decide (p < 2)
  | .planeRestartBegin p => decide (p < 2)
  | .planeRestartCmd path p => decide (path < 8) && decide (p < 2)
  | .planeEnterService p => decide (p < 2)
  | .sheepdogSweepStart p => decide (p < 2)
  | .sheepdogVisit p _ => decide (p < 2)
  | .sheepdogSweepEnd p _ => decide (p < 2)
  | .mcgRead path p => decide (path < 8) && decide (p < 2)
  | .mcgStage path p => decide (path < 8) && decide (p < 2)
  | .mcgCommit path p => decide (path < 8) && decide (p < 2)
  | .mcgCommitApply => true
  | .mcgCommitPairTimeout => true
  | .mcgDiscard path p => decide (path < 8) && decide (p < 2)
  | .mcgReadStaged path p => decide (path < 8) && decide (p < 2)
  | .replicaMismatch r => decide (r < 3)
  | .authorityClaim _ _ => true
  | .pairHeartbeat _ _ => true
  | .pairHeartbeatMiss p _ pc0 pc1 => decide (p < 2) && decide (pc0 < 2 ^ 32) && decide (pc1 < 2 ^ 32)
  | .pairHalt p cause _ pcs => decide (p < 2) && decide (1 ≤ cause) && decide (cause ≤ 3) && decide (pcs.1 < 2 ^ 32) && decide (pcs.2 < 2 ^ 32)
  | .rgmHandover path => decide (path < 8)
  | .rgmSwapLive path => decide (path < 8)
  | .parkScan p => decide (p < 2)
  | .carouselSlotEnd n slot => decide (n < 24) && decide (slot < 4096)
  | .missDeadline n => decide (n < 24)
  | .refillBoundary => true
  | .schQRead path => decide (path < 8)
  | .schQWrite path => decide (path < 8)
  | .schAlRead path => decide (path < 8)
  | .schAlWrite path => decide (path < 8)
  | .schAlReadPending path => decide (path < 8)
  | .schPolRead path => decide (path < 8)
  | .schPolWrite path => decide (path < 8)
  | .schPolClearCnt path => decide (path < 8)
  | .schRelSet path w _ => decide (path < 8) && decide (w < 2)
  | .schRelClr path w _ => decide (path < 8) && decide (w < 2)
  | .samplerVisit p => decide (p < 2)
  | .schSmpRead path => decide (path < 8)
  | .schSmpClear path => decide (path < 8)
  | .histSelWrite path h _ => decide (path < 8) && decide (h < 64)
  | .timNowRead path => decide (path < 8)
  | .timeSet path => decide (path < 8)
  | .timeStep path => decide (path < 8)
  | .timeSlew path => decide (path < 8)
  | .slewAbort path => decide (path < 8)
  | .timeCapture path => decide (path < 8)
  | .fadjWrite path _ => decide (path < 8)
  | .sourceQualified k => decide (k < 4)
  | .sourceDisqualified k => decide (k < 4)
  | .sourceHoldExpiry k => decide (k < 4)
  | .ptpQualWrite path _ => decide (path < 8)
  | .ptpTmo => true
  | .irigFrame _ _ _ _ _ _ _ _ => true
  | .irigFault => true
  | .ppsEdge => true
  | .ppsFault => true
  | .holdTimeExpiry => true
  | .exchangeOriginate n => decide (n < 16)
  | .timeSymbolReceived n lane id => decide (n < 16) && decide (lane < 3) && decide (id < 32)
  | .timeEchoReceived n lane sub id _ => decide (n < 16) && decide (lane < 3) && decide (1 ≤ sub ∧ sub ≤ 3) && decide (id < 32)
  | .exchangeTimeout n => decide (n < 16)
  | .asymTrimReceived n _ => decide (n < 16)
  | .ppsOutRise => true
  | .ppsOutFall => true
  | .journalEntryWrite => true
  | .jnlTailWrite path _ => decide (path < 8)
  | .jnlDataRead path => decide (path < 8)
  | .jnlSwWrite path _ => decide (path < 8)
  | .modeSet _ => true
  | .rectRaw _ => true
  | .rectTile _ => true
  | .cursor _ => true
  | .flip _ => true
  | .displayFence _ => true
  | .frameStart i => decide (i < 2)
  | .psrStandby i => decide (i < 2)
  | .modeChangeDone i => decide (i < 2)
  | .copyDone i => decide (i < 2)
  | .fetchStart i run => decide (i < 2) && decide (run.fill ≤ 2048)
  | .fetchDramUncorr _ => true
  | .latencyToleranceUpdate f0 f1 => decide (f0 ≤ 2048) && decide (f1 ≤ 2048)
  | .underrun i _ => decide (i < 2)
  | .hpdPlug o _ => decide (o < 4)
  | .hpdUnplug o => decide (o < 4)
  | .irqHpd o _ => decide (o < 4)
  | .outputTrainAttemptDone o _ => decide (o < 4)
  | .auxNativeRead path o _ => decide (path < 8) && decide (o < 4)
  | .auxNativeWrite path o _ => decide (path < 8) && decide (o < 4)
  | .auxI2cRead path o _ => decide (path < 8) && decide (o < 4)
  | .auxI2cWrite path o _ => decide (path < 8) && decide (o < 4)
  | .auxReply o code _ => decide (o < 4) && decide (code < 3)
  | .auxTimeout o => decide (o < 4)
  | .sourceDisable path i _ => decide (path < 8) && decide (i < 2)
  | .sourceDrainTimeout i => decide (i < 2)
  | .stoCommandUnit _ port dram => decide (port < 24) && decide (dram < 3)
  | .stoDataUnit _ port dram => decide (port < 24) && decide (dram < 3)
  | .stoDataTimeout b => decide (b < 32)
  | .nvmeCompletion b slot sc dnr dram _ => decide (b < 32) && decide (slot < 64) && decide (sc < 2048) && decide (dnr < 2) && decide (dram < 3)
  | .stoFence _ port => decide (port < 24)
  | .stoCmdTimeout b slot => decide (b < 32) && decide (slot < 64)
  | .stoAbortTimeout b slot => decide (b < 32) && decide (slot < 64)
  | .rootPortEnable path p _ => decide (path < 8) && decide (p < 2)
  | .rpBringupStepDone p _ => decide (p < 2)
  | .controllerReadyTimeout p => decide (p < 2)
  | .rootPortDisable path p _ => decide (path < 8) && decide (p < 2)
  | .controllerResetCmd path p => decide (path < 8) && decide (p < 2)
  | .rpRescan path p _ => decide (path < 8) && decide (p < 2)
  | .controllerFatal p _ => decide (p < 2)
  | .rpLinkDown p => decide (p < 2)
  | .aerMessage p _ => decide (p < 2)
  | .blockTunnelEnable path _ => decide (path < 8)
  | .blockTunnelDisable path _ => decide (path < 8)
  | .blockTunnelDrainTimeout b => decide (b < 32)
  | .adminCommandDone b _ => decide (b < 32)
  | .queueDeleteTimeout b => decide (b < 32)
  | .hostWrite off _ _ => decide (off < 2 ^ 36)
  | .hostRead place len _ _ => decide (place.off + len ≤ hostSpaceSize place.space) && decide (1 ≤ len) && decide (len ≤ 4096)
  | .hostAtomic off _ _ _ _ _ _ => decide (off < 2 ^ 36)
  | .hostLockedRead off len _ _ => decide (off < 2 ^ 36) && decide (1 ≤ len) && decide (len ≤ 4096)
  | .hostUnlock => true
  | .hbrFence path w => decide (path < 8) && decide (w < 64)
  | .semaphoreAcquired i => decide (i < 64)
  | .semWaitTimeout i => decide (i < 64)
  | .bridgeResponse _ => true
  | .hbrReadTimeout t => decide (t < 256)
  | .lockTimeout => true
  | .hbrSemRead path i => decide (path < 8) && decide (i < 64)
  | .hbrSemRelease path i => decide (path < 8) && decide (i < 64)
  | .inboundData _ => true
  | .inboundReadRequest _ => true
  | .inboundWriteNp _ => true
  | .hostCompletion _ status _ _ => decide (status < 3)
  | .bridgeFenceUnit _ => true
  | .routerUnit _ => true
  | .routerHoldRelease tid => decide (tid < 32768)
  | .routerHoldTimeout tid => decide (tid < 32768)
  | .msixUnmask v _ _ => decide (v < 64)
  | .mrtCauseRead path => decide (path < 8)
  | .mrtRead path => decide (path < 8)
  | .mrtWrite path => decide (path < 8)
  | .mrtClear path => decide (path < 8)
  | .windowDisable path _ _ => decide (path < 8)
  | .windowDrainTimeout w inward => decide (w < if inward then 32 else 64)
  | .flr => true
  | .hostLinkDown => true
  | .hostLinkUp width gen => decide (width < 4) && decide (gen < 4)
  | .ethFrameReceived m _ _ _ => decide (m < 4)
  | .ethEgressUnit _ => true
  | .ethFrameTransmit m => decide (m < 4)
  | .txtsRead path => decide (path < 8)
  | .wakeFrame m _ _ => decide (m < 4)
  | .ethLinkDown m _ => decide (m < 4)
  | .ethLinkUp m => decide (m < 4)
  | .macDisable path m _ => decide (path < 8) && decide (m < 4)
  | .macDrainTimeout m => decide (m < 4)
  | .ethClsRead path => decide (path < 8)
  | .ethClsWrite path => decide (path < 8)
  | .ethEgbRead path => decide (path < 8)
  | .ethEgbWrite path => decide (path < 8)
  | .usbStandardRequest tgt rtype req value index len => decide (tgt.ecc < 3) && decide (rtype < 256) && decide (req < 256) && decide (value < 65536) && decide (index < 65536) && decide (len < 65536)
  | .usbCsrRead addr len ecc => decide (ecc < 3) && decide (addr < 2 ^ 32) && decide (len < 65536)
  | .usbCsrWrite addr len stage ecc => decide (ecc < 3) && decide (addr < 2 ^ 32) && decide (len < 65536) && ctlStageOk stage
  | .usbOutPacket e token ecc _ => decide (1 ≤ e) && decide (e < 16) && outTokenOk token && decide (ecc < 3)
  | .usbInUnit _ => true
  | .usbInToken e ecc => inTokenOk e && decide (ecc < 3)
  | .usbInAck e => decide (17 ≤ e) && decide (e < 32)
  | .usbFence _ => true
  | .usbEndpointResetUnit _ => true
  | .usbEndpointHalt e => epNamed e
  | .usbClearHalt e => epNamed e
  | .usbSuspend => true
  | .usbPort5Suspend => true
  | .usbWakeSignal => true
  | .usbHostResume => true
  | .usbBusReset _ _ _ => true
  | .usbVbusChange _ => true
  | .usbFunctionEnWrite path _ => decide (path < 8)
  | .usbEpEnable path _ => decide (path < 8)
  | .usbEpDisable path _ => decide (path < 8)
  | .usbEpDrainTimeout e => epNamed e
  | .usbOverCurrent n => decide (n < 4)
  | .usbDescDataAccess path _ _ => decide (path < 8)
  | .engineUnit k _ => decide (k < 2)
  | .engCmdqPush path e => decide (path < 8) && decide (e < 16)
  | .engRspRead path e => decide (path < 8) && decide (e < 16)
  | .engineSend e _ _ _ _ _ _ => decide (e < 16)
  | .checkpointDoorbell e _ => decide (e < 16)
  | .ckptStale e => decide (e < 16)
  | .engineWatchdog e => decide (e < 16)
  | .engineFault e _ => decide (e < 16)
  | .engRestart path e => decide (path < 8) && decide (e < 16)
  | .engineReloadDone e _ => decide (e < 16)
  | .engReload path e => decide (path < 8) && decide (e < 16)
  | .reloadComplete e _ => decide (e < 16)
  | .engineStart path e _ _ => decide (path < 8) && decide (e < 16)
  | .engineDisable path e _ => decide (path < 8) && decide (e < 16)
  | .engineDrainTimeout e => decide (e < 16)
  | .engCacheLoad path kind slot => decide (path < 8) && decide (kind < 256) && decide (slot < 2)
  | .engCacheEvict path kind slot => decide (path < 8) && decide (kind < 256) && decide (slot < 2)
  | .engBindRead path k => decide (path < 8) && decide (k < 2)
  | .engBindWrite path k => decide (path < 8) && decide (k < 2)
  | .wdtKick path p _ _ pc0 pc1 => decide (path < 8) && decide (p < 2) && decide (pc0 < 2 ^ 32) && decide (pc1 < 2 ^ 32)
  | .pairWatchdogExpiry p pc0 pc1 => decide (p < 2) && decide (pc0 < 2 ^ 32) && decide (pc1 < 2 ^ 32)
  | .pairRestart p => decide (p < 2)
  | .restartA path => decide (path < 8)
  | .restartB path => decide (path < 8)
  | .stopB path => decide (path < 8)
  | .ecallYield => true
  | .ecallSetHandler a1 => decide (a1 < 2 ^ 32)
  | .ecallIrqForward a1 a2 => decide (a1 < 1024) && decide (a2 < 2 ^ 32)
  | .ecallMboxRead a1 => decide (a1 < 2 ^ 32)
  | .pairbFault => true
  | .bootStepDone => true
  | .flashRead path => decide (path < 8)
  | .flashProgram path => decide (path < 8)
  | .flashErase4k path => decide (path < 8)
  | .flashErase64k path => decide (path < 8)
  | .flashOpDone => true
  | .evcSelWrite path c _ => decide (path < 8) && decide (c < 64)
  | .evcClear path _ => decide (path < 8)
  | .evcFreeze path _ => decide (path < 8)
  | .evcWrap c => decide (c < 64)
  | .keyAuthRead path => decide (path < 8)
  | .keyAuthWrite path => decide (path < 8)
  | .keyAuthLock path => decide (path < 8)
  | .mtunCommand inSp _ => decide (inSp < 24)
  | .provision path => decide (path < 8)
  | .keyLoad path k => decide (path < 8) && decide (k < 64)
  | .keyClear path k => decide (path < 8) && decide (k < 64)
  | .keyGenerate path k kind usage => decide (path < 8) && decide (k < 64) && decide (kind < 8) && decide (usage < 32)
  | .keyWrap who k => decide (who.path < 8) && decide (k < 64) && decide (who.eng < 16)
  | .keyDerive path k kind usage => decide (path < 8) && decide (k < 64) && decide (kind < 8) && decide (usage < 32)
  | .keySign who k => decide (who.path < 8) && decide (k < 64) && decide (who.eng < 16)
  | .keyMac who k => decide (who.path < 8) && decide (k < 64) && decide (who.eng < 16)
  | .keyReadPub who k => decide (who.path < 8) && decide (k < 64) && decide (who.eng < 16)
  | .keyReadAttPub path => decide (path < 8)
  | .keyCmdComplete => true
  | .otpProgCodeHash path => decide (path < 8)
  | .otpProgDebugHash path => decide (path < 8)
  | .otpSetDbgNever path => decide (path < 8)
  | .otpRaiseSvn path kind svn => decide (path < 8) && decide (kind < 256) && decide (svn < 64)
  | .otpCommandDone => true
  | .tamperDetected sources => decide (sources < 128)
  | .batLow mv => decide (mv < 4096)
  | .tamperLock path _ => decide (path < 8)
  | .attest path => decide (path < 8)
  | .attestDone => true
  | .debugChallenge path scope => decide (path < 8) && decide (scope < 8)
  | .debugRespond path => decide (path < 8)
  | .debugClose path => decide (path < 8)
  | .debugNonceExpiry => true
  | .channelEnable path c _ => decide (path < 8) && decide (c < 18)
  | .channelDisable path c _ => decide (path < 8) && decide (c < 18)
  | .channelDirWrite path c _ => decide (path < 8) && decide (c < 18)
  | .startConditionsMet c => decide (c < 18)
  | .rampComplete c => decide (c < 18)
  | .startTimeout c => decide (c < 18)
  | .enhanceDone c => decide (c < 18)
  | .passDeviceTimeout c => decide (c < 18)
  | .instantTrip c => decide (c < 18)
  | .breakerTick c => decide (c < 18)
  | .autoRetry c => decide (c < 18)
  | .reverseCurrent c => decide (c < 18)
  | .forwardRecovery c => decide (c < 18)
  | .faultTimerExpiry c => decide (c < 18)
  | .powerGoodUpdate c _ _ _ => decide (c < 18)
  | .fetShort c => decide (c < 18)
  | .pdOverTemp _ => true
  | .seatOpen n _ _ => decide (n < 16)
  | .seatSettled n => decide (n < 16)
  | .inputOutOfRange c => decide (c < 18)
  | .channelSample c _ _ _ => decide (c < 18)
  | .fusClear path c => decide (path < 8) && decide (c < 18)
  | .applyCurve path c => decide (path < 8) && decide (c < 18)
  | .setHeat path c => decide (path < 8) && decide (c < 18)
  | .peakClr path c => decide (path < 8) && decide (c < 18)
  | .energyClr path c => decide (path < 8) && decide (c < 18)
  | .preloadProgram path => decide (path < 8)
  | .pdLinkUp => true
  | .pdLinkLost => true
  | .pdTimeCorrection => true
  | .powerDieColdPowerUp _ => true
  | .vinPdLow _ => true
  | .cpdEnableWrite path n _ => decide (path < 8) && decide (n < 16)
  | .cpdSend path n => decide (path < 8) && decide (n < 16)
  | .cpdTransmitStart n => decide (n < 16)
  | .cpdGoodcrcReceived n _ => decide (n < 16)
  | .cpdRetryTimeout n => decide (n < 16)
  | .cpdCollision n => decide (n < 16)
  | .cpdMessageReceived n hdr data _ _ _ => decide (n < 16) && decide (hdr < 65536) && data.all (fun w => decide (w < 2 ^ 32))
  | .cpdRxRead path n => decide (path < 8) && decide (n < 16)
  | .cpdResponseTimeout n => decide (n < 16)
  | .cpdSwapEnd path n => decide (path < 8) && decide (n < 16)
  | .cpdHardReset path n => decide (path < 8) && decide (n < 16)
  | .hardResetReceived n => decide (n < 16)
  | .psHrExpiry n => decide (n < 16)
  | .srcRecoverExpiry n => decide (n < 16)
  | .recoverMaxExpiry n => decide (n < 16)
  | .cpdFrsSend path n => decide (path < 8) && decide (n < 16)
  | .autoFrs n => decide (n < 16)
  | .frsDetected n => decide (n < 16)
  | .cpdFrsConfirm path n => decide (path < 8) && decide (n < 16)
  | .frsTmo n => decide (n < 16)
  | .powerStateRequest path target => decide (path < 8) && decide (target < 8)
  | .entryQuiesceDone => true
  | .regulatorAck status _ mode => decide (status < 65536) && decide (mode < 256)
  | .regulatorNoack status => decide (status < 65536)
  | .regulatorRetry => true
  | .exitStepDone => true
  | .wakeEvent sources trunk => decide (sources < 32) && decide (trunk < 16)
  | .aonTimerWake => true
  | .domainAutoPowerOn d => decide (6 ≤ d) && decide (d < 15)
  | .domainIdlePowerOff d => decide (6 ≤ d) && decide (d < 15)
  | .accessResume path => decide (path < 8)
  | .i2cWrite dev addr _ => decide (dev < 128) && decide (addr < 2 ^ 22)
  | .i2cRead dev addr => decide (dev < 128) && decide (addr < 2 ^ 22)
  | .i2cAddressMatch addr => decide (addr < 128)
  | .pmbusAlert st => decide (st.length = 4) && st.all (fun w => decide (w < 65536))
  | .vidTrimWrite path k _ => decide (path < 8) && decide (k < 3)
  | .pllLossOfLock k => decide (k < 16)
  | .aonTrim ppm => decide (-32768 ≤ ppm) && decide (ppm < 32768)
  | .rstNAssert _ => true
  | .rstNRelease => true
  | .chipRstWarm path => decide (path < 8)
  | .warmReset => true
  | .coldReset voutMode _ => decide (voutMode < 256)
  | .rootPllTimeout => true
  | .temperatureSample raw => decide (raw.length = 8)
  | .dramSelfRefreshEntry => true
  | .pllRelock k => decide (k < 16)
  | .coreDiePowerLoss => true
  | .islandPowerLoss => true
  | .hostCompletionTimeout _ => true
  | .hostConfigWrite bme mps mrrs _ _ => decide (bme < 2) && decide (mps < 8) && decide (mrrs < 8)
  | .downstreamPortConnect n _ speed => decide (n < 4) && decide (speed < 3)
  | .engineTakeEntry e box => decide (e < 16) && decide (box < 3)
  | .engineWdtKick e => decide (e < 16)
  | .engineRspPost e words => decide (e < 16) && decide (words.length = 8) && words.all (fun w => decide (w < 2 ^ 32))
  | .engCacheLoadDone => true
  | .sourceEnable path i _ => decide (path < 8) && decide (i < 2)
  | .macEnable path m _ => decide (path < 8) && decide (m < 4)
  | .windowEnable path _ _ => decide (path < 8)
  | .crossPlaneHeartbeat p => decide (p < 2)

end Sys2Proof
end

