-- ==== Sys2Proof/Safety.lean ====
section
/-! DEFINITION. What a safe run is, and the conditions on a state under which the claims say what a command does. -/

namespace Sys2Proof

/-- Every field of a cell fits the bits that Table 2.2 gives it, and its payload fills the 236 bytes. -/
abbrev Cell.fits (c : Cell) : Prop :=
  c.lseq < 2 ^ 16 ∧ c.vc < 8 ∧ c.kind < 16 ∧ c.plane < 2 ∧ c.tid < 2 ^ 15 ∧ c.len < 256 ∧ c.useq < 2 ^ 16 ∧
    c.tsw < 2 ^ 64 ∧ c.payload.length = 236

/-- Every field of a block fits the bits that Tables 2.3 and 3.1 and R114 give it. -/
def Ctl.fits : Ctl → Prop
  | .idle => True
  | .ack cum base map => cum < 2 ^ 16 ∧ base < 2 ^ 8 ∧ map < 2 ^ 24
  | .credit vc limit => vc < 8 ∧ limit < 2 ^ 24
  | .time sub id stamp => sub < 8 ∧ id < 32 ∧ stamp < 2 ^ 40
  | .health h => h.lane < 4 ∧ h.use < 4 ∧ h.eyeH < 256 ∧ h.eyeV < 256 ∧ h.errs < 2 ^ 16
  | .cap t => t.maj < 16 ∧ t.min < 16 ∧ t.maxVcs < 16 ∧ t.role < 2 ∧ t.caps < 256 ∧ t.nodeId < 2 ^ 24
  | .align lane pos mcnt bip => lane < 4 ∧ pos < 4 ∧ mcnt < 2 ^ 16 ∧ bip < 256
  | .train lane step _ maxRate preset maxWidth _ pass =>
    lane < 4 ∧ step < 8 ∧ maxRate < 16 ∧ preset < 16 ∧ maxWidth < 16 ∧ pass < 8
  | .substReq lane kind rseq => lane < 4 ∧ kind < 2 ∧ rseq < 256
  | .switch src dst pos rseq => src < 4 ∧ dst < 4 ∧ pos < 4 ∧ rseq < 256

namespace Machine

/-- The canonical form of a memory: addresses strictly rising, and no byte listed that an unlisted address reads as (0). -/
abbrev Memory.wf (m : Tab Byte) : Bool := Tab.wf 0 m

/-- The keys of a table strictly rise. -/
def Tab.rises {α : Type} (t : Tab α) : Prop := t.Pairwise (fun a b => a.1 < b.1)

/-- The parts of the state beyond the queue, hardware time, the registers and what is put out: the bridge is a part without its pending MSI-X vectors, which any event may set, and the accesses that wait are a part of their own beside the power controller. -/
inductive Part where
  | tun | links | planes | mcg | rgm | sch | dram | dsp | sto | brg | net | usb | tim | eng | mgt | key | fus | jnl | csr | pwr
  | waiting | rst | free
deriving DecidableEq, Repr

/-- Every part of the state. -/
def Part.all : List Part :=
  [.tun, .links, .planes, .mcg, .rgm, .sch, .dram, .dsp, .sto, .brg, .net, .usb, .tim, .eng, .mgt, .key, .fus, .jnl, .csr, .pwr,
    .waiting, .rst, .free]

/-- The first page of the block that a page belongs to (Table 18.1). -/
def pageFamily (p : Nat) : Nat := ((pageBlocks.find? (fun b => (b.inst p).isSome)).map (·.first)).getD p

/-- Where a stored register field lies: in the header of a page (0x400), or in a block of pages. -/
def keyFamily (k : Nat) : Nat := if keyAddr k % 4096 < 0x40 then 0x400 else pageFamily (keyPage k)

/-- The pages that a refused access leaves a record on, beyond captures: the counts of R528, R407 and R437, and the journal's losses. -/
def gatePages : List Nat := [0x001, 0x021, 0x058, 0x060]

namespace State

/-- A register write on a path goes through: the path exists, its mask allows the write, and the page's domain can take it. -/
abbrev letsWrite (s : State) (path addr : Nat) : Prop := path < 8 ∧ s.verdict path true addr = .go

/-- A register read on a path goes through. -/
abbrev letsRead (s : State) (path addr : Nat) : Prop := path < 8 ∧ s.verdict path false addr = .go

/-- Every command that waits can reach the hub: no run of it stops. -/
def safe (s : State) : Bool := s.pending.all Instr.wf

/-- The tables that stand for the hub's registers and for its DRAM are in canonical form, so that equal contents are equal data. -/
def canonical (s : State) : Prop := Memory.wf s.dram = true ∧ s.regs.rises

/-- `t` differs from `s` at most in the registers, what is put out, the interrupt and journal machinery and the free values taken: the parts that every chapter's commands may touch. -/
def sharedOnly (s t : State) : Prop :=
  t = { s with regs := t.regs, out := t.out, brg := t.brg, jnl := t.jnl, csr := t.csr, free := t.free }

/-- The map entry that a lookup uses (R41): the authority plane's copy, or the other plane's when that is uncorrectable; none when both are. -/
def goodCopy (s : State) (tid : Nat) : Option Entry :=
  if s.eccAt s.authPlane tid ≠ .bad then some (s.mapAt s.authPlane tid)
  else if s.eccAt (1 - s.authPlane) tid ≠ .bad then some (s.mapAt (1 - s.authPlane) tid)
  else none

/-- The word addresses of a page's capture registers (Table 18.3). -/
def captureWords (page : Nat) : List Nat := [page * 4096 + 0x20, page * 4096 + 0x24, page * 4096 + 0x28, page * 4096 + 0x2C]

/-- `t` is `s` after the page of `addr` captured an access that fails R5 (R552): loaded whole while VALID was 0, only counted while it was 1; nothing else of `s` differs. -/
def captured (s t : State) (path : Nat) (write : Bool) (addr data be : Nat) : Prop :=
  let page := addr / 4096
  t = { s with regs := t.regs } ∧
  (∀ d k, k / 32 ∉ captureWords page → t.regs.get d k = s.regs.get d k) ∧
  (s.rd R.ERR_CAPT0_VALID page = 1 →
    t.rd R.ERR_CAPT2_COUNT page = min (s.rd R.ERR_CAPT2_COUNT page + 1) 0xFFFF ∧
    ∀ f ∈ [R.ERR_CAPT0_OFFSET, R.ERR_CAPT0_PATH, R.ERR_CAPT0_WRITE, R.ERR_CAPT0_CAUSE, R.ERR_CAPT0_VALID, R.ERR_CAPT1,
        R.ERR_CAPT2_BE, R.ERR_CAPT2_PAGE, R.ERR_CAPT3_NS], t.rd f page = s.rd f page) ∧
  (s.rd R.ERR_CAPT0_VALID page ≠ 1 →
    t.rd R.ERR_CAPT0_OFFSET page = addr % 4096 ∧ t.rd R.ERR_CAPT0_PATH page = path ∧
    t.rd R.ERR_CAPT0_WRITE page = (if write then 1 else 0) ∧
    ((t.rd R.ERR_CAPT0_CAUSE page = causeWidth ∧ be ≠ 0xF) ∨ (t.rd R.ERR_CAPT0_CAUSE page = causeAlign ∧ addr % 4 ≠ 0)) ∧
    t.rd R.ERR_CAPT0_VALID page = 1 ∧ t.rd R.ERR_CAPT1 page = (if write then data else 0) ∧
    t.rd R.ERR_CAPT2_BE page = be ∧ t.rd R.ERR_CAPT2_PAGE page = 0 ∧ t.rd R.ERR_CAPT2_COUNT page = 1 ∧
    t.rd R.ERR_CAPT3_NS page = s.tim.ns % 2 ^ R.ERR_CAPT3_NS.width)

/-- `t` is `s` after its mask refused an access (R407): beside the page's capture registers only page 0x021 and what its event sets off (interrupts, the journal's queue, event counters) differ. -/
def denied (s t : State) (path : Nat) (write : Bool) (addr : Nat) : Prop :=
  t = { s with regs := t.regs, out := t.out, brg := t.brg, jnl := t.jnl } ∧
  (∀ d k, keyPage k ∉ [0x014, 0x021, 0x058] → k / 32 ∉ captureWords (addr / 4096) → t.regs.get d k = s.regs.get d k) ∧
  t.rd R.KEY_DENY 0 path = (if s.counting 0x021 then min (s.rd R.KEY_DENY 0 path + 1) (2 ^ R.KEY_DENY.width - 1)
    else s.rd R.KEY_DENY 0 path) ∧
  t.rd R.KEY_DENY_LAST_ADDR = addr ∧ t.rd R.KEY_DENY_LAST_PATH = path ∧
  t.rd R.KEY_DENY_LAST_WRITE = (if write then 1 else 0) ∧ t.irqBit 0x021 0 = true

/-- The address `a` lies outside the `n` bytes at `base`. -/
def outside (a base n : Nat) : Prop := a < base ∨ base + n ≤ a

/-- The address `a` lies outside the rows of the rectangle that a RECT_RAW or RECT_TILE body `p` names, in the buffer of source `i` that it names (R240, R244). -/
def rectOutside (s : State) (i : Nat) (m : DspMode) (p : List Byte) (a : Nat) : Prop :=
  ∀ y, y < beAt p 14 2 → outside a (s.pixelAddr i (s.rectBuffer i p) m (beAt p 8 2) (beAt p 10 2 + y)) (4 * beAt p 12 2)

/-- The address `a` lies outside every slot that a unit held behind a FENCE may be copied to (R278, R282). -/
def heldOutside (s : State) (a : Nat) : Prop :=
  ∀ b k, ∀ x ∈ (s.stoTun b).held, outside a (s.slotAddr b k) x.1.payload.length

/-- A part of the state is the same in `t`. -/
def samePart (s t : State) : Part → Prop
  | .tun => t.tun = s.tun
  | .links => t.links = s.links
  | .planes => t.planes = s.planes
  | .mcg => t.mcg = s.mcg
  | .rgm => t.rgm = s.rgm
  | .sch => t.sch = s.sch
  | .dram => t.dram = s.dram
  | .dsp => t.dsp = s.dsp
  | .sto => t.sto = s.sto
  | .brg => t.brg = { s.brg with pba := t.brg.pba }
  | .net => t.net = s.net
  | .usb => t.usb = s.usb
  | .tim => t.tim = s.tim
  | .eng => t.eng = s.eng
  | .mgt => t.mgt = s.mgt
  | .key => t.key = s.key
  | .fus => t.fus = s.fus
  | .jnl => t.jnl = s.jnl
  | .csr => t.csr = s.csr
  | .pwr => t.pwr = { s.pwr with waiting := t.pwr.waiting }
  | .waiting => t.pwr.waiting = s.pwr.waiting
  | .rst => t.rst = s.rst
  | .free => t.free = s.free

/-- `t` has the queue and the hardware time of `s`, and every part of its state that `ps` does not name. -/
def touchesOnly (s t : State) (ps : List Part) : Prop :=
  t.pending = s.pending ∧ t.hw = s.hw ∧ ∀ p, p ∉ ps → s.samePart t p

/-- `t` has the registers of `s` outside the pages that `ps` names by their blocks, but for PAGE_IRQ_STAT, the capture registers and the event counters of page 0x014. -/
def writesOnly (s t : State) (ps : List Nat) : Prop :=
  ∀ d k, keyAddr k % 4096 ∉ [0x010, 0x020, 0x024, 0x028, 0x02C] → keyPage k ≠ 0x014 → keyFamily k ∉ ps →
    t.regs.get d k = s.regs.get d k

end State

end Machine

open Machine in
/-- The parts of the state that a command of the block may touch beyond the registers, what is put out and the pending MSI-X vectors, which every event may: the state of its own chapter, and of those that it reaches by units, frames, events, interrupts and resets. A command that a register write stands for may also join the waiting accesses (R521). -/
def Instr.parts : Instr → List Part
  | .registerWrite .. | .hiWriteApply .. | .softResetRequest .. | .pageLock .. | .pageIrqForce .. | .usbCsrRead .. |
    .usbCsrWrite .. | .mtunCommand .. | .exitStepDone | .domainAutoPowerOn .. | .accessResume .. | .i2cWrite .. |
    .rstNAssert .. | .warmReset | .coldReset .. | .rootPllTimeout | .coreDiePowerLoss =>
    Part.all
  | .latchingRead .. | .i2cRead .. =>
    [.brg, .net, .eng, .fus, .jnl, .csr, .waiting, .free]
  | .softResetAct .. =>
    [.tun, .links, .planes, .sch, .brg, .net, .tim, .jnl, .csr, .waiting, .free]
  | .unitIngress .. =>
    [.tun, .planes, .sch, .free]
  | .fenceArrival .. | .cellReceived .. | .carouselSlotEnd .. =>
    [.tun, .links, .planes, .sch]
  | .fenceTimeout .. =>
    [.tun, .sch, .jnl]
  | .scrubPass .. =>
    [.tun, .jnl]
  | .tmapReadA .. | .tmapReadB .. | .tmapReadStaged .. | .usbDescDataAccess .. =>
    [.jnl, .waiting, .free]
  | .tmapStage .. | .tmapDiscard .. =>
    [.tun, .jnl, .waiting]
  | .tmapCommit .. =>
    [.tun, .planes, .rgm, .jnl, .waiting]
  | .tmapCommitApply | .tmapCommitPairTimeout =>
    [.tun, .planes, .rgm]
  | .ackTimerExpiry .. | .replayTimerExpiry .. | .creditReceived .. | .creditRefresh .. | .capTimeout .. |
    .linkDownDwell .. | .trainStepTimeout .. | .healthSend .. | .requalified .. | .timeSymbolReceived .. =>
    [.links]
  | .ackSend .. =>
    [.tun, .links, .planes, .sch, .sto, .tim, .jnl, .free]
  | .ackReceived .. | .capReceived .. | .linkEnWrite .. | .linkDrainTimeout .. | .linkRetrain .. |
    .laneHealthSample .. | .laneHardFail .. | .substTimeout .. | .spareLost .. | .planeEnterService .. =>
    [.tun, .links, .planes, .sch, .brg, .tim, .jnl, .waiting, .free]
  | .cellTransmit .. | .egressCellBoundary .. =>
    [.tun, .links, .planes, .sch, .sto, .brg, .tim, .jnl, .waiting, .free]
  | .ctlErr .. | .healthReceived .. | .asymTrimReceived .. | .latencyToleranceUpdate .. | .aerMessage .. |
    .ckptStale .. | .ecallYield | .evcWrap .. | .debugNonceExpiry | .pdLinkLost | .aonTrim .. =>
    []
  | .capBlockSend .. | .trainStepDone .. | .trainRetry .. | .substReqRepeat .. | .learningDone .. =>
    [.links, .free]
  | .substReqReceived .. =>
    [.links, .tim, .free]
  | .switchReceived .. =>
    [.links, .tim, .jnl]
  | .laneSubstitute .. =>
    [.links, .jnl, .waiting, .free]
  | .laneRequalify .. | .laneRelearn .. =>
    [.links, .jnl, .waiting]
  | .altModeWrite .. | .auxNativeRead .. | .auxNativeWrite .. | .auxI2cRead .. | .auxI2cWrite .. | .sourceDisable .. |
    .sourceEnable .. =>
    [.dsp, .jnl, .waiting]
  | .unitEnterPlane .. =>
    [.tun, .links, .planes, .sch, .dram, .sto, .brg, .net, .usb, .pwr, .waiting, .free]
  | .cellSlotMatch .. | .missDeadline .. =>
    [.tun, .links, .planes, .sch, .jnl]
  | .schedStall .. | .planeFatalError .. | .planePowerLost .. | .planeHeartbeatMiss .. | .planeDisable .. |
    .sheepdogSweepEnd .. =>
    [.tun, .links, .planes, .mcg, .sch, .brg, .jnl, .waiting, .free]
  | .planeEnable .. | .planeRestartCmd .. =>
    [.planes, .sch, .jnl, .waiting]
  | .planeRestartBegin .. =>
    [.planes, .sch]
  | .sheepdogSweepStart .. | .parkScan .. | .crossPlaneHeartbeat .. =>
    [.planes]
  | .sheepdogVisit .. | .authorityClaim .. =>
    [.planes, .jnl]
  | .mcgRead .. | .mcgReadStaged .. | .schQRead .. | .schAlRead .. | .schAlReadPending .. | .schPolRead .. |
    .schSmpRead .. | .timeSlew .. | .slewAbort .. | .fadjWrite .. | .jnlTailWrite .. | .jnlDataRead .. | .rpRescan .. |
    .hbrSemRead .. | .hbrSemRelease .. | .mrtRead .. | .windowDisable .. | .ethClsRead .. | .ethEgbRead .. |
    .engBindRead .. | .evcSelWrite .. | .evcClear .. | .evcFreeze .. | .keyAuthRead .. | .keyAuthWrite .. |
    .keyAuthLock .. | .tamperLock .. | .peakClr .. | .windowEnable .. =>
    [.jnl, .waiting]
  | .mcgStage .. | .mcgDiscard .. =>
    [.mcg, .jnl, .waiting]
  | .mcgCommit .. =>
    [.planes, .mcg, .rgm, .jnl, .waiting]
  | .mcgCommitApply | .mcgCommitPairTimeout =>
    [.planes, .mcg, .rgm]
  | .replicaMismatch .. =>
    [.rgm]
  | .pairHeartbeat .. =>
    [.tun, .planes, .mcg, .rgm]
  | .pairHeartbeatMiss .. | .pairHalt .. | .pairWatchdogExpiry .. =>
    [.tun, .planes, .mcg, .rgm, .mgt, .jnl]
  | .rgmHandover .. =>
    [.planes, .rgm, .jnl, .waiting]
  | .rgmSwapLive .. =>
    [.tun, .planes, .mcg, .rgm, .jnl, .waiting]
  | .refillBoundary =>
    [.tun, .links, .planes, .sch, .tim, .jnl]
  | .schQWrite .. | .schAlWrite .. | .schPolWrite .. | .schPolClearCnt .. | .schRelSet .. | .schRelClr .. |
    .schSmpClear .. | .histSelWrite .. | .timeSet .. | .timeStep .. =>
    [.sch, .jnl, .waiting]
  | .samplerVisit .. =>
    [.sch, .free]
  | .timNowRead .. | .jnlSwWrite .. =>
    [.jnl, .csr, .waiting]
  | .timeCapture .. | .ptpQualWrite .. =>
    [.tim, .jnl, .waiting]
  | .sourceQualified .. | .sourceDisqualified .. | .sourceHoldExpiry .. | .ptpTmo | .irigFault | .ppsFault =>
    [.tim, .jnl]
  | .irigFrame .. | .ppsEdge | .timeEchoReceived .. =>
    [.sch, .tim, .jnl, .free]
  | .holdTimeExpiry | .journalEntryWrite =>
    [.jnl]
  | .exchangeOriginate .. =>
    [.links, .tim]
  | .exchangeTimeout .. =>
    [.tim, .jnl, .free]
  | .ppsOutRise | .ppsOutFall =>
    [.tim]
  | .modeSet .. | .rectRaw .. | .rectTile .. | .cursor .. | .flip .. | .displayFence .. | .modeChangeDone .. |
    .copyDone .. =>
    [.tun, .planes, .sch, .dram, .dsp, .pwr, .free]
  | .frameStart .. =>
    [.tun, .planes, .sch, .dram, .dsp, .jnl, .pwr, .free]
  | .psrStandby .. | .underrun .. | .hpdPlug .. | .hpdUnplug .. | .irqHpd .. | .outputTrainAttemptDone .. |
    .auxReply .. | .auxTimeout .. =>
    [.dsp]
  | .fetchStart .. =>
    [.dsp, .pwr]
  | .fetchDramUncorr .. =>
    [.dsp, .jnl]
  | .sourceDrainTimeout .. =>
    [.tun, .planes, .sch, .dsp]
  | .stoCommandUnit .. | .stoDataUnit .. | .stoDataTimeout .. | .nvmeCompletion .. | .stoFence .. |
    .blockTunnelDrainTimeout .. =>
    [.tun, .links, .planes, .sch, .dram, .sto, .pwr, .free]
  | .stoCmdTimeout .. | .stoAbortTimeout .. | .controllerFatal .. | .rpLinkDown .. | .adminCommandDone .. |
    .queueDeleteTimeout .. =>
    [.tun, .links, .planes, .sch, .dram, .sto, .jnl, .pwr, .free]
  | .rootPortEnable .. | .rootPortDisable .. | .controllerResetCmd .. | .blockTunnelEnable .. | .blockTunnelDisable .. =>
    [.tun, .links, .planes, .sch, .dram, .sto, .jnl, .pwr, .waiting, .free]
  | .rpBringupStepDone .. | .controllerReadyTimeout .. =>
    [.sto]
  | .hostWrite .. | .hostRead .. | .hostAtomic .. | .hostLockedRead .. | .hostUnlock | .lockTimeout | .msixUnmask .. |
    .hostConfigWrite .. =>
    [.tun, .planes, .sch, .brg, .waiting, .free]
  | .hbrFence .. =>
    [.tun, .planes, .sch, .brg, .jnl, .waiting]
  | .semaphoreAcquired .. =>
    [.tun, .planes, .sch, .brg]
  | .semWaitTimeout .. | .hostLinkUp .. =>
    [.brg]
  | .bridgeResponse .. | .inboundData .. | .inboundReadRequest .. | .inboundWriteNp .. | .hostCompletion .. |
    .bridgeFenceUnit .. | .routerUnit .. | .routerHoldRelease .. | .routerHoldTimeout .. | .windowDrainTimeout .. |
    .hostLinkDown | .hostCompletionTimeout .. =>
    [.tun, .planes, .sch, .brg, .usb, .eng, .mgt, .jnl, .waiting, .free]
  | .hbrReadTimeout .. | .flr =>
    [.tun, .planes, .sch, .brg, .jnl, .waiting, .free]
  | .mrtCauseRead .. | .mrtWrite .. | .mrtClear .. =>
    [.brg, .jnl, .waiting]
  | .ethFrameReceived .. | .macDrainTimeout .. =>
    [.tun, .planes, .sch, .net]
  | .ethEgressUnit .. | .ethFrameTransmit .. | .ethLinkDown .. | .ethLinkUp .. =>
    [.net]
  | .txtsRead .. | .ethClsWrite .. | .ethEgbWrite .. =>
    [.net, .jnl, .waiting]
  | .wakeFrame .. | .wakeEvent .. | .aonTimerWake | .i2cAddressMatch .. =>
    [.jnl, .pwr, .free]
  | .macDisable .. | .macEnable .. =>
    [.net, .jnl, .waiting, .free]
  | .usbStandardRequest .. =>
    [.tun, .planes, .sch, .usb, .jnl, .waiting, .free]
  | .usbOutPacket .. | .usbClearHalt .. =>
    [.tun, .planes, .sch, .usb]
  | .usbInUnit .. | .usbInAck .. | .usbFence .. | .usbSuspend | .usbPort5Suspend | .usbWakeSignal | .usbHostResume |
    .usbVbusChange .. | .usbOverCurrent .. | .downstreamPortConnect .. =>
    [.usb]
  | .usbInToken .. | .usbEndpointResetUnit .. | .usbEndpointHalt .. | .usbEpDrainTimeout .. =>
    [.sch, .usb]
  | .usbBusReset .. =>
    [.tun, .planes, .sch, .usb, .jnl, .waiting]
  | .usbFunctionEnWrite .. | .usbEpEnable .. | .usbEpDisable .. =>
    [.usb, .jnl, .waiting]
  | .engineUnit .. | .engineWatchdog .. | .engineFault .. | .engineWdtKick .. | .engineRspPost .. =>
    [.eng]
  | .engCmdqPush .. =>
    [.eng, .jnl, .waiting, .free]
  | .engRspRead .. | .engRestart .. | .engReload .. | .engCacheLoad .. | .engCacheEvict .. | .engBindWrite .. =>
    [.eng, .jnl, .waiting]
  | .engineSend .. =>
    [.tun, .planes, .sch, .eng]
  | .checkpointDoorbell .. | .engineDrainTimeout .. =>
    [.tun, .links, .planes, .sch, .eng, .free]
  | .engineReloadDone .. | .reloadComplete .. =>
    [.tun, .eng, .jnl, .pwr]
  | .engineStart .. | .engineDisable .. =>
    [.tun, .links, .planes, .sch, .eng, .jnl, .pwr, .waiting, .free]
  | .wdtKick .. =>
    [.tun, .planes, .mcg, .rgm, .mgt, .jnl, .waiting]
  | .pairRestart .. =>
    [.mgt, .pwr]
  | .restartA .. | .restartB .. =>
    [.tun, .planes, .mcg, .rgm, .mgt, .jnl, .pwr, .waiting, .free]
  | .stopB .. =>
    [.tun, .planes, .mcg, .rgm, .mgt, .jnl, .waiting, .free]
  | .ecallSetHandler .. | .ecallIrqForward .. | .pairbFault | .flashOpDone =>
    [.mgt]
  | .ecallMboxRead .. =>
    [.mgt, .free]
  | .bootStepDone =>
    [.tun, .planes, .mcg, .rgm, .dram, .eng, .mgt, .jnl, .csr, .pwr, .free]
  | .flashRead .. | .flashProgram .. | .flashErase4k .. | .flashErase64k .. =>
    [.mgt, .jnl, .waiting]
  | .provision .. | .keyLoad .. | .keyClear .. | .keyGenerate .. | .keyWrap .. | .keyDerive .. | .keySign .. |
    .keyMac .. | .keyReadPub .. | .keyReadAttPub .. | .otpProgCodeHash .. | .otpProgDebugHash .. | .otpSetDbgNever .. |
    .otpRaiseSvn .. | .attest .. =>
    [.key, .jnl, .waiting]
  | .keyCmdComplete =>
    [.key, .free]
  | .otpCommandDone | .attestDone =>
    [.key]
  | .tamperDetected .. | .batLow .. =>
    [.key, .jnl, .csr, .pwr, .free]
  | .debugChallenge .. | .debugRespond .. | .debugClose .. =>
    [.key, .jnl, .waiting, .free]
  | .channelEnable .. | .channelDisable .. | .channelDirWrite .. | .fusClear .. | .applyCurve .. | .setHeat .. |
    .energyClr .. | .cpdSend .. | .cpdRxRead .. | .cpdSwapEnd .. | .cpdHardReset .. | .cpdFrsConfirm .. =>
    [.fus, .jnl, .waiting]
  | .startConditionsMet .. | .rampComplete .. | .enhanceDone .. | .autoRetry .. | .reverseCurrent .. |
    .forwardRecovery .. | .inputOutOfRange .. | .pdTimeCorrection | .powerDieColdPowerUp .. | .cpdTransmitStart .. |
    .cpdResponseTimeout .. | .psHrExpiry .. | .srcRecoverExpiry .. | .recoverMaxExpiry .. | .frsDetected .. | .frsTmo .. =>
    [.fus]
  | .startTimeout .. | .passDeviceTimeout .. | .instantTrip .. | .faultTimerExpiry .. | .powerGoodUpdate .. |
    .fetShort .. | .pdOverTemp .. | .pdLinkUp | .cpdGoodcrcReceived .. | .cpdRetryTimeout .. | .cpdCollision .. |
    .hardResetReceived .. =>
    [.fus, .jnl]
  | .breakerTick .. | .autoFrs .. =>
    [.fus, .jnl, .free]
  | .seatOpen .. =>
    [.tun, .links, .planes, .sch, .dsp, .brg, .tim, .fus, .jnl, .waiting, .free]
  | .seatSettled .. =>
    [.dsp, .fus]
  | .channelSample .. | .vinPdLow .. =>
    [.fus, .free]
  | .preloadProgram .. | .cpdFrsSend .. =>
    [.fus, .jnl, .waiting, .free]
  | .cpdEnableWrite .. =>
    [.dsp, .fus, .jnl, .waiting]
  | .cpdMessageReceived .. =>
    [.dsp, .fus, .jnl]
  | .powerStateRequest .. =>
    [.tun, .links, .planes, .sch, .dram, .dsp, .sto, .brg, .net, .usb, .tim, .eng, .jnl, .pwr, .waiting, .free]
  | .entryQuiesceDone =>
    [.tun, .links, .planes, .sch, .dram, .dsp, .sto, .brg, .net, .usb, .tim, .eng, .mgt, .jnl, .pwr, .waiting, .free]
  | .regulatorAck .. =>
    [.dram, .sto, .eng, .jnl, .pwr, .rst, .free]
  | .regulatorNoack .. =>
    [.jnl, .csr, .pwr, .free]
  | .regulatorRetry =>
    [.pwr, .free]
  | .domainIdlePowerOff .. =>
    [.tun, .links, .planes, .sch, .dsp, .sto, .brg, .net, .usb, .eng, .mgt, .jnl, .pwr, .waiting, .free]
  | .pmbusAlert .. =>
    [.jnl, .pwr]
  | .vidTrimWrite .. =>
    [.jnl, .pwr, .waiting, .free]
  | .pllLossOfLock .. =>
    [.tun, .links, .planes, .sch, .dram, .dsp, .sto, .brg, .net, .usb, .tim, .eng, .mgt, .jnl, .pwr, .waiting, .rst, .free]
  | .rstNRelease | .pllRelock .. =>
    [.jnl, .pwr, .rst, .free]
  | .chipRstWarm .. =>
    [.jnl, .waiting, .rst]
  | .temperatureSample .. =>
    [.jnl, .csr]
  | .dramSelfRefreshEntry =>
    [.pwr]
  | .islandPowerLoss =>
    [.key, .csr]
  | .engineTakeEntry .. =>
    [.tun, .links, .planes, .sch, .eng, .jnl, .free]
  | .engCacheLoadDone =>
    [.dram, .eng, .jnl, .pwr]

open Machine in
/-- The register pages that a command may write beyond interrupt bits, captures and the event counters of page 0x014, by the first page of their block (Table 18.1; 0x400 for the header of any page); none where the command chooses a register, or an instance of one, by what the state holds. -/
def Instr.pages : Instr → Option (List Nat)
  | .registerWrite .. | .latchingRead .. | .hiWriteApply .. | .softResetRequest .. | .softResetAct .. | .pageLock .. |
    .pageIrqForce .. | .cellReceived .. | .ackReceived .. | .cellTransmit .. | .capReceived .. | .linkEnWrite .. |
    .linkDrainTimeout .. | .linkRetrain .. | .laneHealthSample .. | .healthReceived .. | .laneHardFail .. |
    .substTimeout .. | .spareLost .. | .unitEnterPlane .. | .cellSlotMatch .. | .schedStall .. | .egressCellBoundary ..
    | .planeFatalError .. | .planePowerLost .. | .planeHeartbeatMiss .. | .planeDisable .. | .planeEnterService .. |
    .sheepdogSweepEnd .. | .stoCommandUnit .. | .stoDataUnit .. | .stoDataTimeout .. | .nvmeCompletion .. | .stoFence ..
    | .stoCmdTimeout .. | .stoAbortTimeout .. | .rootPortEnable .. | .rpBringupStepDone .. | .rootPortDisable .. |
    .controllerResetCmd .. | .controllerFatal .. | .rpLinkDown .. | .blockTunnelEnable .. | .blockTunnelDisable .. |
    .blockTunnelDrainTimeout .. | .adminCommandDone .. | .queueDeleteTimeout .. | .hostWrite .. | .hostRead .. |
    .hostAtomic .. | .hostLockedRead .. | .hostUnlock | .hbrFence .. | .semaphoreAcquired .. | .semWaitTimeout .. |
    .bridgeResponse .. | .hbrReadTimeout .. | .lockTimeout | .inboundData .. | .inboundReadRequest .. |
    .inboundWriteNp .. | .hostCompletion .. | .bridgeFenceUnit .. | .routerUnit .. | .routerHoldRelease .. |
    .routerHoldTimeout .. | .msixUnmask .. | .windowDisable .. | .windowDrainTimeout .. | .flr | .hostLinkDown |
    .ethFrameReceived .. | .wakeFrame .. | .macDrainTimeout .. | .usbStandardRequest .. | .usbCsrRead .. |
    .usbCsrWrite .. | .usbOutPacket .. | .usbInToken .. | .usbClearHalt .. | .usbBusReset .. | .usbEpEnable .. |
    .usbEpDisable .. | .usbDescDataAccess .. | .engineUnit .. | .bootStepDone | .mtunCommand .. | .tamperDetected .. |
    .batLow .. | .attestDone | .seatOpen .. | .powerDieColdPowerUp .. | .cpdMessageReceived .. | .powerStateRequest .. |
    .entryQuiesceDone | .regulatorAck .. | .regulatorNoack .. | .regulatorRetry | .exitStepDone | .wakeEvent .. |
    .aonTimerWake | .domainAutoPowerOn .. | .domainIdlePowerOff .. | .accessResume .. | .i2cWrite .. | .i2cRead .. |
    .i2cAddressMatch .. | .vidTrimWrite .. | .pllLossOfLock .. | .rstNAssert .. | .rstNRelease | .warmReset |
    .coldReset .. | .rootPllTimeout | .pllRelock .. | .coreDiePowerLoss | .islandPowerLoss | .hostCompletionTimeout .. |
    .hostConfigWrite .. | .windowEnable .. =>
    none
  | .unitIngress .. =>
    some [0x081, 0x100, 0x103, 0x280]
  | .fenceArrival .. | .ackTimerExpiry .. | .creditRefresh .. | .capBlockSend .. | .trainRetry .. | .healthSend .. |
    .substReqRepeat .. | .parkScan .. | .carouselSlotEnd .. | .exchangeOriginate .. | .timeSymbolReceived .. |
    .ppsOutRise | .ppsOutFall | .usbWakeSignal | .engineWatchdog .. | .ecallYield | .ecallSetHandler .. |
    .ecallIrqForward .. | .evcWrap .. | .pdTimeCorrection | .cpdTransmitStart .. | .frsTmo .. | .dramSelfRefreshEntry |
    .engineWdtKick .. | .engineRspPost .. | .crossPlaneHeartbeat .. =>
    some []
  | .fenceTimeout .. | .scrubPass .. =>
    some [0x058, 0x280]
  | .tmapReadA .. | .tmapReadB .. | .tmapStage .. | .tmapDiscard .. | .tmapReadStaged .. =>
    some (gatePages ++ [0x280])
  | .tmapCommit .. =>
    some (gatePages ++ [0x01C, 0x100, 0x280])
  | .tmapCommitApply | .tmapCommitPairTimeout =>
    some [0x01C, 0x100, 0x280]
  | .ackSend .. | .replayTimerExpiry .. | .creditReceived .. | .ctlErr .. =>
    some [0x081]
  | .capTimeout .. | .trainStepDone .. =>
    some [0x080, 0x082]
  | .linkDownDwell .. =>
    some [0x080]
  | .trainStepTimeout .. | .substReqReceived .. | .learningDone .. | .requalified .. =>
    some [0x082]
  | .switchReceived .. =>
    some [0x058, 0x082]
  | .laneSubstitute .. | .laneRelearn .. =>
    some (gatePages ++ [0x082])
  | .laneRequalify .. | .schRelSet .. | .schRelClr .. | .schSmpClear .. | .timNowRead .. | .jnlTailWrite .. |
    .jnlDataRead .. | .jnlSwWrite .. | .mrtCauseRead .. | .txtsRead .. | .engRspRead .. | .evcSelWrite .. | .evcClear ..
    | .evcFreeze .. | .keyAuthRead .. | .preloadProgram .. | .chipRstWarm .. =>
    some gatePages
  | .altModeWrite .. =>
    some (gatePages ++ [0x082, 0x304])
  | .planeEnable .. | .planeRestartCmd .. =>
    some (gatePages ++ [0x100, 0x101])
  | .planeRestartBegin .. =>
    some [0x100, 0x101]
  | .sheepdogSweepStart .. =>
    some [0x101]
  | .sheepdogVisit .. =>
    some [0x058, 0x101]
  | .mcgRead .. | .mcgStage .. | .mcgDiscard .. | .mcgReadStaged .. =>
    some (gatePages ++ [0x102])
  | .mcgCommit .. =>
    some (gatePages ++ [0x01C, 0x100, 0x102])
  | .mcgCommitApply | .mcgCommitPairTimeout =>
    some [0x01C, 0x100, 0x102]
  | .replicaMismatch .. =>
    some [0x01C]
  | .authorityClaim .. =>
    some [0x01C, 0x058, 0x100]
  | .pairHeartbeat .. =>
    some [0x01C, 0x100, 0x102, 0x280]
  | .pairHeartbeatMiss .. | .pairHalt .. | .pairWatchdogExpiry .. =>
    some [0x011, 0x01C, 0x058, 0x100, 0x102, 0x280]
  | .rgmHandover .. =>
    some (gatePages ++ [0x01C, 0x100])
  | .rgmSwapLive .. =>
    some (gatePages ++ [0x01C, 0x100, 0x102, 0x280])
  | .missDeadline .. =>
    some [0x058, 0x200]
  | .refillBoundary =>
    some [0x040, 0x041, 0x058, 0x200]
  | .schQRead .. | .schQWrite .. =>
    some (gatePages ++ [0x201])
  | .schAlRead .. | .schAlWrite .. | .schAlReadPending .. =>
    some (gatePages ++ [0x202])
  | .schPolRead .. | .schPolWrite .. | .schPolClearCnt .. =>
    some (gatePages ++ [0x203])
  | .samplerVisit .. =>
    some [0x204]
  | .schSmpRead .. | .histSelWrite .. =>
    some (gatePages ++ [0x204])
  | .timeSet .. | .timeStep .. | .timeSlew .. | .slewAbort .. | .fadjWrite .. =>
    some (gatePages ++ [0x040])
  | .timeCapture .. | .ptpQualWrite .. =>
    some (gatePages ++ [0x040, 0x041])
  | .sourceQualified .. | .sourceDisqualified .. | .sourceHoldExpiry .. | .ptpTmo | .irigFault | .ppsFault |
    .holdTimeExpiry =>
    some [0x040, 0x058]
  | .irigFrame .. | .ppsEdge =>
    some [0x040, 0x041, 0x058]
  | .timeEchoReceived .. | .exchangeTimeout .. =>
    some [0x040, 0x042, 0x058]
  | .asymTrimReceived .. =>
    some [0x042]
  | .journalEntryWrite =>
    some [0x058]
  | .modeSet .. | .rectRaw .. | .rectTile .. | .cursor .. | .flip .. | .displayFence .. | .modeChangeDone .. |
    .copyDone .. =>
    some [0x100, 0x103, 0x280, 0x300, 0x301, 0x304]
  | .frameStart .. =>
    some [0x058, 0x100, 0x103, 0x280, 0x301, 0x304]
  | .psrStandby .. =>
    some [0x300, 0x301, 0x304]
  | .fetchStart .. | .latencyToleranceUpdate .. =>
    some [0x300, 0x301]
  | .fetchDramUncorr .. =>
    some [0x058, 0x300]
  | .underrun .. | .hpdPlug .. | .hpdUnplug .. | .irqHpd .. | .outputTrainAttemptDone .. | .auxReply .. |
    .auxTimeout .. =>
    some [0x304]
  | .auxNativeRead .. | .auxNativeWrite .. | .auxI2cRead .. | .auxI2cWrite .. =>
    some (gatePages ++ [0x304])
  | .sourceDisable .. | .sourceEnable .. =>
    some (gatePages ++ [0x301, 0x304])
  | .sourceDrainTimeout .. =>
    some [0x100, 0x103, 0x280, 0x301, 0x304]
  | .controllerReadyTimeout .. | .aerMessage .. =>
    some [0x311]
  | .rpRescan .. =>
    some (gatePages ++ [0x311, 0x313])
  | .hbrSemRead .. | .hbrSemRelease .. =>
    some (gatePages ++ [0x323])
  | .mrtRead .. | .mrtWrite .. | .mrtClear .. =>
    some (gatePages ++ [0x328])
  | .hostLinkUp .. =>
    some [0x320]
  | .ethEgressUnit .. | .ethFrameTransmit .. =>
    some [0x340, 0x341]
  | .ethLinkDown .. | .ethLinkUp .. =>
    some [0x341]
  | .macDisable .. | .macEnable .. =>
    some (gatePages ++ [0x341])
  | .ethClsRead .. | .ethClsWrite .. =>
    some (gatePages ++ [0x345])
  | .ethEgbRead .. | .ethEgbWrite .. =>
    some (gatePages ++ [0x346])
  | .usbInUnit .. | .usbInAck .. | .usbFence .. | .usbEndpointResetUnit .. | .usbEndpointHalt .. |
    .usbEpDrainTimeout .. =>
    some [0x350, 0x351]
  | .usbSuspend | .usbPort5Suspend | .usbHostResume | .usbVbusChange .. =>
    some [0x350]
  | .usbFunctionEnWrite .. =>
    some (gatePages ++ [0x350, 0x351])
  | .usbOverCurrent .. | .downstreamPortConnect .. =>
    some [0x352]
  | .engCmdqPush .. | .engRestart .. | .engReload .. | .engineStart .. | .engineDisable .. =>
    some (gatePages ++ [0x370])
  | .engineSend .. | .checkpointDoorbell .. =>
    some [0x100, 0x103, 0x280, 0x370]
  | .ckptStale .. | .engineFault .. | .engineDrainTimeout .. =>
    some [0x370]
  | .engineReloadDone .. | .reloadComplete .. =>
    some [0x058, 0x370]
  | .engCacheLoad .. | .engCacheEvict .. =>
    some (gatePages ++ [0x360])
  | .engBindRead .. | .engBindWrite .. =>
    some (gatePages ++ [0x361])
  | .wdtKick .. =>
    some (gatePages ++ [0x011, 0x01C, 0x100, 0x102, 0x280])
  | .pairRestart .. =>
    some [0x010, 0x01C]
  | .restartA .. | .restartB .. | .stopB .. =>
    some (gatePages ++ [0x010, 0x011, 0x01C, 0x100, 0x102, 0x280])
  | .ecallMboxRead .. | .pairbFault | .flashOpDone =>
    some [0x010]
  | .flashRead .. | .flashProgram .. | .flashErase4k .. | .flashErase64k .. =>
    some (gatePages ++ [0x010])
  | .keyAuthWrite .. | .keyAuthLock .. =>
    some (gatePages ++ [0x400])
  | .provision .. | .keyLoad .. | .keyClear .. | .keyGenerate .. | .keyWrap .. | .keyDerive .. | .keySign .. |
    .keyMac .. | .keyReadPub .. | .keyReadAttPub .. =>
    some (gatePages ++ [0x020])
  | .keyCmdComplete =>
    some [0x020]
  | .otpProgCodeHash .. | .otpProgDebugHash .. | .otpSetDbgNever .. | .otpRaiseSvn .. | .attest .. =>
    some (gatePages ++ [0x024])
  | .otpCommandDone =>
    some [0x024]
  | .tamperLock .. =>
    some (gatePages ++ [0x023])
  | .debugChallenge .. =>
    some (gatePages ++ [0x022])
  | .debugRespond .. | .debugClose .. =>
    some (gatePages ++ [0x020, 0x022])
  | .debugNonceExpiry =>
    some [0x022]
  | .channelEnable .. | .channelDisable .. | .channelDirWrite .. | .fusClear .. | .applyCurve .. | .setHeat .. |
    .peakClr .. | .energyClr .. =>
    some (gatePages ++ [0x061])
  | .startConditionsMet .. | .rampComplete .. | .autoRetry .. | .reverseCurrent .. | .forwardRecovery .. |
    .inputOutOfRange .. | .channelSample .. | .psHrExpiry .. | .srcRecoverExpiry .. =>
    some [0x061]
  | .startTimeout .. | .passDeviceTimeout .. | .instantTrip .. | .breakerTick .. | .faultTimerExpiry .. | .fetShort .. =>
    some [0x058, 0x061]
  | .enhanceDone .. | .frsDetected .. =>
    some [0x061, 0x074]
  | .powerGoodUpdate .. | .pdOverTemp .. =>
    some [0x058, 0x060, 0x061]
  | .seatSettled .. =>
    some [0x061, 0x074, 0x082, 0x304]
  | .pdLinkUp =>
    some [0x058, 0x060]
  | .pdLinkLost | .vinPdLow .. =>
    some [0x060]
  | .cpdEnableWrite .. =>
    some (gatePages ++ [0x074, 0x082, 0x304])
  | .cpdSend .. | .cpdRxRead .. | .cpdSwapEnd .. =>
    some (gatePages ++ [0x074])
  | .cpdGoodcrcReceived .. | .cpdRetryTimeout .. | .cpdCollision .. | .hardResetReceived .. | .autoFrs .. =>
    some [0x058, 0x061, 0x074]
  | .cpdResponseTimeout .. | .recoverMaxExpiry .. =>
    some [0x074]
  | .cpdHardReset .. | .cpdFrsSend .. | .cpdFrsConfirm .. =>
    some (gatePages ++ [0x061, 0x074])
  | .pmbusAlert .. =>
    some [0x031, 0x058]
  | .aonTrim .. =>
    some [0x032]
  | .temperatureSample .. =>
    some [0x051, 0x058]
  | .engineTakeEntry .. =>
    some [0x058, 0x360, 0x370]
  | .engCacheLoadDone =>
    some [0x058, 0x360]

end Sys2Proof
end

