-- ==== Sys2Proof/Certificates/Slice0/Obligations.lean ====
section
/-! DEFINITION. The statements about the model: what every command does where it completes, the rules of the spec that say more about a state than one command, and the invariants of a step. -/

open Sys2Proof Sys2Proof.Machine

/-- The head of the queue is what a step runs (the model's queue, log 1). -/
def Obligations.FrontCommandRuns : Prop :=
  ∀ (c : Instr) (rest : List Instr) (s : State),
    step { s with pending := c :: rest } = exec c { s with pending := rest }

/-- On an empty queue a step is a nanosecond of hardware time (the model's tick, log 2): it ends no run and serves no command. Where no replay timer has expired in the nanosecond that ends (log 149), no engine has failed in it (log 163) and no programming of the power die is going on (log 159), it touches no DRAM, link, map entry or key, and of a plane at most its claim of authority, which the end of a cycle decides (log 123). -/
def Obligations.EmptyQueueLetsTimePass : Prop :=
  ∀ s : State, s.pending = [] →
    ∃ t, step s = .next t ∧ t.hw = s.hw + 1 ∧ t.pending = [] ∧
      ((∀ n, (s.link n).expiry = none) → s.eng.failing = [] → s.fus.prog = none →
        t.dram = s.dram ∧ t.links = s.links ∧ t.tun = s.tun ∧ t.key = s.key ∧ t.fus = s.fus ∧ t.sch = s.sch ∧
        ∀ p, t.plane p = { s.plane p with claims := (t.plane p).claims, mayClaim := (t.plane p).mayClaim })

/-- A command completes exactly when its operands name instances, paths, pages and values that the hub has; any other faults by name, and none is refused (log 3). -/
def Obligations.CommandsCompleteWhenWellFormed : Prop :=
  ∀ (i : Instr) (s : State),
    (i.wf = true → ∃ t, exec i s = .next t) ∧ (i.wf = false → exec i s = .fault .noSuchInstance)

/-- Every field of a cell (Table 2.2) comes back from the wire at every value that it admits: no bit of the 256 bytes is dropped, and the CRC of R62 accepts what it was made for. -/
def Obligations.CellWireRoundTrip : Prop :=
  ∀ c : Cell, c.fits → (encodeCell c).length = 256 ∧ decodeCell (encodeCell c) = some c

/-- Every control and lane-layer block (Tables 2.3 and 3.1, R114) comes back from its eight bytes at every value that its fields admit. -/
def Obligations.ControlBlockWireRoundTrip : Prop :=
  ∀ b : Ctl, b.fits → (encodeCtl b).length = 8 ∧ decodeCtl (encodeCtl b) = some b

/-- PAGE_SCRATCH of every page (Table 18.3) holds a written word, reads back on every path that may read it, and its write changes no other register and nothing else of the hub, beyond what the arrival of a TLP of the host counts (Table 18.12). -/
def Obligations.ScratchHoldsWhatIsWritten : Prop :=
  ∀ (s : State) (path page data : Nat), pageListed page = true → data < 2 ^ 32 →
    s.letsWrite path (page * 4096 + 0x034) →
    ∃ t, exec (.registerWrite path (page * 4096 + 0x034) data 0xF) s = .next t ∧
      t = { s.begin.tlpIn path with regs := t.regs } ∧
      (∀ d k, k ≠ R.PAGE_SCRATCH.key page 0 → t.regs.get d k = (s.begin.tlpIn path).regs.get d k) ∧
      t.rd R.PAGE_SCRATCH page = data ∧
      ∀ q, t.letsRead q (page * 4096 + 0x034) →
        exec (.latchingRead q (page * 4096 + 0x034) 0xF) t = .next ((t.begin.tlpIn q).answer q data)

/-- R6: an offset with no register, of a page that exists or of one that does not, reads 0 and ignores writes, and the access changes nothing beyond what the TLPs of the host count (Table 18.12). -/
def Obligations.AbsentRegistersReadZero : Prop :=
  ∀ (s : State) (path addr data : Nat), addr < 2 ^ 22 → addr % 4 = 0 → data < 2 ^ 32 →
    (pageListed (addr / 4096) = false → path < 8 → s.noSender path = false → s.pathHeld path = false →
      exec (.latchingRead path addr 0xF) s = .next ((s.begin.tlpIn path).answer path 0) ∧
      exec (.registerWrite path addr data 0xF) s = .next (s.begin.tlpIn path)) ∧
    (pageListed (addr / 4096) = true → placeAt addr = none → pairAt addr = none →
      addr % 4096 ≠ 0x000 → addr % 4096 ≠ 0x004 → addr % 4096 ≠ 0x00C → addr % 4096 ≠ 0x018 →
      (s.letsRead path addr → exec (.latchingRead path addr 0xF) s = .next ((s.begin.tlpIn path).answer path 0)) ∧
      (s.letsWrite path addr → exec (.registerWrite path addr data 0xF) s = .next (s.begin.tlpIn path)))

/-- R5 and R552: an access that is not aligned or not 32 bits wide is discarded, a read of it answers all ones, and the addressed page captures it: whole while VALID is 0, with PAGE 0, counted only while VALID is 1. Nothing else of the hub changes beyond what the TLPs of the host count (Table 18.12). Which cause an access with both faults gets is the model's choice (log 4). One on a path that is held waits (log 81; WaitingAccessHoldsItsPathOnly). -/
def Obligations.BadAccessesAreCaptured : Prop :=
  ∀ (s : State) (path addr data be : Nat), path < 8 → addr < 2 ^ 22 → data < 2 ^ 32 → be < 16 →
    (be ≠ 0xF ∨ addr % 4 ≠ 0) → pageListed (addr / 4096) = true → s.noSender path = false → s.rst.held = false →
    (pageDomain (addr / 4096) = 31 → s.pdLinkUp = true) →
    s.pathHeld path = false →
    (∃ t, exec (.registerWrite path addr data be) s = .next t ∧ (s.begin.tlpIn path).captured t path true addr data be) ∧
    (∃ u, exec (.latchingRead path addr be) s = .next (u.answer path 0xFFFFFFFF) ∧
      (s.begin.tlpIn path).captured u path false addr 0 be)

/-- R407: a refused access changes nothing but the addressed page's capture registers, page 0x021's denial records and what its event sets off (interrupts, the journal's queue and loss count, event counters); a refused read answers all ones. A debug challenge of JTAG is refused by no mask (R428); an access behind a die-to-die link that is down is the link's (R437). -/
def Obligations.RefusedAccessesChangeNothing : Prop :=
  ∀ (s : State) (path addr data : Nat), path < 8 → addr < 2 ^ 22 → addr % 4 = 0 → data < 2 ^ 32 →
    pageListed (addr / 4096) = true → s.noSender path = false → s.rst.held = false → s.pathHeld path = false →
    (pageDomain (addr / 4096) = 31 → s.pdLinkUp = true) →
    (s.maskAllows path true addr = false → State.challenges path addr data = false →
      ∃ t, exec (.registerWrite path addr data 0xF) s = .next t ∧ s.denied t path true addr) ∧
    (s.maskAllows path false addr = false →
      ∃ t, exec (.latchingRead path addr 0xF) s = .next t ∧ s.denied t path false addr ∧
        .csr path 0xFFFFFFFF ∈ t.out)

/-- R521: an access into a domain whose clock is stopped waits on its own path alone; the accesses of the other paths are decided as before, and it changes nothing until it completes, beyond what the arrival of a TLP of the host counts (Table 18.12). Whatever else that path sends to a listed page waits behind it, an access that fails R5 too (the model's reading, log 81). -/
def Obligations.WaitingAccessHoldsItsPathOnly : Prop :=
  ∀ (s : State) (path addr data : Nat), path < 8 → addr < 2 ^ 22 → addr % 4 = 0 → data < 2 ^ 32 →
    pageListed (addr / 4096) = true → s.noSender path = false → s.rst.held = false → s.pathHeld path = false →
    s.maskAllows path true addr = true → pageDomain (addr / 4096) ≠ 31 →
    s.domainRuns (pageDomain (addr / 4096)) = false →
    ∃ t, exec (.registerWrite path addr data 0xF) s = .next t ∧
      t = { s.begin.tlpIn path with pwr := { s.pwr with
        waiting := s.pwr.waiting ++ [{ path := path, write := true, addr := addr, data := data }] } } ∧
      (∀ w a, t.verdict path w a = .waits) ∧
      (∀ q w a, q ≠ path → t.verdict q w a = s.verdict q w a) ∧
      (∀ a d be, a < 2 ^ 22 → d < 2 ^ 32 → be < 16 → pageListed (a / 4096) = true →
        exec (.registerWrite path a d be) t =
          .next ((t.begin.tlpIn path).queueAccess { path := path, write := true, addr := a, data := d, be := be }))

/-- R7 and R553: a read of a pair's _LO answers the low half and latches the high half for its path alone; a read of _HI answers what its path has latched, and changes nothing (but what the TLPs of the host count, Table 18.12). -/
def Obligations.PairReadsLatchPerPath : Prop :=
  ∀ (s : State) (path addr : Nat) (x : Place), addr < 2 ^ 22 → addr % 4 = 0 → placeAt addr = some x →
    x.reg.pair = true → State.groupLatch x = false → s.begin.cmdRead path x.i x.j x.base = none → 0x40 ≤ addr % 4096 →
    (s.letsRead path addr →
      ∃ t, exec (.latchingRead path addr 0xF) s = .next t ∧
        t = ((s.begin.tlpIn path).setLatch path addr ((s.begin.tlpIn path).readAt addr / 2 ^ 32)).answer path
          ((s.begin.tlpIn path).readAt addr % 2 ^ 32) ∧
        t.latched path addr = (s.begin.tlpIn path).readAt addr / 2 ^ 32 ∧
        (∀ q a, a < 2 ^ 22 → (q ≠ path ∨ a ≠ addr) → t.latched q a = s.latched q a)) ∧
    (placeAt (addr + 4) = none → pairAt (addr + 4) = some x → (addr + 4) / 4096 = addr / 4096 → s.letsRead path (addr + 4) →
      exec (.latchingRead path (addr + 4) 0xF) s = .next ((s.begin.tlpIn path).answer path (s.latched path addr)))

/-- R8: a write to _LO of a writable pair changes nothing the hub uses, and the write to _HI on the same path applies both halves together (an outbound window's base without its low 12 bits, which it has not). What the TLPs of the host count (Table 18.12) changes beside. -/
def Obligations.PairWritesApplyTogether : Prop :=
  ∀ (s : State) (path addr lo hi : Nat) (x : Place) (f : Field), addr < 2 ^ 22 → addr % 4 = 0 → lo < 2 ^ 32 → hi < 2 ^ 32 →
    placeAt addr = some x → x.reg.pair = true → x.reg.fields = [f] → f.acc = .rw → 0x40 ≤ addr % 4096 →
    placeAt (addr + 4) = none → pairAt (addr + 4) = some x → (addr + 4) / 4096 = addr / 4096 →
    x.base ≠ 0x058068 → s.takesWrite x = true →
    f.lo ≤ lo + hi * 2 ^ 32 → lo + hi * 2 ^ 32 ≤ f.hi → lo + hi * 2 ^ 32 < 2 ^ f.width →
    s.letsWrite path addr → s.letsWrite path (addr + 4) →
    ∃ t u, exec (.registerWrite path addr lo 0xF) s = .next t ∧
      t = { s.begin.tlpIn path with csr := { (s.begin.tlpIn path).csr with staged := t.csr.staged } } ∧
      exec (.hiWriteApply path (addr + 4) hi) t = .next u ∧
      u = { t.begin.tlpIn path with regs := u.regs, csr := { (t.begin.tlpIn path).csr with staged := u.csr.staged } } ∧
      u.rd f x.i (s.placeJ x) =
        (if x.base = 0x32104C then (lo + hi * 2 ^ 32) / 4096 * 4096 else lo + hi * 2 ^ 32) ∧
      (∀ d k, k ≠ f.key x.i (s.placeJ x) → u.regs.get d k = (t.begin.tlpIn path).regs.get d k)

/-- R551: a write to PAGE_IRQ_FORCE sets each interrupt bit written 1 that the page has, increments no counter of the page, writes no journal entry and raises no event of R534; the event counters of page 0x014 alone may count the MSI-X writes that it sets off, and show that they overflow. -/
def Obligations.ForcedInterruptsSetBitsOnly : Prop :=
  ∀ (s : State) (path page data : Nat), pageListed page = true → data < 2 ^ 32 →
    s.letsWrite path (page * 4096 + 0x018) →
    ∃ t, exec (.pageIrqForce path page data) s = .next t ∧
      (∀ b, b < 32 → (page = 0x014 → b ≠ 0) →
        t.irqBit page b = (s.irqBit page b || ((irqBits page).contains b && data.testBit b))) ∧
      (∀ d k, k / 32 ≠ page * 4096 + 0x010 → keyPage k ≠ 0x014 → t.regs.get d k = s.regs.get d k) ∧
      t.jnl = s.jnl ∧ t.csr = s.csr ∧ t = { s with regs := t.regs, out := t.out, brg := t.brg }

/-- R550: a page soft reset clears PAGE_IRQ_STAT and the capture registers, and releases the page's latches; it leaves EN, LOCK, PAGE_IRQ_EN, PAGE_AUTH and PAGE_SCRATCH of the page as they were. That the LINK_DOWN which the soft reset of a link page itself causes is cleared with the rest is the model's choice (log 140). -/
def Obligations.SoftResetClearsTheHeader : Prop :=
  ∀ (s : State) (page : Nat), pageListed page = true → s.csr.softReset.contains page = true → s.pageBusy page = false →
    (if pageDomain page = 31 then s.fus.alive else s.domainRuns (pageDomain page)) = true →
    ∃ t, exec (.softResetAct page) s = .next t ∧
      (∀ b, b < 32 → t.irqBit page b = false) ∧
      t.rd R.ERR_CAPT0_VALID page = 0 ∧ t.rd R.ERR_CAPT1 page = 0 ∧ t.rd R.ERR_CAPT2_COUNT page = 0 ∧
      t.rd R.ERR_CAPT3_NS page = 0 ∧ t.rd R.PAGE_CTL_SRST page = 0 ∧
      (∀ path a, path < 8 → a < 2 ^ 22 → a / 4096 = page → t.latched path a = 0) ∧
      t.rd R.PAGE_CTL_EN page = s.rd R.PAGE_CTL_EN page ∧ t.rd R.PAGE_CTL_LOCK page = s.rd R.PAGE_CTL_LOCK page ∧
      t.rd R.PAGE_IRQ_EN page = s.rd R.PAGE_IRQ_EN page ∧ t.rd R.PAGE_AUTH_RD page = s.rd R.PAGE_AUTH_RD page ∧
      t.rd R.PAGE_AUTH_WR page = s.rd R.PAGE_AUTH_WR page ∧ t.rd R.PAGE_SCRATCH page = s.rd R.PAGE_SCRATCH page ∧
      ((page < 0x080 ∨ 0x100 ≤ page) → t.dram = s.dram ∧ t.links = s.links)

/-- R54: a page soft reset of page 0x280 discards the edit set and clears the page's counters; both map copies stay. -/
def Obligations.TunnelMapSoftReset : Prop :=
  ∀ s : State, s.csr.softReset.contains 0x280 = true → s.pageBusy 0x280 = false → s.domainRuns 1 = true →
    ∃ t, exec (.softResetAct 0x280) s = .next t ∧ t.tun = { s.tun with edit := [] } ∧
      (∀ f ∈ [R.TMAP_COMMIT_CNT, R.TMAP_MISS_CNT, R.TMAP_DUP_CNT, R.TMAP_STALE_CNT, R.TMAP_FENCE_TMO_CNT, R.TMAP_ECC_CNT_CORR,
        R.TMAP_ECC_CNT_UNCORR, R.TMAP_CAPWARN_CNT, R.TMAP_OVERSIZE_CNT], t.rd f = 0) ∧
      t.planes = s.planes ∧ t.links = s.links ∧ t.sch = s.sch ∧ t.dram = s.dram

/-- R45: the edit set belongs to the path that staged its first entry; STAGE, COMMIT and DISCARD from another path are refused with OTHER_PATH, and without an edit set DISCARD changes nothing and COMMIT is refused with NOTHING_STAGED. -/
def Obligations.EditSetBelongsToItsPath : Prop :=
  ∀ (s : State) (path : Nat), s.letsWrite path tmapCmdAddr → s.rd R.TMAP_STAT_BUSY = 0 →
    (s.tun.edit = [] →
      (∃ t, exec (.tmapStage path) s = .next t ∧ t.tun.editPath = path ∧
        t.tun.edit = [(s.rd R.TMAP_INDEX_INDEX, s.tmapDataEntry)] ∧ t.rd R.TMAP_STAT_LAST_RESULT = 0) ∧
      exec (.tmapDiscard path) s = .next ((s.begin.tlpIn path).wr R.TMAP_STAT_LAST_RESULT 0) ∧
      (∃ t, exec (.tmapCommit path) s = .next t ∧ t.rd R.TMAP_STAT_LAST_RESULT = 0xB ∧ t.tun = s.tun ∧ t.rd R.TMAP_STAT_BUSY = 0)) ∧
    (s.tun.edit ≠ [] → s.tun.editPath ≠ path →
      exec (.tmapStage path) s = .next ((s.begin.tlpIn path).wr R.TMAP_STAT_LAST_RESULT 8) ∧
      exec (.tmapDiscard path) s = .next ((s.begin.tlpIn path).wr R.TMAP_STAT_LAST_RESULT 8) ∧
      (∃ t, exec (.tmapCommit path) s = .next t ∧ t.rd R.TMAP_STAT_LAST_RESULT = 8 ∧ t.tun = s.tun ∧ t.rd R.TMAP_STAT_BUSY = 0))

/-- R56: while a tunnel map command is in progress every other is ignored, with result BUSY and no other effect. -/
def Obligations.BusyTunnelMapIgnoresCommands : Prop :=
  ∀ (s : State) (path : Nat) (c : Instr), s.letsWrite path tmapCmdAddr → s.rd R.TMAP_STAT_BUSY = 1 →
    c ∈ [.tmapReadA path, .tmapReadB path, .tmapStage path, .tmapCommit path, .tmapDiscard path, .tmapReadStaged path] →
    exec c s = .next ((s.begin.tlpIn path).wr R.TMAP_STAT_LAST_RESULT 0xC)

/-- R13 and R42: a unit of tunnel 0, or of a tunnel whose map entry is not VALID or is uncorrectable in both copies, enters no plane and takes no number: it is counted, named and flagged as a lookup miss. -/
def Obligations.LookupMissDiscardsTheUnit : Prop :=
  ∀ (s : State) (sp : Nat) (u : UnitMsg), sp < 24 → s.domainRuns 1 = true → u.payload.length ≤ 16384 →
    kindReserved u.kind = false → u.tid < 32768 →
    (u.tid = 0 ∨ s.goodCopy u.tid = none ∨ ∃ e, s.goodCopy u.tid = some e ∧ e.valid = false) →
    ∃ t, exec (.unitIngress sp u []) s = .next t ∧
      t = { s with regs := t.regs, out := t.out, brg := t.brg, tun := t.tun, free := t.free } ∧ t.tun.useq = s.tun.useq ∧
      t.rd R.TMAP_MISS_CNT = (if s.rd R.PAGE_CTL_EN 0x280 = 1 then min (s.rd R.TMAP_MISS_CNT + 1) (2 ^ R.TMAP_MISS_CNT.width - 1) else s.rd R.TMAP_MISS_CNT) ∧
      t.rd R.TMAP_MISS_ID = u.tid ∧ t.irqBit 0x280 2 = true

/-- R83: a LIMIT that lies at most 8,388,607 ahead of the current one is taken; any other is stale and counted, and neither changes anything but the link's limits and the counter. -/
def Obligations.CreditLimitsMoveForwardOnly : Prop :=
  ∀ (s : State) (n v limit : Nat), n < 16 → v < s.agreedVcs n → v < 8 → limit < 2 ^ 24 →
    s.domainRuns (6 + n / 4) = true → s.linkRuns n = true →
    (dist24 ((s.link n).limit.get 0 v) limit ≤ 8388607 →
      ∃ t, exec (.creditReceived n v limit) s = .next t ∧ t.regs = s.regs ∧ (t.link n).limit.get 0 v = limit ∧
        (∀ w, w ≠ v → (t.link n).limit.get 0 w = (s.link n).limit.get 0 w) ∧
        (∀ m, m ≠ n → t.link m = s.link m) ∧ t = { s with out := [], links := t.links }) ∧
    (8388607 < dist24 ((s.link n).limit.get 0 v) limit →
      exec (.creditReceived n v limit) s = .next (s.begin.bump R.TRK_STALE_CRED n))

/-- R68: a cell whose sequence lies neither within 255 after the expected one nor within 256 before it is discarded with a sequence error; one behind, or one already held out of order, is a duplicate; and neither moves the expected sequence. -/
def Obligations.CellSequenceRules : Prop :=
  ∀ (s : State) (n lane : Nat) (raw : List Byte) (c : Cell), n < 16 → lane < 3 →
    s.domainRuns (6 + n / 4) = true → s.linkRuns n = true → decodeCell raw = some c →
    ((256 ≤ dist16 (s.link n).ne c.lseq ∧ dist16 (s.link n).ne c.lseq < 65280) →
      exec (.cellReceived n lane raw false) s = .next ((s.begin.bump R.TRK_SEQ_ERR n).irq (trunkPage n) 7)) ∧
    ((65280 ≤ dist16 (s.link n).ne c.lseq ∨
      (dist16 (s.link n).ne c.lseq ≠ 0 ∧ dist16 (s.link n).ne c.lseq < 256 ∧
        ((s.link n).landing.get none c.lseq).isSome = true)) →
      ∃ t, exec (.cellReceived n lane raw false) s = .next t ∧ t = s.begin.duplicate n ∧
        (t.link n).ne = (s.link n).ne ∧ (t.link n).landing = (s.link n).landing ∧ t.planes = s.planes ∧ t.dram = s.dram) ∧
    ((dist16 (s.link n).ne c.lseq ≠ 0 ∧ dist16 (s.link n).ne c.lseq < 256 ∧ (s.link n).landing.get none c.lseq = none) →
      ∃ t, exec (.cellReceived n lane raw false) s = .next t ∧ (t.link n).ne = (s.link n).ne ∧
        ((t.link n).landing.get none c.lseq).map Prod.fst = some c ∧ t.planes = s.planes ∧ t.dram = s.dram)

/-- R168: a change of a queue pair's port or class while either queue holds a unit is refused with NOT_EMPTY and changes no pair. -/
def Obligations.QueueMovesNeedEmptyQueues : Prop :=
  ∀ (s : State) (path : Nat), s.letsWrite path 0x201048 →
    ((s.pair (s.rd R.SCH_Q_INDEX_INDEX)).port ≠ (if s.rd R.SCH_Q_CFG_PORT < 24 then s.rd R.SCH_Q_CFG_PORT else 31) ∨
      (s.pair (s.rd R.SCH_Q_INDEX_INDEX)).cls ≠ s.rd R.SCH_Q_CFG_CLASS) →
    (s.queue 0 (s.rd R.SCH_Q_INDEX_INDEX) ≠ [] ∨ s.queue 1 (s.rd R.SCH_Q_INDEX_INDEX) ≠ []) →
    ∃ t, exec (.schQWrite path) s = .next t ∧ t.rd R.SCH_Q_STAT_LAST_RESULT = 1 ∧ t.sch = s.sch ∧
      (∀ d k, k ≠ R.SCH_Q_STAT_LAST_RESULT.key 0 0 → k ≠ R.SCH_Q_INDEX_INDEX.key 0 0 →
        t.regs.get d k = (s.begin.tlpIn path).regs.get d k) ∧
      t = { s.begin.tlpIn path with regs := t.regs }

/-- R202: the read of TIM_NOW_NS answers the nanoseconds and latches the seconds of the same instant for its path; TIM_NOW_SEC_LO and _HI then answer the latched value, and latch nothing, whatever the time is by then. -/
def Obligations.TimeReadsLatchTheSeconds : Prop :=
  ∀ (s : State) (path : Nat), s.letsRead path 0x040040 →
    (∃ t, exec (.timNowRead path) s = .next t ∧
      t = ((s.begin.tlpIn path).setLatch path 0x040044 s.tim.sec).answer path s.tim.ns ∧ t.latched path 0x040044 = s.tim.sec ∧
      t.tim = s.tim) ∧
    (∀ v : State, v.letsRead path 0x040044 → v.letsRead path 0x040048 →
      exec (.latchingRead path 0x040044 0xF) v = .next ((v.begin.tlpIn path).answer path (v.latched path 0x040044 % 2 ^ 32)) ∧
      exec (.latchingRead path 0x040048 0xF) v = .next ((v.begin.tlpIn path).answer path (v.latched path 0x040044 / 2 ^ 32)))

/-- R206: while a map entry with VALID 1 and CLASS 0 exists, a SET, and a STEP larger than TIM_PIN_STEP, is refused with PINNED and STEP_REFUSED; panel time and what waits for it stay as they are. Holdover's own refusal (ENGAGED) comes first (log 5). -/
def Obligations.PinnedTunnelsRefuseTimeSteps : Prop :=
  ∀ (s : State) (path : Nat), s.letsWrite path timCmdAddr → s.rd R.TIM_RESULT_BUSY = 0 → s.tim.engaged = false → s.pinnedMap = true →
    (∃ t, exec (.timeSet path) s = .next t ∧ t.rd R.TIM_RESULT_LAST_RESULT = 1 ∧ t.irqBit 0x040 5 = true ∧ t.tim = s.tim ∧
      s.sharedOnly t) ∧
    ((s.rd R.TIM_PIN_STEP : Int) < |signedOf 64 (s.rd R.TIM_STEP)| →
      ∃ t, exec (.timeStep path) s = .next t ∧ t.rd R.TIM_RESULT_LAST_RESULT = 1 ∧ t.irqBit 0x040 5 = true ∧ t.tim = s.tim ∧
        s.sharedOnly t)

/-- R323: a read of MRT_CAUSE answers and removes the oldest of the queued causes, and VALID 0 when there is none. -/
def Obligations.CauseQueueIsFirstInFirstOut : Prop :=
  ∀ (s : State) (path : Nat), s.letsRead path mrtCauseAddr →
    (s.brg.cause = [] → exec (.mrtCauseRead path) s = .next ((s.begin.tlpIn path).answer path 0)) ∧
    (∀ v l rest, s.brg.cause = (v, l) :: rest →
      ∃ t u, exec (.mrtCauseRead path) s = .next t ∧ u = s.begin.tlpIn path ∧
        t = ({ u with brg := { u.brg with cause := rest } } : State).answer path (l + v * 2 ^ 24 + 2 ^ 31) ∧
        t.brg.cause = rest)

/-- R355: an endpoint whose TID is 0, and an IN endpoint whose TID another enabled IN endpoint has, is not enabled: it stays DISABLED with RESULT BAD_TID or DUP_TID. -/
def Obligations.EndpointsNeedTheirOwnTunnel : Prop :=
  ∀ (s : State) (path data : Nat), s.letsWrite path 0x351044 → s.epState (s.rd R.USB_EP_INDEX) = epDisabled →
    s.rd R.USB_EP_CFG_EN 0 (s.rd R.USB_EP_INDEX) = 0 →
    (s.epTid (s.rd R.USB_EP_INDEX) = 0 →
      ∃ t, exec (.usbEpEnable path data) s = .next t ∧ t.rd R.USB_EP_STAT_RESULT 0 (s.rd R.USB_EP_INDEX) = 1 ∧
        t.epState (s.rd R.USB_EP_INDEX) = epDisabled ∧ t.rd R.USB_EP_CFG_EN 0 (s.rd R.USB_EP_INDEX) = 0 ∧ t.usb = s.usb) ∧
    (s.epTid (s.rd R.USB_EP_INDEX) ≠ 0 → epIn (s.rd R.USB_EP_INDEX) = true →
      (∃ f ∈ bulkEps, epIn f = true ∧ f ≠ s.rd R.USB_EP_INDEX ∧ s.epState f ≠ epDisabled ∧ s.epTid f = s.epTid (s.rd R.USB_EP_INDEX)) →
      ∃ t, exec (.usbEpEnable path data) s = .next t ∧ t.rd R.USB_EP_STAT_RESULT 0 (s.rd R.USB_EP_INDEX) = 2 ∧
        t.epState (s.rd R.USB_EP_INDEX) = epDisabled ∧ t.rd R.USB_EP_CFG_EN 0 (s.rd R.USB_EP_INDEX) = 0 ∧ t.usb = s.usb)

/-- R423: a tamper response in P0 to P2 is that of the first cycle in which an enabled source is active, and one that goes on repeats nothing; it changes nothing outside the key store: no traffic, map, plane, time, mask, memory or power state; beside the key store's pages only the interrupt, event and journal machinery moves. -/
def Obligations.TamperTouchesTheKeyStoreOnly : Prop :=
  ∀ (s : State) (sources : Nat), sources < 128 → s.pwrState < 3 → s.entering = none → s.rst.off = false →
    ∃ t, exec (.tamperDetected sources) s = .next t ∧ t = { s with
        regs := t.regs, out := t.out, brg := t.brg, jnl := t.jnl, csr := t.csr, free := t.free, key := t.key } ∧
      (∀ d k, keyPage k ∉ [0x014, 0x020, 0x022, 0x023, 0x024, 0x058] → t.regs.get d k = s.regs.get d k) ∧
      (s.key.tampered = false → t.tamperActive = true → t.key.root = none ∧ t.key.slots = [] ∧ t.key.attKey = none) ∧
      (s.key.tampered = true → t.key = { s.key with tampered := t.key.tampered })

/-- R444 and R463: while the power die is not held off by its supply, the instantaneous comparator latches a driven channel, with cause SHORT_START in RAMP and ENHANCE and INSTANT in ON; it gives that cause to a breaker trip of the tick of 1 µs that is now, and to a stop by command; it latches a channel that an opening seat stopped in the tick; it does nothing to a channel that is not driven and was not as this tick began. -/
def Obligations.InstantTripsLatchDrivenChannels : Prop :=
  ∀ (s : State) (c : Nat), c < 18 → s.fus.alive = true →
    (s.fus.held = true → exec (.instantTrip c) s = .next s.begin) ∧
    (s.fus.held = false →
      (s.chDriven c = true →
        ∃ t, exec (.instantTrip c) s = .next t ∧ t.chSt c = chTripped ∧ t.rd R.FUS_STAT_PG c = 0 ∧
          t.rd R.FUS_STAT_CAUSE c = (if s.chSt c = chOn then 3 else 4) ∧
          (∀ d, d < 18 → d ≠ c → t.chSt d = s.chSt d) ∧ t.dram = s.dram ∧ t.links = s.links ∧ t.planes = s.planes ∧ t.tun = s.tun) ∧
      (driven (s.tickStart c).st = true →
        ((s.chSt c = chTripped ∧ s.rd R.FUS_STAT_CAUSE c = fusBreaker) ∨ (s.chSt c = chOff ∧ s.rd R.FUS_STAT_CAUSE c = fusCommand) →
          exec (.instantTrip c) s = .next (s.begin.wr R.FUS_STAT_CAUSE (if (s.tickStart c).st = chOn then 3 else 4) c)) ∧
        (s.chSt c = chWait → s.rd R.FUS_STAT_CAUSE c = fusSeatOpen →
          ∃ t, exec (.instantTrip c) s = .next t ∧ t.chSt c = chTripped ∧
            t.rd R.FUS_STAT_CAUSE c = (if (s.tickStart c).st = chOn then 3 else 4))) ∧
      (s.chDriven c = false → driven (s.tickStart c).st = false → exec (.instantTrip c) s = .next s.begin))

/-- R507: the setpoint shown in PWR_VID is the factory value plus the user trim, and outside 680 to 850 mV the nearer of the two. -/
def Obligations.CoreSetpointsAreLimited : Prop :=
  ∀ (s : State) (path k : Nat), k < 3 → s.letsRead path (0x31080 + 4 * k) →
    exec (.latchingRead path (0x31080 + 4 * k) 0xF) s = .next ((s.begin.tlpIn path).answer path
      (max 680 (min 850 ((s.rd R.PWR_VIDF 0 k : Int) + signedOf 8 (s.rd R.PWR_VIDU 0 k)))).toNat)

/-- R494, R526 and R530: WARM is taken from a path with owner authority only; the warm reset that follows returns the hub to P0, counts itself and stamps itself while the core domain has power, and leaves the stored root key and the queue as they are. -/
def Obligations.WarmResetReturnsToP0 : Prop :=
  ∀ s : State,
    (∀ path, s.letsWrite path 0x001040 → s.ownerPath path = false →
      ∃ t, exec (.chipRstWarm path) s = .next t ∧ t.rst.armed = s.rst.armed) ∧
    (∀ path, s.letsWrite path 0x001040 → s.ownerPath path = true →
      ∃ t, exec (.chipRstWarm path) s = .next t ∧ t.rst.armed = true) ∧
    (s.rst.armed = true → s.rst.off = false →
      ∃ t, exec .warmReset s = .next t ∧ t.pwrState = 0 ∧ t.pwr.trans = none ∧ t.rst.armed = false ∧
        t.rd R.CHIP_RST_CAUSE_COMMAND = 1 ∧ t.key.root = s.key.root ∧ t.pending = s.pending ∧
        (s.pwr.doms.testBit 1 = true →
          t.rd R.CHIP_RST_CNT = min (s.rd R.CHIP_RST_CNT + 1) 0xFFFFFFFF ∧ t.rd R.CHIP_RST_TSW = s.tswNow % 2 ^ 64))

/-- The laws of DRAM (chapter 07): a write keeps the canonical form, is read back byte for byte, and leaves every other byte as it was. -/
def Obligations.DramHoldsWhatIsWritten : Prop :=
  ∀ (s : State) (a : Nat) (bs : List Byte),
    (s.dramWrite a bs).dramRead a bs.length = bs ∧
    (∀ b, b < a ∨ a + bs.length ≤ b → (s.dramWrite a bs).dramRead b 1 = s.dramRead b 1) ∧
    (Memory.wf s.dram = true → Memory.wf (s.dramWrite a bs).dram = true)

/-- What reset leaves (R201 and chapter 17): an empty queue, no DRAM byte listed, every table canonical; panel time 0 in state FREE, the links DOWN, and the authority masks of Table 18.10. Table values of the spec; what the model chose is named in log 6. -/
def Obligations.ResetState : Prop :=
  State.reset.pending = [] ∧ State.reset.canonical ∧ State.reset.dram = [] ∧ State.reset.safe = true ∧
    State.reset.tim.sec = 0 ∧ State.reset.tim.ns = 0 ∧ State.reset.rd R.TIM_STAT_STATE = timeFree ∧
    (∀ n, n < 16 → State.reset.linkState n = linkDown) ∧
    (∀ p, p < 1024 → pageListed p = true → State.reset.rd R.PAGE_AUTH_RD p = authReset p % 256 ∧
      State.reset.rd R.PAGE_AUTH_WR p = authReset p / 256 % 256) ∧
    State.reset.rd R.PWR_STAT_STATE = 0

/-- Every step keeps the canonical form of the register store and of DRAM, in every state, reachable or not. -/
def Obligations.EveryStepKeepsCanonicalForm : Prop :=
  ∀ s t : State, s.canonical → step s = .next t → t.canonical

/-- Every step leaves the commands behind the front one in their order, so a run takes the commands first in, first out; and a queue of commands that can all reach the hub never stops (log 1). -/
def Obligations.EveryStepServesTheQueueInOrder : Prop :=
  ∀ s : State, (∀ t, step s = .next t → t.pending = s.pending.tail) ∧ (s.safe = true → ∃ t, step s = .next t ∧ t.safe = true)

/-- The frame of every command: the queue, hardware time and every part of the state that `Instr.parts` does not name for it are as they were, the bridge, the journal, the power controller and the waiting accesses among them. No command of a chapter reaches into another chapter's state but through the units, frames, events and resets that the spec gives it. -/
def Obligations.EveryCommandTouchesItsOwnParts : Prop :=
  ∀ (i : Instr) (s t : State), exec i s = .next t → s.touchesOnly t i.parts

/-- The register frame of every command for which `Instr.pages` names pages: every register outside them is as it was, but for PAGE_IRQ_STAT and the capture registers of any page and the event counters of page 0x014. A command that chooses a register, or an instance of one, by what the state holds is not named there: in a state that no run reaches its choice may be no register of the hub. -/
def Obligations.EveryCommandWritesItsOwnPages : Prop :=
  ∀ (i : Instr) (s t : State) (ps : List Nat), exec i s = .next t → i.pages = some ps → s.writesOnly t ps

/-- The frame of DRAM for every command that stores there of itself: RECT_RAW and RECT_TILE change the rows of their rectangle in the buffer they name, a frame start the two buffers of a mode that takes effect with it, COPY_DONE the back buffer, a unit of a block tunnel and a READ's completion their command's slot, a cache load the place of its image, and what a FENCE or a copy had held back the bytes of each unit held; every other byte reads as before. MODE_SET, CURSOR, FLIP and a display FENCE store nothing. The places of the image cache are the model's choice (log 156). -/
def Obligations.StoresChangeTheirOwnBytesOnly : Prop :=
  ∀ (s t : State) (a : Nat),
    (∀ u, exec (.rectRaw u) s = .next t ∨ exec (.rectTile u) s = .next t →
      (∀ i m, s.boundSource u.tid = some i → (s.src i).mode = some m → s.rectOutside i m u.payload a) →
      t.dramRead a 1 = s.dramRead a 1) ∧
    (∀ u, exec (.modeSet u) s = .next t ∨ exec (.cursor u) s = .next t ∨ exec (.flip u) s = .next t ∨
        exec (.displayFence u) s = .next t → t.dram = s.dram) ∧
    (∀ i, exec (.frameStart i) s = .next t →
      (∀ m token buf y, (s.src i).newMode = some (m, token) → buf < 2 → y < m.vAct →
        State.outside a (s.pixelAddr i buf m 0 y) (4 * m.hAct)) →
      t.dramRead a 1 = s.dramRead a 1) ∧
    (∀ i, exec (.copyDone i) s = .next t ∨ exec (.modeChangeDone i) s = .next t →
      (∀ m, (s.src i).mode = some m →
        (∀ y, y < m.vAct → State.outside a (s.pixelAddr i (1 - s.rd R.DSP_SRC_STAT_FRONT i) m 0 y) (4 * m.hAct)) ∧
        ∀ u ∈ (s.src i).held, s.rectOutside i m u.payload a) →
      t.dramRead a 1 = s.dramRead a 1) ∧
    (s.heldOutside a →
      (∀ u port dram, exec (.stoCommandUnit u port dram) s = .next t ∨ exec (.stoDataUnit u port dram) s = .next t →
        (∀ b k, s.boundTunnel u port = some b → ((s.stoTun b).fence = true ∨ (s.stoTun b).next = .data k) →
          State.outside a (s.slotAddr b k) u.payload.length) →
        t.dramRead a 1 = s.dramRead a 1) ∧
      (∀ b slot sc dnr dram data, exec (.nvmeCompletion b slot sc dnr dram data) s = .next t →
        State.outside a (s.slotAddr b slot) data.length → t.dramRead a 1 = s.dramRead a 1) ∧
      (∀ u port b slot, exec (.stoFence u port) s = .next t ∨ exec (.stoDataTimeout b) s = .next t ∨
          exec (.stoCmdTimeout b slot) s = .next t ∨ exec (.stoAbortTimeout b slot) s = .next t →
        t.dramRead a 1 = s.dramRead a 1)) ∧
    (exec .engCacheLoadDone s = .next t →
      (∀ kind slot i, s.eng.loading = some (kind, slot) → s.verifyImage kind slot = .ok i →
        State.outside a (s.cacheAddr { i with place := s.freePlace }) (i.hdr.length + i.body.length)) →
      t.dramRead a 1 = s.dramRead a 1)

/-- The register fabric's commands, the I2C path's and the waiting accesses complete with the access they carry (18_register_pages.md, 00_scope.md, 16_power_states_and_clocks.md). -/
def Obligations.RegisterPathsComplete : Prop :=
  ∀ s : State,
    (∀ (path addr data be : Nat), s.letsWrite path addr → pageListed (addr / 4096) = true → addr < 2 ^ 22 →
      addr % 4 = 0 → data < 2 ^ 32 → be = 0xF →
      exec (.registerWrite path addr data be) s = .next ((s.begin.tlpIn path).writeAct path addr data)) ∧
    (∀ (path addr be : Nat), s.letsRead path addr → pageListed (addr / 4096) = true → addr < 2 ^ 22 → addr % 4 = 0 →
      be = 0xF →
      exec (.latchingRead path addr be) s = .next ((s.begin.tlpIn path).readAct path addr)) ∧
    (∀ (path addr data : Nat) (x : Place), s.letsWrite path addr → pageListed (addr / 4096) = true → addr < 2 ^ 22 →
      addr % 4 = 0 → data < 2 ^ 32 → addr % 4096 ≠ 0x018 → placeAt addr = none → pairAt addr = some x →
      exec (.hiWriteApply path addr data) s = .next ((s.begin.tlpIn path).applyPair path x (addr - 4) data)) ∧
    (∀ (path page data : Nat), s.letsWrite path (page * 4096 + 0x008) → pageListed page = true → data < 2 ^ 32 →
      exec (.softResetRequest path page data) s = .next ((s.begin.tlpIn path).writeAct path (page * 4096 + 0x008)
        (data ||| 2))) ∧
    (∀ (page : Nat), pageListed page = true → s.csr.softReset.contains page = true → s.pageBusy page = false →
      (if pageDomain page = 31 then s.fus.alive else s.domainRuns (pageDomain page)) = true →
      exec (.softResetAct page) s = .next (s.begin.softReset page)) ∧
    (∀ (path page data : Nat), s.letsWrite path (page * 4096 + 0x008) → pageListed page = true → data < 2 ^ 32 →
      exec (.pageLock path page data) s = .next ((s.begin.tlpIn path).writeAct path (page * 4096 + 0x008) (data |||
        4))) ∧
    (∀ (path page data : Nat), s.letsWrite path (page * 4096 + 0x018) → pageListed page = true → data < 2 ^ 32 →
      exec (.pageIrqForce path page data) s = .next ((s.begin.tlpIn path).forceIrq page data)) ∧
    (∀ (path : Nat), path < 8 →
      exec (.accessResume path) s = .next (s.begin.resume path)) ∧
    (∀ (dev addr : Nat) (data : List Byte), dev < 128 → addr < 2 ^ 22 → s.domainRuns 0 = true →
      s.i2cReady dev = true → data.length = 4 →
      exec (.i2cWrite dev addr data) s = .next (s.begin.csrWrite pathI2c addr (beAt data 0 4))) ∧
    (∀ (dev addr : Nat), dev < 128 → addr < 2 ^ 22 → s.domainRuns 0 = true → s.i2cReady dev = true →
      exec (.i2cRead dev addr) s = .next (s.begin.csrRead pathI2c addr)) ∧
    (∀ (addr : Nat), addr < 128 → s.domainRuns 0 = true → addr = s.rd R.PWR_I2C_CFG_ADDR → s.csrStopped = true →
      exec (.i2cAddressMatch addr) s = .next ((s.begin.updPwr (fun p => { p with scl := true })).wakeEvent 1 0)) ∧
    (∀ (addr : Nat), addr < 128 → s.domainRuns 0 = true → addr = s.rd R.PWR_I2C_CFG_ADDR → s.csrStopped = false →
      exec (.i2cAddressMatch addr) s = .next (s.begin.wakeEvent 1 0))

/-- Unit ingress, fences, the scrub and the tunnel map's commands complete (01_tunnels.md). -/
def Obligations.TunnelMapCompletes : Prop :=
  ∀ s : State,
    (∀ (sp : Nat) (u : UnitMsg) (upsets : List MapUpset), sp < 16 → s.domainRuns 1 = true →
      exec (.unitIngress sp u upsets) s = .next ((upsets.foldl State.upset s.begin).trunkUnit sp u)) ∧
    (∀ (sp : Nat) (u : UnitMsg) (upsets : List MapUpset), 16 ≤ sp → sp < 24 → s.domainRuns 1 = true →
      exec (.unitIngress sp u upsets) s = .next ((upsets.foldl State.upset s.begin).tookFree.originUnitAt sp u.tid
        u.kind u.payload ((upsets.foldl State.upset s.begin).originTsw sp))) ∧
    (∀ (p q : Nat), p < 2 → q < 4096 → s.domainRuns (4 + p) = true →
      exec (.fenceArrival p q) s = .next (s.begin.fenceArrives p q)) ∧
    (∀ (q tid : Nat), q < 4096 → tid < 32768 → s.domainRuns 1 = true →
      exec (.fenceTimeout q tid) s = .next (s.begin.fenceExpires q tid)) ∧
    (∀ (upsets : List MapUpset), s.domainRuns 1 = true →
      exec (.scrubPass upsets) s = .next ((upsets.foldl State.upset s.begin).scrubList.foldl State.scrubOne
        (upsets.foldl State.upset s.begin))) ∧
    (∀ (path : Nat), s.letsWrite path tmapCmdAddr → s.rd R.TMAP_STAT_BUSY = 0 →
      (exec (.tmapReadA path) s = .next ((s.begin.tlpIn path).tmapRead 0) ∧
      exec (.tmapReadB path) s = .next ((s.begin.tlpIn path).tmapRead 1) ∧
      exec (.tmapStage path) s = .next ((s.begin.tlpIn path).tmapStage path) ∧
      exec (.tmapCommit path) s = .next ((s.begin.tlpIn path).tmapCommit path))) ∧
    (s.domainRuns 1 = true →
      (exec .tmapCommitApply s = .next s.begin.tmapApply.afterCommit ∧
      exec .tmapCommitPairTimeout s = .next s.begin.tmapPairTimeout.afterCommit)) ∧
    (∀ (path : Nat), s.letsWrite path tmapCmdAddr → s.rd R.TMAP_STAT_BUSY = 0 →
      (exec (.tmapDiscard path) s = .next ((s.begin.tlpIn path).tmapDiscard path) ∧
      exec (.tmapReadStaged path) s = .next ((s.begin.tlpIn path).tmapReadStaged)))

/-- The link layer commands on cells, acknowledgements, replay, credits, capabilities, enables, drains and retrains complete (02_glenlink_link_layer.md). -/
def Obligations.LinksComplete : Prop :=
  ∀ s : State,
    (∀ (n lane : Nat) (raw : List Byte) (fault : Bool) (c : Cell), n < 16 → lane < 3 →
      s.domainRuns (6 + n / 4) = true → s.linkRuns n = true → fault = false → decodeCell raw = some c →
      exec (.cellReceived n lane raw fault) s = .next (s.begin.cellIn n c (s.begin.rxTsw n lane))) ∧
    (∀ (n lane : Nat) (raw : List Byte) (fault : Bool), n < 16 → lane < 3 → s.domainRuns (6 + n / 4) = true →
      s.linkRuns n = true → (fault = true ∨ decodeCell raw = none) →
      exec (.cellReceived n lane raw fault) s = .next (s.begin.cellDamaged n)) ∧
    (∀ (n : Nat), n < 16 → s.domainRuns (6 + n / 4) = true → s.linkRuns n = true → (s.link n).ackArmed = true →
      exec (.ackTimerExpiry n) s = .next (s.begin.ackTrigger n)) ∧
    (∀ (n : Nat), n < 16 → s.domainRuns (6 + n / 4) = true → s.linkRuns n = true → (s.link n).acks ≠ [] →
      s.cellReady n = true →
      exec (.ackSend n) s = .next (s.begin.gap n)) ∧
    (∀ (n : Nat), n < 16 → s.domainRuns (6 + n / 4) = true → s.linkRuns n = true → (s.link n).acks ≠ [] →
      s.cellReady n = false →
      exec (.ackSend n) s = .next (s.begin.sendReady n)) ∧
    (∀ (n cumv base map : Nat) (rtt : Option Nat) (t : Nat), n < 16 → cumv < 65536 → base < 256 → map < 2 ^ 24 →
      s.domainRuns (6 + n / 4) = true → s.linkRuns n = true → rtt = some t →
      exec (.ackReceived n cumv base map rtt) s = .next ((s.begin.wr R.TRK_RTT (min t 0xFFFF) n).ackIn n cumv base
        map)) ∧
    (∀ (n cumv base map : Nat) (rtt : Option Nat), n < 16 → cumv < 65536 → base < 256 → map < 2 ^ 24 →
      s.domainRuns (6 + n / 4) = true → s.linkRuns n = true → rtt = none →
      exec (.ackReceived n cumv base map rtt) s = .next (s.begin.ackIn n cumv base map)) ∧
    (∀ (n ecc : Nat), n < 16 → ecc < 3 → s.domainRuns 1 = true →
      exec (.cellTransmit n ecc) s = .next (s.begin.trunkSlot n ecc)) ∧
    (∀ (n : Nat), n < 16 → s.domainRuns (6 + n / 4) = true → s.linkRuns n = true →
      (s.link n).replay.isEmpty = false → (s.link n).cumAt ≠ some s.hw →
      (∃ t, exec (.replayTimerExpiry n) s = .next t ∧ (t.link n).expiries = (s.link n).expiries + 1 ∧ (t.link
        n).resend = s.oldest n :: (s.link n).resend.filter (· ≠ s.oldest n))) ∧
    (∀ (n v limit : Nat), n < 16 → v < 8 → limit < 2 ^ 24 → s.domainRuns (6 + n / 4) = true → s.linkRuns n = true →
      exec (.creditReceived n v limit) s = .next (s.begin.creditIn n v limit)) ∧
    (∀ (n : Nat), n < 16 → s.domainRuns (6 + n / 4) = true → s.linkRuns n = true →
      exec (.creditRefresh n) s = .next ((List.range (s.agreedVcs n)).foldl (fun t v => (t.setLink n
        { t.link n with rxSent := (t.link n).rxSent.set 0 v ((t.link n).rxLimit.get 0 v) }).readyCtl n (.credit
        v ((t.link n).rxLimit.get 0 v))) s.begin)) ∧
    (∀ (n : Nat) (raw : List Byte), n < 16 → s.domainRuns (6 + n / 4) = true → decodeCtl raw = none →
      exec (.ctlErr n raw) s = .next ((s.begin.bump R.TRK_CTL_ERR n).irq (trunkPage n) 8)) ∧
    (∀ (n : Nat), n < 16 → s.domainRuns (6 + n / 4) = true → s.linkState n = linkCap →
      exec (.capBlockSend n) s = .next (((s.begin.setLink n
        { s.link n with capSentSeen := (s.link n).capSentSeen || (s.link n).capSeen }).emit (.ctl n (.cap
        { s.offered n with seen := (s.link n).capSeen }))).sentBlocks n 1)) ∧
    (∀ (n : Nat), n < 16 → s.domainRuns (6 + n / 4) = true → s.linkState n = linkUp → 0 < (s.link n).capLeft →
      exec (.capBlockSend n) s = .next (((s.begin.setLink n { s.link n with capLeft := (s.link n).capLeft - 1 }).emit
        (.ctl n (.cap { s.offered n with seen := true }))).sentBlocks n 1)) ∧
    (∀ (n : Nat) (t : CapTerms), n < 16 → s.domainRuns (6 + n / 4) = true →
      exec (.capReceived n t) s = .next (s.begin.capIn n t)) ∧
    (∀ (n : Nat), n < 16 → s.domainRuns (6 + n / 4) = true → s.linkState n = linkCap →
      exec (.capTimeout n) s = .next (s.begin.enterDown n causeCapTimeout)) ∧
    (∀ (n : Nat), n < 16 → s.domainRuns (6 + n / 4) = true → s.linkState n = linkDown → s.rd R.TRK_LCFG_EN n = 1 →
      exec (.linkDownDwell n) s = .next (s.begin.enterTrain n)) ∧
    (∀ (n : Nat), n < 16 → s.domainRuns (6 + n / 4) = true → s.linkState n = linkDown → s.rd R.TRK_LCFG_EN n ≠ 1 →
      exec (.linkDownDwell n) s = .next (s.begin.updLink n (fun l => { l with dwelt := true }))) ∧
    (∀ (path n data : Nat) (t : State), n < 16 → s.letsWrite path (trunkPage n * 4096 + 0x40) →
      t = (s.begin.tlpIn path).store path (trunkPage n * 4096 + 0x40) data [R.TRK_LCFG_EN, R.TRK_LCFG_ROLE, R.TRK_LCFG_ALLOW_V21, R.TRK_LCFG_MAX_VCS, R.TRK_LCFG_ACK_CELLS, R.TRK_LCFG_REPLAY_LIMIT] n →
      t.rd R.TRK_LCFG_EN n = 1 → t.linkState n = linkDown → (t.link n).dwelt = true →
      exec (.linkEnWrite path n data) s = .next (t.enterTrain n)) ∧
    (∀ (path n data : Nat) (t : State), n < 16 → s.letsWrite path (trunkPage n * 4096 + 0x40) →
      t = (s.begin.tlpIn path).store path (trunkPage n * 4096 + 0x40) data [R.TRK_LCFG_EN, R.TRK_LCFG_ROLE, R.TRK_LCFG_ALLOW_V21, R.TRK_LCFG_MAX_VCS, R.TRK_LCFG_ACK_CELLS, R.TRK_LCFG_REPLAY_LIMIT] n →
      t.rd R.TRK_LCFG_EN n = 0 → t.linkState n = linkUp →
      exec (.linkEnWrite path n data) s = .next ((t.linkToDrain n).drained n)) ∧
    (∀ (n : Nat), n < 16 → s.domainRuns (6 + n / 4) = true → s.linkState n = linkDrain →
      exec (.linkDrainTimeout n) s = .next (s.begin.linkToDown n causeDisabled)) ∧
    (∀ (path n : Nat), n < 16 → s.letsWrite path (trunkPage n * 4096 + 0x44) →
      exec (.linkRetrain path n) s = .next ((s.begin.tlpIn path).linkToDown n causeRetrain))

/-- The training, health and lane substitution commands of a trunk complete (03_trunk_lanes.md). -/
def Obligations.TrunkLanesComplete : Prop :=
  ∀ s : State,
    (∀ (n : Nat) (t : TrainInfo), n < 16 → s.domainRuns (6 + n / 4) = true → s.linkState n = linkTrain →
      exec (.trainStepDone n t) s = .next (s.begin.trainStep n t)) ∧
    (∀ (n : Nat), n < 16 → s.domainRuns (6 + n / 4) = true → s.linkState n = linkTrain → 2 ≤ (s.link n).step →
      exec (.trainStepTimeout n) s = .next (s.begin.trainFail n)) ∧
    (∀ (n : Nat), n < 16 → s.domainRuns (6 + n / 4) = true → s.linkState n = linkTrain →
      (s.link n).retryWait = true →
      exec (.trainRetry n) s = .next ((s.begin.updLink n (fun l => { l with retryWait := false })).trainSends n 2)) ∧
    (∀ (n : Nat) (ms : List LaneSample), n < 16 → s.domainRuns (6 + n / 4) = true → s.linkState n = linkUp →
      s.rd R.TRK_LANESTAT_LEARNING n = 1 →
      exec (.laneHealthSample n ms) s = .next (ms.foldl (fun t m => t.healthOne n m) (s.begin.updLink n (fun l =>
        { l with learnMs := l.learnMs + 1 })))) ∧
    (∀ (n : Nat) (ms : List LaneSample), n < 16 → s.domainRuns (6 + n / 4) = true → s.linkState n = linkUp →
      s.rd R.TRK_LANESTAT_LEARNING n ≠ 1 →
      exec (.laneHealthSample n ms) s = .next (ms.foldl (fun t m => t.healthOne n m) s.begin)) ∧
    (∀ (n : Nat), n < 16 → s.domainRuns (6 + n / 4) = true → s.linkState n = linkUp → s.rd R.TRK_LSTAT_V21 n = 1 →
      exec (.healthSend n) s = .next ([0, 1, 2].foldl (fun t lane => t.readyCtl n (.health (t.healthOf n lane)))
        s.begin)) ∧
    (∀ (n : Nat) (h : HealthTerms), n < 16 → h.lane < 3 → s.domainRuns (6 + n / 4) = true → s.linkState n = linkUp →
      s.rd R.TRK_LSTAT_V21 n = 1 →
      exec (.healthReceived n h) s = .next (((s.begin.wr R.TRK_PEER_HEALTH_EYE_H h.eyeH n h.lane).wr
        R.TRK_PEER_HEALTH_EYE_V h.eyeV n h.lane).wr R.TRK_PEER_HEALTH_ERR h.errs n h.lane)) ∧
    (∀ (n lane : Nat), n < 16 → lane < 3 → s.domainRuns (6 + n / 4) = true →
      exec (.laneHardFail n lane) s = .next (s.begin.hardFail n lane)) ∧
    (∀ (n : Nat), n < 16 → s.domainRuns (6 + n / 4) = true →
      exec (.substReqRepeat n) s = .next (s.begin.sendSubstReq n)) ∧
    (∀ (n lane rseq : Nat), n < 16 → lane < 3 → rseq < 256 → s.domainRuns (6 + n / 4) = true →
      exec (.substReqReceived n lane rseq) s = .next (s.begin.substReqIn n lane rseq)) ∧
    (∀ (n src dst pos rseq ns : Nat), n < 16 → src < 3 → dst < 3 → pos < 2 → s.domainRuns (6 + n / 4) = true →
      exec (.switchReceived n src dst pos rseq ns) s = .next (s.begin.switched n src dst pos rseq ns)) ∧
    (∀ (n : Nat), n < 16 → s.domainRuns (6 + n / 4) = true → (s.link n).subst.isSome = true →
      exec (.substTimeout n) s = .next (s.begin.laneLost n)) ∧
    (∀ (n : Nat), n < 16 → s.domainRuns (6 + n / 4) = true →
      exec (.spareLost n) s = .next (s.begin.spareLost n)) ∧
    (∀ (n : Nat), n < 16 → s.domainRuns (6 + n / 4) = true → s.linkState n = linkUp →
      s.rd R.TRK_LANESTAT_LEARNING n = 1 →
      exec (.learningDone n) s = .next (((([0, 1, 2].foldl (fun t lane => t.storeBase n lane) s.begin).updLink n (fun
        l => { l with learned := true })).wr R.TRK_LANESTAT_LEARNING 0 n).irq (lanePage n) 6)) ∧
    (∀ (path n lane : Nat), n < 16 → lane < 4 → s.letsWrite path (lanePage n * 4096 + 0x44) → s.lanesBound n = true →
      s.rd R.TRK_LANESTAT_LEARNING n = 0 → s.rxActive n lane = true → s.rxSpare n ≠ noLane →
      (s.link n).subst = none →
      exec (.laneSubstitute path n lane) s = .next ((s.begin.tlpIn path).startSubst n lane 1)) ∧
    (∀ (path n lane : Nat), n < 16 → lane < 4 → s.letsWrite path (lanePage n * 4096 + 0x44) →
      s.rxRetired n lane = true →
      exec (.laneRequalify path n lane) s = .next ((s.begin.tlpIn path).goodAgain n lane)) ∧
    (∀ (path n : Nat), n < 16 → s.letsWrite path (lanePage n * 4096 + 0x44) →
      exec (.laneRelearn path n) s = .next ((s.begin.tlpIn path).relearn n)) ∧
    (∀ (n lane : Nat), n < 16 → lane < 3 → s.domainRuns (6 + n / 4) = true → s.rxRetired n lane = true →
      s.rxSpare n = noLane → s.heldGood n lane = true →
      exec (.requalified n lane) s = .next (((s.begin.setRxMap n (s.rd R.TRK_LANESTAT_P0_LANE n) (s.rd
        R.TRK_LANESTAT_P1_LANE n) lane (s.rd R.TRK_LANESTAT_RETIRED_MASK n ^^^ 2 ^ lane)).updLink n (fun l =>
        { l with hardFailed := l.hardFailed &&& (7 ^^^ 2 ^ lane) })).irq (lanePage n) 7)) ∧
    (∀ (path n data : Nat) (t : State), n < 16 → s.letsWrite path (lanePage n * 4096 + 0xA0) →
      t = (s.begin.tlpIn path).store path (lanePage n * 4096 + 0xA0) data [R.TRK_ALTCFG_ETH_MAC, R.TRK_ALTCFG_DSP_OUT] n →
      t.rd R.TRK_LCFG_EN n = 0 → t.linkState n = linkDown →
      exec (.altModeWrite path n data) s = .next (((t.wr R.TRK_ALTCFG_MODE (data % 4) n).wr R.TRK_LANESTAT_ALTMODE (if
        data % 4 = 3 then 0 else data % 4) n).directMoved (s.begin.tlpIn path)))

/-- The plane crossing, failure and restart commands, the multicast groups, the Ringmaster and the Sheepdog complete (04_switch_planes.md). -/
def Obligations.SwitchPlanesComplete : Prop :=
  ∀ s : State,
    (∀ (sp : Nat), 16 ≤ sp → sp < 24 → s.domainRuns 1 = true → sp ≠ spStorage → sp ≠ spNetwork → sp ≠ spUsb →
      sp ≠ spBridge →
      exec (.unitEnterPlane sp) s = .next (s.begin.pumpIngress sp)) ∧
    (∀ (sp : Nat), s.domainRuns 1 = true → sp = spBridge →
      exec (.unitEnterPlane sp) s = .next ((s.begin.pumpIngress sp).bridgeSettled)) ∧
    (∀ (sp : Nat), s.domainRuns 1 = true → sp = spUsb →
      exec (.unitEnterPlane sp) s = .next ((s.begin.pumpIngress sp).usbSettled)) ∧
    (∀ (sp : Nat), s.domainRuns 1 = true → sp = spNetwork →
      exec (.unitEnterPlane sp) s = .next ((s.begin.pumpIngress sp).netSettled)) ∧
    (∀ (sp : Nat), s.domainRuns 1 = true → sp = spStorage →
      exec (.unitEnterPlane sp) s = .next ((s.begin.pumpIngress sp).settled)) ∧
    (∀ (p : Nat), p < 2 → s.domainRuns (4 + p) = true →
      exec (.cellSlotMatch p) s = .next (s.begin.cellSlot p)) ∧
    (∀ (p : Nat) (v : Voq), p < 2 → s.domainRuns (4 + p) = true → s.inService p = true → v ∈ s.eligible p →
      s.portDown v.out = false →
      exec (.schedStall p) s = .next (s.begin.declareFailed p failSched)) ∧
    (∀ (n ecc : Nat), n < 16 → ecc < 3 → s.domainRuns 1 = true → s.linkRuns n = true →
      exec (.egressCellBoundary n ecc) s = .next ((s.begin.trunkCell n ecc).1.drained n)) ∧
    (∀ (n ecc : Nat), 16 ≤ n → n < 24 → ecc < 3 → s.domainRuns 1 = true →
      exec (.egressCellBoundary n ecc) s = .next ((s.begin.sendNext n ecc).1)) ∧
    (∀ (p : Nat), p < 2 → s.domainRuns (4 + p) = true →
      exec (.planeFatalError p) s = .next (s.begin.declareFailed p failFatalEcc)) ∧
    (∀ (p : Nat), p < 2 → s.domainRuns 0 = true →
      exec (.planePowerLost p) s = .next (s.begin.declareFailed p failPower)) ∧
    (∀ (p missed : Nat), p < 2 → s.domainRuns 0 = true → s.inService p = true → s.rd R.SW_CFG_HB_MISS p ≤ missed →
      exec (.planeHeartbeatMiss p missed) s = .next (s.begin.declareFailed p failHeartbeat)) ∧
    (∀ (path p data : Nat) (t : State), p < 2 → s.letsWrite path (planePage p * 4096 + 0x40) →
      t = ((s.begin.tlpIn path).store path (planePage p * 4096 + 0x40) data [R.SW_CFG_AUTO_RESTART, R.SW_CFG_RESTART_MAX, R.SW_CFG_HB_MISS] p).wr R.SW_CFG_EN 0 p →
      t.inService p = true →
      exec (.planeDisable path p data) s = .next (t.declareFailed p failCommand)) ∧
    (∀ (path p data : Nat) (t : State), p < 2 → s.letsWrite path (planePage p * 4096 + 0x40) →
      t = ((s.begin.tlpIn path).store path (planePage p * 4096 + 0x40) data [R.SW_CFG_AUTO_RESTART, R.SW_CFG_RESTART_MAX, R.SW_CFG_HB_MISS] p).wr R.SW_CFG_EN 1 p →
      t.planeState p = planeOff →
      exec (.planeEnable path p data) s = .next (t.beginRestart p)) ∧
    (∀ (p : Nat), p < 2 → s.domainRuns (4 + p) = true → s.planeState p = planeFailed →
      s.rd R.SW_CFG_AUTO_RESTART p = 1 → s.rd R.SW_CFG_EN p = 1 →
      (s.recentRestarts p).length < s.rd R.SW_CFG_RESTART_MAX p →
      exec (.planeRestartBegin p) s = .next ((s.begin.updPlane p (fun x =>
        { x with restarts := s.recentRestarts p ++ [s.hw] })).beginRestart p)) ∧
    (∀ (path p : Nat), p < 2 → s.letsWrite path (planePage p * 4096 + 0x44) → s.planeState p = planeFailed →
      s.rd R.SW_CFG_EN p = 1 → s.inService (1 - p) = true →
      exec (.planeRestartCmd path p) s = .next (((s.begin.tlpIn path).wr R.SW_STAT_CMD_RESULT 0 p).beginRestart p)) ∧
    (∀ (p : Nat), p < 2 → s.domainRuns (4 + p) = true →
      exec (.planeEnterService p) s = .next (s.begin.enterService p)) ∧
    (∀ (p : Nat), p < 2 → s.domainRuns (4 + p) = true → s.inService p = true → s.rd R.SW_SDG_CFG_EN p = 1 →
      exec (.sheepdogSweepStart p) s = .next ((s.begin.updPlane p (fun x => { x with sweeping := true })).wr
        R.SW_SDG_STAT_CELL 0 p)) ∧
    (∀ (p : Nat) (upset : Option (Bool × Nat × Nat)), p < 2 → s.domainRuns (4 + p) = true →
      exec (.sheepdogVisit p upset) s = .next (s.begin.sdgVisit p upset)) ∧
    (∀ (p : Nat) (upset : Int), p < 2 → s.domainRuns (4 + p) = true →
      exec (.sheepdogSweepEnd p upset) s = .next (s.begin.sdgEnd p upset)) ∧
    (∀ (p : Nat), p < 2 → s.domainRuns (4 + p) = true →
      (exec (.parkScan p) s = .next (s.begin.parkScan p) ∧
      exec (.crossPlaneHeartbeat p) s = .next (s.begin.updPlane p (fun x => { x with mayClaim := true })))) ∧
    (∀ (path p : Nat), p < 2 → s.letsWrite path (mcgCmdAddr p) → s.rd R.SW_MCG_STAT_BUSY p = 0 →
      (exec (.mcgRead path p) s = .next ((s.begin.tlpIn path).mcgRead p) ∧
      exec (.mcgStage path p) s = .next ((s.begin.tlpIn path).mcgStage path p) ∧
      exec (.mcgCommit path p) s = .next ((s.begin.tlpIn path).mcgCommit path))) ∧
    (s.domainRuns 1 = true →
      (exec .mcgCommitApply s = .next s.begin.mcgApply.afterCommit ∧
      exec .mcgCommitPairTimeout s = .next s.begin.mcgPairTimeout.afterCommit)) ∧
    (∀ (path p : Nat), p < 2 → s.letsWrite path (mcgCmdAddr p) → s.rd R.SW_MCG_STAT_BUSY p = 0 →
      (exec (.mcgDiscard path p) s = .next ((s.begin.tlpIn path).mcgDiscard path) ∧
      exec (.mcgReadStaged path p) s = .next ((s.begin.tlpIn path).mcgReadStaged p))) ∧
    (∀ (r : Nat), r < 3 → s.domainRuns 0 = true →
      exec (.replicaMismatch r) s = .next (s.begin.replicaMismatch r)) ∧
    (∀ (a b : Bool), s.domainRuns 0 = true →
      (exec (.authorityClaim a b) s = .next (s.begin.vote a b) ∧
      exec (.pairHeartbeat a b) s = .next (s.begin.pairBeats a b))) ∧
    (∀ (p missed pc0 pc1 : Nat), p < 2 → pc0 < 2 ^ 32 → pc1 < 2 ^ 32 → s.domainRuns 0 = true → s.pairRuns p = true →
      s.frozen = false → s.rd R.RGM_CFG_PAIR_HB_MISS ≤ missed →
      exec (.pairHeartbeatMiss p missed pc0 pc1) s = .next (s.begin.pairHalt p haltHeartbeat pc0 pc1)) ∧
    (∀ (path : Nat), s.letsWrite path rgmCmdAddr → s.frozen = false → s.rd R.RGM_STAT_AUTH_VALID = 1 →
      s.planeState (1 - s.rd R.RGM_STAT_AUTH) = planeStandby → s.committing = false →
      exec (.rgmHandover path) s = .next ((s.begin.tlpIn path).handover.wr R.RGM_RESULT 0)) ∧
    (∀ (path x : Nat), s.letsWrite path rgmCmdAddr → s.frozen = false → s.swapTarget = some x →
      exec (.rgmSwapLive path) s = .next (((s.begin.tlpIn path).makeLive x).wr R.RGM_RESULT 0))

/-- The carousel, allotment, policer, release and histogram commands complete (05_scheduling_and_shaping.md). -/
def Obligations.SchedulingCompletes : Prop :=
  ∀ s : State,
    (∀ (n slot : Nat), n < 24 → slot < 4096 → s.domainRuns 1 = true →
      exec (.carouselSlotEnd n slot) s = .next ((s.begin.endSlot n slot 0).endSlot n slot 1)) ∧
    (∀ (n : Nat), n < 24 → s.domainRuns 1 = true →
      exec (.missDeadline n) s = .next (s.begin.missDeadline n)) ∧
    (s.domainRuns 1 = true →
      exec .refillBoundary s = .next s.begin.refill) ∧
    (∀ (path : Nat), s.letsWrite path schQCmdAddr →
      (exec (.schQRead path) s = .next ((s.begin.tlpIn path).schQRead) ∧
      exec (.schQWrite path) s = .next ((s.begin.tlpIn path).schQWrite))) ∧
    (∀ (path : Nat), s.letsWrite path schAlCmdAddr →
      (exec (.schAlRead path) s = .next ((s.begin.tlpIn path).schAlRead) ∧
      exec (.schAlWrite path) s = .next ((s.begin.tlpIn path).schAlWrite) ∧
      exec (.schAlReadPending path) s = .next ((s.begin.tlpIn path).schAlReadPending))) ∧
    (∀ (path : Nat), s.letsWrite path schPolCmdAddr →
      (exec (.schPolRead path) s = .next ((s.begin.tlpIn path).schPolRead) ∧
      exec (.schPolWrite path) s = .next ((s.begin.tlpIn path).schPolWrite) ∧
      exec (.schPolClearCnt path) s = .next ((s.begin.tlpIn path).schPolClear))) ∧
    (∀ (path w data : Nat), w < 2 → s.letsWrite path (0x200068 + 4 * w) →
      exec (.schRelSet path w data) s = .next ((s.begin.tlpIn path).askRelease (State.groupsOf w data))) ∧
    (∀ (path w data : Nat), w < 2 → s.letsWrite path (0x200070 + 4 * w) →
      exec (.schRelClr path w data) s = .next ((s.begin.tlpIn path).askReclaim (State.groupsOf w data))) ∧
    (∀ (p : Nat), p < 2 → s.domainRuns (4 + p) = true →
      exec (.samplerVisit p) s = .next (s.begin.sample p)) ∧
    (∀ (path : Nat), s.letsWrite path schSmpCmdAddr →
      (exec (.schSmpRead path) s = .next ((s.begin.tlpIn path).schSmpRead) ∧
      exec (.schSmpClear path) s = .next ((s.begin.tlpIn path).schSmpClear))) ∧
    (∀ (path h data : Nat), h < 64 → s.letsWrite path (0x204100 + 4 * h) →
      exec (.histSelWrite path h data) s = .next (((s.begin.tlpIn path).store path (0x204100 + 4 * h) data
        [R.SCH_HIST_SEL_QUEUE, R.SCH_HIST_SEL_PLANE, R.SCH_HIST_SEL_METRIC, R.SCH_HIST_SEL_EN] 0 h).clearHist h))

/-- The panel clock's commands and its sources' events complete (06_panel_time.md). -/
def Obligations.PanelTimeCompletes : Prop :=
  ∀ s : State,
    (∀ (path : Nat), s.letsRead path 0x040040 →
      exec (.timNowRead path) s = .next (((s.begin.tlpIn path).setLatch path 0x040044 s.tim.sec).answer path s.tim.ns)) ∧
    (∀ (path : Nat), s.letsWrite path timCmdAddr → s.rd R.TIM_RESULT_BUSY = 0 →
      (exec (.timeSet path) s = .next ((s.begin.tlpIn path).timeSet) ∧
      exec (.timeStep path) s = .next ((s.begin.tlpIn path).timeStep))) ∧
    (∀ (path : Nat), s.letsWrite path timCmdAddr → s.rd R.TIM_RESULT_BUSY = 0 → s.tim.engaged = false →
      exec (.timeSlew path) s = .next (((s.begin.tlpIn path).slewBy (signedOf 32 (s.rd R.TIM_SLEW))).timResult 0)) ∧
    (∀ (path : Nat), s.letsWrite path timCmdAddr → s.rd R.TIM_RESULT_BUSY = 0 →
      (exec (.slewAbort path) s = .next (((s.begin.tlpIn path).slewBy 0).timResult 0) ∧
      exec (.timeCapture path) s = .next (((s.begin.tlpIn path).captureAt 2 0).timResult 0))) ∧
    (∀ (path data : Nat), s.letsWrite path 0x040070 → s.tim.engaged = false →
      exec (.fadjWrite path data) s = .next ((s.begin.tlpIn path).wr R.TIM_FADJ (unsignedOf 32 (clampInt (-128000000)
        128000000 (signedOf 32 (data % 2 ^ 32)))))) ∧
    (∀ (k : Nat), k < 4 → s.domainRuns 1 = true → s.sourceQualified (s.slotByte k) = true →
      exec (.sourceQualified k) s = .next s.begin.reselect) ∧
    (∀ (k : Nat), k < 4 → s.domainRuns 1 = true → s.sourceQualified (s.slotByte k) = false →
      exec (.sourceDisqualified k) s = .next s.begin.reselect) ∧
    (∀ (k : Nat), k < 4 → s.domainRuns 1 = true →
      exec (.sourceHoldExpiry k) s = .next (s.begin.holdExpired k)) ∧
    (∀ (path data : Nat), s.letsWrite path 0x041048 →
      exec (.ptpQualWrite path data) s = .next ((((s.begin.tlpIn path).store path 0x041048 data [R.TIM_PTP_QUAL_QUAL,
        R.TIM_PTP_QUAL_LOCK, R.TIM_PTP_QUAL_DELAY_KNOWN]).updTim (fun t =>
        { t with ptpQual := data % 2 == 1 })).reselect)) ∧
    (s.domainRuns 1 = true →
      exec .ptpTmo s = .next (s.begin.disqualify kindPtp)) ∧
    (∀ (err : Bool) (code year day hour min sec : Nat) (localOfs : Int), s.domainRuns 1 = true →
      (err = true ∨ code ≠ s.rd R.TIM_IRIG_CFG_CODE) →
      exec (.irigFrame err code year day hour min sec localOfs) s = .next s.begin.irigBadFrame) ∧
    (∀ (err : Bool) (code year day hour min sec : Nat) (localOfs : Int), s.domainRuns 1 = true → err = false →
      code = s.rd R.TIM_IRIG_CFG_CODE →
      exec (.irigFrame err code year day hour min sec localOfs) s = .next (s.begin.irigGood (s.irigSec code year day
        hour min sec localOfs))) ∧
    (s.domainRuns 1 = true →
      (exec .irigFault s = .next ((s.begin.updTim (fun x => { x with irigRun := 0, irigBad := 2 })).disqualify
        kindIrig) ∧
      exec .ppsEdge s = .next s.begin.ppsEdge ∧
      exec .ppsFault s = .next ((s.begin.updTim (fun x => { x with ppsRun := 0, ppsLast := none })).disqualify
        kindPps))) ∧
    (s.domainRuns 1 = true → s.rd R.TIM_STAT_STATE = timeHoldover →
      exec .holdTimeExpiry s = .next (((s.begin.wr R.TIM_STAT_HOPS 7).wr R.TIM_STAT_DELAY_KNOWN 0).setTimeState
        timeFree 0)) ∧
    (s.domainRuns 1 = true → s.ppsDue = true → s.rd R.TIM_PPSOUT_CFG_EN = 1 →
      (s.rd R.TIM_PPSOUT_CFG_GATE = 0 ∨ s.rd R.TIM_STAT_SYNC_VALID = 1) →
      exec .ppsOutRise s = .next (s.begin.updTim (fun t => { t with ppsOut := true }))) ∧
    (s.domainRuns 1 = true →
      exec .ppsOutFall s = .next (s.begin.updTim (fun t => { t with ppsOut := false })))

/-- The trunks' time exchanges and the journal's commands complete (06_panel_time.md). -/
def Obligations.TrunkTimeAndJournalComplete : Prop :=
  ∀ s : State,
    (∀ (n : Nat), n < 16 → s.domainRuns (6 + n / 4) = true →
      exec (.exchangeOriginate n) s = .next (s.begin.originate n)) ∧
    (∀ (n lane id : Nat), n < 16 → lane < 3 → id < 32 → s.domainRuns (6 + n / 4) = true → s.linkRuns n = true →
      exec (.timeSymbolReceived n lane id) s = .next (s.begin.readyCtl n (.time 1 id (s.begin.stampAfter
        (s.begin.rxLat n lane) % 2 ^ 40)))) ∧
    (∀ (n lane sub id stamp : Nat), n < 16 → lane < 3 → 1 ≤ sub → sub ≤ 3 → id < 32 →
      s.domainRuns (6 + n / 4) = true →
      exec (.timeEchoReceived n lane sub id stamp) s = .next (s.begin.echoIn n lane sub id (stamp % 2 ^ 40))) ∧
    (∀ (n : Nat) e, n < 16 → s.domainRuns (6 + n / 4) = true → (s.trunkTime n).exch = some e →
      exec (.exchangeTimeout n) s = .next ((s.begin.discardExchange n e s.freeNat).tookFree)) ∧
    (∀ (n stamp : Nat), n < 16 → s.domainRuns (6 + n / 4) = true → s.rd R.TRK_LSTAT_V21 n = 1 →
      exec (.asymTrimReceived n stamp) s = .next (s.begin.wr R.TIM_PEER_ASYM (stamp % 2 ^ 16) 0 n)) ∧
    (s.domainRuns 1 = true →
      exec .journalEntryWrite s = .next s.begin.jnlWrite) ∧
    (∀ (path data : Nat), s.letsWrite path 0x058048 →
      exec (.jnlTailWrite path data) s = .next ((s.begin.tlpIn path).jnlTail (data % 2 ^ 14))) ∧
    (∀ (path : Nat), s.letsRead path 0x05805C → s.rd R.MON_JNL_CFG_AUTOADV = 1 → 0 < s.jnlFill →
      exec (.jnlDataRead path) s = .next (((s.begin.tlpIn path).answer path (s.jnlWord 3)).jnlTail ((s.rd
        R.MON_JNL_TAIL + 1) % 16384))) ∧
    (∀ (path data : Nat), s.letsWrite path 0x05806C →
      exec (.jnlSwWrite path data) s = .next (((s.begin.tlpIn path).journalAt (s.begin.tlpIn path).tswNow 0x058 31
        (((s.begin.tlpIn path).stagedLo path 0x058068).getD 0 + data % 2 ^ 16 * 2 ^ 32)).stageLo path 0x058068
        none))

/-- The display's units and the frames made of them complete (07_display.md). -/
def Obligations.DisplayUnitsComplete : Prop :=
  ∀ s : State,
    (∀ (u : UnitMsg), s.domainRuns 12 = true →
      (exec (.modeSet u) s = .next (s.begin.takeDisplay u 1) ∧
      exec (.rectRaw u) s = .next (s.begin.takeDisplay u 2) ∧
      exec (.rectTile u) s = .next (s.begin.takeDisplay u 3) ∧
      exec (.cursor u) s = .next (s.begin.takeDisplay u 4) ∧
      exec (.flip u) s = .next (s.begin.takeDisplay u 5) ∧
      exec (.displayFence u) s = .next (s.begin.takeDisplay u 6))) ∧
    (∀ (i : Nat), i < 2 → s.domainRuns 12 = true →
      (exec (.frameStart i) s = .next (s.begin.frameStart i) ∧
      exec (.psrStandby i) s = .next (s.begin.psrStandby i) ∧
      exec (.modeChangeDone i) s = .next (s.begin.modeChanged i) ∧
      exec (.copyDone i) s = .next (s.begin.copied i))) ∧
    (∀ (i : Nat) (run : FetchRun), i < 2 → run.fill ≤ 2048 → s.domainRuns 12 = true →
      exec (.fetchStart i run) s = .next (s.begin.fetch i run.fill run.corr)) ∧
    (∀ (addr : Nat), s.domainRuns 12 = true →
      exec (.fetchDramUncorr addr) s = .next (((s.begin.showBack addr).bump R.DSP_DRAM_ERR_UNCORR).event 0x300 2 addr)) ∧
    (∀ (f0 f1 : Nat), f0 ≤ 2048 → f1 ≤ 2048 → s.domainRuns 12 = true →
      exec (.latencyToleranceUpdate f0 f1) s = .next (s.begin.stateTolerance f0 f1)) ∧
    (∀ (i : Nat) (whole : Bool), i < 2 → s.domainRuns 12 = true →
      exec (.underrun i whole) s = .next (s.begin.underrun i whole)) ∧
    (∀ (i : Nat), i < 2 → s.domainRuns 12 = true →
      exec (.sourceDrainTimeout i) s = .next (s.begin.srcAbort i)) ∧
    (∀ (path i data : Nat) (t : State), i < 2 → s.letsWrite path (0x301040 + 0x1000 * i) →
      t = (s.begin.tlpIn path).store path (0x301040 + 0x1000 * i) (data / 2 * 2 + 1) State.srcCfgFields i →
      t.srcState i = srcDisabled → s.pwr.drained < 2 →
      exec (.sourceEnable path i data) s = .next ((t.srcEnable i).cloneWritten i)) ∧
    (∀ (path i data : Nat), i < 2 → s.letsWrite path (0x301040 + 0x1000 * i) →
      exec (.sourceDisable path i data) s = .next ((((s.begin.tlpIn path).store path (0x301040 + 0x1000 * i) (data / 2
        * 2) State.srcCfgFields i).srcDisable i).cloneWritten i))

/-- The display outputs' plug, training and AUX commands complete (07_display.md). -/
def Obligations.DisplayOutputsComplete : Prop :=
  ∀ s : State,
    (∀ (o : Nat) (sink : DspSink), o < 4 → s.domainRuns 12 = true → s.directTrunk o = none →
      exec (.hpdPlug o sink) s = .next ((s.begin.setOwn o (some sink)).hpdPlug o sink)) ∧
    (∀ (o : Nat), o < 4 → s.domainRuns 12 = true → s.directTrunk o = none →
      exec (.hpdUnplug o) s = .next ((s.begin.setOwn o none).hpdUnplug o)) ∧
    (∀ (o : Nat) (lost : Bool), o < 4 → s.domainRuns 12 = true → s.directTrunk o = none →
      exec (.irqHpd o lost) s = .next (s.begin.hpdIrq o lost)) ∧
    (∀ (o : Nat) (ok : Bool), o < 4 → s.domainRuns 12 = true →
      exec (.outputTrainAttemptDone o ok) s = .next (s.begin.trainDone o ok)) ∧
    (∀ (path o data : Nat), o < 4 → s.letsWrite path (State.auxAddr o) → s.outState o ≠ outTraining →
      s.outState o ≠ outPsr → (s.output o).aux = none →
      (exec (.auxNativeRead path o data) s = .next ((((s.begin.tlpIn path).updOutput o (fun x =>
        { x with aux := some (1, bitsOf data 27 8, bitsOf data 7 4 + 1, 1) })).wr R.DSP_AUX_STAT_BUSY 1 o).emit
        (.aux o 1 (bitsOf data 27 8) (bitsOf data 7 4 + 1) [])) ∧
      exec (.auxNativeWrite path o data) s = .next ((((s.begin.tlpIn path).updOutput o (fun x =>
        { x with aux := some (2, bitsOf data 27 8, bitsOf data 7 4 + 1, 1) })).wr R.DSP_AUX_STAT_BUSY 1 o).emit
        (.aux o 2 (bitsOf data 27 8) (bitsOf data 7 4 + 1) ((s.auxData o).take (bitsOf data 7 4 + 1)))) ∧
      exec (.auxI2cRead path o data) s = .next ((((s.begin.tlpIn path).updOutput o (fun x =>
        { x with aux := some (3, bitsOf data 14 8, bitsOf data 7 4 + 1, 1) })).wr R.DSP_AUX_STAT_BUSY 1 o).emit
        (.aux o 3 (bitsOf data 14 8) (bitsOf data 7 4 + 1) [])) ∧
      exec (.auxI2cWrite path o data) s = .next ((((s.begin.tlpIn path).updOutput o (fun x =>
        { x with aux := some (4, bitsOf data 14 8, bitsOf data 7 4 + 1, 1) })).wr R.DSP_AUX_STAT_BUSY 1 o).emit
        (.aux o 4 (bitsOf data 14 8) (bitsOf data 7 4 + 1) ((s.auxData o).take (bitsOf data 7 4 + 1)))))) ∧
    (∀ (o code : Nat) (data : List Byte), o < 4 → code < 3 → s.domainRuns 12 = true →
      exec (.auxReply o code data) s = .next (s.begin.auxReply o code data)) ∧
    (∀ (o : Nat), o < 4 → s.domainRuns 12 = true → (s.output o).aux.isSome = true →
      exec (.auxTimeout o) s = .next (s.begin.auxDone o 3))

/-- The storage units, NVMe completions and command timeouts complete (08_storage.md). -/
def Obligations.StorageCommandsComplete : Prop :=
  ∀ s : State,
    (∀ (u : UnitMsg) (port dram : Nat), port < 24 → dram < 3 → s.domainRuns 13 = true →
      (exec (.stoCommandUnit u port dram) s = .next (s.begin.takeStorage u port dram) ∧
      exec (.stoDataUnit u port dram) s = .next (s.begin.takeStorage u port dram))) ∧
    (∀ (b k : Nat), b < 32 → s.domainRuns 13 = true → (s.stoTun b).next = .data k → s.btState b ≠ btDraining →
      exec (.stoDataTimeout b) s = .next ((s.begin.dataMissing b k (.drop false)).settled)) ∧
    (∀ (b slot sc dnr dram : Nat) (data : List Byte) (c : StoCmd), b < 32 → slot < 64 → sc < 2048 → dnr < 2 →
      dram < 3 → s.domainRuns 13 = true → s.cmdAt b slot = some c → c.op ≠ 1 → c.phase = .timedOut →
      exec (.nvmeCompletion b slot sc dnr dram data) s = .next (((s.begin.freeSlot b slot).bump R.STO_LATE).settled)) ∧
    (∀ (b slot sc dnr dram : Nat) (data : List Byte) (c : StoCmd), b < 32 → slot < 64 → sc < 2048 → dnr < 2 →
      dram = 0 → s.domainRuns 13 = true → s.cmdAt b slot = some c → c.op ≠ 1 → c.phase = .sent →
      exec (.nvmeCompletion b slot sc dnr dram data) s = .next (((s.begin.stoDram 0).finishCmd b c (nvmeStatus sc dnr)
        none).settled)) ∧
    (∀ (u : UnitMsg) (port : Nat), port < 24 → s.domainRuns 13 = true →
      exec (.stoFence u port) s = .next (s.begin.takeStorage { u with kind := kindFence, payload := [] } port 0)) ∧
    (∀ (b slot : Nat) (c : StoCmd) (x : State), b < 32 → slot < 64 → s.domainRuns 13 = true →
      s.cmdAt b slot = some c → c.phase = .sent →
      x = s.begin.updStoTun b (fun t => { t with cmds := t.cmds.map (fun y => if y.slot = slot then { y with phase := .timedOut } else y) }) →
      exec (.stoCmdTimeout b slot) s = .next ((((((x.nvme (s.btPort b) (.abort (b + 1) slot)).reply b none c.op c.tag
        stTimeout none).bump R.STO_BT_TMO 0 b).tally 0x162).event btPage 2 (b + c.tag * 2 ^ 16)).settled)) ∧
    (∀ (b slot : Nat) (c : StoCmd) (x : State), b < 32 → slot < 64 → s.domainRuns 13 = true →
      s.cmdAt b slot = some c → c.phase = .data →
      x = s.begin.updStoTun b (fun t => { t with cmds := t.cmds.map (fun y => if y.slot = slot then { y with phase := .timedOut } else y), next := .drop false }) →
      exec (.stoCmdTimeout b slot) s = .next ((((((x.nvme (s.btPort b) (.abort (b + 1) slot)).reply b none c.op c.tag
        stTimeout none).bump R.STO_BT_TMO 0 b).tally 0x162).event btPage 2 (b + c.tag * 2 ^ 16)).settled)) ∧
    (∀ (b slot : Nat) (c : StoCmd), b < 32 → slot < 64 → s.domainRuns 13 = true → s.cmdAt b slot = some c →
      c.phase = .timedOut →
      exec (.stoAbortTimeout b slot) s = .next (s.begin.rpReset (s.btPort b) rpcNone false))

/-- The root port and block tunnel commands complete (08_storage.md). -/
def Obligations.StoragePortsComplete : Prop :=
  ∀ s : State,
    (∀ (path p data : Nat) (t : State), p < 2 → s.letsWrite path (0x311040 + 0x1000 * p) →
      t = (s.begin.tlpIn path).store path (0x311040 + 0x1000 * p) (data / 2 * 2 + 1) [R.STO_RP_CFG_MAX_WIDTH, R.STO_RP_CFG_MAX_GEN, R.STO_RP_CFG_ASPM_L1] p →
      t.rpState p = rpOff →
      exec (.rootPortEnable path p data) s = .next ((t.wr R.STO_RP_CFG_EN 1 p).rpStart p)) ∧
    (∀ (p : Nat) (found : RpFinding), p < 2 → s.domainRuns 13 = true →
      exec (.rpBringupStepDone p found) s = .next (s.begin.rpStep p found)) ∧
    (∀ (p : Nat), p < 2 → s.domainRuns 13 = true → (s.stoPort p).step = 5 →
      exec (.controllerReadyTimeout p) s = .next (s.begin.rpFail p rpcReadyTmo)) ∧
    (∀ (path p data : Nat), p < 2 → s.letsWrite path (0x311040 + 0x1000 * p) →
      exec (.rootPortDisable path p data) s = .next ((((s.begin.tlpIn path).store path (0x311040 + 0x1000 * p) (data /
        2 * 2) [R.STO_RP_CFG_MAX_WIDTH, R.STO_RP_CFG_MAX_GEN, R.STO_RP_CFG_ASPM_L1] p).wr R.STO_RP_CFG_EN 0
        p).rpStop p)) ∧
    (∀ (path p : Nat), p < 2 → s.letsWrite path (0x311044 + 0x1000 * p) →
      exec (.controllerResetCmd path p) s = .next (((s.begin.tlpIn path).wr R.STO_RP_STAT_LAST_RESULT 0 p).rpReset p
        rpcNone false)) ∧
    (∀ (path p : Nat) (spaces : List NsInfo), p < 2 → s.letsWrite path (0x311044 + 0x1000 * p) → s.tunsOn p = [] →
      s.rpState p = rpReady →
      exec (.rpRescan path p spaces) s = .next (((s.begin.tlpIn path).wr R.STO_RP_STAT_LAST_RESULT 0 p).fillSpaces p
        spaces)) ∧
    (∀ (p : Nat) (aer : Bool), p < 2 → s.domainRuns 13 = true → aer = true →
      exec (.controllerFatal p aer) s = .next (((s.begin.bump R.STO_RP_AER_UNCORR p).irq (rpPage p) 3).rpReset p
        rpcNone false)) ∧
    (∀ (p : Nat) (aer : Bool), p < 2 → s.domainRuns 13 = true → aer = false →
      exec (.controllerFatal p aer) s = .next (s.begin.rpReset p rpcCfs false)) ∧
    (∀ (p : Nat), p < 2 → s.domainRuns 13 = true →
      exec (.rpLinkDown p) s = .next (s.begin.rpReset p rpcLinkDown true)) ∧
    (∀ (p : Nat) (uncorr : Bool), p < 2 → s.domainRuns 13 = true →
      exec (.aerMessage p uncorr) s = .next ((s.begin.bump (if uncorr then R.STO_RP_AER_UNCORR else R.STO_RP_AER_CORR)
        p).irq (rpPage p) 3)) ∧
    (∀ (path data b : Nat), s.letsWrite path 0x314044 → b = s.rd R.STO_BT_INDEX → s.btState b = btDisabled →
      exec (.blockTunnelEnable path data) s = .next (((s.begin.tlpIn path).store path 0x314044 (data / 2 * 2 + 1)
        [R.STO_BT_CFG_WRITE, R.STO_BT_CFG_NS, R.STO_BT_CFG_OWNER_SP] 0 b).btBind b)) ∧
    (∀ (path data b : Nat), s.letsWrite path 0x314044 → b = s.rd R.STO_BT_INDEX → s.btState b ≠ btDisabled →
      exec (.blockTunnelDisable path data) s = .next ((((s.begin.tlpIn path).btDrain b).settled).rpShut (s.btPort b))) ∧
    (∀ (b : Nat), b < 32 → s.domainRuns 13 = true →
      exec (.blockTunnelDrainTimeout b) s = .next (s.begin.btDrainTimeout b)) ∧
    (∀ (b : Nat) (ok : Bool), b < 32 → s.domainRuns 13 = true →
      exec (.adminCommandDone b ok) s = .next (s.begin.adminDone b ok)) ∧
    (∀ (b : Nat), b < 32 → s.domainRuns 13 = true → ((s.stoTun b).admin = 3 ∨ (s.stoTun b).admin = 4) →
      exec (.queueDeleteTimeout b) s = .next (s.begin.rpReset (s.btPort b) rpcAdminTmo false))

/-- The host's requests, the bridge's semaphores and its outbound windows' commands complete (09_host_bridge.md). -/
def Obligations.HostBridgeCompletes : Prop :=
  ∀ s : State,
    (∀ (off attr : Nat) (data : List (Option Byte)), off < 2 ^ 36 → s.domainRuns 16 = true →
      (s.begin.tally 0x170).hostBlocked = false →
      exec (.hostWrite off attr data) s = .next ((s.begin.tally 0x170).hostTakes (.write off attr data))) ∧
    (∀ (place : HostPlace) (len host attr : Nat), place.off + len ≤ hostSpaceSize place.space → 1 ≤ len →
      len ≤ 4096 → s.domainRuns 16 = true → (s.begin.tally 0x170).hostBlocked = false →
      exec (.hostRead place len host attr) s = .next ((s.begin.tally 0x170).hostTakes (.read place.space place.off len
        host attr))) ∧
    (∀ (off op size operand compare host attr : Nat), off < 2 ^ 36 → s.domainRuns 16 = true →
      (s.begin.tally 0x170).hostBlocked = false →
      exec (.hostAtomic off op size operand compare host attr) s = .next ((s.begin.tally 0x170).hostTakes (.atomic off
        op size operand compare host attr))) ∧
    (∀ (off len host attr : Nat), off < 2 ^ 36 → 1 ≤ len → len ≤ 4096 → s.domainRuns 16 = true →
      (s.begin.tally 0x170).hostBlocked = false →
      exec (.hostLockedRead off len host attr) s = .next ((s.begin.tally 0x170).hostTakes (.lockedRead off len host
        attr))) ∧
    (s.domainRuns 16 = true → (s.begin.tally 0x170).hostBlocked = false →
      exec .hostUnlock s = .next ((s.begin.tally 0x170).hostTakes .unlock)) ∧
    (∀ (path w : Nat), w < 64 → s.letsWrite path 0x32005C →
      exec (.hbrFence path w) s = .next ((s.begin.tlpIn path).acceptSend (.fence w))) ∧
    (∀ (i : Nat) x, i < 64 → s.domainRuns 16 = true → s.brg.semWait.find? (fun x => x.1 == i) = some x →
      s.semHeld i = false →
      exec (.semaphoreAcquired i) s = .next ((s.begin.updBrg (fun b => { b with semWait := b.semWait.erase x })).semGo
        x.2)) ∧
    (∀ (i : Nat) x, i < 64 → s.domainRuns 16 = true → s.brg.semWait.find? (fun x => x.1 == i) = some x →
      exec (.semWaitTimeout i) s = .next (((((s.begin.updBrg (fun b =>
        { b with semWait := b.semWait.erase x })).aborted x.2.send).bump R.HBR_SEM_TMO_CNT).irq 0x320
        7).owinDrained (State.sendWin x.2.send))) ∧
    (∀ (u : UnitMsg), s.domainRuns 16 = true → (u.kind = kindReadResponse ∨ u.kind = kindWriteAck) →
      exec (.bridgeResponse u) s = .next (s.begin.unitArrives u)) ∧
    (∀ (t : Nat), t < 256 → s.domainRuns 16 = true →
      exec (.hbrReadTimeout t) s = .next ((s.begin.endEarly R.HBR_ABT_TMO false t).bridgeSettled)) ∧
    (s.domainRuns 16 = true → s.brg.lock.isSome = true →
      exec .lockTimeout s = .next (((s.begin.unlockAll.bump R.HBR_LOCK_TMO_CNT).irq 0x320 8).bridgeSettled)) ∧
    (∀ (path i : Nat), i < 64 → s.letsRead path (0x323040 + 4 * i) → s.semHeld i = false →
      (∃ t, exec (.hbrSemRead path i) s = .next t ∧ t.semHeld i = true ∧ .csr path (3 + 16 * path) ∈ t.out)) ∧
    (∀ (path i : Nat), i < 64 → s.letsWrite path (0x323040 + 4 * i) → s.semHeld i = true →
      s.rd R.HBR_SEM_EMU 0 i = 0 → s.rd R.HBR_SEM_PATH 0 i = path →
      exec (.hbrSemRelease path i) s = .next ((s.begin.tlpIn path).semFree i)) ∧
    (∀ (v addr : Nat) (word : MsixWord), v < 64 → s.domainRuns 16 = true →
      (s.begin.tally 0x170).hostBlocked = false →
      exec (.msixUnmask v addr word) s = .next ((s.begin.tally 0x170).hostTakes (.vector v addr word.data
        word.masked))) ∧
    (s.domainRuns 16 = true →
      exec .flr s = .next s.begin.flr.bridgeSettled) ∧
    (∀ (width gen : Nat), width < 4 → gen < 4 → s.domainRuns 16 = true →
      exec (.hostLinkUp width gen) s = .next ((((((s.begin.wr R.HBR_LINK_STAT_UP 1).wr R.HBR_LINK_STAT_WIDTH (min
        width (s.rd R.HBR_LINK_CFG_MAX_WIDTH))).updBrg (fun b =>
        { b with legacy := s.rd R.HBR_CFG_LEGACY == 1 })).wr R.HBR_LINK_STAT_GEN (min gen (s.rd
        R.HBR_LINK_CFG_MAX_GEN))).irq 0x320 0).msixFlush)) ∧
    (∀ (bme mps mrrs : Nat) (msixEn : Bool) (conf : HostConf), bme < 2 → mps < 8 → mrrs < 8 →
      s.domainRuns 16 = true → (s.begin.tally 0x170).hostBlocked = false →
      exec (.hostConfigWrite bme mps mrrs msixEn conf) s = .next ((s.begin.tally 0x170).hostTakes (.config bme mps
        mrrs msixEn conf)))

/-- The inbound requests, the message router, the windows' enables and the host link's loss complete (09_host_bridge.md). -/
def Obligations.RouterCompletes : Prop :=
  ∀ s : State,
    (∀ (u : UnitMsg), s.domainRuns 16 = true →
      (exec (.inboundData u) s = .next (s.begin.unitArrives { u with kind := kindData }) ∧
      exec (.inboundReadRequest u) s = .next (s.begin.unitArrives { u with kind := kindReadRequest }) ∧
      exec (.inboundWriteNp u) s = .next (s.begin.unitArrives { u with kind := kindWriteNp }))) ∧
    (∀ (id status : Nat) (poisoned : Bool) (data : List Byte), status < 3 → s.domainRuns 16 = true →
      exec (.hostCompletion id status poisoned data) s = .next (s.begin.hostCompletion id status poisoned data)) ∧
    (∀ (u : UnitMsg), s.domainRuns 16 = true →
      exec (.bridgeFenceUnit u) s = .next (s.begin.unitArrives { u with kind := kindFence })) ∧
    (∀ (u : UnitMsg), s.domainRuns 16 = true → routerKind u.kind = true →
      exec (.routerUnit u) s = .next (s.begin.unitArrives u)) ∧
    (∀ (tid : Nat), tid < 32768 → s.domainRuns 16 = true →
      (exec (.routerHoldRelease tid) s = .next (s.begin.holdRetry tid) ∧
      exec (.routerHoldTimeout tid) s = .next (s.begin.holdExpires tid))) ∧
    (∀ (path : Nat), s.letsRead path mrtCauseAddr →
      exec (.mrtCauseRead path) s = .next ((s.begin.tlpIn path).causeRead path)) ∧
    (∀ (path : Nat), s.letsWrite path mrtCmdAddr →
      (exec (.mrtRead path) s = .next ((s.begin.tlpIn path).mrtRead) ∧
      exec (.mrtWrite path) s = .next ((s.begin.tlpIn path).mrtWrite) ∧
      exec (.mrtClear path) s = .next ((s.begin.tlpIn path).mrtClear))) ∧
    (∀ (path data : Nat) (inward : Bool) (w : Nat), s.letsWrite path 0x321044 → inward = false →
      w = s.rd R.HBR_OWIN_INDEX → s.owin R.HBR_OWIN_STAT_STATE w ≠ winDisabled →
      exec (.windowDisable path data inward) s = .next ((s.begin.tlpIn path).owinClose w)) ∧
    (∀ (path data : Nat) (inward : Bool) (w : Nat), s.letsWrite path 0x322044 → inward = true →
      w = s.rd R.HBR_IWIN_INDEX → s.iwin R.HBR_IWIN_STAT_STATE w ≠ winDisabled →
      exec (.windowDisable path data inward) s = .next ((s.begin.tlpIn path).iwinClose w)) ∧
    (∀ (w : Nat) (inward : Bool), w < 64 → s.domainRuns 16 = true → inward = false →
      s.owin R.HBR_OWIN_STAT_STATE w = winDraining →
      exec (.windowDrainTimeout w inward) s = .next (s.begin.owinForced w)) ∧
    (∀ (w : Nat) (inward : Bool), w < 32 → s.domainRuns 16 = true → inward = true →
      s.iwin R.HBR_IWIN_STAT_STATE w = winDraining →
      exec (.windowDrainTimeout w inward) s = .next (s.begin.inAborts (fun r => r.win == w) inHostErr)) ∧
    (s.domainRuns 16 = true → s.rd R.HBR_LINK_STAT_UP = 1 →
      exec .hostLinkDown s = .next s.begin.hostLinkLost) ∧
    (∀ (id : Nat), s.domainRuns 16 = true →
      exec (.hostCompletionTimeout id) s = .next (s.begin.inEnds id stCa (some inHostErr) [])) ∧
    (∀ (path data : Nat) (inward : Bool) (w : Nat), s.letsWrite path 0x321044 → inward = false →
      w = s.rd R.HBR_OWIN_INDEX → s.owin R.HBR_OWIN_STAT_STATE w = winDisabled → s.pwr.drained < 3 →
      exec (.windowEnable path data inward) s = .next ((((s.begin.tlpIn path).store path 0x321044 (data / 2 * 2 + 1)
        State.owinCfg 0 w).wr R.HBR_OWIN_CFG_EN 1 0 w).wr R.HBR_OWIN_STAT_STATE winOpen 0 w)) ∧
    (∀ (path data : Nat) (inward : Bool) (w : Nat), s.letsWrite path 0x322044 → inward = true →
      w = s.rd R.HBR_IWIN_INDEX → s.iwin R.HBR_IWIN_STAT_STATE w = winDisabled → s.pwr.drained < 3 →
      exec (.windowEnable path data inward) s = .next ((((s.begin.tlpIn path).store path 0x322044 (data / 2 * 2 + 1)
        State.iwinCfg 0 w).wr R.HBR_IWIN_CFG_EN 1 0 w).wr R.HBR_IWIN_STAT_STATE winOpen 0 w))

/-- The Ethernet MACs' commands, the classifier and the egress bindings complete (10_network.md). -/
def Obligations.NetworkCompletes : Prop :=
  ∀ s : State,
    (∀ (m : Nat) (frame : List Byte) (good begun : Bool), m < 4 → s.domainRuns 14 = true →
      s.rd R.PWR_STAT_STATE < 3 → s.macState m = macRun →
      exec (.ethFrameReceived m frame good begun) s = .next (s.begin.rxFrame m frame good)) ∧
    (∀ (u : UnitMsg), s.domainRuns 14 = true →
      exec (.ethEgressUnit u) s = .next (s.begin.ethUnit u)) ∧
    (∀ (m : Nat), m < 4 → s.domainRuns 14 = true → s.macState m = macRun → (s.mac m).pausedTo ≤ s.hw →
      exec (.ethFrameTransmit m) s = .next (s.begin.txSend m)) ∧
    (∀ (path : Nat), s.letsRead path 0x340090 →
      exec (.txtsRead path) s = .next (((s.begin.tlpIn path).updNet (fun x =>
        { x with txts := x.txts.drop 1 })).answer path 0)) ∧
    (∀ (m : Nat) (frame : List Byte) (good : Bool), m < 4 → s.domainRuns 14 = true → s.pwrState = 3 →
      (s.begin.wakeMatch m frame good).2 = true →
      exec (.wakeFrame m frame good) s = .next ((s.begin.wakeMatch m frame good).1.wakeEvent 16 0)) ∧
    (∀ (m : Nat) (cut : Bool), m < 4 → s.domainRuns 14 = true →
      exec (.ethLinkDown m cut) s = .next (s.begin.macDown m cut)) ∧
    (∀ (m : Nat), m < 4 → s.domainRuns 14 = true →
      exec (.ethLinkUp m) s = .next (s.begin.macUp m)) ∧
    (∀ (path m data : Nat) (t : State), m < 4 → s.letsWrite path (0x341040 + 0x1000 * m) →
      t = (s.begin.tlpIn path).store path (0x341040 + 0x1000 * m) (data / 2 * 2) [R.ETH_MAC_CFG_MODE, R.ETH_MAC_CFG_AN_EN, R.ETH_MAC_CFG_PAUSE_EN, R.ETH_MAC_CFG_MAX_FRAME] m →
      exec (.macDisable path m data) s = .next (t.macStop m)) ∧
    (∀ (m : Nat), m < 4 → s.domainRuns 14 = true →
      exec (.macDrainTimeout m) s = .next (s.begin.macDrainEnd m)) ∧
    (∀ (path : Nat), s.letsWrite path 0x345050 →
      (exec (.ethClsRead path) s = .next ((s.begin.tlpIn path).clsRead) ∧
      exec (.ethClsWrite path) s = .next ((s.begin.tlpIn path).clsWrite))) ∧
    (∀ (path : Nat), s.letsWrite path 0x34604C →
      (exec (.ethEgbRead path) s = .next ((s.begin.tlpIn path).egbRead) ∧
      exec (.ethEgbWrite path) s = .next ((s.begin.tlpIn path).egbWrite))) ∧
    (∀ (path m data : Nat) (t : State), m < 4 → s.letsWrite path (0x341040 + 0x1000 * m) →
      t = (s.begin.tlpIn path).store path (0x341040 + 0x1000 * m) (data / 2 * 2 + 1) [R.ETH_MAC_CFG_MODE, R.ETH_MAC_CFG_AN_EN, R.ETH_MAC_CFG_PAUSE_EN, R.ETH_MAC_CFG_MAX_FRAME] m →
      t.macState m = macDisabled → s.pwr.drained < 3 →
      exec (.macEnable path m data) s = .next ((t.wr R.ETH_MAC_CFG_EN 1 m).setMacState m macNoLink))

/-- The USB function's requests, packets and tunnels and the bus's events complete (11_usb.md). -/
def Obligations.UsbCompletes : Prop :=
  ∀ s : State,
    (∀ (tgt : Ep0Target) (rtype req value index len : Nat) (x : State), tgt.ecc < 3 → rtype < 256 → req < 256 →
      value < 65536 → index < 65536 → len < 65536 → s.domainRuns 15 = true → s.usb.attached = true →
      x = s.begin.updUsb (fun u => { u with setup := toLe 1 rtype ++ toLe 1 req ++ toLe 2 value ++ toLe 2 index ++ toLe 2 len, writing := false }) →
      tgt.hub = true →
      exec (.usbStandardRequest tgt rtype req value index len) s = .next (x.ep0Ecc tgt.ecc (fun y => y.hubRequest
        rtype req value index len))) ∧
    (∀ (tgt : Ep0Target) (rtype req value index len : Nat) (x : State), tgt.ecc < 3 → rtype < 256 → req < 256 →
      value < 65536 → index < 65536 → len < 65536 → s.domainRuns 15 = true → s.usb.attached = true →
      x = s.begin.updUsb (fun u => { u with setup := toLe 1 rtype ++ toLe 1 req ++ toLe 2 value ++ toLe 2 index ++ toLe 2 len, writing := false }) →
      tgt.hub = false →
      exec (.usbStandardRequest tgt rtype req value index len) s = .next (x.ep0Ecc tgt.ecc (fun y => y.functionRequest
        rtype req value index len))) ∧
    (∀ (addr len ecc : Nat), ecc < 3 → addr < 2 ^ 32 → len < 65536 → s.domainRuns 15 = true → s.usb.attached = true →
      exec (.usbCsrRead addr len ecc) s = .next (s.begin.ep0Ecc ecc (fun y => y.vendorRead addr len))) ∧
    (∀ (addr len : Nat) (stage : CtlStage) (ecc : Nat), ecc < 3 → addr < 2 ^ 32 → len < 65536 →
      ctlStageOk stage = true → s.domainRuns 15 = true → s.usb.attached = true →
      exec (.usbCsrWrite addr len stage ecc) s = .next (s.begin.ep0Ecc ecc (fun y => y.vendorWrite addr len stage))) ∧
    (∀ (e : Nat) (token : OutToken) (ecc : Nat) (data : List Byte), 1 ≤ e → e < 16 → outTokenOk token = true →
      ecc < 3 → s.domainRuns 15 = true → token = .ping →
      exec (.usbOutPacket e token ecc data) s = .next (s.begin.usbPing e)) ∧
    (∀ (e : Nat) (token : OutToken) (ecc : Nat) (data : List Byte) (toggle : Nat), 1 ≤ e → e < 16 →
      outTokenOk token = true → ecc < 3 → s.domainRuns 15 = true → token = .packet toggle →
      exec (.usbOutPacket e token ecc data) s = .next (s.begin.usbOut e toggle ecc data)) ∧
    (∀ (u : UnitMsg), s.domainRuns 15 = true →
      exec (.usbInUnit u) s = .next (s.begin.usbUnit u)) ∧
    (∀ (e : Option Nat) (ecc : Nat), ecc < 3 → s.domainRuns 15 = true → e = none →
      exec (.usbInToken e ecc) s = .next s.begin.hubStatus) ∧
    (∀ (e : Option Nat) (ecc k : Nat), ecc < 3 → 17 ≤ k → k < 32 → s.domainRuns 15 = true → e = some k →
      exec (.usbInToken e ecc) s = .next (s.begin.usbToken k ecc)) ∧
    (∀ (e : Nat), 17 ≤ e → e < 32 → s.domainRuns 15 = true →
      exec (.usbInAck e) s = .next (s.begin.usbAcked e)) ∧
    (∀ (u : UnitMsg), s.domainRuns 15 = true →
      (exec (.usbFence u) s = .next (s.begin.usbFence u) ∧
      exec (.usbEndpointResetUnit u) s = .next (s.begin.usbResetUnit u))) ∧
    (∀ (e : Nat), epNamed e = true → s.domainRuns 15 = true → s.usbState = usbConfigured →
      (exec (.usbEndpointHalt e) s = .next (s.begin.setHalt e) ∧
      exec (.usbClearHalt e) s = .next (s.begin.clearHalt e))) ∧
    (∀ (path data e : Nat) (x : State), s.letsWrite path 0x351044 → e = s.rd R.USB_EP_INDEX →
      x = (s.begin.tlpIn path).store path 0x351044 (data / 2 * 2 + 1) [R.USB_EP_CFG_WAKE] 0 e →
      x.epState e = epDisabled → x.epResult e = 0 → s.pwr.drained < 2 →
      exec (.usbEpEnable path data) s = .next (((x.wr R.USB_EP_STAT_RESULT 0 0 e).wr R.USB_EP_CFG_EN 1 0 e).wr
        R.USB_EP_STAT_STATE epOpen 0 e)) ∧
    (∀ (path data e : Nat), s.letsWrite path 0x351044 → e = s.rd R.USB_EP_INDEX →
      exec (.usbEpDisable path data) s = .next (((s.begin.tlpIn path).store path 0x351044 (data / 2 * 2)
        [R.USB_EP_CFG_WAKE] 0 e).epStop e)) ∧
    (∀ (e : Nat), epNamed e = true → s.domainRuns 15 = true →
      exec (.usbEpDrainTimeout e) s = .next (s.begin.epDrainEnd e)) ∧
    (∀ (path : Nat) (write : Bool) (data : Nat), s.letsRead path 0x353044 → write = false →
      s.rd R.USB_DESC_INDEX_AUTOINC = 0 → s.rd R.USB_DESC_INDEX_WORD < 192 → data ≠ 1 → data ≠ 2 →
      exec (.usbDescDataAccess path write data) s = .next ((s.begin.tlpIn path).answer path (s.rd R.USB_DESC_DATA 0
        (s.rd R.USB_DESC_INDEX_WORD)))) ∧
    (∀ (path : Nat) (write : Bool) (data : Nat), s.letsWrite path 0x353044 → write = true →
      s.rd R.USB_DESC_INDEX_AUTOINC = 0 → s.rd R.USB_CFG_EN = 0 → s.rd R.USB_DESC_INDEX_WORD < 192 →
      exec (.usbDescDataAccess path write data) s = .next ((s.begin.tlpIn path).wr R.USB_DESC_DATA (data % 2 ^ 32) 0
        (s.rd R.USB_DESC_INDEX_WORD))) ∧
    (s.domainRuns 15 = true →
      (exec .usbSuspend s = .next (s.begin.usbSuspend false) ∧
      exec .usbPort5Suspend s = .next (s.begin.usbSuspend true))) ∧
    (s.domainRuns 15 = true → s.usbSuspended = true → (s.wakePending = true ∨ s.usb.hubWaking = true) →
      s.usb.driving = false →
      exec .usbWakeSignal s = .next s.begin.wakeSignal) ∧
    (s.domainRuns 15 = true →
      exec .usbHostResume s = .next s.begin.hostResume) ∧
    (∀ (port5 hs control : Bool), s.domainRuns 15 = true →
      exec (.usbBusReset port5 hs control) s = .next (s.begin.usbReset port5 hs control)) ∧
    (∀ (present : Bool), s.domainRuns 15 = true → present = true →
      exec (.usbVbusChange present) s = .next ((s.begin.wr R.USB_STAT_VBUS 1).usbAttach)) ∧
    (∀ (present : Bool), s.domainRuns 15 = true → present = false →
      exec (.usbVbusChange present) s = .next ((s.begin.wr R.USB_STAT_VBUS 0).usbDetach)) ∧
    (∀ (path data : Nat) (x : State), s.letsWrite path 0x350040 →
      x = (s.begin.tlpIn path).store path 0x350040 data [R.USB_CFG_WAKE_EN, R.USB_CFG_FS_ONLY, R.USB_CFG_K_MS] →
      data % 2 = 1 → x.rd R.USB_CFG_EN = 0 → x.usb.attached = false →
      exec (.usbFunctionEnWrite path data) s = .next ((x.wr R.USB_CFG_EN 1).usbAttach)) ∧
    (∀ (path data : Nat), s.letsWrite path 0x350040 → data % 2 = 0 →
      exec (.usbFunctionEnWrite path data) s = .next (((((s.begin.tlpIn path).store path 0x350040 data
        [R.USB_CFG_WAKE_EN, R.USB_CFG_FS_ONLY, R.USB_CFG_K_MS]).wr R.USB_CFG_EN 0).usbDrainAll).usbDetachIfDone)) ∧
    (∀ (n : Nat), n < 4 → s.domainRuns 15 = true →
      exec (.usbOverCurrent n) s = .next ((((((((s.begin.wr R.USB_PORT_STAT_STATE portOff 0 n).wr
        R.USB_PORT_STAT_POWER 0 0 n).wr R.USB_PORT_STAT_OC 1 0 n).resetGone n).bump R.USB_OC_CNT 0 n).irq
        usbHubPage n).portChanged n 3).hubEvent)) ∧
    (∀ (n : Nat) (connected : Bool) (speed : Nat), n < 4 → speed < 3 → s.domainRuns 15 = true →
      s.rd R.USB_PORT_STAT_POWER 0 n ≠ 0 →
      exec (.downstreamPortConnect n connected speed) s = .next (((((s.begin.wr R.USB_PORT_STAT_STATE (if connected
        then portDisabled else portDisconnected) 0 n).resetGone n).wr R.USB_PORT_STAT_SPEED (if connected then
        speed else 0) 0 n).irq usbHubPage (4 + n)).portChanged n 0))

/-- The engines' units, mailboxes, failures, reloads and bindings complete (12_engines_and_management.md). -/
def Obligations.EnginesComplete : Prop :=
  ∀ s : State,
    (∀ (k : Nat) (u : UnitMsg), k < 2 → s.domainRuns (10 + k) = true →
      exec (.engineUnit k u) s = .next (s.begin.engUnit k u)) ∧
    (∀ (path e : Nat), e < 16 → s.letsWrite path (0x370058 + 0x1000 * e) →
      exec (.engCmdqPush path e) s = .next ((s.begin.tlpIn path).cmdPush e)) ∧
    (∀ (path e : Nat), e < 16 → s.letsRead path (0x37009C + 0x1000 * e) →
      exec (.engRspRead path e) s = .next ((s.begin.tlpIn path).rspRead path e)) ∧
    (∀ (e w0 w1 w2 w3 w4 : Nat) (payload : List Byte), e < 16 → s.domainRuns (10 + e / 8) = true →
      s.serves e = true → s.fails e = false →
      exec (.engineSend e w0 w1 w2 w3 w4 payload) s = .next (s.begin.engSend e w0 w1 w2 w3 w4 payload)) ∧
    (∀ (e : Nat) (region : List Byte), e < 16 → s.domainRuns (10 + e / 8) = true → s.serves e = true →
      s.fails e = false →
      exec (.checkpointDoorbell e region) s = .next (s.begin.commitCkpt e region)) ∧
    (∀ (e : Nat), e < 16 → s.domainRuns (10 + e / 8) = true → s.serves e = true → s.hasCkpt e = true →
      exec (.ckptStale e) s = .next ((s.begin.wr R.ENG_HEALTH_CKPT_STALE 1 e).irq (enginePage e) 2)) ∧
    (∀ (e : Nat), e < 16 → s.domainRuns (10 + e / 8) = true → (s.engine e).kickAt ≠ some s.hw →
      exec (.engineWatchdog e) s = .next (s.begin.engFail e faultWatchdog)) ∧
    (∀ (e : Nat) (err : EngineErr), e < 16 → s.domainRuns (10 + e / 8) = true → err.trap = true →
      exec (.engineFault e err) s = .next ((s.begin.engCorrected e err.corr).engFail e faultTrap)) ∧
    (∀ (e : Nat) (err : EngineErr), e < 16 → s.domainRuns (10 + e / 8) = true → err.trap = false →
      exec (.engineFault e err) s = .next ((((s.begin.engCorrected e err.corr).bump R.ENG_ECC_CNT_UNCORR e).tally
        0x1D1).engFail e faultEcc)) ∧
    (∀ (path e : Nat), e < 16 → s.letsWrite path (0x370044 + 0x1000 * e) → s.serves e = true →
      exec (.engRestart path e) s = .next (((s.begin.tlpIn path).engFail e faultCommand).engResult e 0)) ∧
    (∀ (e : Nat) (intact : Bool), e < 16 → s.domainRuns (10 + e / 8) = true →
      exec (.engineReloadDone e intact) s = .next (s.begin.reloadDone e intact)) ∧
    (∀ (path e : Nat), e < 16 → s.letsWrite path (0x370044 + 0x1000 * e) →
      exec (.engReload path e) s = .next ((s.begin.tlpIn path).engReload e)) ∧
    (∀ (e : Nat) (intact : Bool), e < 16 → s.domainRuns (10 + e / 8) = true →
      exec (.reloadComplete e intact) s = .next (s.begin.reloadComplete e intact)) ∧
    (∀ (path e data : Nat) (intact : Bool), e < 16 → s.letsWrite path (0x370040 + 0x1000 * e) → s.pwr.drained < 2 →
      exec (.engineStart path e data intact) s = .next (((s.begin.tlpIn path).store path (0x370040 + 0x1000 * e) (data
        / 2 * 2 + 1) [R.ENG_CFG_ROLE, R.ENG_CFG_KIND, R.ENG_CFG_SLOT, R.ENG_CFG_AUTO_RESPARE] e).engStart e
        intact)) ∧
    (∀ (path e data : Nat), e < 16 → s.letsWrite path (0x370040 + 0x1000 * e) →
      exec (.engineDisable path e data) s = .next (((s.begin.tlpIn path).store path (0x370040 + 0x1000 * e) (data / 2
        * 2) [R.ENG_CFG_ROLE, R.ENG_CFG_KIND, R.ENG_CFG_SLOT, R.ENG_CFG_AUTO_RESPARE] e).engStop e)) ∧
    (∀ (e : Nat), e < 16 → s.domainRuns (10 + e / 8) = true → s.engSt e = engDraining →
      exec (.engineDrainTimeout e) s = .next (s.begin.engDrainEnd e)) ∧
    (∀ (path kind slot : Nat), kind < 256 → slot < 2 → s.letsWrite path 0x360044 →
      exec (.engCacheLoad path kind slot) s = .next ((s.begin.tlpIn path).cacheLoad kind slot)) ∧
    (∀ (kind slot : Nat), s.domainRuns 1 = true → s.domainRuns 17 = true → s.eng.loading = some (kind, slot) →
      exec .engCacheLoadDone s = .next ((s.begin.updEng (fun x => { x with loading := none })).cacheEnter kind slot)) ∧
    (∀ (path kind slot : Nat), kind < 256 → slot < 2 → s.letsWrite path 0x360044 →
      exec (.engCacheEvict path kind slot) s = .next ((s.begin.tlpIn path).cacheEvict kind slot)) ∧
    (∀ (path k : Nat), k < 2 → s.letsWrite path (0x361048 + 0x1000 * k) →
      (exec (.engBindRead path k) s = .next ((s.begin.tlpIn path).bindRead k) ∧
      exec (.engBindWrite path k) s = .next ((s.begin.tlpIn path).bindWrite k))) ∧
    (∀ (e box : Nat), e < 16 → box < 3 → s.domainRuns (10 + e / 8) = true →
      (s.engSt e = engRun ∨ s.engSt e = engDraining) → s.fails e = false →
      exec (.engineTakeEntry e box) s = .next (s.begin.engTake e box)) ∧
    (∀ (e : Nat), e < 16 → s.domainRuns (10 + e / 8) = true → s.serves e = true →
      exec (.engineWdtKick e) s = .next ((s.begin.setEngine e { s.engine e with kickAt := some s.hw }).updEng (fun x
        => { x with failing := x.failing.erase (e, faultWatchdog) }))) ∧
    (∀ (e : Nat) (words : List Nat), e < 16 → words.length = 8 → words.all (fun w => decide (w < 2 ^ 32)) →
      s.domainRuns (10 + e / 8) = true → s.serves e = true → (s.logEng (s.logOf e)).rsp.length < 16 →
      exec (.engineRspPost e words) s = .next (s.begin.pushRsp e words))

/-- The management pairs' halts, watchdogs, calls, flash and event counters complete (12_engines_and_management.md). -/
def Obligations.ManagementCompletes : Prop :=
  ∀ s : State,
    (∀ (p cause corr : Nat) (pcs : Nat × Nat), p < 2 → 1 ≤ cause → cause ≤ 3 → pcs.1 < 2 ^ 32 → pcs.2 < 2 ^ 32 →
      s.domainRuns (2 + p) = true → s.pairRuns p = true →
      exec (.pairHalt p cause corr pcs) s = .next (s.begin.pairFault p cause pcs.1 pcs.2 corr)) ∧
    (∀ (path p src data pc0 pc1 : Nat), p < 2 → pc0 < 2 ^ 32 → pc1 < 2 ^ 32 →
      s.letsWrite path (0x011044 + 0x1000 * p) → path = pathResident → src = p → data = 0xC0DE →
      exec (.wdtKick path p src data pc0 pc1) s = .next ((s.begin.tlpIn path).wdtKick p pc0 pc1)) ∧
    (∀ (p pc0 pc1 : Nat), p < 2 → pc0 < 2 ^ 32 → pc1 < 2 ^ 32 → s.domainRuns (2 + p) = true → s.pairRuns p = true →
      (s.mpair p).kickAt ≠ some s.hw →
      exec (.pairWatchdogExpiry p pc0 pc1) s = .next (s.begin.pairHalt p haltWatchdog pc0 pc1)) ∧
    (∀ (p : Nat), p < 2 → s.domainRuns 1 = true →
      exec (.pairRestart p) s = .next (s.begin.pairRestart p)) ∧
    (∀ (path : Nat), s.letsWrite path mgtCmdAddr →
      (exec (.restartA path) s = .next ((s.begin.tlpIn path).restartCmd 0) ∧
      exec (.restartB path) s = .next ((s.begin.tlpIn path).restartCmd 1) ∧
      exec (.stopB path) s = .next ((s.begin.tlpIn path).stopB))) ∧
    (s.domainRuns 3 = true →
      exec .ecallYield s = .next s.begin) ∧
    (∀ (a1 : Nat), a1 < 2 ^ 32 → s.domainRuns 3 = true → s.customerRuns = true →
      exec (.ecallSetHandler a1) s = .next (s.begin.updMgt (fun m => { m with handler := a1 }))) ∧
    (∀ (a1 a2 : Nat), a1 < 1024 → a2 < 2 ^ 32 → s.domainRuns 3 = true → s.customerRuns = true →
      exec (.ecallIrqForward a1 a2) s = .next (s.begin.updMgt (fun m => { m with forward := m.forward.set 0 a1 a2 }))) ∧
    (∀ (a1 : Nat), a1 < 2 ^ 32 → s.domainRuns 3 = true → s.customerRuns = true →
      exec (.ecallMboxRead a1) s = .next (s.begin.mboxRead a1)) ∧
    (s.domainRuns 3 = true → s.customerRuns = true →
      exec .pairbFault s = .next s.begin.customerFault) ∧
    (s.domainRuns 1 = true →
      exec .bootStepDone s = .next s.begin.bootStep) ∧
    (∀ (path : Nat), s.letsWrite path flashCmdAddr →
      (exec (.flashRead path) s = .next ((s.begin.tlpIn path).flashCmd 1) ∧
      exec (.flashProgram path) s = .next ((s.begin.tlpIn path).flashCmd 2) ∧
      exec (.flashErase4k path) s = .next ((s.begin.tlpIn path).flashCmd 3) ∧
      exec (.flashErase64k path) s = .next ((s.begin.tlpIn path).flashCmd 4))) ∧
    (s.domainRuns 1 = true →
      exec .flashOpDone s = .next s.begin.flashDone) ∧
    (∀ (path c data : Nat), c < 64 → s.letsWrite path (0x014100 + 0x10 * c) →
      exec (.evcSelWrite path c data) s = .next (((s.begin.tlpIn path).store path (0x014100 + 0x10 * c) data
        [R.MGT_EVC_SEL_EVENT, R.MGT_EVC_SEL_EN] 0 c).wr R.MGT_EVC 0 0 c)) ∧
    (∀ (path data : Nat), s.letsWrite path 0x014044 →
      exec (.evcClear path data) s = .next ((s.begin.tlpIn path).evcClear data)) ∧
    (∀ (path data : Nat), s.letsWrite path 0x014040 →
      exec (.evcFreeze path data) s = .next ((s.begin.tlpIn path).store path 0x014040 data [R.MGT_EVC_CTL_FREEZE])) ∧
    (∀ (c : Nat), c < 64 → s.domainRuns 1 = true →
      exec (.evcWrap c) s = .next (s.begin.evcWrap c))

/-- Key store and OTP commands complete; a slot whose ENG_MASK lacks an engine's bit refuses its image with USAGE (R420) (13_keys_and_authority.md). -/
def Obligations.KeyCommandsComplete : Prop :=
  ∀ s : State,
    (∀ (path : Nat), s.letsWrite path keyCmdAddr → s.rd R.KEY_STAT_BUSY = 0 →
      s.keyRefused path 1 0 0 0 (s.bufBytes R.KEY_BUF 64) = none →
      exec (.provision path) s = .next (((s.begin.tlpIn path).updKey (fun x =>
        { x with job := some ⟨1, 0, 0, 0, s.bufBytes R.KEY_BUF 64⟩ })).wr R.KEY_STAT_BUSY 1)) ∧
    (∀ (path k : Nat), k < 64 → s.letsWrite path keyCmdAddr → s.rd R.KEY_STAT_BUSY = 0 →
      s.keyRefused path 2 k 0 0 (s.bufBytes R.KEY_BUF 64) = none →
      exec (.keyLoad path k) s = .next (((s.begin.tlpIn path).updKey (fun x =>
        { x with job := some ⟨2, k, 0, 0, s.bufBytes R.KEY_BUF 64⟩ })).wr R.KEY_STAT_BUSY 1)) ∧
    (∀ (path k : Nat), k < 64 → s.letsWrite path keyCmdAddr → s.rd R.KEY_STAT_BUSY = 0 →
      s.keyRefused path 3 k 0 0 (s.bufBytes R.KEY_BUF 64) = none →
      exec (.keyClear path k) s = .next (((s.begin.tlpIn path).updKey (fun x =>
        { x with job := some ⟨3, k, 0, 0, s.bufBytes R.KEY_BUF 64⟩ })).wr R.KEY_STAT_BUSY 1)) ∧
    (∀ (path k kind usage : Nat), k < 64 → kind < 8 → usage < 32 → s.letsWrite path keyCmdAddr →
      s.rd R.KEY_STAT_BUSY = 0 → s.keyRefused path 4 k kind 0 (s.bufBytes R.KEY_BUF 64) = none →
      exec (.keyGenerate path k kind usage) s = .next (((s.begin.tlpIn path).updKey (fun x =>
        { x with job := some ⟨4, k, kind, usage, s.bufBytes R.KEY_BUF 64⟩ })).wr R.KEY_STAT_BUSY 1)) ∧
    (∀ (who : KeyUser) (k : Nat), k < 64 → who.eng < 16 → s.letsWrite who.path keyCmdAddr →
      s.rd R.KEY_STAT_BUSY = 0 → s.keyRefused who.path 5 k 0 who.eng (s.bufBytes R.KEY_BUF 64) = none →
      exec (.keyWrap who k) s = .next (((s.begin.tlpIn who.path).updKey (fun x =>
        { x with job := some ⟨5, k, 0, 0, s.bufBytes R.KEY_BUF 64⟩ })).wr R.KEY_STAT_BUSY 1)) ∧
    (∀ (who : KeyUser) (k : Nat) x, k < 64 → who.eng < 16 → who.path = pathEngine → s.letsWrite who.path keyCmdAddr →
      s.rd R.KEY_STAT_BUSY = 0 → s.loaded k = some x → x.engMask.testBit who.eng = false →
      exec (.keyWrap who k) s = .next ((s.begin.tlpIn who.path).keyResult keyUsage)) ∧
    (∀ (path k kind usage : Nat), k < 64 → kind < 8 → usage < 32 → s.letsWrite path keyCmdAddr →
      s.rd R.KEY_STAT_BUSY = 0 → s.keyRefused path 6 k kind 0 (s.bufBytes R.KEY_BUF 64) = none →
      exec (.keyDerive path k kind usage) s = .next (((s.begin.tlpIn path).updKey (fun x =>
        { x with job := some ⟨6, k, kind, usage, s.bufBytes R.KEY_BUF 64⟩ })).wr R.KEY_STAT_BUSY 1)) ∧
    (∀ (who : KeyUser) (k : Nat), k < 64 → who.eng < 16 → s.letsWrite who.path keyCmdAddr →
      s.rd R.KEY_STAT_BUSY = 0 → s.keyRefused who.path 7 k 0 who.eng (s.bufBytes R.KEY_BUF 64) = none →
      exec (.keySign who k) s = .next (((s.begin.tlpIn who.path).updKey (fun x =>
        { x with job := some ⟨7, k, 0, 0, s.bufBytes R.KEY_BUF 64⟩ })).wr R.KEY_STAT_BUSY 1)) ∧
    (∀ (who : KeyUser) (k : Nat) x, k < 64 → who.eng < 16 → who.path = pathEngine → s.letsWrite who.path keyCmdAddr →
      s.rd R.KEY_STAT_BUSY = 0 → s.rootIs rootProvisioned = true → s.loaded k = some x →
      x.engMask.testBit who.eng = false →
      exec (.keySign who k) s = .next ((s.begin.tlpIn who.path).keyResult keyUsage)) ∧
    (∀ (who : KeyUser) (k : Nat), k < 64 → who.eng < 16 → s.letsWrite who.path keyCmdAddr →
      s.rd R.KEY_STAT_BUSY = 0 → s.keyRefused who.path 8 k 0 who.eng (s.bufBytes R.KEY_BUF 64) = none →
      exec (.keyMac who k) s = .next (((s.begin.tlpIn who.path).updKey (fun x =>
        { x with job := some ⟨8, k, 0, 0, s.bufBytes R.KEY_BUF 64⟩ })).wr R.KEY_STAT_BUSY 1)) ∧
    (∀ (who : KeyUser) (k : Nat) x, k < 64 → who.eng < 16 → who.path = pathEngine → s.letsWrite who.path keyCmdAddr →
      s.rd R.KEY_STAT_BUSY = 0 → s.rootIs rootProvisioned = true → s.loaded k = some x →
      x.engMask.testBit who.eng = false →
      exec (.keyMac who k) s = .next ((s.begin.tlpIn who.path).keyResult keyUsage)) ∧
    (∀ (who : KeyUser) (k : Nat), k < 64 → who.eng < 16 → s.letsWrite who.path keyCmdAddr →
      s.rd R.KEY_STAT_BUSY = 0 → s.keyRefused who.path 9 k 0 who.eng (s.bufBytes R.KEY_BUF 64) = none →
      exec (.keyReadPub who k) s = .next (((s.begin.tlpIn who.path).updKey (fun x =>
        { x with job := some ⟨9, k, 0, 0, s.bufBytes R.KEY_BUF 64⟩ })).wr R.KEY_STAT_BUSY 1)) ∧
    (∀ (who : KeyUser) (k : Nat) x, k < 64 → who.eng < 16 → who.path = pathEngine → s.letsWrite who.path keyCmdAddr →
      s.rd R.KEY_STAT_BUSY = 0 → s.loaded k = some x → x.engMask.testBit who.eng = false →
      exec (.keyReadPub who k) s = .next ((s.begin.tlpIn who.path).keyResult keyUsage)) ∧
    (∀ (path : Nat), s.letsWrite path keyCmdAddr → s.rd R.KEY_STAT_BUSY = 0 →
      s.keyRefused path 10 0 0 0 (s.bufBytes R.KEY_BUF 64) = none →
      exec (.keyReadAttPub path) s = .next (((s.begin.tlpIn path).updKey (fun x =>
        { x with job := some ⟨10, 0, 0, 0, s.bufBytes R.KEY_BUF 64⟩ })).wr R.KEY_STAT_BUSY 1)) ∧
    (s.domainRuns 0 = true →
      exec .keyCmdComplete s = .next s.begin.keyDone) ∧
    (∀ (path : Nat), s.letsWrite path otpCmdAddr → s.rd R.KEY_OTP_STAT_BUSY = 0 → s.otpRefused path 1 0 0 = none →
      exec (.otpProgCodeHash path) s = .next (((s.begin.tlpIn path).updKey (fun x =>
        { x with otpJob := some ⟨1, 0, 0, 0, s.bufBytes R.KEY_OTP_BUF 12⟩ })).wr R.KEY_OTP_STAT_BUSY 1)) ∧
    (∀ (path : Nat), s.letsWrite path otpCmdAddr → s.rd R.KEY_OTP_STAT_BUSY = 0 → s.otpRefused path 2 0 0 = none →
      exec (.otpProgDebugHash path) s = .next (((s.begin.tlpIn path).updKey (fun x =>
        { x with otpJob := some ⟨2, 0, 0, 0, s.bufBytes R.KEY_OTP_BUF 12⟩ })).wr R.KEY_OTP_STAT_BUSY 1)) ∧
    (∀ (path : Nat), s.letsWrite path otpCmdAddr → s.rd R.KEY_OTP_STAT_BUSY = 0 → s.otpRefused path 3 0 0 = none →
      exec (.otpSetDbgNever path) s = .next (((s.begin.tlpIn path).updKey (fun x =>
        { x with otpJob := some ⟨3, 0, 0, 0, s.bufBytes R.KEY_OTP_BUF 12⟩ })).wr R.KEY_OTP_STAT_BUSY 1)) ∧
    (∀ (path kind svn : Nat), kind < 256 → svn < 64 → s.letsWrite path otpCmdAddr → s.rd R.KEY_OTP_STAT_BUSY = 0 →
      s.otpRefused path 4 kind svn = none →
      exec (.otpRaiseSvn path kind svn) s = .next (((s.begin.tlpIn path).updKey (fun x =>
        { x with otpJob := some ⟨4, 0, kind, svn, s.bufBytes R.KEY_OTP_BUF 12⟩ })).wr R.KEY_OTP_STAT_BUSY 1)) ∧
    (s.domainRuns 0 = true →
      exec .otpCommandDone s = .next s.begin.otpDone)

/-- The authority masks, tamper, attestation, debug and management tunnel commands complete (13_keys_and_authority.md). -/
def Obligations.AuthorityCompletes : Prop :=
  ∀ s : State,
    (∀ (path : Nat), s.letsWrite path authCmdAddr →
      (exec (.keyAuthRead path) s = .next ((s.begin.tlpIn path).authRead) ∧
      exec (.keyAuthWrite path) s = .next ((s.begin.tlpIn path).authWrite path) ∧
      exec (.keyAuthLock path) s = .next ((s.begin.tlpIn path).authLock path))) ∧
    (∀ (inSp : Nat) (u : UnitMsg), inSp < 24 → s.domainRuns 1 = true →
      exec (.mtunCommand inSp u) s = .next (s.begin.mtunUnit inSp u)) ∧
    (∀ (sources : Nat), sources < 128 → s.key.tampered = false → (s.begin.tamper sources).key.tampered = true →
      (s.begin.tamper sources).rst.off = false →
      exec (.tamperDetected sources) s = .next ((s.begin.tamper sources).wakeEvent 4 0)) ∧
    (∀ (sources : Nat), sources < 128 → s.key.tampered = true →
      exec (.tamperDetected sources) s = .next (s.begin.tamper sources)) ∧
    (∀ (mv : Nat), mv < 4096 →
      exec (.batLow mv) s = .next ((s.begin.vbat mv).tamperSeen ((s.begin.vbat mv).vbatSources mv))) ∧
    (∀ (path data : Nat), s.letsWrite path 0x02304C → s.ownerPath path = true →
      exec (.tamperLock path data) s = .next ((s.begin.tlpIn path).store path 0x02304C data [R.KEY_TMP_LOCK_LOCK])) ∧
    (∀ (path : Nat), s.letsWrite path 0x024040 →
      exec (.attest path) s = .next ((s.begin.tlpIn path).attest)) ∧
    (s.domainRuns 0 = true →
      exec .attestDone s = .next s.begin.attestDone) ∧
    (∀ (path scope : Nat), scope < 8 → s.letsWrite path dbgCmdAddr →
      exec (.debugChallenge path scope) s = .next ((s.begin.tlpIn path).challenge scope)) ∧
    (∀ (path : Nat), s.letsWrite path dbgCmdAddr →
      (exec (.debugRespond path) s = .next ((s.begin.tlpIn path).respond) ∧
      exec (.debugClose path) s = .next ((s.begin.tlpIn path).dbgClose))) ∧
    (s.domainRuns 0 = true →
      exec .debugNonceExpiry s = .next (s.begin.wr R.KEY_DBG_STAT_NONCE_OPEN 0))

/-- The feed and trunk power channels' events complete (14_feeds_and_fuses.md). -/
def Obligations.FeedChannelsComplete : Prop :=
  ∀ s : State,
    (∀ (c : Nat), c < 18 → s.fus.alive = true →
      (exec (.startConditionsMet c) s = .next (s.begin.chStart c) ∧
      exec (.rampComplete c) s = .next (s.begin.chRamped c))) ∧
    (∀ (c : Nat), c < 18 → s.fus.alive = true → s.chSt c = chRamp →
      exec (.startTimeout c) s = .next (s.begin.chTrip c fusStartTimeout)) ∧
    (∀ (c : Nat), c < 18 → s.fus.alive = true →
      exec (.enhanceDone c) s = .next (s.begin.chEnhanced c)) ∧
    (∀ (c : Nat), c < 18 → s.fus.alive = true → s.chSt c = chEnhance →
      exec (.passDeviceTimeout c) s = .next (s.begin.chTrip c fusPassDevice)) ∧
    (∀ (c : Nat), c < 18 → s.fus.alive = true →
      (exec (.instantTrip c) s = .next (s.begin.chInstant c) ∧
      exec (.breakerTick c) s = .next (s.begin.breakerTick c) ∧
      exec (.autoRetry c) s = .next (s.begin.chRetry c) ∧
      exec (.reverseCurrent c) s = .next (s.begin.chReverse c) ∧
      exec (.forwardRecovery c) s = .next (s.begin.chForward c) ∧
      exec (.faultTimerExpiry c) s = .next (s.begin.ftimerExpires c))) ∧
    (∀ (c vin vout vgs : Nat), c < 18 → s.fus.alive = true →
      exec (.powerGoodUpdate c vin vout vgs) s = .next ((s.begin.showPbus c vin vout).pgTick c vin vout vgs)) ∧
    (∀ (c : Nat), c < 18 → s.fus.alive = true →
      (exec (.fetShort c) s = .next (s.begin.chShort c) ∧
      exec (.inputOutOfRange c) s = .next (s.begin.chInput c))) ∧
    (∀ (c : Nat) (rawI : Int) (rawV vgs : Nat), c < 18 → s.fus.alive = true →
      exec (.channelSample c rawI rawV vgs) s = .next (s.begin.chSample c rawI rawV vgs))

/-- The power die's register commands, link and supply events complete (14_feeds_and_fuses.md). -/
def Obligations.PowerDieCompletes : Prop :=
  ∀ s : State,
    (∀ (path c data : Nat), c < 18 → s.letsWrite path (fusCfgAddr c) →
      (exec (.channelEnable path c data) s = .next ((s.begin.tlpIn path).fusCfg path c (data / 2 * 2 + 1)) ∧
      exec (.channelDisable path c data) s = .next ((s.begin.tlpIn path).fusCfg path c (data / 2 * 2)) ∧
      exec (.channelDirWrite path c data) s = .next ((s.begin.tlpIn path).fusCfg path c data))) ∧
    (∀ (path c : Nat), c < 18 → s.letsWrite path (fusCmdAddr c) →
      (exec (.fusClear path c) s = .next ((s.begin.tlpIn path).fusClear c) ∧
      exec (.applyCurve path c) s = .next ((s.begin.tlpIn path).applyCurve c) ∧
      exec (.setHeat path c) s = .next (((s.begin.tlpIn path).setHeat c ((s.begin.tlpIn path).rd R.FUS_HEAT_SET c *
        65536)).fusResult c 0) ∧
      exec (.peakClr path c) s = .next (((s.begin.tlpIn path).peakClear c).fusResult c 0) ∧
      exec (.energyClr path c) s = .next (((s.begin.tlpIn path).energyClear c).fusResult c 0))) ∧
    (∀ (path : Nat), s.letsWrite path 0x06004C →
      exec (.preloadProgram path) s = .next ((s.begin.tlpIn path).preloadProgram path)) ∧
    (∀ (t : Int), s.fus.alive = true →
      exec (.pdOverTemp t) s = .next (s.begin.pdTemp t)) ∧
    (s.fus.alive = true → s.domainRuns 1 = true → s.pdLinkUp = false →
      exec .pdLinkUp s = .next s.begin.pdUp) ∧
    exec .pdLinkLost s = .next s.begin.pdLost ∧
    (s.pdLinkUp = true →
      exec .pdTimeCorrection s = .next s.begin.copyCorrected) ∧
    (∀ (mv : Nat), s.fus.alive = false → 9600 ≤ mv →
      exec (.powerDieColdPowerUp mv) s = .next (s.begin.pdPowerUp mv)) ∧
    (∀ (mv : Nat), s.fus.alive = true →
      exec (.vinPdLow mv) s = .next (s.begin.vinLow mv))

/-- The cable power dialogue's messages, resets and role swaps complete (15_cable_power_dialogue.md). -/
def Obligations.CableDialogueCompletes : Prop :=
  ∀ s : State,
    (∀ (n : Nat) (a b : Bool), n < 16 → s.fus.alive = true → (a || b) = true →
      exec (.seatOpen n a b) s = .next ((s.begin.seatsRead n a b).seatOpens n)) ∧
    (∀ (n : Nat) (a b : Bool), n < 16 → s.fus.alive = true → a = false → b = false →
      exec (.seatOpen n a b) s = .next (s.begin.seatsRead n false false)) ∧
    (∀ (n : Nat), n < 16 → s.fus.alive = true →
      exec (.seatSettled n) s = .next (s.begin.seatSettles n)) ∧
    (∀ (path n data : Nat), n < 16 → s.letsWrite path (cpdBase n) →
      exec (.cpdEnableWrite path n data) s = .next (((s.begin.tlpIn path).store path (cpdBase n) data [R.CPD_CFG_EN,
        R.CPD_CFG_DFP, R.CPD_CFG_AUTO_FRS] (n / 4) (n % 4)).cpdAttach n)) ∧
    (∀ (path n : Nat), n < 16 → s.letsWrite path (cpdBase n + 4) →
      exec (.cpdSend path n) s = .next ((s.begin.tlpIn path).cpdSend n)) ∧
    (∀ (n : Nat), n < 16 → s.fus.alive = true →
      exec (.cpdTransmitStart n) s = .next (s.begin.txStart n)) ∧
    (∀ (n id : Nat), n < 16 → s.fus.alive = true → id = s.crd R.CPD_STAT_MSGID n →
      exec (.cpdGoodcrcReceived n id) s = .next ((s.begin.goodCrc n).hrWaited n)) ∧
    (∀ (n : Nat), n < 16 → s.fus.alive = true →
      (exec (.cpdRetryTimeout n) s = .next (s.begin.txTimeout n) ∧
      exec (.cpdCollision n) s = .next ((s.begin.txCollides n).hrWaited n))) ∧
    (∀ (n hdr : Nat) (data : List Nat) (good : Bool) (sink : DspSink) (lost : Bool) (x : State), n < 16 →
      hdr < 65536 → data.all (fun w => decide (w < 2 ^ 32)) → s.fus.alive = true → s.cpdAttached n = true →
      good = true → x = s.begin.cpdReceive n hdr data sink lost → x.onLine n = none →
      exec (.cpdMessageReceived n hdr data good sink lost) s = .next (x.hrWaited n)) ∧
    (∀ (n hdr : Nat) (data : List Nat) (good : Bool) (sink : DspSink) (lost : Bool) (x : State), n < 16 →
      hdr < 65536 → data.all (fun w => decide (w < 2 ^ 32)) → s.fus.alive = true → s.cpdAttached n = true →
      good = true → x = s.begin.cpdReceive n hdr data sink lost → x.onLine n ≠ none →
      exec (.cpdMessageReceived n hdr data good sink lost) s = .next x) ∧
    (∀ (n hdr : Nat) (data : List Nat) (good : Bool) (sink : DspSink) (lost : Bool), n < 16 → hdr < 65536 →
      data.all (fun w => decide (w < 2 ^ 32)) → s.fus.alive = true → s.cpdAttached n = true → good = false →
      exec (.cpdMessageReceived n hdr data good sink lost) s = .next (s.begin.cbump R.CPD_RX_CRC n)) ∧
    (∀ (path n : Nat), n < 16 → s.letsRead path (cpdBase n + 0x48) →
      exec (.cpdRxRead path n) s = .next ((s.begin.tlpIn path).cpdRxRead path n)) ∧
    (∀ (n : Nat), n < 16 → s.fus.alive = true →
      exec (.cpdResponseTimeout n) s = .next (s.begin.respExpires n)) ∧
    (∀ (path n : Nat), n < 16 → s.letsWrite path (cpdBase n + 4) →
      exec (.cpdSwapEnd path n) s = .next (((s.begin.tlpIn path).swapEnd n).cpdResult n 0)) ∧
    (∀ (path n : Nat), n < 16 → s.letsWrite path (cpdBase n + 4) → s.cpdAttached n = true → s.onLine n = none →
      exec (.cpdHardReset path n) s = .next (((s.begin.tlpIn path).hrSend n).cpdResult n 0)) ∧
    (∀ (n : Nat), n < 16 → s.fus.alive = true → s.cpdAttached n = true →
      exec (.hardResetReceived n) s = .next (s.begin.hardReset n)) ∧
    (∀ (n : Nat), n < 16 → s.fus.alive = true →
      (exec (.psHrExpiry n) s = .next (s.begin.psHr n) ∧
      exec (.srcRecoverExpiry n) s = .next (s.begin.srcRecover n) ∧
      exec (.recoverMaxExpiry n) s = .next (s.begin.recovered n))) ∧
    (∀ (path n : Nat), n < 16 → s.letsWrite path (cpdBase n + 4) →
      exec (.cpdFrsSend path n) s = .next ((((s.begin.tlpIn path).frsSend n).hrWaited n).cpdResult n 0)) ∧
    (∀ (n : Nat), n < 16 → s.fus.alive = true → s.crd R.CPD_CFG_AUTO_FRS n = 1 → s.rd R.FUS_STAT_DIR n = 0 →
      s.rd R.CPD_FRS_CFG_PBUS_THR ≠ 0 →
      exec (.autoFrs n) s = .next ((s.begin.frsSend n).hrWaited n)) ∧
    (∀ (n : Nat), n < 16 → s.fus.alive = true →
      exec (.frsDetected n) s = .next (s.begin.frsReport n)) ∧
    (∀ (path n : Nat), n < 16 → s.letsWrite path (cpdBase n + 4) →
      exec (.cpdFrsConfirm path n) s = .next ((s.begin.tlpIn path).frsConfirm n)) ∧
    (∀ (n : Nat), n < 16 → s.fus.alive = true → (s.phy n).confirm = true →
      exec (.frsTmo n) s = .next ((s.begin.setPhy n { s.phy n with confirm := false }).cpdIrq n 7))

/-- The power state requests, the regulators' answers, the wakes, the resets and the temperature samples complete (16_power_states_and_clocks.md, 17_reset_faults_and_recovery.md). -/
def Obligations.PowerStatesAndResetsComplete : Prop :=
  ∀ s : State,
    (∀ (path target : Nat), target < 8 → s.letsWrite path pwrReqAddr →
      exec (.powerStateRequest path target) s = .next ((s.begin.tlpIn path).pwrRequest path target)) ∧
    (∀ (t : PwrTrans), s.domainRuns 0 = true → s.begin.watchEntry.entering = some t →
      exec .entryQuiesceDone s = .next (s.begin.watchEntry.quiesced t)) ∧
    (∀ (status : Nat) (pgood : Bool) (mode : Nat), status < 65536 → mode < 256 → s.domainRuns 0 = true →
      exec (.regulatorAck status pgood mode) s = .next (s.begin.regPolled status pgood mode)) ∧
    (∀ (status : Nat), status < 65536 → s.domainRuns 0 = true →
      exec (.regulatorNoack status) s = .next (s.begin.regTimesOut status)) ∧
    (s.domainRuns 0 = true → s.pwr.idle = true →
      exec .regulatorRetry s = .next s.begin.regSend) ∧
    (∀ (t : PwrTrans), s.domainRuns 0 = true → s.pwr.trans = some t → t.leaving = true → t.stage = .domains →
      s.functionsDrained s.pwr.drained = true →
      exec .exitStepDone s = .next (s.begin.exitDone t)) ∧
    (∀ (sources trunk : Nat), sources < 32 → trunk < 16 → s.domainRuns 0 = true →
      exec (.wakeEvent sources trunk) s = .next (s.begin.wakeEvent sources trunk)) ∧
    (s.domainRuns 0 = true → s.rd R.PWR_WAKE_TIME ≠ 0 →
      exec .aonTimerWake s = .next (s.begin.wakeEvent 8 0)) ∧
    (∀ (d : Nat), 6 ≤ d → d < 15 → s.domainRuns 0 = true →
      (exec (.domainAutoPowerOn d) s = .next (s.begin.autoOn d) ∧
      exec (.domainIdlePowerOff d) s = .next (s.begin.idleOff d))) ∧
    (∀ (st : List Nat), st.length = 4 → st.all (fun w => decide (w < 65536)) → s.domainRuns 0 = true →
      exec (.pmbusAlert st) s = .next (s.begin.alertLow st)) ∧
    (∀ (path k data : Nat) (x : State), k < 3 → s.letsWrite path (0x31074 + 4 * k) →
      x = (s.begin.tlpIn path).store path (0x31074 + 4 * k) data [R.PWR_VIDU] 0 k → x.vid k ≠ s.vid k →
      x.pwr.trans = none → k = State.vidIndex x.pwrState →
      exec (.vidTrimWrite path k data) s = .next (x.regAsk [(0, .volt x.vidNow)])) ∧
    (∀ (path k data : Nat) (x : State), k < 3 → s.letsWrite path (0x31074 + 4 * k) →
      x = (s.begin.tlpIn path).store path (0x31074 + 4 * k) data [R.PWR_VIDU] 0 k → x.vid k ≠ s.vid k →
      x.pwr.trans ≠ none →
      exec (.vidTrimWrite path k data) s = .next (x.updPwr (fun p => { p with trimmed := p.trimmed ++ [k] }))) ∧
    (∀ (path k data : Nat) (x : State), k < 3 → s.letsWrite path (0x31074 + 4 * k) →
      x = (s.begin.tlpIn path).store path (0x31074 + 4 * k) data [R.PWR_VIDU] 0 k →
      (x.vid k = s.vid k ∨ (x.pwr.trans = none ∧ k ≠ State.vidIndex x.pwrState)) →
      exec (.vidTrimWrite path k data) s = .next x) ∧
    (∀ (k : Nat), k < 16 → s.domainRuns 0 = true →
      exec (.pllLossOfLock k) s = .next (s.begin.lockLost k)) ∧
    (∀ (ppm : Int), -32768 ≤ ppm → ppm < 32768 → s.domainRuns 1 = true →
      exec (.aonTrim ppm) s = .next (s.begin.wr R.CLK_AON_PPM (unsignedOf 16 ppm))) ∧
    (s.domainRuns 17 = true → s.pwrState ≤ 2 → 4 < s.rd R.DSP_LT → s.pwr.refresh = false →
      exec .dramSelfRefreshEntry s = .next ((s.begin.updPwr (fun p => { p with refresh := true })).tally 0x1C2)) ∧
    (∀ (ns : Nat), s.rst.off = false →
      exec (.rstNAssert ns) s = .next (s.begin.rstLow ns)) ∧
    (s.rst.pin = true → s.rst.off = false →
      exec .rstNRelease s = .next (({ s.begin with rst := { s.rst with pin := false } } : State).holdOrRelease)) ∧
    (∀ (path : Nat), s.letsWrite path 0x1040 →
      exec (.chipRstWarm path) s = .next ((s.begin.tlpIn path).armReset path)) ∧
    (s.rst.armed = true → s.rst.off = false →
      exec .warmReset s = .next ((s.begin.warmReset [R.CHIP_RST_CAUSE_COMMAND]).holdOrRelease)) ∧
    (∀ (voutMode : Nat) (intact : Bool), voutMode < 256 →
      exec (.coldReset voutMode intact) s = .next (s.begin.coldReset voutMode intact)) ∧
    (∀ (x : State), s.rst.lost = true → s.rst.pll = false → s.rst.off = false → s.rst.held = false →
      x = s.begin.warmReset [R.CHIP_RST_CAUSE_PLL] →
      exec .rootPllTimeout s = .next (({ x with rst := { x.rst with pll := true } } : State).holdOrRelease)) ∧
    (∀ (raw : List Int), raw.length = 8 → s.domainRuns 1 = true →
      exec (.temperatureSample raw) s = .next (s.begin.temperatures raw)) ∧
    (∀ (k : Nat) (x : State), k < 16 → s.rst.off = false → k = 0 →
      x = s.begin.wr R.CLK_LOCK (s.rd R.CLK_LOCK ||| 2 ^ k) →
      exec (.pllRelock k) s = .next (({ x with rst := { x.rst with lost := false, pll := false } } :
        State).holdOrRelease)) ∧
    (∀ (k : Nat), k < 16 → s.rst.off = false → k ≠ 0 →
      exec (.pllRelock k) s = .next (s.begin.wr R.CLK_LOCK (s.rd R.CLK_LOCK ||| 2 ^ k))) ∧
    (s.rst.off = false →
      exec .coreDiePowerLoss s = .next s.begin.coreDies) ∧
    (s.rst.off = true →
      exec .islandPowerLoss s = .next s.begin.islandDies)
end

