-- ==== Sys2Proof/Laws/State.lean ====
section
/-! SUPPORT. What each update of the state leaves and sets: one lemma per field per update, all true by definition. -/

namespace Sys2Proof.Machine.State

variable (s : State)

@[simp] theorem begin_pending : (s.begin).pending = s.pending := rfl
@[simp] theorem begin_hw : (s.begin).hw = s.hw := rfl
@[simp] theorem begin_free : (s.begin).free = s.free := rfl
@[simp] theorem begin_out : (s.begin).out = [] := rfl
@[simp] theorem begin_regs : (s.begin).regs = s.regs := rfl
@[simp] theorem begin_tun : (s.begin).tun = s.tun := rfl
@[simp] theorem begin_links : (s.begin).links = s.links := rfl
@[simp] theorem begin_planes : (s.begin).planes = s.planes := rfl
@[simp] theorem begin_mcg : (s.begin).mcg = s.mcg := rfl
@[simp] theorem begin_rgm : (s.begin).rgm = s.rgm := rfl
@[simp] theorem begin_sch : (s.begin).sch = s.sch := rfl
@[simp] theorem begin_dram : (s.begin).dram = s.dram := rfl
@[simp] theorem begin_dsp : (s.begin).dsp = s.dsp := rfl
@[simp] theorem begin_sto : (s.begin).sto = s.sto := rfl
@[simp] theorem begin_brg : (s.begin).brg = s.brg := rfl
@[simp] theorem begin_net : (s.begin).net = s.net := rfl
@[simp] theorem begin_usb : (s.begin).usb = s.usb := rfl
@[simp] theorem begin_tim : (s.begin).tim = s.tim := rfl
@[simp] theorem begin_eng : (s.begin).eng = s.eng := rfl
@[simp] theorem begin_mgt : (s.begin).mgt = s.mgt := rfl
@[simp] theorem begin_key : (s.begin).key = s.key := rfl
@[simp] theorem begin_fus : (s.begin).fus = s.fus := rfl
@[simp] theorem begin_jnl : (s.begin).jnl = s.jnl := rfl
@[simp] theorem begin_csr : (s.begin).csr = s.csr := rfl
@[simp] theorem begin_pwr : (s.begin).pwr = s.pwr := rfl
@[simp] theorem begin_rst : (s.begin).rst = s.rst := rfl

@[simp] theorem wr_pending (f : Field) (v i j : Nat) : (s.wr f v i j).pending = s.pending := rfl
@[simp] theorem wr_hw (f : Field) (v i j : Nat) : (s.wr f v i j).hw = s.hw := rfl
@[simp] theorem wr_free (f : Field) (v i j : Nat) : (s.wr f v i j).free = s.free := rfl
@[simp] theorem wr_out (f : Field) (v i j : Nat) : (s.wr f v i j).out = s.out := rfl
@[simp] theorem wr_regs (f : Field) (v i j : Nat) : (s.wr f v i j).regs = f.put v i j s.regs := rfl
@[simp] theorem wr_tun (f : Field) (v i j : Nat) : (s.wr f v i j).tun = s.tun := rfl
@[simp] theorem wr_links (f : Field) (v i j : Nat) : (s.wr f v i j).links = s.links := rfl
@[simp] theorem wr_planes (f : Field) (v i j : Nat) : (s.wr f v i j).planes = s.planes := rfl
@[simp] theorem wr_mcg (f : Field) (v i j : Nat) : (s.wr f v i j).mcg = s.mcg := rfl
@[simp] theorem wr_rgm (f : Field) (v i j : Nat) : (s.wr f v i j).rgm = s.rgm := rfl
@[simp] theorem wr_sch (f : Field) (v i j : Nat) : (s.wr f v i j).sch = s.sch := rfl
@[simp] theorem wr_dram (f : Field) (v i j : Nat) : (s.wr f v i j).dram = s.dram := rfl
@[simp] theorem wr_dsp (f : Field) (v i j : Nat) : (s.wr f v i j).dsp = s.dsp := rfl
@[simp] theorem wr_sto (f : Field) (v i j : Nat) : (s.wr f v i j).sto = s.sto := rfl
@[simp] theorem wr_brg (f : Field) (v i j : Nat) : (s.wr f v i j).brg = s.brg := rfl
@[simp] theorem wr_net (f : Field) (v i j : Nat) : (s.wr f v i j).net = s.net := rfl
@[simp] theorem wr_usb (f : Field) (v i j : Nat) : (s.wr f v i j).usb = s.usb := rfl
@[simp] theorem wr_tim (f : Field) (v i j : Nat) : (s.wr f v i j).tim = s.tim := rfl
@[simp] theorem wr_eng (f : Field) (v i j : Nat) : (s.wr f v i j).eng = s.eng := rfl
@[simp] theorem wr_mgt (f : Field) (v i j : Nat) : (s.wr f v i j).mgt = s.mgt := rfl
@[simp] theorem wr_key (f : Field) (v i j : Nat) : (s.wr f v i j).key = s.key := rfl
@[simp] theorem wr_fus (f : Field) (v i j : Nat) : (s.wr f v i j).fus = s.fus := rfl
@[simp] theorem wr_jnl (f : Field) (v i j : Nat) : (s.wr f v i j).jnl = s.jnl := rfl
@[simp] theorem wr_csr (f : Field) (v i j : Nat) : (s.wr f v i j).csr = s.csr := rfl
@[simp] theorem wr_pwr (f : Field) (v i j : Nat) : (s.wr f v i j).pwr = s.pwr := rfl
@[simp] theorem wr_rst (f : Field) (v i j : Nat) : (s.wr f v i j).rst = s.rst := rfl

@[simp] theorem emit_pending (e : Emit) : (s.emit e).pending = s.pending := rfl
@[simp] theorem emit_hw (e : Emit) : (s.emit e).hw = s.hw := rfl
@[simp] theorem emit_free (e : Emit) : (s.emit e).free = s.free := rfl
@[simp] theorem emit_out (e : Emit) : (s.emit e).out = s.out ++ [e] := rfl
@[simp] theorem emit_regs (e : Emit) : (s.emit e).regs = s.regs := rfl
@[simp] theorem emit_tun (e : Emit) : (s.emit e).tun = s.tun := rfl
@[simp] theorem emit_links (e : Emit) : (s.emit e).links = s.links := rfl
@[simp] theorem emit_planes (e : Emit) : (s.emit e).planes = s.planes := rfl
@[simp] theorem emit_mcg (e : Emit) : (s.emit e).mcg = s.mcg := rfl
@[simp] theorem emit_rgm (e : Emit) : (s.emit e).rgm = s.rgm := rfl
@[simp] theorem emit_sch (e : Emit) : (s.emit e).sch = s.sch := rfl
@[simp] theorem emit_dram (e : Emit) : (s.emit e).dram = s.dram := rfl
@[simp] theorem emit_dsp (e : Emit) : (s.emit e).dsp = s.dsp := rfl
@[simp] theorem emit_sto (e : Emit) : (s.emit e).sto = s.sto := rfl
@[simp] theorem emit_brg (e : Emit) : (s.emit e).brg = s.brg := rfl
@[simp] theorem emit_net (e : Emit) : (s.emit e).net = s.net := rfl
@[simp] theorem emit_usb (e : Emit) : (s.emit e).usb = s.usb := rfl
@[simp] theorem emit_tim (e : Emit) : (s.emit e).tim = s.tim := rfl
@[simp] theorem emit_eng (e : Emit) : (s.emit e).eng = s.eng := rfl
@[simp] theorem emit_mgt (e : Emit) : (s.emit e).mgt = s.mgt := rfl
@[simp] theorem emit_key (e : Emit) : (s.emit e).key = s.key := rfl
@[simp] theorem emit_fus (e : Emit) : (s.emit e).fus = s.fus := rfl
@[simp] theorem emit_jnl (e : Emit) : (s.emit e).jnl = s.jnl := rfl
@[simp] theorem emit_csr (e : Emit) : (s.emit e).csr = s.csr := rfl
@[simp] theorem emit_pwr (e : Emit) : (s.emit e).pwr = s.pwr := rfl
@[simp] theorem emit_rst (e : Emit) : (s.emit e).rst = s.rst := rfl

@[simp] theorem tookFree_pending : (s.tookFree).pending = s.pending := rfl
@[simp] theorem tookFree_hw : (s.tookFree).hw = s.hw := rfl
@[simp] theorem tookFree_free : (s.tookFree).free = s.free + 1 := rfl
@[simp] theorem tookFree_out : (s.tookFree).out = s.out := rfl
@[simp] theorem tookFree_regs : (s.tookFree).regs = s.regs := rfl
@[simp] theorem tookFree_tun : (s.tookFree).tun = s.tun := rfl
@[simp] theorem tookFree_links : (s.tookFree).links = s.links := rfl
@[simp] theorem tookFree_planes : (s.tookFree).planes = s.planes := rfl
@[simp] theorem tookFree_mcg : (s.tookFree).mcg = s.mcg := rfl
@[simp] theorem tookFree_rgm : (s.tookFree).rgm = s.rgm := rfl
@[simp] theorem tookFree_sch : (s.tookFree).sch = s.sch := rfl
@[simp] theorem tookFree_dram : (s.tookFree).dram = s.dram := rfl
@[simp] theorem tookFree_dsp : (s.tookFree).dsp = s.dsp := rfl
@[simp] theorem tookFree_sto : (s.tookFree).sto = s.sto := rfl
@[simp] theorem tookFree_brg : (s.tookFree).brg = s.brg := rfl
@[simp] theorem tookFree_net : (s.tookFree).net = s.net := rfl
@[simp] theorem tookFree_usb : (s.tookFree).usb = s.usb := rfl
@[simp] theorem tookFree_tim : (s.tookFree).tim = s.tim := rfl
@[simp] theorem tookFree_eng : (s.tookFree).eng = s.eng := rfl
@[simp] theorem tookFree_mgt : (s.tookFree).mgt = s.mgt := rfl
@[simp] theorem tookFree_key : (s.tookFree).key = s.key := rfl
@[simp] theorem tookFree_fus : (s.tookFree).fus = s.fus := rfl
@[simp] theorem tookFree_jnl : (s.tookFree).jnl = s.jnl := rfl
@[simp] theorem tookFree_csr : (s.tookFree).csr = s.csr := rfl
@[simp] theorem tookFree_pwr : (s.tookFree).pwr = s.pwr := rfl
@[simp] theorem tookFree_rst : (s.tookFree).rst = s.rst := rfl

@[simp] theorem setLink_pending (n : Nat) (l : Link) : (s.setLink n l).pending = s.pending := rfl
@[simp] theorem setLink_hw (n : Nat) (l : Link) : (s.setLink n l).hw = s.hw := rfl
@[simp] theorem setLink_free (n : Nat) (l : Link) : (s.setLink n l).free = s.free := rfl
@[simp] theorem setLink_out (n : Nat) (l : Link) : (s.setLink n l).out = s.out := rfl
@[simp] theorem setLink_regs (n : Nat) (l : Link) : (s.setLink n l).regs = s.regs := rfl
@[simp] theorem setLink_tun (n : Nat) (l : Link) : (s.setLink n l).tun = s.tun := rfl
@[simp] theorem setLink_links (n : Nat) (l : Link) : (s.setLink n l).links = s.links.set {} n l := rfl
@[simp] theorem setLink_planes (n : Nat) (l : Link) : (s.setLink n l).planes = s.planes := rfl
@[simp] theorem setLink_mcg (n : Nat) (l : Link) : (s.setLink n l).mcg = s.mcg := rfl
@[simp] theorem setLink_rgm (n : Nat) (l : Link) : (s.setLink n l).rgm = s.rgm := rfl
@[simp] theorem setLink_sch (n : Nat) (l : Link) : (s.setLink n l).sch = s.sch := rfl
@[simp] theorem setLink_dram (n : Nat) (l : Link) : (s.setLink n l).dram = s.dram := rfl
@[simp] theorem setLink_dsp (n : Nat) (l : Link) : (s.setLink n l).dsp = s.dsp := rfl
@[simp] theorem setLink_sto (n : Nat) (l : Link) : (s.setLink n l).sto = s.sto := rfl
@[simp] theorem setLink_brg (n : Nat) (l : Link) : (s.setLink n l).brg = s.brg := rfl
@[simp] theorem setLink_net (n : Nat) (l : Link) : (s.setLink n l).net = s.net := rfl
@[simp] theorem setLink_usb (n : Nat) (l : Link) : (s.setLink n l).usb = s.usb := rfl
@[simp] theorem setLink_tim (n : Nat) (l : Link) : (s.setLink n l).tim = s.tim := rfl
@[simp] theorem setLink_eng (n : Nat) (l : Link) : (s.setLink n l).eng = s.eng := rfl
@[simp] theorem setLink_mgt (n : Nat) (l : Link) : (s.setLink n l).mgt = s.mgt := rfl
@[simp] theorem setLink_key (n : Nat) (l : Link) : (s.setLink n l).key = s.key := rfl
@[simp] theorem setLink_fus (n : Nat) (l : Link) : (s.setLink n l).fus = s.fus := rfl
@[simp] theorem setLink_jnl (n : Nat) (l : Link) : (s.setLink n l).jnl = s.jnl := rfl
@[simp] theorem setLink_csr (n : Nat) (l : Link) : (s.setLink n l).csr = s.csr := rfl
@[simp] theorem setLink_pwr (n : Nat) (l : Link) : (s.setLink n l).pwr = s.pwr := rfl
@[simp] theorem setLink_rst (n : Nat) (l : Link) : (s.setLink n l).rst = s.rst := rfl

@[simp] theorem setPlane_pending (p : Nat) (x : Plane) : (s.setPlane p x).pending = s.pending := rfl
@[simp] theorem setPlane_hw (p : Nat) (x : Plane) : (s.setPlane p x).hw = s.hw := rfl
@[simp] theorem setPlane_free (p : Nat) (x : Plane) : (s.setPlane p x).free = s.free := rfl
@[simp] theorem setPlane_out (p : Nat) (x : Plane) : (s.setPlane p x).out = s.out := rfl
@[simp] theorem setPlane_regs (p : Nat) (x : Plane) : (s.setPlane p x).regs = s.regs := rfl
@[simp] theorem setPlane_tun (p : Nat) (x : Plane) : (s.setPlane p x).tun = s.tun := rfl
@[simp] theorem setPlane_links (p : Nat) (x : Plane) : (s.setPlane p x).links = s.links := rfl
@[simp] theorem setPlane_planes (p : Nat) (x : Plane) : (s.setPlane p x).planes = s.planes.set {} p x := rfl
@[simp] theorem setPlane_mcg (p : Nat) (x : Plane) : (s.setPlane p x).mcg = s.mcg := rfl
@[simp] theorem setPlane_rgm (p : Nat) (x : Plane) : (s.setPlane p x).rgm = s.rgm := rfl
@[simp] theorem setPlane_sch (p : Nat) (x : Plane) : (s.setPlane p x).sch = s.sch := rfl
@[simp] theorem setPlane_dram (p : Nat) (x : Plane) : (s.setPlane p x).dram = s.dram := rfl
@[simp] theorem setPlane_dsp (p : Nat) (x : Plane) : (s.setPlane p x).dsp = s.dsp := rfl
@[simp] theorem setPlane_sto (p : Nat) (x : Plane) : (s.setPlane p x).sto = s.sto := rfl
@[simp] theorem setPlane_brg (p : Nat) (x : Plane) : (s.setPlane p x).brg = s.brg := rfl
@[simp] theorem setPlane_net (p : Nat) (x : Plane) : (s.setPlane p x).net = s.net := rfl
@[simp] theorem setPlane_usb (p : Nat) (x : Plane) : (s.setPlane p x).usb = s.usb := rfl
@[simp] theorem setPlane_tim (p : Nat) (x : Plane) : (s.setPlane p x).tim = s.tim := rfl
@[simp] theorem setPlane_eng (p : Nat) (x : Plane) : (s.setPlane p x).eng = s.eng := rfl
@[simp] theorem setPlane_mgt (p : Nat) (x : Plane) : (s.setPlane p x).mgt = s.mgt := rfl
@[simp] theorem setPlane_key (p : Nat) (x : Plane) : (s.setPlane p x).key = s.key := rfl
@[simp] theorem setPlane_fus (p : Nat) (x : Plane) : (s.setPlane p x).fus = s.fus := rfl
@[simp] theorem setPlane_jnl (p : Nat) (x : Plane) : (s.setPlane p x).jnl = s.jnl := rfl
@[simp] theorem setPlane_csr (p : Nat) (x : Plane) : (s.setPlane p x).csr = s.csr := rfl
@[simp] theorem setPlane_pwr (p : Nat) (x : Plane) : (s.setPlane p x).pwr = s.pwr := rfl
@[simp] theorem setPlane_rst (p : Nat) (x : Plane) : (s.setPlane p x).rst = s.rst := rfl

@[simp] theorem setLatch_pending (path addr v : Nat) : (s.setLatch path addr v).pending = s.pending := rfl
@[simp] theorem setLatch_hw (path addr v : Nat) : (s.setLatch path addr v).hw = s.hw := rfl
@[simp] theorem setLatch_free (path addr v : Nat) : (s.setLatch path addr v).free = s.free := rfl
@[simp] theorem setLatch_out (path addr v : Nat) : (s.setLatch path addr v).out = s.out := rfl
@[simp] theorem setLatch_regs (path addr v : Nat) : (s.setLatch path addr v).regs = s.regs := rfl
@[simp] theorem setLatch_tun (path addr v : Nat) : (s.setLatch path addr v).tun = s.tun := rfl
@[simp] theorem setLatch_links (path addr v : Nat) : (s.setLatch path addr v).links = s.links := rfl
@[simp] theorem setLatch_planes (path addr v : Nat) : (s.setLatch path addr v).planes = s.planes := rfl
@[simp] theorem setLatch_mcg (path addr v : Nat) : (s.setLatch path addr v).mcg = s.mcg := rfl
@[simp] theorem setLatch_rgm (path addr v : Nat) : (s.setLatch path addr v).rgm = s.rgm := rfl
@[simp] theorem setLatch_sch (path addr v : Nat) : (s.setLatch path addr v).sch = s.sch := rfl
@[simp] theorem setLatch_dram (path addr v : Nat) : (s.setLatch path addr v).dram = s.dram := rfl
@[simp] theorem setLatch_dsp (path addr v : Nat) : (s.setLatch path addr v).dsp = s.dsp := rfl
@[simp] theorem setLatch_sto (path addr v : Nat) : (s.setLatch path addr v).sto = s.sto := rfl
@[simp] theorem setLatch_brg (path addr v : Nat) : (s.setLatch path addr v).brg = s.brg := rfl
@[simp] theorem setLatch_net (path addr v : Nat) : (s.setLatch path addr v).net = s.net := rfl
@[simp] theorem setLatch_usb (path addr v : Nat) : (s.setLatch path addr v).usb = s.usb := rfl
@[simp] theorem setLatch_tim (path addr v : Nat) : (s.setLatch path addr v).tim = s.tim := rfl
@[simp] theorem setLatch_eng (path addr v : Nat) : (s.setLatch path addr v).eng = s.eng := rfl
@[simp] theorem setLatch_mgt (path addr v : Nat) : (s.setLatch path addr v).mgt = s.mgt := rfl
@[simp] theorem setLatch_key (path addr v : Nat) : (s.setLatch path addr v).key = s.key := rfl
@[simp] theorem setLatch_fus (path addr v : Nat) : (s.setLatch path addr v).fus = s.fus := rfl
@[simp] theorem setLatch_jnl (path addr v : Nat) : (s.setLatch path addr v).jnl = s.jnl := rfl
@[simp] theorem setLatch_pwr (path addr v : Nat) : (s.setLatch path addr v).pwr = s.pwr := rfl
@[simp] theorem setLatch_rst (path addr v : Nat) : (s.setLatch path addr v).rst = s.rst := rfl

@[simp] theorem stageLo_pending (path addr : Nat) (v : Option Nat) : (s.stageLo path addr v).pending = s.pending := rfl
@[simp] theorem stageLo_hw (path addr : Nat) (v : Option Nat) : (s.stageLo path addr v).hw = s.hw := rfl
@[simp] theorem stageLo_free (path addr : Nat) (v : Option Nat) : (s.stageLo path addr v).free = s.free := rfl
@[simp] theorem stageLo_out (path addr : Nat) (v : Option Nat) : (s.stageLo path addr v).out = s.out := rfl
@[simp] theorem stageLo_regs (path addr : Nat) (v : Option Nat) : (s.stageLo path addr v).regs = s.regs := rfl
@[simp] theorem stageLo_tun (path addr : Nat) (v : Option Nat) : (s.stageLo path addr v).tun = s.tun := rfl
@[simp] theorem stageLo_links (path addr : Nat) (v : Option Nat) : (s.stageLo path addr v).links = s.links := rfl
@[simp] theorem stageLo_planes (path addr : Nat) (v : Option Nat) : (s.stageLo path addr v).planes = s.planes := rfl
@[simp] theorem stageLo_mcg (path addr : Nat) (v : Option Nat) : (s.stageLo path addr v).mcg = s.mcg := rfl
@[simp] theorem stageLo_rgm (path addr : Nat) (v : Option Nat) : (s.stageLo path addr v).rgm = s.rgm := rfl
@[simp] theorem stageLo_sch (path addr : Nat) (v : Option Nat) : (s.stageLo path addr v).sch = s.sch := rfl
@[simp] theorem stageLo_dram (path addr : Nat) (v : Option Nat) : (s.stageLo path addr v).dram = s.dram := rfl
@[simp] theorem stageLo_dsp (path addr : Nat) (v : Option Nat) : (s.stageLo path addr v).dsp = s.dsp := rfl
@[simp] theorem stageLo_sto (path addr : Nat) (v : Option Nat) : (s.stageLo path addr v).sto = s.sto := rfl
@[simp] theorem stageLo_brg (path addr : Nat) (v : Option Nat) : (s.stageLo path addr v).brg = s.brg := rfl
@[simp] theorem stageLo_net (path addr : Nat) (v : Option Nat) : (s.stageLo path addr v).net = s.net := rfl
@[simp] theorem stageLo_usb (path addr : Nat) (v : Option Nat) : (s.stageLo path addr v).usb = s.usb := rfl
@[simp] theorem stageLo_tim (path addr : Nat) (v : Option Nat) : (s.stageLo path addr v).tim = s.tim := rfl
@[simp] theorem stageLo_eng (path addr : Nat) (v : Option Nat) : (s.stageLo path addr v).eng = s.eng := rfl
@[simp] theorem stageLo_mgt (path addr : Nat) (v : Option Nat) : (s.stageLo path addr v).mgt = s.mgt := rfl
@[simp] theorem stageLo_key (path addr : Nat) (v : Option Nat) : (s.stageLo path addr v).key = s.key := rfl
@[simp] theorem stageLo_fus (path addr : Nat) (v : Option Nat) : (s.stageLo path addr v).fus = s.fus := rfl
@[simp] theorem stageLo_jnl (path addr : Nat) (v : Option Nat) : (s.stageLo path addr v).jnl = s.jnl := rfl
@[simp] theorem stageLo_pwr (path addr : Nat) (v : Option Nat) : (s.stageLo path addr v).pwr = s.pwr := rfl
@[simp] theorem stageLo_rst (path addr : Nat) (v : Option Nat) : (s.stageLo path addr v).rst = s.rst := rfl

@[simp] theorem queueAccess_pending (w : WaitingAccess) : (s.queueAccess w).pending = s.pending := rfl
@[simp] theorem queueAccess_hw (w : WaitingAccess) : (s.queueAccess w).hw = s.hw := rfl
@[simp] theorem queueAccess_free (w : WaitingAccess) : (s.queueAccess w).free = s.free := rfl
@[simp] theorem queueAccess_out (w : WaitingAccess) : (s.queueAccess w).out = s.out := rfl
@[simp] theorem queueAccess_regs (w : WaitingAccess) : (s.queueAccess w).regs = s.regs := rfl
@[simp] theorem queueAccess_tun (w : WaitingAccess) : (s.queueAccess w).tun = s.tun := rfl
@[simp] theorem queueAccess_links (w : WaitingAccess) : (s.queueAccess w).links = s.links := rfl
@[simp] theorem queueAccess_planes (w : WaitingAccess) : (s.queueAccess w).planes = s.planes := rfl
@[simp] theorem queueAccess_mcg (w : WaitingAccess) : (s.queueAccess w).mcg = s.mcg := rfl
@[simp] theorem queueAccess_rgm (w : WaitingAccess) : (s.queueAccess w).rgm = s.rgm := rfl
@[simp] theorem queueAccess_sch (w : WaitingAccess) : (s.queueAccess w).sch = s.sch := rfl
@[simp] theorem queueAccess_dram (w : WaitingAccess) : (s.queueAccess w).dram = s.dram := rfl
@[simp] theorem queueAccess_dsp (w : WaitingAccess) : (s.queueAccess w).dsp = s.dsp := rfl
@[simp] theorem queueAccess_sto (w : WaitingAccess) : (s.queueAccess w).sto = s.sto := rfl
@[simp] theorem queueAccess_brg (w : WaitingAccess) : (s.queueAccess w).brg = s.brg := rfl
@[simp] theorem queueAccess_net (w : WaitingAccess) : (s.queueAccess w).net = s.net := rfl
@[simp] theorem queueAccess_usb (w : WaitingAccess) : (s.queueAccess w).usb = s.usb := rfl
@[simp] theorem queueAccess_tim (w : WaitingAccess) : (s.queueAccess w).tim = s.tim := rfl
@[simp] theorem queueAccess_eng (w : WaitingAccess) : (s.queueAccess w).eng = s.eng := rfl
@[simp] theorem queueAccess_mgt (w : WaitingAccess) : (s.queueAccess w).mgt = s.mgt := rfl
@[simp] theorem queueAccess_key (w : WaitingAccess) : (s.queueAccess w).key = s.key := rfl
@[simp] theorem queueAccess_fus (w : WaitingAccess) : (s.queueAccess w).fus = s.fus := rfl
@[simp] theorem queueAccess_jnl (w : WaitingAccess) : (s.queueAccess w).jnl = s.jnl := rfl
@[simp] theorem queueAccess_csr (w : WaitingAccess) : (s.queueAccess w).csr = s.csr := rfl
@[simp] theorem queueAccess_pwr (w : WaitingAccess) : (s.queueAccess w).pwr = { s.pwr with waiting := s.pwr.waiting ++ [{ w with mask := s.maskAllows w.path w.write w.addr || (w.write && challenges w.path w.addr w.data) }] } := rfl
@[simp] theorem queueAccess_rst (w : WaitingAccess) : (s.queueAccess w).rst = s.rst := rfl

@[simp] theorem eraseKeys_pending (p : Nat → Bool) : (s.eraseKeys p).pending = s.pending := rfl
@[simp] theorem eraseKeys_hw (p : Nat → Bool) : (s.eraseKeys p).hw = s.hw := rfl
@[simp] theorem eraseKeys_free (p : Nat → Bool) : (s.eraseKeys p).free = s.free := rfl
@[simp] theorem eraseKeys_out (p : Nat → Bool) : (s.eraseKeys p).out = s.out := rfl
@[simp] theorem eraseKeys_regs (p : Nat → Bool) : (s.eraseKeys p).regs = s.regs.eraseIf p := rfl
@[simp] theorem eraseKeys_tun (p : Nat → Bool) : (s.eraseKeys p).tun = s.tun := rfl
@[simp] theorem eraseKeys_links (p : Nat → Bool) : (s.eraseKeys p).links = s.links := rfl
@[simp] theorem eraseKeys_planes (p : Nat → Bool) : (s.eraseKeys p).planes = s.planes := rfl
@[simp] theorem eraseKeys_mcg (p : Nat → Bool) : (s.eraseKeys p).mcg = s.mcg := rfl
@[simp] theorem eraseKeys_rgm (p : Nat → Bool) : (s.eraseKeys p).rgm = s.rgm := rfl
@[simp] theorem eraseKeys_sch (p : Nat → Bool) : (s.eraseKeys p).sch = s.sch := rfl
@[simp] theorem eraseKeys_dram (p : Nat → Bool) : (s.eraseKeys p).dram = s.dram := rfl
@[simp] theorem eraseKeys_dsp (p : Nat → Bool) : (s.eraseKeys p).dsp = s.dsp := rfl
@[simp] theorem eraseKeys_sto (p : Nat → Bool) : (s.eraseKeys p).sto = s.sto := rfl
@[simp] theorem eraseKeys_brg (p : Nat → Bool) : (s.eraseKeys p).brg = s.brg := rfl
@[simp] theorem eraseKeys_net (p : Nat → Bool) : (s.eraseKeys p).net = s.net := rfl
@[simp] theorem eraseKeys_usb (p : Nat → Bool) : (s.eraseKeys p).usb = s.usb := rfl
@[simp] theorem eraseKeys_tim (p : Nat → Bool) : (s.eraseKeys p).tim = s.tim := rfl
@[simp] theorem eraseKeys_eng (p : Nat → Bool) : (s.eraseKeys p).eng = s.eng := rfl
@[simp] theorem eraseKeys_mgt (p : Nat → Bool) : (s.eraseKeys p).mgt = s.mgt := rfl
@[simp] theorem eraseKeys_key (p : Nat → Bool) : (s.eraseKeys p).key = s.key := rfl
@[simp] theorem eraseKeys_fus (p : Nat → Bool) : (s.eraseKeys p).fus = s.fus := rfl
@[simp] theorem eraseKeys_jnl (p : Nat → Bool) : (s.eraseKeys p).jnl = s.jnl := rfl
@[simp] theorem eraseKeys_csr (p : Nat → Bool) : (s.eraseKeys p).csr = s.csr := rfl
@[simp] theorem eraseKeys_pwr (p : Nat → Bool) : (s.eraseKeys p).pwr = s.pwr := rfl
@[simp] theorem eraseKeys_rst (p : Nat → Bool) : (s.eraseKeys p).rst = s.rst := rfl

@[simp] theorem updBrg_pending (f : BrgState → BrgState) : (s.updBrg f).pending = s.pending := rfl
@[simp] theorem updBrg_hw (f : BrgState → BrgState) : (s.updBrg f).hw = s.hw := rfl
@[simp] theorem updBrg_free (f : BrgState → BrgState) : (s.updBrg f).free = s.free := rfl
@[simp] theorem updBrg_out (f : BrgState → BrgState) : (s.updBrg f).out = s.out := rfl
@[simp] theorem updBrg_regs (f : BrgState → BrgState) : (s.updBrg f).regs = s.regs := rfl
@[simp] theorem updBrg_tun (f : BrgState → BrgState) : (s.updBrg f).tun = s.tun := rfl
@[simp] theorem updBrg_links (f : BrgState → BrgState) : (s.updBrg f).links = s.links := rfl
@[simp] theorem updBrg_planes (f : BrgState → BrgState) : (s.updBrg f).planes = s.planes := rfl
@[simp] theorem updBrg_mcg (f : BrgState → BrgState) : (s.updBrg f).mcg = s.mcg := rfl
@[simp] theorem updBrg_rgm (f : BrgState → BrgState) : (s.updBrg f).rgm = s.rgm := rfl
@[simp] theorem updBrg_sch (f : BrgState → BrgState) : (s.updBrg f).sch = s.sch := rfl
@[simp] theorem updBrg_dram (f : BrgState → BrgState) : (s.updBrg f).dram = s.dram := rfl
@[simp] theorem updBrg_dsp (f : BrgState → BrgState) : (s.updBrg f).dsp = s.dsp := rfl
@[simp] theorem updBrg_sto (f : BrgState → BrgState) : (s.updBrg f).sto = s.sto := rfl
@[simp] theorem updBrg_brg (f : BrgState → BrgState) : (s.updBrg f).brg = f s.brg := rfl
@[simp] theorem updBrg_net (f : BrgState → BrgState) : (s.updBrg f).net = s.net := rfl
@[simp] theorem updBrg_usb (f : BrgState → BrgState) : (s.updBrg f).usb = s.usb := rfl
@[simp] theorem updBrg_tim (f : BrgState → BrgState) : (s.updBrg f).tim = s.tim := rfl
@[simp] theorem updBrg_eng (f : BrgState → BrgState) : (s.updBrg f).eng = s.eng := rfl
@[simp] theorem updBrg_mgt (f : BrgState → BrgState) : (s.updBrg f).mgt = s.mgt := rfl
@[simp] theorem updBrg_key (f : BrgState → BrgState) : (s.updBrg f).key = s.key := rfl
@[simp] theorem updBrg_fus (f : BrgState → BrgState) : (s.updBrg f).fus = s.fus := rfl
@[simp] theorem updBrg_jnl (f : BrgState → BrgState) : (s.updBrg f).jnl = s.jnl := rfl
@[simp] theorem updBrg_csr (f : BrgState → BrgState) : (s.updBrg f).csr = s.csr := rfl
@[simp] theorem updBrg_pwr (f : BrgState → BrgState) : (s.updBrg f).pwr = s.pwr := rfl
@[simp] theorem updBrg_rst (f : BrgState → BrgState) : (s.updBrg f).rst = s.rst := rfl

@[simp] theorem updRgm_pending (f : RgmState → RgmState) : (s.updRgm f).pending = s.pending := rfl
@[simp] theorem updRgm_hw (f : RgmState → RgmState) : (s.updRgm f).hw = s.hw := rfl
@[simp] theorem updRgm_free (f : RgmState → RgmState) : (s.updRgm f).free = s.free := rfl
@[simp] theorem updRgm_out (f : RgmState → RgmState) : (s.updRgm f).out = s.out := rfl
@[simp] theorem updRgm_regs (f : RgmState → RgmState) : (s.updRgm f).regs = s.regs := rfl
@[simp] theorem updRgm_tun (f : RgmState → RgmState) : (s.updRgm f).tun = s.tun := rfl
@[simp] theorem updRgm_links (f : RgmState → RgmState) : (s.updRgm f).links = s.links := rfl
@[simp] theorem updRgm_planes (f : RgmState → RgmState) : (s.updRgm f).planes = s.planes := rfl
@[simp] theorem updRgm_mcg (f : RgmState → RgmState) : (s.updRgm f).mcg = s.mcg := rfl
@[simp] theorem updRgm_rgm (f : RgmState → RgmState) : (s.updRgm f).rgm = f s.rgm := rfl
@[simp] theorem updRgm_sch (f : RgmState → RgmState) : (s.updRgm f).sch = s.sch := rfl
@[simp] theorem updRgm_dram (f : RgmState → RgmState) : (s.updRgm f).dram = s.dram := rfl
@[simp] theorem updRgm_dsp (f : RgmState → RgmState) : (s.updRgm f).dsp = s.dsp := rfl
@[simp] theorem updRgm_sto (f : RgmState → RgmState) : (s.updRgm f).sto = s.sto := rfl
@[simp] theorem updRgm_brg (f : RgmState → RgmState) : (s.updRgm f).brg = s.brg := rfl
@[simp] theorem updRgm_net (f : RgmState → RgmState) : (s.updRgm f).net = s.net := rfl
@[simp] theorem updRgm_usb (f : RgmState → RgmState) : (s.updRgm f).usb = s.usb := rfl
@[simp] theorem updRgm_tim (f : RgmState → RgmState) : (s.updRgm f).tim = s.tim := rfl
@[simp] theorem updRgm_eng (f : RgmState → RgmState) : (s.updRgm f).eng = s.eng := rfl
@[simp] theorem updRgm_mgt (f : RgmState → RgmState) : (s.updRgm f).mgt = s.mgt := rfl
@[simp] theorem updRgm_key (f : RgmState → RgmState) : (s.updRgm f).key = s.key := rfl
@[simp] theorem updRgm_fus (f : RgmState → RgmState) : (s.updRgm f).fus = s.fus := rfl
@[simp] theorem updRgm_jnl (f : RgmState → RgmState) : (s.updRgm f).jnl = s.jnl := rfl
@[simp] theorem updRgm_csr (f : RgmState → RgmState) : (s.updRgm f).csr = s.csr := rfl
@[simp] theorem updRgm_pwr (f : RgmState → RgmState) : (s.updRgm f).pwr = s.pwr := rfl
@[simp] theorem updRgm_rst (f : RgmState → RgmState) : (s.updRgm f).rst = s.rst := rfl

@[simp] theorem updMcg_pending (f : McgEdit → McgEdit) : (s.updMcg f).pending = s.pending := rfl
@[simp] theorem updMcg_hw (f : McgEdit → McgEdit) : (s.updMcg f).hw = s.hw := rfl
@[simp] theorem updMcg_free (f : McgEdit → McgEdit) : (s.updMcg f).free = s.free := rfl
@[simp] theorem updMcg_out (f : McgEdit → McgEdit) : (s.updMcg f).out = s.out := rfl
@[simp] theorem updMcg_regs (f : McgEdit → McgEdit) : (s.updMcg f).regs = s.regs := rfl
@[simp] theorem updMcg_tun (f : McgEdit → McgEdit) : (s.updMcg f).tun = s.tun := rfl
@[simp] theorem updMcg_links (f : McgEdit → McgEdit) : (s.updMcg f).links = s.links := rfl
@[simp] theorem updMcg_planes (f : McgEdit → McgEdit) : (s.updMcg f).planes = s.planes := rfl
@[simp] theorem updMcg_mcg (f : McgEdit → McgEdit) : (s.updMcg f).mcg = f s.mcg := rfl
@[simp] theorem updMcg_rgm (f : McgEdit → McgEdit) : (s.updMcg f).rgm = s.rgm := rfl
@[simp] theorem updMcg_sch (f : McgEdit → McgEdit) : (s.updMcg f).sch = s.sch := rfl
@[simp] theorem updMcg_dram (f : McgEdit → McgEdit) : (s.updMcg f).dram = s.dram := rfl
@[simp] theorem updMcg_dsp (f : McgEdit → McgEdit) : (s.updMcg f).dsp = s.dsp := rfl
@[simp] theorem updMcg_sto (f : McgEdit → McgEdit) : (s.updMcg f).sto = s.sto := rfl
@[simp] theorem updMcg_brg (f : McgEdit → McgEdit) : (s.updMcg f).brg = s.brg := rfl
@[simp] theorem updMcg_net (f : McgEdit → McgEdit) : (s.updMcg f).net = s.net := rfl
@[simp] theorem updMcg_usb (f : McgEdit → McgEdit) : (s.updMcg f).usb = s.usb := rfl
@[simp] theorem updMcg_tim (f : McgEdit → McgEdit) : (s.updMcg f).tim = s.tim := rfl
@[simp] theorem updMcg_eng (f : McgEdit → McgEdit) : (s.updMcg f).eng = s.eng := rfl
@[simp] theorem updMcg_mgt (f : McgEdit → McgEdit) : (s.updMcg f).mgt = s.mgt := rfl
@[simp] theorem updMcg_key (f : McgEdit → McgEdit) : (s.updMcg f).key = s.key := rfl
@[simp] theorem updMcg_fus (f : McgEdit → McgEdit) : (s.updMcg f).fus = s.fus := rfl
@[simp] theorem updMcg_jnl (f : McgEdit → McgEdit) : (s.updMcg f).jnl = s.jnl := rfl
@[simp] theorem updMcg_csr (f : McgEdit → McgEdit) : (s.updMcg f).csr = s.csr := rfl
@[simp] theorem updMcg_pwr (f : McgEdit → McgEdit) : (s.updMcg f).pwr = s.pwr := rfl
@[simp] theorem updMcg_rst (f : McgEdit → McgEdit) : (s.updMcg f).rst = s.rst := rfl

@[simp] theorem updEng_pending (f : EngsState → EngsState) : (s.updEng f).pending = s.pending := rfl
@[simp] theorem updEng_hw (f : EngsState → EngsState) : (s.updEng f).hw = s.hw := rfl
@[simp] theorem updEng_free (f : EngsState → EngsState) : (s.updEng f).free = s.free := rfl
@[simp] theorem updEng_out (f : EngsState → EngsState) : (s.updEng f).out = s.out := rfl
@[simp] theorem updEng_regs (f : EngsState → EngsState) : (s.updEng f).regs = s.regs := rfl
@[simp] theorem updEng_tun (f : EngsState → EngsState) : (s.updEng f).tun = s.tun := rfl
@[simp] theorem updEng_links (f : EngsState → EngsState) : (s.updEng f).links = s.links := rfl
@[simp] theorem updEng_planes (f : EngsState → EngsState) : (s.updEng f).planes = s.planes := rfl
@[simp] theorem updEng_mcg (f : EngsState → EngsState) : (s.updEng f).mcg = s.mcg := rfl
@[simp] theorem updEng_rgm (f : EngsState → EngsState) : (s.updEng f).rgm = s.rgm := rfl
@[simp] theorem updEng_sch (f : EngsState → EngsState) : (s.updEng f).sch = s.sch := rfl
@[simp] theorem updEng_dram (f : EngsState → EngsState) : (s.updEng f).dram = s.dram := rfl
@[simp] theorem updEng_dsp (f : EngsState → EngsState) : (s.updEng f).dsp = s.dsp := rfl
@[simp] theorem updEng_sto (f : EngsState → EngsState) : (s.updEng f).sto = s.sto := rfl
@[simp] theorem updEng_brg (f : EngsState → EngsState) : (s.updEng f).brg = s.brg := rfl
@[simp] theorem updEng_net (f : EngsState → EngsState) : (s.updEng f).net = s.net := rfl
@[simp] theorem updEng_usb (f : EngsState → EngsState) : (s.updEng f).usb = s.usb := rfl
@[simp] theorem updEng_tim (f : EngsState → EngsState) : (s.updEng f).tim = s.tim := rfl
@[simp] theorem updEng_eng (f : EngsState → EngsState) : (s.updEng f).eng = f s.eng := rfl
@[simp] theorem updEng_mgt (f : EngsState → EngsState) : (s.updEng f).mgt = s.mgt := rfl
@[simp] theorem updEng_key (f : EngsState → EngsState) : (s.updEng f).key = s.key := rfl
@[simp] theorem updEng_fus (f : EngsState → EngsState) : (s.updEng f).fus = s.fus := rfl
@[simp] theorem updEng_jnl (f : EngsState → EngsState) : (s.updEng f).jnl = s.jnl := rfl
@[simp] theorem updEng_csr (f : EngsState → EngsState) : (s.updEng f).csr = s.csr := rfl
@[simp] theorem updEng_pwr (f : EngsState → EngsState) : (s.updEng f).pwr = s.pwr := rfl
@[simp] theorem updEng_rst (f : EngsState → EngsState) : (s.updEng f).rst = s.rst := rfl

@[simp] theorem updKey_pending (f : KeyState → KeyState) : (s.updKey f).pending = s.pending := rfl
@[simp] theorem updKey_hw (f : KeyState → KeyState) : (s.updKey f).hw = s.hw := rfl
@[simp] theorem updKey_free (f : KeyState → KeyState) : (s.updKey f).free = s.free := rfl
@[simp] theorem updKey_out (f : KeyState → KeyState) : (s.updKey f).out = s.out := rfl
@[simp] theorem updKey_regs (f : KeyState → KeyState) : (s.updKey f).regs = s.regs := rfl
@[simp] theorem updKey_tun (f : KeyState → KeyState) : (s.updKey f).tun = s.tun := rfl
@[simp] theorem updKey_links (f : KeyState → KeyState) : (s.updKey f).links = s.links := rfl
@[simp] theorem updKey_planes (f : KeyState → KeyState) : (s.updKey f).planes = s.planes := rfl
@[simp] theorem updKey_mcg (f : KeyState → KeyState) : (s.updKey f).mcg = s.mcg := rfl
@[simp] theorem updKey_rgm (f : KeyState → KeyState) : (s.updKey f).rgm = s.rgm := rfl
@[simp] theorem updKey_sch (f : KeyState → KeyState) : (s.updKey f).sch = s.sch := rfl
@[simp] theorem updKey_dram (f : KeyState → KeyState) : (s.updKey f).dram = s.dram := rfl
@[simp] theorem updKey_dsp (f : KeyState → KeyState) : (s.updKey f).dsp = s.dsp := rfl
@[simp] theorem updKey_sto (f : KeyState → KeyState) : (s.updKey f).sto = s.sto := rfl
@[simp] theorem updKey_brg (f : KeyState → KeyState) : (s.updKey f).brg = s.brg := rfl
@[simp] theorem updKey_net (f : KeyState → KeyState) : (s.updKey f).net = s.net := rfl
@[simp] theorem updKey_usb (f : KeyState → KeyState) : (s.updKey f).usb = s.usb := rfl
@[simp] theorem updKey_tim (f : KeyState → KeyState) : (s.updKey f).tim = s.tim := rfl
@[simp] theorem updKey_eng (f : KeyState → KeyState) : (s.updKey f).eng = s.eng := rfl
@[simp] theorem updKey_mgt (f : KeyState → KeyState) : (s.updKey f).mgt = s.mgt := rfl
@[simp] theorem updKey_key (f : KeyState → KeyState) : (s.updKey f).key = f s.key := rfl
@[simp] theorem updKey_fus (f : KeyState → KeyState) : (s.updKey f).fus = s.fus := rfl
@[simp] theorem updKey_jnl (f : KeyState → KeyState) : (s.updKey f).jnl = s.jnl := rfl
@[simp] theorem updKey_csr (f : KeyState → KeyState) : (s.updKey f).csr = s.csr := rfl
@[simp] theorem updKey_pwr (f : KeyState → KeyState) : (s.updKey f).pwr = s.pwr := rfl
@[simp] theorem updKey_rst (f : KeyState → KeyState) : (s.updKey f).rst = s.rst := rfl

@[simp] theorem updMgt_pending (f : MgtState → MgtState) : (s.updMgt f).pending = s.pending := rfl
@[simp] theorem updMgt_hw (f : MgtState → MgtState) : (s.updMgt f).hw = s.hw := rfl
@[simp] theorem updMgt_free (f : MgtState → MgtState) : (s.updMgt f).free = s.free := rfl
@[simp] theorem updMgt_out (f : MgtState → MgtState) : (s.updMgt f).out = s.out := rfl
@[simp] theorem updMgt_regs (f : MgtState → MgtState) : (s.updMgt f).regs = s.regs := rfl
@[simp] theorem updMgt_tun (f : MgtState → MgtState) : (s.updMgt f).tun = s.tun := rfl
@[simp] theorem updMgt_links (f : MgtState → MgtState) : (s.updMgt f).links = s.links := rfl
@[simp] theorem updMgt_planes (f : MgtState → MgtState) : (s.updMgt f).planes = s.planes := rfl
@[simp] theorem updMgt_mcg (f : MgtState → MgtState) : (s.updMgt f).mcg = s.mcg := rfl
@[simp] theorem updMgt_rgm (f : MgtState → MgtState) : (s.updMgt f).rgm = s.rgm := rfl
@[simp] theorem updMgt_sch (f : MgtState → MgtState) : (s.updMgt f).sch = s.sch := rfl
@[simp] theorem updMgt_dram (f : MgtState → MgtState) : (s.updMgt f).dram = s.dram := rfl
@[simp] theorem updMgt_dsp (f : MgtState → MgtState) : (s.updMgt f).dsp = s.dsp := rfl
@[simp] theorem updMgt_sto (f : MgtState → MgtState) : (s.updMgt f).sto = s.sto := rfl
@[simp] theorem updMgt_brg (f : MgtState → MgtState) : (s.updMgt f).brg = s.brg := rfl
@[simp] theorem updMgt_net (f : MgtState → MgtState) : (s.updMgt f).net = s.net := rfl
@[simp] theorem updMgt_usb (f : MgtState → MgtState) : (s.updMgt f).usb = s.usb := rfl
@[simp] theorem updMgt_tim (f : MgtState → MgtState) : (s.updMgt f).tim = s.tim := rfl
@[simp] theorem updMgt_eng (f : MgtState → MgtState) : (s.updMgt f).eng = s.eng := rfl
@[simp] theorem updMgt_mgt (f : MgtState → MgtState) : (s.updMgt f).mgt = f s.mgt := rfl
@[simp] theorem updMgt_key (f : MgtState → MgtState) : (s.updMgt f).key = s.key := rfl
@[simp] theorem updMgt_fus (f : MgtState → MgtState) : (s.updMgt f).fus = s.fus := rfl
@[simp] theorem updMgt_jnl (f : MgtState → MgtState) : (s.updMgt f).jnl = s.jnl := rfl
@[simp] theorem updMgt_csr (f : MgtState → MgtState) : (s.updMgt f).csr = s.csr := rfl
@[simp] theorem updMgt_pwr (f : MgtState → MgtState) : (s.updMgt f).pwr = s.pwr := rfl
@[simp] theorem updMgt_rst (f : MgtState → MgtState) : (s.updMgt f).rst = s.rst := rfl

@[simp] theorem updNet_pending (f : NetState → NetState) : (s.updNet f).pending = s.pending := rfl
@[simp] theorem updNet_hw (f : NetState → NetState) : (s.updNet f).hw = s.hw := rfl
@[simp] theorem updNet_free (f : NetState → NetState) : (s.updNet f).free = s.free := rfl
@[simp] theorem updNet_out (f : NetState → NetState) : (s.updNet f).out = s.out := rfl
@[simp] theorem updNet_regs (f : NetState → NetState) : (s.updNet f).regs = s.regs := rfl
@[simp] theorem updNet_tun (f : NetState → NetState) : (s.updNet f).tun = s.tun := rfl
@[simp] theorem updNet_links (f : NetState → NetState) : (s.updNet f).links = s.links := rfl
@[simp] theorem updNet_planes (f : NetState → NetState) : (s.updNet f).planes = s.planes := rfl
@[simp] theorem updNet_mcg (f : NetState → NetState) : (s.updNet f).mcg = s.mcg := rfl
@[simp] theorem updNet_rgm (f : NetState → NetState) : (s.updNet f).rgm = s.rgm := rfl
@[simp] theorem updNet_sch (f : NetState → NetState) : (s.updNet f).sch = s.sch := rfl
@[simp] theorem updNet_dram (f : NetState → NetState) : (s.updNet f).dram = s.dram := rfl
@[simp] theorem updNet_dsp (f : NetState → NetState) : (s.updNet f).dsp = s.dsp := rfl
@[simp] theorem updNet_sto (f : NetState → NetState) : (s.updNet f).sto = s.sto := rfl
@[simp] theorem updNet_brg (f : NetState → NetState) : (s.updNet f).brg = s.brg := rfl
@[simp] theorem updNet_net (f : NetState → NetState) : (s.updNet f).net = f s.net := rfl
@[simp] theorem updNet_usb (f : NetState → NetState) : (s.updNet f).usb = s.usb := rfl
@[simp] theorem updNet_tim (f : NetState → NetState) : (s.updNet f).tim = s.tim := rfl
@[simp] theorem updNet_eng (f : NetState → NetState) : (s.updNet f).eng = s.eng := rfl
@[simp] theorem updNet_mgt (f : NetState → NetState) : (s.updNet f).mgt = s.mgt := rfl
@[simp] theorem updNet_key (f : NetState → NetState) : (s.updNet f).key = s.key := rfl
@[simp] theorem updNet_fus (f : NetState → NetState) : (s.updNet f).fus = s.fus := rfl
@[simp] theorem updNet_jnl (f : NetState → NetState) : (s.updNet f).jnl = s.jnl := rfl
@[simp] theorem updNet_csr (f : NetState → NetState) : (s.updNet f).csr = s.csr := rfl
@[simp] theorem updNet_pwr (f : NetState → NetState) : (s.updNet f).pwr = s.pwr := rfl
@[simp] theorem updNet_rst (f : NetState → NetState) : (s.updNet f).rst = s.rst := rfl

@[simp] theorem updFus_pending (f : FusState → FusState) : (s.updFus f).pending = s.pending := rfl
@[simp] theorem updFus_hw (f : FusState → FusState) : (s.updFus f).hw = s.hw := rfl
@[simp] theorem updFus_free (f : FusState → FusState) : (s.updFus f).free = s.free := rfl
@[simp] theorem updFus_out (f : FusState → FusState) : (s.updFus f).out = s.out := rfl
@[simp] theorem updFus_regs (f : FusState → FusState) : (s.updFus f).regs = s.regs := rfl
@[simp] theorem updFus_tun (f : FusState → FusState) : (s.updFus f).tun = s.tun := rfl
@[simp] theorem updFus_links (f : FusState → FusState) : (s.updFus f).links = s.links := rfl
@[simp] theorem updFus_planes (f : FusState → FusState) : (s.updFus f).planes = s.planes := rfl
@[simp] theorem updFus_mcg (f : FusState → FusState) : (s.updFus f).mcg = s.mcg := rfl
@[simp] theorem updFus_rgm (f : FusState → FusState) : (s.updFus f).rgm = s.rgm := rfl
@[simp] theorem updFus_sch (f : FusState → FusState) : (s.updFus f).sch = s.sch := rfl
@[simp] theorem updFus_dram (f : FusState → FusState) : (s.updFus f).dram = s.dram := rfl
@[simp] theorem updFus_dsp (f : FusState → FusState) : (s.updFus f).dsp = s.dsp := rfl
@[simp] theorem updFus_sto (f : FusState → FusState) : (s.updFus f).sto = s.sto := rfl
@[simp] theorem updFus_brg (f : FusState → FusState) : (s.updFus f).brg = s.brg := rfl
@[simp] theorem updFus_net (f : FusState → FusState) : (s.updFus f).net = s.net := rfl
@[simp] theorem updFus_usb (f : FusState → FusState) : (s.updFus f).usb = s.usb := rfl
@[simp] theorem updFus_tim (f : FusState → FusState) : (s.updFus f).tim = s.tim := rfl
@[simp] theorem updFus_eng (f : FusState → FusState) : (s.updFus f).eng = s.eng := rfl
@[simp] theorem updFus_mgt (f : FusState → FusState) : (s.updFus f).mgt = s.mgt := rfl
@[simp] theorem updFus_key (f : FusState → FusState) : (s.updFus f).key = s.key := rfl
@[simp] theorem updFus_fus (f : FusState → FusState) : (s.updFus f).fus = f s.fus := rfl
@[simp] theorem updFus_jnl (f : FusState → FusState) : (s.updFus f).jnl = s.jnl := rfl
@[simp] theorem updFus_csr (f : FusState → FusState) : (s.updFus f).csr = s.csr := rfl
@[simp] theorem updFus_pwr (f : FusState → FusState) : (s.updFus f).pwr = s.pwr := rfl
@[simp] theorem updFus_rst (f : FusState → FusState) : (s.updFus f).rst = s.rst := rfl

@[simp] theorem updTun_pending (f : TunState → TunState) : (s.updTun f).pending = s.pending := rfl
@[simp] theorem updTun_hw (f : TunState → TunState) : (s.updTun f).hw = s.hw := rfl
@[simp] theorem updTun_free (f : TunState → TunState) : (s.updTun f).free = s.free := rfl
@[simp] theorem updTun_out (f : TunState → TunState) : (s.updTun f).out = s.out := rfl
@[simp] theorem updTun_regs (f : TunState → TunState) : (s.updTun f).regs = s.regs := rfl
@[simp] theorem updTun_tun (f : TunState → TunState) : (s.updTun f).tun = f s.tun := rfl
@[simp] theorem updTun_links (f : TunState → TunState) : (s.updTun f).links = s.links := rfl
@[simp] theorem updTun_planes (f : TunState → TunState) : (s.updTun f).planes = s.planes := rfl
@[simp] theorem updTun_mcg (f : TunState → TunState) : (s.updTun f).mcg = s.mcg := rfl
@[simp] theorem updTun_rgm (f : TunState → TunState) : (s.updTun f).rgm = s.rgm := rfl
@[simp] theorem updTun_sch (f : TunState → TunState) : (s.updTun f).sch = s.sch := rfl
@[simp] theorem updTun_dram (f : TunState → TunState) : (s.updTun f).dram = s.dram := rfl
@[simp] theorem updTun_dsp (f : TunState → TunState) : (s.updTun f).dsp = s.dsp := rfl
@[simp] theorem updTun_sto (f : TunState → TunState) : (s.updTun f).sto = s.sto := rfl
@[simp] theorem updTun_brg (f : TunState → TunState) : (s.updTun f).brg = s.brg := rfl
@[simp] theorem updTun_net (f : TunState → TunState) : (s.updTun f).net = s.net := rfl
@[simp] theorem updTun_usb (f : TunState → TunState) : (s.updTun f).usb = s.usb := rfl
@[simp] theorem updTun_tim (f : TunState → TunState) : (s.updTun f).tim = s.tim := rfl
@[simp] theorem updTun_eng (f : TunState → TunState) : (s.updTun f).eng = s.eng := rfl
@[simp] theorem updTun_mgt (f : TunState → TunState) : (s.updTun f).mgt = s.mgt := rfl
@[simp] theorem updTun_key (f : TunState → TunState) : (s.updTun f).key = s.key := rfl
@[simp] theorem updTun_fus (f : TunState → TunState) : (s.updTun f).fus = s.fus := rfl
@[simp] theorem updTun_jnl (f : TunState → TunState) : (s.updTun f).jnl = s.jnl := rfl
@[simp] theorem updTun_csr (f : TunState → TunState) : (s.updTun f).csr = s.csr := rfl
@[simp] theorem updTun_pwr (f : TunState → TunState) : (s.updTun f).pwr = s.pwr := rfl
@[simp] theorem updTun_rst (f : TunState → TunState) : (s.updTun f).rst = s.rst := rfl

@[simp] theorem updSch_pending (f : SchedState → SchedState) : (s.updSch f).pending = s.pending := rfl
@[simp] theorem updSch_hw (f : SchedState → SchedState) : (s.updSch f).hw = s.hw := rfl
@[simp] theorem updSch_free (f : SchedState → SchedState) : (s.updSch f).free = s.free := rfl
@[simp] theorem updSch_out (f : SchedState → SchedState) : (s.updSch f).out = s.out := rfl
@[simp] theorem updSch_regs (f : SchedState → SchedState) : (s.updSch f).regs = s.regs := rfl
@[simp] theorem updSch_tun (f : SchedState → SchedState) : (s.updSch f).tun = s.tun := rfl
@[simp] theorem updSch_links (f : SchedState → SchedState) : (s.updSch f).links = s.links := rfl
@[simp] theorem updSch_planes (f : SchedState → SchedState) : (s.updSch f).planes = s.planes := rfl
@[simp] theorem updSch_mcg (f : SchedState → SchedState) : (s.updSch f).mcg = s.mcg := rfl
@[simp] theorem updSch_rgm (f : SchedState → SchedState) : (s.updSch f).rgm = s.rgm := rfl
@[simp] theorem updSch_sch (f : SchedState → SchedState) : (s.updSch f).sch = f s.sch := rfl
@[simp] theorem updSch_dram (f : SchedState → SchedState) : (s.updSch f).dram = s.dram := rfl
@[simp] theorem updSch_dsp (f : SchedState → SchedState) : (s.updSch f).dsp = s.dsp := rfl
@[simp] theorem updSch_sto (f : SchedState → SchedState) : (s.updSch f).sto = s.sto := rfl
@[simp] theorem updSch_brg (f : SchedState → SchedState) : (s.updSch f).brg = s.brg := rfl
@[simp] theorem updSch_net (f : SchedState → SchedState) : (s.updSch f).net = s.net := rfl
@[simp] theorem updSch_usb (f : SchedState → SchedState) : (s.updSch f).usb = s.usb := rfl
@[simp] theorem updSch_tim (f : SchedState → SchedState) : (s.updSch f).tim = s.tim := rfl
@[simp] theorem updSch_eng (f : SchedState → SchedState) : (s.updSch f).eng = s.eng := rfl
@[simp] theorem updSch_mgt (f : SchedState → SchedState) : (s.updSch f).mgt = s.mgt := rfl
@[simp] theorem updSch_key (f : SchedState → SchedState) : (s.updSch f).key = s.key := rfl
@[simp] theorem updSch_fus (f : SchedState → SchedState) : (s.updSch f).fus = s.fus := rfl
@[simp] theorem updSch_jnl (f : SchedState → SchedState) : (s.updSch f).jnl = s.jnl := rfl
@[simp] theorem updSch_csr (f : SchedState → SchedState) : (s.updSch f).csr = s.csr := rfl
@[simp] theorem updSch_pwr (f : SchedState → SchedState) : (s.updSch f).pwr = s.pwr := rfl
@[simp] theorem updSch_rst (f : SchedState → SchedState) : (s.updSch f).rst = s.rst := rfl

@[simp] theorem updTim_pending (f : TimeState → TimeState) : (s.updTim f).pending = s.pending := rfl
@[simp] theorem updTim_hw (f : TimeState → TimeState) : (s.updTim f).hw = s.hw := rfl
@[simp] theorem updTim_free (f : TimeState → TimeState) : (s.updTim f).free = s.free := rfl
@[simp] theorem updTim_out (f : TimeState → TimeState) : (s.updTim f).out = s.out := rfl
@[simp] theorem updTim_regs (f : TimeState → TimeState) : (s.updTim f).regs = s.regs := rfl
@[simp] theorem updTim_tun (f : TimeState → TimeState) : (s.updTim f).tun = s.tun := rfl
@[simp] theorem updTim_links (f : TimeState → TimeState) : (s.updTim f).links = s.links := rfl
@[simp] theorem updTim_planes (f : TimeState → TimeState) : (s.updTim f).planes = s.planes := rfl
@[simp] theorem updTim_mcg (f : TimeState → TimeState) : (s.updTim f).mcg = s.mcg := rfl
@[simp] theorem updTim_rgm (f : TimeState → TimeState) : (s.updTim f).rgm = s.rgm := rfl
@[simp] theorem updTim_sch (f : TimeState → TimeState) : (s.updTim f).sch = s.sch := rfl
@[simp] theorem updTim_dram (f : TimeState → TimeState) : (s.updTim f).dram = s.dram := rfl
@[simp] theorem updTim_dsp (f : TimeState → TimeState) : (s.updTim f).dsp = s.dsp := rfl
@[simp] theorem updTim_sto (f : TimeState → TimeState) : (s.updTim f).sto = s.sto := rfl
@[simp] theorem updTim_brg (f : TimeState → TimeState) : (s.updTim f).brg = s.brg := rfl
@[simp] theorem updTim_net (f : TimeState → TimeState) : (s.updTim f).net = s.net := rfl
@[simp] theorem updTim_usb (f : TimeState → TimeState) : (s.updTim f).usb = s.usb := rfl
@[simp] theorem updTim_tim (f : TimeState → TimeState) : (s.updTim f).tim = f s.tim := rfl
@[simp] theorem updTim_eng (f : TimeState → TimeState) : (s.updTim f).eng = s.eng := rfl
@[simp] theorem updTim_mgt (f : TimeState → TimeState) : (s.updTim f).mgt = s.mgt := rfl
@[simp] theorem updTim_key (f : TimeState → TimeState) : (s.updTim f).key = s.key := rfl
@[simp] theorem updTim_fus (f : TimeState → TimeState) : (s.updTim f).fus = s.fus := rfl
@[simp] theorem updTim_jnl (f : TimeState → TimeState) : (s.updTim f).jnl = s.jnl := rfl
@[simp] theorem updTim_csr (f : TimeState → TimeState) : (s.updTim f).csr = s.csr := rfl
@[simp] theorem updTim_pwr (f : TimeState → TimeState) : (s.updTim f).pwr = s.pwr := rfl
@[simp] theorem updTim_rst (f : TimeState → TimeState) : (s.updTim f).rst = s.rst := rfl

@[simp] theorem updPwr_pending (f : PwrState → PwrState) : (s.updPwr f).pending = s.pending := rfl
@[simp] theorem updPwr_hw (f : PwrState → PwrState) : (s.updPwr f).hw = s.hw := rfl
@[simp] theorem updPwr_free (f : PwrState → PwrState) : (s.updPwr f).free = s.free := rfl
@[simp] theorem updPwr_out (f : PwrState → PwrState) : (s.updPwr f).out = s.out := rfl
@[simp] theorem updPwr_regs (f : PwrState → PwrState) : (s.updPwr f).regs = s.regs := rfl
@[simp] theorem updPwr_tun (f : PwrState → PwrState) : (s.updPwr f).tun = s.tun := rfl
@[simp] theorem updPwr_links (f : PwrState → PwrState) : (s.updPwr f).links = s.links := rfl
@[simp] theorem updPwr_planes (f : PwrState → PwrState) : (s.updPwr f).planes = s.planes := rfl
@[simp] theorem updPwr_mcg (f : PwrState → PwrState) : (s.updPwr f).mcg = s.mcg := rfl
@[simp] theorem updPwr_rgm (f : PwrState → PwrState) : (s.updPwr f).rgm = s.rgm := rfl
@[simp] theorem updPwr_sch (f : PwrState → PwrState) : (s.updPwr f).sch = s.sch := rfl
@[simp] theorem updPwr_dram (f : PwrState → PwrState) : (s.updPwr f).dram = s.dram := rfl
@[simp] theorem updPwr_dsp (f : PwrState → PwrState) : (s.updPwr f).dsp = s.dsp := rfl
@[simp] theorem updPwr_sto (f : PwrState → PwrState) : (s.updPwr f).sto = s.sto := rfl
@[simp] theorem updPwr_brg (f : PwrState → PwrState) : (s.updPwr f).brg = s.brg := rfl
@[simp] theorem updPwr_net (f : PwrState → PwrState) : (s.updPwr f).net = s.net := rfl
@[simp] theorem updPwr_usb (f : PwrState → PwrState) : (s.updPwr f).usb = s.usb := rfl
@[simp] theorem updPwr_tim (f : PwrState → PwrState) : (s.updPwr f).tim = s.tim := rfl
@[simp] theorem updPwr_eng (f : PwrState → PwrState) : (s.updPwr f).eng = s.eng := rfl
@[simp] theorem updPwr_mgt (f : PwrState → PwrState) : (s.updPwr f).mgt = s.mgt := rfl
@[simp] theorem updPwr_key (f : PwrState → PwrState) : (s.updPwr f).key = s.key := rfl
@[simp] theorem updPwr_fus (f : PwrState → PwrState) : (s.updPwr f).fus = s.fus := rfl
@[simp] theorem updPwr_jnl (f : PwrState → PwrState) : (s.updPwr f).jnl = s.jnl := rfl
@[simp] theorem updPwr_csr (f : PwrState → PwrState) : (s.updPwr f).csr = s.csr := rfl
@[simp] theorem updPwr_pwr (f : PwrState → PwrState) : (s.updPwr f).pwr = f s.pwr := rfl
@[simp] theorem updPwr_rst (f : PwrState → PwrState) : (s.updPwr f).rst = s.rst := rfl

@[simp] theorem updSto_pending (f : StoState → StoState) : (s.updSto f).pending = s.pending := rfl
@[simp] theorem updSto_hw (f : StoState → StoState) : (s.updSto f).hw = s.hw := rfl
@[simp] theorem updSto_free (f : StoState → StoState) : (s.updSto f).free = s.free := rfl
@[simp] theorem updSto_out (f : StoState → StoState) : (s.updSto f).out = s.out := rfl
@[simp] theorem updSto_regs (f : StoState → StoState) : (s.updSto f).regs = s.regs := rfl
@[simp] theorem updSto_tun (f : StoState → StoState) : (s.updSto f).tun = s.tun := rfl
@[simp] theorem updSto_links (f : StoState → StoState) : (s.updSto f).links = s.links := rfl
@[simp] theorem updSto_planes (f : StoState → StoState) : (s.updSto f).planes = s.planes := rfl
@[simp] theorem updSto_mcg (f : StoState → StoState) : (s.updSto f).mcg = s.mcg := rfl
@[simp] theorem updSto_rgm (f : StoState → StoState) : (s.updSto f).rgm = s.rgm := rfl
@[simp] theorem updSto_sch (f : StoState → StoState) : (s.updSto f).sch = s.sch := rfl
@[simp] theorem updSto_dram (f : StoState → StoState) : (s.updSto f).dram = s.dram := rfl
@[simp] theorem updSto_dsp (f : StoState → StoState) : (s.updSto f).dsp = s.dsp := rfl
@[simp] theorem updSto_sto (f : StoState → StoState) : (s.updSto f).sto = f s.sto := rfl
@[simp] theorem updSto_brg (f : StoState → StoState) : (s.updSto f).brg = s.brg := rfl
@[simp] theorem updSto_net (f : StoState → StoState) : (s.updSto f).net = s.net := rfl
@[simp] theorem updSto_usb (f : StoState → StoState) : (s.updSto f).usb = s.usb := rfl
@[simp] theorem updSto_tim (f : StoState → StoState) : (s.updSto f).tim = s.tim := rfl
@[simp] theorem updSto_eng (f : StoState → StoState) : (s.updSto f).eng = s.eng := rfl
@[simp] theorem updSto_mgt (f : StoState → StoState) : (s.updSto f).mgt = s.mgt := rfl
@[simp] theorem updSto_key (f : StoState → StoState) : (s.updSto f).key = s.key := rfl
@[simp] theorem updSto_fus (f : StoState → StoState) : (s.updSto f).fus = s.fus := rfl
@[simp] theorem updSto_jnl (f : StoState → StoState) : (s.updSto f).jnl = s.jnl := rfl
@[simp] theorem updSto_csr (f : StoState → StoState) : (s.updSto f).csr = s.csr := rfl
@[simp] theorem updSto_pwr (f : StoState → StoState) : (s.updSto f).pwr = s.pwr := rfl
@[simp] theorem updSto_rst (f : StoState → StoState) : (s.updSto f).rst = s.rst := rfl

@[simp] theorem updUsb_pending (f : UsbState → UsbState) : (s.updUsb f).pending = s.pending := rfl
@[simp] theorem updUsb_hw (f : UsbState → UsbState) : (s.updUsb f).hw = s.hw := rfl
@[simp] theorem updUsb_free (f : UsbState → UsbState) : (s.updUsb f).free = s.free := rfl
@[simp] theorem updUsb_out (f : UsbState → UsbState) : (s.updUsb f).out = s.out := rfl
@[simp] theorem updUsb_regs (f : UsbState → UsbState) : (s.updUsb f).regs = s.regs := rfl
@[simp] theorem updUsb_tun (f : UsbState → UsbState) : (s.updUsb f).tun = s.tun := rfl
@[simp] theorem updUsb_links (f : UsbState → UsbState) : (s.updUsb f).links = s.links := rfl
@[simp] theorem updUsb_planes (f : UsbState → UsbState) : (s.updUsb f).planes = s.planes := rfl
@[simp] theorem updUsb_mcg (f : UsbState → UsbState) : (s.updUsb f).mcg = s.mcg := rfl
@[simp] theorem updUsb_rgm (f : UsbState → UsbState) : (s.updUsb f).rgm = s.rgm := rfl
@[simp] theorem updUsb_sch (f : UsbState → UsbState) : (s.updUsb f).sch = s.sch := rfl
@[simp] theorem updUsb_dram (f : UsbState → UsbState) : (s.updUsb f).dram = s.dram := rfl
@[simp] theorem updUsb_dsp (f : UsbState → UsbState) : (s.updUsb f).dsp = s.dsp := rfl
@[simp] theorem updUsb_sto (f : UsbState → UsbState) : (s.updUsb f).sto = s.sto := rfl
@[simp] theorem updUsb_brg (f : UsbState → UsbState) : (s.updUsb f).brg = s.brg := rfl
@[simp] theorem updUsb_net (f : UsbState → UsbState) : (s.updUsb f).net = s.net := rfl
@[simp] theorem updUsb_usb (f : UsbState → UsbState) : (s.updUsb f).usb = f s.usb := rfl
@[simp] theorem updUsb_tim (f : UsbState → UsbState) : (s.updUsb f).tim = s.tim := rfl
@[simp] theorem updUsb_eng (f : UsbState → UsbState) : (s.updUsb f).eng = s.eng := rfl
@[simp] theorem updUsb_mgt (f : UsbState → UsbState) : (s.updUsb f).mgt = s.mgt := rfl
@[simp] theorem updUsb_key (f : UsbState → UsbState) : (s.updUsb f).key = s.key := rfl
@[simp] theorem updUsb_fus (f : UsbState → UsbState) : (s.updUsb f).fus = s.fus := rfl
@[simp] theorem updUsb_jnl (f : UsbState → UsbState) : (s.updUsb f).jnl = s.jnl := rfl
@[simp] theorem updUsb_csr (f : UsbState → UsbState) : (s.updUsb f).csr = s.csr := rfl
@[simp] theorem updUsb_pwr (f : UsbState → UsbState) : (s.updUsb f).pwr = s.pwr := rfl
@[simp] theorem updUsb_rst (f : UsbState → UsbState) : (s.updUsb f).rst = s.rst := rfl

@[simp] theorem begin_rd (f : Field) (i j : Nat) : s.begin.rd f i j = s.rd f i j := rfl
@[simp] theorem emit_rd (e : Emit) (f : Field) (i j : Nat) : (s.emit e).rd f i j = s.rd f i j := rfl
@[simp] theorem begin_link (n : Nat) : s.begin.link n = s.link n := rfl
@[simp] theorem begin_plane (p : Nat) : s.begin.plane p = s.plane p := rfl
@[simp] theorem begin_verdict (path : Nat) (w : Bool) (addr : Nat) : s.begin.verdict path w addr = s.verdict path w addr := rfl
@[simp] theorem begin_domainRuns (d : Nat) : s.begin.domainRuns d = s.domainRuns d := rfl
@[simp] theorem begin_linkRuns (n : Nat) : s.begin.linkRuns n = s.linkRuns n := rfl
@[simp] theorem begin_linkState (n : Nat) : s.begin.linkState n = s.linkState n := rfl
@[simp] theorem begin_rxActive (n lane : Nat) : s.begin.rxActive n lane = s.rxActive n lane := rfl
@[simp] theorem begin_rxRetired (n lane : Nat) : s.begin.rxRetired n lane = s.rxRetired n lane := rfl
@[simp] theorem begin_rxSpare (n : Nat) : s.begin.rxSpare n = s.rxSpare n := rfl
@[simp] theorem begin_inService (p : Nat) : s.begin.inService p = s.inService p := rfl
@[simp] theorem begin_planeState (p : Nat) : s.begin.planeState p = s.planeState p := rfl
@[simp] theorem begin_recentRestarts (p : Nat) : s.begin.recentRestarts p = s.recentRestarts p := rfl
@[simp] theorem begin_eligible (p : Nat) : s.begin.eligible p = s.eligible p := rfl
@[simp] theorem begin_portDown (sp : Nat) : s.begin.portDown sp = s.portDown sp := rfl
@[simp] theorem begin_frozen : s.begin.frozen  = s.frozen  := rfl
@[simp] theorem begin_swapTarget : s.begin.swapTarget  = s.swapTarget  := rfl
@[simp] theorem begin_committing : s.begin.committing  = s.committing  := rfl
@[simp] theorem begin_sourceQualified (b : Nat) : s.begin.sourceQualified b = s.sourceQualified b := rfl
@[simp] theorem begin_slotByte (k : Nat) : s.begin.slotByte k = s.slotByte k := rfl
@[simp] theorem begin_irigSec (code year day hour min sec : Nat) (localOfs : Int) : s.begin.irigSec code year day hour min sec localOfs = s.irigSec code year day hour min sec localOfs := rfl
@[simp] theorem begin_trunkTime (n : Nat) : s.begin.trunkTime n = s.trunkTime n := rfl
@[simp] theorem begin_jnlFill : s.begin.jnlFill  = s.jnlFill  := rfl
@[simp] theorem begin_jnlWord (k : Nat) : s.begin.jnlWord k = s.jnlWord k := rfl
@[simp] theorem begin_freeNat : s.begin.freeNat  = s.freeNat  := rfl
@[simp] theorem begin_boundSource (tid : Nat) : s.begin.boundSource tid = s.boundSource tid := rfl
@[simp] theorem begin_srcState (i : Nat) : s.begin.srcState i = s.srcState i := rfl
@[simp] theorem begin_outState (o : Nat) : s.begin.outState o = s.outState o := rfl
@[simp] theorem begin_output (o : Nat) : s.begin.output o = s.output o := rfl
@[simp] theorem begin_auxData (o : Nat) : s.begin.auxData o = s.auxData o := rfl
@[simp] theorem begin_stoTun (b : Nat) : s.begin.stoTun b = s.stoTun b := rfl
@[simp] theorem begin_cmdAt (b k : Nat) : s.begin.cmdAt b k = s.cmdAt b k := rfl
@[simp] theorem begin_btState (b : Nat) : s.begin.btState b = s.btState b := rfl
@[simp] theorem begin_btPort (b : Nat) : s.begin.btPort b = s.btPort b := rfl
@[simp] theorem begin_rpState (p : Nat) : s.begin.rpState p = s.rpState p := rfl
@[simp] theorem begin_tunsOn (p : Nat) : s.begin.tunsOn p = s.tunsOn p := rfl
@[simp] theorem begin_stoPort (p : Nat) : s.begin.stoPort p = s.stoPort p := rfl
@[simp] theorem begin_semHeld (i : Nat) : s.begin.semHeld i = s.semHeld i := rfl
@[simp] theorem begin_owin (f : Field) (w : Nat) : s.begin.owin f w = s.owin f w := rfl
@[simp] theorem begin_iwin (f : Field) (i : Nat) : s.begin.iwin f i = s.iwin f i := rfl
@[simp] theorem begin_macState (m : Nat) : s.begin.macState m = s.macState m := rfl
@[simp] theorem begin_mac (m : Nat) : s.begin.mac m = s.mac m := rfl
@[simp] theorem begin_pwrState : s.begin.pwrState  = s.pwrState  := rfl
@[simp] theorem begin_entering : s.begin.entering  = s.entering  := rfl
@[simp] theorem begin_usbSuspended : s.begin.usbSuspended  = s.usbSuspended  := rfl
@[simp] theorem begin_wakePending : s.begin.wakePending  = s.wakePending  := rfl
@[simp] theorem begin_epState (e : Nat) : s.begin.epState e = s.epState e := rfl
@[simp] theorem begin_serves (e : Nat) : s.begin.serves e = s.serves e := rfl
@[simp] theorem begin_hasCkpt (e : Nat) : s.begin.hasCkpt e = s.hasCkpt e := rfl
@[simp] theorem begin_engSt (e : Nat) : s.begin.engSt e = s.engSt e := rfl
@[simp] theorem begin_engine (e : Nat) : s.begin.engine e = s.engine e := rfl
@[simp] theorem begin_logEng (l : Nat) : s.begin.logEng l = s.logEng l := rfl
@[simp] theorem begin_logOf (e : Nat) : s.begin.logOf e = s.logOf e := rfl
@[simp] theorem begin_keyRefused (path op k kind l : Nat) (buf : List Byte) : s.begin.keyRefused path op k kind l buf = s.keyRefused path op k kind l buf := rfl
@[simp] theorem begin_otpRefused (path op kind svn : Nat) : s.begin.otpRefused path op kind svn = s.otpRefused path op kind svn := rfl
@[simp] theorem begin_bufBytes (f : Field) (n : Nat) : s.begin.bufBytes f n = s.bufBytes f n := rfl
@[simp] theorem begin_ownerPath (path : Nat) : s.begin.ownerPath path = s.ownerPath path := rfl
@[simp] theorem begin_chSt (c : Nat) : s.begin.chSt c = s.chSt c := rfl
@[simp] theorem begin_crd (f : Field) (n : Nat) : s.begin.crd f n = s.crd f n := rfl
@[simp] theorem begin_cpdAttached (n : Nat) : s.begin.cpdAttached n = s.cpdAttached n := rfl
@[simp] theorem begin_phy (n : Nat) : s.begin.phy n = s.phy n := rfl
@[simp] theorem begin_functionsDrained (level : Nat) : s.begin.functionsDrained level = s.functionsDrained level := rfl
@[simp] theorem begin_i2cReady (dev : Nat) : s.begin.i2cReady dev = s.i2cReady dev := rfl
@[simp] theorem begin_pairRuns (p : Nat) : s.begin.pairRuns p = s.pairRuns p := rfl
@[simp] theorem begin_customerRuns : s.begin.customerRuns  = s.customerRuns  := rfl
@[simp] theorem begin_pdLinkUp : s.begin.pdLinkUp  = s.pdLinkUp  := rfl
@[simp] theorem begin_pageBusy (p : Nat) : s.begin.pageBusy p = s.pageBusy p := rfl
@[simp] theorem begin_agreedVcs (n : Nat) : s.begin.agreedVcs n = s.agreedVcs n := rfl
@[simp] theorem begin_offered (n : Nat) : s.begin.offered n = s.offered n := rfl
@[simp] theorem begin_oldest (n : Nat) : s.begin.oldest n = s.oldest n := rfl
@[simp] theorem begin_creditsHeld : s.begin.creditsHeld = s.creditsHeld := rfl
@[simp] theorem begin_pathHeld (path : Nat) : s.begin.pathHeld path = s.pathHeld path := rfl
@[simp] theorem begin_hostBlocked : s.begin.hostBlocked = s.hostBlocked := rfl
@[simp] theorem begin_heldGood (n lane : Nat) : s.begin.heldGood n lane = s.heldGood n lane := rfl
@[simp] theorem begin_ppsDue : s.begin.ppsDue = s.ppsDue := rfl
@[simp] theorem begin_directTrunk (o : Nat) : s.begin.directTrunk o = s.directTrunk o := rfl

end Sys2Proof.Machine.State
end

