-- ==== Sys2Proof/Laws/Tab.lean ====
section
/-! SUPPORT. Tables: a read after a store, and that every operation keeps the canonical form. -/

namespace Sys2Proof.Machine.Tab

variable {α : Type}

@[simp] theorem get_nil (d : α) (k : Nat) : get d k [] = d := rfl

theorem get_of_forall_ne {d : α} {k : Nat} {t : Tab α} (h : ∀ e ∈ t, k ≠ e.1) : get d k t = d := by
  induction t with
  | nil => rfl
  | cons e t ih =>
    obtain ⟨a, v⟩ := e
    simp only [get, if_neg (h (a, v) (by simp))]
    exact ih (fun e he => h e (by simp [he]))

@[simp] theorem get_put_same (d : α) (k : Nat) (v : α) (t : Tab α) : get d k (put k v t) = v := by
  induction t with
  | nil => simp [put, get]
  | cons e t ih =>
    obtain ⟨a, w⟩ := e
    simp only [put]
    split
    · simp [get]
    · split
      · simp [get]
      · rename_i h1 h2
        simp [get, h2, ih]

theorem get_put_ne {d : α} {k k' : Nat} {v : α} {t : Tab α} (h : k' ≠ k) : get d k' (put k v t) = get d k' t := by
  induction t with
  | nil => simp [put, get, h]
  | cons e t ih =>
    obtain ⟨a, w⟩ := e
    simp only [put]
    split
    · simp [get, h]
    · split
      · rename_i h1 h2
        subst h2
        simp [get, h]
      · simp [get, ih]

theorem get_filter {d : α} {k : Nat} {t : Tab α} {p : Nat × α → Bool} (h : ∀ v, p (k, v) = true) :
    get d k (t.filter p) = get d k t := by
  induction t with
  | nil => rfl
  | cons e t ih =>
    obtain ⟨a, w⟩ := e
    by_cases hk : k = a
    · subst hk
      rw [List.filter_cons_of_pos (h w)]
      simp [get]
    · by_cases hp : p (a, w)
      · rw [List.filter_cons_of_pos hp]
        simp [get, hk, ih]
      · rw [List.filter_cons_of_neg hp]
        simp [get, hk, ih]

theorem get_erase_same (d : α) (k : Nat) (t : Tab α) : get d k (erase k t) = d := by
  apply get_of_forall_ne
  intro e he
  simp only [erase, List.mem_filter, decide_eq_true_eq] at he
  exact fun h => he.2 h.symm

theorem get_erase_ne {d : α} {k k' : Nat} {t : Tab α} (h : k' ≠ k) : get d k' (erase k t) = get d k' t :=
  get_filter (by simp [h])

variable [DecidableEq α]

/-- What is read after a store: the value at its key, and elsewhere what stood there. -/
theorem get_set (d : α) (k k' : Nat) (v : α) (t : Tab α) :
    get d k' (set d k v t) = if k' = k then v else get d k' t := by
  unfold set
  by_cases hk : k' = k
  · subst hk
    split
    · rename_i h
      simp [get_erase_same, h]
    · simp
  · split
    · simp [get_erase_ne hk]
    · simp [get_put_ne hk]

@[simp] theorem get_set_same (d : α) (k : Nat) (v : α) (t : Tab α) : get d k (set d k v t) = v := by
  rw [get_set, if_pos rfl]

theorem get_set_ne {d : α} {k k' : Nat} {v : α} {t : Tab α} (h : k' ≠ k) : get d k' (set d k v t) = get d k' t := by
  rw [get_set, if_neg h]

/-- A store with another default leaves the other keys too. -/
theorem get_set_ne' {d d' : α} {k k' : Nat} {v : α} {t : Tab α} (h : k' ≠ k) :
    get d k' (set d' k v t) = get d k' t := by
  unfold set
  split
  · exact get_erase_ne h
  · exact get_put_ne h

omit [DecidableEq α] in
theorem rises_filter {t : Tab α} {p : Nat × α → Bool} (h : t.rises) : Tab.rises (t.filter p) :=
  List.Pairwise.filter p h

omit [DecidableEq α] in
theorem mem_put {k : Nat} {v : α} {t : Tab α} {e : Nat × α} (h : e ∈ put k v t) : e = (k, v) ∨ e ∈ t := by
  induction t with
  | nil => simpa [put] using h
  | cons x t ih =>
    obtain ⟨a, w⟩ := x
    simp only [put] at h
    split at h
    · simpa using h
    · split at h
      · simp only [List.mem_cons] at h ⊢
        tauto
      · simp only [List.mem_cons] at h ⊢
        rcases h with h | h
        · exact .inr (.inl h)
        · rcases ih h with h | h
          · exact .inl h
          · exact .inr (.inr h)

omit [DecidableEq α] in
/-- Listing a key keeps the keys rising. -/
theorem rises_put {k : Nat} {v : α} {t : Tab α} (h : t.rises) : (put k v t).rises := by
  induction t with
  | nil => simp [put, rises]
  | cons x t ih =>
    obtain ⟨a, w⟩ := x
    have hx := List.pairwise_cons.mp h
    simp only [put]
    split
    · rename_i hlt
      refine List.pairwise_cons.mpr ⟨?_, h⟩
      intro e he
      rcases List.mem_cons.mp he with he | he
      · subst he
        exact hlt
      · have := hx.1 e he
        simp only at this ⊢
        omega
    · split
      · rename_i hk
        subst hk
        exact List.pairwise_cons.mpr ⟨hx.1, hx.2⟩
      · rename_i h1 h2
        refine List.pairwise_cons.mpr ⟨?_, ih hx.2⟩
        intro e he
        rcases mem_put he with he | he
        · subst he
          simp only
          omega
        · exact hx.1 e he

/-- Storing keeps the keys rising. -/
theorem rises_set {d : α} {k : Nat} {v : α} {t : Tab α} (h : t.rises) : (set d k v t).rises := by
  unfold set
  split
  · exact rises_filter h
  · exact rises_put h

theorem wf_iff {d : α} {t : Tab α} : wf d t = true ↔ t.rises ∧ ∀ e ∈ t, e.2 ≠ d := by
  simp [wf, rises]

@[simp] theorem wf_nil (d : α) : wf d ([] : Tab α) = true := by simp [wf]

/-- Storing keeps the canonical form. -/
theorem wf_set {d : α} {k : Nat} {v : α} {t : Tab α} (h : wf d t = true) : wf d (set d k v t) = true := by
  rw [wf_iff] at h ⊢
  refine ⟨rises_set h.1, ?_⟩
  unfold set
  split
  · intro e he
    exact h.2 e (List.mem_of_mem_filter he)
  · rename_i hv
    intro e he
    rcases mem_put he with he | he
    · subst he
      exact hv
    · exact h.2 e he

theorem wf_upd {d : α} {k : Nat} {f : α → α} {t : Tab α} (h : wf d t = true) : wf d (upd d k f t) = true := wf_set h

theorem wf_filter {d : α} {t : Tab α} {p : Nat × α → Bool} (h : wf d t = true) : wf d (t.filter p) = true := by
  rw [wf_iff] at h ⊢
  exact ⟨rises_filter h.1, fun e he => h.2 e (List.mem_of_mem_filter he)⟩

theorem wf_erase {d : α} {k : Nat} {t : Tab α} (h : wf d t = true) : wf d (erase k t) = true := wf_filter h

theorem wf_eraseIf {d : α} {p : Nat → Bool} {t : Tab α} (h : wf d t = true) : wf d (eraseIf p t) = true := wf_filter h

omit [DecidableEq α] in
theorem rises_run (a n : Nat) (vs : List α) : Tab.rises (((List.range n).map (a + ·)).zip vs) := by
  unfold rises
  rw [List.pairwise_iff_getElem]
  intro i j hi hj hij
  simp only [List.getElem_zip, List.getElem_map, List.getElem_range]
  omega

/-- Storing a run keeps the canonical form. -/
theorem wf_setRun {d : α} {a : Nat} {vs : List α} {t : Tab α} (h : wf d t = true) : wf d (setRun d a vs t) = true := by
  rw [wf_iff] at h ⊢
  have hrun : ∀ e ∈ (((List.range vs.length).map (a + ·)).zip vs).filter (fun e => decide (e.2 ≠ d)),
      a ≤ e.1 ∧ e.1 < a + vs.length ∧ e.2 ≠ d := by
    intro e he
    obtain ⟨he, hd⟩ := List.mem_filter.mp he
    have h1 := List.of_mem_zip he
    simp only [List.mem_map, List.mem_range] at h1
    obtain ⟨⟨i, hi, hi'⟩, _⟩ := h1
    refine ⟨by omega, by omega, by simpa using hd⟩
  constructor
  · unfold setRun rises
    rw [List.pairwise_append, List.pairwise_append]
    refine ⟨⟨rises_filter h.1, rises_filter (rises_run a vs.length vs), ?_⟩, rises_filter h.1, ?_⟩
    · intro x hx y hy
      have hx' := (List.mem_filter.mp hx).2
      have hy' := hrun y hy
      simp only [decide_eq_true_eq] at hx'
      omega
    · intro x hx y hy
      have hy' := (List.mem_filter.mp hy).2
      simp only [decide_eq_true_eq] at hy'
      rcases List.mem_append.mp hx with hx | hx
      · have hx' := (List.mem_filter.mp hx).2
        simp only [decide_eq_true_eq] at hx'
        omega
      · have := hrun x hx
        omega
  · intro e he
    unfold setRun at he
    rcases List.mem_append.mp he with he | he
    · rcases List.mem_append.mp he with he | he
      · exact h.2 e (List.mem_of_mem_filter he)
      · exact (hrun e he).2.2
    · exact h.2 e (List.mem_of_mem_filter he)

omit [DecidableEq α] in
theorem get_append_left {d : α} {k : Nat} {s t : Tab α} (h : ∀ e ∈ t, k ≠ e.1) : get d k (s ++ t) = get d k s := by
  induction s with
  | nil => simpa using get_of_forall_ne h
  | cons e s ih =>
    obtain ⟨a, v⟩ := e
    simp [get, ih]

omit [DecidableEq α] in
theorem get_append_right {d : α} {k : Nat} {s t : Tab α} (h : ∀ e ∈ s, k ≠ e.1) : get d k (s ++ t) = get d k t := by
  induction s with
  | nil => rfl
  | cons e s ih =>
    obtain ⟨a, v⟩ := e
    have h1 := h (a, v) (by simp)
    simp only [List.cons_append, get, if_neg h1]
    exact ih (fun e he => h e (by simp [he]))

theorem mem_run {d : α} {a : Nat} {vs : List α} {e : Nat × α}
    (he : e ∈ (((List.range vs.length).map (a + ·)).zip vs).filter (fun e => decide (e.2 ≠ d))) :
    a ≤ e.1 ∧ e.1 < a + vs.length := by
  have h1 := List.of_mem_zip (List.mem_of_mem_filter he)
  simp only [List.mem_map, List.mem_range] at h1
  obtain ⟨⟨i, hi, hi'⟩, _⟩ := h1
  omega

/-- Storing a run leaves every key outside it. -/
theorem get_setRun_out {d : α} {a k : Nat} {vs : List α} {t : Tab α} (h : k < a ∨ a + vs.length ≤ k) :
    get d k (setRun d a vs t) = get d k t := by
  unfold setRun
  rcases h with h | h
  · rw [get_append_left, get_append_left, get_filter (by simp [h])]
    · intro e he
      have := mem_run he
      omega
    · intro e he
      have := (List.mem_filter.mp he).2
      simp only [decide_eq_true_eq] at this
      omega
  · rw [get_append_right, get_filter (by simp [h])]
    intro e he
    rcases List.mem_append.mp he with he | he
    · have := (List.mem_filter.mp he).2
      simp only [decide_eq_true_eq] at this
      omega
    · have := mem_run he
      omega

theorem get_run {d : α} (vs : List α) (a i : Nat) (h : i < vs.length) :
    get d (a + i) (((List.range' a vs.length).zip vs).filter (fun e => decide (e.2 ≠ d))) = vs[i] := by
  induction vs generalizing a i with
  | nil => simp at h
  | cons v vs ih =>
    simp only [List.length_cons, List.range'_succ, List.zip_cons_cons]
    by_cases hv : v = d
    · rw [List.filter_cons_of_neg (by simp [hv])]
      cases i with
      | zero =>
        simp only [Nat.add_zero, List.getElem_cons_zero, hv]
        apply get_of_forall_ne
        intro e he
        have h1 := List.of_mem_zip (List.mem_of_mem_filter he)
        have h2 := (List.mem_range'_1.mp h1.1).1
        omega
      | succ i =>
        have := ih (a + 1) i (by simpa using h)
        simpa [Nat.add_assoc, Nat.add_comm 1 i] using this
    · rw [List.filter_cons_of_pos (by simp [hv])]
      cases i with
      | zero => simp [get]
      | succ i =>
        have := ih (a + 1) i (by simpa using h)
        simp only [get, if_neg (show ¬ a + (i + 1) = a by omega)]
        simpa [Nat.add_assoc, Nat.add_comm 1 i] using this

/-- Storing a run: the values read back in their places. -/
theorem get_setRun_in {d : α} {a i : Nat} {vs : List α} {t : Tab α} (h : i < vs.length) :
    get d (a + i) (setRun d a vs t) = vs[i] := by
  unfold setRun
  rw [get_append_left, get_append_right]
  · have := get_run (d := d) vs a i h
    rwa [List.range'_eq_map_range] at this
  · intro e he
    have := (List.mem_filter.mp he).2
    simp only [decide_eq_true_eq] at this
    omega
  · intro e he
    have := (List.mem_filter.mp he).2
    simp only [decide_eq_true_eq] at this
    omega

end Sys2Proof.Machine.Tab
end

