-- ==== Sys2Proof/Laws/Ops.lean ====
section
/-! SUPPORT. What the shared operations do, said once: a register read after a write, the gate of register accesses, and the operations on counters, interrupts, the journal and captures, which touch nothing but the shared parts of the state. -/

namespace Sys2Proof.Machine.State

variable {s t u : State}

/-! ### Registers -/

@[simp] theorem rd_wr_same (s : State) (f : Field) (v i j : Nat) : (s.wr f v i j).rd f i j = v % 2 ^ f.width := by
  simp [rd, wr, Field.get, Field.put]

theorem rd_wr_ne {f g : Field} {v i j a b : Nat} (h : g.key a b ≠ f.key i j) : (s.wr f v i j).rd g a b = s.rd g a b :=
  Tab.get_set_ne' h

/-- A write of another register field leaves a key of the store. -/
theorem get_wr_ne {f : Field} {v i j d k : Nat} (h : k ≠ f.key i j) : (s.wr f v i j).regs.get d k = s.regs.get d k :=
  Tab.get_set_ne' h

theorem wr_rises {f : Field} {v i j : Nat} (h : s.regs.rises) : (s.wr f v i j).regs.rises := Tab.rises_set h

theorem eraseKeys_rises {p : Nat → Bool} (h : s.regs.rises) : (s.eraseKeys p).regs.rises := Tab.rises_filter h

/-! ### The gate -/

theorem gateWrite_go {path addr data : Nat} {act : State → State} {eng : Option Nat} (h : s.verdict path true addr = .go) :
    s.gateWrite path addr data act eng = act (s.tlpIn path) := by simp [gateWrite, writeVerdict, h]

theorem gateRead_go {path addr : Nat} {act : State → State} (h : s.verdict path false addr = .go) :
    s.gateRead path addr act = act (s.tlpIn path) := by simp [gateRead, h]

/-- A write that goes through is carried out. -/
theorem letsWrite_act {path addr data : Nat} {act : State → State} (h : s.letsWrite path addr) :
    s.begin.gateWrite path addr data act = act (s.begin.tlpIn path) := gateWrite_go h.2

/-- A read that goes through is carried out. -/
theorem letsRead_act {path addr : Nat} {act : State → State} (h : s.letsRead path addr) :
    s.begin.gateRead path addr act = act (s.begin.tlpIn path) := gateRead_go h.2

/-! ### The shared parts -/

namespace sharedOnly

theorem refl (s : State) : s.sharedOnly s := rfl

theorem trans (h : s.sharedOnly t) (h' : t.sharedOnly u) : s.sharedOnly u := by
  unfold sharedOnly at *
  rw [h] at h'
  exact h'

theorem foldl {α : Type} {f : State → α → State} (hf : ∀ (s : State) (x : α), s.sharedOnly (f s x)) (l : List α) (s : State) :
    s.sharedOnly (l.foldl f s) := by
  induction l generalizing s with
  | nil => exact refl s
  | cons x l ih => exact trans (hf s x) (ih (f s x))

theorem ite {c : Prop} [Decidable c] (h : s.sharedOnly t) (h' : s.sharedOnly u) : s.sharedOnly (if c then t else u) := by
  split
  · exact h
  · exact h'

end sharedOnly

theorem wr_shared (s : State) (f : Field) (v i j : Nat) : s.sharedOnly (s.wr f v i j) := rfl

theorem emit_shared (s : State) (e : Emit) : s.sharedOnly (s.emit e) := rfl

theorem jnl_shared (s : State) (j : JnlState) : s.sharedOnly { s with jnl := j } := rfl

theorem csr_shared (s : State) (c : CsrState) : s.sharedOnly { s with csr := c } := rfl

theorem brg_shared (s : State) (b : BrgState) : s.sharedOnly { s with brg := b } := rfl

theorem begin_shared (s : State) : s.sharedOnly s.begin := rfl

theorem put_shared (s : State) (f : Field) (v i j : Nat) : s.sharedOnly (s.put f v i j) := rfl

theorem bumpBy_shared (s : State) (f : Field) (n i j : Nat) : s.sharedOnly (s.bumpBy f n i j) :=
  .ite (wr_shared ..) (.refl s)

theorem bump_shared (s : State) (f : Field) (i j : Nat) : s.sharedOnly (s.bump f i j) := bumpBy_shared s f 1 i j

theorem countAt_shared (s : State) (c n : Nat) : s.sharedOnly (s.countAt c n) := by
  unfold countAt
  exact .ite (wr_shared ..) ((wr_shared ..).trans (wr_shared ..))

theorem forwardIrq_shared (s : State) (page b : Nat) : s.sharedOnly (s.forwardIrq page b) := .ite (emit_shared ..) (.refl s)

theorem tallyMsix_shared (s : State) (ev : Nat) : s.sharedOnly (s.tallyMsix ev) :=
  .foldl (fun s c => .ite (((countAt_shared s c 1).trans (wr_shared ..)).trans (forwardIrq_shared ..)) (countAt_shared s c 1)) _ s

theorem msixWrite_shared (s : State) (v : Nat) : s.sharedOnly (s.msixWrite v) := by
  unfold msixWrite
  exact .ite (brg_shared ..) (((emit_shared ..).trans (tallyMsix_shared ..)).trans (tallyMsix_shared ..))

theorem pairInterrupt_shared (s : State) (g : Nat) : s.sharedOnly (s.pairInterrupt g) :=
  .ite (emit_shared ..) (.ite (emit_shared ..) (.refl s))

theorem notice_shared (s : State) (g : Nat) : s.sharedOnly (s.notice g) := by
  have h : s.sharedOnly (if (s.rd R.MON_ROUTE_MGT).testBit g then s.pairInterrupt g else s) :=
    .ite (pairInterrupt_shared ..) (.refl s)
  unfold notice
  exact .ite (h.trans (msixWrite_shared ..)) h

theorem routing_shared {act : State → State} (s : State) (g : Nat) (h : ∀ s : State, s.sharedOnly (act s)) :
    s.sharedOnly (s.routing g act) := by
  unfold routing
  exact .ite (h s) (.ite ((h s).trans (notice_shared ..)) (((h s).trans (notice_shared ..)).trans (notice_shared ..)))

theorem irq_shared (s : State) (page b : Nat) : s.sharedOnly (s.irq page b) :=
  (routing_shared s (page / 32) (fun s => wr_shared s (irqField b) 1 page 0)).trans (forwardIrq_shared ..)

theorem tallyAt_shared (s : State) (c n : Nat) : s.sharedOnly (s.tallyAt c n) :=
  .ite ((countAt_shared s c n).trans (irq_shared ..)) (countAt_shared s c n)

theorem tally_shared (s : State) (ev n : Nat) : s.sharedOnly (s.tally ev n) := .foldl (fun s c => tallyAt_shared s c n) _ s

theorem tlpIn_shared (s : State) (path : Nat) : s.sharedOnly (s.tlpIn path) := .ite (tally_shared ..) (.refl s)

theorem answer_shared (s : State) (path v : Nat) : s.sharedOnly (s.answer path v) :=
  .ite ((emit_shared ..).trans (tally_shared ..)) (emit_shared ..)

theorem journalAt_shared (s : State) (tsw page b arg : Nat) : s.sharedOnly (s.journalAt tsw page b arg) := by
  unfold journalAt
  refine .ite (.refl s) (.ite ((((jnl_shared ..).trans (bump_shared ..)).trans (tally_shared ..)).trans (irq_shared ..)) (jnl_shared ..))

theorem event_shared (s : State) (page b arg : Nat) : s.sharedOnly (s.event page b arg) :=
  (irq_shared ..).trans (journalAt_shared ..)

theorem alarm_shared (s : State) (page b arg : Nat) : s.sharedOnly (s.alarm page b arg) :=
  (csr_shared ..).trans (event_shared ..)

theorem capture_shared (s : State) (page path : Nat) (write : Bool) (cause off data be pf : Nat) :
    s.sharedOnly (s.capture page path write cause off data be pf) := by
  unfold capture
  refine .ite (wr_shared ..) ?_
  repeat' refine sharedOnly.trans ?_ (wr_shared ..)
  exact .refl s

theorem deny_shared (s : State) (path : Nat) (write : Bool) (addr data be : Nat) :
    s.sharedOnly (s.deny path write addr data be) := by
  unfold deny
  refine sharedOnly.trans ?_ (event_shared ..)
  refine (((sharedOnly.trans ?_ (wr_shared ..)).trans (wr_shared ..)).trans (wr_shared ..))
  exact (capture_shared ..).trans (bump_shared ..)

theorem storeField_shared (s : State) (page : Nat) (f : Field) (data i j : Nat) :
    s.sharedOnly (s.storeField page f data i j) := by
  unfold storeField
  split <;> first | rfl | exact .ite (.refl s) (put_shared ..)

theorem store_shared (s : State) (path addr data : Nat) (fs : List Field) (i j : Nat) :
    s.sharedOnly (s.store path addr data fs i j) := by
  have h := sharedOnly.ite (c := s.lockedWrite (addr / 4096) fs data i j)
    (capture_shared s (addr / 4096) path true causeLocked (addr % 4096) data 0xF 0) (.refl s)
  exact h.trans (.foldl (fun s f => storeField_shared ..) _ _)

end Sys2Proof.Machine.State
end

