-- ==== Sys2Proof/Laws/Shared.lean ====
section
/-! SUPPORT. The parts of the state that the shared operations leave: one lemma per part per operation, from the relation of Laws/Ops.lean. -/

namespace Sys2Proof.Machine.State

namespace sharedOnly

variable {s t : State}

theorem pending (h : s.sharedOnly t) : t.pending = s.pending := by rw [h]
theorem hw (h : s.sharedOnly t) : t.hw = s.hw := by rw [h]
theorem tun (h : s.sharedOnly t) : t.tun = s.tun := by rw [h]
theorem links (h : s.sharedOnly t) : t.links = s.links := by rw [h]
theorem planes (h : s.sharedOnly t) : t.planes = s.planes := by rw [h]
theorem mcg (h : s.sharedOnly t) : t.mcg = s.mcg := by rw [h]
theorem rgm (h : s.sharedOnly t) : t.rgm = s.rgm := by rw [h]
theorem sch (h : s.sharedOnly t) : t.sch = s.sch := by rw [h]
theorem dram (h : s.sharedOnly t) : t.dram = s.dram := by rw [h]
theorem dsp (h : s.sharedOnly t) : t.dsp = s.dsp := by rw [h]
theorem sto (h : s.sharedOnly t) : t.sto = s.sto := by rw [h]
theorem net (h : s.sharedOnly t) : t.net = s.net := by rw [h]
theorem usb (h : s.sharedOnly t) : t.usb = s.usb := by rw [h]
theorem tim (h : s.sharedOnly t) : t.tim = s.tim := by rw [h]
theorem eng (h : s.sharedOnly t) : t.eng = s.eng := by rw [h]
theorem mgt (h : s.sharedOnly t) : t.mgt = s.mgt := by rw [h]
theorem key (h : s.sharedOnly t) : t.key = s.key := by rw [h]
theorem fus (h : s.sharedOnly t) : t.fus = s.fus := by rw [h]
theorem pwr (h : s.sharedOnly t) : t.pwr = s.pwr := by rw [h]
theorem rst (h : s.sharedOnly t) : t.rst = s.rst := by rw [h]

end sharedOnly

variable (s : State)

@[simp] theorem bumpBy_pending (f : Field) (n i j : Nat) : (s.bumpBy f n i j).pending = s.pending := sharedOnly.pending (bumpBy_shared ..)
@[simp] theorem bumpBy_hw (f : Field) (n i j : Nat) : (s.bumpBy f n i j).hw = s.hw := sharedOnly.hw (bumpBy_shared ..)
@[simp] theorem bumpBy_tun (f : Field) (n i j : Nat) : (s.bumpBy f n i j).tun = s.tun := sharedOnly.tun (bumpBy_shared ..)
@[simp] theorem bumpBy_links (f : Field) (n i j : Nat) : (s.bumpBy f n i j).links = s.links := sharedOnly.links (bumpBy_shared ..)
@[simp] theorem bumpBy_planes (f : Field) (n i j : Nat) : (s.bumpBy f n i j).planes = s.planes := sharedOnly.planes (bumpBy_shared ..)
@[simp] theorem bumpBy_mcg (f : Field) (n i j : Nat) : (s.bumpBy f n i j).mcg = s.mcg := sharedOnly.mcg (bumpBy_shared ..)
@[simp] theorem bumpBy_rgm (f : Field) (n i j : Nat) : (s.bumpBy f n i j).rgm = s.rgm := sharedOnly.rgm (bumpBy_shared ..)
@[simp] theorem bumpBy_sch (f : Field) (n i j : Nat) : (s.bumpBy f n i j).sch = s.sch := sharedOnly.sch (bumpBy_shared ..)
@[simp] theorem bumpBy_dram (f : Field) (n i j : Nat) : (s.bumpBy f n i j).dram = s.dram := sharedOnly.dram (bumpBy_shared ..)
@[simp] theorem bumpBy_dsp (f : Field) (n i j : Nat) : (s.bumpBy f n i j).dsp = s.dsp := sharedOnly.dsp (bumpBy_shared ..)
@[simp] theorem bumpBy_sto (f : Field) (n i j : Nat) : (s.bumpBy f n i j).sto = s.sto := sharedOnly.sto (bumpBy_shared ..)
@[simp] theorem bumpBy_net (f : Field) (n i j : Nat) : (s.bumpBy f n i j).net = s.net := sharedOnly.net (bumpBy_shared ..)
@[simp] theorem bumpBy_usb (f : Field) (n i j : Nat) : (s.bumpBy f n i j).usb = s.usb := sharedOnly.usb (bumpBy_shared ..)
@[simp] theorem bumpBy_tim (f : Field) (n i j : Nat) : (s.bumpBy f n i j).tim = s.tim := sharedOnly.tim (bumpBy_shared ..)
@[simp] theorem bumpBy_eng (f : Field) (n i j : Nat) : (s.bumpBy f n i j).eng = s.eng := sharedOnly.eng (bumpBy_shared ..)
@[simp] theorem bumpBy_mgt (f : Field) (n i j : Nat) : (s.bumpBy f n i j).mgt = s.mgt := sharedOnly.mgt (bumpBy_shared ..)
@[simp] theorem bumpBy_key (f : Field) (n i j : Nat) : (s.bumpBy f n i j).key = s.key := sharedOnly.key (bumpBy_shared ..)
@[simp] theorem bumpBy_fus (f : Field) (n i j : Nat) : (s.bumpBy f n i j).fus = s.fus := sharedOnly.fus (bumpBy_shared ..)
@[simp] theorem bumpBy_pwr (f : Field) (n i j : Nat) : (s.bumpBy f n i j).pwr = s.pwr := sharedOnly.pwr (bumpBy_shared ..)
@[simp] theorem bumpBy_rst (f : Field) (n i j : Nat) : (s.bumpBy f n i j).rst = s.rst := sharedOnly.rst (bumpBy_shared ..)

@[simp] theorem bump_pending (f : Field) (i j : Nat) : (s.bump f i j).pending = s.pending := sharedOnly.pending (bump_shared ..)
@[simp] theorem bump_hw (f : Field) (i j : Nat) : (s.bump f i j).hw = s.hw := sharedOnly.hw (bump_shared ..)
@[simp] theorem bump_tun (f : Field) (i j : Nat) : (s.bump f i j).tun = s.tun := sharedOnly.tun (bump_shared ..)
@[simp] theorem bump_links (f : Field) (i j : Nat) : (s.bump f i j).links = s.links := sharedOnly.links (bump_shared ..)
@[simp] theorem bump_planes (f : Field) (i j : Nat) : (s.bump f i j).planes = s.planes := sharedOnly.planes (bump_shared ..)
@[simp] theorem bump_mcg (f : Field) (i j : Nat) : (s.bump f i j).mcg = s.mcg := sharedOnly.mcg (bump_shared ..)
@[simp] theorem bump_rgm (f : Field) (i j : Nat) : (s.bump f i j).rgm = s.rgm := sharedOnly.rgm (bump_shared ..)
@[simp] theorem bump_sch (f : Field) (i j : Nat) : (s.bump f i j).sch = s.sch := sharedOnly.sch (bump_shared ..)
@[simp] theorem bump_dram (f : Field) (i j : Nat) : (s.bump f i j).dram = s.dram := sharedOnly.dram (bump_shared ..)
@[simp] theorem bump_dsp (f : Field) (i j : Nat) : (s.bump f i j).dsp = s.dsp := sharedOnly.dsp (bump_shared ..)
@[simp] theorem bump_sto (f : Field) (i j : Nat) : (s.bump f i j).sto = s.sto := sharedOnly.sto (bump_shared ..)
@[simp] theorem bump_net (f : Field) (i j : Nat) : (s.bump f i j).net = s.net := sharedOnly.net (bump_shared ..)
@[simp] theorem bump_usb (f : Field) (i j : Nat) : (s.bump f i j).usb = s.usb := sharedOnly.usb (bump_shared ..)
@[simp] theorem bump_tim (f : Field) (i j : Nat) : (s.bump f i j).tim = s.tim := sharedOnly.tim (bump_shared ..)
@[simp] theorem bump_eng (f : Field) (i j : Nat) : (s.bump f i j).eng = s.eng := sharedOnly.eng (bump_shared ..)
@[simp] theorem bump_mgt (f : Field) (i j : Nat) : (s.bump f i j).mgt = s.mgt := sharedOnly.mgt (bump_shared ..)
@[simp] theorem bump_key (f : Field) (i j : Nat) : (s.bump f i j).key = s.key := sharedOnly.key (bump_shared ..)
@[simp] theorem bump_fus (f : Field) (i j : Nat) : (s.bump f i j).fus = s.fus := sharedOnly.fus (bump_shared ..)
@[simp] theorem bump_pwr (f : Field) (i j : Nat) : (s.bump f i j).pwr = s.pwr := sharedOnly.pwr (bump_shared ..)
@[simp] theorem bump_rst (f : Field) (i j : Nat) : (s.bump f i j).rst = s.rst := sharedOnly.rst (bump_shared ..)

@[simp] theorem tally_pending (ev n : Nat) : (s.tally ev n).pending = s.pending := sharedOnly.pending (tally_shared ..)
@[simp] theorem tally_hw (ev n : Nat) : (s.tally ev n).hw = s.hw := sharedOnly.hw (tally_shared ..)
@[simp] theorem tally_tun (ev n : Nat) : (s.tally ev n).tun = s.tun := sharedOnly.tun (tally_shared ..)
@[simp] theorem tally_links (ev n : Nat) : (s.tally ev n).links = s.links := sharedOnly.links (tally_shared ..)
@[simp] theorem tally_planes (ev n : Nat) : (s.tally ev n).planes = s.planes := sharedOnly.planes (tally_shared ..)
@[simp] theorem tally_mcg (ev n : Nat) : (s.tally ev n).mcg = s.mcg := sharedOnly.mcg (tally_shared ..)
@[simp] theorem tally_rgm (ev n : Nat) : (s.tally ev n).rgm = s.rgm := sharedOnly.rgm (tally_shared ..)
@[simp] theorem tally_sch (ev n : Nat) : (s.tally ev n).sch = s.sch := sharedOnly.sch (tally_shared ..)
@[simp] theorem tally_dram (ev n : Nat) : (s.tally ev n).dram = s.dram := sharedOnly.dram (tally_shared ..)
@[simp] theorem tally_dsp (ev n : Nat) : (s.tally ev n).dsp = s.dsp := sharedOnly.dsp (tally_shared ..)
@[simp] theorem tally_sto (ev n : Nat) : (s.tally ev n).sto = s.sto := sharedOnly.sto (tally_shared ..)
@[simp] theorem tally_net (ev n : Nat) : (s.tally ev n).net = s.net := sharedOnly.net (tally_shared ..)
@[simp] theorem tally_usb (ev n : Nat) : (s.tally ev n).usb = s.usb := sharedOnly.usb (tally_shared ..)
@[simp] theorem tally_tim (ev n : Nat) : (s.tally ev n).tim = s.tim := sharedOnly.tim (tally_shared ..)
@[simp] theorem tally_eng (ev n : Nat) : (s.tally ev n).eng = s.eng := sharedOnly.eng (tally_shared ..)
@[simp] theorem tally_mgt (ev n : Nat) : (s.tally ev n).mgt = s.mgt := sharedOnly.mgt (tally_shared ..)
@[simp] theorem tally_key (ev n : Nat) : (s.tally ev n).key = s.key := sharedOnly.key (tally_shared ..)
@[simp] theorem tally_fus (ev n : Nat) : (s.tally ev n).fus = s.fus := sharedOnly.fus (tally_shared ..)
@[simp] theorem tally_pwr (ev n : Nat) : (s.tally ev n).pwr = s.pwr := sharedOnly.pwr (tally_shared ..)
@[simp] theorem tally_rst (ev n : Nat) : (s.tally ev n).rst = s.rst := sharedOnly.rst (tally_shared ..)

@[simp] theorem irq_pending (page b : Nat) : (s.irq page b).pending = s.pending := sharedOnly.pending (irq_shared ..)
@[simp] theorem irq_hw (page b : Nat) : (s.irq page b).hw = s.hw := sharedOnly.hw (irq_shared ..)
@[simp] theorem irq_tun (page b : Nat) : (s.irq page b).tun = s.tun := sharedOnly.tun (irq_shared ..)
@[simp] theorem irq_links (page b : Nat) : (s.irq page b).links = s.links := sharedOnly.links (irq_shared ..)
@[simp] theorem irq_planes (page b : Nat) : (s.irq page b).planes = s.planes := sharedOnly.planes (irq_shared ..)
@[simp] theorem irq_mcg (page b : Nat) : (s.irq page b).mcg = s.mcg := sharedOnly.mcg (irq_shared ..)
@[simp] theorem irq_rgm (page b : Nat) : (s.irq page b).rgm = s.rgm := sharedOnly.rgm (irq_shared ..)
@[simp] theorem irq_sch (page b : Nat) : (s.irq page b).sch = s.sch := sharedOnly.sch (irq_shared ..)
@[simp] theorem irq_dram (page b : Nat) : (s.irq page b).dram = s.dram := sharedOnly.dram (irq_shared ..)
@[simp] theorem irq_dsp (page b : Nat) : (s.irq page b).dsp = s.dsp := sharedOnly.dsp (irq_shared ..)
@[simp] theorem irq_sto (page b : Nat) : (s.irq page b).sto = s.sto := sharedOnly.sto (irq_shared ..)
@[simp] theorem irq_net (page b : Nat) : (s.irq page b).net = s.net := sharedOnly.net (irq_shared ..)
@[simp] theorem irq_usb (page b : Nat) : (s.irq page b).usb = s.usb := sharedOnly.usb (irq_shared ..)
@[simp] theorem irq_tim (page b : Nat) : (s.irq page b).tim = s.tim := sharedOnly.tim (irq_shared ..)
@[simp] theorem irq_eng (page b : Nat) : (s.irq page b).eng = s.eng := sharedOnly.eng (irq_shared ..)
@[simp] theorem irq_mgt (page b : Nat) : (s.irq page b).mgt = s.mgt := sharedOnly.mgt (irq_shared ..)
@[simp] theorem irq_key (page b : Nat) : (s.irq page b).key = s.key := sharedOnly.key (irq_shared ..)
@[simp] theorem irq_fus (page b : Nat) : (s.irq page b).fus = s.fus := sharedOnly.fus (irq_shared ..)
@[simp] theorem irq_pwr (page b : Nat) : (s.irq page b).pwr = s.pwr := sharedOnly.pwr (irq_shared ..)
@[simp] theorem irq_rst (page b : Nat) : (s.irq page b).rst = s.rst := sharedOnly.rst (irq_shared ..)

@[simp] theorem journalAt_pending (tsw page b arg : Nat) : (s.journalAt tsw page b arg).pending = s.pending := sharedOnly.pending (journalAt_shared ..)
@[simp] theorem journalAt_hw (tsw page b arg : Nat) : (s.journalAt tsw page b arg).hw = s.hw := sharedOnly.hw (journalAt_shared ..)
@[simp] theorem journalAt_tun (tsw page b arg : Nat) : (s.journalAt tsw page b arg).tun = s.tun := sharedOnly.tun (journalAt_shared ..)
@[simp] theorem journalAt_links (tsw page b arg : Nat) : (s.journalAt tsw page b arg).links = s.links := sharedOnly.links (journalAt_shared ..)
@[simp] theorem journalAt_planes (tsw page b arg : Nat) : (s.journalAt tsw page b arg).planes = s.planes := sharedOnly.planes (journalAt_shared ..)
@[simp] theorem journalAt_mcg (tsw page b arg : Nat) : (s.journalAt tsw page b arg).mcg = s.mcg := sharedOnly.mcg (journalAt_shared ..)
@[simp] theorem journalAt_rgm (tsw page b arg : Nat) : (s.journalAt tsw page b arg).rgm = s.rgm := sharedOnly.rgm (journalAt_shared ..)
@[simp] theorem journalAt_sch (tsw page b arg : Nat) : (s.journalAt tsw page b arg).sch = s.sch := sharedOnly.sch (journalAt_shared ..)
@[simp] theorem journalAt_dram (tsw page b arg : Nat) : (s.journalAt tsw page b arg).dram = s.dram := sharedOnly.dram (journalAt_shared ..)
@[simp] theorem journalAt_dsp (tsw page b arg : Nat) : (s.journalAt tsw page b arg).dsp = s.dsp := sharedOnly.dsp (journalAt_shared ..)
@[simp] theorem journalAt_sto (tsw page b arg : Nat) : (s.journalAt tsw page b arg).sto = s.sto := sharedOnly.sto (journalAt_shared ..)
@[simp] theorem journalAt_net (tsw page b arg : Nat) : (s.journalAt tsw page b arg).net = s.net := sharedOnly.net (journalAt_shared ..)
@[simp] theorem journalAt_usb (tsw page b arg : Nat) : (s.journalAt tsw page b arg).usb = s.usb := sharedOnly.usb (journalAt_shared ..)
@[simp] theorem journalAt_tim (tsw page b arg : Nat) : (s.journalAt tsw page b arg).tim = s.tim := sharedOnly.tim (journalAt_shared ..)
@[simp] theorem journalAt_eng (tsw page b arg : Nat) : (s.journalAt tsw page b arg).eng = s.eng := sharedOnly.eng (journalAt_shared ..)
@[simp] theorem journalAt_mgt (tsw page b arg : Nat) : (s.journalAt tsw page b arg).mgt = s.mgt := sharedOnly.mgt (journalAt_shared ..)
@[simp] theorem journalAt_key (tsw page b arg : Nat) : (s.journalAt tsw page b arg).key = s.key := sharedOnly.key (journalAt_shared ..)
@[simp] theorem journalAt_fus (tsw page b arg : Nat) : (s.journalAt tsw page b arg).fus = s.fus := sharedOnly.fus (journalAt_shared ..)
@[simp] theorem journalAt_pwr (tsw page b arg : Nat) : (s.journalAt tsw page b arg).pwr = s.pwr := sharedOnly.pwr (journalAt_shared ..)
@[simp] theorem journalAt_rst (tsw page b arg : Nat) : (s.journalAt tsw page b arg).rst = s.rst := sharedOnly.rst (journalAt_shared ..)

@[simp] theorem event_pending (page b arg : Nat) : (s.event page b arg).pending = s.pending := sharedOnly.pending (event_shared ..)
@[simp] theorem event_hw (page b arg : Nat) : (s.event page b arg).hw = s.hw := sharedOnly.hw (event_shared ..)
@[simp] theorem event_tun (page b arg : Nat) : (s.event page b arg).tun = s.tun := sharedOnly.tun (event_shared ..)
@[simp] theorem event_links (page b arg : Nat) : (s.event page b arg).links = s.links := sharedOnly.links (event_shared ..)
@[simp] theorem event_planes (page b arg : Nat) : (s.event page b arg).planes = s.planes := sharedOnly.planes (event_shared ..)
@[simp] theorem event_mcg (page b arg : Nat) : (s.event page b arg).mcg = s.mcg := sharedOnly.mcg (event_shared ..)
@[simp] theorem event_rgm (page b arg : Nat) : (s.event page b arg).rgm = s.rgm := sharedOnly.rgm (event_shared ..)
@[simp] theorem event_sch (page b arg : Nat) : (s.event page b arg).sch = s.sch := sharedOnly.sch (event_shared ..)
@[simp] theorem event_dram (page b arg : Nat) : (s.event page b arg).dram = s.dram := sharedOnly.dram (event_shared ..)
@[simp] theorem event_dsp (page b arg : Nat) : (s.event page b arg).dsp = s.dsp := sharedOnly.dsp (event_shared ..)
@[simp] theorem event_sto (page b arg : Nat) : (s.event page b arg).sto = s.sto := sharedOnly.sto (event_shared ..)
@[simp] theorem event_net (page b arg : Nat) : (s.event page b arg).net = s.net := sharedOnly.net (event_shared ..)
@[simp] theorem event_usb (page b arg : Nat) : (s.event page b arg).usb = s.usb := sharedOnly.usb (event_shared ..)
@[simp] theorem event_tim (page b arg : Nat) : (s.event page b arg).tim = s.tim := sharedOnly.tim (event_shared ..)
@[simp] theorem event_eng (page b arg : Nat) : (s.event page b arg).eng = s.eng := sharedOnly.eng (event_shared ..)
@[simp] theorem event_mgt (page b arg : Nat) : (s.event page b arg).mgt = s.mgt := sharedOnly.mgt (event_shared ..)
@[simp] theorem event_key (page b arg : Nat) : (s.event page b arg).key = s.key := sharedOnly.key (event_shared ..)
@[simp] theorem event_fus (page b arg : Nat) : (s.event page b arg).fus = s.fus := sharedOnly.fus (event_shared ..)
@[simp] theorem event_pwr (page b arg : Nat) : (s.event page b arg).pwr = s.pwr := sharedOnly.pwr (event_shared ..)
@[simp] theorem event_rst (page b arg : Nat) : (s.event page b arg).rst = s.rst := sharedOnly.rst (event_shared ..)

@[simp] theorem alarm_pending (page b arg : Nat) : (s.alarm page b arg).pending = s.pending := sharedOnly.pending (alarm_shared ..)
@[simp] theorem alarm_hw (page b arg : Nat) : (s.alarm page b arg).hw = s.hw := sharedOnly.hw (alarm_shared ..)
@[simp] theorem alarm_tun (page b arg : Nat) : (s.alarm page b arg).tun = s.tun := sharedOnly.tun (alarm_shared ..)
@[simp] theorem alarm_links (page b arg : Nat) : (s.alarm page b arg).links = s.links := sharedOnly.links (alarm_shared ..)
@[simp] theorem alarm_planes (page b arg : Nat) : (s.alarm page b arg).planes = s.planes := sharedOnly.planes (alarm_shared ..)
@[simp] theorem alarm_mcg (page b arg : Nat) : (s.alarm page b arg).mcg = s.mcg := sharedOnly.mcg (alarm_shared ..)
@[simp] theorem alarm_rgm (page b arg : Nat) : (s.alarm page b arg).rgm = s.rgm := sharedOnly.rgm (alarm_shared ..)
@[simp] theorem alarm_sch (page b arg : Nat) : (s.alarm page b arg).sch = s.sch := sharedOnly.sch (alarm_shared ..)
@[simp] theorem alarm_dram (page b arg : Nat) : (s.alarm page b arg).dram = s.dram := sharedOnly.dram (alarm_shared ..)
@[simp] theorem alarm_dsp (page b arg : Nat) : (s.alarm page b arg).dsp = s.dsp := sharedOnly.dsp (alarm_shared ..)
@[simp] theorem alarm_sto (page b arg : Nat) : (s.alarm page b arg).sto = s.sto := sharedOnly.sto (alarm_shared ..)
@[simp] theorem alarm_net (page b arg : Nat) : (s.alarm page b arg).net = s.net := sharedOnly.net (alarm_shared ..)
@[simp] theorem alarm_usb (page b arg : Nat) : (s.alarm page b arg).usb = s.usb := sharedOnly.usb (alarm_shared ..)
@[simp] theorem alarm_tim (page b arg : Nat) : (s.alarm page b arg).tim = s.tim := sharedOnly.tim (alarm_shared ..)
@[simp] theorem alarm_eng (page b arg : Nat) : (s.alarm page b arg).eng = s.eng := sharedOnly.eng (alarm_shared ..)
@[simp] theorem alarm_mgt (page b arg : Nat) : (s.alarm page b arg).mgt = s.mgt := sharedOnly.mgt (alarm_shared ..)
@[simp] theorem alarm_key (page b arg : Nat) : (s.alarm page b arg).key = s.key := sharedOnly.key (alarm_shared ..)
@[simp] theorem alarm_fus (page b arg : Nat) : (s.alarm page b arg).fus = s.fus := sharedOnly.fus (alarm_shared ..)
@[simp] theorem alarm_pwr (page b arg : Nat) : (s.alarm page b arg).pwr = s.pwr := sharedOnly.pwr (alarm_shared ..)
@[simp] theorem alarm_rst (page b arg : Nat) : (s.alarm page b arg).rst = s.rst := sharedOnly.rst (alarm_shared ..)

@[simp] theorem capture_pending (page path : Nat) (write : Bool) (cause off data be pf : Nat) : (s.capture page path write cause off data be pf).pending = s.pending := sharedOnly.pending (capture_shared ..)
@[simp] theorem capture_hw (page path : Nat) (write : Bool) (cause off data be pf : Nat) : (s.capture page path write cause off data be pf).hw = s.hw := sharedOnly.hw (capture_shared ..)
@[simp] theorem capture_tun (page path : Nat) (write : Bool) (cause off data be pf : Nat) : (s.capture page path write cause off data be pf).tun = s.tun := sharedOnly.tun (capture_shared ..)
@[simp] theorem capture_links (page path : Nat) (write : Bool) (cause off data be pf : Nat) : (s.capture page path write cause off data be pf).links = s.links := sharedOnly.links (capture_shared ..)
@[simp] theorem capture_planes (page path : Nat) (write : Bool) (cause off data be pf : Nat) : (s.capture page path write cause off data be pf).planes = s.planes := sharedOnly.planes (capture_shared ..)
@[simp] theorem capture_mcg (page path : Nat) (write : Bool) (cause off data be pf : Nat) : (s.capture page path write cause off data be pf).mcg = s.mcg := sharedOnly.mcg (capture_shared ..)
@[simp] theorem capture_rgm (page path : Nat) (write : Bool) (cause off data be pf : Nat) : (s.capture page path write cause off data be pf).rgm = s.rgm := sharedOnly.rgm (capture_shared ..)
@[simp] theorem capture_sch (page path : Nat) (write : Bool) (cause off data be pf : Nat) : (s.capture page path write cause off data be pf).sch = s.sch := sharedOnly.sch (capture_shared ..)
@[simp] theorem capture_dram (page path : Nat) (write : Bool) (cause off data be pf : Nat) : (s.capture page path write cause off data be pf).dram = s.dram := sharedOnly.dram (capture_shared ..)
@[simp] theorem capture_dsp (page path : Nat) (write : Bool) (cause off data be pf : Nat) : (s.capture page path write cause off data be pf).dsp = s.dsp := sharedOnly.dsp (capture_shared ..)
@[simp] theorem capture_sto (page path : Nat) (write : Bool) (cause off data be pf : Nat) : (s.capture page path write cause off data be pf).sto = s.sto := sharedOnly.sto (capture_shared ..)
@[simp] theorem capture_net (page path : Nat) (write : Bool) (cause off data be pf : Nat) : (s.capture page path write cause off data be pf).net = s.net := sharedOnly.net (capture_shared ..)
@[simp] theorem capture_usb (page path : Nat) (write : Bool) (cause off data be pf : Nat) : (s.capture page path write cause off data be pf).usb = s.usb := sharedOnly.usb (capture_shared ..)
@[simp] theorem capture_tim (page path : Nat) (write : Bool) (cause off data be pf : Nat) : (s.capture page path write cause off data be pf).tim = s.tim := sharedOnly.tim (capture_shared ..)
@[simp] theorem capture_eng (page path : Nat) (write : Bool) (cause off data be pf : Nat) : (s.capture page path write cause off data be pf).eng = s.eng := sharedOnly.eng (capture_shared ..)
@[simp] theorem capture_mgt (page path : Nat) (write : Bool) (cause off data be pf : Nat) : (s.capture page path write cause off data be pf).mgt = s.mgt := sharedOnly.mgt (capture_shared ..)
@[simp] theorem capture_key (page path : Nat) (write : Bool) (cause off data be pf : Nat) : (s.capture page path write cause off data be pf).key = s.key := sharedOnly.key (capture_shared ..)
@[simp] theorem capture_fus (page path : Nat) (write : Bool) (cause off data be pf : Nat) : (s.capture page path write cause off data be pf).fus = s.fus := sharedOnly.fus (capture_shared ..)
@[simp] theorem capture_pwr (page path : Nat) (write : Bool) (cause off data be pf : Nat) : (s.capture page path write cause off data be pf).pwr = s.pwr := sharedOnly.pwr (capture_shared ..)
@[simp] theorem capture_rst (page path : Nat) (write : Bool) (cause off data be pf : Nat) : (s.capture page path write cause off data be pf).rst = s.rst := sharedOnly.rst (capture_shared ..)

@[simp] theorem deny_pending (path : Nat) (write : Bool) (addr data be : Nat) : (s.deny path write addr data be).pending = s.pending := sharedOnly.pending (deny_shared ..)
@[simp] theorem deny_hw (path : Nat) (write : Bool) (addr data be : Nat) : (s.deny path write addr data be).hw = s.hw := sharedOnly.hw (deny_shared ..)
@[simp] theorem deny_tun (path : Nat) (write : Bool) (addr data be : Nat) : (s.deny path write addr data be).tun = s.tun := sharedOnly.tun (deny_shared ..)
@[simp] theorem deny_links (path : Nat) (write : Bool) (addr data be : Nat) : (s.deny path write addr data be).links = s.links := sharedOnly.links (deny_shared ..)
@[simp] theorem deny_planes (path : Nat) (write : Bool) (addr data be : Nat) : (s.deny path write addr data be).planes = s.planes := sharedOnly.planes (deny_shared ..)
@[simp] theorem deny_mcg (path : Nat) (write : Bool) (addr data be : Nat) : (s.deny path write addr data be).mcg = s.mcg := sharedOnly.mcg (deny_shared ..)
@[simp] theorem deny_rgm (path : Nat) (write : Bool) (addr data be : Nat) : (s.deny path write addr data be).rgm = s.rgm := sharedOnly.rgm (deny_shared ..)
@[simp] theorem deny_sch (path : Nat) (write : Bool) (addr data be : Nat) : (s.deny path write addr data be).sch = s.sch := sharedOnly.sch (deny_shared ..)
@[simp] theorem deny_dram (path : Nat) (write : Bool) (addr data be : Nat) : (s.deny path write addr data be).dram = s.dram := sharedOnly.dram (deny_shared ..)
@[simp] theorem deny_dsp (path : Nat) (write : Bool) (addr data be : Nat) : (s.deny path write addr data be).dsp = s.dsp := sharedOnly.dsp (deny_shared ..)
@[simp] theorem deny_sto (path : Nat) (write : Bool) (addr data be : Nat) : (s.deny path write addr data be).sto = s.sto := sharedOnly.sto (deny_shared ..)
@[simp] theorem deny_net (path : Nat) (write : Bool) (addr data be : Nat) : (s.deny path write addr data be).net = s.net := sharedOnly.net (deny_shared ..)
@[simp] theorem deny_usb (path : Nat) (write : Bool) (addr data be : Nat) : (s.deny path write addr data be).usb = s.usb := sharedOnly.usb (deny_shared ..)
@[simp] theorem deny_tim (path : Nat) (write : Bool) (addr data be : Nat) : (s.deny path write addr data be).tim = s.tim := sharedOnly.tim (deny_shared ..)
@[simp] theorem deny_eng (path : Nat) (write : Bool) (addr data be : Nat) : (s.deny path write addr data be).eng = s.eng := sharedOnly.eng (deny_shared ..)
@[simp] theorem deny_mgt (path : Nat) (write : Bool) (addr data be : Nat) : (s.deny path write addr data be).mgt = s.mgt := sharedOnly.mgt (deny_shared ..)
@[simp] theorem deny_key (path : Nat) (write : Bool) (addr data be : Nat) : (s.deny path write addr data be).key = s.key := sharedOnly.key (deny_shared ..)
@[simp] theorem deny_fus (path : Nat) (write : Bool) (addr data be : Nat) : (s.deny path write addr data be).fus = s.fus := sharedOnly.fus (deny_shared ..)
@[simp] theorem deny_pwr (path : Nat) (write : Bool) (addr data be : Nat) : (s.deny path write addr data be).pwr = s.pwr := sharedOnly.pwr (deny_shared ..)
@[simp] theorem deny_rst (path : Nat) (write : Bool) (addr data be : Nat) : (s.deny path write addr data be).rst = s.rst := sharedOnly.rst (deny_shared ..)

@[simp] theorem put_pending (f : Field) (v i j : Nat) : (s.put f v i j).pending = s.pending := sharedOnly.pending (put_shared ..)
@[simp] theorem put_hw (f : Field) (v i j : Nat) : (s.put f v i j).hw = s.hw := sharedOnly.hw (put_shared ..)
@[simp] theorem put_tun (f : Field) (v i j : Nat) : (s.put f v i j).tun = s.tun := sharedOnly.tun (put_shared ..)
@[simp] theorem put_links (f : Field) (v i j : Nat) : (s.put f v i j).links = s.links := sharedOnly.links (put_shared ..)
@[simp] theorem put_planes (f : Field) (v i j : Nat) : (s.put f v i j).planes = s.planes := sharedOnly.planes (put_shared ..)
@[simp] theorem put_mcg (f : Field) (v i j : Nat) : (s.put f v i j).mcg = s.mcg := sharedOnly.mcg (put_shared ..)
@[simp] theorem put_rgm (f : Field) (v i j : Nat) : (s.put f v i j).rgm = s.rgm := sharedOnly.rgm (put_shared ..)
@[simp] theorem put_sch (f : Field) (v i j : Nat) : (s.put f v i j).sch = s.sch := sharedOnly.sch (put_shared ..)
@[simp] theorem put_dram (f : Field) (v i j : Nat) : (s.put f v i j).dram = s.dram := sharedOnly.dram (put_shared ..)
@[simp] theorem put_dsp (f : Field) (v i j : Nat) : (s.put f v i j).dsp = s.dsp := sharedOnly.dsp (put_shared ..)
@[simp] theorem put_sto (f : Field) (v i j : Nat) : (s.put f v i j).sto = s.sto := sharedOnly.sto (put_shared ..)
@[simp] theorem put_net (f : Field) (v i j : Nat) : (s.put f v i j).net = s.net := sharedOnly.net (put_shared ..)
@[simp] theorem put_usb (f : Field) (v i j : Nat) : (s.put f v i j).usb = s.usb := sharedOnly.usb (put_shared ..)
@[simp] theorem put_tim (f : Field) (v i j : Nat) : (s.put f v i j).tim = s.tim := sharedOnly.tim (put_shared ..)
@[simp] theorem put_eng (f : Field) (v i j : Nat) : (s.put f v i j).eng = s.eng := sharedOnly.eng (put_shared ..)
@[simp] theorem put_mgt (f : Field) (v i j : Nat) : (s.put f v i j).mgt = s.mgt := sharedOnly.mgt (put_shared ..)
@[simp] theorem put_key (f : Field) (v i j : Nat) : (s.put f v i j).key = s.key := sharedOnly.key (put_shared ..)
@[simp] theorem put_fus (f : Field) (v i j : Nat) : (s.put f v i j).fus = s.fus := sharedOnly.fus (put_shared ..)
@[simp] theorem put_pwr (f : Field) (v i j : Nat) : (s.put f v i j).pwr = s.pwr := sharedOnly.pwr (put_shared ..)
@[simp] theorem put_rst (f : Field) (v i j : Nat) : (s.put f v i j).rst = s.rst := sharedOnly.rst (put_shared ..)

@[simp] theorem store_pending (path addr data : Nat) (fs : List Field) (i j : Nat) : (s.store path addr data fs i j).pending = s.pending := sharedOnly.pending (store_shared ..)
@[simp] theorem store_hw (path addr data : Nat) (fs : List Field) (i j : Nat) : (s.store path addr data fs i j).hw = s.hw := sharedOnly.hw (store_shared ..)
@[simp] theorem store_tun (path addr data : Nat) (fs : List Field) (i j : Nat) : (s.store path addr data fs i j).tun = s.tun := sharedOnly.tun (store_shared ..)
@[simp] theorem store_links (path addr data : Nat) (fs : List Field) (i j : Nat) : (s.store path addr data fs i j).links = s.links := sharedOnly.links (store_shared ..)
@[simp] theorem store_planes (path addr data : Nat) (fs : List Field) (i j : Nat) : (s.store path addr data fs i j).planes = s.planes := sharedOnly.planes (store_shared ..)
@[simp] theorem store_mcg (path addr data : Nat) (fs : List Field) (i j : Nat) : (s.store path addr data fs i j).mcg = s.mcg := sharedOnly.mcg (store_shared ..)
@[simp] theorem store_rgm (path addr data : Nat) (fs : List Field) (i j : Nat) : (s.store path addr data fs i j).rgm = s.rgm := sharedOnly.rgm (store_shared ..)
@[simp] theorem store_sch (path addr data : Nat) (fs : List Field) (i j : Nat) : (s.store path addr data fs i j).sch = s.sch := sharedOnly.sch (store_shared ..)
@[simp] theorem store_dram (path addr data : Nat) (fs : List Field) (i j : Nat) : (s.store path addr data fs i j).dram = s.dram := sharedOnly.dram (store_shared ..)
@[simp] theorem store_dsp (path addr data : Nat) (fs : List Field) (i j : Nat) : (s.store path addr data fs i j).dsp = s.dsp := sharedOnly.dsp (store_shared ..)
@[simp] theorem store_sto (path addr data : Nat) (fs : List Field) (i j : Nat) : (s.store path addr data fs i j).sto = s.sto := sharedOnly.sto (store_shared ..)
@[simp] theorem store_net (path addr data : Nat) (fs : List Field) (i j : Nat) : (s.store path addr data fs i j).net = s.net := sharedOnly.net (store_shared ..)
@[simp] theorem store_usb (path addr data : Nat) (fs : List Field) (i j : Nat) : (s.store path addr data fs i j).usb = s.usb := sharedOnly.usb (store_shared ..)
@[simp] theorem store_tim (path addr data : Nat) (fs : List Field) (i j : Nat) : (s.store path addr data fs i j).tim = s.tim := sharedOnly.tim (store_shared ..)
@[simp] theorem store_eng (path addr data : Nat) (fs : List Field) (i j : Nat) : (s.store path addr data fs i j).eng = s.eng := sharedOnly.eng (store_shared ..)
@[simp] theorem store_mgt (path addr data : Nat) (fs : List Field) (i j : Nat) : (s.store path addr data fs i j).mgt = s.mgt := sharedOnly.mgt (store_shared ..)
@[simp] theorem store_key (path addr data : Nat) (fs : List Field) (i j : Nat) : (s.store path addr data fs i j).key = s.key := sharedOnly.key (store_shared ..)
@[simp] theorem store_fus (path addr data : Nat) (fs : List Field) (i j : Nat) : (s.store path addr data fs i j).fus = s.fus := sharedOnly.fus (store_shared ..)
@[simp] theorem store_pwr (path addr data : Nat) (fs : List Field) (i j : Nat) : (s.store path addr data fs i j).pwr = s.pwr := sharedOnly.pwr (store_shared ..)
@[simp] theorem store_rst (path addr data : Nat) (fs : List Field) (i j : Nat) : (s.store path addr data fs i j).rst = s.rst := sharedOnly.rst (store_shared ..)

@[simp] theorem forwardIrq_pending (page b : Nat) : (s.forwardIrq page b).pending = s.pending := sharedOnly.pending (forwardIrq_shared ..)
@[simp] theorem forwardIrq_hw (page b : Nat) : (s.forwardIrq page b).hw = s.hw := sharedOnly.hw (forwardIrq_shared ..)
@[simp] theorem forwardIrq_tun (page b : Nat) : (s.forwardIrq page b).tun = s.tun := sharedOnly.tun (forwardIrq_shared ..)
@[simp] theorem forwardIrq_links (page b : Nat) : (s.forwardIrq page b).links = s.links := sharedOnly.links (forwardIrq_shared ..)
@[simp] theorem forwardIrq_planes (page b : Nat) : (s.forwardIrq page b).planes = s.planes := sharedOnly.planes (forwardIrq_shared ..)
@[simp] theorem forwardIrq_mcg (page b : Nat) : (s.forwardIrq page b).mcg = s.mcg := sharedOnly.mcg (forwardIrq_shared ..)
@[simp] theorem forwardIrq_rgm (page b : Nat) : (s.forwardIrq page b).rgm = s.rgm := sharedOnly.rgm (forwardIrq_shared ..)
@[simp] theorem forwardIrq_sch (page b : Nat) : (s.forwardIrq page b).sch = s.sch := sharedOnly.sch (forwardIrq_shared ..)
@[simp] theorem forwardIrq_dram (page b : Nat) : (s.forwardIrq page b).dram = s.dram := sharedOnly.dram (forwardIrq_shared ..)
@[simp] theorem forwardIrq_dsp (page b : Nat) : (s.forwardIrq page b).dsp = s.dsp := sharedOnly.dsp (forwardIrq_shared ..)
@[simp] theorem forwardIrq_sto (page b : Nat) : (s.forwardIrq page b).sto = s.sto := sharedOnly.sto (forwardIrq_shared ..)
@[simp] theorem forwardIrq_net (page b : Nat) : (s.forwardIrq page b).net = s.net := sharedOnly.net (forwardIrq_shared ..)
@[simp] theorem forwardIrq_usb (page b : Nat) : (s.forwardIrq page b).usb = s.usb := sharedOnly.usb (forwardIrq_shared ..)
@[simp] theorem forwardIrq_tim (page b : Nat) : (s.forwardIrq page b).tim = s.tim := sharedOnly.tim (forwardIrq_shared ..)
@[simp] theorem forwardIrq_eng (page b : Nat) : (s.forwardIrq page b).eng = s.eng := sharedOnly.eng (forwardIrq_shared ..)
@[simp] theorem forwardIrq_mgt (page b : Nat) : (s.forwardIrq page b).mgt = s.mgt := sharedOnly.mgt (forwardIrq_shared ..)
@[simp] theorem forwardIrq_key (page b : Nat) : (s.forwardIrq page b).key = s.key := sharedOnly.key (forwardIrq_shared ..)
@[simp] theorem forwardIrq_fus (page b : Nat) : (s.forwardIrq page b).fus = s.fus := sharedOnly.fus (forwardIrq_shared ..)
@[simp] theorem forwardIrq_pwr (page b : Nat) : (s.forwardIrq page b).pwr = s.pwr := sharedOnly.pwr (forwardIrq_shared ..)
@[simp] theorem forwardIrq_rst (page b : Nat) : (s.forwardIrq page b).rst = s.rst := sharedOnly.rst (forwardIrq_shared ..)

@[simp] theorem tlpIn_pending (path : Nat) : (s.tlpIn path).pending = s.pending := sharedOnly.pending (tlpIn_shared ..)
@[simp] theorem tlpIn_hw (path : Nat) : (s.tlpIn path).hw = s.hw := sharedOnly.hw (tlpIn_shared ..)
@[simp] theorem tlpIn_tun (path : Nat) : (s.tlpIn path).tun = s.tun := sharedOnly.tun (tlpIn_shared ..)
@[simp] theorem tlpIn_links (path : Nat) : (s.tlpIn path).links = s.links := sharedOnly.links (tlpIn_shared ..)
@[simp] theorem tlpIn_planes (path : Nat) : (s.tlpIn path).planes = s.planes := sharedOnly.planes (tlpIn_shared ..)
@[simp] theorem tlpIn_mcg (path : Nat) : (s.tlpIn path).mcg = s.mcg := sharedOnly.mcg (tlpIn_shared ..)
@[simp] theorem tlpIn_rgm (path : Nat) : (s.tlpIn path).rgm = s.rgm := sharedOnly.rgm (tlpIn_shared ..)
@[simp] theorem tlpIn_sch (path : Nat) : (s.tlpIn path).sch = s.sch := sharedOnly.sch (tlpIn_shared ..)
@[simp] theorem tlpIn_dram (path : Nat) : (s.tlpIn path).dram = s.dram := sharedOnly.dram (tlpIn_shared ..)
@[simp] theorem tlpIn_dsp (path : Nat) : (s.tlpIn path).dsp = s.dsp := sharedOnly.dsp (tlpIn_shared ..)
@[simp] theorem tlpIn_sto (path : Nat) : (s.tlpIn path).sto = s.sto := sharedOnly.sto (tlpIn_shared ..)
@[simp] theorem tlpIn_net (path : Nat) : (s.tlpIn path).net = s.net := sharedOnly.net (tlpIn_shared ..)
@[simp] theorem tlpIn_usb (path : Nat) : (s.tlpIn path).usb = s.usb := sharedOnly.usb (tlpIn_shared ..)
@[simp] theorem tlpIn_tim (path : Nat) : (s.tlpIn path).tim = s.tim := sharedOnly.tim (tlpIn_shared ..)
@[simp] theorem tlpIn_eng (path : Nat) : (s.tlpIn path).eng = s.eng := sharedOnly.eng (tlpIn_shared ..)
@[simp] theorem tlpIn_mgt (path : Nat) : (s.tlpIn path).mgt = s.mgt := sharedOnly.mgt (tlpIn_shared ..)
@[simp] theorem tlpIn_key (path : Nat) : (s.tlpIn path).key = s.key := sharedOnly.key (tlpIn_shared ..)
@[simp] theorem tlpIn_fus (path : Nat) : (s.tlpIn path).fus = s.fus := sharedOnly.fus (tlpIn_shared ..)
@[simp] theorem tlpIn_pwr (path : Nat) : (s.tlpIn path).pwr = s.pwr := sharedOnly.pwr (tlpIn_shared ..)
@[simp] theorem tlpIn_rst (path : Nat) : (s.tlpIn path).rst = s.rst := sharedOnly.rst (tlpIn_shared ..)

@[simp] theorem answer_pending (path v : Nat) : (s.answer path v).pending = s.pending := sharedOnly.pending (answer_shared ..)
@[simp] theorem answer_hw (path v : Nat) : (s.answer path v).hw = s.hw := sharedOnly.hw (answer_shared ..)
@[simp] theorem answer_tun (path v : Nat) : (s.answer path v).tun = s.tun := sharedOnly.tun (answer_shared ..)
@[simp] theorem answer_links (path v : Nat) : (s.answer path v).links = s.links := sharedOnly.links (answer_shared ..)
@[simp] theorem answer_planes (path v : Nat) : (s.answer path v).planes = s.planes := sharedOnly.planes (answer_shared ..)
@[simp] theorem answer_mcg (path v : Nat) : (s.answer path v).mcg = s.mcg := sharedOnly.mcg (answer_shared ..)
@[simp] theorem answer_rgm (path v : Nat) : (s.answer path v).rgm = s.rgm := sharedOnly.rgm (answer_shared ..)
@[simp] theorem answer_sch (path v : Nat) : (s.answer path v).sch = s.sch := sharedOnly.sch (answer_shared ..)
@[simp] theorem answer_dram (path v : Nat) : (s.answer path v).dram = s.dram := sharedOnly.dram (answer_shared ..)
@[simp] theorem answer_dsp (path v : Nat) : (s.answer path v).dsp = s.dsp := sharedOnly.dsp (answer_shared ..)
@[simp] theorem answer_sto (path v : Nat) : (s.answer path v).sto = s.sto := sharedOnly.sto (answer_shared ..)
@[simp] theorem answer_net (path v : Nat) : (s.answer path v).net = s.net := sharedOnly.net (answer_shared ..)
@[simp] theorem answer_usb (path v : Nat) : (s.answer path v).usb = s.usb := sharedOnly.usb (answer_shared ..)
@[simp] theorem answer_tim (path v : Nat) : (s.answer path v).tim = s.tim := sharedOnly.tim (answer_shared ..)
@[simp] theorem answer_eng (path v : Nat) : (s.answer path v).eng = s.eng := sharedOnly.eng (answer_shared ..)
@[simp] theorem answer_mgt (path v : Nat) : (s.answer path v).mgt = s.mgt := sharedOnly.mgt (answer_shared ..)
@[simp] theorem answer_key (path v : Nat) : (s.answer path v).key = s.key := sharedOnly.key (answer_shared ..)
@[simp] theorem answer_fus (path v : Nat) : (s.answer path v).fus = s.fus := sharedOnly.fus (answer_shared ..)
@[simp] theorem answer_pwr (path v : Nat) : (s.answer path v).pwr = s.pwr := sharedOnly.pwr (answer_shared ..)
@[simp] theorem answer_rst (path v : Nat) : (s.answer path v).rst = s.rst := sharedOnly.rst (answer_shared ..)

end Sys2Proof.Machine.State
end

