-- ==== Sys2Proof/Laws/Interrupts.lean ====
section
/-! SUPPORT. What an interrupt and an event do to the registers: the bit is set, and no other register changes but the event counters of page 0x014. -/

namespace Sys2Proof.Machine.State

variable {s : State}

theorem evc_page {c : Nat} (h : c < 64) :
    keyPage (R.MGT_EVC.key 0 c) = 0x014 ∧ keyPage (R.MGT_EVC_OVF.key 0 (c / 32)) = 0x014 ∧
      keyPage ((irqField 0).key 0x014 0) = 0x014 := by
  have : ∀ c < 64, keyPage (R.MGT_EVC.key 0 c) = 0x014 ∧ keyPage (R.MGT_EVC_OVF.key 0 (c / 32)) = 0x014 ∧
      keyPage ((irqField 0).key 0x014 0) = 0x014 := by decide
  exact this c h

/-- A counter of page 0x014 touches no register of another page. -/
theorem countAt_get {c n d k : Nat} (hc : c < 64) (h : keyPage k ≠ 0x014) :
    (s.countAt c n).regs.get d k = s.regs.get d k := by
  obtain ⟨h1, h2, -⟩ := evc_page hc
  have hk : ∀ x : Nat, keyPage x = 0x014 → k ≠ x := fun x hx e => h (e ▸ hx)
  simp only [countAt]
  split
  · exact get_wr_ne (hk _ h1)
  · rw [get_wr_ne (hk _ h2), get_wr_ne (hk _ h1)]

theorem forwardIrq_get {page b d k : Nat} : (s.forwardIrq page b).regs.get d k = s.regs.get d k := by
  unfold forwardIrq
  split <;> rfl

theorem foldl_get {α : Type} {f : State → α → State} {d k : Nat} (l : List α)
    (h : ∀ (s : State), ∀ x ∈ l, (f s x).regs.get d k = s.regs.get d k) (s : State) :
    (l.foldl f s).regs.get d k = s.regs.get d k := by
  induction l generalizing s with
  | nil => rfl
  | cons x l ih =>
    rw [List.foldl_cons, ih (fun s y hy => h s y (by simp [hy])), h s x (by simp)]

theorem followers_lt {ev c : Nat} (h : c ∈ s.followers ev) : c < 64 := by
  unfold followers at h
  split at h
  · cases h
  · exact List.mem_range.mp (List.mem_of_mem_filter h)

theorem tallyMsix_get {ev d k : Nat} (h : keyPage k ≠ 0x014) : (s.tallyMsix ev).regs.get d k = s.regs.get d k := by
  refine foldl_get _ (fun t c hc => ?_) s
  have hc := followers_lt hc
  have hk : k ≠ (irqField 0).key 0x014 0 := fun e => h (e ▸ (evc_page hc).2.2)
  split
  · rw [forwardIrq_get, get_wr_ne hk, countAt_get hc h]
  · exact countAt_get hc h

theorem msixWrite_get {v d k : Nat} (h : keyPage k ≠ 0x014) : (s.msixWrite v).regs.get d k = s.regs.get d k := by
  simp only [msixWrite]
  split
  · rfl
  · rw [tallyMsix_get h, tallyMsix_get h, emit_regs]

theorem pairInterrupt_get {g d k : Nat} : (s.pairInterrupt g).regs.get d k = s.regs.get d k := by
  unfold pairInterrupt
  split
  · rfl
  · split <;> rfl

theorem notice_get {g d k : Nat} (h : keyPage k ≠ 0x014) : (s.notice g).regs.get d k = s.regs.get d k := by
  simp only [notice]
  split <;> split <;> simp only [msixWrite_get h, pairInterrupt_get]

theorem routing_get {g d k : Nat} {act : State → State} (h : keyPage k ≠ 0x014) :
    (s.routing g act).regs.get d k = (act s).regs.get d k := by
  simp only [routing]
  split
  · rfl
  · split <;> simp only [notice_get h]

/-- An interrupt sets its bit, and touches no other register outside page 0x014. -/
theorem irq_get {page b d k : Nat} (h : keyPage k ≠ 0x014) (hk : k ≠ (irqField b).key page 0) :
    (s.irq page b).regs.get d k = s.regs.get d k := by
  rw [irq, forwardIrq_get, routing_get h, get_wr_ne hk]

theorem irq_rd {page b i j : Nat} {f : Field} (h : keyPage (f.key i j) ≠ 0x014) (hk : f.key i j ≠ (irqField b).key page 0) :
    (s.irq page b).rd f i j = s.rd f i j := irq_get h hk

theorem irq_sets {page b : Nat} (h : keyPage ((irqField b).key page 0) ≠ 0x014) :
    (s.irq page b).irqBit page b = true := by
  have h1 : (s.irq page b).rd (irqField b) page = 1 := by
    unfold rd Field.get
    rw [irq, forwardIrq_get, routing_get h]
    exact rd_wr_same s (irqField b) 1 page 0
  rw [irqBit, h1]
  rfl

/-- A counter's count touches no register of another page. -/
theorem tallyAt_get {c n d k : Nat} (hc : c < 64) (h : keyPage k ≠ 0x014) :
    (s.tallyAt c n).regs.get d k = s.regs.get d k := by
  have hk : k ≠ (irqField 0).key 0x014 0 := fun e => h (e ▸ (evc_page hc).2.2)
  unfold tallyAt
  split
  · rw [irq_get h hk, countAt_get hc h]
  · exact countAt_get hc h

/-- An occurrence of an event touches no register outside page 0x014. -/
theorem tally_get {ev n d k : Nat} (h : keyPage k ≠ 0x014) : (s.tally ev n).regs.get d k = s.regs.get d k :=
  foldl_get _ (fun _ _ hc => tallyAt_get (followers_lt hc) h) s

/-- The arrival of an access of the host, and its answer, touch no register outside page 0x014. -/
theorem tlpIn_get {path d k : Nat} (h : keyPage k ≠ 0x014) : (s.tlpIn path).regs.get d k = s.regs.get d k := by
  unfold tlpIn
  split
  · exact tally_get h
  · rfl

theorem answer_get {path v d k : Nat} (h : keyPage k ≠ 0x014) : (s.answer path v).regs.get d k = s.regs.get d k := by
  simp only [answer]
  split
  · rw [tally_get h, emit_regs]
  · rw [emit_regs]

theorem bump_get {f : Field} {i j d k : Nat} (h : k ≠ f.key i j) : (s.bump f i j).regs.get d k = s.regs.get d k := by
  unfold bump bumpBy
  split
  · exact get_wr_ne h
  · rfl

/-- A saturating counter counts one while its page's EN is 1, and holds otherwise (R549). -/
theorem bump_rd {f : Field} {i j : Nat} :
    (s.bump f i j).rd f i j =
      if s.counting (f.page i) then min (s.rd f i j + 1) (2 ^ f.width - 1) else s.rd f i j := by
  unfold bump bumpBy
  split
  · rename_i h
    rw [rd_wr_same]
    apply Nat.mod_eq_of_lt
    have := Nat.two_pow_pos f.width
    omega
  · rfl

end Sys2Proof.Machine.State
end

