-- ==== Sys2Proof/Tests/Slice0.lean ====
section
/-! SUPPORT. Tests: ill-formed commands, the spec's worked examples, and for every statement with hypotheses a state and operands that meet them together. -/

open Sys2Proof Sys2Proof.Machine

namespace Sys2Proof.Tests

set_option Elab.async false

/-- The state after a command that completes. -/
def after (c : Instr) (s : State) : State :=
  match exec c s with
  | .next t => t
  | _ => s

/-- A hub that is up: the power die runs and is joined, and every domain is on. -/
def up : State :=
  (({ State.reset with fus := { State.reset.fus with alive := true } } : State).wr R.PWR_DOM_STAT 0x3FFFF).wr R.FUS_PD_STAT_PRESENT 1

/-! ### Ill-formed commands: one at least for each kind of check -/

theorem test_register_operands_refused :
    [.registerWrite 8 0 0 15, .registerWrite 0 (2 ^ 22) 0 15, .registerWrite 0 0 (2 ^ 32) 15, .registerWrite 0 0 0 16,
      .latchingRead 8 0 15, .hiWriteApply 0 0x040066 0, .hiWriteApply 0 0x040060 0, .softResetAct 0x025,
      .pageLock 0 0x380 0, .i2cWrite 128 0 [], .i2cRead 0 (2 ^ 22), .i2cAddressMatch 128, .accessResume 8].all
      (fun c : Instr => !c.wf) = true := by
  decide +kernel

theorem test_traffic_operands_refused :
    [.unitEnterPlane 15, .unitEnterPlane 24, .fenceArrival 2 0, .fenceArrival 0 4096, .fenceTimeout 0 32768, .cellTransmit 16 0,
      .cellTransmit 0 3, .cellReceived 0 3 [] true, .ackReceived 0 65536 0 0 none, .ackReceived 0 0 256 0 none,
      .ackReceived 0 0 0 (2 ^ 24) none, .creditReceived 0 8 0, .creditReceived 0 0 (2 ^ 24), .substReqReceived 0 0 256,
      .switchReceived 0 3 0 0 0 0, .switchReceived 0 0 0 2 0 0, .laneSubstitute 0 0 4, .planeRestartBegin 2,
      .replicaMismatch 3, .pairHalt 0 0 0 (0, 0), .pairHalt 0 4 0 (0, 0), .pairHalt 0 1 0 (2 ^ 32, 0), .carouselSlotEnd 24 0,
      .carouselSlotEnd 0 4096, .schRelSet 0 2 0, .histSelWrite 0 64 0, .sourceQualified 4,
      .timeSymbolReceived 0 0 32, .timeEchoReceived 0 0 0 0 0, .timeEchoReceived 0 0 4 0 0].all
      (fun c : Instr => !c.wf) = true := by
  decide +kernel

theorem test_adapter_operands_refused :
    [.frameStart 2, .fetchStart 0 ⟨2049, 0⟩, .hpdUnplug 4, .auxReply 0 3 [], .stoDataTimeout 32, .stoCmdTimeout 0 64,
      .nvmeCompletion 0 0 2048 0 0 [], .rpLinkDown 2, .hostRead ⟨.windows, 2 ^ 36⟩ 1 0 0,
      .hostRead ⟨.config, 0x1000⟩ 1 0 0, .hostRead ⟨.windows, 0⟩ 0 0 0, .hostRead ⟨.windows, 0⟩ 4097 0 0, .hbrFence 0 64, .hbrReadTimeout 256, .routerHoldRelease 32768, .hostLinkUp 4 0,
      .windowDrainTimeout 32 true, .windowDrainTimeout 64 false, .hostConfigWrite 2 0 0 false ⟨false, []⟩, .ethLinkUp 4,
      .usbInAck 16, .usbInAck 32, .usbEpDrainTimeout 32, .usbOverCurrent 4, .downstreamPortConnect 0 true 3,
      .usbStandardRequest ⟨false, 0⟩ 0 256 0 0 0, .usbInToken (some 16) 0, .usbOutPacket 16 .ping 0 []].all
      (fun c : Instr => !c.wf) = true := by
  decide +kernel

theorem test_control_operands_refused :
    [.engineUnit 2 ⟨0, 0, [], 0, 0⟩, .ckptStale 16, .engCacheLoad 0 256 0, .engCacheLoad 0 0 2, .engineTakeEntry 0 3,
      .engineRspPost 0 [], .ecallIrqForward 1024 0, .evcWrap 64, .keyClear 0 64, .keyGenerate 0 0 8 0, .keyGenerate 0 0 0 32, .keySign ⟨0, 16⟩ 0,
      .otpRaiseSvn 0 0 64, .tamperDetected 128, .batLow 4096, .debugChallenge 0 8, .fetShort 18, .seatSettled 16,
      .cpdMessageReceived 0 65536 [] true ⟨0, 0, 0, false, []⟩ false, .cpdMessageReceived 0 0 [2 ^ 32] true ⟨0, 0, 0, false, []⟩ false,
      .powerStateRequest 0 8, .regulatorAck 65536 true 0, .regulatorAck 0 true 256, .wakeEvent 32 0, .wakeEvent 0 16,
      .domainAutoPowerOn 5, .domainAutoPowerOn 15, .pmbusAlert [], .vidTrimWrite 0 3 0, .aonTrim 32768, .aonTrim (-32769),
      .pllLossOfLock 16, .coldReset 256 true, .temperatureSample []].all
      (fun c : Instr => !c.wf) = true := by
  decide +kernel

theorem test_ill_formed_command_faults : exec (.cellTransmit 16 0) up = .fault .noSuchInstance := by rfl

/-! ### The spec's worked examples -/

/-- R554's example: 16 bits written to TRK_LATU_TX[24] are discarded and captured. -/
theorem test_narrow_write_is_captured :
    [0x000, 0x00C, 0x020, 0x024, 0x028, 0x048].map (fun o => (after (.registerWrite 1 0x0C3048 0xFFF6 3) up).readAt (0x0C3000 + o)) =
      [0x0001430B, 2, 0x80019048, 0xFFF6, 0x00010003, 0] := by
  decide +kernel

/-- The same write as 32 bits sets the trim. -/
theorem test_wide_write_is_taken : (after (.registerWrite 1 0x0C3048 0xFFF6 15) up).readAt 0x0C3048 = 0xFFF6 := by
  decide +kernel

/-- Chapter 0's example: page 0x0C0 is the first page of trunk 8. -/
theorem test_page_of_trunk_8 : (R.TRK_LSTAT_STATE.key 8 0) / 32 / 4096 = 0x0C0 := by decide

/-- Chapter 1's example: STAGE with AUTOINC at 291 leaves INDEX at 292 and one entry staged. -/
theorem test_stage_advances_the_index :
    (fun t : State => (t.rd R.TMAP_INDEX_INDEX, t.rd R.TMAP_STAT_LAST_RESULT, t.tun.edit))
      (after (.tmapStage 0) ((up.wr R.TMAP_INDEX_INDEX 291).wr R.TMAP_INDEX_AUTOINC 1)) = (292, 0, [(291, ⟨0, 0, 0, 0⟩)]) := by
  decide +kernel

/-- R46's wrap: the last index advances to 1. -/
theorem test_stage_wraps_the_index :
    (after (.tmapStage 0) ((up.wr R.TMAP_INDEX_INDEX 32767).wr R.TMAP_INDEX_AUTOINC 1)).rd R.TMAP_INDEX_INDEX = 1 := by
  decide +kernel

/-- Chapter 2's example: the credit distance across the wrap. -/
theorem test_credit_wraps : dist24 0xFFFFFE 0x000005 = 7 := by decide

/-- Chapter 9's example: router entry 33 written with AUTOINC on. -/
theorem test_router_entry_is_written :
    (fun t : State => (t.brg.router.get (0, 0) 33, t.rd R.MRT_INDEX_INDEX))
      (after (.mrtWrite 0) ((((up.wr R.MRT_INDEX_INDEX 0x21).wr R.MRT_INDEX_AUTOINC 1).wr R.MRT_DATA 0x00310416 0 0).wr
        R.MRT_DATA 0x0B070091 0 1)) = ((0x00310416, 0x0B070091), 34) := by
  decide +kernel

/-- Chapter 16's example: with VOUT_MODE 0x14, 750 mV is 3,072 and 680 mV is 2,785. -/
theorem test_vout_command :
    [750, 680].map (({ up with pwr := { up.pwr with voutMode := 0x14 } } : State).voutCommand) = [3072, 2785] := by
  decide +kernel

/-- Table 14.6 and R446: the default cable curve heats by 1/10 s at its point 2 and by 1/2 s at its point 3. -/
theorem test_heat_rates :
    (heatRate 1875 (defaultCurve 7)).1 * 10000000 = (heatRate 1875 (defaultCurve 7)).2 * 2 ^ 40 ∧
      (heatRate 2500 (defaultCurve 7)).1 * 2000000 = (heatRate 2500 (defaultCurve 7)).2 * 2 ^ 40 := by
  decide +kernel

/-- R62: one bit turned over in a cell makes it damaged. -/
theorem test_damaged_cell : decodeCell ((encodeCell ⟨1, 2, true, 3, 1, 5, 6, 7, 8, List.replicate 236 9⟩).set 100 8) = none := by
  decide +kernel

/-! ### What meets the hypotheses of the statements -/

def someCell : Cell := ⟨1, 2, true, 3, 1, 5, 6, 7, 8, List.replicate 236 9⟩

theorem witness_RegisterPathsComplete :
    up.letsWrite 0 0x0A3034 ∧ pageListed (0x0A3034 / 4096) = true ∧ 0x0A3034 < 2 ^ 22 ∧ 0x0A3034 % 4 = 0 ∧ (2 ^ 32 - 1) < 2
      ^ 32 ∧ up.letsRead 0 0x328038 ∧ pageListed (0x328038 / 4096) = true ∧ 0x328038 < 2 ^ 22 ∧ 0x328038 % 4 = 0 ∧
      up.letsWrite 0 (0x058068 + 4) ∧ pageListed ((0x058068 + 4) / 4096) = true ∧ (0x058068 + 4) < 2 ^ 22 ∧ (0x058068 +
      4) % 4 = 0 ∧ (0x058068 + 4) % 4096 ≠ 0x018 ∧ placeAt (0x058068 + 4) = none ∧ (pairAt (0x058068 + 4)).isSome = true
      ∧ up.letsWrite 0 (0x37F * 4096 + 0x008) ∧ pageListed 0x37F = true ∧ up.letsWrite 0 (0x000 * 4096 + 0x018) ∧
      pageListed 0x000 = true ∧ 0 < 8 ∧ (up.rd R.PWR_I2C_CFG_ADDR) < 128 ∧ (2 ^ 22 - 1) < 2 ^ 22 ∧ up.domainRuns 0 =
      true ∧ up.i2cReady (up.rd R.PWR_I2C_CFG_ADDR) = true ∧ [1, 2, 3, 4].length = 4 ∧ (up.rd R.PWR_I2C_CFG_ADDR) =
      up.rd R.PWR_I2C_CFG_ADDR ∧ up.csrStopped = false ∧
    (∀ S ∈ [({ up with csr := { up.csr with softReset := [0x280] } } : State)], pageListed 0x280 = true ∧
      S.csr.softReset.contains 0x280 = true ∧ S.pageBusy 0x280 = false ∧ (if pageDomain 0x280 = 31 then S.fus.alive else
      S.domainRuns (pageDomain 0x280)) = true) ∧
    (∀ S ∈ [(up.wr R.PWR_STAT_STATE 3)], (up.rd R.PWR_I2C_CFG_ADDR) < 128 ∧ S.domainRuns 0 = true ∧ (up.rd
      R.PWR_I2C_CFG_ADDR) = S.rd R.PWR_I2C_CFG_ADDR ∧ S.csrStopped = true) := by
  decide +kernel

theorem witness_TunnelMapCompletes :
    15 < 16 ∧ up.domainRuns 1 = true ∧ 16 ≤ 23 ∧ 23 < 24 ∧ 1 < 2 ∧ 4095 < 4096 ∧ up.domainRuns (4 + 1) = true ∧ 32767 <
      32768 ∧ up.letsWrite 0 tmapCmdAddr ∧ up.rd R.TMAP_STAT_BUSY = 0 := by
  decide +kernel

theorem witness_LinksComplete1 :
    (∀ S ∈ [(up.wr R.TRK_LSTAT_STATE 3 15)], 15 < 16 ∧ 2 < 3 ∧ S.domainRuns (6 + 15 / 4) = true ∧ S.linkRuns 15 = true ∧
      decodeCell (encodeCell someCell) = some someCell ∧ (true = true ∨ decodeCell [] = none) ∧ 65535 < 65536 ∧ 255 <
      256 ∧ (2 ^ 24 - 1) < 2 ^ 24 ∧ 7 < 8) ∧
    (∀ S ∈ [((up.wr R.TRK_LSTAT_STATE 3 15).setLink 15 { ackArmed := true })], 15 < 16 ∧ S.domainRuns (6 + 15 / 4) = true ∧
      S.linkRuns 15 = true ∧ (S.link 15).ackArmed = true) ∧
    (∀ S ∈ [((up.wr R.TRK_LSTAT_STATE 3 15).setLink 15 { acks := [0], resend := [0] })], 15 < 16 ∧ S.domainRuns (6 + 15 / 4)
      = true ∧ S.linkRuns 15 = true ∧ (S.link 15).acks ≠ [] ∧ S.cellReady 15 = true) ∧
    (∀ S ∈ [((up.wr R.TRK_LSTAT_STATE 3 15).setLink 15 { acks := [0] })], 15 < 16 ∧ S.domainRuns (6 + 15 / 4) = true ∧
      S.linkRuns 15 = true ∧ (S.link 15).acks ≠ [] ∧ S.cellReady 15 = false) := by
  decide +kernel

theorem witness_LinksComplete2 :
    15 < 16 ∧ 2 < 3 ∧ up.domainRuns 1 = true ∧ up.domainRuns (6 + 15 / 4) = true ∧ decodeCtl [] = none ∧ up.letsWrite 0
      (trunkPage 15 * 4096 + 0x44) ∧
    (∀ S ∈ [(((up.wr R.TRK_LSTAT_STATE 3 15).wr R.TRK_LCFG_REPLAY_LIMIT 2 15).setLink 15 { replay := [⟨0, someCell, none⟩]
      })], 15 < 16 ∧ S.domainRuns (6 + 15 / 4) = true ∧ S.linkRuns 15 = true ∧ (S.link 15).replay.isEmpty = false ∧
      (S.link 15).cumAt ≠ some S.hw) ∧
    (∀ S ∈ [(up.wr R.TRK_LSTAT_STATE 2 15)], 15 < 16 ∧ S.domainRuns (6 + 15 / 4) = true ∧ S.linkState 15 = linkCap) ∧
    (∀ S ∈ [((up.wr R.TRK_LSTAT_STATE 3 15).setLink 15 { capLeft := 8 })], 15 < 16 ∧ S.domainRuns (6 + 15 / 4) = true ∧
      S.linkState 15 = linkUp ∧ 0 < (S.link 15).capLeft) := by
  decide +kernel

theorem witness_LinksComplete3 :
    (∀ S ∈ [((up.wr R.TRK_LSTAT_STATE 0 15).wr R.TRK_LCFG_EN 1 15)], 15 < 16 ∧ S.domainRuns (6 + 15 / 4) = true ∧
      S.linkState 15 = linkDown ∧ S.rd R.TRK_LCFG_EN 15 = 1) ∧
    (∀ S ∈ [((up.wr R.TRK_LSTAT_STATE 0 15).wr R.TRK_LCFG_EN 0 15)], 15 < 16 ∧ S.domainRuns (6 + 15 / 4) = true ∧
      S.linkState 15 = linkDown ∧ S.rd R.TRK_LCFG_EN 15 ≠ 1) ∧
    (∀ S ∈ [((up.wr R.TRK_LSTAT_STATE 0 15).setLink 15 { dwelt := true })], 15 < 16 ∧ S.letsWrite 0 (trunkPage 15 * 4096 +
      0x40) ∧ ((S.begin.tlpIn 0).store 0 (trunkPage 15 * 4096 + 0x40) 1 [R.TRK_LCFG_EN, R.TRK_LCFG_ROLE,
      R.TRK_LCFG_ALLOW_V21, R.TRK_LCFG_MAX_VCS, R.TRK_LCFG_ACK_CELLS, R.TRK_LCFG_REPLAY_LIMIT] 15).rd R.TRK_LCFG_EN 15 =
      1 ∧ ((S.begin.tlpIn 0).store 0 (trunkPage 15 * 4096 + 0x40) 1 [R.TRK_LCFG_EN, R.TRK_LCFG_ROLE,
      R.TRK_LCFG_ALLOW_V21, R.TRK_LCFG_MAX_VCS, R.TRK_LCFG_ACK_CELLS, R.TRK_LCFG_REPLAY_LIMIT] 15).linkState 15 =
      linkDown ∧ (((S.begin.tlpIn 0).store 0 (trunkPage 15 * 4096 + 0x40) 1 [R.TRK_LCFG_EN, R.TRK_LCFG_ROLE,
      R.TRK_LCFG_ALLOW_V21, R.TRK_LCFG_MAX_VCS, R.TRK_LCFG_ACK_CELLS, R.TRK_LCFG_REPLAY_LIMIT] 15).link 15).dwelt =
      true) ∧
    (∀ S ∈ [((up.wr R.TRK_LSTAT_STATE 3 15).wr R.TRK_LCFG_EN 1 15)], 15 < 16 ∧ S.letsWrite 0 (trunkPage 15 * 4096 + 0x40) ∧
      ((S.begin.tlpIn 0).store 0 (trunkPage 15 * 4096 + 0x40) 0 [R.TRK_LCFG_EN, R.TRK_LCFG_ROLE, R.TRK_LCFG_ALLOW_V21,
      R.TRK_LCFG_MAX_VCS, R.TRK_LCFG_ACK_CELLS, R.TRK_LCFG_REPLAY_LIMIT] 15).rd R.TRK_LCFG_EN 15 = 0 ∧ ((S.begin.tlpIn
      0).store 0 (trunkPage 15 * 4096 + 0x40) 0 [R.TRK_LCFG_EN, R.TRK_LCFG_ROLE, R.TRK_LCFG_ALLOW_V21,
      R.TRK_LCFG_MAX_VCS, R.TRK_LCFG_ACK_CELLS, R.TRK_LCFG_REPLAY_LIMIT] 15).linkState 15 = linkUp) := by
  decide +kernel

theorem witness_LinksComplete4 :
    (∀ S ∈ [(up.wr R.TRK_LSTAT_STATE 5 15)], 15 < 16 ∧ S.domainRuns (6 + 15 / 4) = true ∧ S.linkState 15 = linkDrain) := by
  decide +kernel

theorem witness_TrunkLanesComplete1 :
    (∀ S ∈ [(up.wr R.TRK_LSTAT_STATE 1 15)], 15 < 16 ∧ S.domainRuns (6 + 15 / 4) = true ∧ S.linkState 15 = linkTrain) ∧
    (∀ S ∈ [((up.wr R.TRK_LSTAT_STATE 1 15).setLink 15 { step := 2 })], 15 < 16 ∧ S.domainRuns (6 + 15 / 4) = true ∧
      S.linkState 15 = linkTrain ∧ 2 ≤ (S.link 15).step) ∧
    (∀ S ∈ [((up.wr R.TRK_LSTAT_STATE 1 15).setLink 15 { retryWait := true })], 15 < 16 ∧ S.domainRuns (6 + 15 / 4) = true ∧
      S.linkState 15 = linkTrain ∧ (S.link 15).retryWait = true) ∧
    (∀ S ∈ [((up.wr R.TRK_LSTAT_STATE 3 15).wr R.TRK_LANESTAT_LEARNING 1 15)], 15 < 16 ∧ S.domainRuns (6 + 15 / 4) = true ∧
      S.linkState 15 = linkUp ∧ S.rd R.TRK_LANESTAT_LEARNING 15 = 1) := by
  decide +kernel

theorem witness_TrunkLanesComplete2 :
    (∀ S ∈ [((up.wr R.TRK_LSTAT_STATE 3 15).wr R.TRK_LANESTAT_LEARNING 0 15)], 15 < 16 ∧ S.domainRuns (6 + 15 / 4) = true ∧
      S.linkState 15 = linkUp ∧ S.rd R.TRK_LANESTAT_LEARNING 15 ≠ 1) ∧
    (∀ S ∈ [((up.wr R.TRK_LSTAT_STATE 3 15).wr R.TRK_LSTAT_V21 1 15)], 15 < 16 ∧ S.domainRuns (6 + 15 / 4) = true ∧
      S.linkState 15 = linkUp ∧ S.rd R.TRK_LSTAT_V21 15 = 1 ∧ (⟨2, 0, false, false, 1, 1, 1⟩ : HealthTerms).lane < 3) ∧
    15 < 16 ∧ 2 < 3 ∧ up.domainRuns (6 + 15 / 4) = true ∧ 255 < 256 ∧ 1 < 2 ∧ up.letsWrite 0 (lanePage 15 * 4096 + 0x44) ∧
    (∀ S ∈ [((up.wr R.TRK_LSTAT_STATE 3 15).setLink 15 { subst := some (0, 1, 0) })], 15 < 16 ∧ S.domainRuns (6 + 15 / 4) =
      true ∧ (S.link 15).subst.isSome = true) := by
  decide +kernel

theorem witness_TrunkLanesComplete3 :
    (∀ S ∈ [(((((up.wr R.TRK_LSTAT_STATE 3 15).wr R.TRK_LANESTAT_LEARNING 0 15).wr R.TRK_LANESTAT_P0_LANE 0 15).wr
      R.TRK_LANESTAT_P1_LANE 1 15).wr R.TRK_LANESTAT_SPARE_LANE 2 15)], 15 < 16 ∧ 1 < 4 ∧ S.letsWrite 0 (lanePage 15 *
      4096 + 0x44) ∧ S.lanesBound 15 = true ∧ S.rd R.TRK_LANESTAT_LEARNING 15 = 0 ∧ S.rxActive 15 1 = true ∧ S.rxSpare
      15 ≠ noLane ∧ (S.link 15).subst = none) ∧
    (∀ S ∈ [(up.wr R.TRK_LANESTAT_RETIRED_MASK 4 15)], 15 < 16 ∧ 2 < 4 ∧ S.letsWrite 0 (lanePage 15 * 4096 + 0x44) ∧
      S.rxRetired 15 2 = true) ∧
    (∀ S ∈ [(((up.wr R.TRK_LANESTAT_RETIRED_MASK 4 15).wr R.TRK_LANESTAT_SPARE_LANE 3 15).wr R.TRK_LANECFG_REQUAL_TIME 0
      15)], 15 < 16 ∧ 2 < 3 ∧ S.domainRuns (6 + 15 / 4) = true ∧ S.rxRetired 15 2 = true ∧ S.rxSpare 15 = noLane ∧
      S.heldGood 15 2 = true) ∧
    (∀ S ∈ [((up.wr R.TRK_LSTAT_STATE 0 15).wr R.TRK_LCFG_EN 0 15)], 15 < 16 ∧ S.letsWrite 0 (lanePage 15 * 4096 + 0xA0) ∧
      ((S.begin.tlpIn 0).store 0 (lanePage 15 * 4096 + 0xA0) 0 [R.TRK_ALTCFG_ETH_MAC, R.TRK_ALTCFG_DSP_OUT] 15).rd
      R.TRK_LCFG_EN 15 = 0 ∧ ((S.begin.tlpIn 0).store 0 (lanePage 15 * 4096 + 0xA0) 0 [R.TRK_ALTCFG_ETH_MAC,
      R.TRK_ALTCFG_DSP_OUT] 15).linkState 15 = linkDown) := by
  decide +kernel

theorem witness_SwitchPlanesComplete1 :
    16 ≤ 19 ∧ 19 < 24 ∧ up.domainRuns 1 = true ∧ 19 ≠ spStorage ∧ 19 ≠ spNetwork ∧ 19 ≠ spUsb ∧ 19 ≠ spBridge ∧ 1 < 2 ∧
      up.domainRuns (4 + 1) = true ∧ 16 ≤ 23 ∧ 23 < 24 ∧ 2 < 3 ∧ up.domainRuns 0 = true ∧ up.letsWrite 0 (mcgCmdAddr 1)
      ∧ up.rd R.SW_MCG_STAT_BUSY 1 = 0 ∧
    (∀ S ∈ [((up.wr R.SW_STAT_STATE 2 1).setPlane 1 { voq := [(8 * (24 * 3 + 16), [7])], units := [(7, some ⟨1, 0, 0, 0, {},
      0, 3, [], [], true, [], false, 0⟩)] })], 1 < 2 ∧ S.domainRuns (4 + 1) = true ∧ S.inService 1 = true ∧ (⟨3, 16, 0⟩
      : Voq) ∈ S.eligible 1 ∧ S.portDown (⟨3, 16, 0⟩ : Voq).out = false) ∧
    (∀ S ∈ [(up.wr R.TRK_LSTAT_STATE 3 15)], 15 < 16 ∧ 2 < 3 ∧ S.domainRuns 1 = true ∧ S.linkRuns 15 = true) ∧
    (∀ S ∈ [(up.wr R.SW_STAT_STATE 2 1)], 1 < 2 ∧ S.domainRuns 0 = true ∧ S.inService 1 = true ∧ S.rd R.SW_CFG_HB_MISS 1 ≤
      256 ∧ S.letsWrite 0 (planePage 1 * 4096 + 0x40) ∧ (((S.begin.tlpIn 0).store 0 (planePage 1 * 4096 + 0x40) 0
      [R.SW_CFG_AUTO_RESTART, R.SW_CFG_RESTART_MAX, R.SW_CFG_HB_MISS] 1).wr R.SW_CFG_EN 0 1).inService 1 = true) := by
  decide +kernel

theorem witness_SwitchPlanesComplete2 :
    (∀ S ∈ [(up.wr R.SW_STAT_STATE 0 1)], 1 < 2 ∧ S.letsWrite 0 (planePage 1 * 4096 + 0x40) ∧ (((S.begin.tlpIn 0).store 0
      (planePage 1 * 4096 + 0x40) 0 [R.SW_CFG_AUTO_RESTART, R.SW_CFG_RESTART_MAX, R.SW_CFG_HB_MISS] 1).wr R.SW_CFG_EN 1
      1).planeState 1 = planeOff) ∧
    (∀ S ∈ [((((up.wr R.SW_STAT_STATE 4 1).wr R.SW_CFG_AUTO_RESTART 1 1).wr R.SW_CFG_EN 1 1).wr R.SW_CFG_RESTART_MAX 1 1)],
      1 < 2 ∧ S.domainRuns (4 + 1) = true ∧ S.planeState 1 = planeFailed ∧ S.rd R.SW_CFG_AUTO_RESTART 1 = 1 ∧ S.rd
      R.SW_CFG_EN 1 = 1 ∧ (S.recentRestarts 1).length < S.rd R.SW_CFG_RESTART_MAX 1) ∧
    (∀ S ∈ [(((up.wr R.SW_STAT_STATE 4 1).wr R.SW_CFG_EN 1 1).wr R.SW_STAT_STATE 2 0)], 1 < 2 ∧ S.letsWrite 0 (planePage 1 *
      4096 + 0x44) ∧ S.planeState 1 = planeFailed ∧ S.rd R.SW_CFG_EN 1 = 1 ∧ S.inService (1 - 1) = true) ∧
    (∀ S ∈ [((up.wr R.SW_STAT_STATE 2 1).wr R.SW_SDG_CFG_EN 1 1)], 1 < 2 ∧ S.domainRuns (4 + 1) = true ∧ S.inService 1 =
      true ∧ S.rd R.SW_SDG_CFG_EN 1 = 1) := by
  decide +kernel

theorem witness_SwitchPlanesComplete3 :
    (∀ S ∈ [(up.wr R.RGM_STAT_PAIR_B 3)], 1 < 2 ∧ (2 ^ 32 - 1) < 2 ^ 32 ∧ S.domainRuns 0 = true ∧ S.pairRuns 1 = true ∧
      S.frozen = false ∧ S.rd R.RGM_CFG_PAIR_HB_MISS ≤ 256) ∧
    (∀ S ∈ [(((up.wr R.RGM_STAT_AUTH_VALID 1).wr R.RGM_STAT_AUTH 0).wr R.SW_STAT_STATE 2 1)], S.letsWrite 0 rgmCmdAddr ∧
      S.frozen = false ∧ S.rd R.RGM_STAT_AUTH_VALID = 1 ∧ S.planeState (1 - S.rd R.RGM_STAT_AUTH) = planeStandby ∧
      S.committing = false) ∧
    (∀ S ∈ [((up.wr R.RGM_STAT_PAIR_A 3).wr R.RGM_STAT_PAIR_B 2)], S.letsWrite 0 rgmCmdAddr ∧ S.frozen = false ∧
      S.swapTarget = some 1) := by
  decide +kernel

theorem witness_SchedulingCompletes :
    23 < 24 ∧ 4095 < 4096 ∧ up.domainRuns 1 = true ∧ up.letsWrite 0 schQCmdAddr ∧ up.letsWrite 0 schAlCmdAddr ∧ up.letsWrite
      0 schPolCmdAddr ∧ 1 < 2 ∧ up.letsWrite 0 (0x200068 + 4 * 1) ∧ up.letsWrite 0 (0x200070 + 4 * 1) ∧ up.domainRuns (4
      + 1) = true ∧ up.letsWrite 0 schSmpCmdAddr ∧ 63 < 64 ∧ up.letsWrite 0 (0x204100 + 4 * 63) := by
  decide +kernel

theorem witness_PanelTimeCompletes1 :
    up.letsRead 0 0x040040 ∧ up.letsWrite 0 timCmdAddr ∧ up.rd R.TIM_RESULT_BUSY = 0 ∧ up.tim.engaged = false ∧ up.letsWrite
      0 0x040070 ∧ 3 < 4 ∧ up.domainRuns 1 = true ∧ up.letsWrite 0 0x041048 ∧ (true = true ∨ 0 ≠ up.rd
      R.TIM_IRIG_CFG_CODE) ∧ (up.rd R.TIM_IRIG_CFG_CODE) = up.rd R.TIM_IRIG_CFG_CODE ∧
    (∀ S ∈ [((up.wr R.TIM_SRC_CFG_KIND3 2).updTim (fun x => { x with irigQual := true }))], 3 < 4 ∧ S.domainRuns 1 = true ∧
      S.sourceQualified (S.slotByte 3) = true) ∧
    (∀ S ∈ [(up.wr R.TIM_SRC_CFG_KIND3 0)], 3 < 4 ∧ S.domainRuns 1 = true ∧ S.sourceQualified (S.slotByte 3) = false) ∧
    (∀ S ∈ [(up.wr R.TIM_STAT_STATE 3)], S.domainRuns 1 = true ∧ S.rd R.TIM_STAT_STATE = timeHoldover) := by
  decide +kernel

theorem witness_PanelTimeCompletes2 :
    (∀ S ∈ [((({ up with regs := up.regs.put (R.TIM_TSOF.key 0 2) 0 } : State).wr R.TIM_PPSOUT_CFG_EN 1).wr
      R.TIM_PPSOUT_CFG_GATE 0)], S.domainRuns 1 = true ∧ S.ppsDue = true ∧ S.rd R.TIM_PPSOUT_CFG_EN = 1 ∧ (S.rd
      R.TIM_PPSOUT_CFG_GATE = 0 ∨ S.rd R.TIM_STAT_SYNC_VALID = 1)) := by
  decide +kernel

theorem witness_TrunkTimeAndJournalComplete1 :
    15 < 16 ∧ up.domainRuns (6 + 15 / 4) = true ∧ 2 < 3 ∧ 1 ≤ 3 ∧ 3 ≤ 3 ∧ 31 < 32 ∧ up.domainRuns 1 = true ∧ up.letsWrite 0
      0x058048 ∧ up.letsWrite 0 0x05806C ∧
    (∀ S ∈ [(up.wr R.TRK_LSTAT_STATE 3 15)], 15 < 16 ∧ 2 < 3 ∧ 31 < 32 ∧ S.domainRuns (6 + 15 / 4) = true ∧ S.linkRuns 15 =
      true) ∧
    (∀ S ∈ [(up.updTim (fun x => { x with trunks := [(15, { exch := some { id := 3 } })] }))], 15 < 16 ∧ S.domainRuns (6 +
      15 / 4) = true ∧ (S.trunkTime 15).exch = some ({ id := 3 } : Exchange)) ∧
    (∀ S ∈ [(up.wr R.TRK_LSTAT_V21 1 15)], 15 < 16 ∧ S.domainRuns (6 + 15 / 4) = true ∧ S.rd R.TRK_LSTAT_V21 15 = 1) := by
  decide +kernel

theorem witness_TrunkTimeAndJournalComplete2 :
    (∀ S ∈ [((up.wr R.MON_JNL_CFG_AUTOADV 1).wr R.MON_JNL_HEAD 1)], S.letsRead 0 0x05805C ∧ S.rd R.MON_JNL_CFG_AUTOADV = 1 ∧
      0 < S.jnlFill) := by
  decide +kernel

theorem witness_DisplayUnitsComplete :
    up.domainRuns 12 = true ∧ 1 < 2 ∧ (⟨2048, 0⟩ : FetchRun).fill ≤ 2048 ∧ 2048 ≤ 2048 ∧ up.letsWrite 0 (0x301040 + 0x1000 *
      1) ∧ ((up.begin.tlpIn 0).store 0 (0x301040 + 0x1000 * 1) (0 / 2 * 2 + 1) State.srcCfgFields 1).srcState 1 =
      srcDisabled ∧ up.pwr.drained < 2 := by
  decide +kernel

theorem witness_DisplayOutputsComplete :
    3 < 4 ∧ up.domainRuns 12 = true ∧ up.directTrunk 3 = none ∧ up.letsWrite 0 (State.auxAddr 3) ∧ up.outState 3 ≠
      outTraining ∧ up.outState 3 ≠ outPsr ∧ (up.output 3).aux = none ∧ 2 < 3 ∧
    (∀ S ∈ [({ up with dsp := { up.dsp with out := [(3, { aux := some (2, 0, 1, 1) })] } } : State)], 3 < 4 ∧ S.domainRuns
      12 = true ∧ (S.output 3).aux.isSome = true) := by
  decide +kernel

theorem witness_StorageCommandsComplete1 :
    23 < 24 ∧ 2 < 3 ∧ up.domainRuns 13 = true ∧
    (∀ S ∈ [(up.updSto (fun x => { x with tuns := [(31, { next := .data 63 })] }))], 31 < 32 ∧ S.domainRuns 13 = true ∧
      (S.stoTun 31).next = .data 63 ∧ S.btState 31 ≠ btDraining) ∧
    (∀ S ∈ [(up.updSto (fun x => { x with tuns := [(31, { cmds := [⟨63, 2, 0, 0, 0, 0, .timedOut⟩] })] }))], 31 < 32 ∧ 63 <
      64 ∧ 2047 < 2048 ∧ 1 < 2 ∧ 2 < 3 ∧ S.domainRuns 13 = true ∧ S.cmdAt 31 63 = some (⟨63, 2, 0, 0, 0, 0, .timedOut⟩ :
      StoCmd) ∧ (⟨63, 2, 0, 0, 0, 0, .timedOut⟩ : StoCmd).op ≠ 1 ∧ (⟨63, 2, 0, 0, 0, 0, .timedOut⟩ : StoCmd).phase =
      .timedOut) ∧
    (∀ S ∈ [(up.updSto (fun x => { x with tuns := [(31, { cmds := [⟨63, 2, 0, 0, 0, 0, .sent⟩] })] }))], 31 < 32 ∧ 63 < 64 ∧
      2047 < 2048 ∧ 1 < 2 ∧ S.domainRuns 13 = true ∧ S.cmdAt 31 63 = some (⟨63, 2, 0, 0, 0, 0, .sent⟩ : StoCmd) ∧ (⟨63,
      2, 0, 0, 0, 0, .sent⟩ : StoCmd).op ≠ 1 ∧ (⟨63, 2, 0, 0, 0, 0, .sent⟩ : StoCmd).phase = .sent) := by
  decide +kernel

theorem witness_StorageCommandsComplete2 :
    (∀ S ∈ [(up.updSto (fun x => { x with tuns := [(31, { cmds := [⟨63, 2, 0, 0, 0, 0, .data⟩] })] }))], 31 < 32 ∧ 63 < 64 ∧
      S.domainRuns 13 = true ∧ S.cmdAt 31 63 = some (⟨63, 2, 0, 0, 0, 0, .data⟩ : StoCmd) ∧ (⟨63, 2, 0, 0, 0, 0, .data⟩
      : StoCmd).phase = .data) := by
  decide +kernel

theorem witness_StoragePortsComplete1 :
    (∀ S ∈ [(up.wr R.STO_RP_STAT_STATE 0 1)], 1 < 2 ∧ S.letsWrite 0 (0x311040 + 0x1000 * 1) ∧ ((S.begin.tlpIn 0).store 0
      (0x311040 + 0x1000 * 1) (0 / 2 * 2 + 1) [R.STO_RP_CFG_MAX_WIDTH, R.STO_RP_CFG_MAX_GEN, R.STO_RP_CFG_ASPM_L1]
      1).rpState 1 = rpOff) ∧
    1 < 2 ∧ up.domainRuns 13 = true ∧ up.letsWrite 0 (0x311040 + 0x1000 * 1) ∧ up.letsWrite 0 (0x311044 + 0x1000 * 1) ∧
      up.letsWrite 0 0x314044 ∧ 0 = up.rd R.STO_BT_INDEX ∧ up.btState 0 = btDisabled ∧ 31 < 32 ∧
    (∀ S ∈ [(up.updSto (fun x => { x with ports := [(1, { step := 5 })] }))], 1 < 2 ∧ S.domainRuns 13 = true ∧ (S.stoPort
      1).step = 5) ∧
    (∀ S ∈ [(up.wr R.STO_RP_STAT_STATE 3 1)], 1 < 2 ∧ S.letsWrite 0 (0x311044 + 0x1000 * 1) ∧ S.tunsOn 1 = [] ∧ S.rpState 1
      = rpReady) := by
  decide +kernel

theorem witness_StoragePortsComplete2 :
    (∀ S ∈ [(up.wr R.STO_BT_STAT_STATE 2 0 0)], S.letsWrite 0 0x314044 ∧ 0 = S.rd R.STO_BT_INDEX ∧ S.btState 0 ≠ btDisabled) ∧
    (∀ S ∈ [(up.updSto (fun x => { x with tuns := [(31, { admin := 4 })] }))], 31 < 32 ∧ S.domainRuns 13 = true ∧ ((S.stoTun
      31).admin = 3 ∨ (S.stoTun 31).admin = 4)) := by
  decide +kernel

theorem witness_HostBridgeCompletes :
    (2 ^ 36 - 1) < 2 ^ 36 ∧ up.domainRuns 16 = true ∧ (up.begin.tally 0x170).hostBlocked = false ∧ (⟨.windows, 2 ^ 36 - 1⟩ :
      HostPlace).off + 1 ≤ hostSpaceSize (⟨.windows, 2 ^ 36 - 1⟩ : HostPlace).space ∧ 1 ≤ 1 ∧ 1 ≤ 4096 ∧ 4096 ≤ 4096 ∧
      63 < 64 ∧ up.letsWrite 0 0x32005C ∧ ((⟨5, kindWriteAck, [], 0, 0⟩ : UnitMsg).kind = kindReadResponse ∨ (⟨5,
      kindWriteAck, [], 0, 0⟩ : UnitMsg).kind = kindWriteAck) ∧ 255 < 256 ∧ up.letsRead 0 (0x323040 + 4 * 63) ∧
      up.semHeld 63 = false ∧ 3 < 4 ∧ 1 < 2 ∧ 7 < 8 ∧
    (∀ S ∈ [(up.updBrg (fun x => { x with semWait := [(63, ⟨0, 0, .read 0 0 0 0 0 false⟩)] }))], 63 < 64 ∧ S.domainRuns 16 =
      true ∧ S.brg.semWait.find? (fun z => z.1 == 63) = some (63, ⟨0, 0, .read 0 0 0 0 0 false⟩) ∧ S.semHeld 63 = false) ∧
    (∀ S ∈ [(up.updBrg (fun x => { x with lock := some ⟨[0], false⟩ }))], S.domainRuns 16 = true ∧ S.brg.lock.isSome = true) ∧
    (∀ S ∈ [((up.wr R.HBR_SEM_HELD 1 0 63).wr R.HBR_SEM_PATH 0 0 63)], 63 < 64 ∧ S.letsWrite 0 (0x323040 + 4 * 63) ∧
      S.semHeld 63 = true ∧ S.rd R.HBR_SEM_EMU 0 63 = 0 ∧ S.rd R.HBR_SEM_PATH 0 63 = 0) := by
  decide +kernel

theorem witness_RouterCompletes1 :
    up.domainRuns 16 = true ∧ 2 < 3 ∧ routerKind (⟨5, kindMessage, [], 0, 0⟩ : UnitMsg).kind = true ∧ 32767 < 32768 ∧
      up.letsRead 0 mrtCauseAddr ∧ up.letsWrite 0 mrtCmdAddr ∧ up.letsWrite 0 0x321044 ∧ 0 = up.rd R.HBR_OWIN_INDEX ∧
      up.owin R.HBR_OWIN_STAT_STATE 0 = winDisabled ∧ up.pwr.drained < 3 ∧ up.letsWrite 0 0x322044 ∧ 0 = up.rd
      R.HBR_IWIN_INDEX ∧ up.iwin R.HBR_IWIN_STAT_STATE 0 = winDisabled ∧
    (∀ S ∈ [(up.wr R.HBR_OWIN_STAT_STATE 1 0 0)], S.letsWrite 0 0x321044 ∧ 0 = S.rd R.HBR_OWIN_INDEX ∧ S.owin
      R.HBR_OWIN_STAT_STATE 0 ≠ winDisabled) ∧
    (∀ S ∈ [(up.wr R.HBR_IWIN_STAT_STATE 1 0 0)], S.letsWrite 0 0x322044 ∧ 0 = S.rd R.HBR_IWIN_INDEX ∧ S.iwin
      R.HBR_IWIN_STAT_STATE 0 ≠ winDisabled) ∧
    (∀ S ∈ [(up.wr R.HBR_OWIN_STAT_STATE 2 0 63)], 63 < 64 ∧ S.domainRuns 16 = true ∧ S.owin R.HBR_OWIN_STAT_STATE 63 =
      winDraining) := by
  decide +kernel

theorem witness_RouterCompletes2 :
    (∀ S ∈ [(up.wr R.HBR_IWIN_STAT_STATE 2 0 31)], 31 < 32 ∧ S.domainRuns 16 = true ∧ S.iwin R.HBR_IWIN_STAT_STATE 31 =
      winDraining) ∧
    (∀ S ∈ [(up.wr R.HBR_LINK_STAT_UP 1)], S.domainRuns 16 = true ∧ S.rd R.HBR_LINK_STAT_UP = 1) := by
  decide +kernel

theorem witness_NetworkCompletes :
    (∀ S ∈ [(up.wr R.ETH_MAC_STAT_STATE 2 3)], 3 < 4 ∧ S.domainRuns 14 = true ∧ S.rd R.PWR_STAT_STATE < 3 ∧ S.macState 3 =
      macRun ∧ (S.mac 3).pausedTo ≤ S.hw) ∧
    up.domainRuns 14 = true ∧ up.letsRead 0 0x340090 ∧ 3 < 4 ∧ up.letsWrite 0 (0x341040 + 0x1000 * 3) ∧ up.letsWrite 0
      0x345050 ∧ up.letsWrite 0 0x34604C ∧ ((up.begin.tlpIn 0).store 0 (0x341040 + 0x1000 * 3) (0 / 2 * 2 + 1)
      [R.ETH_MAC_CFG_MODE, R.ETH_MAC_CFG_AN_EN, R.ETH_MAC_CFG_PAUSE_EN, R.ETH_MAC_CFG_MAX_FRAME] 3).macState 3 =
      macDisabled ∧ up.pwr.drained < 3 ∧
    (∀ S ∈ [(((((up.wr R.PWR_STAT_STATE 3).wr R.ETH_WAKE_CFG_KEEP 1).wr R.ETH_WAKE_CFG_PORTS 8).wr R.ETH_WAKE_CFG_FILTERS
      8).wr R.ETH_WAKE_TYPE 0x0842 0 3)], 3 < 4 ∧ S.domainRuns 14 = true ∧ S.pwrState = 3 ∧ (S.begin.wakeMatch 3
      (List.replicate 12 0 ++ [0x08, 0x42]) true).2 = true) := by
  decide +kernel

theorem witness_UsbCompletes1 :
    (∀ S ∈ [(up.updUsb (fun x => { x with attached := true }))], (⟨true, 2⟩ : Ep0Target).ecc < 3 ∧ 255 < 256 ∧ 65535 < 65536
      ∧ S.domainRuns 15 = true ∧ S.usb.attached = true ∧ (⟨true, 2⟩ : Ep0Target).hub = true ∧ (⟨false, 2⟩ :
      Ep0Target).ecc < 3 ∧ (⟨false, 2⟩ : Ep0Target).hub = false ∧ 2 < 3 ∧ (2 ^ 32 - 1) < 2 ^ 32 ∧ ctlStageOk (.status) =
      true) ∧
    1 ≤ 15 ∧ 15 < 16 ∧ outTokenOk (.ping) = true ∧ 2 < 3 ∧ up.domainRuns 15 = true ∧ outTokenOk (.packet 1) = true ∧ 17 ≤ 31
      ∧ 31 < 32 ∧ up.letsWrite 0 0x351044 ∧ 1 = up.rd R.USB_EP_INDEX ∧ epNamed 31 = true ∧ up.letsWrite 0 0x350040 ∧ 0 %
      2 = 0 ∧ 3 < 4 ∧
    (∀ S ∈ [(up.wr R.USB_STAT_STATE 3)], epNamed 31 = true ∧ S.domainRuns 15 = true ∧ S.usbState = usbConfigured) ∧
    (∀ S ∈ [((up.wr R.USB_EP_INDEX 31).wr R.USB_EP_TID_TID 5 0 31)], S.letsWrite 0 0x351044 ∧ 31 = S.rd R.USB_EP_INDEX ∧
      ((S.begin.tlpIn 0).store 0 0x351044 (0 / 2 * 2 + 1) [R.USB_EP_CFG_WAKE] 0 31).epState 31 = epDisabled ∧
      ((S.begin.tlpIn 0).store 0 0x351044 (0 / 2 * 2 + 1) [R.USB_EP_CFG_WAKE] 0 31).epResult 31 = 0 ∧ S.pwr.drained < 2) := by
  decide +kernel

theorem witness_UsbCompletes2 :
    (∀ S ∈ [((up.wr R.USB_DESC_INDEX_WORD 191).wr R.USB_DESC_INDEX_AUTOINC 0)], S.letsRead 0 0x353044 ∧ S.rd
      R.USB_DESC_INDEX_AUTOINC = 0 ∧ S.rd R.USB_DESC_INDEX_WORD < 192 ∧ 0 ≠ 1 ∧ 0 ≠ 2) ∧
    (∀ S ∈ [(((up.wr R.USB_DESC_INDEX_WORD 191).wr R.USB_DESC_INDEX_AUTOINC 0).wr R.USB_CFG_EN 0)], S.letsWrite 0 0x353044 ∧
      S.rd R.USB_DESC_INDEX_AUTOINC = 0 ∧ S.rd R.USB_CFG_EN = 0 ∧ S.rd R.USB_DESC_INDEX_WORD < 192) ∧
    (∀ S ∈ [((up.wr R.USB_STAT_SUSPENDED 1).wr R.USB_STAT_WAKE_PENDING 1)], S.domainRuns 15 = true ∧ S.usbSuspended = true ∧
      (S.wakePending = true ∨ S.usb.hubWaking = true) ∧ S.usb.driving = false) ∧
    (∀ S ∈ [(up.wr R.USB_CFG_EN 0)], S.letsWrite 0 0x350040 ∧ 1 % 2 = 1 ∧ ((S.begin.tlpIn 0).store 0 0x350040 1
      [R.USB_CFG_WAKE_EN, R.USB_CFG_FS_ONLY, R.USB_CFG_K_MS]).rd R.USB_CFG_EN = 0 ∧ ((S.begin.tlpIn 0).store 0 0x350040
      1 [R.USB_CFG_WAKE_EN, R.USB_CFG_FS_ONLY, R.USB_CFG_K_MS]).usb.attached = false) := by
  decide +kernel

theorem witness_UsbCompletes3 :
    (∀ S ∈ [(up.wr R.USB_PORT_STAT_POWER 1 0 3)], 3 < 4 ∧ 2 < 3 ∧ S.domainRuns 15 = true ∧ S.rd R.USB_PORT_STAT_POWER 0 3 ≠
      0) := by
  decide +kernel

theorem witness_EnginesComplete1 :
    1 < 2 ∧ up.domainRuns (10 + 1) = true ∧ 15 < 16 ∧ up.letsWrite 0 (0x370058 + 0x1000 * 15) ∧ up.letsRead 0 (0x37009C +
      0x1000 * 15) ∧ up.domainRuns (10 + 15 / 8) = true ∧ (up.engine 15).kickAt ≠ some up.hw ∧ (⟨true, 0⟩ :
      EngineErr).trap = true ∧ (⟨false, 0⟩ : EngineErr).trap = false ∧ up.letsWrite 0 (0x370044 + 0x1000 * 15) ∧
      up.letsWrite 0 (0x370040 + 0x1000 * 15) ∧ up.pwr.drained < 2 ∧ 255 < 256 ∧ up.letsWrite 0 0x360044 ∧ up.letsWrite
      0 (0x361048 + 0x1000 * 1) ∧
    (∀ S ∈ [(up.wr R.ENG_HEALTH_STATE 2 15)], 15 < 16 ∧ S.domainRuns (10 + 15 / 8) = true ∧ S.serves 15 = true ∧ S.fails 15
      = false ∧ S.letsWrite 0 (0x370044 + 0x1000 * 15) ∧ 2 < 3 ∧ (S.engSt 15 = engRun ∨ S.engSt 15 = engDraining) ∧
      (List.replicate 8 0).length = 8 ∧ (List.replicate 8 0).all (fun w => decide (w < 2 ^ 32)) ∧ (S.logEng (S.logOf
      15)).rsp.length < 16) ∧
    (∀ S ∈ [((up.wr R.ENG_HEALTH_STATE 2 15).updEng (fun x => { x with eng := [(15, { img := some ⟨1, 2, toLe 28 0 ++ [1] ++
      List.replicate 227 1, [], true, 0⟩ })] }))], 15 < 16 ∧ S.domainRuns (10 + 15 / 8) = true ∧ S.serves 15 = true ∧
      S.hasCkpt 15 = true) ∧
    (∀ S ∈ [(up.wr R.ENG_HEALTH_STATE 5 15)], 15 < 16 ∧ S.domainRuns (10 + 15 / 8) = true ∧ S.engSt 15 = engDraining) := by
  decide +kernel

theorem witness_EnginesComplete2 :
    (∀ S ∈ [(up.updEng (fun x => { x with loading := some (1, 2) }))], S.domainRuns 1 = true ∧ S.domainRuns 17 = true ∧
      S.eng.loading = some (1, 2)) := by
  decide +kernel

theorem witness_ManagementCompletes :
    (∀ S ∈ [(up.wr R.RGM_STAT_PAIR_B 3)], 1 < 2 ∧ 1 ≤ 3 ∧ 3 ≤ 3 ∧ (2 ^ 32 - 1, 2 ^ 32 - 1).1 < 2 ^ 32 ∧ (2 ^ 32 - 1, 2 ^ 32
      - 1).2 < 2 ^ 32 ∧ S.domainRuns (2 + 1) = true ∧ S.pairRuns 1 = true ∧ (2 ^ 32 - 1) < 2 ^ 32 ∧ (S.mpair 1).kickAt ≠
      some S.hw) ∧
    1 < 2 ∧ (2 ^ 32 - 1) < 2 ^ 32 ∧ up.letsWrite 0 (0x011044 + 0x1000 * 1) ∧ 0 = pathResident ∧ up.domainRuns 1 = true ∧
      up.letsWrite 0 mgtCmdAddr ∧ up.domainRuns 3 = true ∧ up.letsWrite 0 flashCmdAddr ∧ 63 < 64 ∧ up.letsWrite 0
      (0x014100 + 0x10 * 63) ∧ up.letsWrite 0 0x014044 ∧ up.letsWrite 0 0x014040 ∧
    (∀ S ∈ [((up.wr R.RGM_STAT_PAIR_B 3).updMgt (fun x => { x with customer := some ⟨4, 0, [], [], true, 0⟩ }))], (2 ^ 32 -
      1) < 2 ^ 32 ∧ S.domainRuns 3 = true ∧ S.customerRuns = true ∧ 1023 < 1024) := by
  decide +kernel

theorem witness_KeyCommandsComplete1 :
    (∀ S ∈ [(up.wr R.KEY_STAT_LIFECYCLE 1)], S.letsWrite 0 keyCmdAddr ∧ S.rd R.KEY_STAT_BUSY = 0 ∧ S.keyRefused 0 1 0 0 0
      (S.bufBytes R.KEY_BUF 64) = none) ∧
    (∀ S ∈ [((up.wr R.KEY_STAT_ROOT 1).wr R.KEY_BUF 0x00013f01 0 0)], 63 < 64 ∧ S.letsWrite 0 keyCmdAddr ∧ S.rd
      R.KEY_STAT_BUSY = 0 ∧ S.keyRefused 0 2 63 0 0 (S.bufBytes R.KEY_BUF 64) = none) ∧
    63 < 64 ∧ up.letsWrite 0 keyCmdAddr ∧ up.rd R.KEY_STAT_BUSY = 0 ∧ up.keyRefused 0 3 63 0 0 (up.bufBytes R.KEY_BUF 64) =
      none ∧ up.domainRuns 0 = true ∧ up.letsWrite 0 otpCmdAddr ∧ up.rd R.KEY_OTP_STAT_BUSY = 0 ∧ up.otpRefused 0 1 0 0
      = none ∧ up.otpRefused 0 2 0 0 = none ∧ up.otpRefused 0 3 0 0 = none ∧ 1 < 256 ∧ 1 < 64 ∧ up.otpRefused 0 4 1 1 =
      none ∧
    (∀ S ∈ [(up.wr R.KEY_STAT_ROOT 1)], 63 < 64 ∧ 2 < 8 ∧ 31 < 32 ∧ S.letsWrite 0 keyCmdAddr ∧ S.rd R.KEY_STAT_BUSY = 0 ∧
      S.keyRefused 0 4 63 2 0 (S.bufBytes R.KEY_BUF 64) = none ∧ S.keyRefused 0 6 63 2 0 (S.bufBytes R.KEY_BUF 64) =
      none ∧ S.keyRefused 0 10 0 0 0 (S.bufBytes R.KEY_BUF 64) = none) := by
  decide +kernel

theorem witness_KeyCommandsComplete2 :
    (∀ S ∈ [((up.wr R.KEY_STAT_ROOT 1).updKey (fun x => { x with slots := [(63, some ⟨false, 1, 31, 0, [], []⟩)] }))], 63 <
      64 ∧ (⟨0, 15⟩ : KeyUser).eng < 16 ∧ S.letsWrite (⟨0, 15⟩ : KeyUser).path keyCmdAddr ∧ S.rd R.KEY_STAT_BUSY = 0 ∧
      S.keyRefused (⟨0, 15⟩ : KeyUser).path 5 63 0 (⟨0, 15⟩ : KeyUser).eng (S.bufBytes R.KEY_BUF 64) = none) ∧
    (∀ S ∈ [(((up.wr R.KEY_STAT_ROOT 1).wr R.PAGE_AUTH_WR 129 0x020).updKey (fun x => { x with slots := [(63, some ⟨false,
      1, 31, 0, [], []⟩)] }))], 63 < 64 ∧ (⟨pathEngine, 15⟩ : KeyUser).eng < 16 ∧ (⟨pathEngine, 15⟩ : KeyUser).path =
      pathEngine ∧ S.letsWrite (⟨pathEngine, 15⟩ : KeyUser).path keyCmdAddr ∧ S.rd R.KEY_STAT_BUSY = 0 ∧ S.loaded 63 =
      some (⟨false, 1, 31, 0, [], []⟩ : KeySlot) ∧ (⟨false, 1, 31, 0, [], []⟩ : KeySlot).engMask.testBit (⟨pathEngine,
      15⟩ : KeyUser).eng = false ∧ S.rootIs rootProvisioned = true) ∧
    (∀ S ∈ [((up.wr R.KEY_STAT_ROOT 1).updKey (fun x => { x with slots := [(63, some ⟨false, 3, 31, 0, [], []⟩)] }))], 63 <
      64 ∧ (⟨0, 15⟩ : KeyUser).eng < 16 ∧ S.letsWrite (⟨0, 15⟩ : KeyUser).path keyCmdAddr ∧ S.rd R.KEY_STAT_BUSY = 0 ∧
      S.keyRefused (⟨0, 15⟩ : KeyUser).path 7 63 0 (⟨0, 15⟩ : KeyUser).eng (S.bufBytes R.KEY_BUF 64) = none ∧
      S.keyRefused (⟨0, 15⟩ : KeyUser).path 9 63 0 (⟨0, 15⟩ : KeyUser).eng (S.bufBytes R.KEY_BUF 64) = none) ∧
    (∀ S ∈ [((up.wr R.KEY_STAT_ROOT 1).updKey (fun x => { x with slots := [(63, some ⟨false, 2, 31, 0, [], []⟩)] }))], 63 <
      64 ∧ (⟨0, 15⟩ : KeyUser).eng < 16 ∧ S.letsWrite (⟨0, 15⟩ : KeyUser).path keyCmdAddr ∧ S.rd R.KEY_STAT_BUSY = 0 ∧
      S.keyRefused (⟨0, 15⟩ : KeyUser).path 8 63 0 (⟨0, 15⟩ : KeyUser).eng (S.bufBytes R.KEY_BUF 64) = none) := by
  decide +kernel

theorem witness_AuthorityCompletes :
    up.letsWrite 0 authCmdAddr ∧ 23 < 24 ∧ up.domainRuns 1 = true ∧ 4095 < 4096 ∧ up.letsWrite 0 0x02304C ∧ up.ownerPath 0 =
      true ∧ up.letsWrite 0 0x024040 ∧ up.domainRuns 0 = true ∧ 7 < 8 ∧ up.letsWrite 0 dbgCmdAddr ∧
    (∀ S ∈ [(up.wr R.KEY_TMP_EN 127)], 127 < 128 ∧ S.key.tampered = false ∧ (S.begin.tamper 127).key.tampered = true ∧
      (S.begin.tamper 127).rst.off = false) ∧
    (∀ S ∈ [(up.updKey (fun x => { x with tampered := true }))], 127 < 128 ∧ S.key.tampered = true) := by
  decide +kernel

theorem witness_FeedChannelsComplete :
    17 < 18 ∧ up.fus.alive = true ∧
    (∀ S ∈ [(up.wr R.FUS_STAT_STATE 2 17)], 17 < 18 ∧ S.fus.alive = true ∧ S.chSt 17 = chRamp) ∧
    (∀ S ∈ [(up.wr R.FUS_STAT_STATE 3 17)], 17 < 18 ∧ S.fus.alive = true ∧ S.chSt 17 = chEnhance) := by
  decide +kernel

theorem witness_PowerDieCompletes :
    17 < 18 ∧ up.letsWrite 0 (fusCfgAddr 17) ∧ up.letsWrite 0 (fusCmdAddr 17) ∧ up.letsWrite 0 0x06004C ∧ up.fus.alive =
      true ∧ up.pdLinkUp = true ∧
    (∀ S ∈ [(up.wr R.FUS_PD_STAT_PRESENT 0)], S.fus.alive = true ∧ S.domainRuns 1 = true ∧ S.pdLinkUp = false) ∧
    (∀ S ∈ [(up.updFus (fun x => { x with alive := false }))], S.fus.alive = false ∧ 9600 ≤ 9600) := by
  decide +kernel

theorem witness_CableDialogueCompletes1 :
    15 < 16 ∧ up.fus.alive = true ∧ (true || false) = true ∧ up.letsWrite 0 (cpdBase 15) ∧ up.letsWrite 0 (cpdBase 15 + 4) ∧
      (up.crd R.CPD_STAT_MSGID 15) = up.crd R.CPD_STAT_MSGID 15 ∧ up.letsRead 0 (cpdBase 15 + 0x48) ∧
    (∀ S ∈ [(up.wr R.CPD_STAT_STATE 1 3 3)], 15 < 16 ∧ 65535 < 65536 ∧ [2 ^ 32 - 1].all (fun w => decide (w < 2 ^ 32)) ∧
      S.fus.alive = true ∧ S.cpdAttached 15 = true ∧ (S.begin.cpdReceive 15 65535 [2 ^ 32 - 1] (⟨0, 0, 0, false, []⟩ :
      DspSink) false).onLine 15 = none ∧ [].all (fun w => decide (w < 2 ^ 32)) ∧ S.letsWrite 0 (cpdBase 15 + 4) ∧
      S.onLine 15 = none) ∧
    (∀ S ∈ [((up.wr R.CPD_STAT_STATE 1 3 3).setPhy 15 { tx := some ⟨0, [], true, 0, false⟩ })], 15 < 16 ∧ 65535 < 65536 ∧
      [].all (fun w => decide (w < 2 ^ 32)) ∧ S.fus.alive = true ∧ S.cpdAttached 15 = true ∧ (S.begin.cpdReceive 15
      65535 [] (⟨0, 0, 0, false, []⟩ : DspSink) false).onLine 15 ≠ none) ∧
    (∀ S ∈ [(((up.wr R.CPD_CFG_AUTO_FRS 1 3 3).wr R.FUS_STAT_DIR 0 15).wr R.CPD_FRS_CFG_PBUS_THR 1)], 15 < 16 ∧ S.fus.alive
      = true ∧ S.crd R.CPD_CFG_AUTO_FRS 15 = 1 ∧ S.rd R.FUS_STAT_DIR 15 = 0 ∧ S.rd R.CPD_FRS_CFG_PBUS_THR ≠ 0) := by
  decide +kernel

theorem witness_CableDialogueCompletes2 :
    (∀ S ∈ [(up.setPhy 15 { confirm := true })], 15 < 16 ∧ S.fus.alive = true ∧ (S.phy 15).confirm = true) := by
  decide +kernel

theorem witness_PowerStatesAndResetsComplete1 :
    7 < 8 ∧ up.letsWrite 0 pwrReqAddr ∧ 65535 < 65536 ∧ 255 < 256 ∧ up.domainRuns 0 = true ∧ 31 < 32 ∧ 15 < 16 ∧ 6 ≤ 14 ∧ 14
      < 15 ∧ [0, 0, 0, 0xFFFF].length = 4 ∧ [0, 0, 0, 0xFFFF].all (fun w => decide (w < 65536)) ∧ -32768 ≤ (-32768) ∧
      (-32768) < 32768 ∧ up.domainRuns 1 = true ∧ up.rst.off = false ∧ up.letsWrite 0 0x1040 ∧ (List.replicate 8
      0).length = 8 ∧ 0 < 16 ∧ 15 ≠ 0 ∧
    (∀ S ∈ [(up.updPwr (fun x => { x with trans := some ⟨0, 2, false, .volts⟩ }))], S.domainRuns 0 = true ∧
      S.begin.watchEntry.entering = some (⟨0, 2, false, .volts⟩ : PwrTrans)) ∧
    (∀ S ∈ [(up.updPwr (fun x => { x with idle := true }))], S.domainRuns 0 = true ∧ S.pwr.idle = true) ∧
    (∀ S ∈ [(up.updPwr (fun x => { x with trans := some ⟨2, 0, true, .domains⟩ }))], S.domainRuns 0 = true ∧ S.pwr.trans =
      some (⟨2, 0, true, .domains⟩ : PwrTrans) ∧ (⟨2, 0, true, .domains⟩ : PwrTrans).leaving = true ∧ (⟨2, 0, true,
      .domains⟩ : PwrTrans).stage = .domains ∧ S.functionsDrained S.pwr.drained = true) := by
  decide +kernel

theorem witness_PowerStatesAndResetsComplete2 :
    (∀ S ∈ [(up.wr R.PWR_WAKE_TIME 1)], S.domainRuns 0 = true ∧ S.rd R.PWR_WAKE_TIME ≠ 0) ∧
    (∀ S ∈ [({ up with regs := up.regs.put (R.PWR_VIDF.key 0 0) 700 } : State)], 0 < 3 ∧ S.letsWrite 0 (0x31074 + 4 * 0) ∧
      ((S.begin.tlpIn 0).store 0 (0x31074 + 4 * 0) 5 [R.PWR_VIDU] 0 0).vid 0 ≠ S.vid 0 ∧ ((S.begin.tlpIn 0).store 0
      (0x31074 + 4 * 0) 5 [R.PWR_VIDU] 0 0).pwr.trans = none ∧ 0 = State.vidIndex ((S.begin.tlpIn 0).store 0 (0x31074 +
      4 * 0) 5 [R.PWR_VIDU] 0 0).pwrState) ∧
    (∀ S ∈ [(({ up with regs := up.regs.put (R.PWR_VIDF.key 0 0) 700 } : State).updPwr (fun x => { x with trans := some ⟨2,
      0, true, .domains⟩ }))], 0 < 3 ∧ S.letsWrite 0 (0x31074 + 4 * 0) ∧ ((S.begin.tlpIn 0).store 0 (0x31074 + 4 * 0) 5
      [R.PWR_VIDU] 0 0).vid 0 ≠ S.vid 0 ∧ ((S.begin.tlpIn 0).store 0 (0x31074 + 4 * 0) 5 [R.PWR_VIDU] 0 0).pwr.trans ≠
      none) ∧
    (∀ S ∈ [({ up with regs := up.regs.put (R.PWR_VIDF.key 0 2) 700 } : State)], 2 < 3 ∧ S.letsWrite 0 (0x31074 + 4 * 2) ∧
      (((S.begin.tlpIn 0).store 0 (0x31074 + 4 * 2) 0 [R.PWR_VIDU] 0 2).vid 2 = S.vid 2 ∨ (((S.begin.tlpIn 0).store 0
      (0x31074 + 4 * 2) 0 [R.PWR_VIDU] 0 2).pwr.trans = none ∧ 2 ≠ State.vidIndex ((S.begin.tlpIn 0).store 0 (0x31074 +
      4 * 2) 0 [R.PWR_VIDU] 0 2).pwrState))) := by
  decide +kernel

theorem witness_PowerStatesAndResetsComplete3 :
    (∀ S ∈ [(up.wr R.DSP_LT 5)], S.domainRuns 17 = true ∧ S.pwrState ≤ 2 ∧ 4 < S.rd R.DSP_LT ∧ S.pwr.refresh = false) ∧
    (∀ S ∈ [({ up with rst := { up.rst with pin := true } } : State)], S.rst.pin = true ∧ S.rst.off = false) ∧
    (∀ S ∈ [({ up with rst := { up.rst with armed := true } } : State)], S.rst.armed = true ∧ S.rst.off = false) ∧
    (∀ S ∈ [({ up with rst := { up.rst with lost := true } } : State)], S.rst.lost = true ∧ S.rst.pll = false ∧ S.rst.off =
      false ∧ S.rst.held = false) := by
  decide +kernel

theorem witness_PowerStatesAndResetsComplete4 :
    (∀ S ∈ [({ up with rst := { up.rst with off := true } } : State)], S.rst.off = true) := by
  decide +kernel

theorem witness_EmptyQueueLetsTimePass :
    State.reset.pending = [] ∧ (∀ n, (State.reset.link n).expiry = none) ∧ State.reset.eng.failing = [] ∧
      State.reset.fus.prog = none :=
  ⟨rfl, fun _ => rfl, rfl, rfl⟩

theorem witness_CommandsCompleteWhenWellFormed :
    Instr.wf (.registerWrite 7 (2 ^ 22 - 1) (2 ^ 32 - 1) 15) = true ∧ Instr.wf (.registerWrite 8 0 0 0) = false := by
  decide +kernel

theorem witness_CellWireRoundTrip :
    (⟨2 ^ 16 - 1, 7, true, 15, 1, 2 ^ 15 - 1, 255, 2 ^ 16 - 1, 2 ^ 64 - 1, List.replicate 236 0xFF⟩ : Cell).fits := by
  decide +kernel

theorem witness_ControlBlockWireRoundTrip :
    (Ctl.ack (2 ^ 16 - 1) 255 (2 ^ 24 - 1)).fits ∧ (Ctl.time 7 31 (2 ^ 40 - 1)).fits ∧ (Ctl.switch 3 3 3 255).fits ∧
      (Ctl.train 3 7 true 15 15 15 true 7).fits := by
  simp [Ctl.fits]

theorem witness_ScratchHoldsWhatIsWritten :
    pageListed 0x37F = true ∧ up.letsWrite 0 (0x37F * 4096 + 0x034) ∧ up.letsRead 4 (0x37F * 4096 + 0x034) := by
  decide +kernel

theorem witness_AbsentRegistersReadZero :
    (pageListed (0x3FFFFC / 4096) = false ∧ up.noSender 7 = false ∧ up.pathHeld 7 = false) ∧
    (pageListed (0x058FFC / 4096) = true ∧ placeAt 0x058FFC = none ∧ pairAt 0x058FFC = none ∧ up.letsRead 0 0x058FFC ∧
      up.letsWrite 0 0x058FFC) := by
  decide +kernel

theorem witness_BadAccessesAreCaptured :
    pageListed (0x37FFFF / 4096) = true ∧ 0x37FFFF % 4 ≠ 0 ∧ up.noSender 0 = false ∧ up.noSender 4 = false ∧ up.rst.held = false ∧
      pageDomain (0x061042 / 4096) = 31 ∧ up.pdLinkUp = true ∧ up.rd R.ERR_CAPT0_VALID 0x061 ≠ 1 ∧
      (up.wr R.ERR_CAPT0_VALID 1 0x061).rd R.ERR_CAPT0_VALID 0x061 = 1 ∧ up.pathHeld 4 = false ∧
      (up.queueAccess { path := 4, write := true, addr := 0x37F040, data := 0 }).pathHeld 4 = true := by
  decide +kernel

theorem witness_RefusedAccessesChangeNothing :
    up.pathHeld 6 = false ∧ up.noSender 6 = false ∧ up.rst.held = false ∧ up.pdLinkUp = true ∧
      State.challenges 6 0x021040 0 = false ∧ up.maskAllows 6 true 0x021040 = false ∧
      up.maskAllows 6 false 0x021040 = false ∧ up.maskAllows 6 true 0x061040 = false := by
  decide +kernel

theorem witness_WaitingAccessHoldsItsPathOnly :
    ∀ S ∈ [up.wr R.PWR_DOM_STAT 1], S.pathHeld 0 = false ∧ S.noSender 0 = false ∧ S.rst.held = false ∧ S.maskAllows 0 true 0x37F040 = true ∧
      pageDomain (0x37F040 / 4096) ≠ 31 ∧ S.domainRuns (pageDomain (0x37F040 / 4096)) = false := by
  decide +kernel

theorem witness_PairReadsLatchPerPath :
    (placeAt 0x040060).any (fun x => x.reg.pair && !State.groupLatch x && (up.begin.cmdRead 0 x.i x.j x.base).isNone) = true ∧
      placeAt 0x040064 = none ∧ pairAt 0x040064 = placeAt 0x040060 ∧ up.letsRead 0 0x040060 ∧ up.letsRead 0 0x040064 := by
  decide +kernel

theorem witness_PairWritesApplyTogether :
    (placeAt 0x040060).any (fun x => x.reg.pair && up.takesWrite x &&
      x.reg.fields.all (fun f => f.acc == .rw && f.lo == 0 && f.hi == 2 ^ 64 - 1 && f.width == 64)) = true ∧
    (placeAt 0x32104C).any (fun x => x.reg.pair && up.takesWrite x && x.reg.fields.all (fun f => f.acc == .rw)) = true ∧
      placeAt 0x040064 = none ∧ pairAt 0x040064 = placeAt 0x040060 ∧ up.letsWrite 0 0x040060 ∧ up.letsWrite 0 0x040064 := by
  decide +kernel

theorem witness_ForcedInterruptsSetBitsOnly :
    pageListed 0x014 = true ∧ up.letsWrite 0 (0x014 * 4096 + 0x018) ∧ up.letsWrite 0 (0x37F * 4096 + 0x018) := by
  decide +kernel

theorem witness_SoftResetClearsTheHeader :
    ∀ S ∈ [({ up with csr := { up.csr with softReset := [0x072, 0x080, 0x280] } } : State)],
      (∀ page ∈ [0x072, 0x080, 0x280], pageListed page = true ∧ S.csr.softReset.contains page = true ∧ S.pageBusy page = false ∧
        (if pageDomain page = 31 then S.fus.alive else S.domainRuns (pageDomain page)) = true) := by
  decide +kernel

theorem witness_TunnelMapSoftReset :
    ∀ S ∈ [({ up with csr := { up.csr with softReset := [0x280] } } : State)],
      S.csr.softReset.contains 0x280 = true ∧ S.pageBusy 0x280 = false ∧ S.domainRuns 1 = true := by
  decide +kernel

theorem witness_EditSetBelongsToItsPath :
    (up.letsWrite 4 tmapCmdAddr ∧ up.rd R.TMAP_STAT_BUSY = 0 ∧ up.tun.edit = []) ∧
    (∀ S ∈ [up.updTun (fun t => { t with edit := [(1, {})], editPath := 0 })], S.letsWrite 4 tmapCmdAddr ∧
      S.rd R.TMAP_STAT_BUSY = 0 ∧ S.tun.edit ≠ [] ∧ S.tun.editPath ≠ 4) := by
  decide +kernel

theorem witness_BusyTunnelMapIgnoresCommands :
    (up.wr R.TMAP_STAT_BUSY 1).letsWrite 0 tmapCmdAddr ∧ (up.wr R.TMAP_STAT_BUSY 1).rd R.TMAP_STAT_BUSY = 1 := by
  decide +kernel

theorem witness_LookupMissDiscardsTheUnit :
    up.domainRuns 1 = true ∧ kindReserved 0 = false ∧
    (∃ e, up.goodCopy 32767 = some e ∧ e.valid = false) ∧
    (up.updTun (fun t => { t with ecc := [(5, .bad), (32768 + 5, .bad)] })).goodCopy 5 = none :=
  ⟨by decide +kernel, by decide +kernel, ⟨{}, by decide +kernel, by decide +kernel⟩, by decide +kernel⟩

theorem witness_CreditLimitsMoveForwardOnly :
    ∀ S ∈ [(up.wr R.TRK_LSTAT_STATE 3 15).setLink 15 { reserved := List.replicate 8 0 }],
      7 < S.agreedVcs 15 ∧ S.domainRuns (6 + 15 / 4) = true ∧ S.linkRuns 15 = true ∧
      dist24 ((S.link 15).limit.get 0 7) 8388607 ≤ 8388607 ∧ 8388607 < dist24 ((S.link 15).limit.get 0 7) 8388608 := by
  decide +kernel

theorem witness_CellSequenceRules :
    ∀ S ∈ [(up.wr R.TRK_LSTAT_STATE 3 15).setLink 15 { ne := 0, landing := [(255, some (someCell, 0))] }],
      S.domainRuns (6 + 15 / 4) = true ∧ S.linkRuns 15 = true ∧
      (∀ q ∈ [256, 65279, 65280, 65535, 255, 254], decodeCell (encodeCell { someCell with lseq := q }) = some { someCell with lseq := q }) ∧
      256 ≤ dist16 (S.link 15).ne 256 ∧ dist16 (S.link 15).ne 65279 < 65280 ∧ 65280 ≤ dist16 (S.link 15).ne 65280 ∧
      dist16 (S.link 15).ne 255 < 256 ∧ ((S.link 15).landing.get none 255).isSome = true ∧
      dist16 (S.link 15).ne 254 < 256 ∧ (S.link 15).landing.get none 254 = none := by
  decide +kernel

theorem witness_QueueMovesNeedEmptyQueues :
    ∀ S ∈ [(up.wr R.SCH_Q_CFG_PORT 23).setPlane 1 { queues := [(0, [⟨0, 0⟩])] }], S.letsWrite 0 0x201048 ∧
      (S.pair (S.rd R.SCH_Q_INDEX_INDEX)).port ≠ (if S.rd R.SCH_Q_CFG_PORT < 24 then S.rd R.SCH_Q_CFG_PORT else 31) ∧
      S.queue 1 (S.rd R.SCH_Q_INDEX_INDEX) ≠ [] := by
  decide +kernel

theorem witness_TimeReadsLatchTheSeconds :
    up.letsRead 0 0x040040 ∧ up.letsRead 0 0x040044 ∧ up.letsRead 0 0x040048 := by
  decide +kernel

theorem witness_PinnedTunnelsRefuseTimeSteps :
    ∀ S ∈ [(up.wr R.TIM_STEP (2 ^ 63)).updTun (fun t => { t with map := [(1, ⟨1, 0, 0, 0⟩)] })], S.letsWrite 0 timCmdAddr ∧
      S.rd R.TIM_RESULT_BUSY = 0 ∧ S.tim.engaged = false ∧ S.pinnedMap = true ∧ (S.rd R.TIM_PIN_STEP : Int) < |signedOf 64 (S.rd R.TIM_STEP)| := by
  decide +kernel

theorem witness_CauseQueueIsFirstInFirstOut :
    (up.letsRead 0 mrtCauseAddr ∧ up.brg.cause = []) ∧
    (∀ S ∈ [up.updBrg (fun b => { b with cause := [(63, 65535), (0, 0)] })], S.letsRead 0 mrtCauseAddr ∧
      S.brg.cause = (63, 65535) :: [(0, 0)]) := by
  decide +kernel

theorem witness_EndpointsNeedTheirOwnTunnel :
    (∀ S ∈ [up.wr R.USB_EP_INDEX 31], S.letsWrite 0 0x351044 ∧ S.rd R.USB_EP_INDEX = 31 ∧ S.epState 31 = epDisabled ∧
      S.rd R.USB_EP_CFG_EN 0 31 = 0 ∧ S.epTid 31 = 0) ∧
    (∀ S ∈ [(((up.wr R.USB_EP_INDEX 31).wr R.USB_EP_TID_TID 5 0 31).wr R.USB_EP_TID_TID 5 0 17).wr R.USB_EP_STAT_STATE 1 0 17],
      S.rd R.USB_EP_INDEX = 31 ∧ S.epState 31 = epDisabled ∧ S.epTid 31 ≠ 0 ∧ epIn 31 = true ∧ 17 ∈ bulkEps ∧
      epIn 17 = true ∧ 17 ≠ 31 ∧ S.epState 17 ≠ epDisabled ∧ S.epTid 17 = S.epTid 31) := by
  decide +kernel

theorem witness_TamperTouchesTheKeyStoreOnly :
    (∀ S ∈ [up.wr R.KEY_TMP_EN 127], S.pwrState < 3 ∧ S.entering = none ∧ S.rst.off = false ∧ S.key.tampered = false ∧
      (S.begin.tamper 127).tamperActive = true) ∧
    (∀ S ∈ [(up.wr R.KEY_TMP_EN 127).updKey (fun k => { k with tampered := true })], S.pwrState < 3 ∧ S.entering = none ∧
      S.rst.off = false ∧ S.key.tampered = true) := by
  decide +kernel

theorem witness_InstantTripsLatchDrivenChannels :
    (up.fus.alive = true ∧ up.fus.held = true) ∧
    (∀ U ∈ [up.updFus (fun f => { f with held := false })],
      U.chDriven 17 = false ∧ driven (U.tickStart 17).st = false ∧ (∀ v ∈ [2, 3, 4], (U.wr R.FUS_STAT_STATE v 17).chDriven 17 = true) ∧
      (∀ S ∈ [((U.wr R.FUS_STAT_STATE chEnhance 17).chTrip 17 fusBreaker)],
        S.chSt 17 = chTripped ∧ S.rd R.FUS_STAT_CAUSE 17 = fusBreaker ∧ driven (S.tickStart 17).st = true ∧ S.fus.held = false) ∧
      (∀ S ∈ [((U.wr R.FUS_STAT_STATE chOn 17).chEnable 17 0)],
        S.chSt 17 = chOff ∧ S.rd R.FUS_STAT_CAUSE 17 = fusCommand ∧ driven (S.tickStart 17).st = true ∧ S.fus.held = false)) := by
  decide +kernel

theorem witness_CoreSetpointsAreLimited :
    up.letsRead 0 (0x31080 + 4 * 0) ∧ up.letsRead 0 (0x31080 + 4 * 2) := by
  decide +kernel

theorem witness_WarmResetReturnsToP0 :
    (up.letsWrite 0 0x001040 ∧ up.ownerPath 0 = true) ∧ ((up.wr R.KEY_OWNER_PATHS 1).letsWrite 4 0x001040 ∧ (up.wr R.KEY_OWNER_PATHS 1).ownerPath 4 = false) ∧
      (∀ S ∈ [({ up with rst := { up.rst with armed := true } } : State)], S.rst.armed = true ∧ S.rst.off = false ∧ S.pwr.doms.testBit 1 = true) := by
  decide +kernel

theorem witness_EveryStepKeepsCanonicalForm :
    (∃ t, step State.reset = .next t) ∧ Memory.wf State.reset.dram = true := ⟨⟨_, rfl⟩, rfl⟩

theorem witness_EveryStepServesTheQueueInOrder :
    ∃ t, step { State.reset with pending := [.warmReset, .coldReset 0x14 true] } = .next t := ⟨_, rfl⟩

theorem witness_EveryCommandTouchesItsOwnParts : ∃ t, exec .warmReset State.reset = .next t := ⟨_, rfl⟩

theorem witness_EveryCommandWritesItsOwnPages :
    (∃ t, exec .ppsOutFall State.reset = .next t) ∧ Instr.pages .ppsOutFall = some [] ∧
      (∃ t, exec (.tmapDiscard 0) State.reset = .next t) ∧ (Instr.pages (.tmapDiscard 0)).isSome = true :=
  ⟨⟨_, rfl⟩, rfl, ⟨_, rfl⟩, rfl⟩

/-- A source that shows 640 by 480 pixels and is bound to tunnel 5, and a RECT_RAW of one pixel at its upper left corner. -/
def shows : State :=
  (((up.wr R.DSP_SRC_TID 5 1).setSrcState 1 srcRun).updSrc 1
    (fun x => { x with mode := some ⟨25175, 640, 16, 96, 48, 480, 10, 2, 33, false, false, false⟩ }))
def onePixel : UnitMsg := ⟨5, 0, [2, 0] ++ List.replicate 11 0 ++ [1, 0, 1, 9, 9, 9, 0], 0, 0⟩

theorem witness_StoresChangeTheirOwnBytesOnly :
    shows.boundSource 5 = some 1 ∧ (shows.src 1).mode.isSome = true ∧
      (∀ m ∈ (shows.src 1).mode, beAt onePixel.payload 14 2 = 1 ∧ beAt onePixel.payload 12 2 = 1 ∧
        shows.pixelAddr 1 1 m 0 0 ≠ 4 ∧ 4 < shows.pixelAddr 1 1 m 0 0) ∧
      (shows.stoTun 0).held = [] := by
  decide +kernel

/-- Its four bytes, and no others of its row, are what the RECT_RAW stores. -/
theorem test_one_pixel_is_stored :
    (fun t : State => (t.dramRead (shows.pixelAddr 1 1 ⟨25175, 640, 16, 96, 48, 480, 10, 2, 33, false, false, false⟩ 0 0) 4,
      t.dram.length)) (after (.rectRaw onePixel) shows) = ([0, 9, 9, 9], 3) := by
  decide +kernel

end Sys2Proof.Tests
end

section
/-! SUPPORT. What counting an event and raising an interrupt leave of the register fabric and the bridge, and which access decisions the arrival of a TLP of the host keeps. -/

namespace Sys2Proof.Machine.State

variable {s t u : State}

/-! ### Counting and interrupts -/

/-- `t` differs from `s` at most in the registers, what is put out and the pending MSI-X vectors: all that a count of an event, or an interrupt that it raises, touches. -/
def signalsOnly (s t : State) : Prop :=
  t = { s with regs := t.regs, out := t.out, brg := { s.brg with pba := t.brg.pba } }

namespace signalsOnly

theorem refl (s : State) : s.signalsOnly s := rfl

theorem trans (h : s.signalsOnly t) (h' : t.signalsOnly u) : s.signalsOnly u := by
  unfold signalsOnly at *
  rw [h] at h'
  exact h'

theorem ite {c : Prop} [Decidable c] (h : s.signalsOnly t) (h' : s.signalsOnly u) : s.signalsOnly (if c then t else u) := by
  split
  · exact h
  · exact h'

theorem foldl {α : Type} {f : State → α → State} (hf : ∀ (s : State) (x : α), s.signalsOnly (f s x)) (l : List α) (s : State) :
    s.signalsOnly (l.foldl f s) := by
  induction l generalizing s with
  | nil => exact refl s
  | cons x l ih => exact (hf s x).trans (ih (f s x))

theorem csr (h : s.signalsOnly t) : t.csr = s.csr := by rw [h]

theorem freeTags (h : s.signalsOnly t) : t.brg.freeTags = s.brg.freeTags := by rw [h]

theorem waiting (h : s.signalsOnly t) : t.brg.waiting = s.brg.waiting := by rw [h]

end signalsOnly

theorem wr_signals (s : State) (f : Field) (v i j : Nat) : s.signalsOnly (s.wr f v i j) := rfl

theorem emit_signals (s : State) (e : Emit) : s.signalsOnly (s.emit e) := rfl

theorem countAt_signals (s : State) (c n : Nat) : s.signalsOnly (s.countAt c n) := by
  unfold countAt
  exact .ite (wr_signals ..) ((wr_signals ..).trans (wr_signals ..))

theorem forwardIrq_signals (s : State) (page b : Nat) : s.signalsOnly (s.forwardIrq page b) :=
  .ite (emit_signals ..) (.refl s)

theorem tallyMsix_signals (s : State) (ev : Nat) : s.signalsOnly (s.tallyMsix ev) :=
  .foldl (fun s c =>
    .ite (((countAt_signals s c 1).trans (wr_signals ..)).trans (forwardIrq_signals ..)) (countAt_signals s c 1)) _ s

theorem msixWrite_signals (s : State) (v : Nat) : s.signalsOnly (s.msixWrite v) := by
  unfold msixWrite
  exact .ite rfl (((emit_signals ..).trans (tallyMsix_signals ..)).trans (tallyMsix_signals ..))

theorem pairInterrupt_signals (s : State) (g : Nat) : s.signalsOnly (s.pairInterrupt g) :=
  .ite (emit_signals ..) (.ite (emit_signals ..) (.refl s))

theorem notice_signals (s : State) (g : Nat) : s.signalsOnly (s.notice g) := by
  have h : s.signalsOnly (if (s.rd R.MON_ROUTE_MGT).testBit g then s.pairInterrupt g else s) :=
    .ite (pairInterrupt_signals ..) (.refl s)
  unfold notice
  exact .ite (h.trans (msixWrite_signals ..)) h

theorem routing_signals {act : State → State} (s : State) (g : Nat) (h : s.signalsOnly (act s)) :
    s.signalsOnly (s.routing g act) := by
  unfold routing
  exact .ite h (.ite (h.trans (notice_signals ..)) ((h.trans (notice_signals ..)).trans (notice_signals ..)))

theorem irq_signals (s : State) (page b : Nat) : s.signalsOnly (s.irq page b) :=
  (routing_signals s (page / 32) (wr_signals s (irqField b) 1 page 0)).trans (forwardIrq_signals ..)

theorem tallyAt_signals (s : State) (c n : Nat) : s.signalsOnly (s.tallyAt c n) :=
  .ite ((countAt_signals s c n).trans (irq_signals ..)) (countAt_signals s c n)

theorem tally_signals (s : State) (ev n : Nat) : s.signalsOnly (s.tally ev n) :=
  .foldl (fun s c => tallyAt_signals s c n) _ s

theorem tlpIn_signals (s : State) (path : Nat) : s.signalsOnly (s.tlpIn path) := .ite (tally_signals ..) (.refl s)

/-! ### The arrival of a TLP of the host -/

section
variable (s : State) (path : Nat)

@[simp] theorem tlpIn_csr : (s.tlpIn path).csr = s.csr := (tlpIn_signals s path).csr

theorem tlpIn_rd {f : Field} {i j : Nat} (h : keyPage (f.key i j) ≠ 0x014) : (s.tlpIn path).rd f i j = s.rd f i j :=
  tlpIn_get h

@[simp] theorem tlpIn_pairState (x : Nat) : (s.tlpIn path).pairState x = s.pairState x := by
  simp (disch := decide) only [pairState, tlpIn_rd]

@[simp] theorem tlpIn_noSender (q : Nat) : (s.tlpIn path).noSender q = s.noSender q := by
  simp only [noSender, senderHalted, tlpIn_rst, tlpIn_csr, tlpIn_mgt, tlpIn_pairState]

@[simp] theorem tlpIn_pathHeld (q : Nat) : (s.tlpIn path).pathHeld q = s.pathHeld q := by
  simp only [pathHeld, creditsHeld, tlpIn_pwr, tlpIn_sch, (tlpIn_signals s path).freeTags, (tlpIn_signals s path).waiting]

@[simp] theorem tlpIn_pdLinkUp : (s.tlpIn path).pdLinkUp = s.pdLinkUp := by
  simp (disch := decide) only [pdLinkUp, tlpIn_rd]

@[simp] theorem tlpIn_domainRuns (d : Nat) : (s.tlpIn path).domainRuns d = s.domainRuns d := by
  simp (disch := decide) only [domainRuns, tlpIn_rd]

@[simp] theorem tlpIn_debugOpen : (s.tlpIn path).debugOpen = s.debugOpen := by
  simp (disch := decide) only [debugOpen, tlpIn_rd]

@[simp] theorem tlpIn_debugCsr : (s.tlpIn path).debugCsr = s.debugCsr := by
  simp (disch := decide) only [debugCsr, tlpIn_rd]

theorem pageAuth_keyPage {page : Nat} (h : page < 2 ^ 10) :
    keyPage (R.PAGE_AUTH_RD.key page 0) = page ∧ keyPage (R.PAGE_AUTH_WR.key page 0) = page := by
  simp only [keyPage, keyAddr, Field.key, R.PAGE_AUTH_RD, R.PAGE_AUTH_WR]
  omega

/-- The mask of every page but 0x014, whose counters the arrival may count, stays as it is. -/
theorem tlpIn_maskAllows {q addr : Nat} {w : Bool} (ha : addr < 2 ^ 22) (hp : addr / 4096 ≠ 0x014) :
    (s.tlpIn path).maskAllows q w addr = s.maskAllows q w addr := by
  obtain ⟨hr, hw⟩ := pageAuth_keyPage (show addr / 4096 < 2 ^ 10 by omega)
  have hrd : (s.tlpIn path).rd R.PAGE_AUTH_RD (addr / 4096) = s.rd R.PAGE_AUTH_RD (addr / 4096) := tlpIn_rd s path (by rwa [hr])
  have hwr : (s.tlpIn path).rd R.PAGE_AUTH_WR (addr / 4096) = s.rd R.PAGE_AUTH_WR (addr / 4096) := tlpIn_rd s path (by rwa [hw])
  rw [maskAllows, maskNow, tlpIn_csr, tlpIn_debugOpen, tlpIn_debugCsr, hrd, hwr]
  rfl

theorem tlpIn_verdict {q addr : Nat} {w : Bool} (ha : addr < 2 ^ 22) (hp : addr / 4096 ≠ 0x014) :
    (s.tlpIn path).verdict q w addr = s.verdict q w addr := by
  simp only [verdict, tlpIn_noSender, tlpIn_pathHeld, tlpIn_rst, tlpIn_maskAllows s path ha hp, tlpIn_pdLinkUp,
    tlpIn_domainRuns]

end

end Sys2Proof.Machine.State
end

section
/-! SUPPORT. A register access by its command: what REGISTER_WRITE, LATCHING_READ and HI_WRITE_APPLY do with a good access that the hub lets through, and what one finds at an offset without a register. -/

namespace Sys2Proof.Machine.State

variable {s : State} {path addr data : Nat}

theorem exec_registerWrite {be : Nat} (hp : path < 8) (ha : addr < 2 ^ 22) (hd : data < 2 ^ 32) (hb : be < 16) :
    exec (.registerWrite path addr data be) s = .next (s.begin.csrWrite path addr data be) := by
  change execRegisterWrite path addr data be s = _
  exact if_pos (by simp only [hp, hb, decide_true, Bool.true_and, Bool.and_true, Bool.and_eq_true, decide_eq_true_eq]; exact ⟨ha, hd⟩)

theorem exec_latchingRead {be : Nat} (hp : path < 8) (ha : addr < 2 ^ 22) (hb : be < 16) :
    exec (.latchingRead path addr be) s = .next (s.begin.csrRead path addr be) := by
  change execLatchingRead path addr be s = _
  exact if_pos (by simpa only [hp, hb, decide_true, Bool.true_and, Bool.and_true, decide_eq_true_eq] using ha)

theorem exec_hiWriteApply (hp : path < 8) (ha : addr < 2 ^ 22) (h4 : addr % 4 = 0) (hd : data < 2 ^ 32)
    (hx : (pairAt addr).isSome = true) :
    exec (.hiWriteApply path addr data) s = .next (s.begin.csrWrite path addr data) := by
  change execHiWriteApply path addr data s = _
  exact if_pos (by simp only [hp, h4, hx, decide_true, Bool.true_and, Bool.and_true, Bool.and_eq_true, decide_eq_true_eq]; exact ⟨ha, hd⟩)

theorem badAccess_none (h4 : addr % 4 = 0) : badAccess addr 0xF = none := by simp [badAccess, h4]

/-- A good write of a listed page that goes through is carried out. -/
theorem csrWrite_go (h4 : addr % 4 = 0) (hl : pageListed (addr / 4096) = true) (h : s.letsWrite path addr) :
    s.begin.csrWrite path addr data = (s.begin.tlpIn path).writeAct path addr data := by
  simp only [csrWrite, badAccess_none h4, hl, if_true, letsWrite_act h]

/-- A good read of a listed page that goes through is carried out. -/
theorem csrRead_go (h4 : addr % 4 = 0) (hl : pageListed (addr / 4096) = true) (h : s.letsRead path addr) :
    s.begin.csrRead path addr = (s.begin.tlpIn path).readAct path addr := by
  simp only [csrRead, badAccess_none h4, hl, if_true, letsRead_act h]

/-- A good write of an unlisted page is ignored. -/
theorem csrWrite_unlisted (h4 : addr % 4 = 0) (hl : pageListed (addr / 4096) = false) :
    s.csrWrite path addr data = s.tlpIn path := by
  simp [csrWrite, badAccess_none h4, hl]

/-- A good read of an unlisted page answers 0. -/
theorem csrRead_unlisted (h4 : addr % 4 = 0) (hl : pageListed (addr / 4096) = false) (hn : s.noSender path = false)
    (hh : s.pathHeld path = false) : s.csrRead path addr = (s.tlpIn path).answer path 0 := by
  simp [csrRead, badAccess_none h4, hl, hn, hh]

/-! ### Offsets without a register (R6) -/

theorem writeAct_absent (hx : placeAt addr = none) (hp : pairAt addr = none) (hf : addr % 4096 ≠ 0x018) :
    s.writeAct path addr data = s := by
  simp only [writeAct, if_neg hf, hx, hp]

theorem readAt_absent (hx : placeAt addr = none) (h0 : addr % 4096 ≠ 0x000) (h4 : addr % 4096 ≠ 0x004)
    (hC : addr % 4096 ≠ 0x00C) : s.readAt addr = 0 := by
  simp only [readAt, hx]

theorem readAct_absent (hx : placeAt addr = none) (hp : pairAt addr = none) :
    s.readAct path addr = s.answer path (s.readAt addr) := by
  unfold readAct
  split
  · rename_i h
    cases hx.symm.trans h
  · rw [hp]

end Sys2Proof.Machine.State
end

section
namespace Sys2Proof.Proofs

open Sys2Proof.Machine Sys2Proof.Machine.State

/-- Settles O7: an unlisted page is answered before the gate, and on a listed one the lookup of the offset finds neither a register nor the _HI half of a pair. -/
theorem absentRegistersReadZero : Obligations.AbsentRegistersReadZero := by
  unfold Obligations.AbsentRegistersReadZero
  intro s path addr data ha h4 hd
  refine ⟨fun hl hp hn hh => ⟨?_, ?_⟩, fun hl hx hx' h0 hcap hstat hforce => ⟨fun h => ?_, fun h => ?_⟩⟩
  · rw [exec_latchingRead hp ha (by decide), csrRead_unlisted (s := s.begin) h4 hl hn hh]
  · rw [exec_registerWrite hp ha hd (by decide), csrWrite_unlisted h4 hl]
  · rw [exec_latchingRead h.1 ha (by decide), csrRead_go h4 hl h, readAct_absent hx hx', readAt_absent hx h0 hcap hstat]
  · rw [exec_registerWrite h.1 ha hd (by decide), csrWrite_go h4 hl h, writeAct_absent hx hx' hforce]

end Sys2Proof.Proofs
end

section
/-! SUPPORT. The capture of a bad access (R552): what the capture registers of the page hold after it, and that it touches nothing else. -/

namespace Sys2Proof.Machine

/-- Fields that stand equally far apart from page to page have distinct keys on a page where their places are distinct. -/
theorem Field.key_ne {f g : Field} {i : Nat} (hs : f.si = g.si) (h : f.addr * 32 + f.lsb ≠ g.addr * 32 + g.lsb) :
    f.key i 0 ≠ g.key i 0 := by
  simp only [Field.key, hs]
  omega

namespace State

variable {s : State}

/-- `t` differs from `s` in nothing but registers. -/
def regsOnly (s t : State) : Prop := t = { s with regs := t.regs }

theorem regsOnly.trans {s t u : State} (h : s.regsOnly t) (h' : t.regsOnly u) : s.regsOnly u := by
  unfold regsOnly at *
  rw [h] at h'
  exact h'

theorem wr_regsOnly (s : State) (f : Field) (v i j : Nat) : s.regsOnly (s.wr f v i j) := rfl

/-- The fields of the capture registers (Table 18.3). -/
def captureFields : List Field :=
  [R.ERR_CAPT0_OFFSET, R.ERR_CAPT0_PATH, R.ERR_CAPT0_WRITE, R.ERR_CAPT0_CAUSE, R.ERR_CAPT0_VALID, R.ERR_CAPT1,
    R.ERR_CAPT2_BE, R.ERR_CAPT2_PAGE, R.ERR_CAPT2_COUNT, R.ERR_CAPT3_NS]

theorem captureFields_key {f : Field} (hf : f ∈ captureFields) (page : Nat) : f.key page 0 / 32 ∈ captureWords page := by
  have h : ∀ f ∈ captureFields, f.si = 0x1000 ∧ f.lsb < 32 ∧ f.addr ∈ [0x20, 0x24, 0x28, 0x2C] := by decide
  obtain ⟨hsi, hlsb, haddr⟩ := h f hf
  have hkey : f.key page 0 / 32 = page * 4096 + f.addr := by
    simp only [Field.key, hsi]
    omega
  rw [hkey]
  simpa [captureWords] using haddr

/-- A write of a capture field leaves every key outside the page's capture registers. -/
theorem get_wr_capture {f : Field} {v page d k : Nat} (hk : k / 32 ∉ captureWords page) (hf : f ∈ captureFields) :
    (s.wr f v page).regs.get d k = s.regs.get d k :=
  get_wr_ne (fun h => hk (h ▸ captureFields_key hf page))

variable {page path cause off data be pf : Nat} {write : Bool}

theorem capture_get {d k : Nat} (hk : k / 32 ∉ captureWords page) :
    (s.capture page path write cause off data be pf).regs.get d k = s.regs.get d k := by
  unfold capture
  split <;> simp (disch := first | exact hk | decide) only [get_wr_capture]

theorem capture_regsOnly : s.regsOnly (s.capture page path write cause off data be pf) := by
  unfold capture
  split
  · exact wr_regsOnly ..
  · repeat' refine regsOnly.trans ?_ (wr_regsOnly ..)
    exact rfl

/-- While VALID is 1 a bad access is counted, and what is captured stays. -/
theorem capture_counts (h : s.rd R.ERR_CAPT0_VALID page = 1) :
    (s.capture page path write cause off data be pf).rd R.ERR_CAPT2_COUNT page =
        min (s.rd R.ERR_CAPT2_COUNT page + 1) 0xFFFF ∧
      ∀ f ∈ captureFields.erase R.ERR_CAPT2_COUNT,
        (s.capture page path write cause off data be pf).rd f page = s.rd f page := by
  have hsep : ∀ f ∈ captureFields.erase R.ERR_CAPT2_COUNT, f.si = R.ERR_CAPT2_COUNT.si ∧
      f.addr * 32 + f.lsb ≠ R.ERR_CAPT2_COUNT.addr * 32 + R.ERR_CAPT2_COUNT.lsb := by decide
  rw [capture, if_pos h]
  refine ⟨?_, fun f hf => rd_wr_ne (Field.key_ne (hsep f hf).1 (hsep f hf).2)⟩
  rw [rd_wr_same]
  exact Nat.mod_eq_of_lt (lt_of_le_of_lt (Nat.min_le_right ..) (by decide))

/-- While VALID is not 1 a bad access is captured whole: each field takes its part, cut to its width. -/
theorem capture_loads (h : s.rd R.ERR_CAPT0_VALID page ≠ 1) :
    let t := s.capture page path write cause off data be pf
    t.rd R.ERR_CAPT0_OFFSET page = off % 2 ^ 12 ∧ t.rd R.ERR_CAPT0_PATH page = path % 2 ^ 3 ∧
      t.rd R.ERR_CAPT0_WRITE page = (if write then 1 else 0) % 2 ∧ t.rd R.ERR_CAPT0_CAUSE page = cause % 2 ^ 4 ∧
      t.rd R.ERR_CAPT0_VALID page = 1 ∧ t.rd R.ERR_CAPT1 page = (if write then data else 0) % 2 ^ 32 ∧
      t.rd R.ERR_CAPT2_BE page = be % 2 ^ 4 ∧ t.rd R.ERR_CAPT2_PAGE page = pf % 2 ^ 10 ∧
      t.rd R.ERR_CAPT2_COUNT page = 1 ∧ t.rd R.ERR_CAPT3_NS page = s.tim.ns % 2 ^ 30 := by
  simp only [capture, if_neg h]
  refine ⟨?_, ?_, ?_, ?_, ?_, ?_, ?_, ?_, ?_, ?_⟩ <;>
    (simp (disch := (refine Field.key_ne rfl ?_; decide)) only [rd_wr_ne, rd_wr_same]; rfl)

/-- An access that fails R5, on a page that can take it, is captured as R552 gives. -/
theorem capture_captured {addr : Nat} (hp : path < 8) (hd : data < 2 ^ 32) (hb : be < 16)
    (hc : badAccess addr be = some cause) :
    s.captured (s.capture (addr / 4096) path write cause (addr % 4096) data be 0) path write addr data be := by
  have hcause : cause = causeWidth ∧ be ≠ 0xF ∨ cause = causeAlign ∧ addr % 4 ≠ 0 := by
    unfold badAccess at hc
    split at hc
    · rename_i hbe
      exact .inl ⟨(Option.some.inj hc).symm, hbe⟩
    · split at hc
      · rename_i ha
        exact .inr ⟨(Option.some.inj hc).symm, ha⟩
      · cases hc
  refine ⟨capture_regsOnly, fun d k hk => capture_get hk, fun h => ?_, fun h => ?_⟩
  · exact capture_counts h
  · obtain ⟨hoff, hpath, hwr, hcs, hvalid, hdata, hbe, hpage, hcount, hns⟩ :=
      capture_loads (path := path) (write := write) (cause := cause) (off := addr % 4096) (data := data) (be := be) (pf := 0) h
    have hcause' : cause % 2 ^ 4 = cause := by
      rcases hcause with ⟨rfl, -⟩ | ⟨rfl, -⟩ <;> rfl
    refine ⟨by rw [hoff]; omega, by rw [hpath]; omega, by rw [hwr]; cases write <;> rfl, ?_, hvalid, ?_,
      by rw [hbe]; omega, hpage, hcount, hns⟩
    · rw [hcs, hcause']
      exact hcause
    · rw [hdata]
      cases write
      · rfl
      · exact Nat.mod_eq_of_lt hd

/-! ### The access -/

variable {addr : Nat}

theorem captureBad_listed (hl : pageListed (addr / 4096) = true) (hn : s.noSender path = false) (hh : s.rst.held = false)
    (hd : pageDomain (addr / 4096) = 31 → s.pdLinkUp = true) :
    s.captureBad path write addr data be cause =
      s.capture (addr / 4096) path write cause (addr % 4096) data be 0 := by
  have hdown : ¬ (pageDomain (addr / 4096) = 31 ∧ s.pdLinkUp = false) := fun h => by simp [hd h.1] at h
  simp only [captureBad, hn, hl, hh, if_neg hdown, Bool.not_true, Bool.or_false, Bool.false_and, Bool.false_eq_true, if_false]

theorem badAccess_some (h : be ≠ 0xF ∨ addr % 4 ≠ 0) : ∃ c, badAccess addr be = some c := by
  unfold badAccess
  split
  · exact ⟨_, rfl⟩
  · rename_i hbe
    exact ⟨causeAlign, if_pos (h.resolve_left hbe)⟩

/-- A write that fails R5, on a path that nothing holds, goes to the capture. -/
theorem csrWrite_bad (hc : badAccess addr be = some cause) (hh : s.pathHeld path = false) :
    s.csrWrite path addr data be = (s.tlpIn path).captureBad path true addr data be cause := by
  simp only [csrWrite, hc, hh, Bool.and_false, Bool.false_eq_true, if_false]

/-- A read that fails R5, on a path that nothing holds, goes to the capture and answers all ones. -/
theorem csrRead_bad (hc : badAccess addr be = some cause) (hn : s.noSender path = false) (hh : s.pathHeld path = false) :
    s.csrRead path addr be = ((s.tlpIn path).captureBad path false addr 0 be cause).answer path 0xFFFFFFFF := by
  simp only [csrRead, hc, hn, hh, Bool.false_eq_true, if_false]

end State

end Sys2Proof.Machine
end

section
namespace Sys2Proof.Proofs

open Sys2Proof.Machine Sys2Proof.Machine.State

/-- Settles O8: with the path free and its sender alive the access reaches the capture of its page, which R552 describes; the arrival of a TLP changes none of what leads there. -/
theorem badAccessesAreCaptured : Obligations.BadAccessesAreCaptured := by
  unfold Obligations.BadAccessesAreCaptured
  intro s path addr data be hp ha hd hb hbad hl hn hheld hlink hfree
  obtain ⟨c, hc⟩ := badAccess_some hbad
  have hcapt : ∀ write data, (s.begin.tlpIn path).captureBad path write addr data be c =
      (s.begin.tlpIn path).capture (addr / 4096) path write c (addr % 4096) data be 0 := fun write data =>
    captureBad_listed hl ((tlpIn_noSender ..).trans hn) (by rw [tlpIn_rst]; exact hheld)
      (fun h => (tlpIn_pdLinkUp ..).trans (hlink h))
  constructor
  · refine ⟨_, exec_registerWrite hp ha hd hb, ?_⟩
    rw [csrWrite_bad (s := s.begin) hc hfree, hcapt]
    exact capture_captured hp hd hb hc
  · refine ⟨(s.begin.tlpIn path).captureBad path false addr 0 be c, ?_, ?_⟩
    · rw [exec_latchingRead hp ha hb, csrRead_bad (s := s.begin) hc hn hfree]
    · rw [hcapt]
      exact capture_captured hp (by decide) hb hc

end Sys2Proof.Proofs
end

section
/-! SUPPORT. The writable 64-bit pairs (R8): which they are, and what the writes of their two halves do. -/

namespace Sys2Proof.Machine

/-- The registers beyond the header that the lookup of a byte address finds stand in the page's block. -/
theorem placeAt_block {addr : Nat} {x : Place} (h : placeAt addr = some x) (hoff : 0x40 ≤ addr % 4096) :
    pageListed (addr / 4096) = true ∧
      ∃ b ∈ pageBlocks, b.inst (addr / 4096) = some x.i ∧ x.reg ∈ b.regs ∧ x.reg.nth (addr % 4096) = some x.j := by
  simp only [placeAt, if_neg (show ¬ addr % 4096 < 0x40 by omega)] at h
  split at h
  · cases h
  · rename_i hl
    refine ⟨by simpa using hl, ?_⟩
    obtain ⟨r, hr, hx⟩ := List.exists_of_findSome?_eq_some h
    obtain ⟨j, hj, rfl⟩ := Option.map_eq_some_iff.mp hx
    cases hb : pageBlocks.findSome? (fun b => (b.inst (addr / 4096)).map (fun i => (i, b.regs))) with
    | none => simp [pageRegs, hb] at hr
    | some e =>
      obtain ⟨b, hmem, he⟩ := List.exists_of_findSome?_eq_some hb
      obtain ⟨i, hi, rfl⟩ := Option.map_eq_some_iff.mp he
      simp only [pageRegs, hb, Option.getD_some] at hr ⊢
      exact ⟨b, hmem, hi, hr, hj⟩

/-- The pairs of one RW field, each with the byte address of its _LO half. Each stands once, on a page that stands once. -/
def writablePairs : List (Nat × Reg) := [
  (0x030078, ⟨0x78, 0, 1, none, true, [R.PWR_WAKE_TIME]⟩),
  (0x040050, ⟨0x50, 0, 1, none, true, [R.TIM_SET_SEC]⟩),
  (0x040060, ⟨0x60, 0, 1, none, true, [R.TIM_STEP]⟩),
  (0x32104C, ⟨0x4C, 0, 1, some R.HBR_OWIN_INDEX, true, [R.HBR_OWIN_RBASE]⟩),
  (0x32204C, ⟨0x4C, 0, 1, some R.HBR_IWIN_INDEX, true, [R.HBR_IWIN_HBASE]⟩)]

theorem pageBlocks_writablePairs :
    ∀ b ∈ pageBlocks, ∀ r ∈ b.regs, r.pair = true → r.fields.head?.any (fun f => f.acc == .rw) = true →
      b.step = 0 ∧ r.sj = 0 ∧ (b.first * 4096 + r.off, r) ∈ writablePairs := by
  decide +kernel

theorem PageBlock.inst_single {b : PageBlock} {p i : Nat} (hs : b.step = 0) (h : b.inst p = some i) : p = b.first ∧ i = 0 := by
  rw [PageBlock.inst, if_pos hs] at h
  split at h
  · exact ⟨‹_›, (Option.some.inj h).symm⟩
  · cases h

theorem Reg.nth_single {r : Reg} {off j : Nat} (hs : r.sj = 0) (h : r.nth off = some j) : off = r.off ∧ j = 0 := by
  rw [Reg.nth, if_pos hs] at h
  split at h
  · exact ⟨‹_›, (Option.some.inj h).symm⟩
  · cases h

/-- The lookup finds a writable pair at its own address alone. -/
theorem placeAt_writablePair {addr : Nat} {x : Place} {f : Field} (h : placeAt addr = some x) (hoff : 0x40 ≤ addr % 4096)
    (hp : x.reg.pair = true) (hf : x.reg.fields = [f]) (hrw : f.acc = .rw) :
    (addr, x.reg) ∈ writablePairs ∧ x.i = 0 := by
  obtain ⟨-, b, hb, hi, hr, hj⟩ := placeAt_block h hoff
  obtain ⟨hstep, hsj, hmem⟩ := pageBlocks_writablePairs b hb x.reg hr hp (by simp [hf, hrw])
  obtain ⟨hpage, hi0⟩ := PageBlock.inst_single hstep hi
  obtain ⟨hoff', -⟩ := Reg.nth_single hsj hj
  have haddr : addr = b.first * 4096 + x.reg.off := by omega
  exact ⟨haddr ▸ hmem, hi0⟩

namespace State

variable {s : State} {path addr data : Nat} {x : Place} {f : Field}

/-! ### The two halves -/

theorem writeAct_pairLo (hx : placeAt addr = some x) (hp : x.reg.pair = true) (hoff : 0x40 ≤ addr % 4096) :
    s.writeAct path addr data = s.stageLo path addr (some (data % 2 ^ 32)) := by
  unfold writeAct
  rw [if_neg (by omega), hx]
  simp only [hp, if_true]

theorem writeAct_pairHi (hx : placeAt addr = none) (hp : pairAt addr = some x) (hoff : 0x40 ≤ addr % 4096) :
    s.writeAct path addr data = s.applyPair path x (addr - 4) data := by
  unfold writeAct
  rw [if_neg (by omega), hx, hp]

@[simp] theorem stagedLo_stageLo (s : State) (path addr : Nat) (v : Option Nat) :
    (s.stageLo path addr v).stagedLo path addr = v := by
  simp [stagedLo, stageLo]

/-- The value that a pair stores of one written: an outbound window's base has no low 12 bits. -/
def pairStored (x : Place) (v : Nat) : Nat := if x.base = 0x32104C then v / 4096 * 4096 else v

/-- The write to _HI applies the half that the path has staged with its own. -/
theorem applyPair_staged {lo hi : Nat} (hj : x.base ≠ 0x058068) (ht : s.takesWrite x = true) (hf : x.reg.fields = [f])
    (hrw : f.acc = .rw) (hlo : s.stagedLo path addr = some lo) (hhi : hi < 2 ^ 32) :
    s.applyPair path x addr hi =
      (s.put f (pairStored x (lo + hi * 2 ^ 32)) x.i (s.placeJ x)).stageLo path addr none := by
  simp only [applyPair, if_neg hj, ht, hf, hrw, hlo, Nat.mod_eq_of_lt hhi, pairStored, Bool.not_true, Bool.false_eq_true,
    if_false, if_true, Option.getD_some]

/-- A value within a field's limits and width is stored as it is. -/
theorem rd_put_within {v i j : Nat} (hl : f.lo ≤ v) (hh : v ≤ f.hi) (hw : v < 2 ^ f.width) :
    (s.put f v i j).rd f i j = v := by
  have hclamp : f.clamp v = v := by
    rw [Field.clamp, Nat.mod_eq_of_lt hw]
    omega
  rw [put, rd_wr_same, hclamp, Nat.mod_eq_of_lt hw]

/-! ### What the arrival of a TLP leaves of a writable pair -/

theorem writablePairs_page : ∀ e ∈ writablePairs, e.1 / 4096 ≠ 0x014 := by decide

theorem writablePairs_bank : ∀ e ∈ writablePairs, ∀ g ∈ e.2.bank, keyPage (g.key 0 0) ≠ 0x014 := by decide

/-- The bank of a writable pair, and whether it takes a write, lie on pages that the arrival leaves. -/
theorem tlpIn_placeJ (hm : (addr, x.reg) ∈ writablePairs) (hi : x.i = 0) (s : State) (q : Nat) :
    (s.tlpIn q).placeJ x = s.placeJ x := by
  cases hb : x.reg.bank with
  | none => simp only [placeJ, hb]
  | some g =>
    simp only [placeJ, hb, hi]
    exact tlpIn_rd s q (writablePairs_bank _ hm g hb)

theorem winState_keyPage (j : Nat) :
    keyPage (R.HBR_OWIN_STAT_STATE.key 0 j) ≠ 0x014 ∧ keyPage (R.HBR_IWIN_STAT_STATE.key 0 j) ≠ 0x014 := by
  simp only [keyPage, keyAddr, Field.key, R.HBR_OWIN_STAT_STATE, R.HBR_IWIN_STAT_STATE]
  omega

/-- Of the writable pairs the windows' bases alone have a condition on being written: that the window is disabled. -/
theorem takesWrite_writablePair (hm : (addr, x.reg) ∈ writablePairs) (s : State) :
    s.takesWrite x =
      if x.base = 0x32104C then s.owin R.HBR_OWIN_STAT_STATE (s.placeJ x) == winDisabled
      else if x.base = 0x32204C then s.iwin R.HBR_IWIN_STAT_STATE (s.placeJ x) == winDisabled
      else true := by
  have hbase : x.base ∈ [0x030078, 0x040050, 0x040060, 0x32104C, 0x32204C] := by
    have h : ∀ e ∈ writablePairs, (e.2.fields.head?.map (fun f => f.addr)).getD 0 ∈
        [0x030078, 0x040050, 0x040060, 0x32104C, 0x32204C] := by decide
    exact h _ hm
  simp only [List.mem_cons, List.not_mem_nil, or_false] at hbase
  rcases hbase with h | h | h | h | h <;> simp [takesWrite, h]

theorem tlpIn_takesWrite (hm : (addr, x.reg) ∈ writablePairs) (hi : x.i = 0) (s : State) (q : Nat) :
    (s.tlpIn q).takesWrite x = s.takesWrite x := by
  obtain ⟨ho, hn⟩ := winState_keyPage (s.placeJ x)
  rw [takesWrite_writablePair hm, takesWrite_writablePair hm]
  simp only [tlpIn_placeJ hm hi, owin, iwin, tlpIn_rd s q ho, tlpIn_rd s q hn]

/-- The stored value of a pair stays within the field's limits: those of the outbound windows' base start at 0. -/
theorem pairStored_within {v : Nat} (hm : (addr, x.reg) ∈ writablePairs) (hf : x.reg.fields = [f]) (hl : f.lo ≤ v)
    (hh : v ≤ f.hi) : f.lo ≤ pairStored x v ∧ pairStored x v ≤ f.hi ∧ pairStored x v ≤ v := by
  have hlo : f.lo = 0 := by
    have h : ∀ e ∈ writablePairs, ∀ f ∈ e.2.fields, f.lo = 0 := by decide
    exact h _ hm f (by simp [hf])
  unfold pairStored
  split <;> omega

end State

end Sys2Proof.Machine
end

section
namespace Sys2Proof.Proofs

open Sys2Proof.Machine Sys2Proof.Machine.State

/-- Settles O12: the write to _LO stages its half under the path, and nothing between it and the write to _HI, the arrival of that write included, changes what decides it: the gate, the bank and whether the register takes writes. -/
theorem pairWritesApplyTogether : Obligations.PairWritesApplyTogether := by
  unfold Obligations.PairWritesApplyTogether
  intro s path addr lo hi x f ha h4 hlo hhi hx hp hf hrw hoff hx' hp' hpage hj ht hmin hmax hw hl hl'
  obtain ⟨hm, hi0⟩ := placeAt_writablePair hx hoff hp hf hrw
  obtain ⟨hlist, -⟩ := placeAt_block hx hoff
  have hne : (addr + 4) / 4096 ≠ 0x014 := hpage ▸ writablePairs_page _ hm
  set t := (s.begin.tlpIn path).stageLo path addr (some lo)
  have hgo : t.letsWrite path (addr + 4) := ⟨hl.1, (tlpIn_verdict s.begin path (by omega) hne).trans hl'.2⟩
  have hplace : (t.begin.tlpIn path).placeJ x = s.placeJ x :=
    (tlpIn_placeJ hm hi0 t.begin path).trans (tlpIn_placeJ hm hi0 s.begin path)
  have htakes : (t.begin.tlpIn path).takesWrite x = true :=
    (tlpIn_takesWrite hm hi0 t.begin path).trans ((tlpIn_takesWrite hm hi0 s.begin path).trans ht)
  have hstaged : (t.begin.tlpIn path).stagedLo path addr = some lo := by
    rw [stagedLo, tlpIn_csr]
    exact stagedLo_stageLo ..
  obtain ⟨hsmin, hsmax, hsle⟩ := pairStored_within (v := lo + hi * 2 ^ 32) hm hf hmin hmax
  have hwriteLo : exec (.registerWrite path addr lo 0xF) s = .next t := by
    rw [exec_registerWrite hl.1 ha hlo (by decide), csrWrite_go h4 hlist hl, writeAct_pairLo hx hp hoff,
      Nat.mod_eq_of_lt hlo]
  have hwriteHi : exec (.hiWriteApply path (addr + 4) hi) t =
      .next (((t.begin.tlpIn path).put f (pairStored x (lo + hi * 2 ^ 32)) x.i (s.placeJ x)).stageLo path addr none) := by
    rw [exec_hiWriteApply hl.1 (by omega) (by omega) hhi (by simp [hp']), csrWrite_go (by omega) (hpage ▸ hlist) hgo,
      writeAct_pairHi hx' hp' (by omega), Nat.add_sub_cancel, applyPair_staged hj htakes hf hrw hstaged hhi, hplace]
  exact ⟨t, _, hwriteLo, rfl, hwriteHi, rfl, rd_put_within hsmin hsmax (by omega), fun d k hk => get_wr_ne hk⟩

end Sys2Proof.Proofs
end

section
/-! SUPPORT. Page soft reset (R550): what taking registers back to their reset values leaves and sets, and what the header's part leaves. -/

namespace Sys2Proof.Machine.State

variable {s : State} {f : Field} {i j page : Nat} {p : Nat → Bool}

theorem rd_eraseKeys_erased (h : p (f.key i j) = true) : (s.eraseKeys p).rd f i j = f.resetAt i j := by
  refine Tab.get_of_forall_ne fun e he hk => ?_
  have hkept := (List.mem_filter.mp he).2
  rw [← hk, h] at hkept
  cases hkept

theorem rd_eraseKeys_kept (h : p (f.key i j) = false) : (s.eraseKeys p).rd f i j = s.rd f i j :=
  Tab.get_filter (by simp [h])

/-- The header's part of a page soft reset reaches no register beyond the page headers. -/
theorem softResetHeader_rd (h : 0x40 ≤ keyAddr (f.key i j) % 4096) : (s.softResetHeader page).rd f i j = s.rd f i j := by
  refine rd_eraseKeys_kept (p := fun k => keyPage k == page && (keyAddr k % 4096 == 0x010 ||
    (decide (0x020 ≤ keyAddr k % 4096) && decide (keyAddr k % 4096 ≤ 0x02C)))) ?_
  have h10 : (keyAddr (f.key i j) % 4096 == 0x010) = false := beq_false_of_ne (by omega)
  have h2C : decide (keyAddr (f.key i j) % 4096 ≤ 0x02C) = false := decide_eq_false (by omega)
  rw [h10, h2C, Bool.and_false, Bool.or_false, Bool.and_false]

theorem srst_key_offset (page : Nat) : keyAddr (R.PAGE_CTL_SRST.key page 0) % 4096 = 8 := by
  simp only [keyAddr, Field.key, R.PAGE_CTL_SRST]
  omega

/-- A page soft reset leaves a register beyond the page headers as its chapter's part left it. -/
theorem softReset_rd (h : 0x40 ≤ keyAddr (f.key i j) % 4096) :
    (s.softReset page).rd f i j =
      ((if keepsCounters page then s else s.eraseKeys (fun k => keyPage k == page && keyCounter k)).softResetExtra page).rd
        f i j := by
  have hkey : f.key i j ≠ R.PAGE_CTL_SRST.key page 0 := fun e => by
    rw [e, srst_key_offset] at h
    omega
  rw [softReset, rd_wr_ne hkey, softResetHeader_rd h]

/-- The soft reset acts once the page has no command in progress. -/
theorem exec_softResetAct (hl : pageListed page = true) (hs : s.csr.softReset.contains page = true) (hb : s.pageBusy page = false)
    (hd : (if pageDomain page = 31 then s.fus.alive else s.domainRuns (pageDomain page)) = true) :
    exec (.softResetAct page) s = .next (s.begin.softReset page) := by
  have hgo : (s.begin.csr.softReset.contains page && !s.begin.pageBusy page &&
      (if pageDomain page = 31 then s.begin.fus.alive else s.begin.domainRuns (pageDomain page))) = true := by
    change (s.csr.softReset.contains page && !s.pageBusy page &&
      (if pageDomain page = 31 then s.fus.alive else s.domainRuns (pageDomain page))) = true
    rw [hs, hb, hd]
    rfl
  change execSoftResetAct page s = _
  rw [execSoftResetAct, guarded, if_pos hl]
  exact congrArg _ (if_pos hgo)

/-- The chapter's part of the tunnel map page: the edit set is discarded. -/
theorem softResetExtra_tmap (s : State) : s.softResetExtra 0x280 = s.updTun (fun t => { t with edit := [] }) := rfl

/-- The counters of the tunnel map page (Table 1.13). -/
def tmapCounters : List Field :=
  [R.TMAP_COMMIT_CNT, R.TMAP_MISS_CNT, R.TMAP_DUP_CNT, R.TMAP_STALE_CNT, R.TMAP_FENCE_TMO_CNT, R.TMAP_ECC_CNT_CORR,
    R.TMAP_ECC_CNT_UNCORR, R.TMAP_CAPWARN_CNT, R.TMAP_OVERSIZE_CNT]

theorem tmapCounters_keys : ∀ f ∈ tmapCounters,
    keyPage (f.key 0 0) = 0x280 ∧ keyCounter (f.key 0 0) = true ∧ 0x40 ≤ keyAddr (f.key 0 0) % 4096 ∧ f.resetAt 0 0 = 0 := by
  decide +kernel

/-- The soft reset of the tunnel map page clears each of its counters. -/
theorem softReset_tmapCounters (hf : f ∈ tmapCounters) : (s.softReset 0x280).rd f = 0 := by
  obtain ⟨hpage, hctr, hoff, hreset⟩ := tmapCounters_keys f hf
  calc (s.softReset 0x280).rd f
      = (s.eraseKeys (fun k => keyPage k == 0x280 && keyCounter k)).rd f := softReset_rd hoff
    _ = f.resetAt 0 0 := rd_eraseKeys_erased (by rw [hpage, hctr]; rfl)
    _ = 0 := hreset

end Sys2Proof.Machine.State
end

section
namespace Sys2Proof.Proofs

open Sys2Proof.Machine Sys2Proof.Machine.State

/-- Settles O15: of the soft reset's parts the chapter's alone leaves the register fabric, and it discards the edit set. -/
theorem tunnelMapSoftReset : Obligations.TunnelMapSoftReset := by
  unfold Obligations.TunnelMapSoftReset
  intro s hs hb hd
  exact ⟨_, exec_softResetAct (by decide) hs hb hd, rfl, fun f hf => softReset_tmapCounters hf, rfl, rfl, rfl, rfl⟩

end Sys2Proof.Proofs
end

section
/-! SUPPORT. The tunnel map's commands (R45, R56): what a write of TMAP_CMD does while one is in progress and while none is, and what a refused commit shows. -/

namespace Sys2Proof.Machine.State

variable {s : State} {path op : Nat} {act : State → State}

/-- A command of page 0x280 that the hub lets through acts while none is in progress, and shows BUSY alone otherwise (R56). -/
theorem tmapCmd_letsWrite (h : s.letsWrite path tmapCmdAddr) :
    guarded (decide (path < 8)) (s.begin.tmapCmd path op act) =
      .next (if s.rd R.TMAP_STAT_BUSY = 1 then (s.begin.tlpIn path).tmapResult resBusy else act (s.begin.tlpIn path)) := by
  have hbusy : (s.begin.tlpIn path).rd R.TMAP_STAT_BUSY = s.rd R.TMAP_STAT_BUSY := tlpIn_rd s.begin path (by decide)
  rw [guarded, if_pos (decide_eq_true h.1), tmapCmd, letsWrite_act h, hbusy]

theorem tmapCmd_busy (h : s.letsWrite path tmapCmdAddr) (hb : s.rd R.TMAP_STAT_BUSY = 1) :
    guarded (decide (path < 8)) (s.begin.tmapCmd path op act) =
      .next ((s.begin.tlpIn path).wr R.TMAP_STAT_LAST_RESULT 0xC) := by
  rw [tmapCmd_letsWrite h, if_pos hb, tmapResult, resBusy]

theorem tmapCmd_idle (h : s.letsWrite path tmapCmdAddr) (hb : s.rd R.TMAP_STAT_BUSY = 0) :
    guarded (decide (path < 8)) (s.begin.tmapCmd path op act) = .next (act (s.begin.tlpIn path)) := by
  rw [tmapCmd_letsWrite h, if_neg (by omega)]

/-! ### The edit set (R45) -/

theorem tmapOther_of_empty (h : s.tun.edit = []) : s.tmapOther path = false := by simp [tmapOther, h]

theorem tmapOther_of_owned (h : s.tun.edit ≠ []) (hp : s.tun.editPath ≠ path) : s.tmapOther path = true := by
  simp [tmapOther, h, hp]

/-- The entry that TMAP_DATA holds is not changed by the arrival of a TLP. -/
theorem tlpIn_tmapDataEntry (s : State) (path : Nat) : (s.tlpIn path).tmapDataEntry = s.tmapDataEntry := by
  simp (disch := decide) only [tmapDataEntry, tlpIn_rd]

@[simp] theorem tmapNext_tun (s : State) : s.tmapNext.tun = s.tun := by
  unfold tmapNext
  split <;> rfl

/-- TMAP_INDEX alone goes on. -/
theorem tmapNext_rd {f : Field} {i j : Nat} (h : f.key i j ≠ R.TMAP_INDEX_INDEX.key 0 0) :
    s.tmapNext.rd f i j = s.rd f i j := by
  unfold tmapNext
  split
  · exact rd_wr_ne h
  · rfl

/-- The first STAGE opens the edit set with the entry of TMAP_DATA at TMAP_INDEX, and gives it to its path. -/
theorem tmapStage_first (h : s.tun.edit = []) :
    s.tmapStage path = ((s.updTun (fun t => { t with
      edit := [(s.rd R.TMAP_INDEX_INDEX, s.tmapDataEntry)], editPath := path })).tmapResult resOk).tmapNext := by
  simp [tmapStage, tmapOther_of_empty h, h, Tab.put, updTun]

theorem tmapStage_other (h : s.tmapOther path = true) : s.tmapStage path = s.tmapResult resOtherPath := if_pos h

theorem tmapDiscard_other (h : s.tmapOther path = true) : s.tmapDiscard path = s.tmapResult resOtherPath := if_pos h

theorem tmapCommit_other (h : s.tmapOther path = true) : s.tmapCommit path = s.tmapRefuse resOtherPath := if_pos h

/-- Without an edit set DISCARD changes nothing but its result. -/
theorem tmapDiscard_empty (h : s.tun.edit = []) : s.tmapDiscard path = s.tmapResult resOk := by
  have hsame : s.updTun (fun t => { t with edit := [] }) = s := by rw [updTun, ← h]
  rw [tmapDiscard, tmapOther_of_empty h, hsame]
  rfl

theorem tmapCommit_empty (h : s.tun.edit = []) : s.tmapCommit path = s.tmapRefuse resNothingStaged := by
  simp [tmapCommit, tmapOther_of_empty h, h]

/-- A refused commit shows its result, and leaves the map, the edit set and BUSY. -/
theorem tmapRefuse_shows {r : Nat} (hr : r < 16) :
    (s.tmapRefuse r).rd R.TMAP_STAT_LAST_RESULT = r ∧ (s.tmapRefuse r).tun = s.tun ∧
      (s.tmapRefuse r).rd R.TMAP_STAT_BUSY = s.rd R.TMAP_STAT_BUSY := by
  refine ⟨?_, sharedOnly.tun ((wr_shared ..).trans (irq_shared ..)), ?_⟩
  · rw [tmapRefuse, irq_rd (by decide) (by decide), tmapResult, rd_wr_same]
    exact Nat.mod_eq_of_lt hr
  · rw [tmapRefuse, irq_rd (by decide) (by decide), tmapResult, rd_wr_ne (by decide)]

end Sys2Proof.Machine.State
end

section
namespace Sys2Proof.Proofs

open Sys2Proof.Machine Sys2Proof.Machine.State

/-- Settles O17: the six commands differ in the action that they pass behind the test of BUSY, and that test comes first (R56). That a COMMIT so ignored raises no COMMIT_REFUSED is the model's choice (log 114). -/
theorem busyTunnelMapIgnoresCommands : Obligations.BusyTunnelMapIgnoresCommands := by
  unfold Obligations.BusyTunnelMapIgnoresCommands
  intro s path c hgo hbusy hc
  simp only [List.mem_cons, List.not_mem_nil, or_false] at hc
  rcases hc with rfl | rfl | rfl | rfl | rfl | rfl <;> exact tmapCmd_busy hgo hbusy

/-- Settles O16: the arrival of the access leaves the edit set, so the owner's test of each command reads that of `s`. -/
theorem editSetBelongsToItsPath : Obligations.EditSetBelongsToItsPath := by
  unfold Obligations.EditSetBelongsToItsPath
  intro s path hgo hidle
  have htun : (s.begin.tlpIn path).tun = s.tun := tlpIn_tun ..
  have hindex : (s.begin.tlpIn path).rd R.TMAP_INDEX_INDEX = s.rd R.TMAP_INDEX_INDEX := tlpIn_rd s.begin path (by decide)
  have hdata : (s.begin.tlpIn path).tmapDataEntry = s.tmapDataEntry := tlpIn_tmapDataEntry s.begin path
  have hbusy : (s.begin.tlpIn path).rd R.TMAP_STAT_BUSY = 0 := (tlpIn_rd s.begin path (by decide)).trans hidle
  have hstage : exec (.tmapStage path) s = .next ((s.begin.tlpIn path).tmapStage path) := tmapCmd_idle hgo hidle
  have hdiscard : exec (.tmapDiscard path) s = .next ((s.begin.tlpIn path).tmapDiscard path) := tmapCmd_idle hgo hidle
  have hcommit : exec (.tmapCommit path) s = .next ((s.begin.tlpIn path).tmapCommit path) := tmapCmd_idle hgo hidle
  have hrefused : ∀ r < 16, ((s.begin.tlpIn path).tmapRefuse r).rd R.TMAP_STAT_LAST_RESULT = r ∧
      ((s.begin.tlpIn path).tmapRefuse r).tun = s.tun ∧ ((s.begin.tlpIn path).tmapRefuse r).rd R.TMAP_STAT_BUSY = 0 :=
    fun r hr => htun ▸ hbusy ▸ tmapRefuse_shows hr
  constructor
  · intro hedit
    have hempty : (s.begin.tlpIn path).tun.edit = [] := by rw [htun, hedit]
    refine ⟨⟨_, hstage, ?_⟩, ?_, _, hcommit, ?_⟩
    · rw [tmapStage_first hempty, tmapNext_tun, tmapNext_rd (by decide), hindex, hdata]
      exact ⟨rfl, rfl, rd_wr_same ..⟩
    · rw [hdiscard, tmapDiscard_empty hempty, tmapResult, resOk]
    · rw [tmapCommit_empty hempty]
      exact hrefused _ (by decide)
  · intro hedit hpath
    have hother : (s.begin.tlpIn path).tmapOther path = true := tmapOther_of_owned (htun ▸ hedit) (htun ▸ hpath)
    refine ⟨?_, ?_, _, hcommit, ?_⟩
    · rw [hstage, tmapStage_other hother, tmapResult, resOtherPath]
    · rw [hdiscard, tmapDiscard_other hother, tmapResult, resOtherPath]
    · rw [tmapCommit_other hother]
      exact hrefused _ (by decide)

end Sys2Proof.Proofs
end

section
/-! SUPPORT. The lookup of a unit's tunnel (R41, R42): what reading the map answers and what it may touch on the way, and what a lookup miss shows. -/

namespace Sys2Proof.Machine.State

/-- `t` differs from `s` at most in the parts that a lookup may touch: the tunnel state, free values, and what the counting of events touches. -/
def lookupOnly (s t : State) : Prop :=
  t = { s with regs := t.regs, out := t.out, brg := t.brg, tun := t.tun, free := t.free }

/-- `t` is `s` with the map read: of the tunnel state the unit numbers stand, and so do the miss counter and whether it counts. -/
structure lookedUp (s t : State) : Prop where
  frame : s.lookupOnly t
  useq : t.tun.useq = s.tun.useq
  missCount : t.rd R.TMAP_MISS_CNT = s.rd R.TMAP_MISS_CNT
  counting : t.counting 0x280 = s.counting 0x280

variable {s t u : State} {p i tid : Nat} {e : Entry}

theorem lookupOnly.trans (h : s.lookupOnly t) (h' : t.lookupOnly u) : s.lookupOnly u := by
  unfold lookupOnly at *
  rw [h] at h'
  exact h'

theorem signalsOnly.lookupOnly (h : s.signalsOnly t) : s.lookupOnly t := by
  unfold State.lookupOnly
  rw [h]

namespace lookedUp

theorem refl (s : State) : s.lookedUp s := ⟨rfl, rfl, rfl, rfl⟩

theorem trans (h : s.lookedUp t) (h' : t.lookedUp u) : s.lookedUp u :=
  ⟨h.frame.trans h'.frame, h'.useq.trans h.useq, h'.missCount.trans h.missCount, h'.counting.trans h.counting⟩

end lookedUp

/-- An event's signals are among what a lookup may touch, where they leave the miss counter and PAGE_CTL.EN. -/
theorem signalsOnly.lookedUp (h : s.signalsOnly t) (hm : t.rd R.TMAP_MISS_CNT = s.rd R.TMAP_MISS_CNT)
    (he : t.rd R.PAGE_CTL_EN 0x280 = s.rd R.PAGE_CTL_EN 0x280) : s.lookedUp t :=
  ⟨h.lookupOnly, by rw [h], hm, by rw [counting, he, counting]⟩

theorem tally_lookedUp (s : State) (ev n : Nat) : s.lookedUp (s.tally ev n) :=
  (tally_signals s ev n).lookedUp (tally_get (by decide)) (tally_get (by decide))

theorem irq_lookedUp {b : Nat} (hb : b < 32) (s : State) : s.lookedUp (s.irq 0x280 b) := by
  have hmiss : R.TMAP_MISS_CNT.key 0 0 ≠ (irqField b).key 0x280 0 := by
    simp only [Field.key, irqField, R.TMAP_MISS_CNT]
    omega
  have hen : R.PAGE_CTL_EN.key 0x280 0 ≠ (irqField b).key 0x280 0 := by
    simp only [Field.key, irqField, R.PAGE_CTL_EN]
    omega
  exact (irq_signals s 0x280 b).lookedUp (irq_rd (by decide) hmiss) (irq_rd (by decide) hen)

theorem bump_lookedUp {f : Field} (s : State) (hm : R.TMAP_MISS_CNT.key 0 0 ≠ f.key 0 0)
    (he : R.PAGE_CTL_EN.key 0x280 0 ≠ f.key 0 0) : s.lookedUp (s.bump f) := by
  have hsig : s.signalsOnly (s.bump f) := .ite (wr_signals ..) (.refl s)
  exact hsig.lookedUp (bump_get hm) (bump_get he)

/-- A change of the tunnel state that keeps the unit numbers. -/
theorem updTun_lookedUp {g : TunState → TunState} (s : State) (h : (g s.tun).useq = s.tun.useq) : s.lookedUp (s.updTun g) :=
  ⟨rfl, h, rfl, rfl⟩

theorem mapPut_lookedUp (s : State) (p i : Nat) (e : Entry) : s.lookedUp (s.mapPut p i e) := updTun_lookedUp s rfl

theorem tookFree_lookedUp (s : State) : s.lookedUp s.tookFree := ⟨rfl, rfl, rfl, rfl⟩

theorem begin_lookedUp (s : State) : s.lookedUp s.begin := ⟨rfl, rfl, rfl, rfl⟩

/-! ### Reading the map (R41) -/

/-- One copy answers its entry, unless that is uncorrectable. -/
theorem readCopy_entry (s : State) (p i : Nat) :
    (s.readCopy p i).2 = if s.eccAt p i = .bad then none else some (s.mapAt p i) := by
  unfold readCopy
  cases s.eccAt p i <;> rfl

/-- Only the mending of a single-bit error touches the tunnel state. -/
theorem readCopy_tun_of_bad (h : s.eccAt p i = .bad) : (s.readCopy p i).1.tun = s.tun := by
  simp only [readCopy, h]
  exact sharedOnly.tun (((bump_shared ..).trans (tally_shared ..)).trans (irq_shared ..))

theorem readCopy_lookedUp (s : State) (p i : Nat) : s.lookedUp (s.readCopy p i).1 := by
  unfold readCopy
  cases s.eccAt p i with
  | good => exact .refl s
  | single =>
    exact ((mapPut_lookedUp s ..).trans (bump_lookedUp _ (by decide) (by decide))).trans (tally_lookedUp ..)
  | bad => exact ((bump_lookedUp s (by decide) (by decide)).trans (tally_lookedUp ..)).trans (irq_lookedUp (by decide) _)

theorem readMap_of_good (h : s.eccAt s.authPlane i ≠ .bad) :
    s.readMap i = ((s.readCopy s.authPlane i).1, some (s.mapAt s.authPlane i)) := by
  have hentry := readCopy_entry s s.authPlane i
  rw [if_neg h] at hentry
  rcases hc : s.readCopy s.authPlane i with ⟨t, x⟩
  obtain rfl : x = _ := hc ▸ hentry
  simp only [readMap, hc]

/-- With the authority plane's copy uncorrectable the other plane's is read, and mends it when it answers. -/
theorem readMap_of_bad (h : s.eccAt s.authPlane i = .bad) (ht : t = (s.readCopy s.authPlane i).1)
    (hu : u = (t.readCopy (1 - s.authPlane) i).1) :
    s.readMap i =
      if s.eccAt (1 - s.authPlane) i = .bad then (u, none)
      else (u.mapPut s.authPlane i (s.mapAt (1 - s.authPlane) i), some (s.mapAt (1 - s.authPlane) i)) := by
  have htun : t.tun = s.tun := ht ▸ readCopy_tun_of_bad h
  have hfirst : s.readCopy s.authPlane i = (t, none) := by rw [ht, ← (readCopy_entry s _ i).trans (if_pos h)]
  have hsecond : t.readCopy (1 - s.authPlane) i =
      (u, if s.eccAt (1 - s.authPlane) i = .bad then none else some (s.mapAt (1 - s.authPlane) i)) := by
    rw [hu, eccAt, mapAt, ← htun, ← eccAt, ← mapAt, ← readCopy_entry]
  simp only [readMap, hfirst, hsecond]
  split_ifs <;> rfl

/-- The lookup answers the good copy of R41. -/
theorem readMap_entry (s : State) (i : Nat) : (s.readMap i).2 = s.goodCopy i := by
  unfold goodCopy
  by_cases ha : s.eccAt s.authPlane i = .bad
  · rw [readMap_of_bad ha rfl rfl, if_neg (not_not_intro ha)]
    by_cases hb : s.eccAt (1 - s.authPlane) i = .bad
    · rw [if_pos hb, if_neg (not_not_intro hb)]
    · rw [if_neg hb, if_pos hb]
  · rw [readMap_of_good ha, if_pos ha]

theorem readMap_lookedUp (s : State) (i : Nat) : s.lookedUp (s.readMap i).1 := by
  by_cases ha : s.eccAt s.authPlane i = .bad
  · have hcopies := (readCopy_lookedUp s s.authPlane i).trans (readCopy_lookedUp _ (1 - s.authPlane) i)
    rw [readMap_of_bad ha rfl rfl]
    split
    · exact hcopies
    · exact hcopies.trans (mapPut_lookedUp ..)
  · rw [readMap_of_good ha]
    exact readCopy_lookedUp ..

/-! ### The miss (R13, R42) -/

/-- The lookup of a tunnel misses: it is tunnel 0, or its entry is uncorrectable in both copies or not VALID. -/
def missesLookup (s : State) (tid : Nat) : Prop :=
  tid = 0 ∨ s.goodCopy tid = none ∨ ∃ e, s.goodCopy tid = some e ∧ e.valid = false

/-- The state whose map a lookup reads: the lookup itself has been counted. -/
def lookupCounted (s : State) : State := (s.tally 0x120).updTun (fun t => { t with lookups := t.lookups + 1 })

theorem lookupCounted_lookedUp (s : State) : s.lookedUp s.lookupCounted :=
  (tally_lookedUp s 0x120 1).trans (updTun_lookedUp _ rfl)

/-- Counting a lookup leaves the entries that it reads. -/
theorem lookupCounted_goodCopy (s : State) (tid : Nat) : s.lookupCounted.goodCopy tid = s.goodCopy tid := by
  have hvalid : s.lookupCounted.rd R.RGM_STAT_AUTH_VALID = s.rd R.RGM_STAT_AUTH_VALID := tally_get (by decide)
  have hauth : s.lookupCounted.rd R.RGM_STAT_AUTH = s.rd R.RGM_STAT_AUTH := tally_get (by decide)
  have hplane : s.lookupCounted.authPlane = s.authPlane := by rw [authPlane, hvalid, hauth, authPlane]
  have hecc : ∀ p, s.lookupCounted.eccAt p tid = s.eccAt p tid := fun p => by
    rw [eccAt, lookupCounted, updTun_tun, tally_tun, eccAt]
  have hmap : ∀ p, s.lookupCounted.mapAt p tid = s.mapAt p tid := fun p => by
    rw [mapAt, lookupCounted, updTun_tun, tally_tun, mapAt]
  rw [goodCopy, hplane, hecc, hecc, hmap, hmap, goodCopy]

/-- A lookup that misses answers no entry, and does to the state that it has read what R42 gives. -/
theorem lookup_of_missesLookup (h : s.missesLookup tid) :
    ∃ u, s.lookedUp u ∧ s.lookup tid = (u.lookupMiss tid, none) := by
  by_cases h0 : tid = 0
  · exact ⟨s, .refl s, if_pos h0⟩
  have hentry := (readMap_entry s.lookupCounted tid).trans (lookupCounted_goodCopy s tid)
  refine ⟨_, (lookupCounted_lookedUp s).trans (readMap_lookedUp s.lookupCounted tid), ?_⟩
  rw [lookup, if_neg h0, ← lookupCounted]
  rcases hr : s.lookupCounted.readMap tid with ⟨u, x⟩
  rw [hr] at hentry
  rcases h.resolve_left h0 with hnone | ⟨e, hsome, hvalid⟩
  · obtain rfl : x = none := hentry.trans hnone
    rfl
  · obtain rfl : x = some e := hentry.trans hsome
    simp only [hvalid, Bool.false_eq_true, if_false]

/-- A lookup miss is counted, named and flagged (R42, R549). -/
theorem lookupMiss_shows (s : State) (tid : Nat) :
    (s.lookupMiss tid).rd R.TMAP_MISS_CNT = (if s.counting 0x280 then min (s.rd R.TMAP_MISS_CNT + 1)
        (2 ^ R.TMAP_MISS_CNT.width - 1) else s.rd R.TMAP_MISS_CNT) ∧
      (s.lookupMiss tid).rd R.TMAP_MISS_ID = tid % 2 ^ R.TMAP_MISS_ID.width ∧ (s.lookupMiss tid).irqBit 0x280 2 = true := by
  refine ⟨?_, ?_, irq_sets (by decide)⟩
  · calc (s.lookupMiss tid).rd R.TMAP_MISS_CNT
        = (((s.bump R.TMAP_MISS_CNT).tally 0x121).wr R.TMAP_MISS_ID tid).rd R.TMAP_MISS_CNT := irq_rd (by decide) (by decide)
      _ = ((s.bump R.TMAP_MISS_CNT).tally 0x121).rd R.TMAP_MISS_CNT := rd_wr_ne (by decide)
      _ = (s.bump R.TMAP_MISS_CNT).rd R.TMAP_MISS_CNT := tally_get (by decide)
      _ = _ := bump_rd
  · rw [lookupMiss, irq_rd (by decide) (by decide), rd_wr_same]

/-- A lookup miss touches what any event may. -/
theorem lookupMiss_signals (s : State) (tid : Nat) : s.signalsOnly (s.lookupMiss tid) := by
  have hbump : s.signalsOnly (s.bump R.TMAP_MISS_CNT) := .ite (wr_signals ..) (.refl s)
  exact ((hbump.trans (tally_signals ..)).trans (wr_signals ..)).trans (irq_signals ..)

/-- A unit within R29 and R30 whose lookup misses goes no further than that lookup, at a trunk as at an adapter. -/
theorem exec_unitIngress_of_miss {sp : Nat} {m : UnitMsg} (hsp : sp < 24) (hd : s.domainRuns 1 = true)
    (hlen : m.payload.length ≤ 16384) (hkind : kindReserved m.kind = false)
    (hl : s.begin.tookFree.lookup m.tid = (u, none)) : exec (.unitIngress sp m []) s = .next u := by
  have hlen' : ¬ 16384 < m.payload.length := by omega
  have hunit : (if sp < 16 then s.begin.trunkUnit sp m
      else s.begin.tookFree.originUnitAt sp m.tid m.kind m.payload (s.begin.originTsw sp)) = u := by
    split
    · simp only [trunkUnit, if_neg hlen', hkind, hl, Bool.false_eq_true, if_false]
    · simp only [originUnitAt, if_neg hlen', hkind, hl, Bool.false_eq_true, if_false]
  change execUnitIngress sp m [] s = _
  simp only [execUnitIngress, guardedIn, guarded, inDomain, decide_eq_true hsp, hd, if_true, List.foldl_nil, hunit]

end Sys2Proof.Machine.State
end

section
namespace Sys2Proof.Proofs

open Sys2Proof.Machine Sys2Proof.Machine.State

/-- Settles O18: what precedes the miss (a corrected or a damaged copy, a free value taken) leaves the unit numbers and the miss counter, and the miss itself then shows what R42 gives; while PAGE_CTL.EN of the page is 0 the counter holds (R549). That plane A's copy counts while no plane holds authority is the model's choice (log 11). -/
theorem lookupMissDiscardsTheUnit : Obligations.LookupMissDiscardsTheUnit := by
  unfold Obligations.LookupMissDiscardsTheUnit
  intro s sp m hsp hd hlen hkind htid hmiss
  obtain ⟨u, hup, hlookup⟩ := lookup_of_missesLookup (s := s.begin.tookFree) (tid := m.tid) hmiss
  have hread : s.lookedUp u := ((begin_lookedUp s).trans (tookFree_lookedUp _)).trans hup
  obtain ⟨hcount, hname, hflag⟩ := lookupMiss_shows u m.tid
  have hsig := lookupMiss_signals u m.tid
  refine ⟨_, exec_unitIngress_of_miss hsp hd hlen hkind hlookup, hread.frame.trans hsig.lookupOnly, ?_, ?_, ?_, hflag⟩
  · rw [hsig]
    exact hread.useq
  · rw [hcount, hread.counting, hread.missCount]
    simp only [State.counting, beq_iff_eq]
  · rw [hname]
    exact Nat.mod_eq_of_lt htid

end Sys2Proof.Proofs
end

section
/-! SUPPORT. A CREDIT block's arrival (R83): what one link reads after a change of a link, and the two ways in which the limit of an agreed VC is met. -/

namespace Sys2Proof.Machine.State

variable {s : State} {n v limit : Nat}

@[simp] theorem link_setLink_same (s : State) (n : Nat) (l : Link) : (s.setLink n l).link n = l := Tab.get_set_same ..

theorem link_setLink_ne {m : Nat} {l : Link} (h : m ≠ n) : (s.setLink n l).link m = s.link m := Tab.get_set_ne h

/-- What runs in a running domain, on operands that name something, is what the command comes to. -/
theorem guardedIn_runs {d : Nat} {ok : Bool} {t : State} (hd : s.domainRuns d = true) (hok : ok = true) :
    guardedIn d s ok t = .next t := by
  rw [guardedIn, guarded, inDomain, if_pos hok, if_pos hd]

/-- On a link that runs, the block is met by its limit alone. -/
theorem exec_creditReceived (hn : n < 16) (hv : v < 8) (hlimit : limit < 2 ^ 24)
    (hd : s.domainRuns (6 + n / 4) = true) (hrun : s.linkRuns n = true) :
    exec (.creditReceived n v limit) s = .next (s.begin.creditIn n v limit) := by
  change execCreditReceived n v limit s = _
  rw [execCreditReceived, guardedIn_runs hd (by simp only [hn, hv, hlimit, decide_true, Bool.and_self]), if_pos hrun]

/-- The limit of an agreed VC that lies at most 8,388,607 ahead is taken. -/
theorem creditIn_taken (hv : v < s.agreedVcs n) (h : dist24 ((s.link n).limit.get 0 v) limit ≤ 8388607) :
    s.creditIn n v limit =
      s.setLink n { s.link n with limit := (s.link n).limit.set 0 v (limit % 2 ^ 24) } := if_pos ⟨hv, h⟩

/-- A limit that lies further ahead is stale: it is counted, on every VC. -/
theorem creditIn_stale (h : 8388607 < dist24 ((s.link n).limit.get 0 v) limit) :
    s.creditIn n v limit = s.bump R.TRK_STALE_CRED n := if_neg fun hnear => absurd hnear.2 (Nat.not_le_of_lt h)

end Sys2Proof.Machine.State
end

section
namespace Sys2Proof.Proofs

open Sys2Proof.Machine Sys2Proof.Machine.State

/-- Settles O19: on a link that runs the distance alone decides between the two branches of a CREDIT block's arrival (R83); the one that takes the limit sets this VC's limit of this link. -/
theorem creditLimitsMoveForwardOnly : Obligations.CreditLimitsMoveForwardOnly := by
  unfold Obligations.CreditLimitsMoveForwardOnly
  intro s n v limit hn hagreed hv hlimit hd hrun
  have hexec := exec_creditReceived hn hv hlimit hd hrun
  refine ⟨fun hnear => ?_, fun hfar => ?_⟩
  · have htaken := creditIn_taken (s := s.begin) hagreed hnear
    rw [Nat.mod_eq_of_lt hlimit] at htaken
    refine ⟨_, hexec.trans (congrArg _ htaken), rfl, ?_, fun w hw => ?_, fun m hm => link_setLink_ne hm, rfl⟩
    · rw [link_setLink_same, Tab.get_set_same]
    · rw [link_setLink_same, Tab.get_set_ne hw, begin_link]
  · rw [hexec, creditIn_stale (s := s.begin) hfar]

end Sys2Proof.Proofs
end

section
/-! SUPPORT. SCH_Q_CMD WRITE (R168): what decides it, what the arrival of the access leaves of that, and what a refused change of a queue pair touches. -/

namespace Sys2Proof.Machine.State

variable {s : State} {path : Nat}

/-- SCH_Q_CFG asks for another port or class than the indexed queue pair has. -/
def changesPair (s : State) : Prop :=
  (s.pair (s.rd R.SCH_Q_INDEX_INDEX)).port ≠ (if s.rd R.SCH_Q_CFG_PORT < 24 then s.rd R.SCH_Q_CFG_PORT else 31) ∨
    (s.pair (s.rd R.SCH_Q_INDEX_INDEX)).cls ≠ s.rd R.SCH_Q_CFG_CLASS

/-- A queue of the indexed pair, in one plane or the other, holds a unit. -/
def pairHoldsUnit (s : State) : Prop :=
  s.queue 0 (s.rd R.SCH_Q_INDEX_INDEX) ≠ [] ∨ s.queue 1 (s.rd R.SCH_Q_INDEX_INDEX) ≠ []

@[simp] theorem tlpIn_pair (s : State) (path q : Nat) : (s.tlpIn path).pair q = s.pair q := by
  rw [pair, tlpIn_sch, pair]

@[simp] theorem tlpIn_queue (s : State) (path p q : Nat) : (s.tlpIn path).queue p q = s.queue p q := by
  rw [queue, plane, tlpIn_planes, queue, plane]

theorem tlpIn_changesPair (s : State) (path : Nat) : (s.tlpIn path).changesPair ↔ s.changesPair := by
  simp (disch := decide) only [changesPair, tlpIn_rd, tlpIn_pair]

theorem tlpIn_pairHoldsUnit (s : State) (path : Nat) : (s.tlpIn path).pairHoldsUnit ↔ s.pairHoldsUnit := by
  simp (disch := decide) only [pairHoldsUnit, tlpIn_rd, tlpIn_queue]

/-- The index that goes on is a register. -/
theorem nextIndex_regsOnly (s : State) (f auto : Field) : s.regsOnly (s.nextIndex f auto) := by
  unfold nextIndex
  split
  · exact wr_regsOnly ..
  · rfl

/-- The index alone goes on. -/
theorem nextIndex_get {f auto : Field} {d k : Nat} (h : k ≠ f.key 0 0) :
    (s.nextIndex f auto).regs.get d k = s.regs.get d k := by
  unfold nextIndex
  split
  · exact get_wr_ne h
  · rfl

theorem regsOnly.sch {t : State} (h : s.regsOnly t) : t.sch = s.sch := by rw [h]

theorem exec_schQWrite (h : s.letsWrite path schQCmdAddr) :
    exec (.schQWrite path) s = .next (s.begin.tlpIn path).schQWrite := by
  change execSchQWrite path s = _
  rw [execSchQWrite, guarded, if_pos (decide_eq_true h.1), letsWrite_act h]

/-- What a WRITE that is refused with NOT_EMPTY leaves behind: the result, and the index gone on. -/
def schQNotEmpty (s : State) : State :=
  (s.wr R.SCH_Q_STAT_LAST_RESULT 1).nextIndex R.SCH_Q_INDEX_INDEX R.SCH_Q_INDEX_AUTOINC

/-- A unit in either queue keeps the pair's port and class. -/
theorem schQWrite_notEmpty (hmove : s.changesPair) (hheld : s.pairHoldsUnit) : s.schQWrite = s.schQNotEmpty := by
  have hbusy : (!(s.queue 0 (s.rd R.SCH_Q_INDEX_INDEX)).isEmpty || !(s.queue 1 (s.rd R.SCH_Q_INDEX_INDEX)).isEmpty ||
      s.queueSending (s.rd R.SCH_Q_INDEX_INDEX)) = true := by
    rcases hheld with h | h <;> simp [h]
  exact congrArg (fun t : State => t.nextIndex R.SCH_Q_INDEX_INDEX R.SCH_Q_INDEX_AUTOINC) (if_pos ⟨hmove, hbusy⟩)

theorem schQNotEmpty_regsOnly (s : State) : s.regsOnly s.schQNotEmpty :=
  (wr_regsOnly ..).trans (nextIndex_regsOnly ..)

theorem schQNotEmpty_result (s : State) : s.schQNotEmpty.rd R.SCH_Q_STAT_LAST_RESULT = 1 :=
  (nextIndex_get (by decide)).trans (rd_wr_same ..)

theorem schQNotEmpty_get {d k : Nat} (hresult : k ≠ R.SCH_Q_STAT_LAST_RESULT.key 0 0)
    (hindex : k ≠ R.SCH_Q_INDEX_INDEX.key 0 0) : s.schQNotEmpty.regs.get d k = s.regs.get d k :=
  (nextIndex_get hindex).trans (get_wr_ne hresult)

end Sys2Proof.Machine.State
end

section
namespace Sys2Proof.Proofs

open Sys2Proof.Machine Sys2Proof.Machine.State

/-- Settles O21: the arrival of the access leaves the queues, the pairs and the registers of page 0x201, so the WRITE is decided by those of `s`; its refusal sets the result and moves the index on, and touches nothing else (R168). -/
theorem queueMovesNeedEmptyQueues : Obligations.QueueMovesNeedEmptyQueues := by
  unfold Obligations.QueueMovesNeedEmptyQueues
  intro s path hgo hmove hheld
  have hmove' : (s.begin.tlpIn path).changesPair := (tlpIn_changesPair s.begin path).mpr hmove
  have hheld' : (s.begin.tlpIn path).pairHoldsUnit := (tlpIn_pairHoldsUnit s.begin path).mpr hheld
  have hregs := schQNotEmpty_regsOnly (s.begin.tlpIn path)
  refine ⟨_, (exec_schQWrite hgo).trans (congrArg _ (schQWrite_notEmpty hmove' hheld')), schQNotEmpty_result _, ?_,
    fun _ _ => schQNotEmpty_get, hregs⟩
  rw [hregs.sch, tlpIn_sch, begin_sch]

end Sys2Proof.Proofs
end

section
/-! SUPPORT. Reads of a group with a latching read of its own (R202): the two halves answer the path's latch and latch nothing, and what a latching read latches stands behind its answer. -/

namespace Sys2Proof.Machine.State

variable {s : State} {path addr : Nat} {x : Place}

theorem answer_signals (s : State) (path v : Nat) : s.signalsOnly (s.answer path v) :=
  .ite ((emit_signals ..).trans (tally_signals ..)) (emit_signals ..)

@[simp] theorem answer_csr (s : State) (path v : Nat) : (s.answer path v).csr = s.csr := (answer_signals s path v).csr

@[simp] theorem tlpIn_latched (s : State) (path q : Nat) : (s.tlpIn path).latched q addr = s.latched q addr := by
  rw [latched, tlpIn_csr, latched]

@[simp] theorem answer_latched (s : State) (path v q : Nat) : (s.answer path v).latched q addr = s.latched q addr := by
  rw [latched, answer_csr, latched]

@[simp] theorem latched_setLatch_same (s : State) (path addr v : Nat) : (s.setLatch path addr v).latched path addr = v :=
  Tab.get_set_same ..

/-- The halves of such a group are no reads that take something. -/
theorem cmdRead_groupLatch (hg : groupLatch x = true) (s : State) (path i j : Nat) : s.cmdRead path i j x.base = none := by
  rw [groupLatch, Bool.or_eq_true, beq_iff_eq, beq_iff_eq] at hg
  rcases hg with hbase | hbase <;> rw [hbase] <;> rfl

theorem readAct_groupLo (hx : placeAt addr = some x) (hp : x.reg.pair = true) (hg : groupLatch x = true) :
    s.readAct path addr = s.answer path (s.latched path addr % 2 ^ 32) := by
  have hplain : s.carried (fun t => t.cmdRead path x.i x.j x.base) = none := by
    rw [carried, cmdRead_groupLatch hg, Option.map_none]
  unfold readAct
  simp only [hx, hplain, hp, hg, if_true]

theorem readAct_groupHi (hx : placeAt addr = none) (hp : pairAt addr = some x) (hg : groupLatch x = true) :
    s.readAct path addr = s.answer path (s.latched path (addr - 4) / 2 ^ 32) := by
  unfold readAct
  simp only [hx, hp, hg, if_true]

/-! ### Panel time -/

/-- The pair TIM_NOW_SEC where the lookups find it (Table 6.9). -/
def timNowSecPair : Place := ⟨0, ⟨0x44, 0, 1, none, true, [R.TIM_NOW_SEC]⟩, 0⟩

theorem timNowSec_places : placeAt 0x040044 = some timNowSecPair ∧ placeAt 0x040048 = none ∧
    pairAt 0x040048 = some timNowSecPair := by
  decide +kernel

/-- The latching read takes seconds and nanoseconds of one instant: the arrival of the access does not move panel time. -/
theorem exec_timNowRead (h : s.letsRead path 0x040040) :
    exec (.timNowRead path) s =
      .next (((s.begin.tlpIn path).setLatch path 0x040044 s.tim.sec).answer path s.tim.ns) := by
  change execTimNowRead path s = _
  rw [execTimNowRead, guarded, if_pos (decide_eq_true h.1), letsRead_act h, tlpIn_tim, begin_tim]

theorem exec_read_timNowSecLo (h : s.letsRead path 0x040044) :
    exec (.latchingRead path 0x040044 0xF) s =
      .next ((s.begin.tlpIn path).answer path (s.latched path 0x040044 % 2 ^ 32)) := by
  obtain ⟨hlo, -, -⟩ := timNowSec_places
  rw [exec_latchingRead h.1 (by decide) (by decide), csrRead_go (by decide) (by decide) h, readAct_groupLo hlo rfl rfl,
    tlpIn_latched]
  rfl

theorem exec_read_timNowSecHi (h : s.letsRead path 0x040048) :
    exec (.latchingRead path 0x040048 0xF) s =
      .next ((s.begin.tlpIn path).answer path (s.latched path 0x040044 / 2 ^ 32)) := by
  obtain ⟨-, hnone, hhi⟩ := timNowSec_places
  rw [exec_latchingRead h.1 (by decide) (by decide), csrRead_go (by decide) (by decide) h, readAct_groupHi hnone hhi rfl,
    tlpIn_latched]
  rfl

end Sys2Proof.Machine.State
end

section
namespace Sys2Proof.Proofs

open Sys2Proof.Machine Sys2Proof.Machine.State

/-- Settles O22: the arrival of the latching read does not move panel time, so both parts are of one instant, and the answer leaves the latch; a read of either half answers the latch of the state it is made in, and latches nothing (R202). -/
theorem timeReadsLatchTheSeconds : Obligations.TimeReadsLatchTheSeconds := by
  unfold Obligations.TimeReadsLatchTheSeconds
  intro s path hgo
  refine ⟨⟨_, exec_timNowRead hgo, rfl, ?_, ?_⟩, fun v hlo hhi => ⟨exec_read_timNowSecLo hlo, exec_read_timNowSecHi hhi⟩⟩
  · rw [answer_latched, latched_setLatch_same]
  · rw [answer_tim, setLatch_tim, tlpIn_tim, begin_tim]

end Sys2Proof.Proofs
end

section
/-! SUPPORT. A write of USB_EP_CFG (R355): the registers of the banks that USB_EP_INDEX selects, what the write finds of them when it is decided, and what it leaves where the endpoint is refused. -/

namespace Sys2Proof.Machine

/-! ### Registers in banks -/

/-- A field of a register that an index register selects: its banks stand 2^22 bytes apart. -/
abbrev Field.banked (f : Field) : Prop := f.sj = 2 ^ 22 ∧ f.addr < 2 ^ 22 ∧ f.lsb < 32

/-- Two such fields that differ in place have no key in common, in whatever banks. -/
theorem Field.banked.key_ne {f g : Field} {d e : Nat} (hf : f.banked) (hg : g.banked)
    (h : f.addr * 32 + f.lsb ≠ g.addr * 32 + g.lsb) : f.key 0 d ≠ g.key 0 e := by
  obtain ⟨hfj, hfa, hfl⟩ := hf
  obtain ⟨hgj, hga, hgl⟩ := hg
  simp only [Field.key, hfj, hgj]
  omega

/-- Every bank of such a field lies on the field's page. -/
theorem Field.banked.keyPage_eq {f : Field} {e : Nat} (hf : f.banked) : keyPage (f.key 0 e) = f.addr / 4096 := by
  obtain ⟨hj, ha, hl⟩ := hf
  simp only [keyPage, keyAddr, Field.key, hj]
  omega

namespace State

variable {s t : State} {f g : Field} {path data e : Nat}

theorem epField_wr_ne {v d : Nat} (hf : f.banked) (hg : g.banked) (h : f.addr * 32 + f.lsb ≠ g.addr * 32 + g.lsb) :
    (s.wr g v 0 d).epField f e = s.epField f e := rd_wr_ne (hf.key_ne hg h)

theorem tlpIn_epField (hf : f.banked) (hp : f.addr / 4096 ≠ 0x014) : (s.tlpIn path).epField f e = s.epField f e :=
  tlpIn_rd s path (by rwa [hf.keyPage_eq])

/-! ### The test of R355 -/

/-- The test reads the states and the tunnels of the endpoints, and nothing else. -/
theorem epResult_congr (hst : ∀ d, t.epState d = s.epState d) (htid : ∀ d, t.epTid d = s.epTid d) :
    t.epResult e = s.epResult e := by
  simp only [epResult, hst, htid]

theorem epResult_noTunnel (h : s.epTid e = 0) : s.epResult e = 1 := if_pos h

/-- An IN endpoint finds its tunnel with another IN endpoint that is not DISABLED. -/
theorem epResult_sharedTunnel (h0 : s.epTid e ≠ 0) (hin : epIn e = true)
    (h : ∃ d ∈ bulkEps, epIn d = true ∧ d ≠ e ∧ s.epState d ≠ epDisabled ∧ s.epTid d = s.epTid e) : s.epResult e = 2 := by
  have hany : (epIn e && bulkEps.any fun d => epIn d && d != e && s.epState d != epDisabled && s.epTid d == s.epTid e) = true := by
    obtain ⟨d, hd, hdin, hne, hon, htid⟩ := h
    rw [hin, Bool.true_and, List.any_eq_true]
    exact ⟨d, hd, by simp [hdin, hne, hon, htid]⟩
  exact (if_neg h0).trans (if_pos hany)

/-! ### The write -/

/-- The state in which a write of USB_EP_CFG is decided: it has arrived, and WAKE of the indexed endpoint is stored. -/
def epCfgStored (s : State) (path data : Nat) : State :=
  (s.begin.tlpIn path).store path 0x351044 data [R.USB_EP_CFG_WAKE] 0 (s.rd R.USB_EP_INDEX)

/-- WAKE is RW, so no lock holds its store up. -/
theorem epCfgStored_eq :
    s.epCfgStored path data = (s.begin.tlpIn path).put R.USB_EP_CFG_WAKE (data / 2 % 2) 0 (s.rd R.USB_EP_INDEX) := by
  have hlock : (s.begin.tlpIn path).lockedWrite 0x351 [R.USB_EP_CFG_WAKE] data 0 (s.rd R.USB_EP_INDEX) = false :=
    Bool.and_false _
  simp only [epCfgStored, store, Nat.reduceDiv, hlock, Bool.false_eq_true, if_false, List.foldl_cons, List.foldl_nil]
  rfl

theorem epCfgStored_epField (hf : f.banked) (hp : f.addr / 4096 ≠ 0x014)
    (hw : f.addr * 32 + f.lsb ≠ R.USB_EP_CFG_WAKE.addr * 32 + R.USB_EP_CFG_WAKE.lsb) :
    (s.epCfgStored path data).epField f e = s.epField f e := by
  rw [epCfgStored_eq, put, epField_wr_ne hf (by decide) hw, tlpIn_epField hf hp]
  rfl

theorem epCfgStored_epState : (s.epCfgStored path data).epState e = s.epState e :=
  epCfgStored_epField (by decide) (by decide) (by decide)

theorem epCfgStored_epResult : (s.epCfgStored path data).epResult e = s.epResult e :=
  epResult_congr (fun _ => epCfgStored_epState) (fun _ => epCfgStored_epField (by decide) (by decide) (by decide))

/-- What a write of EN 1 leaves that is refused with result `r`. -/
def epRefused (s : State) (path data r : Nat) : State :=
  (s.epCfgStored path data).wr R.USB_EP_STAT_RESULT r 0 (s.rd R.USB_EP_INDEX)

/-- A write of EN 1 that the test refuses leaves a DISABLED endpoint with the test's result. -/
theorem exec_usbEpEnable_refused (h : s.letsWrite path 0x351044) (hoff : s.epState (s.rd R.USB_EP_INDEX) = epDisabled)
    (hr : s.epResult (s.rd R.USB_EP_INDEX) ≠ 0) :
    exec (.usbEpEnable path data) s =
      .next (s.epRefused path (data / 2 * 2 + 1) (s.epResult (s.rd R.USB_EP_INDEX))) := by
  have hindex : (s.begin.tlpIn path).rd R.USB_EP_INDEX = s.rd R.USB_EP_INDEX := tlpIn_rd s.begin path (by decide)
  have hen : (data / 2 * 2 + 1) % 2 ≠ 0 := by omega
  have hoff' := (epCfgStored_epState (path := path) (data := data / 2 * 2 + 1)).trans hoff
  have hstored : (s.begin.tlpIn path).store path 0x351044 (data / 2 * 2 + 1) [R.USB_EP_CFG_WAKE] 0 (s.rd R.USB_EP_INDEX) =
      s.epCfgStored path (data / 2 * 2 + 1) := rfl
  change execUsbEpEnable path data s = _
  rw [execUsbEpEnable, guarded, if_pos (decide_eq_true h.1), epCfgWrite, letsWrite_act h]
  simp only [hindex, hstored]
  rw [if_neg hen, if_neg (not_not_intro hoff'), epCfgStored_epResult, if_pos hr]
  rfl

/-- The result stands in the endpoint's status. -/
theorem epRefused_result {r : Nat} (hr : r < 16) :
    (s.epRefused path data r).rd R.USB_EP_STAT_RESULT 0 (s.rd R.USB_EP_INDEX) = r :=
  (rd_wr_same ..).trans (Nat.mod_eq_of_lt hr)

/-- A refusal leaves the state and EN of every endpoint. -/
theorem epRefused_frame {r : Nat} :
    (s.epRefused path data r).epState e = s.epState e ∧
      (s.epRefused path data r).rd R.USB_EP_CFG_EN 0 e = s.rd R.USB_EP_CFG_EN 0 e := by
  constructor
  · exact (epField_wr_ne (by decide) (by decide) (by decide)).trans epCfgStored_epState
  · exact (epField_wr_ne (f := R.USB_EP_CFG_EN) (by decide) (by decide) (by decide)).trans
      (epCfgStored_epField (by decide) (by decide) (by decide))

theorem epRefused_usb {r : Nat} : (s.epRefused path data r).usb = s.usb := by
  rw [epRefused, wr_usb, epCfgStored, store_usb, tlpIn_usb, begin_usb]

/-- An endpoint that the test refuses stays DISABLED with EN 0 and the test's result, and the function's own state stays as it is. -/
theorem usbEpEnable_keepsDisabled {r : Nat} (h : s.letsWrite path 0x351044)
    (hoff : s.epState (s.rd R.USB_EP_INDEX) = epDisabled) (hen : s.rd R.USB_EP_CFG_EN 0 (s.rd R.USB_EP_INDEX) = 0)
    (hr : s.epResult (s.rd R.USB_EP_INDEX) = r) (hr0 : r ≠ 0) (hr16 : r < 16) :
    ∃ t, exec (.usbEpEnable path data) s = .next t ∧ t.rd R.USB_EP_STAT_RESULT 0 (s.rd R.USB_EP_INDEX) = r ∧
      t.epState (s.rd R.USB_EP_INDEX) = epDisabled ∧ t.rd R.USB_EP_CFG_EN 0 (s.rd R.USB_EP_INDEX) = 0 ∧ t.usb = s.usb := by
  subst hr
  obtain ⟨hstate, hcfg⟩ := epRefused_frame (s := s)
  exact ⟨_, exec_usbEpEnable_refused h hoff hr0, epRefused_result hr16, hstate.trans hoff, hcfg.trans hen,
    epRefused_usb⟩

end State
end Sys2Proof.Machine
end

section
namespace Sys2Proof.Proofs

open Sys2Proof.Machine Sys2Proof.Machine.State

/-- Settles O25: the arrival of the write and the store of WAKE leave the endpoints' states and tunnels, so the test of R355 answers as in `s`: BAD_TID for tunnel 0, DUP_TID for an IN endpoint whose tunnel another IN endpoint that is not DISABLED has. -/
theorem endpointsNeedTheirOwnTunnel : Obligations.EndpointsNeedTheirOwnTunnel := by
  unfold Obligations.EndpointsNeedTheirOwnTunnel
  intro s path data hgo hoff hen
  refine ⟨fun h0 => ?_, fun h0 hin hshared => ?_⟩
  · exact usbEpEnable_keepsDisabled hgo hoff hen (epResult_noTunnel h0) (by decide) (by decide)
  · exact usbEpEnable_keepsDisabled hgo hoff hen (epResult_sharedTunnel h0 hin hshared) (by decide) (by decide)

end Sys2Proof.Proofs
end

section
/-! SUPPORT. The wire formats (Tables 2.2, 2.3 and 3.1): bytes read back the number that they spell, and both CRCs fit the bytes that carry them. -/

namespace Sys2Proof.Machine

/-! ### Numbers as bytes, most significant first -/

@[simp] theorem length_toBe (k n : Nat) : (toBe k n).length = k := by
  induction k generalizing n with
  | zero => rfl
  | succ k ih => simp [toBe, ih]

/-- What a fold that reads bytes starts from stands in front of them. -/
theorem foldl_bytes (bs : List Byte) (a : Nat) :
    bs.foldl (fun a b => a * 256 + b.toNat) a = a * 256 ^ bs.length + ofBe bs := by
  induction bs generalizing a with
  | nil => simp [ofBe]
  | cons b bs ih =>
    rw [ofBe, List.foldl_cons, List.foldl_cons, ih, ih (0 * 256 + b.toNat), List.length_cons]
    ring

theorem ofBe_cons (b : Byte) (bs : List Byte) : ofBe (b :: bs) = b.toNat * 256 ^ bs.length + ofBe bs := by
  rw [ofBe, List.foldl_cons, foldl_bytes]
  ring

/-- The bytes of a number spell it, cut to their width. -/
theorem ofBe_toBe (k n : Nat) : ofBe (toBe k n) = n % 256 ^ k := by
  induction k with
  | zero => simp [toBe, ofBe, Nat.mod_one]
  | succ k ih =>
    have hsplit : n % 256 ^ (k + 1) = n % 256 ^ k + 256 ^ k * (n / 256 ^ k % 256) := by rw [pow_succ, Nat.mod_mul]
    rw [toBe, ofBe_cons, length_toBe, ih, hsplit, BitVec.toNat_ofNat]
    ring

/-- A field is read past the bytes before it. -/
@[simp] theorem beAt_append {xs ys : List Byte} {i k : Nat} (h : xs.length ≤ i) : beAt (xs ++ ys) i k = beAt ys (i - xs.length) k := by
  rw [beAt, beAt, List.drop_append, List.drop_eq_nil_of_le h, List.nil_append]

@[simp] theorem beAt_cons {b : Byte} {bs : List Byte} {i k : Nat} : beAt (b :: bs) (i + 1) k = beAt bs i k := rfl

@[simp] theorem beAt_byte {b : Byte} {bs : List Byte} : beAt (b :: bs) 0 1 = b.toNat := by simp [beAt, ofBe]

/-- A number's bytes at the front are read as the number. -/
@[simp] theorem beAt_toBe_append {k n : Nat} {bs : List Byte} : beAt (toBe k n ++ bs) 0 k = n % 256 ^ k := by
  rw [beAt, List.drop_zero, List.take_append_of_le_length (by simp), List.take_of_length_le (by simp), ofBe_toBe]

@[simp] theorem beAt_toBe {k n : Nat} : beAt (toBe k n) 0 k = n % 256 ^ k := by
  have h := beAt_toBe_append (k := k) (n := n) (bs := [])
  rwa [List.append_nil] at h

/-! ### The CRCs (R62, R65) -/

/-- What a register's one-bit step keeps below a bound, any number of steps keeps below it. -/
theorem iter_lt {f : Nat → Nat} {m : Nat} (hf : ∀ c < m, f c < m) (k c : Nat) (hc : c < m) : iter f k c < m := by
  induction k generalizing c with
  | zero => exact hc
  | succ k ih => exact ih _ (hf c hc)

theorem crc32cBit_lt {c : Nat} (h : c < 2 ^ 32) : crc32cBit c < 2 ^ 32 := by
  unfold crc32cBit
  split
  · exact Nat.xor_lt_two_pow (by omega) (by omega)
  · omega

theorem crc8Bit_lt {c : Nat} : crc8Bit c < 2 ^ 8 := by
  unfold crc8Bit
  split
  · exact Nat.xor_lt_two_pow (by omega) (by omega)
  · omega

/-- A CRC register of `w` bits stays within them over any bytes. -/
theorem crcFold_lt {f : Nat → Nat} {w : Nat} (hw : 8 ≤ w) (hf : ∀ c < 2 ^ w, f c < 2 ^ w) (bs : List Byte) (c : Nat)
    (hc : c < 2 ^ w) : bs.foldl (fun c b => iter f 8 (Nat.xor c b.toNat)) c < 2 ^ w := by
  induction bs generalizing c with
  | nil => exact hc
  | cons b bs ih =>
    have hb : b.toNat < 2 ^ w := b.isLt.trans_le (Nat.pow_le_pow_right (by decide) hw)
    exact ih _ (iter_lt hf 8 _ (Nat.xor_lt_two_pow hc hb))

theorem crc32c_lt (bs : List Byte) : crc32c bs < 2 ^ 32 :=
  Nat.xor_lt_two_pow (crcFold_lt (by decide) (fun _ h => crc32cBit_lt h) bs _ (by decide)) (by decide)

theorem crc8_lt (bs : List Byte) : crc8 bs < 2 ^ 8 :=
  crcFold_lt (by decide) (fun _ _ => crc8Bit_lt) bs 0 (by decide)

/-! ### Control and lane-layer blocks -/

@[simp] theorem length_ctlBody (b : Ctl) : (ctlBody b).length = 7 := by
  cases b <;> simp [ctlBody]

/-- The type byte and the content of a block name the block, whatever follows them. -/
theorem ctlOf_ctlBody {b : Ctl} (h : b.fits) (tail : List Byte) : ctlOf (ctlBody b ++ tail) = some b := by
  cases b with
  | idle => rfl
  | ack cum base map =>
    simp only [Ctl.fits] at h
    simp [ctlOf, ctlBody]
    omega
  | credit vc limit =>
    simp only [Ctl.fits] at h
    simp [ctlOf, ctlBody, bitsOf]
    omega
  | time sub id stamp =>
    simp only [Ctl.fits] at h
    simp [ctlOf, ctlBody, bitsOf]
    omega
  | health x =>
    obtain ⟨lane, use, learn, pred, eyeH, eyeV, errs⟩ := x
    simp only [Ctl.fits] at h
    cases learn <;> cases pred <;> simp [ctlOf, ctlBody, bitsOf] <;> omega
  | cap x =>
    obtain ⟨maj, min, maxVcs, role, seen, caps, nodeId⟩ := x
    simp only [Ctl.fits] at h
    cases seen <;> simp [ctlOf, ctlBody, bitsOf] <;> omega
  | align lane pos mcnt bip =>
    simp only [Ctl.fits] at h
    simp [ctlOf, ctlBody, bitsOf]
    omega
  | train lane step ready maxRate preset maxWidth spareEn pass =>
    simp only [Ctl.fits] at h
    cases ready <;> cases spareEn <;> simp [ctlOf, ctlBody, bitsOf] <;> omega
  | substReq lane kind rseq =>
    simp only [Ctl.fits] at h
    simp [ctlOf, ctlBody, bitsOf]
    omega
  | switch src dst pos rseq =>
    simp only [Ctl.fits] at h
    simp [ctlOf, ctlBody, bitsOf]
    omega

/-- The eight bytes of a block carry the CRC that they are checked against (R65, R104). -/
theorem decodeCtl_encodeCtl {b : Ctl} (h : b.fits) : decodeCtl (encodeCtl b) = some b := by
  have hcrc := crc8_lt (ctlBody b)
  have htake : (encodeCtl b).take 7 = ctlBody b := List.take_left' (length_ctlBody b)
  rw [decodeCtl, htake, if_pos]
  · exact ctlOf_ctlBody h _
  · simp [encodeCtl]
    omega

/-! ### Cells -/

theorem length_padTo (k : Nat) (bs : List Byte) : (padTo k bs).length = k := by simp [padTo]

@[simp] theorem length_cellBody (c : Cell) : (cellBody c).length = 252 := by
  simp [cellBody, length_padTo]

/-- A payload of 236 bytes needs no filling (R61). -/
theorem padTo_of_length {k : Nat} {bs : List Byte} (h : bs.length = k) : padTo k bs = bs := List.take_left' h

/-- The payload stands behind the 16 bytes of the header. -/
theorem drop_cellBody (c : Cell) (tail : List Byte) : (cellBody c ++ tail).drop 16 = padTo 236 c.payload ++ tail := by
  rw [cellBody, List.append_assoc]
  exact List.drop_left' (by simp)

/-- The 252 bytes that the CRC covers name the cell, whatever follows them. -/
theorem cellOf_cellBody {c : Cell} (h : c.fits) (tail : List Byte) : cellOf (cellBody c ++ tail) = c := by
  have hlen : c.payload.length = 236 := by simp [h]
  have hpay : ((cellBody c ++ tail).drop 16).take 236 = c.payload := by
    rw [drop_cellBody, padTo_of_length hlen]
    exact List.take_left' hlen
  rw [cellOf, hpay]
  obtain ⟨lseq, vc, cont, kind, plane, tid, len, useq, tsw, payload⟩ := c
  cases cont <;> simp [cellBody, bitsOf] <;> simp only [Cell.fits] at h <;> omega

/-- The 256 bytes of a cell carry the CRC that they are checked against (R62). -/
theorem decodeCell_encodeCell {c : Cell} (h : c.fits) : decodeCell (encodeCell c) = some c := by
  have hcrc := crc32c_lt (cellBody c)
  have htake : (encodeCell c).take 252 = cellBody c := List.take_left' (length_cellBody c)
  rw [decodeCell, htake, if_pos]
  · exact congrArg some (cellOf_cellBody h _)
  · simp [encodeCell]
    omega

end Sys2Proof.Machine
end

section
namespace Sys2Proof.Proofs

open Sys2Proof.Machine

/-- Settles O4: the bytes of each field spell it, bit fields of one byte do not overlap, and the CRC of R62 is cut by nothing in its four bytes. -/
theorem cellWireRoundTrip : Obligations.CellWireRoundTrip := by
  unfold Obligations.CellWireRoundTrip
  intro c h
  exact ⟨by simp [encodeCell], decodeCell_encodeCell h⟩

/-- Settles O5: block by block the fields of Tables 2.3 and 3.1 lie side by side in their bytes, and the type byte tells the blocks apart. -/
theorem controlBlockWireRoundTrip : Obligations.ControlBlockWireRoundTrip := by
  unfold Obligations.ControlBlockWireRoundTrip
  intro b h
  exact ⟨by simp [encodeCtl], decodeCtl_encodeCtl h⟩

end Sys2Proof.Proofs
end

section

/- The proofs of this part are many and short: elaborated in turn they need less memory than side by side. -/
set_option Elab.async false

section
/-! SUPPORT. The frame of an operation: the parts of the state that it may touch beside the registers and what is put out, and that it keeps the canonical form; how frames join along the body of an operation, and the frames of the updates of single fields. -/

namespace Sys2Proof.Machine.State

/-- `t` has the queue, the hardware time and every part of `s` that `ps` does not name, and is in canonical form where `s` is. -/
def frame (s : State) (ps : List Part) (t : State) : Prop := s.touchesOnly t ps ∧ (s.canonical → t.canonical)

/-- The frame of an operation that may answer nothing. -/
def frameOpt (s : State) (ps : List Part) (o : Option State) : Prop := ∀ t, o = some t → s.frame ps t

/-- The frame of a command: that of the state in which it completes. -/
def frameOut (s : State) (ps : List Part) (o : Host.Outcome State Fault Refusal) : Prop := ∀ t, o = .next t → s.frame ps t

variable {s t u : State} {ps qs : List Part}

namespace samePart

theorem refl (s : State) (p : Part) : s.samePart s p := by cases p <;> rfl

theorem trans {p : Part} (h : s.samePart t p) (h' : t.samePart u p) : s.samePart u p := by
  cases p with
  | brg =>
    simp only [samePart] at h h' ⊢
    rw [h', h]
  | pwr =>
    simp only [samePart] at h h' ⊢
    rw [h', h]
  | _ => exact Eq.trans h' h

end samePart

/-! ### Joining frames -/

theorem needs_trans {rs : List Part} (h : decide (ps ⊆ qs) = true) (h' : decide (qs ⊆ rs) = true) : decide (ps ⊆ rs) = true :=
  decide_eq_true (List.Subset.trans (of_decide_eq_true h) (of_decide_eq_true h'))

namespace frame

theorem refl (s : State) : s.frame ps s := ⟨⟨rfl, rfl, fun p _ => samePart.refl s p⟩, id⟩

/-- An operation after another. -/
theorem after (h' : t.frame ps u) (h : s.frame ps t) : s.frame ps u := by
  obtain ⟨⟨hp, hh, hs⟩, hc⟩ := h
  obtain ⟨⟨hp', hh', hs'⟩, hc'⟩ := h'
  exact ⟨⟨hp'.trans hp, hh'.trans hh, fun p hm => (hs p hm).trans (hs' p hm)⟩, hc' ∘ hc⟩

/-- A frame of fewer parts; that they are fewer is evaluated. -/
theorem mono (h : s.frame ps t) (hps : decide (ps ⊆ qs) = true) : s.frame qs t := by
  obtain ⟨⟨hp, hh, hs⟩, hc⟩ := h
  exact ⟨⟨hp, hh, fun p hq => hs p (fun hm => hq (of_decide_eq_true hps hm))⟩, hc⟩

/-- The frame of a part of an operation over any action, whose frame has what the operation needs. -/
theorem within {rs : List Part} (h : s.frame ps t) (hqs : decide (qs ⊆ rs) = true) (hps : decide (ps ⊆ qs) = true) :
    s.frame rs t := (h.mono hps).mono hqs

theorem any (h : s.frame [] t) : s.frame ps t := h.mono (decide_eq_true (List.nil_subset ps))

theorem ite {c : Prop} [Decidable c] (h : s.frame ps t) (h' : s.frame ps u) : s.frame ps (if c then t else u) := by
  split
  · exact h
  · exact h'

theorem foldl {α : Type} {f : State → α → State} (hf : ∀ (s : State) (x : α), s.frame ps (f s x)) {l : List α} {s : State} :
    s.frame ps (l.foldl f s) := by
  induction l generalizing s with
  | nil => exact refl s
  | cons x l ih => exact ih.after (hf s x)

/-- A fold that carries a value beside the state. -/
theorem foldlFst {α β : Type} {f : State × β → α → State × β} (hf : ∀ (p : State × β) (x : α), p.1.frame ps (f p x).1)
    {l : List α} {p : State × β} : p.1.frame ps (l.foldl f p).1 := by
  induction l generalizing p with
  | nil => exact refl p.1
  | cons x l ih => exact ih.after (hf p x)

/-- The state of a pair that an operation answers. -/
theorem fst {α : Type} {p : State × α} {x : α} (hp : p = (t, x)) (h : s.frame ps p.1) : s.frame ps t := by
  rwa [hp] at h

theorem opt {o : Option State} (ho : o = some t) (h : s.frameOpt ps o) : s.frame ps t := h t ho

theorem getD {o : Option State} (ho : s.frameOpt ps o) (h : s.frame ps t) : s.frame ps (o.getD t) := by
  cases o with
  | none => exact h
  | some u => exact ho u rfl

/-- The frame of an update that leaves the registers and DRAM. -/
theorem of_same (hp : t.pending = s.pending) (hh : t.hw = s.hw) (hr : t.regs = s.regs) (hd : t.dram = s.dram)
    (hs : ∀ p, p ∉ ps → s.samePart t p) : s.frame ps t :=
  ⟨⟨hp, hh, hs⟩, fun h => by rwa [canonical, hd, hr]⟩

/-- The frame of an update that leaves the registers and empties DRAM. -/
theorem cleared (hp : t.pending = s.pending) (hh : t.hw = s.hw) (hr : t.regs = s.regs) (hd : t.dram = [])
    (hs : ∀ p, p ∉ ps → s.samePart t p) : s.frame ps t :=
  ⟨⟨hp, hh, hs⟩, fun h => ⟨hd ▸ Tab.wf_nil 0, hr ▸ h.2⟩⟩

/-- The frame of an update of many fields that leaves the queue, the hardware time, the registers and DRAM. -/
theorem all (hp : t.pending = s.pending) (hh : t.hw = s.hw) (hr : t.regs = s.regs) (hd : t.dram = s.dram) :
    s.frame Part.all t :=
  .of_same hp hh hr hd fun p hp => absurd (by cases p <;> decide) hp

theorem of_begin (h : s.begin.frame ps t) : s.frame ps t := h

end frame

namespace frameOpt

theorem none : s.frameOpt ps none := fun _ h => nomatch h

theorem some (h : s.frame ps t) : s.frameOpt ps (some t) := fun _ ht => Option.some.inj ht ▸ h

theorem mono {o : Option State} (h : s.frameOpt ps o) (hps : decide (ps ⊆ qs) = true) : s.frameOpt qs o :=
  fun t ht => (h t ht).mono hps

theorem after {o : Option State} (h' : t.frameOpt ps o) (h : s.frame ps t) : s.frameOpt ps o := fun u hu => (h' u hu).after h

theorem map {o : Option State} {f : State → State} (hf : ∀ t : State, t.frame ps (f t)) (h : s.frameOpt ps o) :
    s.frameOpt ps (o.map f) := by
  cases o with
  | none => exact none
  | some t => exact some ((hf t).after (h t rfl))

theorem ite {c : Prop} [Decidable c] {o o' : Option State} (h : s.frameOpt ps o) (h' : s.frameOpt ps o') :
    s.frameOpt ps (if c then o else o') := by
  split
  · exact h
  · exact h'

theorem orElse {o o' : Option State} (h : s.frameOpt ps o) (h' : s.frameOpt ps o') :
    s.frameOpt ps (o.orElse fun _ => o') := by
  cases o with
  | none => exact h'
  | some t => exact h

end frameOpt

namespace frameOut

theorem next (h : s.frame ps t) : s.frameOut ps (.next t) := fun u hu => by
  cases hu
  exact h

theorem guarded {ok : Bool} (h : s.frame ps t) : s.frameOut ps (guarded ok t) := fun u hu => by
  unfold Machine.guarded at hu
  split at hu
  · cases hu
    exact h
  · cases hu

theorem ite {c : Prop} [Decidable c] {o o' : Host.Outcome State Fault Refusal} (h : s.frameOut ps o) (h' : s.frameOut ps o') :
    s.frameOut ps (if c then o else o') := by
  split
  · exact h
  · exact h'

theorem mono {o : Host.Outcome State Fault Refusal} (h : s.frameOut ps o) (hps : decide (ps ⊆ qs) = true) :
    s.frameOut qs o :=
  fun t ht => (h t ht).mono hps

end frameOut

/-! ### Updates of single fields -/

theorem set_out_frame {x : List Emit} : s.frame [] { s with out := x } := .of_same rfl rfl rfl rfl (by intro p hp; cases p <;> rfl)
theorem set_free_frame {x : Nat} : s.frame [.free] { s with free := x } :=
  .of_same rfl rfl rfl rfl (by intro p hp; cases p <;> simp at hp <;> rfl)
theorem set_tun_frame {x : TunState} : s.frame [.tun] { s with tun := x } :=
  .of_same rfl rfl rfl rfl (by intro p hp; cases p <;> simp at hp <;> rfl)
theorem set_links_frame {x : Tab Link} : s.frame [.links] { s with links := x } :=
  .of_same rfl rfl rfl rfl (by intro p hp; cases p <;> simp at hp <;> rfl)
theorem set_planes_frame {x : Tab Plane} : s.frame [.planes] { s with planes := x } :=
  .of_same rfl rfl rfl rfl (by intro p hp; cases p <;> simp at hp <;> rfl)
theorem set_mcg_frame {x : McgEdit} : s.frame [.mcg] { s with mcg := x } :=
  .of_same rfl rfl rfl rfl (by intro p hp; cases p <;> simp at hp <;> rfl)
theorem set_rgm_frame {x : RgmState} : s.frame [.rgm] { s with rgm := x } :=
  .of_same rfl rfl rfl rfl (by intro p hp; cases p <;> simp at hp <;> rfl)
theorem set_sch_frame {x : SchedState} : s.frame [.sch] { s with sch := x } :=
  .of_same rfl rfl rfl rfl (by intro p hp; cases p <;> simp at hp <;> rfl)
theorem set_dsp_frame {x : DspState} : s.frame [.dsp] { s with dsp := x } :=
  .of_same rfl rfl rfl rfl (by intro p hp; cases p <;> simp at hp <;> rfl)
theorem set_sto_frame {x : StoState} : s.frame [.sto] { s with sto := x } :=
  .of_same rfl rfl rfl rfl (by intro p hp; cases p <;> simp at hp <;> rfl)
theorem set_brg_frame {x : BrgState} : s.frame [.brg] { s with brg := x } :=
  .of_same rfl rfl rfl rfl (by intro p hp; cases p <;> simp at hp <;> rfl)
theorem set_net_frame {x : NetState} : s.frame [.net] { s with net := x } :=
  .of_same rfl rfl rfl rfl (by intro p hp; cases p <;> simp at hp <;> rfl)
theorem set_usb_frame {x : UsbState} : s.frame [.usb] { s with usb := x } :=
  .of_same rfl rfl rfl rfl (by intro p hp; cases p <;> simp at hp <;> rfl)
theorem set_tim_frame {x : TimeState} : s.frame [.tim] { s with tim := x } :=
  .of_same rfl rfl rfl rfl (by intro p hp; cases p <;> simp at hp <;> rfl)
theorem set_eng_frame {x : EngsState} : s.frame [.eng] { s with eng := x } :=
  .of_same rfl rfl rfl rfl (by intro p hp; cases p <;> simp at hp <;> rfl)
theorem set_mgt_frame {x : MgtState} : s.frame [.mgt] { s with mgt := x } :=
  .of_same rfl rfl rfl rfl (by intro p hp; cases p <;> simp at hp <;> rfl)
theorem set_key_frame {x : KeyState} : s.frame [.key] { s with key := x } :=
  .of_same rfl rfl rfl rfl (by intro p hp; cases p <;> simp at hp <;> rfl)
theorem set_fus_frame {x : FusState} : s.frame [.fus] { s with fus := x } :=
  .of_same rfl rfl rfl rfl (by intro p hp; cases p <;> simp at hp <;> rfl)
theorem set_jnl_frame {x : JnlState} : s.frame [.jnl] { s with jnl := x } :=
  .of_same rfl rfl rfl rfl (by intro p hp; cases p <;> simp at hp <;> rfl)
theorem set_csr_frame {x : CsrState} : s.frame [.csr] { s with csr := x } :=
  .of_same rfl rfl rfl rfl (by intro p hp; cases p <;> simp at hp <;> rfl)
theorem set_rst_frame {x : RstState} : s.frame [.rst] { s with rst := x } :=
  .of_same rfl rfl rfl rfl (by intro p hp; cases p <;> simp at hp <;> rfl)
theorem set_pwr_frame {x : PwrState} : s.frame [.pwr, .waiting] { s with pwr := x } :=
  .of_same rfl rfl rfl rfl (by intro p hp; cases p <;> simp at hp <;> rfl)

/-- The accesses that wait are a part beside the power controller. -/
theorem set_waiting_frame {l : List WaitingAccess} : s.frame [.waiting] { s with pwr := { s.pwr with waiting := l } } :=
  .of_same rfl rfl rfl rfl (by intro p hp; cases p <;> simp at hp <;> rfl)

theorem set_power_frame {x : PwrState} (hx : x.waiting = s.pwr.waiting) : s.frame [.pwr] { s with pwr := x } :=
  .of_same rfl rfl rfl rfl (by intro p hp; cases p <;> simp at hp <;> first | exact hx | rfl)

/-- Any event may set a pending MSI-X vector. -/
theorem set_pba_frame {x : Tab Bool} : s.frame [] { s with brg := { s.brg with pba := x } } :=
  .of_same rfl rfl rfl rfl (by intro p hp; cases p <;> rfl)

theorem updPwr_power_frame {f : PwrState → PwrState} (hf : ∀ p, (f p).waiting = p.waiting) :
    s.frame [.pwr] (s.updPwr f) := set_power_frame (hf s.pwr)

theorem updPwr_waiting_frame {f : PwrState → PwrState} (hf : ∀ p, f p = { p with waiting := (f p).waiting }) :
    s.frame [.waiting] (s.updPwr f) := by
  unfold updPwr
  rw [hf]
  exact set_waiting_frame

theorem updBrg_pba_frame {f : BrgState → BrgState} (hf : ∀ b, f b = { b with pba := (f b).pba }) :
    s.frame [] (s.updBrg f) := by
  unfold updBrg
  rw [hf]
  exact set_pba_frame

/-! ### The register store and DRAM: what keeps them canonical -/

theorem wr_frame {f : Field} {v i j : Nat} : s.frame [] (s.wr f v i j) :=
  ⟨⟨rfl, rfl, fun p _ => by cases p <;> rfl⟩, fun h => ⟨h.1, wr_rises h.2⟩⟩

theorem set_regs_frame {p : Nat → Bool} : s.frame [] { s with regs := s.regs.eraseIf p } :=
  ⟨⟨rfl, rfl, fun p _ => by cases p <;> rfl⟩, fun h => ⟨h.1, Tab.rises_filter h.2⟩⟩

theorem set_dram_frame : s.frame [.dram] { s with dram := [] } :=
  ⟨⟨rfl, rfl, fun p hp => by cases p <;> simp at hp <;> rfl⟩, fun h => ⟨Tab.wf_nil 0, h.2⟩⟩

theorem store_dram_frame {a : Nat} {bs : List Byte} : s.frame [.dram] { s with dram := s.dram.setRun 0 a bs } :=
  ⟨⟨rfl, rfl, fun p hp => by cases p <;> simp at hp <;> rfl⟩, fun h => ⟨Tab.wf_setRun h.1, h.2⟩⟩

/-! ### The outcome of a command -/

theorem begin_frame : s.frame [] s.begin := set_out_frame

/-- An event of a domain without power, clock or release does nothing. -/
theorem inDomain_frame {d : Nat} (h : s.frame ps t) : s.frame ps (s.inDomain d t) := .ite h (.any begin_frame)

namespace frameOut

theorem guardedIn {d : Nat} {ok : Bool} (h : s.frame ps t) : s.frameOut ps (guardedIn d s ok t) := .guarded (inDomain_frame h)

theorem nextIn {d : Nat} (h : s.frame ps t) : s.frameOut ps (nextIn d s t) := .next (inDomain_frame h)

end frameOut

/-- What an access carries out as a command of another row has the frame of that row. -/
theorem ran_frame {o : Host.Outcome State Fault Refusal} (h : s.frameOut ps o) : s.frame ps (s.ran o) := by
  unfold ran
  split
  · exact .after (.any set_out_frame) (h _ rfl)
  · exact .refl s

end Sys2Proof.Machine.State
end

section
/-! SUPPORT. The frames of the shared operations. -/

namespace Sys2Proof.Machine.State

variable {s : State}

theorem updFus_frame {f : FusState → FusState} : s.frame [.fus] (s.updFus f) := set_fus_frame

theorem setChan_frame {c : Nat} {x : PowChan} : s.frame [.fus] (s.setChan c x) := updFus_frame

theorem setPhy_frame {n : Nat} {x : CpdPhy} : s.frame [.fus] (s.setPhy n x) := updFus_frame

theorem emit_frame {e : Emit} : s.frame [] (s.emit e) := set_out_frame

theorem tookFree_frame : s.frame [.free] s.tookFree := set_free_frame

theorem setLink_frame {n : Nat} {l : Link} : s.frame [.links] (s.setLink n l) := set_links_frame

theorem updLink_frame {n : Nat} {f : Link → Link} : s.frame [.links] (s.updLink n f) := setLink_frame

theorem setPlane_frame {p : Nat} {x : Plane} : s.frame [.planes] (s.setPlane p x) := set_planes_frame

theorem updPlane_frame {p : Nat} {f : Plane → Plane} : s.frame [.planes] (s.updPlane p f) := setPlane_frame

theorem setEgress_frame {sp : Nat} {e : Egress} : s.frame [.sch] (s.setEgress sp e) := set_sch_frame

theorem updEgress_frame {sp : Nat} {f : Egress → Egress} : s.frame [.sch] (s.updEgress sp f) := setEgress_frame

theorem updTun_frame {f : TunState → TunState} : s.frame [.tun] (s.updTun f) := set_tun_frame

theorem updSch_frame {f : SchedState → SchedState} : s.frame [.sch] (s.updSch f) := set_sch_frame

theorem ask_frame {f : Requests → Requests} : s.frame [.sch] (s.ask f) := updSch_frame

theorem bumpBy_frame {f : Field} {n i j : Nat} : s.frame [] (s.bumpBy f n i j) := .ite wr_frame (.refl _)

theorem bump_frame {f : Field} {i j : Nat} : s.frame [] (s.bump f i j) := bumpBy_frame

theorem bumpWrap_frame {f : Field} {i j : Nat} : s.frame [] (s.bumpWrap f i j) := .ite wr_frame (.refl _)

theorem keepMax_frame {f : Field} {v i j : Nat} : s.frame [] (s.keepMax f v i j) := .ite (.refl _) (.ite wr_frame (.refl _))

theorem setPairState_frame {x v : Nat} : s.frame [] (s.setPairState x v) := .ite wr_frame wr_frame

theorem forwardIrq_frame {page b : Nat} : s.frame [] (s.forwardIrq page b) := .ite emit_frame (.refl _)

theorem countAt_frame {c n : Nat} : s.frame [] (s.countAt c n) := .after (.ite (.refl _) wr_frame) wr_frame

theorem tallyMsix_frame {ev : Nat} : s.frame [] (s.tallyMsix ev) :=
  .foldl (fun _ _ => .ite (.after forwardIrq_frame (.after wr_frame countAt_frame)) countAt_frame)

theorem msixWrite_frame {v : Nat} : s.frame [] (s.msixWrite v) :=
  .ite set_pba_frame (.after tallyMsix_frame (.after tallyMsix_frame emit_frame))

theorem pairInterrupt_frame {g : Nat} : s.frame [] (s.pairInterrupt g) := .ite emit_frame (.ite emit_frame (.refl _))

theorem notice_frame {g : Nat} : s.frame [] (s.notice g) :=
  .after (.ite msixWrite_frame (.refl _)) (.ite pairInterrupt_frame (.refl _))

theorem routing_frame {g : Nat} {act : State → State} {ps : List Part} (hact : ∀ s, State.frame s ps (act s)) :
    s.frame ps (s.routing g act) :=
  .after (.ite (.refl _) (.after (.ite (.refl _) (.any notice_frame)) (.any notice_frame))) (hact _)

theorem irq_frame {page b : Nat} : s.frame [] (s.irq page b) := .after forwardIrq_frame (routing_frame (fun _ => wr_frame))

theorem tallyAt_frame {c n : Nat} : s.frame [] (s.tallyAt c n) := .ite (.after irq_frame countAt_frame) countAt_frame

theorem tally_frame {ev n : Nat} : s.frame [] (s.tally ev n) := .foldl (fun _ _ => tallyAt_frame)

theorem dramMoves_frame {ev a n : Nat} : s.frame [.pwr] (s.dramMoves ev a n) :=
  .ite (.refl _) (.after (.mono tally_frame rfl) (set_power_frame rfl))

theorem dramWrite_frame {a : Nat} {bs : List Byte} : s.frame [.dram, .pwr] (s.dramWrite a bs) :=
  .after (.mono dramMoves_frame rfl) (.mono store_dram_frame rfl)

theorem journalAt_frame {tsw page b arg : Nat} : s.frame [.jnl] (s.journalAt tsw page b arg) :=
  .ite (.refl _) (.after (.ite (.after (.mono irq_frame rfl) (.after (.mono tally_frame rfl) (.mono bump_frame rfl))) (.refl
    _)) set_jnl_frame)

theorem event_frame {page b arg : Nat} : s.frame [.jnl] (s.event page b arg) := .after journalAt_frame (.mono irq_frame rfl)

theorem alarm_frame {page b arg : Nat} : s.frame [.jnl, .csr] (s.alarm page b arg) :=
  .after (.mono event_frame rfl) (.mono set_csr_frame rfl)

end Sys2Proof.Machine.State
end

section
/-! SUPPORT. The frames of the gate that an access passes. -/

namespace Sys2Proof.Machine.State

variable {s : State}

theorem setLatch_frame {path addr v : Nat} : s.frame [.csr] (s.setLatch path addr v) := set_csr_frame

theorem stageLo_frame {path addr : Nat} {v : Option Nat} : s.frame [.csr] (s.stageLo path addr v) := set_csr_frame

theorem capture_frame {page path : Nat} {write : Bool} {cause off data be pageField : Nat} :
    s.frame [] (s.capture page path write cause off data be pageField) :=
  .ite wr_frame (.after wr_frame (.after wr_frame (.after wr_frame (.after wr_frame (.after wr_frame (.after wr_frame (.after
    wr_frame (.after wr_frame (.after wr_frame wr_frame)))))))))

theorem deny_frame {path : Nat} {write : Bool} {addr data be : Nat} : s.frame [.jnl] (s.deny path write addr data be) :=
  .after (.after (.after event_frame (.after (.mono wr_frame rfl) (.after (.mono wr_frame rfl) (.mono wr_frame rfl)))) (.mono
    bump_frame rfl)) (.mono capture_frame rfl)

theorem asArrived_frame {m : Option Bool} : s.frame [.csr] (s.asArrived m) := set_csr_frame

/-- The mark of an access that another carries out is taken off again behind it. -/
theorem carried_frame {f : State → Option State} {ps : List Part} (hf : ∀ s, State.frameOpt s ps (f s))
    (hps : decide ([.csr] ⊆ ps) = true) : s.frameOpt ps (s.carried f) :=
  .map (fun _ => .mono set_csr_frame hps) (.after (hf _) (.mono set_csr_frame hps))

theorem queueAccess_frame {w : WaitingAccess} : s.frame [.waiting] (s.queueAccess w) := set_waiting_frame

theorem tlpIn_frame {path : Nat} : s.frame [] (s.tlpIn path) := .ite tally_frame (.refl _)

theorem answer_frame {path v : Nat} : s.frame [] (s.answer path v) := .after (.ite tally_frame (.refl _)) emit_frame

theorem gateWrite_frame {path addr data : Nat} {act : State → State} {eng : Option Nat} {ps : List Part}
    (hact : ∀ s, State.frame s ps (act s)) (hps : decide ([.jnl, .waiting] ⊆ ps) = true) :
    s.frame ps (s.gateWrite path addr data act eng) := by
  unfold gateWrite
  split
  · exact .after (hact _) (.within tlpIn_frame hps rfl)
  · exact .after (.within deny_frame hps rfl) (.within tlpIn_frame hps rfl)
  · exact .after (.within bump_frame hps rfl) (.within tlpIn_frame hps rfl)
  · exact .after (.within capture_frame hps rfl) (.after (.within bump_frame hps rfl) (.within tlpIn_frame hps rfl))
  · exact .after (.within queueAccess_frame hps rfl) (.within tlpIn_frame hps rfl)
  · exact .refl _

theorem gateRead_frame {path addr : Nat} {act : State → State} {ps : List Part}
    (hact : ∀ s, State.frame s ps (act s)) (hps : decide ([.jnl, .waiting] ⊆ ps) = true) :
    s.frame ps (s.gateRead path addr act) := by
  unfold gateRead
  split
  · exact .after (hact _) (.within tlpIn_frame hps rfl)
  · exact .after (.within answer_frame hps rfl) (.after (.within deny_frame hps rfl) (.within tlpIn_frame hps rfl))
  · exact .after (.within answer_frame hps rfl) (.after (.within bump_frame hps rfl) (.within tlpIn_frame hps rfl))
  · exact .after (.within answer_frame hps rfl)
      (.after (.within capture_frame hps rfl) (.after (.within bump_frame hps rfl) (.within tlpIn_frame hps rfl)))
  · exact .after (.within queueAccess_frame hps rfl) (.within tlpIn_frame hps rfl)
  · exact .refl _

theorem put_frame {f : Field} {v i j : Nat} : s.frame [] (s.put f v i j) := wr_frame

theorem storeField_frame {page : Nat} {f : Field} {data i j : Nat} : s.frame [] (s.storeField page f data i j) := by
  unfold storeField
  dsimp only
  split
  · exact put_frame
  · exact put_frame
  · exact .ite (.refl _) put_frame
  · exact wr_frame
  · exact wr_frame
  · exact .refl _
  · exact .refl _
  · exact .refl _

theorem store_frame {path addr data : Nat} {fs : List Field} {i j : Nat} : s.frame [] (s.store path addr data fs i j) :=
  .after (.foldl (fun _ _ => storeField_frame)) (.ite capture_frame (.refl _))

end Sys2Proof.Machine.State
end

section
/-! SUPPORT. The frames of the planes' memories. -/

namespace Sys2Proof.Machine.State

variable {s : State}

theorem readyCtl_frame {n : Nat} {b : Ctl} : s.frame [.links] (s.readyCtl n b) := updLink_frame

theorem creditDue_frame {n v : Nat} : s.frame [.links] (s.creditDue n v) :=
  .ite (.after readyCtl_frame setLink_frame) (.refl _)

theorem creditReturn_frame {n v : Nat} : s.frame [.links] (s.creditReturn n v) := .after creditDue_frame updLink_frame

theorem creditCopy_frame {id : Nat} : s.frame [.links, .sch] (s.creditCopy id) := by
  unfold creditCopy
  split
  · exact .refl _
  · exact .ite (.after (.mono creditReturn_frame rfl) (.mono updSch_frame rfl)) (.mono updSch_frame rfl)

theorem releaseAt_frame {p h k : Nat} : s.frame [.links, .planes, .sch] (s.releaseAt p h k) := by
  unfold releaseAt
  dsimp only
  split
  · exact .refl _
  · split
    · exact .refl _
    · exact .ite (.after (.mono creditCopy_frame rfl) (.mono setPlane_frame rfl)) (.mono setPlane_frame rfl)

theorem releaseFrom_frame {p h k : Nat} : s.frame [.links, .planes, .sch] (s.releaseFrom p h k) := by
  unfold releaseFrom
  split
  · exact .refl _
  · exact .foldl (fun _ _ => releaseAt_frame)

theorem forgetMember_frame {p h port : Nat} : s.frame [.planes] (s.forgetMember p h port) := by
  unfold forgetMember
  dsimp only
  split
  · exact .refl _
  · exact updPlane_frame

theorem updFence_frame {q tid sq : Nat} {g : FenceState → FenceState} : s.frame [.tun] (s.updFence q tid sq g) := updTun_frame

theorem fenceGone_frame {p q tid sq : Nat} : s.frame [.tun] (s.fenceGone p q tid sq) := updFence_frame

theorem dropMember_frame {p h port k : Nat} : s.frame [.tun, .links, .planes, .sch] (s.dropMember p h port k) := by
  unfold dropMember
  dsimp only
  refine .after (.after (.mono forgetMember_frame rfl) (.mono releaseFrom_frame rfl)) ?_
  split
  · exact .ite (.mono fenceGone_frame rfl) (.refl _)
  · exact .refl _

theorem downDisc_frame {p : Nat} : s.frame [] (s.downDisc p) := .after irq_frame (.after tally_frame bump_frame)

theorem countEntered_frame {p sp k : Nat} : s.frame [] (s.countEntered p sp k) :=
  .after wr_frame (.after tally_frame bumpBy_frame)

theorem linkVoqs_frame {p h inSp cls : Nat} {members : List (Nat × Nat)} :
    s.frame [.planes] (s.linkVoqs p h inSp cls members) :=
  .foldl (fun _ _ => updPlane_frame)

theorem liveMembers_frame {p : Nat} {e : Entry} {inSp : Nat} : s.frame [] (s.liveMembers p e inSp).1 := by
  unfold liveMembers
  dsimp only
  split
  · exact downDisc_frame
  · exact .foldl (fun _ _ => downDisc_frame)

theorem enterPlane_frame {p : Nat} {w : Waiting} {inSp cells fromProt : Nat} {fromTrunk whole : Bool} {credit : Nat} :
    s.frame [.planes] (s.enterPlane p w inSp cells fromProt fromTrunk whole credit).1 := by
  unfold enterPlane
  dsimp only
  split
  · exact .mono liveMembers_frame rfl
  · exact .after linkVoqs_frame (.after (.mono countEntered_frame rfl) (.after setPlane_frame (.mono liveMembers_frame rfl)))

theorem addCell_frame {p h inSp : Nat} {payload : List Byte} {whole : Bool} {credit : Nat} :
    s.frame [.links, .planes, .sch] (s.addCell p h inSp payload whole credit) := by
  unfold addCell
  dsimp only
  split
  · exact .mono creditCopy_frame rfl
  · exact .after (.mono countEntered_frame rfl) (.mono setPlane_frame rfl)

theorem unlinkVoqs_frame {p h : Nat} {u : PUnit} : s.frame [.planes] (s.unlinkVoqs p h u) :=
  .foldl (fun _ _ => updPlane_frame)

theorem discardOpen_frame {p h : Nat} : s.frame [.tun, .links, .planes, .sch] (s.discardOpen p h) := by
  unfold discardOpen
  dsimp only
  split
  · exact .refl _
  · exact .after (.foldl (fun _ _ => dropMember_frame)) (.mono unlinkVoqs_frame rfl)

theorem setPair_frame {q : Nat} {x : QPair} : s.frame [.sch] (s.setPair q x) := updSch_frame

theorem setQueue_frame {p q : Nat} {l : List QEnt} : s.frame [.planes] (s.setQueue p q l) := updPlane_frame

theorem tagHead_frame {q : Nat} {afterSelected : Bool} : s.frame [.sch] (s.tagHead q afterSelected) := by
  unfold tagHead
  dsimp only
  split
  · exact .refl _
  · split
    · exact setPair_frame
    · exact .ite (.refl _) (.ite setPair_frame setPair_frame)

theorem retag_frame {q : Nat} : s.frame [.sch] (s.retag q) := .after tagHead_frame setPair_frame

theorem fenceSent_frame {p q tid sq : Nat} {either : Bool} : s.frame [.tun] (s.fenceSent p q tid sq either) := updFence_frame

theorem fencePassed_frame {p q tid sq : Nat} : s.frame [.tun] (s.fencePassed p q tid sq) := updTun_frame

theorem unqueue_frame {p q h : Nat} : s.frame [.planes, .sch] (s.unqueue p q h) :=
  .after (.ite (.mono retag_frame rfl) (.refl _)) (.mono setQueue_frame rfl)

theorem missed_frame {p h port lateness : Nat} : s.frame [.tun, .links, .planes, .sch, .jnl] (s.missed p h port lateness) := by
  unfold missed
  dsimp only
  split
  · exact .refl _
  · exact .after (.after (.after (.mono event_frame rfl) (.after (.mono wr_frame rfl) (.after (.mono wr_frame rfl) (.mono
      wr_frame rfl)))) (.after (.mono tally_frame rfl) (.mono bump_frame rfl))) (.mono dropMember_frame rfl)

theorem placePinned_frame {p h port release : Nat} :
    s.frame [.tun, .links, .planes, .sch, .jnl] (s.placePinned p h port release) :=
  .ite missed_frame (.ite (.mono updPlane_frame rfl) (.ite (.after (.mono irq_frame rfl) (.after (.mono bump_frame rfl)
    (.mono dropMember_frame rfl))) (.after (.mono tally_frame rfl) (.mono updPlane_frame rfl))))

theorem joinQueue_frame {p h port q : Nat} : s.frame [.tun, .links, .planes, .sch, .jnl] (s.joinQueue p h port q) := by
  unfold joinQueue
  dsimp only
  split
  · exact .refl _
  · exact .ite (.after (.mono downDisc_frame rfl) (.mono dropMember_frame rfl)) (.ite (.after (.after (.mono irq_frame rfl)
      (.after (.mono wr_frame rfl) (.mono wr_frame rfl))) (.after (.mono tally_frame rfl) (.after (.mono bump_frame rfl)
      (.mono dropMember_frame rfl)))) (.ite placePinned_frame (.after (.mono tagHead_frame rfl) (.mono setQueue_frame rfl))))

end Sys2Proof.Machine.State
end

section
/-! SUPPORT. The frames of panel time. -/

namespace Sys2Proof.Machine.State

variable {s : State}

theorem updTim_frame {f : TimeState → TimeState} : s.frame [.tim] (s.updTim f) := set_tim_frame

theorem setTrunkTime_frame {n : Nat} {x : TrunkTime} : s.frame [.tim] (s.setTrunkTime n x) := updTim_frame

theorem setPanelNs_frame {n : Nat} : s.frame [.tim] (s.setPanelNs n) := updTim_frame

theorem movePanel_frame {d : Int} : s.frame [.tim] (s.movePanel d) := setPanelNs_frame

theorem movePanel16_frame {d : Int} : s.frame [.tim] (s.movePanel16 d) := .after updTim_frame movePanel_frame

theorem tickSlew_frame : s.frame [.tim] s.tickSlew :=
  .ite (.refl _) (.ite updTim_frame (.after (.after (.mono wr_frame rfl) movePanel_frame) updTim_frame))

theorem tickPanel_frame : s.frame [.tim] s.tickPanel := .after tickSlew_frame (.after updTim_frame movePanel_frame)

theorem captureTime_frame {c : Nat} {d : Int} : s.frame [.tim] (s.captureTime c d) := .after (.mono wr_frame rfl) updTim_frame

theorem captureAt_frame {c : Nat} {d : Int} : s.frame [.tim] (s.captureAt c d) :=
  .after (.mono bumpWrap_frame rfl) captureTime_frame

theorem recapture_frame : s.frame [.tim] s.recapture := by
  unfold recapture
  exact .foldl (fun _ _ => by
    split
    · exact .ite captureTime_frame (.refl _)
    · exact .refl _)

theorem timeEvent_frame {b : Nat} : s.frame [.jnl] (s.timeEvent b) := event_frame

theorem setSync_frame {v : Nat} : s.frame [.jnl] (s.setSync v) := .ite (.refl _) (.after timeEvent_frame (.mono wr_frame rfl))

theorem setTimeState_frame {st sync : Nat} : s.frame [.jnl] (s.setTimeState st sync) :=
  .after setSync_frame (.mono wr_frame rfl)

theorem refreshSource_frame : s.frame [.jnl] s.refreshSource :=
  .ite (.refl _) (.after (.ite setTimeState_frame (.refl _)) (.after (.mono wr_frame rfl) (.mono wr_frame rfl)))

theorem followSlot_frame {k : Nat} : s.frame [.tim, .jnl] (s.followSlot k) :=
  .after (.after (.after (.mono event_frame rfl) (.after (.mono refreshSource_frame rfl) (.mono setTimeState_frame rfl)))
    (.mono updTim_frame rfl)) (.after (.mono wr_frame rfl) (.mono wr_frame rfl))

theorem enterHoldover_frame : s.frame [.tim, .jnl] s.enterHoldover :=
  .after (.after (.after (.after (.mono timeEvent_frame rfl) (.mono event_frame rfl)) (.ite (.mono wr_frame rfl) (.refl _)))
    (.mono updTim_frame rfl)) (.after (.mono wr_frame rfl) (.mono wr_frame rfl))

theorem reselect_frame : s.frame [.tim, .jnl] s.reselect := by
  unfold reselect
  dsimp only
  split
  · exact .after (.mono refreshSource_frame rfl) (.mono updTim_frame rfl)
  · split
    · exact followSlot_frame
    · exact .ite enterHoldover_frame (.refl _)

theorem refuseStep_frame {d : Int} : s.frame [.jnl] (s.refuseStep d) := .after event_frame (.mono wr_frame rfl)

theorem slewBy_frame {d : Int} : s.frame [] (s.slewBy d) := wr_frame

theorem followerStep_frame {d : Int} {slew : Bool} : s.frame [.sch, .jnl, .free] (s.followerStep d slew) :=
  .ite (.after (.ite (.after (.mono tookFree_frame rfl) (.mono slewBy_frame rfl)) (.refl _)) (.mono refuseStep_frame rfl))
    (.mono ask_frame rfl)

theorem followerSample_frame {d : Int} {ms : Nat} : s.frame [.sch, .tim, .jnl, .free] (s.followerSample d ms) :=
  .after (.after (.after (.ite (.mono setTimeState_frame rfl) (.ite (.after (.mono setTimeState_frame rfl) (.mono
    updTim_frame rfl)) (.refl _))) (.mono updTim_frame rfl)) (.ite (.mono followerStep_frame rfl) (.after (.mono
    tookFree_frame rfl) (.after (.mono wr_frame rfl) (.mono updTim_frame rfl))))) (.ite (.mono wr_frame rfl) (.after (.mono
    tookFree_frame rfl) (.mono wr_frame rfl)))

theorem timeLinkDown_frame {n : Nat} : s.frame [.tim, .jnl] (s.timeLinkDown n) :=
  .after (.after reselect_frame (.after (.mono wr_frame rfl) (.after (.mono wr_frame rfl) (.mono wr_frame rfl)))) (.mono
    setTrunkTime_frame rfl)

theorem timeSwitched_frame {n : Nat} : s.frame [.tim] (s.timeSwitched n) := setTrunkTime_frame

theorem timeStepped_frame : s.frame [.tim] s.timeStepped := updTim_frame

theorem timeDeparts_frame {n : Nat} {b : Ctl} : s.frame [.links, .tim] (s.timeDeparts n b).1 := by
  unfold timeDeparts
  dsimp only
  split
  · exact .mono setTrunkTime_frame rfl
  · exact .after (.mono readyCtl_frame rfl) (.mono setTrunkTime_frame rfl)
  · exact .mono readyCtl_frame rfl
  · exact .refl _

end Sys2Proof.Machine.State
end

section
/-! SUPPORT. The frames of the ingress of units. -/

namespace Sys2Proof.Machine.State

variable {s : State}

theorem mapPut_frame {p i : Nat} {e : Entry} : s.frame [.tun] (s.mapPut p i e) := updTun_frame

theorem upset_frame {l : MapUpset} : s.frame [.tun] (s.upset l) := by
  unfold upset
  split
  · exact updTun_frame
  · exact updTun_frame
  · exact mapPut_frame

theorem readCopy_frame {p i : Nat} : s.frame [.tun] (s.readCopy p i).1 := by
  unfold readCopy
  split
  · exact .refl _
  · exact .after (.mono tally_frame rfl) (.after (.mono bump_frame rfl) mapPut_frame)
  · exact .after (.mono irq_frame rfl) (.after (.mono tally_frame rfl) (.mono bump_frame rfl))

theorem readMap_frame {i : Nat} : s.frame [.tun] (s.readMap i).1 := by
  unfold readMap
  dsimp only
  split
  · rename_i h1
    exact .fst h1 readCopy_frame
  · rename_i h1
    split
    · rename_i h2
      exact .after mapPut_frame (.fst h2 (.after readCopy_frame (.fst h1 readCopy_frame)))
    · rename_i h2
      exact .fst h2 (.after readCopy_frame (.fst h1 readCopy_frame))

theorem lookupMiss_frame {tid : Nat} : s.frame [] (s.lookupMiss tid) :=
  .after irq_frame (.after wr_frame (.after tally_frame bump_frame))

theorem reservedKind_frame {tid : Nat} : s.frame [] (s.reservedKind tid) := .after wr_frame (.after tally_frame bump_frame)

theorem lookup_frame {tid : Nat} : s.frame [.tun] (s.lookup tid).1 := by
  unfold lookup
  split
  · exact .mono lookupMiss_frame rfl
  · split
    · rename_i h1
      split
      · exact .after updTun_frame (.fst h1 (.after readMap_frame (.after updTun_frame (.mono tally_frame rfl))))
      · exact .after (.mono lookupMiss_frame rfl) (.fst h1 (.after readMap_frame (.after updTun_frame (.mono tally_frame
          rfl))))
    · rename_i h1
      exact .after (.mono lookupMiss_frame rfl) (.fst h1 (.after readMap_frame (.after updTun_frame (.mono tally_frame rfl))))

theorem setPolicer_frame {i : Nat} {x : Policer} : s.frame [.sch] (s.setPolicer i x) := updSch_frame

theorem police_frame {e : Entry} {cells : Nat} : s.frame [.sch] (s.police e cells).1 := by
  unfold police
  dsimp only
  split
  · exact .after (.mono tally_frame rfl) (.ite setPolicer_frame setPolicer_frame)
  · exact .refl _

theorem number_frame {tid : Nat} : s.frame [.tun] (s.number tid).1 := updTun_frame

theorem noPlane_frame {tid : Nat} {e : Entry} : s.frame [] (s.noPlane tid e) := .ite (.after bump_frame bump_frame) bump_frame

theorem noteEntered_frame {sp : Nat} {w : Waiting} {ps : List Nat} : s.frame [.sch] (s.noteEntered sp w ps) := updSch_frame

theorem tryEnter_frame {sp : Nat} {w : Waiting} : s.frame [.planes, .sch] (s.tryEnter sp w).1 := by
  unfold tryEnter
  dsimp only
  split
  · exact .mono noPlane_frame rfl
  · split
    · exact .foldl (fun _ _ => .after (.mono irq_frame rfl) (.after (.mono tally_frame rfl) (.mono bump_frame rfl)))
    · split
      · exact .after (.foldl (fun _ _ => .mono enterPlane_frame rfl)) (.mono noteEntered_frame rfl)
      · exact .foldl (fun _ _ => .mono bump_frame rfl)

theorem drainIngress_frame {sp : Nat} {l : List Waiting} : s.frame [.planes, .sch] (s.drainIngress sp l).1 := by
  induction l generalizing s with
  | nil => exact .refl s
  | cons w l ih =>
    unfold drainIngress
    split
    · rename_i h
      exact .fst h tryEnter_frame
    · rename_i h
      exact .after ih (.fst h tryEnter_frame)

theorem drainTunnels_frame {sp : Nat} {held : List Nat} {l : List Waiting} :
    s.frame [.planes, .sch] (s.drainTunnels sp held l).1 := by
  induction l generalizing s held with
  | nil =>
    unfold drainTunnels
    exact .refl s
  | cons w l ih =>
    unfold drainTunnels
    dsimp only
    split
    · exact ih
    · split
      · rename_i h
        exact .after ih (.ite (.fst h tryEnter_frame) (.refl s))
      · rename_i h
        exact .after ih (.fst h tryEnter_frame)

theorem setIngress_frame {sp : Nat} {l : List Waiting} : s.frame [.sch] (s.setIngress sp l) := updSch_frame

theorem pumpIngress_frame {sp : Nat} : s.frame [.planes, .sch] (s.pumpIngress sp) := by
  unfold pumpIngress
  dsimp only
  refine .after (.mono setIngress_frame rfl) ?_
  split
  · exact drainTunnels_frame
  · exact drainIngress_frame

theorem offer_frame {sp : Nat} {w : Waiting} : s.frame [.planes, .sch] (s.offer sp w) :=
  .after pumpIngress_frame (.mono setIngress_frame rfl)

theorem originUnitAt_frame {sp tid kind : Nat} {payload : List Byte} {tsw : Nat} :
    s.frame [.tun, .planes, .sch] (s.originUnitAt sp tid kind payload tsw) := by
  unfold originUnitAt
  dsimp only
  split
  · exact .mono bump_frame rfl
  · split
    · exact .mono reservedKind_frame rfl
    · split
      · rename_i h1
        exact .fst h1 (.mono lookup_frame rfl)
      · rename_i h1
        split
        · rename_i h2
          exact .fst h2 (.after (.mono police_frame rfl) (.fst h1 (.mono lookup_frame rfl)))
        · rename_i h2
          exact .after (.mono offer_frame rfl) (.after (.mono number_frame rfl) (.fst h2 (.after (.mono police_frame rfl)
            (.fst h1 (.mono lookup_frame rfl)))))

theorem originUnit_frame {sp tid kind : Nat} {payload : List Byte} :
    s.frame [.tun, .planes, .sch] (s.originUnit sp tid kind payload) :=
  originUnitAt_frame

theorem trunkUnit_frame {sp : Nat} {u : UnitMsg} : s.frame [.tun, .planes, .sch, .free] (s.trunkUnit sp u) := by
  unfold trunkUnit
  dsimp only
  exact .after (.ite (.after (.mono bump_frame rfl) (.after (.mono bump_frame rfl) (.after (.mono irq_frame rfl) (.mono
    bump_frame rfl)))) (.ite (.mono reservedKind_frame rfl) (by
    split
    · rename_i h1
      exact .fst h1 (.mono lookup_frame rfl)
    · rename_i h1
      split
      · rename_i h2
        exact .fst h2 (.after (.mono police_frame rfl) (.fst h1 (.mono lookup_frame rfl)))
      · rename_i h2
        exact .ite (.after (.mono noPlane_frame rfl) (.fst h2 (.after (.mono police_frame rfl) (.fst h1 (.mono lookup_frame
          rfl))))) (.after (.foldl (fun _ _ => .mono enterPlane_frame rfl)) (.fst h2 (.after (.mono police_frame rfl) (.fst
          h1 (.mono lookup_frame rfl)))))))) (.mono tookFree_frame rfl)

theorem execUnitIngress_frame {sp : Nat} {u : UnitMsg} {upsets : List MapUpset} :
    s.frameOut [.tun, .planes, .sch, .free] (execUnitIngress sp u upsets s) :=
  .guardedIn (.after (.ite trunkUnit_frame (.after (.mono originUnitAt_frame rfl) (.mono tookFree_frame rfl))) (.after
    (.foldl (fun _ _ => .mono upset_frame rfl)) (.mono begin_frame rfl)))

end Sys2Proof.Machine.State
end

section
/-! SUPPORT. The frames of the host bridge's requests and windows. -/

namespace Sys2Proof.Machine.State

variable {s : State}

theorem updBrg_frame {f : BrgState → BrgState} : s.frame [.brg] (s.updBrg f) := set_brg_frame

theorem setReq_frame {t : Nat} {r : BrgReq} : s.frame [.brg] (s.setReq t r) := updBrg_frame

theorem tlpOut_frame {e : Emit} : s.frame [] (s.tlpOut e) := .after tally_frame emit_frame

theorem completeData_frame {id status : Nat} {locked : Bool} {fuel a : Nat} {bs : List Byte} :
    s.frame [] (s.completeData id status locked fuel a bs) := by
  induction fuel generalizing s a bs with
  | zero => exact .refl s
  | succ fuel ih => exact .after (.ite (.refl _) ih) tlpOut_frame

theorem complete_frame {id status : Nat} {locked : Bool} : s.frame [] (s.complete id status locked) := tlpOut_frame

theorem owinMiss_frame : s.frame [] s.owinMiss := bump_frame

theorem winUnit_frame {w kind : Nat} {payload : List Byte} {tsw : Nat} :
    s.frame [.tun, .planes, .sch] (s.winUnit w kind payload tsw) :=
  originUnitAt_frame

theorem takeTag_frame {r : BrgReq} : s.frame [.brg] (s.takeTag r).1 := by
  unfold takeTag
  split
  · exact .refl _
  · exact .after setReq_frame updBrg_frame

theorem sendRead_frame {t : Nat} {r : BrgReq} : s.frame [.tun, .planes, .sch] (s.sendRead t r) :=
  .after winUnit_frame (.mono updSch_frame rfl)

theorem sendNow_frame {y : BrgWait} : s.frame [.tun, .planes, .sch, .brg] (s.sendNow y) := by
  unfold sendNow
  dsimp only
  split
  · exact .mono winUnit_frame rfl
  · exact .after (.mono winUnit_frame rfl) (.mono takeTag_frame rfl)
  · exact .mono winUnit_frame rfl
  · exact .after (.mono bumpWrap_frame rfl) (.mono winUnit_frame rfl)
  · exact .after (.mono sendRead_frame rfl) (.mono takeTag_frame rfl)
  · exact .after (.mono sendRead_frame rfl) (.mono takeTag_frame rfl)

theorem semTake_frame {i emu path : Nat} : s.frame [] (s.semTake i emu path) := .after wr_frame (.after wr_frame wr_frame)

theorem semFree_frame {i : Nat} : s.frame [] (s.semFree i) := .after wr_frame (.after wr_frame wr_frame)

theorem aborted_frame {l : BrgSend} : s.frame [] (s.aborted l) := by
  unfold aborted
  split
  · exact complete_frame
  · exact complete_frame
  · exact .refl _

theorem semLeft_frame {x : BrgSend} : s.frame [] (s.semLeft x) := by
  unfold semLeft
  split
  · exact semFree_frame
  · exact .refl _

theorem submit_frame {x : BrgWait} : s.frame [.tun, .planes, .sch, .brg] (s.submit x) :=
  .ite (.after (.mono bump_frame rfl) (.after (.mono semLeft_frame rfl) (.mono aborted_frame rfl))) (.ite sendNow_frame
    (.mono updBrg_frame rfl))

theorem pumpSends_frame : s.frame [.tun, .planes, .sch, .brg] s.pumpSends :=
  .after (.foldl (fun _ _ => submit_frame)) (.mono updBrg_frame rfl)

theorem accepted_frame {x : BrgSend} : s.frame [.brg] (s.accepted x).1 := updBrg_frame

theorem acceptSend_frame {x : BrgSend} : s.frame [.tun, .planes, .sch, .brg] (s.acceptSend x) :=
  .after submit_frame (.mono accepted_frame rfl)

theorem semGo_frame {x : BrgWait} : s.frame [.tun, .planes, .sch, .brg] (s.semGo x) := by
  unfold semGo
  dsimp only
  exact .after (by
    split
    · exact .after submit_frame (.mono updBrg_frame rfl)
    · exact submit_frame) (.mono semTake_frame rfl)

theorem semAsk_frame {x : BrgSend} : s.frame [.tun, .planes, .sch, .brg] (s.semAsk x) :=
  .ite (.after (.mono updBrg_frame rfl) (.mono accepted_frame rfl)) (.after semGo_frame (.mono accepted_frame rfl))

theorem unlockWin_frame {w : Nat} : s.frame [.brg] (s.unlockWin w) :=
  .ite (.refl _) (.after (.mono semFree_frame rfl) updBrg_frame)

theorem unlockAll_frame : s.frame [.brg] s.unlockAll := by
  unfold unlockAll
  split
  · exact .refl _
  · exact .foldl (fun _ _ => unlockWin_frame)

theorem owinDrained_frame {w : Nat} : s.frame [] (s.owinDrained w) := .ite (.after irq_frame wr_frame) (.refl _)

theorem freeTag_frame {t : Nat} {r : BrgReq} : s.frame [.brg] (s.freeTag t r) := .after updBrg_frame setReq_frame

theorem unlockSettled_frame : s.frame [.tun, .planes, .sch, .brg] s.unlockSettled :=
  .ite (.after pumpSends_frame (.mono unlockAll_frame rfl)) (.refl _)

theorem afterEnd_frame {w : Nat} : s.frame [.tun, .planes, .sch, .brg] (s.afterEnd w) :=
  .after (.mono owinDrained_frame rfl) (.after unlockSettled_frame pumpSends_frame)

theorem npFail_frame {w status : Nat} : s.frame [.jnl] (s.npFail w status) := .after event_frame (.mono bump_frame rfl)

theorem torn_frame {r : BrgReq} : s.frame [.jnl] (s.torn r) := .after event_frame (.mono bump_frame rfl)

theorem failRead_frame {r : BrgReq} {status : Nat} {locked : Bool} : s.frame [] (s.failRead r status locked) :=
  .ite completeData_frame complete_frame

theorem failReq_frame {r : BrgReq} {status : Nat} {quiet : Bool} : s.frame [.jnl] (s.failReq r status quiet) := by
  unfold failReq
  split
  · exact .ite (.refl _) (.mono failRead_frame rfl)
  · exact .ite (.refl _) (.mono failRead_frame rfl)
  · exact npFail_frame
  · exact .after (.mono semFree_frame rfl) (.ite (.refl _) (.mono complete_frame rfl))
  · exact .after (.mono semFree_frame rfl) (.after torn_frame (.ite (.refl _) (.mono complete_frame rfl)))

theorem endEarly_frame {f : Field} {quiet : Bool} {t : Nat} :
    s.frame [.tun, .planes, .sch, .brg, .jnl] (s.endEarly f quiet t) := by
  unfold endEarly
  dsimp only
  split
  · exact .refl _
  · exact .ite (.refl _) (.after (.after (.after (.after (.mono afterEnd_frame rfl) (.after (.mono irq_frame rfl) (.mono
      freeTag_frame rfl))) (.mono updBrg_frame rfl)) (.ite (.mono tally_frame rfl) (.refl _))) (.after (.mono bump_frame rfl)
      (.mono failReq_frame rfl)))

theorem hostWrite_frame {off : Nat} {data : List (Option Byte)} {attr : Nat} :
    s.frame [.tun, .planes, .sch, .brg] (s.hostWrite off data attr) :=
  .ite (.mono owinMiss_frame rfl) (.ite (.ite acceptSend_frame acceptSend_frame) (.ite (.mono owinMiss_frame rfl) (.ite
    (.mono owinMiss_frame rfl) (.foldl (fun _ _ => acceptSend_frame)))))

theorem winRead_frame {off len host attr : Nat} : s.frame [.tun, .planes, .sch, .brg] (s.winRead off len host attr) :=
  .ite (.after (.mono owinMiss_frame rfl) (.mono complete_frame rfl)) (.ite (.mono complete_frame rfl) (.ite (.after (.mono
    bump_frame rfl) (.mono complete_frame rfl)) acceptSend_frame))

theorem hostAtomic_frame {off op size operand compare host attr : Nat} :
    s.frame [.tun, .planes, .sch, .brg] (s.hostAtomic off op size operand compare host attr) :=
  .ite (.after (.mono owinMiss_frame rfl) (.mono complete_frame rfl)) (.ite (.mono complete_frame rfl) (.ite (.after (.mono
    bump_frame rfl) (.mono complete_frame rfl)) semAsk_frame))

theorem hostLocked_frame {off len host attr : Nat} : s.frame [.tun, .planes, .sch, .brg] (s.hostLocked off len host attr) :=
  .ite (.after (.mono owinMiss_frame rfl) (.mono complete_frame rfl)) (.ite (.mono complete_frame rfl) (.ite (.after (.mono
    bump_frame rfl) (.mono complete_frame rfl)) (.ite acceptSend_frame semAsk_frame)))

theorem hostUnlock_frame : s.frame [.tun, .planes, .sch, .brg] s.hostUnlock :=
  .after unlockSettled_frame (.mono updBrg_frame rfl)

theorem atomicDone_frame {t : Nat} {r : BrgReq} {orig : Nat} : s.frame [.tun, .planes, .sch, .brg] (s.atomicDone t r orig) :=
  .after (.after afterEnd_frame (.mono freeTag_frame rfl)) (.after (.mono tlpOut_frame rfl) (.mono semFree_frame rfl))

theorem acceptResponse_frame {t : Nat} {r : BrgReq} {status : Nat} {data : List Byte} :
    s.frame [.tun, .planes, .sch, .brg, .jnl] (s.acceptResponse t r status data) := by
  unfold acceptResponse
  dsimp only
  split
  · exact .ite (.after (.after (.mono afterEnd_frame rfl) (.mono freeTag_frame rfl)) (.mono completeData_frame rfl)) (.after
      (.mono afterEnd_frame rfl) (.after (.mono freeTag_frame rfl) (.mono complete_frame rfl)))
  · exact .ite (.after (.after (.mono afterEnd_frame rfl) (.mono freeTag_frame rfl)) (.mono completeData_frame rfl)) (.after
      (.mono afterEnd_frame rfl) (.after (.mono freeTag_frame rfl) (.mono complete_frame rfl)))
  · exact .after (.after (.mono afterEnd_frame rfl) (.mono freeTag_frame rfl)) (.ite (.refl _) (.mono npFail_frame rfl))
  · split
    · split
      · exact .mono atomicDone_frame rfl
      · exact .after (.mono winUnit_frame rfl) (.mono setReq_frame rfl)
    · exact .after (.mono afterEnd_frame rfl) (.after (.mono freeTag_frame rfl) (.mono failReq_frame rfl))
  · exact .ite (.mono atomicDone_frame rfl) (.after (.mono afterEnd_frame rfl) (.after (.mono freeTag_frame rfl) (.mono
      failReq_frame rfl)))

theorem bridgeResponse_frame {u : UnitMsg} : s.frame [.tun, .planes, .sch, .brg, .jnl] (s.bridgeResponse u) := by
  unfold bridgeResponse
  dsimp only
  split
  · exact .ite (.ite (.after (.mono irq_frame rfl) (.mono bump_frame rfl)) (.ite acceptResponse_frame (.mono bump_frame
      rfl))) (.mono bump_frame rfl)
  · exact .mono bump_frame rfl

theorem bridgeQuiet_frame {p : BrgReq → Bool} : s.frame [.tun, .planes, .sch, .brg, .jnl] (s.bridgeQuiet p) :=
  .after (.after (.after (.foldl (fun _ _ => endEarly_frame)) (.after (.mono pumpSends_frame rfl) (.mono unlockAll_frame
    rfl))) (.mono updBrg_frame rfl)) (.foldl (fun _ _ => .mono semLeft_frame rfl))

theorem semsOfHost_frame : s.frame [] s.semsOfHost := .foldl (fun _ _ => .ite semFree_frame (.refl _))

theorem flr_frame : s.frame [.tun, .planes, .sch, .brg, .jnl] s.flr :=
  .after (.after (.after (.after (.mono irq_frame rfl) (.mono bump_frame rfl)) (.after (.mono semsOfHost_frame rfl)
    bridgeQuiet_frame)) (.mono updBrg_frame rfl)) (.after (.mono wr_frame rfl) (.after (.mono wr_frame rfl) (.mono wr_frame
    rfl)))

theorem hostRead_frame {space : HostSpace} {off len host attr : Nat} :
    s.frame [.tun, .planes, .sch, .brg, .free] (s.hostRead space off len host attr) := by
  unfold hostRead
  dsimp only
  split
  · exact .mono winRead_frame rfl
  · exact .after (.mono set_free_frame rfl) (.mono completeData_frame rfl)
  · exact .after (.mono set_free_frame rfl) (.mono completeData_frame rfl)

theorem msixFlush_frame : s.frame [] s.msixFlush := .foldl (fun _ _ => .after msixWrite_frame (updBrg_pba_frame fun _ => rfl))

theorem hostConfig_frame {bme mps mrrs : Nat} {msixEn : Bool} {conf : HostConf} :
    s.frame [.brg] (s.hostConfig bme mps mrrs msixEn conf) :=
  .after (.mono msixFlush_frame rfl) (.after updBrg_frame (.after (.mono wr_frame rfl) (.after (.mono wr_frame rfl) (.mono
    wr_frame rfl))))

theorem hostVector_frame {v addr data : Nat} {masked : Bool} : s.frame [.brg] (s.hostVector v addr data masked) :=
  .after (.mono msixFlush_frame rfl) updBrg_frame

theorem hostTakes_frame {l : HostReq} : s.frame [.tun, .planes, .sch, .brg, .free] (s.hostTakes l) := by
  unfold hostTakes
  split
  · exact .mono hostWrite_frame rfl
  · exact hostRead_frame
  · exact .mono hostAtomic_frame rfl
  · exact .mono hostLocked_frame rfl
  · exact .mono hostUnlock_frame rfl
  · exact .mono hostConfig_frame rfl
  · exact .mono hostVector_frame rfl

theorem hostAsks_frame {r : HostReq} : s.frame [.tun, .planes, .sch, .brg, .waiting, .free] (s.hostAsks r) :=
  .ite (.mono queueAccess_frame rfl) (.mono hostTakes_frame rfl)

theorem hostPump_frame {fuel : Nat} : s.frame [.tun, .planes, .sch, .brg, .waiting, .free] (s.hostPump fuel) := by
  induction fuel generalizing s with
  | zero => exact .refl s
  | succ fuel ih =>
    unfold hostPump
    split
    · split
      · exact .ite (.refl s) (.after ih (.after (.mono hostTakes_frame rfl) (.mono set_waiting_frame rfl)))
      · exact .refl s
    · exact .refl s

theorem iwinDrained_frame {i : Nat} : s.frame [] (s.iwinDrained i) := .ite (.after irq_frame wr_frame) (.refl _)

theorem answersEntered_frame : s.frame [.brg] s.answersEntered := updBrg_frame

theorem bridgeSettled_frame : s.frame [.tun, .planes, .sch, .brg, .waiting, .free] s.bridgeSettled :=
  .after (.after hostPump_frame (.foldl (fun _ _ => .mono iwinDrained_frame rfl))) (.after (.foldl (fun _ _ => .mono
    owinDrained_frame rfl)) (.after (.mono unlockSettled_frame rfl) (.after (.mono pumpSends_frame rfl) (.mono
    answersEntered_frame rfl))))

theorem lockLostAt_frame {w : Nat} : s.frame [.brg] (s.lockLostAt w) := .after unlockWin_frame updBrg_frame

theorem bridgeTrunkDown_frame {n : Nat} : s.frame [.tun, .planes, .sch, .brg, .jnl, .waiting, .free] (s.bridgeTrunkDown n) := by
  unfold bridgeTrunkDown
  exact .after (.after (.after (.after (.mono bridgeSettled_frame rfl) (.after (.foldl (fun _ _ => .mono endEarly_frame rfl))
    (.mono pumpSends_frame rfl))) (.foldl (fun _ _ => .after (.mono bump_frame rfl) (.mono aborted_frame rfl)))) (.mono
    updBrg_frame rfl)) (.foldl (fun _ _ => .mono lockLostAt_frame rfl))

theorem bridgePlaneOne_frame {t : Nat} : s.frame [.tun, .planes, .sch, .brg, .jnl] (s.bridgePlaneOne t) := by
  unfold bridgePlaneOne
  dsimp only
  split
  · exact .refl _
  · exact .ite (.after (.after (.mono sendRead_frame rfl) (.mono setReq_frame rfl)) (.mono updBrg_frame rfl)) endEarly_frame

theorem bridgePlaneFailed_frame {p : Nat} :
    s.frame [.tun, .planes, .sch, .brg, .jnl, .waiting, .free] (s.bridgePlaneFailed p) := by
  unfold bridgePlaneFailed
  exact .after (.mono bridgeSettled_frame rfl) (.foldl (fun _ _ => .mono bridgePlaneOne_frame rfl))

theorem hostCommand_frame {ok : Bool} {r : HostReq} :
    s.frameOut [.tun, .planes, .sch, .brg, .waiting, .free] (hostCommand s ok r) :=
  .guardedIn (.after hostAsks_frame (.after (.mono tally_frame rfl) (.mono begin_frame rfl)))

theorem execHostWrite_frame {off attr : Nat} {data : List (Option Byte)} :
    s.frameOut [.tun, .planes, .sch, .brg, .waiting, .free] (execHostWrite off attr data s) :=
  hostCommand_frame

theorem execHostRead_frame {place : HostPlace} {len host attr : Nat} :
    s.frameOut [.tun, .planes, .sch, .brg, .waiting, .free] (execHostRead place len host attr s) :=
  hostCommand_frame

theorem execHostAtomic_frame {off op size operand compare host attr : Nat} :
    s.frameOut [.tun, .planes, .sch, .brg, .waiting, .free] (execHostAtomic off op size operand compare host attr s) :=
  hostCommand_frame

theorem execHostLockedRead_frame {off len host attr : Nat} :
    s.frameOut [.tun, .planes, .sch, .brg, .waiting, .free] (execHostLockedRead off len host attr s) :=
  hostCommand_frame

theorem execHostUnlock_frame : s.frameOut [.tun, .planes, .sch, .brg, .waiting, .free] (execHostUnlock s) := hostCommand_frame

theorem execHbrFence_frame {path w : Nat} : s.frameOut [.tun, .planes, .sch, .brg, .jnl, .waiting] (execHbrFence path w s) :=
  .guarded (.after (gateWrite_frame (fun _ => .mono acceptSend_frame rfl) rfl) (.mono begin_frame rfl))

theorem execSemaphoreAcquired_frame {i : Nat} : s.frameOut [.tun, .planes, .sch, .brg] (execSemaphoreAcquired i s) := by
  unfold execSemaphoreAcquired
  dsimp only
  exact .guardedIn (.after (by
    split
    · exact .ite (.refl _) (.after semGo_frame (.mono updBrg_frame rfl))
    · exact .refl _) (.mono begin_frame rfl))

theorem execSemWaitTimeout_frame {i : Nat} : s.frameOut [.brg] (execSemWaitTimeout i s) := by
  unfold execSemWaitTimeout
  dsimp only
  exact .guardedIn (.after (by
    split
    · exact .after (.after (.mono owinDrained_frame rfl) (.after (.mono irq_frame rfl) (.mono bump_frame rfl))) (.after
        (.mono aborted_frame rfl) updBrg_frame)
    · exact .refl _) (.mono begin_frame rfl))

theorem execHbrReadTimeout_frame {t : Nat} :
    s.frameOut [.tun, .planes, .sch, .brg, .jnl, .waiting, .free] (execHbrReadTimeout t s) :=
  .guardedIn (.after (.mono bridgeSettled_frame rfl) (.after (.mono endEarly_frame rfl) (.mono begin_frame rfl)))

theorem execLockTimeout_frame : s.frameOut [.tun, .planes, .sch, .brg, .waiting, .free] (execLockTimeout s) :=
  .nextIn (.ite (.after bridgeSettled_frame (.after (.mono irq_frame rfl) (.after (.mono bump_frame rfl) (.after (.mono
    unlockAll_frame rfl) (.mono begin_frame rfl))))) (.mono begin_frame rfl))

theorem execHbrSemRead_frame {path i : Nat} : s.frameOut [.jnl, .waiting] (execHbrSemRead path i s) :=
  .guarded (.after (gateRead_frame (fun _ => .after (.mono answer_frame rfl) (.ite (.refl _) (.mono semTake_frame rfl))) rfl)
    (.mono begin_frame rfl))

theorem execHbrSemRelease_frame {path i : Nat} : s.frameOut [.jnl, .waiting] (execHbrSemRelease path i s) :=
  .guarded (.after (gateWrite_frame (fun _ => .ite (.mono semFree_frame rfl) (.refl _)) rfl) (.mono begin_frame rfl))

theorem execFlr_frame : s.frameOut [.tun, .planes, .sch, .brg, .jnl, .waiting, .free] (execFlr s) :=
  .nextIn (.after (.mono bridgeSettled_frame rfl) (.after (.mono flr_frame rfl) (.mono begin_frame rfl)))

theorem execHostLinkUp_frame {width gen : Nat} : s.frameOut [.brg] (execHostLinkUp width gen s) :=
  .guardedIn (.after (.after (.after (.after (.mono msixFlush_frame rfl) (.after (.mono irq_frame rfl) (.mono wr_frame rfl)))
    updBrg_frame) (.after (.mono wr_frame rfl) (.mono wr_frame rfl))) (.mono begin_frame rfl))

theorem execHostConfigWrite_frame {bme mps mrrs : Nat} {msixEn : Bool} {conf : HostConf} :
    s.frameOut [.tun, .planes, .sch, .brg, .waiting, .free] (execHostConfigWrite bme mps mrrs msixEn conf s) :=
  hostCommand_frame

theorem execMsixUnmask_frame {v addr : Nat} {word : MsixWord} :
    s.frameOut [.tun, .planes, .sch, .brg, .waiting, .free] (execMsixUnmask v addr word s) :=
  hostCommand_frame

end Sys2Proof.Machine.State
end

section
/-! SUPPORT. The frames of the engines' images. -/

namespace Sys2Proof.Machine.State

variable {s : State}

theorem updEng_frame {f : EngsState → EngsState} : s.frame [.eng] (s.updEng f) := set_eng_frame

theorem setEngine_frame {e : Nat} {x : EngState} : s.frame [.eng] (s.setEngine e x) := updEng_frame

theorem setLog_frame {l : Nat} {x : LogEng} : s.frame [.eng] (s.setLog l x) := updEng_frame

theorem updLog_frame {l : Nat} {f : LogEng → LogEng} : s.frame [.eng] (s.updLog l f) := setLog_frame

end Sys2Proof.Machine.State
end

section
/-! SUPPORT. The frames of the links' states. -/

namespace Sys2Proof.Machine.State

variable {s : State}

theorem purgeUnit_frame {n p : Nat} {sentOf : Nat → Option Nat} {keep : Bool} {h : Nat} :
    s.frame [.tun, .links, .planes, .sch] (s.purgeUnit n p sentOf keep h) := by
  unfold purgeUnit
  split
  · exact .ite (.refl _) dropMember_frame
  · exact .after (.mono downDisc_frame rfl) dropMember_frame

theorem purgePlane_frame {n : Nat} {keep : Bool} {p : Nat} : s.frame [.tun, .links, .planes, .sch] (s.purgePlane n keep p) :=
  .after (.foldl (fun _ _ => purgeUnit_frame)) (.mono updPlane_frame rfl)

theorem purgePort_frame {n : Nat} {keep : Bool} : s.frame [.tun, .links, .planes, .sch] (s.purgePort n keep) :=
  .after (.after (.after (.mono updEgress_frame rfl) (.mono updTun_frame rfl)) (.mono updSch_frame rfl)) (.after
    purgePlane_frame purgePlane_frame)

theorem dropToward_frame {p n h : Nat} : s.frame [.tun, .links, .planes, .sch] (s.dropToward p n h) := by
  unfold dropToward
  dsimp only
  split
  · exact .refl _
  · exact .after (.after (.after (.after dropMember_frame (.mono updEgress_frame rfl)) (.mono updPlane_frame rfl)) (.foldl
      (fun _ _ => .mono unqueue_frame rfl))) (.mono unlinkVoqs_frame rfl)

theorem dropTunnel_frame {n tid : Nat} : s.frame [.tun, .links, .planes, .sch] (s.dropTunnel n tid) :=
  .after (.mono updTun_frame rfl) (.foldl (fun _ _ => .foldl (fun _ _ => dropToward_frame)))

theorem dropOpens_frame {n : Nat} : s.frame [.tun, .links, .planes, .sch] (s.dropOpens n) :=
  .after (.mono updLink_frame rfl) (.foldl (fun _ _ => .foldl (fun _ _ => discardOpen_frame)))

theorem dropReservation_frame {n : Nat} : s.frame [.planes, .sch] (s.dropReservation n) :=
  .after (.mono updSch_frame rfl) (.foldl (fun _ _ => .mono updPlane_frame rfl))

theorem stallEnds_frame {n : Nat} : s.frame [.links] (s.stallEnds n) := by
  unfold stallEnds
  split
  · exact .refl _
  · exact .after updLink_frame (.mono bumpBy_frame rfl)

theorem dropTraffic_frame {n : Nat} : s.frame [.tun, .links, .planes, .sch] (s.dropTraffic n) := by
  unfold dropTraffic
  exact .after (.after (.after (.mono updLink_frame rfl) (.after (.mono dropReservation_frame rfl) (.after dropOpens_frame
    purgePort_frame))) (.mono bumpBy_frame rfl)) (.mono stallEnds_frame rfl)

theorem idleLink_frame {n : Nat} : s.frame [.links] (s.idleLink n) := updLink_frame

theorem dropSubst_frame {n : Nat} : s.frame [.links] (s.dropSubst n) := .after (.mono wr_frame rfl) updLink_frame

theorem declareDown_frame {n cause : Nat} :
    s.frame [.tun, .planes, .sch, .brg, .tim, .jnl, .waiting, .free] (s.declareDown n cause) := by
  unfold declareDown
  exact .after (.after (.mono bridgeTrunkDown_frame rfl) (.after (.mono timeLinkDown_frame rfl) (.mono event_frame rfl)))
    (.after (.mono bump_frame rfl) (.after (.mono wr_frame rfl) (.mono wr_frame rfl)))

theorem enterDown_frame {n cause : Nat} : s.frame [.links] (s.enterDown n cause) :=
  .after dropSubst_frame (.after idleLink_frame (.after (.mono wr_frame rfl) (.after (.mono wr_frame rfl) (.mono wr_frame
    rfl))))

theorem enterHalt_frame {n cause : Nat} : s.frame [.links] (s.enterHalt n cause) :=
  .after (.mono irq_frame rfl) (.after idleLink_frame (.after (.mono wr_frame rfl) (.after (.mono wr_frame rfl) (.mono
    wr_frame rfl))))

theorem linkToDown_frame {n cause : Nat} :
    s.frame [.tun, .links, .planes, .sch, .brg, .tim, .jnl, .waiting, .free] (s.linkToDown n cause) :=
  .after (.ite (.after (.mono dropTraffic_frame rfl) (.mono declareDown_frame rfl)) (.ite (.mono dropTraffic_frame rfl)
    (.refl _))) (.mono enterDown_frame rfl)

theorem linkToHalt_frame {n cause : Nat} :
    s.frame [.tun, .links, .planes, .sch, .brg, .tim, .jnl, .waiting, .free] (s.linkToHalt n cause) :=
  .after (.ite (.after (.mono dropTraffic_frame rfl) (.mono declareDown_frame rfl)) (.refl _)) (.mono enterHalt_frame rfl)

theorem linkToDrain_frame {n : Nat} :
    s.frame [.tun, .links, .planes, .sch, .brg, .tim, .jnl, .waiting, .free] (s.linkToDrain n) :=
  .after (.mono purgePort_frame rfl) (.after (.mono declareDown_frame rfl) (.mono wr_frame rfl))

theorem drained_frame {n : Nat} : s.frame [.tun, .links, .planes, .sch, .brg, .tim, .jnl, .waiting, .free] (s.drained n) :=
  .ite linkToDown_frame (.refl _)

theorem reserve_frame {p n total : Nat} : s.frame [.planes] (s.reserve p n total).1 := by
  unfold reserve
  split
  · exact updPlane_frame
  · exact .mono irq_frame rfl

theorem reserveAll_frame {n total : Nat} : s.frame [.planes] (s.reserveAll n total).1 := by
  unfold reserveAll
  refine .foldlFst (p := (s, true)) fun p x => ?_
  exact reserve_frame

theorem learnAtUp_frame {n : Nat} : s.frame [.links] (s.learnAtUp n) :=
  .ite (.after (.mono wr_frame rfl) setLink_frame) (.refl _)

theorem enterUp_frame {n vcs v21 : Nat} :
    s.frame [.tun, .links, .planes, .sch, .brg, .tim, .jnl, .waiting, .free] (s.enterUp n vcs v21) :=
  .ite (.after linkToHalt_frame (.after (.mono dropReservation_frame rfl) (.mono reserveAll_frame rfl))) (.after (.after
    (.after (.after (.after (.ite (.mono irq_frame rfl) (.refl _)) (.after (.mono learnAtUp_frame rfl) (.mono irq_frame
    rfl))) (.mono updTun_frame rfl)) (.foldl (fun _ _ => .mono readyCtl_frame rfl))) (.mono updLink_frame rfl)) (.after
    (.mono wr_frame rfl) (.after (.mono wr_frame rfl) (.after (.mono wr_frame rfl) (.mono reserveAll_frame rfl)))))

end Sys2Proof.Machine.State
end

section
/-! SUPPORT. The frames of a plane that fails. -/

namespace Sys2Proof.Machine.State

variable {s : State}

theorem updRgm_frame {f : RgmState → RgmState} : s.frame [.rgm] (s.updRgm f) := set_rgm_frame

theorem grant_frame {p : Nat} : s.frame [.planes] (s.grant p) :=
  .after (.after (.after (.after (.mono irq_frame rfl) (.mono irq_frame rfl)) (.mono wr_frame rfl)) (.after (.mono wr_frame
    rfl) (.mono wr_frame rfl))) (.after (.foldl (fun _ _ => updPlane_frame)) (.mono wr_frame rfl))

theorem loseAuth_frame {p : Nat} : s.frame [] (s.loseAuth p) := irq_frame

theorem noAuth_frame : s.frame [] s.noAuth := .after irq_frame wr_frame

theorem regrant_frame : s.frame [.tun, .mcg] s.regrant :=
  .after (t := { s with tun := { s.tun with commitEpoch := s.rd R.RGM_EPOCH } }) (.mono set_mcg_frame rfl) (.mono set_tun_frame rfl)

theorem passAuth_frame {p : Nat} : s.frame [.tun, .planes, .mcg] (s.passAuth p) :=
  .after (.ite (.after (.mono regrant_frame rfl) (.mono grant_frame rfl)) (.mono noAuth_frame rfl)) (.mono loseAuth_frame rfl)

theorem handover_frame : s.frame [.planes] s.handover :=
  .ite (.after grant_frame (.after (.mono loseAuth_frame rfl) (.mono wr_frame rfl))) (.refl _)

theorem afterCommit_frame : s.frame [.planes, .rgm] s.afterCommit :=
  .ite (.after (.mono handover_frame rfl) (.mono updRgm_frame rfl)) (.refl _)

theorem failEgressOne_frame {n p level : Nat} {x : Sending} : s.frame [.tun, .links] (s.failEgressOne n p level x) :=
  .ite (.refl _) (.after (.ite (.mono updLink_frame rfl) (.refl _)) (.ite (.mono updTun_frame rfl) (.refl _)))

theorem failEgress_frame {p n : Nat} : s.frame [.tun, .links, .sch] (s.failEgress p n) := by
  unfold failEgress
  dsimp only
  refine .after (.mono updEgress_frame rfl) ?_
  exact .foldl (fun _ _ => by
    split
    · exact .mono failEgressOne_frame rfl
    · exact .refl _)

theorem failFences_frame {p : Nat} : s.frame [.tun] (s.failFences p) := updTun_frame

theorem moveTunnel_frame {p : Nat} {x : Nat × Entry} : s.frame [.tun] (s.moveTunnel p x) := .ite updTun_frame (.refl _)

theorem failCredits_frame {p : Nat} : s.frame [.links, .sch] (s.failCredits p) :=
  .foldl (fun _ _ => .foldl (fun _ _ => creditCopy_frame))

theorem loseUnits_frame {p : Nat} : s.frame [.planes] (s.loseUnits p) := updPlane_frame

theorem failOpens_frame {p n : Nat} : s.frame [.links] (s.failOpens p n) := updLink_frame

theorem failTags_frame {sent qs : List Nat} : s.frame [.sch] (s.failTags sent qs) :=
  .after (.foldl (fun _ _ => tagHead_frame)) (.foldl (fun _ _ => tagHead_frame))

theorem tellFailure_frame {p : Nat} : s.frame [.tun, .links, .planes, .sch, .brg, .jnl, .waiting, .free] (s.tellFailure p) := by
  unfold tellFailure
  exact .after (.after (.after (.after (.after (.mono bridgePlaneFailed_frame rfl) (.ite (.foldl (fun _ _ => .mono
    moveTunnel_frame rfl)) (.refl _))) (.after (.mono failTags_frame rfl) (.after (.mono loseUnits_frame rfl) (.mono
    failCredits_frame rfl)))) (.foldl (fun _ _ => .mono failOpens_frame rfl))) (.foldl (fun _ _ => .mono failEgress_frame
    rfl))) (.mono failFences_frame rfl)

theorem declareFailed_frame {p cause : Nat} :
    s.frame [.tun, .links, .planes, .mcg, .sch, .brg, .jnl, .waiting, .free] (s.declareFailed p cause) :=
  .ite (.mono wr_frame rfl) (.ite (.refl _) (.after (.after (.after (.after (.after (.after (.mono tellFailure_frame rfl)
    (.mono event_frame rfl)) (.after (.mono bump_frame rfl) (.mono irq_frame rfl))) (.ite (.mono passAuth_frame rfl) (.refl
    _))) (.after (.mono updPlane_frame rfl) (.mono updPlane_frame rfl))) (.after (.mono wr_frame rfl) (.mono wr_frame rfl)))
    (.mono updPlane_frame rfl)))

theorem emptyPlane_frame {p : Nat} : s.frame [.planes, .sch] (s.emptyPlane p) :=
  .after (.after (.after (.mono wr_frame rfl) (.mono wr_frame rfl)) (.mono updSch_frame rfl)) (.after (.mono updPlane_frame
    rfl) (.mono loseUnits_frame rfl))

theorem beginRestart_frame {p : Nat} : s.frame [.planes, .sch] (s.beginRestart p) :=
  .after emptyPlane_frame (.mono wr_frame rfl)

theorem reload_frame {p : Nat} : s.frame [.tun, .planes] (s.reload p) :=
  .ite (.after (.mono updPlane_frame rfl) (.mono updTun_frame rfl)) (.refl _)

theorem reserveLinks_frame {p : Nat} :
    s.frame [.tun, .links, .planes, .sch, .brg, .tim, .jnl, .waiting, .free] (s.reserveLinks p) :=
  .foldl (fun _ _ => .ite (.mono reserve_frame rfl) (.after linkToHalt_frame (.mono reserve_frame rfl)))

theorem enterService_frame {p : Nat} :
    s.frame [.tun, .links, .planes, .sch, .brg, .tim, .jnl, .waiting, .free] (s.enterService p) :=
  .ite (.refl _) (.after (.after (.after (.mono updPlane_frame rfl) (.mono irq_frame rfl)) (.after (.mono wr_frame rfl)
    (.after reserveLinks_frame (.mono reload_frame rfl)))) (.mono updPlane_frame rfl))

theorem execPlaneFatalError_frame {p : Nat} :
    s.frameOut [.tun, .links, .planes, .mcg, .sch, .brg, .jnl, .waiting, .free] (execPlaneFatalError p s) :=
  .guardedIn (.after declareFailed_frame (.mono begin_frame rfl))

theorem execPlanePowerLost_frame {p : Nat} :
    s.frameOut [.tun, .links, .planes, .mcg, .sch, .brg, .jnl, .waiting, .free] (execPlanePowerLost p s) :=
  .guardedIn (.after declareFailed_frame (.mono begin_frame rfl))

theorem execPlaneHeartbeatMiss_frame {p missed : Nat} :
    s.frameOut [.tun, .links, .planes, .mcg, .sch, .brg, .jnl, .waiting, .free] (execPlaneHeartbeatMiss p missed s) :=
  .guardedIn (.after (.ite declareFailed_frame (.refl _)) (.mono begin_frame rfl))

theorem execPlaneDisable_frame {path p data : Nat} :
    s.frameOut [.tun, .links, .planes, .mcg, .sch, .brg, .jnl, .waiting, .free] (execPlaneDisable path p data s) :=
  .guarded (.after (gateWrite_frame (fun _ => .after (.after (.ite declareFailed_frame (.ite (.refl _) (.mono wr_frame rfl)))
    (.mono wr_frame rfl)) (.mono store_frame rfl)) rfl) (.mono begin_frame rfl))

theorem execPlaneEnable_frame {path p data : Nat} :
    s.frameOut [.planes, .sch, .jnl, .waiting] (execPlaneEnable path p data s) :=
  .guarded (.after (gateWrite_frame (fun _ => .after (.after (.ite (.mono beginRestart_frame rfl) (.refl _)) (.mono wr_frame
    rfl)) (.mono store_frame rfl)) rfl) (.mono begin_frame rfl))

theorem execPlaneRestartBegin_frame {p : Nat} : s.frameOut [.planes, .sch] (execPlaneRestartBegin p s) :=
  .guardedIn (.after (.ite (.after beginRestart_frame (.mono updPlane_frame rfl)) (.refl _)) (.mono begin_frame rfl))

theorem execPlaneRestartCmd_frame {path p : Nat} :
    s.frameOut [.planes, .sch, .jnl, .waiting] (execPlaneRestartCmd path p s) :=
  .guarded (.after (gateWrite_frame (fun _ => .ite (.mono wr_frame rfl) (.ite (.after (.mono beginRestart_frame rfl) (.mono
    wr_frame rfl)) (.mono wr_frame rfl))) rfl) (.mono begin_frame rfl))

theorem execPlaneEnterService_frame {p : Nat} :
    s.frameOut [.tun, .links, .planes, .sch, .brg, .tim, .jnl, .waiting, .free] (execPlaneEnterService p s) :=
  .guardedIn (.after enterService_frame (.mono begin_frame rfl))

end Sys2Proof.Machine.State
end

section
/-! SUPPORT. The frames of the link layer's commands. -/

namespace Sys2Proof.Machine.State

variable {s : State}

theorem sendAlign_frame {n after : Nat} : s.frame [.links, .free] (s.sendAlign n after) :=
  .after (.mono updLink_frame rfl) (.foldl (fun _ _ => .after (.mono tookFree_frame rfl) (.mono emit_frame rfl)))

theorem sendPrbs_frame {n k : Nat} : s.frame [] (s.sendPrbs n k) := .ite (.refl _) (.foldl (fun _ _ => emit_frame))

theorem passBlocks_frame {n k : Nat} {prbs : Bool} : s.frame [.links, .free] (s.passBlocks n k prbs) :=
  .ite (.after (.mono sendPrbs_frame rfl) (.mono updLink_frame rfl)) (.after (.mono sendPrbs_frame rfl) (.after
    sendAlign_frame (.after (.mono sendPrbs_frame rfl) (.mono updLink_frame rfl))))

theorem ranBlocks_frame {n k : Nat} : s.frame [.links, .free] (s.ranBlocks n k) := passBlocks_frame

theorem sentBlocks_frame {n k : Nat} : s.frame [.links, .free] (s.sentBlocks n k) :=
  .after ranBlocks_frame (.mono updLink_frame rfl)

theorem sendOnLanes_frame {n : Nat} {b : Ctl} : s.frame [.links, .free] (s.sendOnLanes n b) :=
  .after passBlocks_frame (.foldl (fun _ _ => .mono emit_frame rfl))

theorem ackTrigger_frame {n : Nat} : s.frame [.links] (s.ackTrigger n) := updLink_frame

theorem ackCount_frame {n : Nat} : s.frame [.links] (s.ackCount n) := .after (.ite ackTrigger_frame (.refl _)) updLink_frame

theorem setOpen_frame {n v : Nat} {u : Option OpenUnit} : s.frame [.links] (s.setOpen n v u) := updLink_frame

theorem giveUp_frame {n v : Nat} : s.frame [.links] (s.giveUp n v) := .ite creditReturn_frame (.refl _)

theorem dropOpen_frame {n v : Nat} : s.frame [.tun, .links, .planes, .sch] (s.dropOpen n v) := by
  unfold dropOpen
  split
  · exact .refl _
  · exact .after (.mono setOpen_frame rfl) (.foldl (fun _ _ => discardOpen_frame))

theorem framingError_frame {n : Nat} {c : Cell} {oversize : Bool} :
    s.frame [.tun, .links, .planes, .sch] (s.framingError n c oversize) :=
  .after (.after (.ite (.after (.mono bump_frame rfl) (.mono bump_frame rfl)) (.refl _)) (.after (.mono irq_frame rfl) (.mono
    bump_frame rfl))) (.after (.mono giveUp_frame rfl) dropOpen_frame)

theorem creditRecord_frame {n v k : Nat} : s.frame [.sch] (s.creditRecord n v k).1 := updSch_frame

theorem closeOrKeep_frame {n : Nat} {c : Cell} {u : OpenUnit} : s.frame [.links] (s.closeOrKeep n c u) := setOpen_frame

theorem firstCell_frame {n : Nat} {c : Cell} {arrival : Nat} :
    s.frame [.tun, .links, .planes, .sch] (s.firstCell n c arrival) := by
  unfold firstCell
  extract_lets u
  split
  · exact .after (.mono closeOrKeep_frame rfl) (.after (.mono giveUp_frame rfl) (.mono reservedKind_frame rfl))
  · split
    · rename_i h1
      exact .after (.mono closeOrKeep_frame rfl) (.after (.mono giveUp_frame rfl) (.fst h1 (.mono lookup_frame rfl)))
    · rename_i t e h1
      have hl : s.frame [.tun, .links, .planes, .sch] t := .fst h1 (.mono lookup_frame rfl)
      extract_lets r t' u' ps w id r' t''
      have hr : s.frame [.tun, .links, .planes, .sch] r.1 := by
        unfold r
        split
        · exact hl
        · exact .after (.mono police_frame rfl) hl
      have hr' : r.1.frame [.tun, .links, .planes, .sch] r'.1 := by
        refine .foldlFst (p := (t', [])) fun p x => ?_
        exact .mono enterPlane_frame rfl
      have ht : s.frame [.tun, .links, .planes, .sch] t'' :=
        .after (.ite (.mono giveUp_frame rfl) (.mono creditRecord_frame rfl)) (.after hr' hr)
      exact .ite (.after (.mono closeOrKeep_frame rfl) (.after (.mono giveUp_frame rfl) hr)) (.ite
        (.after (.mono closeOrKeep_frame rfl) (.after (.mono giveUp_frame rfl) (.after (.mono noPlane_frame rfl) hr)))
        (.after (.mono closeOrKeep_frame rfl) ht))

theorem nextCell_frame {n : Nat} {c : Cell} {u : OpenUnit} : s.frame [.tun, .links, .planes, .sch] (s.nextCell n c u) := by
  unfold nextCell
  dsimp only
  exact .after (.after (.ite (by
    split
    · exact .refl _
    · exact .ite (.after (.foldl (fun _ _ => discardOpen_frame)) (.mono police_frame rfl)) (.mono police_frame rfl)) (.refl
        _)) (.mono closeOrKeep_frame rfl)) (by
    split
    · exact .mono giveUp_frame rfl
    · exact .after (.foldl (fun _ _ => .mono addCell_frame rfl)) (.mono creditRecord_frame rfl))

theorem releaseCell_frame {n : Nat} {c : Cell} {arrival : Nat} :
    s.frame [.tun, .links, .planes, .sch] (s.releaseCell n c arrival) := by
  unfold releaseCell
  dsimp only
  exact .after (.ite framingError_frame (by
    split
    · exact firstCell_frame
    · exact .ite (.ite (.after (.mono bump_frame rfl) (.after (.mono giveUp_frame rfl) dropOpen_frame)) (.ite
        framingError_frame nextCell_frame)) framingError_frame
    · exact framingError_frame)) (.after (.mono tally_frame rfl) (.mono bump_frame rfl))

theorem releaseRun_frame {n fuel : Nat} : s.frame [.tun, .links, .planes, .sch] (s.releaseRun n fuel) := by
  induction fuel generalizing s with
  | zero => exact .refl s
  | succ fuel ih =>
    unfold releaseRun
    dsimp only
    split
    · exact .refl s
    · exact .after ih (.after releaseCell_frame (.mono setLink_frame rfl))

theorem noteSeq_frame {n sq : Nat} : s.frame [.links] (s.noteSeq n sq) := updLink_frame

theorem noteSubstEnd_frame {n : Nat} : s.frame [.links] (s.noteSubstEnd n) := .ite (.refl _) setLink_frame

theorem substEnds_frame {n : Nat} : s.frame [.links] (s.substEnds n) := by
  unfold substEnds
  dsimp only
  split
  · exact .after (by
      split
      · exact .ite (.after updLink_frame (.mono keepMax_frame rfl)) (.refl _)
      · exact .refl _) noteSubstEnd_frame
  · exact .refl _

theorem acceptCell_frame {n : Nat} {c : Cell} {arrival : Nat} :
    s.frame [.tun, .links, .planes, .sch] (s.acceptCell n c arrival) := by
  unfold acceptCell
  dsimp only
  exact .after (.after (.after (.after (.after (.mono substEnds_frame rfl) (.ite (.refl _) (.mono updLink_frame rfl)))
    (.after releaseRun_frame releaseCell_frame)) (.mono updLink_frame rfl)) (by
    split
    · exact .mono keepMax_frame rfl
    · exact .refl _)) (.mono noteSeq_frame rfl)

theorem duplicate_frame {n : Nat} : s.frame [.links] (s.duplicate n) := .after ackTrigger_frame (.mono bump_frame rfl)

theorem cellIn_frame {n : Nat} {c : Cell} {arrival : Nat} : s.frame [.tun, .links, .planes, .sch] (s.cellIn n c arrival) :=
  .ite (.after (.mono ackCount_frame rfl) acceptCell_frame) (.ite (.ite (.mono duplicate_frame rfl) (.after (.mono
    ackCount_frame rfl) (.after (.mono substEnds_frame rfl) (.after (.mono updLink_frame rfl) (.mono noteSeq_frame rfl)))))
    (.ite (.mono duplicate_frame rfl) (.after (.mono irq_frame rfl) (.mono bump_frame rfl))))

theorem cellDamaged_frame {n : Nat} : s.frame [.links] (s.cellDamaged n) :=
  .after (.after ackCount_frame updLink_frame) (.after (.mono tally_frame rfl) (.mono bump_frame rfl))

theorem undoExpiry_frame {n : Nat} : s.frame [.links] (s.undoExpiry n) := by
  unfold undoExpiry
  dsimp only
  split
  · exact .refl _
  · exact .ite (.after updLink_frame (.after (.mono wr_frame rfl) (.mono wr_frame rfl))) (.refl _)

theorem replayExpires_frame {n : Nat} : s.frame [.links] (s.replayExpires n) :=
  .after updLink_frame (.after (.mono irq_frame rfl) (.mono bump_frame rfl))

theorem expiryStands_frame {n : Nat} :
    s.frame [.tun, .links, .planes, .sch, .brg, .tim, .jnl, .waiting, .free] (s.expiryStands n) :=
  .ite (.refl _) (.after (.ite linkToDown_frame (.refl _)) (.mono updLink_frame rfl))

theorem ackTake_frame {n cumv base map : Nat} :
    s.frame [.tun, .links, .planes, .sch, .brg, .tim, .jnl, .waiting, .free] (s.ackTake n cumv base map) :=
  .after (.after (.after drained_frame (.ite (.refl _) (.mono bump_frame rfl))) (.mono updLink_frame rfl)) (.ite (.refl _)
    (.mono undoExpiry_frame rfl))

theorem ackIn_frame {n cumv base map : Nat} :
    s.frame [.tun, .links, .planes, .sch, .brg, .tim, .jnl, .waiting, .free] (s.ackIn n cumv base map) := by
  unfold ackIn
  exact .ite ackTake_frame (.mono bump_frame rfl)

theorem creditIn_frame {n v limit : Nat} : s.frame [.links] (s.creditIn n v limit) :=
  .ite setLink_frame (.mono bump_frame rfl)

theorem enterCap_frame {n : Nat} : s.frame [.links] (s.enterCap n) := .after updLink_frame (.mono wr_frame rfl)

theorem notePeer_frame {n : Nat} {t : CapTerms} : s.frame [.links] (s.notePeer n t) :=
  .after (.after updLink_frame (.mono wr_frame rfl)) (.after (.mono wr_frame rfl) (.after (.mono wr_frame rfl) (.mono
    wr_frame rfl)))

theorem capIn_frame {n : Nat} {t : CapTerms} :
    s.frame [.tun, .links, .planes, .sch, .brg, .tim, .jnl, .waiting, .free] (s.capIn n t) := by
  unfold capIn
  dsimp only
  split
  · exact .after (by
      split
      · exact linkToHalt_frame
      · exact .ite enterUp_frame (.refl _)) (.after (.mono updLink_frame rfl) (.mono notePeer_frame rfl))
  · exact .ite (.after (.ite (.refl _) linkToDown_frame) (.mono notePeer_frame rfl)) (.refl _)

theorem enterTrain_frame {n : Nat} : s.frame [.links] (s.enterTrain n) :=
  .ite updLink_frame (.after updLink_frame (.mono wr_frame rfl))

theorem execCellReceived_frame {n lane : Nat} {raw : List Byte} {fault : Bool} :
    s.frameOut [.tun, .links, .planes, .sch] (execCellReceived n lane raw fault s) := by
  unfold execCellReceived
  dsimp only
  exact .guardedIn (.after (.ite (.refl _) (by
    split
    · exact .mono cellDamaged_frame rfl
    · exact cellIn_frame)) (.mono begin_frame rfl))

theorem execAckTimerExpiry_frame {n : Nat} : s.frameOut [.links] (execAckTimerExpiry n s) :=
  .guardedIn (.after (.ite ackTrigger_frame (.refl _)) (.mono begin_frame rfl))

theorem execAckReceived_frame {n cumv base map : Nat} {rtt : Option Nat} :
    s.frameOut [.tun, .links, .planes, .sch, .brg, .tim, .jnl, .waiting, .free] (execAckReceived n cumv base map rtt s) := by
  unfold execAckReceived
  dsimp only
  exact .guardedIn (.after (.ite (.refl _) (.after ackIn_frame (by
    split
    · exact .mono wr_frame rfl
    · exact .refl _))) (.mono begin_frame rfl))

theorem execReplayTimerExpiry_frame {n : Nat} : s.frameOut [.links] (execReplayTimerExpiry n s) :=
  .guardedIn (.after (.ite (.refl _) replayExpires_frame) (.mono begin_frame rfl))

theorem execCreditReceived_frame {n v limit : Nat} : s.frameOut [.links] (execCreditReceived n v limit s) :=
  .guardedIn (.ite (.after creditIn_frame (.mono begin_frame rfl)) (.mono begin_frame rfl))

theorem execCreditRefresh_frame {n : Nat} : s.frameOut [.links] (execCreditRefresh n s) :=
  .guardedIn (.after (.ite (.foldl (fun _ _ => .after readyCtl_frame setLink_frame)) (.refl _)) (.mono begin_frame rfl))

theorem execCtlErr_frame {n : Nat} {raw : List Byte} : s.frameOut [] (execCtlErr n raw s) :=
  .guardedIn (.ite (.after irq_frame (.after bump_frame begin_frame)) begin_frame)

theorem execCapBlockSend_frame {n : Nat} : s.frameOut [.links, .free] (execCapBlockSend n s) :=
  .guardedIn (.after (.ite (.after sentBlocks_frame (.after (.mono emit_frame rfl) (.mono setLink_frame rfl))) (.ite (.after
    sentBlocks_frame (.after (.mono emit_frame rfl) (.mono setLink_frame rfl))) (.refl _))) (.mono begin_frame rfl))

theorem execCapReceived_frame {n : Nat} {t : CapTerms} :
    s.frameOut [.tun, .links, .planes, .sch, .brg, .tim, .jnl, .waiting, .free] (execCapReceived n t s) :=
  .guardedIn (.after capIn_frame (.mono begin_frame rfl))

theorem execCapTimeout_frame {n : Nat} : s.frameOut [.links] (execCapTimeout n s) :=
  .guardedIn (.ite (.after enterDown_frame (.mono begin_frame rfl)) (.mono begin_frame rfl))

theorem execLinkDownDwell_frame {n : Nat} : s.frameOut [.links] (execLinkDownDwell n s) :=
  .guardedIn (.after (.ite (.ite enterTrain_frame updLink_frame) (.refl _)) (.mono begin_frame rfl))

theorem execLinkEnWrite_frame {path n data : Nat} :
    s.frameOut [.tun, .links, .planes, .sch, .brg, .tim, .jnl, .waiting, .free] (execLinkEnWrite path n data s) :=
  .guarded (.after (gateWrite_frame (fun _ => .after (.ite (.ite (.mono enterTrain_frame rfl) (.refl _)) (.ite (.after
    drained_frame linkToDrain_frame) (.ite (.refl _) linkToDown_frame))) (.mono store_frame rfl)) rfl) (.mono begin_frame
    rfl))

theorem execLinkDrainTimeout_frame {n : Nat} :
    s.frameOut [.tun, .links, .planes, .sch, .brg, .tim, .jnl, .waiting, .free] (execLinkDrainTimeout n s) :=
  .guardedIn (.ite (.after linkToDown_frame (.mono begin_frame rfl)) (.mono begin_frame rfl))

theorem execLinkRetrain_frame {path n : Nat} :
    s.frameOut [.tun, .links, .planes, .sch, .brg, .tim, .jnl, .waiting, .free] (execLinkRetrain path n s) :=
  .guarded (.after (gateWrite_frame (fun _ => linkToDown_frame) rfl) (.mono begin_frame rfl))

end Sys2Proof.Machine.State
end

section
/-! SUPPORT. The frames of the trunk lanes' commands. -/

namespace Sys2Proof.Machine.State

variable {s : State}

theorem setRxMap_frame {n p0 p1 spare retired : Nat} : s.frame [] (s.setRxMap n p0 p1 spare retired) :=
  .after (.after wr_frame wr_frame) (.after wr_frame (.after wr_frame wr_frame))

theorem setTxMap_frame {n p0 p1 spare retired : Nat} : s.frame [] (s.setTxMap n p0 p1 spare retired) :=
  .after (.after wr_frame wr_frame) (.after wr_frame (.after wr_frame wr_frame))

theorem trainFail_frame {n : Nat} : s.frame [.links] (s.trainFail n) :=
  .after updLink_frame (.after (.mono irq_frame rfl) (.mono bump_frame rfl))

theorem assignLanes_frame {n : Nat} {t : TrainInfo} : s.frame [.links] (s.assignLanes n t) :=
  .after (.after (.after enterCap_frame updLink_frame) (.after (.mono irq_frame rfl) (.mono wr_frame rfl))) (.after (.mono
    setTxMap_frame rfl) (.mono setRxMap_frame rfl))

theorem checkSends_frame {n : Nat} : s.frame [.links, .free] (s.checkSends n) :=
  .after (.mono sendPrbs_frame rfl) (.foldl (fun _ _ => .after sendAlign_frame (.mono sendPrbs_frame rfl)))

theorem trainSends_frame {n step : Nat} : s.frame [.links, .free] (s.trainSends n step) :=
  .after (.ite checkSends_frame (.foldl (fun _ _ => .after (.mono tookFree_frame rfl) (.mono emit_frame rfl)))) (.mono
    updLink_frame rfl)

theorem setPreset_frame {n lane preset : Nat} : s.frame [.links] (s.setPreset n lane preset) := .ite (.refl _) updLink_frame

theorem trainStep_frame {n : Nat} {t : TrainInfo} : s.frame [.links, .free] (s.trainStep n t) := by
  unfold trainStep
  dsimp only
  split
  · exact .ite trainSends_frame (.refl _)
  · exact trainSends_frame
  · exact .after trainSends_frame (.mono wr_frame rfl)
  · exact .after trainSends_frame (.after (.mono setPreset_frame rfl) (.after (.mono setPreset_frame rfl) (.mono
      setPreset_frame rfl)))
  · exact .ite (.mono trainFail_frame rfl) (.after (.after trainSends_frame (.mono updLink_frame rfl)) (.after (.mono
      wr_frame rfl) (.after (.mono wr_frame rfl) (.mono wr_frame rfl))))
  · exact .mono assignLanes_frame rfl
  · exact .refl _

theorem sendSubstReq_frame {n : Nat} : s.frame [.links, .free] (s.sendSubstReq n) := by
  unfold sendSubstReq
  split
  · exact sendOnLanes_frame
  · exact .refl _

theorem interrupted_frame {n : Nat} : s.frame [.links] (s.interrupted n) := updLink_frame

theorem startSubst_frame {n lane kind : Nat} : s.frame [.links, .free] (s.startSubst n lane kind) :=
  .after (.after (.after sendSubstReq_frame (.mono wr_frame rfl)) (.ite (.mono interrupted_frame rfl) (.refl _))) (.mono
    updLink_frame rfl)

theorem goodAgain_frame {n lane : Nat} : s.frame [.links] (s.goodAgain n lane) := updLink_frame

theorem laneLost_frame {n : Nat} : s.frame [.tun, .links, .planes, .sch, .brg, .tim, .jnl, .waiting, .free] (s.laneLost n) :=
  .ite linkToDown_frame (.mono dropSubst_frame rfl)

theorem spareLost_frame {n : Nat} :
    s.frame [.tun, .links, .planes, .sch, .brg, .tim, .jnl, .waiting, .free] (s.spareLost n) :=
  .ite (.refl _) (.after (.after (.ite laneLost_frame (.refl _)) (.mono goodAgain_frame rfl)) (.after (.mono irq_frame rfl)
    (.mono setRxMap_frame rfl)))

theorem hardFail_frame {n lane : Nat} :
    s.frame [.tun, .links, .planes, .sch, .brg, .tim, .jnl, .waiting, .free] (s.hardFail n lane) := by
  unfold hardFail
  dsimp only
  split
  · exact .after (by
      split
      · exact .ite (.after (.ite (.refl _) (.mono interrupted_frame rfl)) (.mono updLink_frame rfl)) laneLost_frame
      · exact .ite laneLost_frame (.mono startSubst_frame rfl)) (.mono updLink_frame rfl)
  · exact .ite spareLost_frame (.ite (.mono goodAgain_frame rfl) (.refl _))

theorem switched_frame {n src dst pos rseq ns : Nat} : s.frame [.links, .tim, .jnl] (s.switched n src dst pos rseq ns) := by
  unfold switched
  dsimp only
  split
  · exact .refl _
  · exact .ite (.refl _) (.after (.after (.after (.ite (.after (.mono substEnds_frame rfl) (.after (.mono event_frame rfl)
      (.mono bump_frame rfl))) (.after (.mono event_frame rfl) (.after (.mono bump_frame rfl) (.mono keepMax_frame rfl))))
      (.after (.mono timeSwitched_frame rfl) (.mono tally_frame rfl))) (.after (.mono wr_frame rfl) (.mono updLink_frame
      rfl))) (.after (.mono goodAgain_frame rfl) (.mono setRxMap_frame rfl)))

theorem substReqIn_frame {n lane rseq : Nat} : s.frame [.links, .tim, .free] (s.substReqIn n lane rseq) :=
  .ite (.refl _) (.after (.after (.mono setTxMap_frame rfl) (.after (.mono tookFree_frame rfl) (.after (.mono
    timeSwitched_frame rfl) (.mono sendOnLanes_frame rfl)))) (.mono updLink_frame rfl))

theorem noteWindow_frame {n : Nat} {m : LaneSample} {fresh : Bool} : s.frame [.links] (s.noteWindow n m fresh).1 :=
  updLink_frame

theorem predict_frame {n lane : Nat} : s.frame [.links, .free] (s.predict n lane) :=
  .ite (.refl _) (.ite (.mono irq_frame rfl) startSubst_frame)

theorem takeEye_frame {n : Nat} {m : LaneSample} : s.frame [.links] (s.takeEye n m) :=
  .ite (.after updLink_frame (.after (.mono wr_frame rfl) (.mono wr_frame rfl))) updLink_frame

theorem watchRetired_frame {n : Nat} {m : LaneSample} : s.frame [.links] (s.watchRetired n m) :=
  .ite goodAgain_frame (.refl _)

theorem healthOne_frame {n : Nat} {m : LaneSample} :
    s.frame [.tun, .links, .planes, .sch, .brg, .tim, .jnl, .waiting, .free] (s.healthOne n m) :=
  .ite (.refl _) (.after (.after (.ite (.mono noteWindow_frame rfl) (.ite (.after (.mono predict_frame rfl) (.mono
    noteWindow_frame rfl)) (.ite (.after spareLost_frame (.mono noteWindow_frame rfl)) (.mono noteWindow_frame rfl)))) (.ite
    (.mono updLink_frame rfl) (.refl _))) (.after (.mono watchRetired_frame rfl) (.after (.mono bumpBy_frame rfl) (.mono
    takeEye_frame rfl))))

theorem storeBase_frame {n lane : Nat} : s.frame [.free] (s.storeBase n lane) :=
  .ite (.refl _) (.after (.after tookFree_frame (.mono wr_frame rfl)) (.after tookFree_frame (.mono wr_frame rfl)))

theorem relearn_frame {n : Nat} : s.frame [.links] (s.relearn n) :=
  .ite (.after (.mono wr_frame rfl) updLink_frame) updLink_frame

theorem execTrainStepDone_frame {n : Nat} {t : TrainInfo} : s.frameOut [.links, .free] (execTrainStepDone n t s) :=
  .guardedIn (.ite (.after trainStep_frame (.mono begin_frame rfl)) (.mono begin_frame rfl))

theorem execTrainStepTimeout_frame {n : Nat} : s.frameOut [.links] (execTrainStepTimeout n s) :=
  .guardedIn (.ite (.after trainFail_frame (.mono begin_frame rfl)) (.mono begin_frame rfl))

theorem execTrainRetry_frame {n : Nat} : s.frameOut [.links, .free] (execTrainRetry n s) :=
  .guardedIn (.ite (.after trainSends_frame (.after (.mono updLink_frame rfl) (.mono begin_frame rfl))) (.mono begin_frame
    rfl))

theorem execLaneHealthSample_frame {n : Nat} {ms : List LaneSample} :
    s.frameOut [.tun, .links, .planes, .sch, .brg, .tim, .jnl, .waiting, .free] (execLaneHealthSample n ms s) :=
  .guardedIn (.after (.after (.foldl (fun _ _ => healthOne_frame)) (.ite (.mono updLink_frame rfl) (.refl _))) (.mono
    begin_frame rfl))

theorem execHealthSend_frame {n : Nat} : s.frameOut [.links] (execHealthSend n s) :=
  .guardedIn (.after (.ite (.foldl (fun _ _ => readyCtl_frame)) (.refl _)) (.mono begin_frame rfl))

theorem execHealthReceived_frame {n : Nat} {h : HealthTerms} : s.frameOut [] (execHealthReceived n h s) :=
  .guardedIn (.after (.ite (.after wr_frame (.after wr_frame wr_frame)) (.refl _)) begin_frame)

theorem execLaneHardFail_frame {n lane : Nat} :
    s.frameOut [.tun, .links, .planes, .sch, .brg, .tim, .jnl, .waiting, .free] (execLaneHardFail n lane s) :=
  .guardedIn (.after hardFail_frame (.mono begin_frame rfl))

theorem execSubstReqRepeat_frame {n : Nat} : s.frameOut [.links, .free] (execSubstReqRepeat n s) :=
  .guardedIn (.after sendSubstReq_frame (.mono begin_frame rfl))

theorem execSubstReqReceived_frame {n lane rseq : Nat} :
    s.frameOut [.links, .tim, .free] (execSubstReqReceived n lane rseq s) :=
  .guardedIn (.after substReqIn_frame (.mono begin_frame rfl))

theorem execSwitchReceived_frame {n src dst pos rseq ns : Nat} :
    s.frameOut [.links, .tim, .jnl] (execSwitchReceived n src dst pos rseq ns s) :=
  .guardedIn (.after switched_frame (.mono begin_frame rfl))

theorem execSubstTimeout_frame {n : Nat} :
    s.frameOut [.tun, .links, .planes, .sch, .brg, .tim, .jnl, .waiting, .free] (execSubstTimeout n s) :=
  .guardedIn (.ite (.after laneLost_frame (.mono begin_frame rfl)) (.mono begin_frame rfl))

theorem execSpareLost_frame {n : Nat} :
    s.frameOut [.tun, .links, .planes, .sch, .brg, .tim, .jnl, .waiting, .free] (execSpareLost n s) :=
  .guardedIn (.after spareLost_frame (.mono begin_frame rfl))

theorem execLearningDone_frame {n : Nat} : s.frameOut [.links, .free] (execLearningDone n s) :=
  .guardedIn (.after (.ite (.after (.after (.mono irq_frame rfl) (.after (.mono wr_frame rfl) (.mono updLink_frame rfl)))
    (.foldl (fun _ _ => .mono storeBase_frame rfl))) (.refl _)) (.mono begin_frame rfl))

theorem execLaneSubstitute_frame {path n lane : Nat} :
    s.frameOut [.links, .jnl, .waiting, .free] (execLaneSubstitute path n lane s) :=
  .guarded (.after (gateWrite_frame (fun _ => .ite (.mono startSubst_frame rfl) (.refl _)) rfl) (.mono begin_frame rfl))

theorem execLaneRequalify_frame {path n lane : Nat} : s.frameOut [.links, .jnl, .waiting] (execLaneRequalify path n lane s) :=
  .guarded (.after (gateWrite_frame (fun _ => .ite (.mono goodAgain_frame rfl) (.refl _)) rfl) (.mono begin_frame rfl))

theorem execLaneRelearn_frame {path n : Nat} : s.frameOut [.links, .jnl, .waiting] (execLaneRelearn path n s) :=
  .guarded (.after (gateWrite_frame (fun _ => .mono relearn_frame rfl) rfl) (.mono begin_frame rfl))

theorem execRequalified_frame {n lane : Nat} : s.frameOut [.links] (execRequalified n lane s) :=
  .guardedIn (.after (.ite (.after (.after (.mono irq_frame rfl) updLink_frame) (.mono setRxMap_frame rfl)) (.refl _)) (.mono
    begin_frame rfl))

end Sys2Proof.Machine.State
end

section
/-! SUPPORT. The frames of the switch planes' commands. -/

namespace Sys2Proof.Machine.State

variable {s : State}

theorem transfer_frame {p i o v : Nat} : s.frame [.tun, .links, .planes, .sch, .jnl] (s.transfer p i o v) := by
  unfold transfer
  extract_lets k
  split
  · exact .refl _
  · split
    · exact .refl _
    · extract_lets last t t'
      have ht : s.frame [.tun, .links, .planes, .sch, .jnl] t' :=
        .after (.mono tally_frame rfl) (.after (.mono bump_frame rfl) (.mono updPlane_frame rfl))
      refine .ite ?_ ht
      split
      · exact .after (.mono joinQueue_frame rfl) ht
      · exact ht

theorem cellSlot_frame {p : Nat} : s.frame [.tun, .links, .planes, .sch, .jnl] (s.cellSlot p) := by
  unfold cellSlot
  dsimp only
  split
  · exact .refl _
  · exact .after (.ite (.ite (.after (.mono tally_frame rfl) (.mono updPlane_frame rfl)) (.refl _)) (.after (.foldl (fun _ _
      => by
      split
      · exact transfer_frame
      · exact .refl _)) (.after (.mono tally_frame rfl) (.mono updPlane_frame rfl)))) (.mono setPlane_frame rfl)

theorem dropFence_frame {p q h : Nat} : s.frame [.tun, .links, .planes, .sch] (s.dropFence p q h) :=
  .after dropMember_frame (.mono unqueue_frame rfl)

theorem fenceCopy_frame {p q : Nat} {u : PUnit} : s.frame [.tun] (s.fenceCopy p q u).1 := by
  unfold fenceCopy
  dsimp only
  split
  · exact updTun_frame
  · split
    · exact .refl _
    · exact updFence_frame

theorem fenceArrives_frame {p q : Nat} : s.frame [.tun, .links, .planes, .sch] (s.fenceArrives p q) := by
  unfold fenceArrives
  dsimp only
  split
  · exact .refl _
  · split
    · exact .refl _
    · exact .ite (.refl _) (.ite (.after dropFence_frame (.mono fenceCopy_frame rfl)) (.after (.mono tagHead_frame rfl)
        (.mono fenceCopy_frame rfl)))

theorem fenceExpires_frame {q tid : Nat} : s.frame [.tun, .sch, .jnl] (s.fenceExpires q tid) := by
  unfold fenceExpires
  dsimp only
  split
  · exact .refl _
  · exact .after (.after (.mono tagHead_frame rfl) (.after (.mono event_frame rfl) (.after (.mono tally_frame rfl) (.mono
      bump_frame rfl)))) (.mono updFence_frame rfl)

theorem execCellSlotMatch_frame {p : Nat} : s.frameOut [.tun, .links, .planes, .sch, .jnl] (execCellSlotMatch p s) :=
  .guardedIn (.after cellSlot_frame (.mono begin_frame rfl))

theorem execSchedStall_frame {p : Nat} :
    s.frameOut [.tun, .links, .planes, .mcg, .sch, .brg, .jnl, .waiting, .free] (execSchedStall p s) :=
  .guardedIn (.after (.ite declareFailed_frame (.refl _)) (.mono begin_frame rfl))

theorem execFenceArrival_frame {p q : Nat} : s.frameOut [.tun, .links, .planes, .sch] (execFenceArrival p q s) :=
  .guardedIn (.after fenceArrives_frame (.mono begin_frame rfl))

theorem execFenceTimeout_frame {q tid : Nat} : s.frameOut [.tun, .sch, .jnl] (execFenceTimeout q tid s) :=
  .guardedIn (.after fenceExpires_frame (.mono begin_frame rfl))

end Sys2Proof.Machine.State
end

section
/-! SUPPORT. The frames of the egress of cells. -/

namespace Sys2Proof.Machine.State

variable {s : State}

theorem setAllot_frame {i : Nat} {x : Allot} : s.frame [.sch] (s.setAllot i x) := updSch_frame

theorem charge_frame {i cells : Nat} {both : Bool} : s.frame [.sch] (s.charge i cells both) := setAllot_frame

theorem takePick_frame {n : Nat} {k : Pick} {sel : Bool} : s.frame [.tun, .planes, .sch] (s.takePick n k sel) := by
  unfold takePick
  dsimp only
  exact .after (by
    split
    · exact .mono updEgress_frame rfl
    · exact .ite (.after (.after (.mono setPair_frame rfl) (.mono wr_frame rfl)) (.mono setQueue_frame rfl)) (.after (.ite
        (.mono updEgress_frame rfl) (.refl _)) (.mono unqueue_frame rfl))) (.mono fencePassed_frame rfl)

theorem capWarn_frame {n tid : Nat} : s.frame [.tun] (s.capWarn n tid) :=
  .ite (.refl _) (.after (.after (.mono irq_frame rfl) (.mono bump_frame rfl)) updTun_frame)

theorem selectPick_frame {n : Nat} {k : Pick} {d : Option Dds} {r : Nat} :
    s.frame [.tun, .planes, .sch] (s.selectPick n k d r) :=
  .after (.after (.after (.after (.mono updEgress_frame rfl) (.ite (.mono capWarn_frame rfl) (.refl _))) (.ite (.mono
    charge_frame rfl) (.ite (.mono charge_frame rfl) (.refl _)))) takePick_frame) (.ite (.after (.mono irq_frame rfl) (.mono
    bump_frame rfl)) (.ite (.mono updTun_frame rfl) (.refl _)))

theorem discardPick_frame {n : Nat} {k : Pick} {r : Nat} : s.frame [.tun, .links, .planes, .sch] (s.discardPick n k r) :=
  .after (.ite (.after (.mono tally_frame rfl) (.mono bump_frame rfl)) (.mono bump_frame rfl)) (.after dropMember_frame
    (.mono takePick_frame rfl))

theorem chooseLevel_frame {n fuel : Nat} : s.frame [.tun, .links, .planes, .sch] (s.chooseLevel n fuel).1 := by
  induction fuel generalizing s with
  | zero => exact .refl s
  | succ fuel ih =>
    unfold chooseLevel
    split
    · exact .refl s
    · split
      · exact .refl s
      · split
        · exact .refl s
        · dsimp only
          split
          · exact .after ih discardPick_frame
          · exact .mono selectPick_frame rfl

theorem sendCell_frame {n : Nat} {c : Cell} : s.frame [.links, .free] (s.sendCell n c) :=
  .after (.after (.ite (.after (.mono irq_frame rfl) (.after (.mono bump_frame rfl) (.mono updLink_frame rfl))) (.refl _))
    (.after (.mono tally_frame rfl) (.after (.mono bump_frame rfl) (.after sentBlocks_frame (.mono emit_frame rfl))))) (.mono
    setLink_frame rfl)

theorem endSending_frame {n level : Nat} {x : Sending} : s.frame [.sch] (s.endSending n level x) := by
  unfold endSending
  dsimp only
  exact .after (by
    split
    · exact .ite tagHead_frame (.refl _)
    · exact .refl _) updEgress_frame

theorem dropOther_frame {n p q tid sq : Nat} : s.frame [.tun, .links, .planes, .sch] (s.dropOther n p q tid sq) :=
  .after (.after (.foldl (fun _ _ => dropMember_frame)) (.mono updEgress_frame rfl)) (.foldl (fun _ _ => dropFence_frame))

theorem fenceOut_frame {n : Nat} {x : Sending} {u : PUnit} : s.frame [.tun, .links, .planes, .sch] (s.fenceOut n x u) :=
  .ite (.refl _) (.after (.ite dropOther_frame (.refl _)) (.mono fenceSent_frame rfl))

theorem dataError_frame {n level : Nat} {x : Sending} : s.frame [.tun, .links, .planes, .sch, .jnl] (s.dataError n level x) :=
  .after (.after (.after (.mono event_frame rfl) (.after (.mono tally_frame rfl) (.mono bump_frame rfl))) (.after (.mono
    endSending_frame rfl) (.mono dropMember_frame rfl))) (.ite (.mono updTun_frame rfl) (.refl _))

theorem unitRead_frame {n : Nat} {x : Sending} {u : PUnit} : s.frame [.planes, .sto] (s.unitRead n x u) :=
  .ite (.mono set_sto_frame rfl) (.mono forgetMember_frame rfl)

theorem sendPart_frame {n level ecc : Nat} {x : Sending} :
    s.frame [.tun, .links, .planes, .sch, .sto, .jnl, .free] (s.sendPart n level ecc x) := by
  unfold sendPart
  dsimp only
  split
  · exact .mono endSending_frame rfl
  · exact .ite (.mono dataError_frame rfl) (.after (.after (.after (.ite (.mono updEgress_frame rfl) (.after (.ite (.refl _)
      (.mono emit_frame rfl)) (.after (.mono endSending_frame rfl) (.after (.mono fenceOut_frame rfl) (.mono unitRead_frame
      rfl))))) (.ite (.refl _) (.mono releaseAt_frame rfl))) (.ite (.mono sendCell_frame rfl) (.refl _))) (.ite (.after
      (.mono tally_frame rfl) (.mono bump_frame rfl)) (.refl _)))

theorem sendAbort_frame {n : Nat} {a : Nat × Cell} : s.frame [.links, .free] (s.sendAbort n a) :=
  .after sendCell_frame (.mono updLink_frame rfl)

theorem sendNext_frame {n ecc : Nat} : s.frame [.tun, .links, .planes, .sch, .sto, .jnl, .free] (s.sendNext n ecc).1 := by
  unfold sendNext
  split
  · exact .refl _
  · have hc := chooseLevel_frame (s := s) (n := n) (fuel := (s.plane 0).units.length + (s.plane 1).units.length + 1)
    split
    · rename_i h1
      exact .fst h1 (.mono hc rfl)
    · rename_i t l h1
      have ht : s.frame [.tun, .links, .planes, .sch, .sto, .jnl, .free] t := .fst h1 (.mono hc rfl)
      split
      · dsimp only
        exact .after (.mono sendAbort_frame rfl) ht
      · dsimp only
        exact .after sendPart_frame ht
      · exact ht

theorem sendCtl_frame {n : Nat} {b : Ctl} : s.frame [.links, .tim, .free] (s.sendCtl n b) := by
  unfold sendCtl
  extract_lets r low t
  have ht : s.frame [.links, .tim, .free] t := .after (.mono updLink_frame rfl) (.after (.mono sentBlocks_frame rfl)
    (.after (.mono emit_frame rfl) (.after (.mono timeDeparts_frame rfl) (.mono updLink_frame rfl))))
  split
  · exact .ite ht (.after (.mono bump_frame rfl) ht)
  · exact ht

theorem sendAck_frame {n : Nat} : s.frame [.links, .tim, .free] (s.sendAck n) := by
  unfold sendAck
  dsimp only
  split
  · exact .refl _
  · exact .after (by
      split
      · exact sendCtl_frame
      · exact .refl _) (.mono updLink_frame rfl)

theorem fillGap_frame {n fuel : Nat} : s.frame [.links, .tim, .free] (s.fillGap n fuel) := by
  induction fuel generalizing s with
  | zero => exact .refl s
  | succ fuel ih =>
    unfold fillGap
    dsimp only
    split
    · exact .refl s
    · split
      · exact .after ih sendAck_frame
      · split
        · exact .after ih sendCtl_frame
        · split
          · exact .refl s
          · exact .ite (.refl s) (.after ih sendCtl_frame)

theorem gap_frame {n : Nat} : s.frame [.links, .tim, .free] (s.gap n) := fillGap_frame

theorem keepGap_frame {n : Nat} : s.frame [.links, .tim, .free] (s.keepGap n) :=
  .ite (.refl _) (.after (.ite (.refl _) sendCtl_frame) gap_frame)

theorem resendOne_frame {n : Nat} : s.frame [.links, .free] (s.resendOne n) := by
  unfold resendOne
  dsimp only
  split
  · exact .refl _
  · split
    · exact .mono setLink_frame rfl
    · exact .after (.after (.mono tally_frame rfl) (.after (.mono bump_frame rfl) (.after sentBlocks_frame (.mono emit_frame
        rfl)))) (.mono setLink_frame rfl)

theorem stallSlot_frame {n : Nat} : s.frame [.links] (s.stallSlot n) := by
  unfold stallSlot
  split
  · exact .refl _
  · exact .ite (.after updLink_frame (.mono bumpBy_frame rfl)) (.mono tally_frame rfl)

theorem sendAcks_frame {n fuel : Nat} : s.frame [.links, .tim, .free] (s.sendAcks n fuel) := by
  induction fuel generalizing s with
  | zero => exact .refl s
  | succ fuel ih => exact .ite (.refl s) (.after ih sendAck_frame)

theorem sendReady_frame {n : Nat} : s.frame [.links, .tim, .free] (s.sendReady n) :=
  .ite sendCtl_frame (.after (.foldl (fun _ _ => sendCtl_frame)) sendAcks_frame)

theorem trunkCell_frame {n ecc : Nat} :
    s.frame [.tun, .links, .planes, .sch, .sto, .tim, .jnl, .free] (s.trunkCell n ecc).1 := by
  unfold trunkCell
  dsimp only
  exact .after (by
    split
    · exact .mono resendOne_frame rfl
    · exact .mono sendNext_frame rfl) (.after (.mono keepGap_frame rfl) (.after (.mono gap_frame rfl) (.mono stallSlot_frame
        rfl)))

theorem trunkSlot_frame {n ecc : Nat} :
    s.frame [.tun, .links, .planes, .sch, .sto, .brg, .tim, .jnl, .waiting, .free] (s.trunkSlot n ecc) :=
  .ite (.mono sendCtl_frame rfl) (.ite (.refl _) (.ite (.after (.mono drained_frame rfl) (.mono trunkCell_frame rfl)) (.after
    (.mono drained_frame rfl) (.after (.mono sendReady_frame rfl) (.mono trunkCell_frame rfl)))))

theorem pinnedFence_frame {n p h : Nat} : s.frame [.tun] (s.pinnedFence n p h).1 := by
  unfold pinnedFence
  split
  · split
    · exact fenceCopy_frame
    · exact .refl _
  · exact .refl _

theorem handUnit_frame {n p : Nat} {x : Pinned} : s.frame [.tun, .links, .planes, .sch] (s.handUnit n p x) :=
  .after (.ite dropMember_frame (.after (.mono tally_frame rfl) (.mono updEgress_frame rfl))) (.mono pinnedFence_frame rfl)

theorem endSlot_frame {n slot p : Nat} : s.frame [.tun, .links, .planes, .sch] (s.endSlot n slot p) :=
  .after (.foldl (fun _ _ => handUnit_frame)) (.mono updPlane_frame rfl)

theorem parkScan_frame {p : Nat} : s.frame [.planes] (s.parkScan p) := updPlane_frame

theorem missDeadline_frame {n : Nat} : s.frame [.tun, .links, .planes, .sch, .jnl] (s.missDeadline n) :=
  .after (.foldl (fun _ _ => missed_frame)) (.mono updEgress_frame rfl)

theorem execEgressCellBoundary_frame {n ecc : Nat} :
    s.frameOut [.tun, .links, .planes, .sch, .sto, .brg, .tim, .jnl, .waiting, .free] (execEgressCellBoundary n ecc s) :=
  .guardedIn (.after (.ite (.mono sendNext_frame rfl) (.ite (.after (.mono drained_frame rfl) (.mono trunkCell_frame rfl))
    (.refl _))) (.mono begin_frame rfl))

theorem execCellTransmit_frame {n ecc : Nat} :
    s.frameOut [.tun, .links, .planes, .sch, .sto, .brg, .tim, .jnl, .waiting, .free] (execCellTransmit n ecc s) :=
  .guardedIn (.after trunkSlot_frame (.mono begin_frame rfl))

theorem execAckSend_frame {n : Nat} : s.frameOut [.links, .tim, .free] (execAckSend n s) :=
  .guardedIn (.ite (.ite (.after gap_frame (.mono begin_frame rfl)) (.after sendReady_frame (.mono begin_frame rfl))) (.mono
    begin_frame rfl))

theorem execParkScan_frame {p : Nat} : s.frameOut [.planes] (execParkScan p s) :=
  .guardedIn (.after parkScan_frame (.mono begin_frame rfl))

theorem execCarouselSlotEnd_frame {n slot : Nat} : s.frameOut [.tun, .links, .planes, .sch] (execCarouselSlotEnd n slot s) :=
  .guardedIn (.after endSlot_frame (.after endSlot_frame (.mono begin_frame rfl)))

theorem execMissDeadline_frame {n : Nat} : s.frameOut [.tun, .links, .planes, .sch, .jnl] (execMissDeadline n s) :=
  .guardedIn (.after missDeadline_frame (.mono begin_frame rfl))

end Sys2Proof.Machine.State
end

section
/-! SUPPORT. The frames of the time exchanges. -/

namespace Sys2Proof.Machine.State

variable {s : State}

theorem timResult_frame {r : Nat} : s.frame [] (s.timResult r) := wr_frame

theorem timCmd_frame {path op : Nat} {act : State → State} {ps : List Part}
    (hact : ∀ s, State.frame s ps (act s)) (hps : decide ([.jnl, .waiting] ⊆ ps) = true) : s.frame ps (s.timCmd path op act) :=
  gateWrite_frame (fun _ => .ite (.within timResult_frame hps rfl) (hact _)) hps

theorem timAccept_frame {w : Nat × Nat ⊕ Int} : s.frame [.sch] (s.timAccept w) :=
  .after (.mono timResult_frame rfl) (.after (.mono wr_frame rfl) ask_frame)

theorem timeSet_frame : s.frame [.sch, .jnl] s.timeSet :=
  .ite (.mono timResult_frame rfl) (.ite (.mono refuseStep_frame rfl) (.mono timAccept_frame rfl))

theorem timeStep_frame : s.frame [.sch, .jnl] s.timeStep :=
  .ite (.mono timResult_frame rfl) (.ite (.mono refuseStep_frame rfl) (.mono timAccept_frame rfl))

theorem disqualify_frame {k : Nat} : s.frame [.tim, .jnl] (s.disqualify k) :=
  .ite (.after (.after reselect_frame (.ite (.mono timeEvent_frame rfl) (.refl _))) (.mono updTim_frame rfl)) (.ite (.after
    (.after reselect_frame (.ite (.mono timeEvent_frame rfl) (.refl _))) (.mono updTim_frame rfl)) (.after (.after
    reselect_frame (.ite (.mono timeEvent_frame rfl) (.refl _))) (.mono updTim_frame rfl)))

theorem ppsEdge_frame : s.frame [.sch, .tim, .jnl, .free] s.ppsEdge :=
  .after (.after (.after (.ite followerSample_frame (.refl _)) (.ite (.mono disqualify_frame rfl) (.ite (.after (.mono
    reselect_frame rfl) (.mono updTim_frame rfl)) (.refl _)))) (.mono updTim_frame rfl)) (.mono captureAt_frame rfl)

theorem irigGood_frame {t : Int} : s.frame [.sch, .tim, .jnl, .free] (s.irigGood t) :=
  .after (.after (.after (.ite (.after (.ite (.refl _) (.mono followerStep_frame rfl)) followerSample_frame) (.refl _)) (.ite
    (.after (.mono reselect_frame rfl) (.mono updTim_frame rfl)) (.refl _))) (.mono updTim_frame rfl)) (.mono captureAt_frame
    rfl)

theorem irigBadFrame_frame : s.frame [.tim, .jnl] s.irigBadFrame :=
  .after (.ite disqualify_frame (.refl _)) (.mono updTim_frame rfl)

theorem holdExpired_frame {k : Nat} : s.frame [.tim, .jnl] (s.holdExpired k) :=
  .ite (.after (.ite followSlot_frame (.refl _)) reselect_frame) (.refl _)

theorem originate_frame {n : Nat} : s.frame [.links, .tim] (s.originate n) :=
  .ite (.refl _) (.after (.after (.ite (.mono readyCtl_frame rfl) (.refl _)) (.mono readyCtl_frame rfl)) (.mono
    setTrunkTime_frame rfl))

theorem discardExchange_frame {n : Nat} {e : Exchange} {d : Int} : s.frame [.tim, .jnl] (s.discardExchange n e d) :=
  .ite (.after reselect_frame (.mono setTrunkTime_frame rfl)) (.after (.after (.after reselect_frame (.ite (.after (.after
    (.mono wr_frame rfl) (.after (.mono wr_frame rfl) (.mono wr_frame rfl))) (.mono setTrunkTime_frame rfl)) (.refl _)))
    (.after (.mono event_frame rfl) (.mono bump_frame rfl))) (.mono setTrunkTime_frame rfl))

theorem keepExchange_frame {n d2 : Nat} {times : Nat × Nat × Nat × Nat} :
    s.frame [.tim, .jnl, .free] (s.keepExchange n d2 times) :=
  .after (.after (.after (.mono reselect_frame rfl) (.ite (.mono wr_frame rfl) (.refl _))) (.after (.mono wr_frame rfl)
    (.after (.mono tookFree_frame rfl) (.mono wr_frame rfl)))) (.mono setTrunkTime_frame rfl)

theorem measure_frame {n : Nat} {e : Exchange} {t1 t2 t3 t4 : Nat} :
    s.frame [.tim, .jnl, .free] (s.measure n e t1 t2 t3 t4) :=
  .ite (.mono discardExchange_frame rfl) keepExchange_frame

theorem timeOfDay_frame {n id stamp : Nat} : s.frame [.sch, .tim, .jnl, .free] (s.timeOfDay n id stamp) := by
  unfold timeOfDay
  dsimp only
  exact .after (.after (by
    split
    · exact .refl _
    · exact .ite (.after (.mono tookFree_frame rfl) followerSample_frame) (.refl _)) (.mono reselect_frame rfl)) (.mono
        setTrunkTime_frame rfl)

theorem echoIn_frame {n lane sub id stamp : Nat} : s.frame [.sch, .tim, .jnl, .free] (s.echoIn n lane sub id stamp) := by
  unfold echoIn
  dsimp only
  split
  · exact .refl _
  · split
    · exact timeOfDay_frame
    · split
      · exact .refl _
      · split
        · exact .refl _
        · split
          · exact .mono setTrunkTime_frame rfl
          · split
            · exact .mono measure_frame rfl
            · exact .refl _

theorem execTimNowRead_frame {path : Nat} : s.frameOut [.jnl, .csr, .waiting] (execTimNowRead path s) :=
  .guarded (.after (gateRead_frame (fun _ => .after (.mono answer_frame rfl) (.mono setLatch_frame rfl)) rfl) (.mono
    begin_frame rfl))

theorem execTimeSet_frame {path : Nat} : s.frameOut [.sch, .jnl, .waiting] (execTimeSet path s) :=
  .guarded (.after (timCmd_frame (fun _ => .mono timeSet_frame rfl) rfl) (.mono begin_frame rfl))

theorem execTimeStep_frame {path : Nat} : s.frameOut [.sch, .jnl, .waiting] (execTimeStep path s) :=
  .guarded (.after (timCmd_frame (fun _ => .mono timeStep_frame rfl) rfl) (.mono begin_frame rfl))

theorem execTimeSlew_frame {path : Nat} : s.frameOut [.jnl, .waiting] (execTimeSlew path s) :=
  .guarded (.after (timCmd_frame (fun _ => .ite (.mono timResult_frame rfl) (.after (.mono timResult_frame rfl) (.mono
    slewBy_frame rfl))) rfl) (.mono begin_frame rfl))

theorem execSlewAbort_frame {path : Nat} : s.frameOut [.jnl, .waiting] (execSlewAbort path s) :=
  .guarded (.after (timCmd_frame (fun _ => .after (.mono timResult_frame rfl) (.mono slewBy_frame rfl)) rfl) (.mono
    begin_frame rfl))

theorem execTimeCapture_frame {path : Nat} : s.frameOut [.tim, .jnl, .waiting] (execTimeCapture path s) :=
  .guarded (.after (timCmd_frame (fun _ => .after (.mono timResult_frame rfl) (.mono captureAt_frame rfl)) rfl) (.mono
    begin_frame rfl))

theorem execFadjWrite_frame {path data : Nat} : s.frameOut [.jnl, .waiting] (execFadjWrite path data s) :=
  .guarded (.after (gateWrite_frame (fun _ => .ite (.mono timResult_frame rfl) (.mono wr_frame rfl)) rfl) (.mono begin_frame
    rfl))

theorem execSourceQualified_frame {k : Nat} : s.frameOut [.tim, .jnl] (execSourceQualified k s) :=
  .guardedIn (.ite (.after reselect_frame (.mono begin_frame rfl)) (.mono begin_frame rfl))

theorem execSourceDisqualified_frame {k : Nat} : s.frameOut [.tim, .jnl] (execSourceDisqualified k s) :=
  .guardedIn (.ite (.mono begin_frame rfl) (.after reselect_frame (.mono begin_frame rfl)))

theorem execSourceHoldExpiry_frame {k : Nat} : s.frameOut [.tim, .jnl] (execSourceHoldExpiry k s) :=
  .guardedIn (.after holdExpired_frame (.mono begin_frame rfl))

theorem execPtpQualWrite_frame {path data : Nat} : s.frameOut [.tim, .jnl, .waiting] (execPtpQualWrite path data s) :=
  .guarded (.after (gateWrite_frame (fun _ => .after (.after (.mono reselect_frame rfl) (.mono updTim_frame rfl)) (.mono
    store_frame rfl)) rfl) (.mono begin_frame rfl))

theorem execPtpTmo_frame : s.frameOut [.tim, .jnl] (execPtpTmo s) := .nextIn (.after disqualify_frame (.mono begin_frame rfl))

theorem execIrigFrame_frame {err : Bool} {code year day hour min sec : Nat} {localOfs : Int} :
    s.frameOut [.sch, .tim, .jnl, .free] (execIrigFrame err code year day hour min sec localOfs s) :=
  .nextIn (.after (.ite (.mono irigBadFrame_frame rfl) irigGood_frame) (.mono begin_frame rfl))

theorem execIrigFault_frame : s.frameOut [.tim, .jnl] (execIrigFault s) :=
  .nextIn (.after disqualify_frame (.after (.mono updTim_frame rfl) (.mono begin_frame rfl)))

theorem execPpsEdge_frame : s.frameOut [.sch, .tim, .jnl, .free] (execPpsEdge s) :=
  .nextIn (.after ppsEdge_frame (.mono begin_frame rfl))

theorem execPpsFault_frame : s.frameOut [.tim, .jnl] (execPpsFault s) :=
  .nextIn (.after disqualify_frame (.after (.mono updTim_frame rfl) (.mono begin_frame rfl)))

theorem execHoldTimeExpiry_frame : s.frameOut [.jnl] (execHoldTimeExpiry s) :=
  .nextIn (.after (.ite (.after setTimeState_frame (.after (.mono wr_frame rfl) (.mono wr_frame rfl))) (.refl _)) (.mono
    begin_frame rfl))

theorem execExchangeOriginate_frame {n : Nat} : s.frameOut [.links, .tim] (execExchangeOriginate n s) :=
  .guardedIn (.after originate_frame (.mono begin_frame rfl))

theorem execTimeSymbolReceived_frame {n lane id : Nat} : s.frameOut [.links] (execTimeSymbolReceived n lane id s) :=
  .guardedIn (.after (.ite readyCtl_frame (.refl _)) (.mono begin_frame rfl))

theorem execTimeEchoReceived_frame {n lane sub id stamp : Nat} :
    s.frameOut [.sch, .tim, .jnl, .free] (execTimeEchoReceived n lane sub id stamp s) :=
  .guardedIn (.after echoIn_frame (.mono begin_frame rfl))

theorem execExchangeTimeout_frame {n : Nat} : s.frameOut [.tim, .jnl, .free] (execExchangeTimeout n s) := by
  unfold execExchangeTimeout
  dsimp only
  exact .guardedIn (.after (by
    split
    · exact .refl _
    · exact .after (.mono tookFree_frame rfl) (.mono discardExchange_frame rfl)) (.mono begin_frame rfl))

theorem execAsymTrimReceived_frame {n stamp : Nat} : s.frameOut [] (execAsymTrimReceived n stamp s) :=
  .guardedIn (.ite (.after wr_frame begin_frame) begin_frame)

theorem execPpsOutRise_frame : s.frameOut [.tim] (execPpsOutRise s) :=
  .nextIn (.after (.ite updTim_frame (.refl _)) (.mono begin_frame rfl))

theorem execPpsOutFall_frame : s.frameOut [.tim] (execPpsOutFall s) := .nextIn (.after updTim_frame (.mono begin_frame rfl))

end Sys2Proof.Machine.State
end

section
/-! SUPPORT. The frames of scheduling and shaping. -/

namespace Sys2Proof.Machine.State

variable {s : State}

theorem handPassed_frame {n : Nat} : s.frame [.tun, .links, .planes, .sch] (s.handPassed n) :=
  .after (.foldl (fun _ _ => handUnit_frame)) (.foldl (fun _ _ => .mono updPlane_frame rfl))

theorem handParked_frame {p : Nat} : s.frame [.tun, .links, .planes, .sch] (s.handParked p) :=
  .after (.foldl (fun _ _ => handUnit_frame)) (.mono updPlane_frame rfl)

theorem stretchDeadlines_frame {d : Nat} : s.frame [.sch] (s.stretchDeadlines d) := updSch_frame

theorem stepped_frame {d : Int} : s.frame [.tun, .links, .planes, .sch, .tim, .jnl] (s.stepped d) :=
  .after (.ite (.after (.mono stretchDeadlines_frame rfl) (.after (.mono handParked_frame rfl) (.after (.mono
    handParked_frame rfl) (.foldl (fun _ _ => .mono handPassed_frame rfl))))) (.refl _)) (.after (.mono timeStepped_frame
    rfl) (.mono event_frame rfl))

theorem applyTime_frame {w : Nat × Nat ⊕ Int} : s.frame [.tun, .links, .planes, .sch, .tim, .jnl] (s.applyTime w) := by
  unfold applyTime
  dsimp only
  split
  · exact .after stepped_frame (.after (.mono updTim_frame rfl) (.mono setPanelNs_frame rfl))
  · exact .after stepped_frame (.mono movePanel16_frame rfl)

theorem applyRelease_frame {r : Requests} : s.frame [] (s.applyRelease r) := by
  unfold applyRelease
  exact .after (.ite (.refl _) irq_frame) (.after wr_frame wr_frame)

theorem applyWords_frame {r : Requests} : s.frame [.sch] (s.applyWords r) := updSch_frame

theorem applyTimes_frame {l : List (Nat × Nat ⊕ Int)} : s.frame [.tun, .links, .planes, .sch, .tim, .jnl] (s.applyTimes l) :=
  .ite (.refl _) (.after (.mono recapture_frame rfl) (.foldl (fun _ _ => applyTime_frame)))

theorem refill_frame : s.frame [.tun, .links, .planes, .sch, .tim, .jnl] s.refill :=
  .after (.after (.after (.after (.mono tally_frame rfl) (.mono updSch_frame rfl)) (.after (.mono applyWords_frame rfl)
    (.after (.mono applyRelease_frame rfl) applyTimes_frame))) (.ite (.mono wr_frame rfl) (.refl _))) (.mono updSch_frame rfl)

theorem nextIndex_frame {f auto : Field} : s.frame [] (s.nextIndex f auto) := .ite wr_frame (.refl _)

theorem schQRead_frame : s.frame [] s.schQRead :=
  .after (.after (.after nextIndex_frame (.after wr_frame wr_frame)) (.after wr_frame wr_frame)) (.after wr_frame wr_frame)

theorem schQWrite_frame : s.frame [.sch] s.schQWrite :=
  .after (.mono nextIndex_frame rfl) (.ite (.mono wr_frame rfl) (.after (.mono wr_frame rfl) setPair_frame))

theorem allotData_frame {a : Allot} : s.frame [] (s.allotData a) :=
  .after (.after wr_frame (.after wr_frame wr_frame)) (.after wr_frame wr_frame)

theorem schAlDone_frame {r : Nat} : s.frame [] (s.schAlDone r) := .after nextIndex_frame wr_frame

theorem schAlRead_frame : s.frame [] s.schAlRead := .after (.after schAlDone_frame (.after wr_frame wr_frame)) allotData_frame

theorem schAlWrite_frame : s.frame [.sch] s.schAlWrite :=
  .ite (.mono schAlDone_frame rfl) (.after (.mono schAlDone_frame rfl) ask_frame)

theorem schAlReadPending_frame : s.frame [] s.schAlReadPending := .after schAlDone_frame allotData_frame

theorem schPolDone_frame {r : Nat} : s.frame [] (s.schPolDone r) := .after nextIndex_frame wr_frame

theorem schPolRead_frame : s.frame [] s.schPolRead :=
  .after (.after schPolDone_frame (.after wr_frame (.after wr_frame wr_frame))) (.after wr_frame (.after wr_frame (.after
    wr_frame wr_frame)))

theorem schPolWrite_frame : s.frame [.sch] s.schPolWrite :=
  .ite (.mono schPolDone_frame rfl) (.after (.mono schPolDone_frame rfl) ask_frame)

theorem schPolClear_frame : s.frame [.sch] s.schPolClear := .after (.mono schPolDone_frame rfl) setPolicer_frame

theorem askRelease_frame {gs : List Nat} : s.frame [.sch] (s.askRelease gs) := ask_frame

theorem askReclaim_frame {gs : List Nat} : s.frame [.sch] (s.askReclaim gs) := ask_frame

theorem countBins_frame {p q depth age : Nat} : s.frame [.sch] (s.countBins p q depth age) :=
  .ite (.refl _) (.foldl (fun _ _ => updSch_frame))

theorem sample_frame {p : Nat} : s.frame [.sch, .free] (s.sample p) :=
  .ite (.refl _) (.after (.after (.ite (.mono bump_frame rfl) (.refl _)) (.mono countBins_frame rfl)) (.after (.mono
    tookFree_frame rfl) (.mono updSch_frame rfl)))

theorem schSmpRead_frame : s.frame [] s.schSmpRead :=
  .after wr_frame (.after wr_frame (.after wr_frame (.after wr_frame (.after wr_frame (.after wr_frame wr_frame)))))

theorem schSmpClear_frame : s.frame [.sch] s.schSmpClear := updSch_frame

theorem clearHist_frame {h : Nat} : s.frame [.sch] (s.clearHist h) := updSch_frame

theorem execRefillBoundary_frame : s.frameOut [.tun, .links, .planes, .sch, .tim, .jnl] (execRefillBoundary s) :=
  .nextIn (.after refill_frame (.mono begin_frame rfl))

theorem execSchQRead_frame {path : Nat} : s.frameOut [.jnl, .waiting] (execSchQRead path s) :=
  .guarded (.after (gateWrite_frame (fun _ => .mono schQRead_frame rfl) rfl) (.mono begin_frame rfl))

theorem execSchQWrite_frame {path : Nat} : s.frameOut [.sch, .jnl, .waiting] (execSchQWrite path s) :=
  .guarded (.after (gateWrite_frame (fun _ => .mono schQWrite_frame rfl) rfl) (.mono begin_frame rfl))

theorem execSchAlRead_frame {path : Nat} : s.frameOut [.jnl, .waiting] (execSchAlRead path s) :=
  .guarded (.after (gateWrite_frame (fun _ => .mono schAlRead_frame rfl) rfl) (.mono begin_frame rfl))

theorem execSchAlWrite_frame {path : Nat} : s.frameOut [.sch, .jnl, .waiting] (execSchAlWrite path s) :=
  .guarded (.after (gateWrite_frame (fun _ => .mono schAlWrite_frame rfl) rfl) (.mono begin_frame rfl))

theorem execSchAlReadPending_frame {path : Nat} : s.frameOut [.jnl, .waiting] (execSchAlReadPending path s) :=
  .guarded (.after (gateWrite_frame (fun _ => .mono schAlReadPending_frame rfl) rfl) (.mono begin_frame rfl))

theorem execSchPolRead_frame {path : Nat} : s.frameOut [.jnl, .waiting] (execSchPolRead path s) :=
  .guarded (.after (gateWrite_frame (fun _ => .mono schPolRead_frame rfl) rfl) (.mono begin_frame rfl))

theorem execSchPolWrite_frame {path : Nat} : s.frameOut [.sch, .jnl, .waiting] (execSchPolWrite path s) :=
  .guarded (.after (gateWrite_frame (fun _ => .mono schPolWrite_frame rfl) rfl) (.mono begin_frame rfl))

theorem execSchPolClearCnt_frame {path : Nat} : s.frameOut [.sch, .jnl, .waiting] (execSchPolClearCnt path s) :=
  .guarded (.after (gateWrite_frame (fun _ => .mono schPolClear_frame rfl) rfl) (.mono begin_frame rfl))

theorem execSchRelSet_frame {path w data : Nat} : s.frameOut [.sch, .jnl, .waiting] (execSchRelSet path w data s) :=
  .guarded (.after (gateWrite_frame (fun _ => .mono askRelease_frame rfl) rfl) (.mono begin_frame rfl))

theorem execSchRelClr_frame {path w data : Nat} : s.frameOut [.sch, .jnl, .waiting] (execSchRelClr path w data s) :=
  .guarded (.after (gateWrite_frame (fun _ => .mono askReclaim_frame rfl) rfl) (.mono begin_frame rfl))

theorem execSamplerVisit_frame {p : Nat} : s.frameOut [.sch, .free] (execSamplerVisit p s) :=
  .guardedIn (.after sample_frame (.mono begin_frame rfl))

theorem execSchSmpRead_frame {path : Nat} : s.frameOut [.jnl, .waiting] (execSchSmpRead path s) :=
  .guarded (.after (gateWrite_frame (fun _ => .mono schSmpRead_frame rfl) rfl) (.mono begin_frame rfl))

theorem execSchSmpClear_frame {path : Nat} : s.frameOut [.sch, .jnl, .waiting] (execSchSmpClear path s) :=
  .guarded (.after (gateWrite_frame (fun _ => .mono schSmpClear_frame rfl) rfl) (.mono begin_frame rfl))

theorem execHistSelWrite_frame {path h data : Nat} : s.frameOut [.sch, .jnl, .waiting] (execHistSelWrite path h data s) :=
  .guarded (.after (gateWrite_frame (fun _ => .after (.mono clearHist_frame rfl) (.mono store_frame rfl)) rfl) (.mono
    begin_frame rfl))

end Sys2Proof.Machine.State
end

section
/-! SUPPORT. The frames of the display. -/

namespace Sys2Proof.Machine.State

variable {s : State}

theorem setSrc_frame {i : Nat} {x : DspSource} : s.frame [.dsp] (s.setSrc i x) := set_dsp_frame

theorem updSrc_frame {i : Nat} {f : DspSource → DspSource} : s.frame [.dsp] (s.updSrc i f) := setSrc_frame

theorem setOutput_frame {o : Nat} {x : DspOutput} : s.frame [.dsp] (s.setOutput o x) := set_dsp_frame

theorem updOutput_frame {o : Nat} {f : DspOutput → DspOutput} : s.frame [.dsp] (s.updOutput o f) := setOutput_frame

theorem setSrcState_frame {i v : Nat} : s.frame [] (s.setSrcState i v) := wr_frame

theorem setOutState_frame {o v : Nat} : s.frame [] (s.setOutState o v) := wr_frame

theorem putPixels_frame {i buf : Nat} {m : DspMode} {x y : Nat} {rows : List (List Nat)} :
    s.frame [.dram, .pwr] (s.putPixels i buf m x y rows) :=
  .foldl (fun _ _ => dramWrite_frame)

theorem fillBuffers_frame {i : Nat} {m : DspMode} : s.frame [.dram, .pwr, .free] (s.fillBuffers i m) :=
  .after (.mono tookFree_frame rfl) (.after (.mono putPixels_frame rfl) (.mono putPixels_frame rfl))

theorem copyBuffer_frame {i : Nat} {m : DspMode} : s.frame [.dram, .pwr] (s.copyBuffer i m) :=
  .foldl (fun _ _ => .after dramWrite_frame (.mono dramMoves_frame rfl))

theorem dspReply_frame {i ev detail token : Nat} : s.frame [.tun, .planes, .sch] (s.dspReply i ev detail token) :=
  .ite (.refl _) originUnit_frame

theorem outFail_frame {o cause : Nat} : s.frame [] (s.outFail o cause) := .after irq_frame (.after wr_frame setOutState_frame)

theorem startTraining_frame {o : Nat} : s.frame [.dsp] (s.startTraining o) := by
  unfold startTraining
  dsimp only
  split
  · exact .refl _
  · exact .after (.ite (.mono outFail_frame rfl) (.mono setOutState_frame rfl)) updOutput_frame

theorem settleOutput_frame {o : Nat} : s.frame [.dsp] (s.settleOutput o) :=
  .ite (.mono setOutState_frame rfl) (.ite (.mono setOutState_frame rfl) (.ite startTraining_frame (.refl _)))

theorem takeClone_frame {i : Nat} : s.frame [.dsp] (s.takeClone i) :=
  .after (.foldl (fun _ _ => .after settleOutput_frame updOutput_frame)) updSrc_frame

theorem cloneWritten_frame {i : Nat} : s.frame [.dsp] (s.cloneWritten i) := .ite takeClone_frame (.refl _)

theorem outEnWritten_frame {o : Nat} : s.frame [.dsp] (s.outEnWritten o) := by
  unfold outEnWritten
  split
  · exact .after settleOutput_frame updOutput_frame
  · exact cloneWritten_frame

theorem hpdPlug_frame {o : Nat} {k : DspSink} : s.frame [.dsp] (s.hpdPlug o k) :=
  .after (.after (.ite startTraining_frame (.refl _)) (.after (.mono irq_frame rfl) updOutput_frame)) (.after (.mono wr_frame
    rfl) (.mono wr_frame rfl))

theorem hpdUnplug_frame {o : Nat} : s.frame [.dsp] (s.hpdUnplug o) :=
  .after (.after (.ite (.after (.mono wr_frame rfl) (.mono setOutState_frame rfl)) (.refl _)) (.after (.mono irq_frame rfl)
    updOutput_frame)) (.after (.mono wr_frame rfl) (.mono wr_frame rfl))

theorem setOwn_frame {o : Nat} {k : Option DspSink} : s.frame [.dsp] (s.setOwn o k) := updOutput_frame

theorem directMoved_frame {old : State} : s.frame [.dsp] (s.directMoved old) := by
  refine .foldl fun t o => .ite (.refl t) ?_
  extract_lets t'
  have ht : t.frame [.dsp] t' := .ite hpdUnplug_frame (.refl t)
  split
  · exact .after hpdPlug_frame ht
  · exact ht

theorem hpdIrq_frame {o : Nat} {lost : Bool} : s.frame [.dsp] (s.hpdIrq o lost) :=
  .after (.ite updOutput_frame (.ite startTraining_frame (.refl _))) (.mono irq_frame rfl)

theorem trainDone_frame {o : Nat} {ok : Bool} : s.frame [.dsp] (s.trainDone o ok) := by
  unfold trainDone
  dsimp only
  split
  · exact .refl _
  · split
    · exact .refl _
    · exact .after (.ite (.after (.after (.after (.mono irq_frame rfl) (.mono setOutState_frame rfl)) (.after (.mono wr_frame
        rfl) (.after (.mono wr_frame rfl) (.mono wr_frame rfl)))) updOutput_frame) (.after (.ite (.mono outFail_frame rfl)
        (.refl _)) updOutput_frame)) (.mono bump_frame rfl)

theorem badDisplay_frame {u : UnitMsg} {reason : Nat} : s.frame [] (s.badDisplay u reason) :=
  .after (.after irq_frame bump_frame) (.after wr_frame (.after wr_frame wr_frame))

theorem wakeOutputs_frame {i : Nat} : s.frame [.dsp] (s.wakeOutputs i) :=
  .foldl (fun _ _ => .ite (.ite startTraining_frame (.mono setOutState_frame rfl)) (.refl _))

theorem srcUpdate_frame {i : Nat} : s.frame [.tun, .planes, .sch, .dsp] (s.srcUpdate i) :=
  .after (.ite (.refl _) (.after (.after (.after (.mono wakeOutputs_frame rfl) (.after (.mono dspReply_frame rfl) (.mono
    irq_frame rfl))) (.ite (.refl _) (.mono askReclaim_frame rfl))) (.after (.mono updSrc_frame rfl) (.mono setSrcState_frame
    rfl)))) (.after (.mono updSrc_frame rfl) (.mono wr_frame rfl))

theorem enterPsr_frame {i : Nat} : s.frame [.tun, .planes, .sch, .dsp] (s.enterPsr i) :=
  .after (.after (.after (.mono dspReply_frame rfl) (.after (.mono irq_frame rfl) (.mono bump_frame rfl))) (.ite (.refl _)
    (.mono askRelease_frame rfl))) (.after (.mono updSrc_frame rfl) (.mono setSrcState_frame rfl))

theorem modeSet_frame {u : UnitMsg} {i : Nat} : s.frame [.tun, .planes, .sch, .dsp] (s.modeSet u i) :=
  .ite (.after (.mono dspReply_frame rfl) (.mono irq_frame rfl)) (.ite (.after (.mono dspReply_frame rfl) (.mono irq_frame
    rfl)) (.after (.mono updSrc_frame rfl) srcUpdate_frame))

theorem rectRaw_frame {u : UnitMsg} {i : Nat} : s.frame [.tun, .planes, .sch, .dram, .dsp, .pwr] (s.rectRaw u i) := by
  unfold rectRaw
  dsimp only
  split
  · exact .refl _
  · exact .after (.mono srcUpdate_frame rfl) (.mono putPixels_frame rfl)

theorem rectTile_frame {u : UnitMsg} {i : Nat} : s.frame [.tun, .planes, .sch, .dram, .dsp, .pwr, .free] (s.rectTile u i) := by
  unfold rectTile
  dsimp only
  split
  · exact .refl _
  · split
    · exact .refl _
    · exact .after (.mono srcUpdate_frame rfl) (.after (.foldl (fun _ _ => .mono putPixels_frame rfl)) (.mono tookFree_frame
        rfl))

theorem cursorUnit_frame {u : UnitMsg} {i : Nat} : s.frame [.tun, .planes, .sch, .dsp] (s.cursorUnit u i) :=
  .after srcUpdate_frame (.mono updSrc_frame rfl)

theorem flipUnit_frame {u : UnitMsg} {i : Nat} : s.frame [.tun, .planes, .sch, .dsp] (s.flipUnit u i) :=
  .after (.after srcUpdate_frame (.mono wr_frame rfl)) (.mono updSrc_frame rfl)

theorem fenceUnitDsp_frame {u : UnitMsg} {i : Nat} : s.frame [.tun, .planes, .sch, .dsp] (s.fenceUnitDsp u i) :=
  .ite (.mono updSrc_frame rfl) (.mono dspReply_frame rfl)

theorem applyDisplay_frame {u : UnitMsg} {i : Nat} :
    s.frame [.tun, .planes, .sch, .dram, .dsp, .pwr, .free] (s.applyDisplay u i) := by
  unfold applyDisplay
  dsimp only
  split
  · exact .refl _
  · split
    · exact .mono badDisplay_frame rfl
    · split
      · exact .mono modeSet_frame rfl
      · exact .mono rectRaw_frame rfl
      · exact rectTile_frame
      · exact .mono cursorUnit_frame rfl
      · exact .mono flipUnit_frame rfl
      · exact .mono fenceUnitDsp_frame rfl

theorem takeDisplay_frame {u : UnitMsg} {want : Nat} :
    s.frame [.tun, .planes, .sch, .dram, .dsp, .pwr, .free] (s.takeDisplay u want) := by
  unfold takeDisplay
  split
  · exact .after (.mono irq_frame rfl) (.mono bump_frame rfl)
  · exact .ite (.mono bump_frame rfl) (.ite (.refl _) (.ite (.mono updSrc_frame rfl) applyDisplay_frame))

theorem takeHeld_frame {i : Nat} : s.frame [.tun, .planes, .sch, .dram, .dsp, .pwr, .free] (s.takeHeld i) :=
  .after (.foldl (fun _ _ => .ite (.mono updSrc_frame rfl) applyDisplay_frame)) (.mono updSrc_frame rfl)

theorem srcDrained_frame {i : Nat} : s.frame [.dsp] (s.srcDrained i) :=
  .ite (.after wakeOutputs_frame (.after (.mono irq_frame rfl) (.after updSrc_frame (.mono setSrcState_frame rfl)))) (.refl _)

theorem srcDisable_frame {i : Nat} : s.frame [.dsp] (s.srcDisable i) :=
  .ite (.refl _) (.after srcDrained_frame (.after (.mono bumpBy_frame rfl) (.after updSrc_frame (.mono setSrcState_frame
    rfl))))

theorem srcAbort_frame {i : Nat} : s.frame [.tun, .planes, .sch, .dsp] (s.srcAbort i) :=
  .ite (.refl _) (.after (.after (.after (.after (.mono srcDrained_frame rfl) (.ite (.refl _) (.mono irq_frame rfl))) (.after
    (.foldl (fun _ _ => .mono dspReply_frame rfl)) (.mono bumpBy_frame rfl))) (.after (.mono wr_frame rfl) (.mono wr_frame
    rfl))) (.mono updSrc_frame rfl))

theorem displayShuts_frame : s.frame [.dsp] s.displayShuts :=
  .after (.foldl (fun _ _ => srcDisable_frame)) (.foldl (fun _ _ => .after (.mono setOutState_frame rfl) updOutput_frame))

theorem srcEnable_frame {i : Nat} : s.frame [.dsp] (s.srcEnable i) :=
  .after (.after updSrc_frame (.after (.mono wr_frame rfl) (.mono wr_frame rfl))) (.after (.mono wr_frame rfl) (.after (.mono
    wr_frame rfl) (.mono setSrcState_frame rfl)))

theorem displayResumes_frame : s.frame [.dsp] s.displayResumes :=
  .after (.foldl (fun _ _ => .after settleOutput_frame updOutput_frame)) (.foldl (fun _ _ => .ite (.after updSrc_frame
    srcEnable_frame) (.refl _)))

theorem takeFlips_frame {i : Nat} : s.frame [.tun, .planes, .sch, .dsp] (s.takeFlips i) :=
  .ite (.refl _) (.after (.after (.after (.after (.foldl (fun _ _ => .mono dspReply_frame rfl)) (.after (.mono wr_frame rfl)
    (.mono wr_frame rfl))) (.ite (.mono wr_frame rfl) (.refl _))) (.mono wr_frame rfl)) (.mono updSrc_frame rfl))

theorem takeMode_frame {i : Nat} : s.frame [.dram, .dsp, .pwr, .free] (s.takeMode i) := by
  unfold takeMode
  dsimp only
  split
  · exact .refl _
  · exact .after (.after (.after (.after (.after (.foldl (fun _ _ => by
      split
      · exact .refl _
      · exact .ite (.refl _) (.ite (.refl _) (.mono startTraining_frame rfl)))) (.mono fillBuffers_frame rfl)) (.after (.mono
          wr_frame rfl) (.mono wr_frame rfl))) (.after (.mono wr_frame rfl) (.mono wr_frame rfl))) (.ite (.refl _) (.mono
          setSrcState_frame rfl))) (.mono updSrc_frame rfl)

theorem journalLines_frame {i : Nat} : s.frame [.dsp, .jnl] (s.journalLines i) := by
  unfold journalLines
  dsimp only
  exact .after (by
    split
    · exact .mono journalAt_frame rfl
    · exact .refl _) (.mono updSrc_frame rfl)

theorem resumeFetch_frame {i : Nat} : s.frame [.dsp] (s.resumeFetch i) := by
  unfold resumeFetch
  split
  · exact .ite updSrc_frame (.refl _)
  · exact .refl _

theorem countIdle_frame {i : Nat} : s.frame [.dsp] (s.countIdle i) :=
  .ite (.refl _) (.after updSrc_frame (.mono bump_frame rfl))

theorem frameStart_frame {i : Nat} : s.frame [.tun, .planes, .sch, .dram, .dsp, .jnl, .pwr, .free] (s.frameStart i) :=
  .ite (.refl _) (.after (.after (.after (.ite (.mono enterPsr_frame rfl) (.refl _)) (.after (.mono countIdle_frame rfl)
    (.after (.mono srcDrained_frame rfl) (.after (.mono resumeFetch_frame rfl) (.mono takeMode_frame rfl))))) (.after (.mono
    updSrc_frame rfl) (.after (.mono takeFlips_frame rfl) (.mono takeClone_frame rfl)))) (.after (.mono journalLines_frame
    rfl) (.after (.mono tally_frame rfl) (.mono bumpWrap_frame rfl))))

theorem stateTolerance_frame {f0 f1 : Nat} : s.frame [] (s.stateTolerance f0 f1) := .after wr_frame (.after wr_frame wr_frame)

theorem psrStandby_frame {i : Nat} : s.frame [.dsp] (s.psrStandby i) :=
  .ite (.refl _) (.after (.after (.foldl (fun _ _ => .ite (.mono setOutState_frame rfl) (.refl _))) (.mono
    stateTolerance_frame rfl)) (.after (.mono wr_frame rfl) updSrc_frame))

theorem modeChanged_frame {i : Nat} : s.frame [.tun, .planes, .sch, .dram, .dsp, .pwr, .free] (s.modeChanged i) := by
  unfold modeChanged
  dsimp only
  split
  · exact .refl _
  · exact .after (.after (.after takeHeld_frame (.after (.mono srcDrained_frame rfl) (.after (.mono dspReply_frame rfl)
      (.mono irq_frame rfl)))) (.ite (.mono setSrcState_frame rfl) (.refl _))) (.mono updSrc_frame rfl)

theorem copied_frame {i : Nat} : s.frame [.tun, .planes, .sch, .dram, .dsp, .pwr, .free] (s.copied i) := by
  unfold copied
  dsimp only
  split
  · exact .refl _
  · refine .after (.after takeHeld_frame (.after (.mono srcDrained_frame rfl) (.mono wr_frame rfl))) ?_
    split
    · exact .refl _
    · exact .mono copyBuffer_frame rfl

theorem fetch_frame {i fill corr : Nat} : s.frame [.dsp, .pwr] (s.fetch i fill corr) :=
  .ite (.mono wr_frame rfl) (.after (.after (.mono bumpBy_frame rfl) (.after (.mono tally_frame rfl) (.after (.mono
    tally_frame rfl) (.after (.mono tally_frame rfl) (.mono (set_power_frame rfl) rfl))))) (.after (.mono wr_frame rfl)
    (.mono updSrc_frame rfl)))

theorem lateLine_frame {i : Nat} {whole : Bool} : s.frame [.dsp] (s.lateLine i whole) := by
  unfold lateLine
  dsimp only
  split
  · exact .refl _
  · exact .ite (.refl _) updSrc_frame

theorem showBack_frame {addr : Nat} : s.frame [.dsp] (s.showBack addr) := by
  unfold showBack
  dsimp only
  exact .foldl (fun _ _ => by
    split
    · exact .refl _
    · exact updSrc_frame)

theorem underrun_frame {i : Nat} {whole : Bool} : s.frame [.dsp] (s.underrun i whole) := by
  unfold underrun
  dsimp only
  split
  · exact .refl _
  · exact .after (.foldl (fun _ _ => .after (.ite (.mono bump_frame rfl) (.refl _)) (.after (.mono irq_frame rfl) (.after
      (.mono tally_frame rfl) (.mono bump_frame rfl))))) (.after updSrc_frame lateLine_frame)

theorem auxCmd_frame {path o op data : Nat} : s.frame [.dsp, .jnl, .waiting] (s.auxCmd path o op data) :=
  gateWrite_frame (fun _ => .ite (.mono wr_frame rfl) (.after (.mono emit_frame rfl) (.after (.mono wr_frame rfl) (.mono
    updOutput_frame rfl)))) rfl

theorem auxDone_frame {o r : Nat} : s.frame [.dsp] (s.auxDone o r) :=
  .after (.mono irq_frame rfl) (.after (.mono wr_frame rfl) (.after (.mono wr_frame rfl) updOutput_frame))

theorem auxStore_frame {o : Nat} {bs : List Byte} : s.frame [] (s.auxStore o bs) := .foldl (fun _ _ => wr_frame)

theorem auxReply_frame {o code : Nat} {bs : List Byte} : s.frame [.dsp] (s.auxReply o code bs) := by
  unfold auxReply
  split
  · exact .refl _
  · exact .ite (.after auxDone_frame (.ite (.mono auxStore_frame rfl) (.refl _))) (.ite auxDone_frame (.ite auxDone_frame
      (.after (.mono emit_frame rfl) updOutput_frame)))

theorem srcCfgWrite_frame {path i data : Nat} {act : State → State} {ps : List Part}
    (hact : ∀ s, State.frame s ps (act s)) (hps : decide ([.dsp, .jnl, .waiting] ⊆ ps) = true) :
    s.frame ps (s.srcCfgWrite path i data act) :=
  gateWrite_frame (fun _ => .after (.within cloneWritten_frame hps rfl) (.after (hact _) (.any store_frame)))
    (needs_trans rfl hps)

theorem execModeSet_frame {u : UnitMsg} : s.frameOut [.tun, .planes, .sch, .dram, .dsp, .pwr, .free] (execModeSet u s) :=
  .nextIn (.after takeDisplay_frame (.mono begin_frame rfl))

theorem execRectRaw_frame {u : UnitMsg} : s.frameOut [.tun, .planes, .sch, .dram, .dsp, .pwr, .free] (execRectRaw u s) :=
  .nextIn (.after takeDisplay_frame (.mono begin_frame rfl))

theorem execRectTile_frame {u : UnitMsg} : s.frameOut [.tun, .planes, .sch, .dram, .dsp, .pwr, .free] (execRectTile u s) :=
  .nextIn (.after takeDisplay_frame (.mono begin_frame rfl))

theorem execCursor_frame {u : UnitMsg} : s.frameOut [.tun, .planes, .sch, .dram, .dsp, .pwr, .free] (execCursor u s) :=
  .nextIn (.after takeDisplay_frame (.mono begin_frame rfl))

theorem execFlip_frame {u : UnitMsg} : s.frameOut [.tun, .planes, .sch, .dram, .dsp, .pwr, .free] (execFlip u s) :=
  .nextIn (.after takeDisplay_frame (.mono begin_frame rfl))

theorem execDisplayFence_frame {u : UnitMsg} :
    s.frameOut [.tun, .planes, .sch, .dram, .dsp, .pwr, .free] (execDisplayFence u s) :=
  .nextIn (.after takeDisplay_frame (.mono begin_frame rfl))

theorem execFrameStart_frame {i : Nat} :
    s.frameOut [.tun, .planes, .sch, .dram, .dsp, .jnl, .pwr, .free] (execFrameStart i s) :=
  .guardedIn (.after frameStart_frame (.mono begin_frame rfl))

theorem execPsrStandby_frame {i : Nat} : s.frameOut [.dsp] (execPsrStandby i s) :=
  .guardedIn (.after psrStandby_frame (.mono begin_frame rfl))

theorem execModeChangeDone_frame {i : Nat} :
    s.frameOut [.tun, .planes, .sch, .dram, .dsp, .pwr, .free] (execModeChangeDone i s) :=
  .guardedIn (.after modeChanged_frame (.mono begin_frame rfl))

theorem execCopyDone_frame {i : Nat} : s.frameOut [.tun, .planes, .sch, .dram, .dsp, .pwr, .free] (execCopyDone i s) :=
  .guardedIn (.after copied_frame (.mono begin_frame rfl))

theorem execFetchStart_frame {i : Nat} {run : FetchRun} : s.frameOut [.dsp, .pwr] (execFetchStart i run s) :=
  .guardedIn (.after fetch_frame (.mono begin_frame rfl))

theorem execFetchDramUncorr_frame {addr : Nat} : s.frameOut [.dsp, .jnl] (execFetchDramUncorr addr s) :=
  .nextIn (.after (.mono event_frame rfl) (.after (.mono bump_frame rfl) (.after (.mono showBack_frame rfl) (.mono
    begin_frame rfl))))

theorem execLatencyToleranceUpdate_frame {f0 f1 : Nat} : s.frameOut [] (execLatencyToleranceUpdate f0 f1 s) :=
  .guardedIn (.after stateTolerance_frame begin_frame)

theorem execUnderrun_frame {i : Nat} {whole : Bool} : s.frameOut [.dsp] (execUnderrun i whole s) :=
  .guardedIn (.after underrun_frame (.mono begin_frame rfl))

theorem execHpdPlug_frame {o : Nat} {sink : DspSink} : s.frameOut [.dsp] (execHpdPlug o sink s) :=
  .guardedIn (.after (.ite (.refl _) hpdPlug_frame) (.after setOwn_frame (.mono begin_frame rfl)))

theorem execHpdUnplug_frame {o : Nat} : s.frameOut [.dsp] (execHpdUnplug o s) :=
  .guardedIn (.after (.ite (.refl _) hpdUnplug_frame) (.after setOwn_frame (.mono begin_frame rfl)))

theorem execIrqHpd_frame {o : Nat} {lost : Bool} : s.frameOut [.dsp] (execIrqHpd o lost s) :=
  .guardedIn (.ite (.mono begin_frame rfl) (.after hpdIrq_frame (.mono begin_frame rfl)))

theorem execOutputTrainAttemptDone_frame {o : Nat} {ok : Bool} : s.frameOut [.dsp] (execOutputTrainAttemptDone o ok s) :=
  .guardedIn (.after trainDone_frame (.mono begin_frame rfl))

theorem execAuxNativeRead_frame {path o data : Nat} : s.frameOut [.dsp, .jnl, .waiting] (execAuxNativeRead path o data s) :=
  .guarded (.after auxCmd_frame (.mono begin_frame rfl))

theorem execAuxNativeWrite_frame {path o data : Nat} : s.frameOut [.dsp, .jnl, .waiting] (execAuxNativeWrite path o data s) :=
  .guarded (.after auxCmd_frame (.mono begin_frame rfl))

theorem execAuxI2cRead_frame {path o data : Nat} : s.frameOut [.dsp, .jnl, .waiting] (execAuxI2cRead path o data s) :=
  .guarded (.after auxCmd_frame (.mono begin_frame rfl))

theorem execAuxI2cWrite_frame {path o data : Nat} : s.frameOut [.dsp, .jnl, .waiting] (execAuxI2cWrite path o data s) :=
  .guarded (.after auxCmd_frame (.mono begin_frame rfl))

theorem execAuxReply_frame {o code : Nat} {data : List Byte} : s.frameOut [.dsp] (execAuxReply o code data s) :=
  .guardedIn (.after auxReply_frame (.mono begin_frame rfl))

theorem execAuxTimeout_frame {o : Nat} : s.frameOut [.dsp] (execAuxTimeout o s) :=
  .guardedIn (.after (.ite auxDone_frame (.ite (.after (.mono outFail_frame rfl) updOutput_frame) (.refl _))) (.mono
    begin_frame rfl))

theorem execSourceEnable_frame {path i data : Nat} : s.frameOut [.dsp, .jnl, .waiting] (execSourceEnable path i data s) :=
  .guarded (.after (srcCfgWrite_frame (fun _ => .ite (.mono srcEnable_frame rfl) (.refl _)) rfl) (.mono begin_frame rfl))

theorem execSourceDisable_frame {path i data : Nat} : s.frameOut [.dsp, .jnl, .waiting] (execSourceDisable path i data s) :=
  .guarded (.after (srcCfgWrite_frame (fun _ => .mono srcDisable_frame rfl) rfl) (.mono begin_frame rfl))

theorem execSourceDrainTimeout_frame {i : Nat} : s.frameOut [.tun, .planes, .sch, .dsp] (execSourceDrainTimeout i s) :=
  .guardedIn (.after srcAbort_frame (.mono begin_frame rfl))

theorem execAltModeWrite_frame {path n data : Nat} : s.frameOut [.dsp, .jnl, .waiting] (execAltModeWrite path n data s) :=
  .guarded (.after (gateWrite_frame (fun _ => .after (.after (.mono directMoved_frame rfl) (.ite (.after (.mono wr_frame rfl)
    (.mono wr_frame rfl)) (.refl _))) (.mono store_frame rfl)) rfl) (.mono begin_frame rfl))

end Sys2Proof.Machine.State
end

section
/-! SUPPORT. The frames of the key store. -/

namespace Sys2Proof.Machine.State

variable {s : State}

theorem updKey_frame {f : KeyState → KeyState} : s.frame [.key] (s.updKey f) := set_key_frame

theorem setSlot_frame {k : Nat} {x : Option KeySlot} : s.frame [.key] (s.setSlot k x) := updKey_frame

theorem setBuf_frame {f : Field} {n : Nat} {bs : List Byte} : s.frame [] (s.setBuf f n bs) := .foldl (fun _ _ => wr_frame)

theorem rederive_frame : s.frame [.key] s.rederive := by
  unfold rederive
  split
  · exact updKey_frame
  · exact updKey_frame

theorem ownerWrite_frame {path addr data : Nat} {act : State → State} {ps : List Part}
    (hact : ∀ s, State.frame s ps (act s)) (hps : decide ([.jnl, .waiting] ⊆ ps) = true) :
    s.frame ps (s.ownerWrite path addr data act) :=
  gateWrite_frame (fun _ => .ite (hact _) (.within deny_frame hps rfl)) hps

theorem authResult_frame {r : Nat} : s.frame [] (s.authResult r) := wr_frame

theorem authRead_frame : s.frame [] s.authRead := .after authResult_frame (.after wr_frame (.after wr_frame wr_frame))

theorem authWrite_frame {path : Nat} : s.frame [] (s.authWrite path) :=
  .ite authResult_frame (.ite authResult_frame (.ite authResult_frame (.after authResult_frame (.after wr_frame wr_frame))))

theorem authLock_frame {path : Nat} : s.frame [] (s.authLock path) :=
  .ite authResult_frame (.ite authResult_frame (.after authResult_frame wr_frame))

theorem keyResult_frame {r : Nat} : s.frame [] (s.keyResult r) := wr_frame

theorem keyCmd_frame {path op k kind usage l : Nat} : s.frame [.key] (s.keyCmd path op k kind usage l) := by
  unfold keyCmd
  dsimp only
  split
  · exact .mono keyResult_frame rfl
  · split
    · exact .mono keyResult_frame rfl
    · exact .after (.mono wr_frame rfl) updKey_frame

theorem provision_frame : s.frame [.key, .free] s.provision :=
  .after (.after (.after (.mono keyResult_frame rfl) (.after (.mono rederive_frame rfl) (.mono updKey_frame rfl))) (.after
    (.mono wr_frame rfl) (.mono wr_frame rfl))) (.mono set_free_frame rfl)

theorem keyLoad_frame {k : Nat} {b : List Byte} : s.frame [.key] (s.keyLoad k b) := by
  unfold keyLoad
  split
  · exact .after (.mono keyResult_frame rfl) setSlot_frame
  · exact .after (.mono keyResult_frame rfl) (.after (.mono bump_frame rfl) setSlot_frame)

theorem fillSlot_frame {j : KeyJob} {key : List Byte} : s.frame [.key, .free] (s.fillSlot j key) :=
  .after (.mono keyResult_frame rfl) (.after (.mono setSlot_frame rfl) (.mono set_free_frame rfl))

theorem keyGenerate_frame {j : KeyJob} : s.frame [.key, .free] (s.keyGenerate j) :=
  .after fillSlot_frame (.mono set_free_frame rfl)

theorem keyDerive_frame {j : KeyJob} : s.frame [.key, .free] (s.keyDerive j) := fillSlot_frame

theorem keyWrap_frame {k : Nat} : s.frame [.free] (s.keyWrap k) := by
  unfold keyWrap
  dsimp only
  split
  · exact .mono keyResult_frame rfl
  · exact .after (.after (.mono keyResult_frame rfl) (.mono setBuf_frame rfl)) set_free_frame

theorem keyUse_frame {k n : Nat} {f : List Byte → List Byte} : s.frame [] (s.keyUse k n f) := by
  unfold keyUse
  split
  · exact keyResult_frame
  · exact .after keyResult_frame setBuf_frame

theorem keyAttPub_frame : s.frame [] s.keyAttPub := by
  unfold keyAttPub
  split
  · exact keyResult_frame
  · exact .after keyResult_frame setBuf_frame

theorem keyAct_frame {j : KeyJob} : s.frame [.key, .free] (s.keyAct j) := by
  unfold keyAct
  split
  · exact provision_frame
  · exact .mono keyLoad_frame rfl
  · exact .after (.mono keyResult_frame rfl) (.mono setSlot_frame rfl)
  · exact keyGenerate_frame
  · exact .mono keyWrap_frame rfl
  · exact keyDerive_frame
  · exact .mono keyUse_frame rfl
  · exact .mono keyUse_frame rfl
  · exact .mono keyUse_frame rfl
  · exact .mono keyAttPub_frame rfl

theorem keyDone_frame : s.frame [.key, .free] s.keyDone := by
  unfold keyDone
  split
  · exact .refl _
  · exact .after (.mono wr_frame rfl) (.after (.mono updKey_frame rfl) keyAct_frame)

theorem otpResult_frame {r : Nat} : s.frame [] (s.otpResult r) := wr_frame

theorem otpCmd_frame {path op kind svn : Nat} : s.frame [.key] (s.otpCmd path op kind svn) := by
  unfold otpCmd
  split
  · exact .mono otpResult_frame rfl
  · split
    · exact .mono otpResult_frame rfl
    · exact .after (.mono wr_frame rfl) updKey_frame

theorem otpAct_frame {j : KeyJob} : s.frame [.key] (s.otpAct j) := by
  unfold otpAct
  split
  · exact .after (.mono wr_frame rfl) updKey_frame
  · exact .after (.mono wr_frame rfl) updKey_frame
  · exact .after (.mono wr_frame rfl) updKey_frame
  · exact updKey_frame

theorem otpDone_frame : s.frame [.key] s.otpDone := by
  unfold otpDone
  split
  · exact .refl _
  · exact .after (.mono otpResult_frame rfl) (.after (.mono wr_frame rfl) (.after updKey_frame otpAct_frame))

theorem debugShut_frame : s.frame [] s.debugShut := .after wr_frame (.after wr_frame (.after wr_frame wr_frame))

theorem nonceGone_frame : s.frame [.key] s.nonceGone := .after (.mono wr_frame rfl) updKey_frame

theorem keyAborts_frame : s.frame [.key] s.keyAborts :=
  .after (.after updKey_frame (.ite (.after (.mono wr_frame rfl) (.mono wr_frame rfl)) (.refl _))) (.ite (.after (.mono
    keyResult_frame rfl) (.mono wr_frame rfl)) (.refl _))

theorem tamperFlag_frame : s.frame [.csr] s.tamperFlag := .after (.mono irq_frame rfl) set_csr_frame

theorem tamperFollows_frame : s.frame [.jnl] s.tamperFollows := .ite (.after journalAt_frame (.mono wr_frame rfl)) (.refl _)

theorem tamperTold_frame : s.frame [.jnl, .csr] s.tamperTold :=
  .after (.ite (.refl _) (.after (.mono tamperFollows_frame rfl) (.mono tamperFlag_frame rfl))) (.mono wr_frame rfl)

theorem zeroise_frame {causes : Nat} : s.frame [.key, .jnl, .csr] (s.zeroise causes) :=
  .after (.after (.after (.mono tamperTold_frame rfl) (.mono bump_frame rfl)) (.after (.mono wr_frame rfl) (.mono wr_frame
    rfl))) (.after (.mono updKey_frame rfl) (.after (.mono wr_frame rfl) (.after (.mono debugShut_frame rfl) (.after (.mono
    nonceGone_frame rfl) (.mono keyAborts_frame rfl)))))

theorem tamper_frame {sources : Nat} : s.frame [.key, .jnl, .csr] (s.tamper sources) :=
  .after (.after (.ite zeroise_frame (.refl _)) (.mono updKey_frame rfl)) (.mono wr_frame rfl)

theorem vbat_frame {mv : Nat} : s.frame [] (s.vbat mv) :=
  .after (.ite wr_frame (.ite (.refl _) (.after irq_frame wr_frame))) wr_frame

theorem attest_frame : s.frame [.key] s.attest := by
  unfold attest
  split
  · exact .mono wr_frame rfl
  · split
    · exact .mono wr_frame rfl
    · exact .ite (.mono wr_frame rfl) (.after (.mono wr_frame rfl) updKey_frame)

theorem attestDone_frame : s.frame [.key] s.attestDone := by
  unfold attestDone
  dsimp only
  split
  · exact .refl _
  · exact .after (.after (.mono wr_frame rfl) (.after (.mono wr_frame rfl) (.mono wr_frame rfl))) (.after (.mono setBuf_frame
      rfl) updKey_frame)

theorem dbgResult_frame {r : Nat} : s.frame [] (s.dbgResult r) := wr_frame

theorem challenge_frame {scope : Nat} : s.frame [.key, .free] (s.challenge scope) :=
  .ite (.mono dbgResult_frame rfl) (.ite (.mono dbgResult_frame rfl) (.ite (.mono dbgResult_frame rfl) (.after (.after (.mono
    dbgResult_frame rfl) (.after (.mono wr_frame rfl) (.after (.mono setBuf_frame rfl) (.mono updKey_frame rfl)))) (.mono
    set_free_frame rfl))))

theorem respondFails_frame {r : Nat} : s.frame [.key] (s.respondFails r) :=
  .after (.after (.mono dbgResult_frame rfl) (.after (.mono wr_frame rfl) (.mono bump_frame rfl))) updKey_frame

theorem debugOpens_frame {scope : Nat} : s.frame [.key, .jnl, .free] (s.debugOpens scope) :=
  .after (.after (.after (.mono dbgResult_frame rfl) (.after (.mono set_free_frame rfl) (.after (.mono journalAt_frame rfl)
    (.mono rederive_frame rfl)))) (.after (.mono wr_frame rfl) (.after (.mono wr_frame rfl) (.after (.mono wr_frame rfl)
    (.mono wr_frame rfl))))) (.mono updKey_frame rfl)

theorem respond_frame : s.frame [.key, .jnl, .free] s.respond := by
  unfold respond
  dsimp only
  split
  · exact .mono respondFails_frame rfl
  · exact .after (.ite (.mono respondFails_frame rfl) (.ite (.mono respondFails_frame rfl) (.ite (.mono respondFails_frame
      rfl) debugOpens_frame))) (.mono nonceGone_frame rfl)

theorem debugCloses_frame : s.frame [.key] s.debugCloses :=
  .after rederive_frame (.after updKey_frame (.mono debugShut_frame rfl))

theorem dbgClose_frame : s.frame [.key, .free] s.dbgClose :=
  .ite (.after (.mono tookFree_frame rfl) (.mono dbgResult_frame rfl)) (.ite (.after (.mono dbgResult_frame rfl) (.mono
    debugCloses_frame rfl)) (.mono dbgResult_frame rfl))

theorem keyWord_frame {path data l : Nat} : s.frame [.key] (s.keyWord path data l) := keyCmd_frame

theorem keyWrite_frame {path op k kind usage l : Nat} : s.frame [.key, .jnl, .waiting] (s.keyWrite path op k kind usage l) :=
  gateWrite_frame (fun _ => .mono keyCmd_frame rfl) rfl

theorem otpWrite_frame {path op kind svn : Nat} : s.frame [.key, .jnl, .waiting] (s.otpWrite path op kind svn) :=
  gateWrite_frame (fun _ => .mono otpCmd_frame rfl) rfl

theorem execKeyAuthRead_frame {path : Nat} : s.frameOut [.jnl, .waiting] (execKeyAuthRead path s) :=
  .guarded (.after (gateWrite_frame (fun _ => .mono authRead_frame rfl) rfl) (.mono begin_frame rfl))

theorem execKeyAuthWrite_frame {path : Nat} : s.frameOut [.jnl, .waiting] (execKeyAuthWrite path s) :=
  .guarded (.after (gateWrite_frame (fun _ => .mono authWrite_frame rfl) rfl) (.mono begin_frame rfl))

theorem execKeyAuthLock_frame {path : Nat} : s.frameOut [.jnl, .waiting] (execKeyAuthLock path s) :=
  .guarded (.after (gateWrite_frame (fun _ => .mono authLock_frame rfl) rfl) (.mono begin_frame rfl))

theorem execProvision_frame {path : Nat} : s.frameOut [.key, .jnl, .waiting] (execProvision path s) :=
  .guarded (.after keyWrite_frame (.mono begin_frame rfl))

theorem execKeyLoad_frame {path k : Nat} : s.frameOut [.key, .jnl, .waiting] (execKeyLoad path k s) :=
  .guarded (.after keyWrite_frame (.mono begin_frame rfl))

theorem execKeyClear_frame {path k : Nat} : s.frameOut [.key, .jnl, .waiting] (execKeyClear path k s) :=
  .guarded (.after keyWrite_frame (.mono begin_frame rfl))

theorem execKeyGenerate_frame {path k kind usage : Nat} :
    s.frameOut [.key, .jnl, .waiting] (execKeyGenerate path k kind usage s) :=
  .guarded (.after keyWrite_frame (.mono begin_frame rfl))

theorem execKeyWrap_frame {who : KeyUser} {k : Nat} : s.frameOut [.key, .jnl, .waiting] (execKeyWrap who k s) :=
  .guarded (.after keyWrite_frame (.mono begin_frame rfl))

theorem execKeyDerive_frame {path k kind usage : Nat} :
    s.frameOut [.key, .jnl, .waiting] (execKeyDerive path k kind usage s) :=
  .guarded (.after keyWrite_frame (.mono begin_frame rfl))

theorem execKeySign_frame {who : KeyUser} {k : Nat} : s.frameOut [.key, .jnl, .waiting] (execKeySign who k s) :=
  .guarded (.after keyWrite_frame (.mono begin_frame rfl))

theorem execKeyMac_frame {who : KeyUser} {k : Nat} : s.frameOut [.key, .jnl, .waiting] (execKeyMac who k s) :=
  .guarded (.after keyWrite_frame (.mono begin_frame rfl))

theorem execKeyReadPub_frame {who : KeyUser} {k : Nat} : s.frameOut [.key, .jnl, .waiting] (execKeyReadPub who k s) :=
  .guarded (.after keyWrite_frame (.mono begin_frame rfl))

theorem execKeyReadAttPub_frame {path : Nat} : s.frameOut [.key, .jnl, .waiting] (execKeyReadAttPub path s) :=
  .guarded (.after keyWrite_frame (.mono begin_frame rfl))

theorem execKeyCmdComplete_frame : s.frameOut [.key, .free] (execKeyCmdComplete s) :=
  .nextIn (.after keyDone_frame (.mono begin_frame rfl))

theorem execOtpProgCodeHash_frame {path : Nat} : s.frameOut [.key, .jnl, .waiting] (execOtpProgCodeHash path s) :=
  .guarded (.after otpWrite_frame (.mono begin_frame rfl))

theorem execOtpProgDebugHash_frame {path : Nat} : s.frameOut [.key, .jnl, .waiting] (execOtpProgDebugHash path s) :=
  .guarded (.after otpWrite_frame (.mono begin_frame rfl))

theorem execOtpSetDbgNever_frame {path : Nat} : s.frameOut [.key, .jnl, .waiting] (execOtpSetDbgNever path s) :=
  .guarded (.after otpWrite_frame (.mono begin_frame rfl))

theorem execOtpRaiseSvn_frame {path kind svn : Nat} : s.frameOut [.key, .jnl, .waiting] (execOtpRaiseSvn path kind svn s) :=
  .guarded (.after otpWrite_frame (.mono begin_frame rfl))

theorem execOtpCommandDone_frame : s.frameOut [.key] (execOtpCommandDone s) :=
  .nextIn (.after otpDone_frame (.mono begin_frame rfl))

theorem execTamperLock_frame {path data : Nat} : s.frameOut [.jnl, .waiting] (execTamperLock path data s) :=
  .guarded (.after (ownerWrite_frame (fun _ => .mono store_frame rfl) rfl) (.mono begin_frame rfl))

theorem execAttest_frame {path : Nat} : s.frameOut [.key, .jnl, .waiting] (execAttest path s) :=
  .guarded (.after (gateWrite_frame (fun _ => .mono attest_frame rfl) rfl) (.mono begin_frame rfl))

theorem execAttestDone_frame : s.frameOut [.key] (execAttestDone s) :=
  .nextIn (.after attestDone_frame (.mono begin_frame rfl))

theorem execDebugChallenge_frame {path scope : Nat} :
    s.frameOut [.key, .jnl, .waiting, .free] (execDebugChallenge path scope s) :=
  .guarded (.after (gateWrite_frame (fun _ => .mono challenge_frame rfl) rfl) (.mono begin_frame rfl))

theorem execDebugRespond_frame {path : Nat} : s.frameOut [.key, .jnl, .waiting, .free] (execDebugRespond path s) :=
  .guarded (.after (gateWrite_frame (fun _ => .mono respond_frame rfl) rfl) (.mono begin_frame rfl))

theorem execDebugClose_frame {path : Nat} : s.frameOut [.key, .jnl, .waiting, .free] (execDebugClose path s) :=
  .guarded (.after (gateWrite_frame (fun _ => .mono dbgClose_frame rfl) rfl) (.mono begin_frame rfl))

theorem execDebugNonceExpiry_frame : s.frameOut [] (execDebugNonceExpiry s) := .nextIn (.after wr_frame begin_frame)

end Sys2Proof.Machine.State
end

section
/-! SUPPORT. The frames of the feeds and fuses. -/

namespace Sys2Proof.Machine.State

variable {s : State}

theorem fusJournal_frame {page b arg : Nat} : s.frame [.fus, .jnl] (s.fusJournal page b arg) :=
  .ite (.mono journalAt_frame rfl) (.mono updFus_frame rfl)

theorem fusEvent_frame {page b arg : Nat} : s.frame [.fus, .jnl] (s.fusEvent page b arg) :=
  .after fusJournal_frame (.mono irq_frame rfl)

theorem pgGone_frame {c : Nat} : s.frame [] (s.pgGone c) := .after (.ite irq_frame (.refl _)) wr_frame

theorem noteTick_frame {c : Nat} : s.frame [.fus] (s.noteTick c) := setChan_frame

theorem chGo_frame {c st : Nat} : s.frame [.fus] (s.chGo c st) :=
  .after (.ite (.refl _) (.after (.mono pgGone_frame rfl) (.after (.mono wr_frame rfl) setChan_frame))) (.after (.mono
    wr_frame rfl) noteTick_frame)

theorem chTrip_frame {c cause : Nat} : s.frame [.fus, .jnl] (s.chTrip c cause) :=
  .after (.after fusEvent_frame (.mono setChan_frame rfl)) (.after (.mono bump_frame rfl) (.after (.mono wr_frame rfl) (.mono
    chGo_frame rfl)))

theorem latchFrom_frame {c : Nat} {ok : Nat → Bool} {cause : Nat → Nat} : s.frame [.fus, .jnl] (s.latchFrom c ok cause) :=
  .ite chTrip_frame (.ite chTrip_frame (.ite (.mono wr_frame rfl) (.refl _)))

theorem chWaits_frame {c cause : Nat} : s.frame [.fus] (s.chWaits c cause) := .after (.mono wr_frame rfl) chGo_frame

theorem chEnable_frame {c en : Nat} : s.frame [.fus] (s.chEnable c en) :=
  .after (.ite (.ite chGo_frame (.refl _)) (.ite (.refl _) (.after (.mono wr_frame rfl) chGo_frame))) (.after (.mono wr_frame
    rfl) (.mono wr_frame rfl))

theorem chSetDir_frame {c d : Nat} : s.frame [] (s.chSetDir c d) := .after wr_frame wr_frame

theorem fusCfg_frame {path c data : Nat} : s.frame [.fus] (s.fusCfg path c data) :=
  .ite (.mono wr_frame rfl) (.after (.after chEnable_frame (.ite (.refl _) (.ite (.mono chSetDir_frame rfl) (.mono wr_frame
    rfl)))) (.mono store_frame rfl))

theorem fusCfgWrite_frame {path c data : Nat} : s.frame [.fus, .jnl, .waiting] (s.fusCfgWrite path c data) :=
  gateWrite_frame (fun _ => .mono fusCfg_frame rfl) rfl

theorem chStart_frame {c : Nat} : s.frame [.fus] (s.chStart c) := .ite chGo_frame (.refl _)

theorem chRamped_frame {c : Nat} : s.frame [.fus] (s.chRamped c) := .ite (.after setChan_frame chGo_frame) (.refl _)

theorem recovered_frame {n : Nat} : s.frame [.fus] (s.recovered n) :=
  .ite (.refl _) (.after (.mono irq_frame rfl) (.after (.mono wr_frame rfl) setPhy_frame))

theorem chEnhanced_frame {c : Nat} : s.frame [.fus] (s.chEnhanced c) :=
  .ite (.refl _) (.after (.after (.ite recovered_frame (.refl _)) (.after setChan_frame chGo_frame)) (.ite (.mono bump_frame
    rfl) (.refl _)))

theorem chReverse_frame {c : Nat} : s.frame [.fus] (s.chReverse c) :=
  .ite (.after (.mono irq_frame rfl) (.after (.mono bump_frame rfl) chGo_frame)) (.ite (.after (.mono irq_frame rfl) (.after
    (.mono bump_frame rfl) (.after chGo_frame (.after (.mono wr_frame rfl) (.mono wr_frame rfl))))) (.refl _))

theorem chForward_frame {c : Nat} : s.frame [.fus] (s.chForward c) := .ite (.after setChan_frame chGo_frame) (.refl _)

theorem chInstant_frame {c : Nat} : s.frame [.fus, .jnl] (s.chInstant c) :=
  .ite (.refl _) (.ite (.mono wr_frame rfl) latchFrom_frame)

theorem chShort_frame {c : Nat} : s.frame [.fus, .jnl] (s.chShort c) := .ite (.refl _) (.after fusEvent_frame chTrip_frame)

theorem chInput_frame {c : Nat} : s.frame [.fus] (s.chInput c) := .ite chWaits_frame (.refl _)

theorem chSeatOpen_frame {c : Nat} : s.frame [.fus] (s.chSeatOpen c) :=
  .ite (.after (.mono irq_frame rfl) (.after chWaits_frame (.mono wr_frame rfl))) (.refl _)

theorem setHeat_frame {c h : Nat} : s.frame [.fus] (s.setHeat c h) := .after (.mono wr_frame rfl) setChan_frame

theorem breakerTick_frame {c : Nat} : s.frame [.fus, .jnl, .free] (s.breakerTick c) :=
  .after (.after (.ite (.mono latchFrom_frame rfl) (.refl _)) (.ite (.mono setChan_frame rfl) (.refl _))) (.after (.mono
    tookFree_frame rfl) (.mono setHeat_frame rfl))

theorem chRetry_frame {c : Nat} : s.frame [.fus] (s.chRetry c) :=
  .ite (.after chGo_frame (.after (.mono irq_frame rfl) (.mono wr_frame rfl))) (.refl _)

theorem pgTick_frame {c vin vout vgs : Nat} : s.frame [.fus, .jnl] (s.pgTick c vin vout vgs) :=
  .ite (.ite latchFrom_frame (.refl _)) (.after (.ite chTrip_frame (.ite (.after (.mono pgGone_frame rfl) (.mono
    setChan_frame rfl)) (.after (.ite (.after (.mono irq_frame rfl) (.mono wr_frame rfl)) (.refl _)) (.mono setChan_frame
    rfl)))) (.after (.mono wr_frame rfl) (.mono setChan_frame rfl)))

theorem showPbus_frame {c vin vout : Nat} : s.frame [] (s.showPbus c vin vout) := wr_frame

theorem ftimerExpires_frame {c : Nat} : s.frame [.fus, .jnl] (s.ftimerExpires c) := by
  unfold ftimerExpires
  dsimp only
  exact .ite latchFrom_frame (.refl _)

theorem chSample_frame {c : Nat} {rawI : Int} {rawV rawVgs : Nat} : s.frame [.fus, .free] (s.chSample c rawI rawV rawVgs) :=
  .after (.after (.after (.after (.after (.after (.after (.after (.mono keepMax_frame rfl) (.ite (.mono wr_frame rfl) (.refl
    _))) (.after (.mono wr_frame rfl) (.mono wr_frame rfl))) (.after (.mono tookFree_frame rfl) (.mono wr_frame rfl)))
    (.after (.mono wr_frame rfl) (.after (.mono wr_frame rfl) (.after (.mono wr_frame rfl) (.mono wr_frame rfl))))) (.after
    (.mono tookFree_frame rfl) (.mono setChan_frame rfl))) (.mono tookFree_frame rfl)) (.mono tookFree_frame rfl)) (.mono
    tookFree_frame rfl)

theorem fusResult_frame {c r : Nat} : s.frame [] (s.fusResult c r) := wr_frame

theorem fusClear_frame {c : Nat} : s.frame [.fus] (s.fusClear c) :=
  .ite (.mono fusResult_frame rfl) (.after (.ite chGo_frame (.refl _)) (.after (.mono fusResult_frame rfl) (.mono wr_frame
    rfl)))

theorem applyCurve_frame {c : Nat} : s.frame [.fus] (s.applyCurve c) :=
  .ite (.after (.mono fusResult_frame rfl) setChan_frame) (.mono fusResult_frame rfl)

theorem peakClear_frame {c : Nat} : s.frame [] (s.peakClear c) := .after wr_frame wr_frame

theorem energyClear_frame {c : Nat} : s.frame [.fus] (s.energyClear c) := .after (.mono wr_frame rfl) setChan_frame

theorem fusCmd_frame {path c op : Nat} {act : State → State} {ps : List Part}
    (hact : ∀ s, State.frame s ps (act s)) (hps : decide ([.jnl, .waiting] ⊆ ps) = true) : s.frame ps (s.fusCmd path c op act) :=
  gateWrite_frame hact hps

theorem preloadProgram_frame {path : Nat} : s.frame [.fus, .free] (s.preloadProgram path) :=
  .ite (.mono wr_frame rfl) (.ite (.mono wr_frame rfl) (.ite (.mono wr_frame rfl) (.after (.mono wr_frame rfl) (.after (.mono
    tookFree_frame rfl) (.mono updFus_frame rfl)))))

theorem preloadDone_frame : s.frame [.fus] s.preloadDone := by
  unfold preloadDone
  dsimp only
  split
  · exact .refl _
  · exact .ite (.refl _) (.after (.after (.mono wr_frame rfl) (.after (.mono wr_frame rfl) (.mono wr_frame rfl)))
      updFus_frame)

theorem pdUp_frame : s.frame [.fus, .jnl] s.pdUp :=
  .after (.foldl (fun _ _ => .mono journalAt_frame rfl)) (.after (.mono irq_frame rfl) (.after (.mono updFus_frame rfl)
    (.mono wr_frame rfl)))

theorem pdLost_frame : s.frame [] s.pdLost := .ite (.after irq_frame wr_frame) (.refl _)

theorem chPowerUp_frame {pre : List Nat} {c : Nat} : s.frame [.fus] (s.chPowerUp pre c) :=
  .after (.ite (.mono wr_frame rfl) (.refl _)) (.after setHeat_frame (.mono wr_frame rfl))

theorem vinPd_frame {mv : Nat} : s.frame [.fus] (s.vinPd mv) := .after updFus_frame (.mono wr_frame rfl)

theorem pdPowerUp_frame {mv : Nat} : s.frame [.fus] (s.pdPowerUp mv) :=
  .after (.after (.after (.foldl (fun _ _ => chPowerUp_frame)) vinPd_frame) updFus_frame) (.mono set_regs_frame rfl)

theorem progCut_frame : s.frame [.fus, .free] s.progCut := by
  unfold progCut
  dsimp only
  split
  · exact .refl _
  · exact .after (.after (.mono wr_frame rfl) (.mono tookFree_frame rfl)) (.mono updFus_frame rfl)

theorem vinLow_frame {mv : Nat} : s.frame [.fus, .free] (s.vinLow mv) :=
  .after (.ite (.after (.mono pdLost_frame rfl) (.after (.mono updFus_frame rfl) progCut_frame)) (.refl _)) (.mono
    vinPd_frame rfl)

theorem pdTemp_frame {t : Int} : s.frame [.fus, .jnl] (s.pdTemp t) :=
  .after (.ite (.after (.foldl (fun _ _ => .ite (.refl _) chTrip_frame)) (.ite (.refl _) (.after (.mono irq_frame rfl) (.mono
    wr_frame rfl)))) (.ite (.mono wr_frame rfl) (.refl _))) (.after (.mono wr_frame rfl) (.mono updFus_frame rfl))

theorem copyCorrected_frame : s.frame [.fus] s.copyCorrected := updFus_frame

theorem chEvent_frame {c : Nat} {act : State → Nat → State} {ps : List Part} (hact : ∀ s ch, State.frame s ps (act s ch)) :
    s.frameOut ps (chEvent s c act) :=
  .guarded (.ite (.after (hact _ _) (.any begin_frame)) (.any begin_frame))

theorem execChannelEnable_frame {path c data : Nat} : s.frameOut [.fus, .jnl, .waiting] (execChannelEnable path c data s) :=
  .guarded (.after fusCfgWrite_frame (.mono begin_frame rfl))

theorem execChannelDisable_frame {path c data : Nat} : s.frameOut [.fus, .jnl, .waiting] (execChannelDisable path c data s) :=
  .guarded (.after fusCfgWrite_frame (.mono begin_frame rfl))

theorem execChannelDirWrite_frame {path c data : Nat} :
    s.frameOut [.fus, .jnl, .waiting] (execChannelDirWrite path c data s) :=
  .guarded (.after fusCfgWrite_frame (.mono begin_frame rfl))

theorem execStartConditionsMet_frame {c : Nat} : s.frameOut [.fus] (execStartConditionsMet c s) :=
  chEvent_frame (fun _ _ => chStart_frame)

theorem execRampComplete_frame {c : Nat} : s.frameOut [.fus] (execRampComplete c s) :=
  chEvent_frame (fun _ _ => chRamped_frame)

theorem execStartTimeout_frame {c : Nat} : s.frameOut [.fus, .jnl] (execStartTimeout c s) :=
  chEvent_frame (fun _ _ => latchFrom_frame)

theorem execEnhanceDone_frame {c : Nat} : s.frameOut [.fus] (execEnhanceDone c s) :=
  chEvent_frame (fun _ _ => chEnhanced_frame)

theorem execPassDeviceTimeout_frame {c : Nat} : s.frameOut [.fus, .jnl] (execPassDeviceTimeout c s) :=
  chEvent_frame (fun _ _ => latchFrom_frame)

theorem execInstantTrip_frame {c : Nat} : s.frameOut [.fus, .jnl] (execInstantTrip c s) :=
  chEvent_frame (fun _ _ => chInstant_frame)

theorem execBreakerTick_frame {c : Nat} : s.frameOut [.fus, .jnl, .free] (execBreakerTick c s) :=
  chEvent_frame (fun _ _ => breakerTick_frame)

theorem execAutoRetry_frame {c : Nat} : s.frameOut [.fus] (execAutoRetry c s) := chEvent_frame (fun _ _ => chRetry_frame)

theorem execReverseCurrent_frame {c : Nat} : s.frameOut [.fus] (execReverseCurrent c s) :=
  chEvent_frame (fun _ _ => chReverse_frame)

theorem execForwardRecovery_frame {c : Nat} : s.frameOut [.fus] (execForwardRecovery c s) :=
  chEvent_frame (fun _ _ => chForward_frame)

theorem execFaultTimerExpiry_frame {c : Nat} : s.frameOut [.fus, .jnl] (execFaultTimerExpiry c s) :=
  chEvent_frame (fun _ _ => ftimerExpires_frame)

theorem execPowerGoodUpdate_frame {c vin vout vgs : Nat} : s.frameOut [.fus, .jnl] (execPowerGoodUpdate c vin vout vgs s) :=
  chEvent_frame (fun _ _ => .after pgTick_frame (.mono showPbus_frame rfl))

theorem execFetShort_frame {c : Nat} : s.frameOut [.fus, .jnl] (execFetShort c s) := chEvent_frame (fun _ _ => chShort_frame)

theorem execPdOverTemp_frame {t : Int} : s.frameOut [.fus, .jnl] (execPdOverTemp t s) :=
  .next (.ite (.after pdTemp_frame (.mono begin_frame rfl)) (.mono begin_frame rfl))

theorem execInputOutOfRange_frame {c : Nat} : s.frameOut [.fus] (execInputOutOfRange c s) :=
  chEvent_frame (fun _ _ => chInput_frame)

theorem execChannelSample_frame {c : Nat} {rawI : Int} {rawV vgs : Nat} :
    s.frameOut [.fus, .free] (execChannelSample c rawI rawV vgs s) :=
  chEvent_frame (fun _ _ => chSample_frame)

theorem execFusClear_frame {path c : Nat} : s.frameOut [.fus, .jnl, .waiting] (execFusClear path c s) :=
  .guarded (.after (fusCmd_frame (fun _ => .mono fusClear_frame rfl) rfl) (.mono begin_frame rfl))

theorem execApplyCurve_frame {path c : Nat} : s.frameOut [.fus, .jnl, .waiting] (execApplyCurve path c s) :=
  .guarded (.after (fusCmd_frame (fun _ => .mono applyCurve_frame rfl) rfl) (.mono begin_frame rfl))

theorem execSetHeat_frame {path c : Nat} : s.frameOut [.fus, .jnl, .waiting] (execSetHeat path c s) :=
  .guarded (.after (fusCmd_frame (fun _ => .after (.mono fusResult_frame rfl) (.mono setHeat_frame rfl)) rfl) (.mono
    begin_frame rfl))

theorem execPeakClr_frame {path c : Nat} : s.frameOut [.jnl, .waiting] (execPeakClr path c s) :=
  .guarded (.after (fusCmd_frame (fun _ => .after (.mono fusResult_frame rfl) (.mono peakClear_frame rfl)) rfl) (.mono
    begin_frame rfl))

theorem execEnergyClr_frame {path c : Nat} : s.frameOut [.fus, .jnl, .waiting] (execEnergyClr path c s) :=
  .guarded (.after (fusCmd_frame (fun _ => .after (.mono fusResult_frame rfl) (.mono energyClear_frame rfl)) rfl) (.mono
    begin_frame rfl))

theorem execPreloadProgram_frame {path : Nat} : s.frameOut [.fus, .jnl, .waiting, .free] (execPreloadProgram path s) :=
  .guarded (.after (gateWrite_frame (fun _ => .mono preloadProgram_frame rfl) rfl) (.mono begin_frame rfl))

theorem execPdLinkUp_frame : s.frameOut [.fus, .jnl] (execPdLinkUp s) :=
  .next (.ite (.after pdUp_frame (.mono begin_frame rfl)) (.mono begin_frame rfl))

theorem execPdLinkLost_frame : s.frameOut [] (execPdLinkLost s) := .next (.after pdLost_frame begin_frame)

theorem execPdTimeCorrection_frame : s.frameOut [.fus] (execPdTimeCorrection s) :=
  .next (.ite (.after copyCorrected_frame (.mono begin_frame rfl)) (.mono begin_frame rfl))

theorem execPowerDieColdPowerUp_frame {mv : Nat} : s.frameOut [.fus] (execPowerDieColdPowerUp mv s) :=
  .next (.ite (.after pdPowerUp_frame (.mono begin_frame rfl)) (.mono begin_frame rfl))

theorem execVinPdLow_frame {mv : Nat} : s.frameOut [.fus, .free] (execVinPdLow mv s) :=
  .next (.ite (.after vinLow_frame (.mono begin_frame rfl)) (.mono begin_frame rfl))

end Sys2Proof.Machine.State
end

section
/-! SUPPORT. The frames of the cable power dialogue. -/

namespace Sys2Proof.Machine.State

variable {s : State}

theorem cwr_frame {f : Field} {v n : Nat} : s.frame [] (s.cwr f v n) := wr_frame

theorem cbump_frame {f : Field} {n : Nat} : s.frame [] (s.cbump f n) := bump_frame

theorem cpdIrq_frame {n k : Nat} : s.frame [] (s.cpdIrq n k) := irq_frame

theorem cpdEvent_frame {n k : Nat} : s.frame [.fus, .jnl] (s.cpdEvent n k) := fusEvent_frame

theorem rxShow_frame {n : Nat} : s.frame [] (s.rxShow n) :=
  .after (.after (.foldl (fun _ _ => cwr_frame)) (.after cwr_frame (.after cwr_frame cwr_frame))) cwr_frame

theorem txEnd_frame {n result : Nat} : s.frame [.fus] (s.txEnd n result) :=
  .after (.mono cwr_frame rfl) (.after (.mono cwr_frame rfl) setPhy_frame)

theorem idsZero_frame {n : Nat} : s.frame [.fus] (s.idsZero n) := .after (.mono cwr_frame rfl) setPhy_frame

theorem swapEnd_frame {n : Nat} : s.frame [.fus] (s.swapEnd n) := .after (.mono cwr_frame rfl) setPhy_frame

theorem swapOver_frame {n t : Nat} : s.frame [.fus] (s.swapOver n t) :=
  .after (.ite (.after (.mono cwr_frame rfl) setPhy_frame) (.refl _)) setPhy_frame

theorem swapStart_frame {n kind : Nat} : s.frame [.fus] (s.swapStart n kind) :=
  .after (.mono cwr_frame rfl) (.after (.mono cwr_frame rfl) setPhy_frame)

theorem swapNote_frame {n hdr : Nat} : s.frame [.fus] (s.swapNote n hdr) := by
  unfold swapNote
  dsimp only
  split
  · exact .refl _
  · split
    · exact swapStart_frame
    · split
      · exact .refl _
      · split
        · exact swapOver_frame
        · split
          · exact setPhy_frame
          · split
            · split
              · exact .refl _
              · exact setPhy_frame
              · exact swapOver_frame
            · exact .refl _

theorem cpdLeave_frame {n : Nat} : s.frame [.dsp, .fus] (s.cpdLeave n) :=
  .ite (.refl _) (.after (.after (.after (.after (.ite (.mono directMoved_frame rfl) (.refl _)) (.after (.mono wr_frame rfl)
    (.mono wr_frame rfl))) (.after (.mono cwr_frame rfl) (.after (.mono rxShow_frame rfl) (.mono swapEnd_frame rfl))))
    (.after (.mono idsZero_frame rfl) (.mono setPhy_frame rfl))) (.ite (.mono txEnd_frame rfl) (.refl _)))

theorem cpdAttach_frame {n : Nat} : s.frame [.dsp, .fus] (s.cpdAttach n) :=
  .ite (.ite (.mono cwr_frame rfl) (.refl _)) cpdLeave_frame

theorem seatsRead_frame {n : Nat} {a b : Bool} : s.frame [] (s.seatsRead n a b) := .after wr_frame wr_frame

theorem seatOpens_frame {n : Nat} :
    s.frame [.tun, .links, .planes, .sch, .dsp, .brg, .tim, .fus, .jnl, .waiting, .free] (s.seatOpens n) :=
  .after (.ite (.mono linkToDown_frame rfl) (.refl _)) (.after (.mono cpdAttach_frame rfl) (.after (.mono chSeatOpen_frame
    rfl) (.mono setPhy_frame rfl)))

theorem seatSettles_frame {n : Nat} : s.frame [.dsp, .fus] (s.seatSettles n) :=
  .after (.after cpdAttach_frame (.mono setPhy_frame rfl)) (.mono seatsRead_frame rfl)

theorem cpdOut_frame {n : Nat} {m : CpdTx} : s.frame [] (s.cpdOut n m) := emit_frame

theorem cpdResult_frame {n r : Nat} : s.frame [] (s.cpdResult n r) := cwr_frame

theorem cpdSend_frame {n : Nat} : s.frame [.fus] (s.cpdSend n) :=
  .ite (.mono cpdResult_frame rfl) (.ite (.after (.mono cpdResult_frame rfl) (.mono cwr_frame rfl)) (.after (.mono
    cpdResult_frame rfl) (.after (.mono cwr_frame rfl) setPhy_frame)))

theorem txStart_frame {n : Nat} : s.frame [.fus] (s.txStart n) := by
  unfold txStart
  dsimp only
  split
  · exact .refl _
  · split
    · exact .after (.mono cpdOut_frame rfl) setPhy_frame
    · exact .after (.mono cpdOut_frame rfl) setPhy_frame
    · exact .refl _

theorem goodCrc_frame {n : Nat} : s.frame [.fus] (s.goodCrc n) := by
  unfold goodCrc
  dsimp only
  split
  · exact .refl _
  · exact .after (.ite setPhy_frame (.after (.after (.after swapNote_frame (.ite idsZero_frame (.refl _))) setPhy_frame)
      (.after (.mono cpdIrq_frame rfl) txEnd_frame))) (.mono cwr_frame rfl)

theorem txRetry_frame {n : Nat} : s.frame [.fus] (s.txRetry n) := by
  unfold txRetry
  dsimp only
  split
  · exact .refl _
  · exact .ite (.after (.mono cpdOut_frame rfl) setPhy_frame) (.after (.ite setPhy_frame (.after (.mono cpdIrq_frame rfl)
      txEnd_frame)) (.mono cbump_frame rfl))

theorem txCollides_frame {n : Nat} : s.frame [.fus] (s.txCollides n) := by
  unfold txCollides
  dsimp only
  split
  · exact .refl _
  · exact .after (.mono cbump_frame rfl) setPhy_frame

theorem sendGoodCrc_frame {n hdr : Nat} : s.frame [] (s.sendGoodCrc n hdr) := emit_frame

theorem rxPush_frame {n hdr : Nat} {data : List Nat} : s.frame [.fus] (s.rxPush n hdr data) :=
  .after (.mono cpdIrq_frame rfl) (.after (.mono rxShow_frame rfl) setPhy_frame)

theorem attention_frame {n hdr : Nat} {data : List Nat} {sink : DspSink} {lost : Bool} :
    s.frame [.dsp] (s.attention n hdr data sink lost) := by
  unfold attention
  dsimp only
  split
  · exact .refl _
  · exact .ite (.after (.ite hpdIrq_frame (.refl _)) (.ite (.ite hpdPlug_frame (.refl _)) (.ite hpdUnplug_frame (.refl _))))
      (.refl _)

theorem crossedAtLeaf_frame {n t : Nat} : s.frame [.fus, .jnl] (s.crossedAtLeaf n t) :=
  .after (.after (.after cpdEvent_frame (.mono cbump_frame rfl)) (.after (.mono swapOver_frame rfl) (.mono setPhy_frame
    rfl))) (.ite (.mono txEnd_frame rfl) (.mono cwr_frame rfl))

theorem rxTake_frame {n hdr : Nat} {data : List Nat} {sink : DspSink} {lost : Bool} :
    s.frame [.dsp, .fus] (s.rxTake n hdr data sink lost) := by
  unfold rxTake
  extract_lets phy t t' t''
  have ht : s.frame [.dsp, .fus] t' := .after (.ite (.mono idsZero_frame rfl) (.refl t)) (.mono setPhy_frame rfl)
  have ht' : s.frame [.dsp, .fus] t'' := .after (.mono attention_frame rfl) (.after (.mono swapNote_frame rfl) ht)
  split
  · exact .after (.mono setPhy_frame rfl) ht'
  · exact .after (.mono rxPush_frame rfl) ht'

theorem txDiscard_frame {n : Nat} {spare : Option Nat} : s.frame [.fus] (s.txDiscard n spare) := by
  unfold txDiscard
  dsimp only
  exact .after (by
    split
    · exact .refl _
    · exact .ite (.refl _) txEnd_frame) setPhy_frame

theorem cpdReceive_frame {n hdr : Nat} {data : List Nat} {sink : DspSink} {lost : Bool} :
    s.frame [.dsp, .fus, .jnl] (s.cpdReceive n hdr data sink lost) := by
  unfold cpdReceive
  dsimp only
  split
  · exact .ite (.after (.mono rxTake_frame rfl) (.after (.mono sendGoodCrc_frame rfl) (.after (.mono txDiscard_frame rfl)
      (.mono crossedAtLeaf_frame rfl)))) (.after (.after (.mono swapNote_frame rfl) (.after (.mono cbump_frame rfl) (.mono
      setPhy_frame rfl))) (.after (.mono sendGoodCrc_frame rfl) (.mono txDiscard_frame rfl)))
  · exact .after (.ite (.mono cbump_frame rfl) (.ite (.after (.ite (.mono idsZero_frame rfl) (.refl _)) (.mono
      sendGoodCrc_frame rfl)) (.after (.mono rxTake_frame rfl) (.mono sendGoodCrc_frame rfl)))) (.mono txDiscard_frame rfl)

theorem cpdRxRead_frame {path n : Nat} : s.frame [.fus] (s.cpdRxRead path n) := by
  unfold cpdRxRead
  exact .after (.after (.mono rxShow_frame rfl) setPhy_frame) (.mono answer_frame rfl)

theorem respExpires_frame {n : Nat} : s.frame [.fus] (s.respExpires n) :=
  .ite (.after (.mono cpdIrq_frame rfl) (.after (.mono cwr_frame rfl) (.after swapEnd_frame setPhy_frame))) (.refl _)

theorem frsSend_frame {n : Nat} : s.frame [.fus, .free] (s.frsSend n) :=
  .after (.after (.mono emit_frame rfl) (.mono setPhy_frame rfl)) (.ite (.after (.mono tookFree_frame rfl) (.mono txEnd_frame
    rfl)) (.refl _))

theorem frsTurn_frame {c : Nat} : s.frame [.fus] (s.frsTurn c) :=
  .ite (.after (.after (.mono irq_frame rfl) setChan_frame) (.after chGo_frame (.after (.mono wr_frame rfl) noteTick_frame)))
    (.refl _)

theorem frsReport_frame {n : Nat} : s.frame [.fus] (s.frsReport n) :=
  .ite (.refl _) (.after frsTurn_frame (.after setPhy_frame (.after (.mono cpdIrq_frame rfl) (.mono cbump_frame rfl))))

theorem frsConfirm_frame {n : Nat} : s.frame [.fus] (s.frsConfirm n) :=
  .after (.mono cpdResult_frame rfl) (.after setPhy_frame (.after (.mono wr_frame rfl) (.mono chSetDir_frame rfl)))

theorem hardReset_frame {n : Nat} : s.frame [.fus, .jnl] (s.hardReset n) :=
  .after (.after (.after (.after (.ite (.after (.after (.mono chEnable_frame rfl) (.mono chSetDir_frame rfl)) (.ite (.mono
    chGo_frame rfl) (.refl _))) (.refl _)) (.after cpdEvent_frame (.mono cbump_frame rfl))) (.after (.mono cwr_frame rfl)
    (.after (.mono rxShow_frame rfl) (.mono swapEnd_frame rfl)))) (.after (.mono idsZero_frame rfl) (.mono setPhy_frame
    rfl))) (.ite (.mono txEnd_frame rfl) (.ite (.mono cwr_frame rfl) (.refl _)))

theorem hrSend_frame {n : Nat} : s.frame [.fus, .jnl] (s.hrSend n) := .after hardReset_frame (.mono emit_frame rfl)

theorem hrWaited_frame {n : Nat} : s.frame [.fus, .jnl] (s.hrWaited n) := .ite hrSend_frame (.refl _)

theorem cpdHardReset_frame {n : Nat} : s.frame [.fus, .jnl] (s.cpdHardReset n) :=
  .ite (.mono cwr_frame rfl) (.ite (.mono setPhy_frame rfl) hrSend_frame)

theorem txTimeout_frame {n : Nat} : s.frame [.fus, .jnl] (s.txTimeout n) := .ite hrSend_frame (.mono txRetry_frame rfl)

theorem psHr_frame {n : Nat} : s.frame [.fus] (s.psHr n) := .ite (.after setPhy_frame (.ite chGo_frame (.refl _))) (.refl _)

theorem srcRecover_frame {n : Nat} : s.frame [.fus] (s.srcRecover n) :=
  .ite (.after chEnable_frame (.mono chSetDir_frame rfl)) (.refl _)

theorem cpdCmd_frame {path n op : Nat} {act : State → State} {ps : List Part}
    (hact : ∀ s, State.frame s ps (act s)) (hps : decide ([.jnl, .waiting] ⊆ ps) = true) : s.frame ps (s.cpdCmd path n op act) :=
  gateWrite_frame hact hps

theorem cpdEventOn_frame {n : Nat} {act : State → Nat → State} {ps : List Part} (hact : ∀ s n, State.frame s ps (act s n)) :
    s.frameOut ps (cpdEventOn s n act) :=
  .guarded (.ite (.after (hact _ _) (.any begin_frame)) (.any begin_frame))

theorem execSeatOpen_frame {n : Nat} {a b : Bool} :
    s.frameOut [.tun, .links, .planes, .sch, .dsp, .brg, .tim, .fus, .jnl, .waiting, .free] (execSeatOpen n a b s) :=
  cpdEventOn_frame (fun _ _ => .ite (.after seatOpens_frame (.mono seatsRead_frame rfl)) (.mono seatsRead_frame rfl))

theorem execSeatSettled_frame {n : Nat} : s.frameOut [.dsp, .fus] (execSeatSettled n s) :=
  cpdEventOn_frame (fun _ _ => seatSettles_frame)

theorem execCpdEnableWrite_frame {path n data : Nat} :
    s.frameOut [.dsp, .fus, .jnl, .waiting] (execCpdEnableWrite path n data s) :=
  .guarded (.after (gateWrite_frame (fun _ => .after (.mono cpdAttach_frame rfl) (.mono store_frame rfl)) rfl) (.mono
    begin_frame rfl))

theorem execCpdSend_frame {path n : Nat} : s.frameOut [.fus, .jnl, .waiting] (execCpdSend path n s) :=
  .guarded (.after (cpdCmd_frame (fun _ => .mono cpdSend_frame rfl) rfl) (.mono begin_frame rfl))

theorem execCpdTransmitStart_frame {n : Nat} : s.frameOut [.fus] (execCpdTransmitStart n s) :=
  cpdEventOn_frame (fun _ _ => txStart_frame)

theorem execCpdGoodcrcReceived_frame {n id : Nat} : s.frameOut [.fus, .jnl] (execCpdGoodcrcReceived n id s) :=
  cpdEventOn_frame (fun _ _ => .ite (.after hrWaited_frame (.mono goodCrc_frame rfl)) (.refl _))

theorem execCpdRetryTimeout_frame {n : Nat} : s.frameOut [.fus, .jnl] (execCpdRetryTimeout n s) :=
  cpdEventOn_frame (fun _ _ => txTimeout_frame)

theorem execCpdCollision_frame {n : Nat} : s.frameOut [.fus, .jnl] (execCpdCollision n s) :=
  cpdEventOn_frame (fun _ _ => .after hrWaited_frame (.mono txCollides_frame rfl))

theorem execCpdMessageReceived_frame {n hdr : Nat} {data : List Nat} {good : Bool} {sink : DspSink} {lost : Bool} :
    s.frameOut [.dsp, .fus, .jnl] (execCpdMessageReceived n hdr data good sink lost s) :=
  .guarded (.after (.ite (.refl _) (.ite (.after (.ite (.refl _) (.mono hrWaited_frame rfl)) cpdReceive_frame) (.mono
    cbump_frame rfl))) (.mono begin_frame rfl))

theorem execCpdRxRead_frame {path n : Nat} : s.frameOut [.fus, .jnl, .waiting] (execCpdRxRead path n s) :=
  .guarded (.after (gateRead_frame (fun _ => .mono cpdRxRead_frame rfl) rfl) (.mono begin_frame rfl))

theorem execCpdResponseTimeout_frame {n : Nat} : s.frameOut [.fus] (execCpdResponseTimeout n s) :=
  cpdEventOn_frame (fun _ _ => respExpires_frame)

theorem execCpdSwapEnd_frame {path n : Nat} : s.frameOut [.fus, .jnl, .waiting] (execCpdSwapEnd path n s) :=
  .guarded (.after (cpdCmd_frame (fun _ => .after (.mono cpdResult_frame rfl) (.mono swapEnd_frame rfl)) rfl) (.mono
    begin_frame rfl))

theorem execCpdHardReset_frame {path n : Nat} : s.frameOut [.fus, .jnl, .waiting] (execCpdHardReset path n s) :=
  .guarded (.after (cpdCmd_frame (fun _ => .after (.mono cpdResult_frame rfl) (.mono cpdHardReset_frame rfl)) rfl) (.mono
    begin_frame rfl))

theorem execHardResetReceived_frame {n : Nat} : s.frameOut [.fus, .jnl] (execHardResetReceived n s) :=
  cpdEventOn_frame (fun _ _ => .ite hardReset_frame (.refl _))

theorem execPsHrExpiry_frame {n : Nat} : s.frameOut [.fus] (execPsHrExpiry n s) := cpdEventOn_frame (fun _ _ => psHr_frame)

theorem execSrcRecoverExpiry_frame {n : Nat} : s.frameOut [.fus] (execSrcRecoverExpiry n s) :=
  cpdEventOn_frame (fun _ _ => srcRecover_frame)

theorem execRecoverMaxExpiry_frame {n : Nat} : s.frameOut [.fus] (execRecoverMaxExpiry n s) :=
  cpdEventOn_frame (fun _ _ => recovered_frame)

theorem execCpdFrsSend_frame {path n : Nat} : s.frameOut [.fus, .jnl, .waiting, .free] (execCpdFrsSend path n s) :=
  .guarded (.after (cpdCmd_frame (fun _ => .after (.mono cpdResult_frame rfl) (.after (.mono hrWaited_frame rfl) (.mono
    frsSend_frame rfl))) rfl) (.mono begin_frame rfl))

theorem execAutoFrs_frame {n : Nat} : s.frameOut [.fus, .jnl, .free] (execAutoFrs n s) :=
  cpdEventOn_frame (fun _ _ => .ite (.after (.mono hrWaited_frame rfl) (.mono frsSend_frame rfl)) (.refl _))

theorem execFrsDetected_frame {n : Nat} : s.frameOut [.fus] (execFrsDetected n s) :=
  cpdEventOn_frame (fun _ _ => frsReport_frame)

theorem execCpdFrsConfirm_frame {path n : Nat} : s.frameOut [.fus, .jnl, .waiting] (execCpdFrsConfirm path n s) :=
  .guarded (.after (cpdCmd_frame (fun _ => .mono frsConfirm_frame rfl) rfl) (.mono begin_frame rfl))

theorem execFrsTmo_frame {n : Nat} : s.frameOut [.fus] (execFrsTmo n s) :=
  cpdEventOn_frame (fun _ _ => .ite (.after (.mono cpdIrq_frame rfl) setPhy_frame) (.refl _))

end Sys2Proof.Machine.State
end

section
/-! SUPPORT. The frames of the engines. -/

namespace Sys2Proof.Machine.State

variable {s : State}

theorem setEngSt_frame {e v : Nat} : s.frame [] (s.setEngSt e v) := wr_frame

theorem cacheReads_frame {i : Image} : s.frame [.pwr] (s.cacheReads i) := dramMoves_frame

theorem engStore_frame {e a : Nat} {bs : List Byte} : s.frame [.eng] (s.engStore e a bs) := setEngine_frame

theorem loadFails_frame {e : Nat} : s.frame [.jnl] (s.loadFails e) :=
  .after event_frame (.after (.mono irq_frame rfl) (.after (.mono wr_frame rfl) (.mono setEngSt_frame rfl)))

theorem engStages_frame {e : Nat} : s.frame [.eng, .jnl, .pwr] (s.engStages e) := by
  unfold engStages
  split
  · exact .mono setEngSt_frame rfl
  · exact .ite (.after (.mono setEngSt_frame rfl) (.after (.mono cacheReads_frame rfl) (.mono engStore_frame rfl))) (.mono
      loadFails_frame rfl)

theorem engLoad_frame {e : Nat} {i : Image} : s.frame [.eng, .pwr] (s.engLoad e i) :=
  .after (.after (.mono cacheReads_frame rfl) (.mono wr_frame rfl)) (.mono setEngine_frame rfl)

theorem plainRsp_frame {cmd : List Nat} {status ver : Nat} : s.frame [.free] (s.plainRsp cmd status ver).1 := set_free_frame

theorem pushRsp_frame {e : Nat} {w : List Nat} : s.frame [.eng] (s.pushRsp e w) := .after (.mono irq_frame rfl) updLog_frame

theorem engOffNow_frame {e : Nat} : s.frame [.eng] (s.engOffNow e) :=
  .after (.mono irq_frame rfl) (.after (.mono wr_frame rfl) (.after setEngine_frame (.mono setEngSt_frame rfl)))

theorem portRefuses_frame {l e : Nat} : s.frame [.tun, .links, .planes, .sch] (s.portRefuses l e) :=
  .foldl (fun _ _ => .after dropTunnel_frame (.mono bumpBy_frame rfl))

theorem engDrainEnd_frame {e : Nat} : s.frame [.tun, .links, .planes, .sch, .eng, .free] (s.engDrainEnd e) :=
  .after (.after (.after (.mono engOffNow_frame rfl) (.mono setLog_frame rfl)) (.foldl (fun _ _ => .after (.mono
    pushRsp_frame rfl) (.mono plainRsp_frame rfl)))) (.after (.mono bumpBy_frame rfl) (.mono portRefuses_frame rfl))

theorem engDrained_frame {e : Nat} : s.frame [.tun, .links, .planes, .sch, .eng, .free] (s.engDrained e) :=
  .ite engDrainEnd_frame (.refl _)

theorem engUnit_frame {k : Nat} {u : UnitMsg} : s.frame [.eng] (s.engUnit k u) := by
  unfold engUnit
  dsimp only
  split
  · exact .mono bump_frame rfl
  · split
    · exact .mono bump_frame rfl
    · split
      · exact .refl _
      · split
        · exact .refl _
        · split
          · exact .refl _
          · exact .after updLog_frame engStore_frame

theorem engMessage_frame {l : Nat} {u : UnitMsg} {localId : Nat} : s.frameOpt [.eng] (s.engMessage l u localId) := by
  unfold engMessage
  dsimp only
  split
  · exact .some (.mono bump_frame rfl)
  · split
    · exact .none
    · split
      · exact .some (.after updLog_frame engStore_frame)
      · exact .none

theorem releaseTaken_frame {l : Nat} : s.frame [.eng] (s.releaseTaken l) := updLog_frame

theorem engReloads_frame {e : Nat} {asSpare : Bool} : s.frame [.eng] (s.engReloads e asSpare) :=
  .after setEngine_frame (.mono setEngSt_frame rfl)

theorem respare_frame {k : Nat} : s.frame [.eng] (s.respare k) := .foldl (fun _ _ => .ite engReloads_frame engOffNow_frame)

theorem firstTaken_frame {l : Nat} : s.frame [.eng, .jnl] (s.firstTaken l) := by
  unfold firstTaken
  dsimp only
  split
  · exact .refl _
  · exact .after (.after (.mono updLog_frame rfl) (.mono respare_frame rfl)) (.ite (.mono event_frame rfl) (.mono
      keepMax_frame rfl))

theorem engTake_frame {e box : Nat} : s.frame [.tun, .links, .planes, .sch, .eng, .jnl, .free] (s.engTake e box) := by
  unfold engTake
  dsimp only
  split
  · split
    · exact .refl _
    · exact .after (.mono engDrained_frame rfl) (.ite (.after (.mono updLog_frame rfl) (.mono emit_frame rfl)) (.after (.mono
        releaseTaken_frame rfl) (.after (.mono updLog_frame rfl) (.mono emit_frame rfl))))
  · split
    · exact .refl _
    · exact .after (.after (.mono engDrained_frame rfl) (.ite (.after (.mono firstTaken_frame rfl) (.mono updLog_frame rfl))
        (.after (.mono releaseTaken_frame rfl) (.after (.mono firstTaken_frame rfl) (.mono updLog_frame rfl))))) (.after
        (.mono tally_frame rfl) (.mono emit_frame rfl))
  · split
    · exact .refl _
    · exact .after (.after (.mono engDrained_frame rfl) (.ite (.after (.mono firstTaken_frame rfl) (.mono updLog_frame rfl))
        (.after (.mono releaseTaken_frame rfl) (.after (.mono firstTaken_frame rfl) (.mono updLog_frame rfl))))) (.after
        (.mono tally_frame rfl) (.mono emit_frame rfl))

theorem cmdPush_frame {e : Nat} : s.frame [.eng, .free] (s.cmdPush e) := by
  unfold cmdPush
  dsimp only
  split
  · exact .mono wr_frame rfl
  · exact .ite (.mono wr_frame rfl) (.ite (.ite (.mono wr_frame rfl) (.after (.mono wr_frame rfl) (.after (.mono
      pushRsp_frame rfl) (.mono plainRsp_frame rfl)))) (.ite (.mono wr_frame rfl) (.after (.mono wr_frame rfl) (.mono
      updLog_frame rfl))))

theorem rspRead_frame {path e : Nat} : s.frame [.eng] (s.rspRead path e) := by
  unfold rspRead
  dsimp only
  split
  · exact .mono answer_frame rfl
  · exact .after (.after (.mono answer_frame rfl) (.ite (.mono irq_frame rfl) (.refl _))) updLog_frame

theorem sendNowEng_frame {e : Nat} {x : SendEnt} : s.frame [.tun, .planes, .sch] (s.sendNowEng e x) :=
  .after (.mono tally_frame rfl) originUnit_frame

theorem engSend_frame {e w0 w1 w2 w3 w4 : Nat} {payload : List Byte} :
    s.frame [.tun, .planes, .sch, .eng] (s.engSend e w0 w1 w2 w3 w4 payload) :=
  .after (.ite (.after (.mono bump_frame rfl) (.mono bump_frame rfl)) (.ite (.mono bump_frame rfl) (.ite (.mono updLog_frame
    rfl) (.mono sendNowEng_frame rfl)))) (.mono engStore_frame rfl)

theorem commitCkpt_frame {e : Nat} {region : List Byte} :
    s.frame [.tun, .links, .planes, .sch, .eng, .free] (s.commitCkpt e region) := by
  unfold commitCkpt
  dsimp only
  split
  · exact .refl _
  · exact .ite (.refl _) (.after (.after (.after (.after (.after engDrained_frame (.after (.mono wr_frame rfl) (.mono
      releaseTaken_frame rfl))) (.mono setEngine_frame rfl)) (.mono updLog_frame rfl)) (.after (.foldl (fun _ _ => .mono
      sendNowEng_frame rfl)) (.mono updLog_frame rfl))) (.mono engStore_frame rfl))

theorem resumeAt_frame {l e : Nat} : s.frame [.tun, .eng] (s.resumeAt l e) := by
  unfold resumeAt
  dsimp only
  exact .after (.after (.after (.mono updLog_frame rfl) (by
    split
    · exact .foldl (fun _ _ => .mono updTun_frame rfl)
    · exact .refl _)) (by
    split
    · exact .foldl (fun _ _ => .mono engStore_frame rfl)
    · exact .refl _)) (by
    split
    · exact .mono engStore_frame rfl
    · exact .refl _)

theorem takeover_frame {l e sp cause : Nat} : s.frame [.tun, .eng, .jnl] (s.takeover l e sp cause) :=
  .after (.after (.after (.after (.after (.mono event_frame rfl) (.after (.mono tally_frame rfl) (.after (.mono bump_frame
    rfl) (.mono wr_frame rfl)))) (.after (.mono setEngine_frame rfl) (.mono setEngSt_frame rfl))) (.mono updLog_frame rfl))
    (.after (.mono resumeAt_frame rfl) (.after (.mono wr_frame rfl) (.after (.mono wr_frame rfl) (.mono setEngSt_frame
    rfl))))) (.mono updEng_frame rfl)

theorem engFail_frame {e fault : Nat} : s.frame [.eng] (s.engFail e fault) := .ite updEng_frame (.refl _)

theorem engFailNow_frame {e fault : Nat} : s.frame [.tun, .links, .planes, .sch, .eng, .jnl, .free] (s.engFailNow e fault) := by
  unfold engFailNow
  dsimp only
  split
  · exact .refl _
  · exact .after (.ite (.mono engDrainEnd_frame rfl) (by
      split
      · exact .mono takeover_frame rfl
      · exact .after (.mono updLog_frame rfl) (.mono engReloads_frame rfl))) (.after (.mono irq_frame rfl) (.after (.mono
          bump_frame rfl) (.mono wr_frame rfl)))

theorem reloadDone_frame {e : Nat} {intact : Bool} : s.frame [.tun, .eng, .jnl, .pwr] (s.reloadDone e intact) := by
  unfold reloadDone
  dsimp only
  split
  · exact .refl _
  · split
    · exact .mono loadFails_frame rfl
    · exact .ite (.mono loadFails_frame rfl) (.after (.ite (.mono engStages_frame rfl) (.after (.mono resumeAt_frame rfl)
        (.mono setEngSt_frame rfl))) (.after (.mono wr_frame rfl) (.mono engLoad_frame rfl)))

theorem failuresStand_frame : s.frame [.tun, .links, .planes, .sch, .eng, .jnl, .free] s.failuresStand :=
  .after (.foldl (fun _ _ => engFailNow_frame)) (.mono updEng_frame rfl)

theorem engResult_frame {e r : Nat} : s.frame [] (s.engResult e r) := wr_frame

theorem engReload_frame {e : Nat} : s.frame [.eng] (s.engReload e) := by
  unfold engReload
  dsimp only
  split
  · exact .mono engResult_frame rfl
  · split
    · exact .mono engResult_frame rfl
    · split
      · exact .ite (.after (.mono engResult_frame rfl) (.after setEngine_frame (.mono setEngSt_frame rfl))) (.mono
          engResult_frame rfl)
      · exact .mono engResult_frame rfl

theorem reloadComplete_frame {e : Nat} {intact : Bool} : s.frame [.tun, .eng, .jnl, .pwr] (s.reloadComplete e intact) := by
  unfold reloadComplete
  dsimp only
  split
  · exact .refl _
  · split
    · exact .mono loadFails_frame rfl
    · exact .ite (.after (.mono loadFails_frame rfl) (.mono setEngine_frame rfl)) (.after (.mono setEngSt_frame rfl) (.after
        (.mono resumeAt_frame rfl) (.mono engLoad_frame rfl)))

theorem engStart_frame {e : Nat} {intact : Bool} : s.frame [.eng, .jnl, .pwr] (s.engStart e intact) := by
  unfold engStart
  dsimp only
  split
  · exact .refl _
  · split
    · exact .mono engResult_frame rfl
    · exact .after (.ite (.mono loadFails_frame rfl) (.after (.ite engStages_frame (.after (.mono updLog_frame rfl) (.mono
        setEngSt_frame rfl))) (.mono wr_frame rfl))) (.after (.mono engLoad_frame rfl) (.after (.mono wr_frame rfl) (.after
        (.mono engResult_frame rfl) (.mono wr_frame rfl))))

theorem engDrains_frame {e : Nat} : s.frame [.tun, .links, .planes, .sch, .eng, .free] (s.engDrains e) :=
  .ite (.after engDrained_frame (.mono setEngSt_frame rfl)) (.ite (.refl _) engDrainEnd_frame)

theorem engStop_frame {e : Nat} : s.frame [.tun, .links, .planes, .sch, .eng, .free] (s.engStop e) :=
  .after engDrains_frame (.mono wr_frame rfl)

theorem engCfgWrite_frame {path e data : Nat} {intact : Bool} :
    s.frame [.tun, .links, .planes, .sch, .eng, .jnl, .pwr, .waiting, .free] (s.engCfgWrite path e data intact) :=
  gateWrite_frame (fun _ => .after (.ite (.mono engStop_frame rfl) (.ite (.mono wr_frame rfl) (.mono engStart_frame rfl)))
    (.mono store_frame rfl)) rfl

theorem cacheResult_frame {r : Nat} : s.frame [] (s.cacheResult r) := .after wr_frame wr_frame

theorem cacheEnter_frame {kind slot : Nat} : s.frame [.dram, .eng, .jnl, .pwr] (s.cacheEnter kind slot) := by
  unfold cacheEnter
  dsimp only
  split
  · exact .after (.mono event_frame rfl) (.mono cacheResult_frame rfl)
  · exact .ite (.mono cacheResult_frame rfl) (.after (.mono cacheResult_frame rfl) (.after (.mono dramWrite_frame rfl) (.mono
      updEng_frame rfl)))

theorem cacheLoad_frame {kind slot : Nat} : s.frame [.eng] (s.cacheLoad kind slot) :=
  .ite (.mono wr_frame rfl) (.after (.mono wr_frame rfl) updEng_frame)

theorem cacheEvict_frame {kind slot : Nat} : s.frame [.eng] (s.cacheEvict kind slot) :=
  .ite (.mono wr_frame rfl) (.ite (.mono wr_frame rfl) (.ite (.mono wr_frame rfl) (.after (.mono wr_frame rfl) updEng_frame)))

theorem bindRead_frame {k : Nat} : s.frame [] (s.bindRead k) :=
  .after wr_frame (.after wr_frame (.after wr_frame (.after wr_frame wr_frame)))

theorem bindWrite_frame {k : Nat} : s.frame [.eng] (s.bindWrite k) :=
  .ite (.mono wr_frame rfl) (.after (.mono wr_frame rfl) updEng_frame)

theorem enginesStop_frame : s.frame [.tun, .links, .planes, .sch, .eng, .free] s.enginesStop :=
  .foldl (fun _ _ => engDrains_frame)

theorem enginesResume_frame : s.frame [.eng, .jnl, .pwr] s.enginesResume := .foldl (fun _ _ => .ite engStart_frame (.refl _))

theorem execEngineUnit_frame {k : Nat} {u : UnitMsg} : s.frameOut [.eng] (execEngineUnit k u s) :=
  .guardedIn (.after engUnit_frame (.mono begin_frame rfl))

theorem execEngCmdqPush_frame {path e : Nat} : s.frameOut [.eng, .jnl, .waiting, .free] (execEngCmdqPush path e s) :=
  .guarded (.after (gateWrite_frame (fun _ => .mono cmdPush_frame rfl) rfl) (.mono begin_frame rfl))

theorem execEngRspRead_frame {path e : Nat} : s.frameOut [.eng, .jnl, .waiting] (execEngRspRead path e s) :=
  .guarded (.after (gateRead_frame (fun _ => .mono rspRead_frame rfl) rfl) (.mono begin_frame rfl))

theorem execEngineSend_frame {e w0 w1 w2 w3 w4 : Nat} {payload : List Byte} :
    s.frameOut [.tun, .planes, .sch, .eng] (execEngineSend e w0 w1 w2 w3 w4 payload s) :=
  .guardedIn (.ite (.after engSend_frame (.mono begin_frame rfl)) (.mono begin_frame rfl))

theorem execCheckpointDoorbell_frame {e : Nat} {region : List Byte} :
    s.frameOut [.tun, .links, .planes, .sch, .eng, .free] (execCheckpointDoorbell e region s) :=
  .guardedIn (.ite (.after commitCkpt_frame (.mono begin_frame rfl)) (.mono begin_frame rfl))

theorem execCkptStale_frame {e : Nat} : s.frameOut [] (execCkptStale e s) :=
  .guardedIn (.ite (.after irq_frame (.after wr_frame begin_frame)) begin_frame)

theorem execEngineWatchdog_frame {e : Nat} : s.frameOut [.eng] (execEngineWatchdog e s) :=
  .guardedIn (.ite (.mono begin_frame rfl) (.after engFail_frame (.mono begin_frame rfl)))

theorem engCorrected_frame {e corr : Nat} : s.frame [] (s.engCorrected e corr) := .after tally_frame bumpBy_frame

theorem execEngineFault_frame {e : Nat} {err : EngineErr} : s.frameOut [.eng] (execEngineFault e err s) :=
  .guardedIn (.ite (.after engFail_frame (.after (.mono engCorrected_frame rfl) (.mono begin_frame rfl))) (.after
    engFail_frame (.after (.mono tally_frame rfl) (.after (.mono bump_frame rfl) (.after (.mono engCorrected_frame rfl)
    (.mono begin_frame rfl))))))

theorem execEngRestart_frame {path e : Nat} : s.frameOut [.eng, .jnl, .waiting] (execEngRestart path e s) :=
  .guarded (.after (gateWrite_frame (fun _ => .ite (.after (.mono engResult_frame rfl) (.mono engFail_frame rfl)) (.mono
    engResult_frame rfl)) rfl) (.mono begin_frame rfl))

theorem execEngineReloadDone_frame {e : Nat} {intact : Bool} :
    s.frameOut [.tun, .eng, .jnl, .pwr] (execEngineReloadDone e intact s) :=
  .guardedIn (.after reloadDone_frame (.mono begin_frame rfl))

theorem execEngReload_frame {path e : Nat} : s.frameOut [.eng, .jnl, .waiting] (execEngReload path e s) :=
  .guarded (.after (gateWrite_frame (fun _ => .mono engReload_frame rfl) rfl) (.mono begin_frame rfl))

theorem execReloadComplete_frame {e : Nat} {intact : Bool} :
    s.frameOut [.tun, .eng, .jnl, .pwr] (execReloadComplete e intact s) :=
  .guardedIn (.after reloadComplete_frame (.mono begin_frame rfl))

theorem execEngineStart_frame {path e data : Nat} {intact : Bool} :
    s.frameOut [.tun, .links, .planes, .sch, .eng, .jnl, .pwr, .waiting, .free] (execEngineStart path e data intact s) :=
  .guarded (.after engCfgWrite_frame (.mono begin_frame rfl))

theorem execEngineDisable_frame {path e data : Nat} :
    s.frameOut [.tun, .links, .planes, .sch, .eng, .jnl, .pwr, .waiting, .free] (execEngineDisable path e data s) :=
  .guarded (.after engCfgWrite_frame (.mono begin_frame rfl))

theorem execEngineDrainTimeout_frame {e : Nat} :
    s.frameOut [.tun, .links, .planes, .sch, .eng, .free] (execEngineDrainTimeout e s) :=
  .guardedIn (.ite (.after engDrainEnd_frame (.mono begin_frame rfl)) (.mono begin_frame rfl))

theorem execEngCacheLoad_frame {path kind slot : Nat} :
    s.frameOut [.eng, .jnl, .waiting] (execEngCacheLoad path kind slot s) :=
  .guarded (.after (gateWrite_frame (fun _ => .mono cacheLoad_frame rfl) rfl) (.mono begin_frame rfl))

theorem execEngCacheEvict_frame {path kind slot : Nat} :
    s.frameOut [.eng, .jnl, .waiting] (execEngCacheEvict path kind slot s) :=
  .guarded (.after (gateWrite_frame (fun _ => .mono cacheEvict_frame rfl) rfl) (.mono begin_frame rfl))

theorem execEngBindRead_frame {path k : Nat} : s.frameOut [.jnl, .waiting] (execEngBindRead path k s) :=
  .guarded (.after (gateWrite_frame (fun _ => .mono bindRead_frame rfl) rfl) (.mono begin_frame rfl))

theorem execEngBindWrite_frame {path k : Nat} : s.frameOut [.eng, .jnl, .waiting] (execEngBindWrite path k s) :=
  .guarded (.after (gateWrite_frame (fun _ => .mono bindWrite_frame rfl) rfl) (.mono begin_frame rfl))

theorem execEngineTakeEntry_frame {e box : Nat} :
    s.frameOut [.tun, .links, .planes, .sch, .eng, .jnl, .free] (execEngineTakeEntry e box s) :=
  .guardedIn (.ite (.after engTake_frame (.mono begin_frame rfl)) (.mono begin_frame rfl))

theorem engKick_frame {e : Nat} : s.frame [.eng] (s.engKick e) := .after updEng_frame setEngine_frame

theorem execEngineWdtKick_frame {e : Nat} : s.frameOut [.eng] (execEngineWdtKick e s) :=
  .guardedIn (.ite (.after engKick_frame (.mono begin_frame rfl)) (.mono begin_frame rfl))

theorem execEngineRspPost_frame {e : Nat} {words : List Nat} : s.frameOut [.eng] (execEngineRspPost e words s) :=
  .guardedIn (.ite (.after pushRsp_frame (.mono begin_frame rfl)) (.mono begin_frame rfl))

theorem execEngCacheLoadDone_frame : s.frameOut [.dram, .eng, .jnl, .pwr] (execEngCacheLoadDone s) := by
  unfold execEngCacheLoadDone
  exact .nextIn (by
    split
    · exact .mono begin_frame rfl
    · exact .after cacheEnter_frame (.after (.mono updEng_frame rfl) (.mono begin_frame rfl)))

end Sys2Proof.Machine.State
end

section
/-! SUPPORT. The frames of the tunnel map. -/

namespace Sys2Proof.Machine.State

variable {s : State}

theorem tmapResult_frame {r : Nat} : s.frame [] (s.tmapResult r) := wr_frame

theorem tmapRefuse_frame {r : Nat} : s.frame [] (s.tmapRefuse r) := .after irq_frame tmapResult_frame

theorem tmapNext_frame : s.frame [] s.tmapNext := .ite wr_frame (.refl _)

theorem tmapCmd_frame {path op : Nat} {act : State → State} {ps : List Part}
    (hact : ∀ s, State.frame s ps (act s)) (hps : decide ([.jnl, .waiting] ⊆ ps) = true) : s.frame ps (s.tmapCmd path op act) :=
  gateWrite_frame (fun _ => .ite (.within tmapResult_frame hps rfl) (hact _)) hps

theorem tmapData_frame {e : Entry} : s.frame [] (s.tmapData e) := .after wr_frame (.after wr_frame (.after wr_frame wr_frame))

theorem tmapDataFree_frame : s.frame [.free] s.tmapDataFree := .foldl (fun _ _ => .after tookFree_frame (.mono wr_frame rfl))

theorem tmapRead_frame {p : Nat} : s.frame [.free] (s.tmapRead p) :=
  .after (.after (.mono tmapNext_frame rfl) (.mono tmapResult_frame rfl)) (.ite tmapDataFree_frame (.mono tmapData_frame rfl))

theorem tmapStage_frame {path : Nat} : s.frame [.tun] (s.tmapStage path) :=
  .ite (.mono tmapResult_frame rfl) (.ite (.mono tmapResult_frame rfl) (.after (.after (.mono tmapNext_frame rfl) (.mono
    tmapResult_frame rfl)) updTun_frame))

theorem tmapGrant_frame : s.frame [.tun, .planes, .rgm] s.tmapGrant :=
  .ite (.refl _) (.after (.ite (.after (.mono afterCommit_frame rfl) (.after (.mono tmapRefuse_frame rfl) (.mono wr_frame
    rfl))) (.mono updTun_frame rfl)) (.mono updTun_frame rfl))

theorem tmapCommit_frame {path : Nat} : s.frame [.tun, .planes, .rgm] (s.tmapCommit path) := by
  unfold tmapCommit
  dsimp only
  split
  · exact .mono tmapRefuse_frame rfl
  · split
    · exact .mono tmapRefuse_frame rfl
    · split
      · exact .after (.mono wr_frame rfl) (.mono tmapRefuse_frame rfl)
      · exact .ite (.mono tmapRefuse_frame rfl) (.after (.ite tmapGrant_frame (.refl _)) (.after (.mono updTun_frame rfl)
          (.mono wr_frame rfl)))

theorem tmapDiscard_frame {path : Nat} : s.frame [.tun] (s.tmapDiscard path) :=
  .ite (.mono tmapResult_frame rfl) (.after (.mono tmapResult_frame rfl) updTun_frame)

theorem tmapReadStaged_frame : s.frame [.free] s.tmapReadStaged := by
  unfold tmapReadStaged
  dsimp only
  split
  · exact .after (.mono tmapNext_frame rfl) (.after (.mono tmapResult_frame rfl) (.mono tmapData_frame rfl))
  · exact tmapRead_frame

theorem tmapApplyOne_frame {i : Nat} {e : Entry} : s.frame [.tun] (s.tmapApplyOne i e) :=
  .after updTun_frame (.after mapPut_frame mapPut_frame)

theorem tmapApply_frame : s.frame [.tun] s.tmapApply :=
  .ite (.refl _) (.after (.ite (.mono tmapRefuse_frame rfl) (.after (.after (.mono irq_frame rfl) (.after (.mono tally_frame
    rfl) (.after (.mono bumpWrap_frame rfl) (.after (.mono tmapResult_frame rfl) updTun_frame)))) (.foldl (fun _ _ =>
    tmapApplyOne_frame)))) (.after (.mono wr_frame rfl) updTun_frame))

theorem tmapPairTimeout_frame : s.frame [.tun] s.tmapPairTimeout :=
  .ite (.after (.mono tmapRefuse_frame rfl) (.after (.mono wr_frame rfl) updTun_frame)) (.refl _)

theorem scrubOne_frame {i : Nat} : s.frame [.tun, .jnl] (s.scrubOne i) := by
  have hx : s.frame [.tun, .jnl] (s.readCopy s.authPlane i).1 := .mono readCopy_frame rfl
  have hy := frame.after (u := ((s.readCopy s.authPlane i).1.readCopy (1 - s.authPlane) i).1) (.mono readCopy_frame rfl) hx
  unfold scrubOne
  dsimp only
  split
  · exact .ite hy (.after (.mono event_frame rfl) (.after (.mono mapPut_frame rfl) hy))
  · exact .after (.mono mapPut_frame rfl) hy
  · exact .after (.mono mapPut_frame rfl) hy
  · exact hy

theorem execTmapReadA_frame {path : Nat} : s.frameOut [.jnl, .waiting, .free] (execTmapReadA path s) :=
  .guarded (.after (tmapCmd_frame (fun _ => .mono tmapRead_frame rfl) rfl) (.mono begin_frame rfl))

theorem execTmapReadB_frame {path : Nat} : s.frameOut [.jnl, .waiting, .free] (execTmapReadB path s) :=
  .guarded (.after (tmapCmd_frame (fun _ => .mono tmapRead_frame rfl) rfl) (.mono begin_frame rfl))

theorem execTmapStage_frame {path : Nat} : s.frameOut [.tun, .jnl, .waiting] (execTmapStage path s) :=
  .guarded (.after (tmapCmd_frame (fun _ => .mono tmapStage_frame rfl) rfl) (.mono begin_frame rfl))

theorem execTmapCommit_frame {path : Nat} : s.frameOut [.tun, .planes, .rgm, .jnl, .waiting] (execTmapCommit path s) :=
  .guarded (.after (tmapCmd_frame (fun _ => .mono tmapCommit_frame rfl) rfl) (.mono begin_frame rfl))

theorem execTmapCommitApply_frame : s.frameOut [.tun, .planes, .rgm] (execTmapCommitApply s) :=
  .nextIn (.after (.mono afterCommit_frame rfl) (.after (.mono tmapApply_frame rfl) (.mono begin_frame rfl)))

theorem execTmapCommitPairTimeout_frame : s.frameOut [.tun, .planes, .rgm] (execTmapCommitPairTimeout s) :=
  .nextIn (.after (.mono afterCommit_frame rfl) (.after (.mono tmapPairTimeout_frame rfl) (.mono begin_frame rfl)))

theorem execTmapDiscard_frame {path : Nat} : s.frameOut [.tun, .jnl, .waiting] (execTmapDiscard path s) :=
  .guarded (.after (tmapCmd_frame (fun _ => .mono tmapDiscard_frame rfl) rfl) (.mono begin_frame rfl))

theorem execTmapReadStaged_frame {path : Nat} : s.frameOut [.jnl, .waiting, .free] (execTmapReadStaged path s) :=
  .guarded (.after (tmapCmd_frame (fun _ => .mono tmapReadStaged_frame rfl) rfl) (.mono begin_frame rfl))

theorem execScrubPass_frame {upsets : List MapUpset} : s.frameOut [.tun, .jnl] (execScrubPass upsets s) :=
  .nextIn (.after (.foldl (fun _ _ => scrubOne_frame)) (.after (.foldl (fun _ _ => .mono upset_frame rfl)) (.mono begin_frame
    rfl)))

end Sys2Proof.Machine.State
end

section
/-! SUPPORT. The frames of the multicast groups. -/

namespace Sys2Proof.Machine.State

variable {s : State}

theorem updMcg_frame {f : McgEdit → McgEdit} : s.frame [.mcg] (s.updMcg f) := set_mcg_frame

theorem mcgResult_frame {r : Nat} : s.frame [] (s.mcgResult r) := .after wr_frame wr_frame

theorem mcgBusy_frame {v : Nat} : s.frame [] (s.mcgBusy v) := .after wr_frame wr_frame

theorem mcgCmd_frame {path p op : Nat} {act : State → State} {ps : List Part}
    (hact : ∀ s, State.frame s ps (act s)) (hps : decide ([.jnl, .waiting] ⊆ ps) = true) : s.frame ps (s.mcgCmd path p op act) :=
  gateWrite_frame (fun _ => .ite (.within mcgResult_frame hps rfl) (hact _)) hps

theorem mcgRead_frame {p : Nat} : s.frame [] (s.mcgRead p) := .after mcgResult_frame wr_frame

theorem mcgStage_frame {path p : Nat} : s.frame [.mcg] (s.mcgStage path p) :=
  .ite (.mono mcgResult_frame rfl) (.ite (.mono mcgResult_frame rfl) (.after (.mono mcgResult_frame rfl) updMcg_frame))

theorem mcgGrant_frame : s.frame [.planes, .mcg, .rgm] s.mcgGrant :=
  .ite (.refl _) (.after (.ite (.after (.mono afterCommit_frame rfl) (.after (.mono mcgResult_frame rfl) (.mono mcgBusy_frame
    rfl))) (.mono updMcg_frame rfl)) (.mono updMcg_frame rfl))

theorem mcgCommit_frame {path : Nat} : s.frame [.planes, .mcg, .rgm] (s.mcgCommit path) := by
  unfold mcgCommit
  dsimp only
  split
  · exact .mono mcgResult_frame rfl
  · split
    · exact .mono mcgResult_frame rfl
    · split
      · exact .after (.mono wr_frame rfl) (.after (.mono wr_frame rfl) (.mono mcgResult_frame rfl))
      · exact .ite (.mono mcgResult_frame rfl) (.after (.ite mcgGrant_frame (.refl _)) (.after (.mono updMcg_frame rfl)
          (.mono mcgBusy_frame rfl)))

theorem mcgApply_frame : s.frame [.planes, .mcg] s.mcgApply :=
  .ite (.refl _) (.after (.ite (.mono mcgResult_frame rfl) (.after (.after (.mono bumpWrap_frame rfl) (.mono bumpWrap_frame
    rfl)) (.after (.mono tally_frame rfl) (.after (.mono mcgResult_frame rfl) (.after (.mono updMcg_frame rfl) (.after (.mono
    updPlane_frame rfl) (.mono updPlane_frame rfl))))))) (.after (.mono mcgBusy_frame rfl) (.mono updMcg_frame rfl)))

theorem mcgPairTimeout_frame : s.frame [.mcg] s.mcgPairTimeout :=
  .ite (.after (.mono mcgResult_frame rfl) (.after (.mono mcgBusy_frame rfl) updMcg_frame)) (.refl _)

theorem mcgDiscard_frame {path : Nat} : s.frame [.mcg] (s.mcgDiscard path) :=
  .ite (.mono mcgResult_frame rfl) (.after (.mono mcgResult_frame rfl) updMcg_frame)

theorem mcgReadStaged_frame {p : Nat} : s.frame [] (s.mcgReadStaged p) := by
  unfold mcgReadStaged
  split
  · exact .after mcgResult_frame wr_frame
  · exact mcgRead_frame

theorem sdgFind_frame {p b arg : Nat} : s.frame [.jnl] (s.sdgFind p b arg) := .after event_frame (.mono tally_frame rfl)

theorem sdgCell_frame {p i : Nat} : s.frame [.planes, .jnl] (s.sdgCell p i) :=
  .ite (.ite (.ite (.after (.after (.mono sdgFind_frame rfl) (.ite (.after (.mono bump_frame rfl) (.mono updPlane_frame rfl))
    (.refl _))) (.after (.mono wr_frame rfl) (.mono wr_frame rfl))) (.mono updPlane_frame rfl)) (.after (.ite (.after (.mono
    sdgFind_frame rfl) (.mono bump_frame rfl)) (.refl _)) (.mono updPlane_frame rfl))) (.ite (.after (.mono sdgFind_frame
    rfl) (.after (.mono bump_frame rfl) (.mono updPlane_frame rfl))) (.refl _))

theorem sdgVisit_frame {p : Nat} {upset : Option (Bool × Nat × Nat)} : s.frame [.planes, .jnl] (s.sdgVisit p upset) := by
  unfold sdgVisit
  dsimp only
  refine .after (.ite (.after (.mono wr_frame rfl) sdgCell_frame) (.refl _)) ?_
  split
  · exact .refl _
  · exact .mono updPlane_frame rfl

theorem sdgEnd_frame {p : Nat} {upset : Int} :
    s.frame [.tun, .links, .planes, .mcg, .sch, .brg, .jnl, .waiting, .free] (s.sdgEnd p upset) :=
  .after (.ite (.refl _) (.after (.after (.after (.ite (.after (.ite declareFailed_frame (.refl _)) (.after (.mono
    tookFree_frame rfl) (.after (.mono sdgFind_frame rfl) (.mono bump_frame rfl)))) (.refl _)) (.mono irq_frame rfl)) (.after
    (.mono wr_frame rfl) (.mono bump_frame rfl))) (.mono setPlane_frame rfl))) (.mono updPlane_frame rfl)

theorem execMcgRead_frame {path p : Nat} : s.frameOut [.jnl, .waiting] (execMcgRead path p s) :=
  .guarded (.after (mcgCmd_frame (fun _ => .mono mcgRead_frame rfl) rfl) (.mono begin_frame rfl))

theorem execMcgStage_frame {path p : Nat} : s.frameOut [.mcg, .jnl, .waiting] (execMcgStage path p s) :=
  .guarded (.after (mcgCmd_frame (fun _ => .mono mcgStage_frame rfl) rfl) (.mono begin_frame rfl))

theorem execMcgCommit_frame {path p : Nat} : s.frameOut [.planes, .mcg, .rgm, .jnl, .waiting] (execMcgCommit path p s) :=
  .guarded (.after (mcgCmd_frame (fun _ => .mono mcgCommit_frame rfl) rfl) (.mono begin_frame rfl))

theorem execMcgCommitApply_frame : s.frameOut [.planes, .mcg, .rgm] (execMcgCommitApply s) :=
  .nextIn (.after (.mono afterCommit_frame rfl) (.after (.mono mcgApply_frame rfl) (.mono begin_frame rfl)))

theorem execMcgCommitPairTimeout_frame : s.frameOut [.planes, .mcg, .rgm] (execMcgCommitPairTimeout s) :=
  .nextIn (.after (.mono afterCommit_frame rfl) (.after (.mono mcgPairTimeout_frame rfl) (.mono begin_frame rfl)))

theorem execMcgDiscard_frame {path p : Nat} : s.frameOut [.mcg, .jnl, .waiting] (execMcgDiscard path p s) :=
  .guarded (.after (mcgCmd_frame (fun _ => .mono mcgDiscard_frame rfl) rfl) (.mono begin_frame rfl))

theorem execMcgReadStaged_frame {path p : Nat} : s.frameOut [.jnl, .waiting] (execMcgReadStaged path p s) :=
  .guarded (.after (mcgCmd_frame (fun _ => .mono mcgReadStaged_frame rfl) rfl) (.mono begin_frame rfl))

theorem execSheepdogSweepStart_frame {p : Nat} : s.frameOut [.planes] (execSheepdogSweepStart p s) :=
  .guardedIn (.after (.ite (.after (.mono wr_frame rfl) updPlane_frame) (.refl _)) (.mono begin_frame rfl))

theorem execSheepdogVisit_frame {p : Nat} {upset : Option (Bool × Nat × Nat)} :
    s.frameOut [.planes, .jnl] (execSheepdogVisit p upset s) :=
  .guardedIn (.after sdgVisit_frame (.mono begin_frame rfl))

theorem execSheepdogSweepEnd_frame {p : Nat} {upset : Int} :
    s.frameOut [.tun, .links, .planes, .mcg, .sch, .brg, .jnl, .waiting, .free] (execSheepdogSweepEnd p upset s) :=
  .guardedIn (.after sdgEnd_frame (.mono begin_frame rfl))

end Sys2Proof.Machine.State
end

section
/-! SUPPORT. The frames of the Ringmaster. -/

namespace Sys2Proof.Machine.State

variable {s : State}

theorem makeLive_frame {x : Nat} : s.frame [.tun, .planes, .mcg, .rgm] (s.makeLive x) :=
  .after (.after (.mono mcgGrant_frame rfl) (.after (.mono tmapGrant_frame rfl) (.mono setPairState_frame rfl))) (.ite (.mono
    setPairState_frame rfl) (.refl _))

theorem replicaMismatch_frame {r : Nat} : s.frame [.rgm] (s.replicaMismatch r) :=
  .ite (.refl _) (.ite (.after (.mono irq_frame rfl) (.mono wr_frame rfl)) (.after (.after (.ite (.after (.mono irq_frame
    rfl) (.mono wr_frame rfl)) (.refl _)) updRgm_frame) (.after (.mono irq_frame rfl) (.after (.mono tally_frame rfl) (.mono
    bump_frame rfl)))))

theorem demote_frame {p : Nat} : s.frame [.planes] (s.demote p) := updPlane_frame

theorem vote_frame {a b : Bool} : s.frame [.planes, .jnl] (s.vote a b) :=
  .ite (.after (.mono updPlane_frame rfl) (.mono updPlane_frame rfl)) (.ite (.ite (.after (.mono event_frame rfl) (.after
    (.mono bump_frame rfl) (.mono demote_frame rfl))) (.refl _)) (.ite (.ite (.after (.mono grant_frame rfl) (.mono
    demote_frame rfl)) (.mono grant_frame rfl)) (.ite (.mono grant_frame rfl) (.refl _))))

theorem settleClaims_frame : s.frame [.planes, .jnl] s.settleClaims := .ite vote_frame (.refl _)

theorem pairBeats_frame {a b : Bool} : s.frame [.tun, .planes, .mcg, .rgm] (s.pairBeats a b) := by
  unfold pairBeats
  dsimp only
  split
  · exact .refl _
  · split
    · exact .ite (.after makeLive_frame (.mono updRgm_frame rfl)) (.ite makeLive_frame (.refl _))
    · exact .ite (.after makeLive_frame (.mono updRgm_frame rfl)) (.refl _)

theorem showPair_frame {x v : Nat} : s.frame [] (s.showPair x v) := .ite (.refl _) setPairState_frame

theorem pairLost_frame {x : Nat} : s.frame [.tun, .planes, .mcg, .rgm, .jnl] (s.pairLost x) :=
  .after (.ite (.after (.after (.mono event_frame rfl) (.mono bump_frame rfl)) (.ite (.mono makeLive_frame rfl) (.refl _)))
    (.refl _)) (.mono showPair_frame rfl)

theorem rgmHandover_frame : s.frame [.planes, .rgm] s.rgmHandover :=
  .ite (.mono wr_frame rfl) (.ite (.mono wr_frame rfl) (.ite (.after (.mono wr_frame rfl) (.mono updRgm_frame rfl)) (.after
    (.mono wr_frame rfl) (.mono handover_frame rfl))))

theorem rgmSwapLive_frame : s.frame [.tun, .planes, .mcg, .rgm] s.rgmSwapLive := by
  unfold rgmSwapLive
  split
  · exact .mono wr_frame rfl
  · split
    · exact .after (.mono wr_frame rfl) makeLive_frame
    · exact .mono wr_frame rfl

theorem execReplicaMismatch_frame {r : Nat} : s.frameOut [.rgm] (execReplicaMismatch r s) :=
  .guardedIn (.after replicaMismatch_frame (.mono begin_frame rfl))

theorem execAuthorityClaim_frame {a b : Bool} : s.frameOut [.planes, .jnl] (execAuthorityClaim a b s) :=
  .nextIn (.after vote_frame (.mono begin_frame rfl))

theorem execCrossPlaneHeartbeat_frame {p : Nat} : s.frameOut [.planes] (execCrossPlaneHeartbeat p s) :=
  .guardedIn (.after updPlane_frame (.mono begin_frame rfl))

theorem execPairHeartbeat_frame {a b : Bool} : s.frameOut [.tun, .planes, .mcg, .rgm] (execPairHeartbeat a b s) :=
  .nextIn (.after pairBeats_frame (.mono begin_frame rfl))

theorem execRgmHandover_frame {path : Nat} : s.frameOut [.planes, .rgm, .jnl, .waiting] (execRgmHandover path s) :=
  .guarded (.after (gateWrite_frame (fun _ => .mono rgmHandover_frame rfl) rfl) (.mono begin_frame rfl))

theorem execRgmSwapLive_frame {path : Nat} :
    s.frameOut [.tun, .planes, .mcg, .rgm, .jnl, .waiting] (execRgmSwapLive path s) :=
  .guarded (.after (gateWrite_frame (fun _ => .mono rgmSwapLive_frame rfl) rfl) (.mono begin_frame rfl))

end Sys2Proof.Machine.State
end

section
/-! SUPPORT. The frames of the journal. -/

namespace Sys2Proof.Machine.State

variable {s : State}

theorem jnlLose_frame : s.frame [.jnl] s.jnlLose :=
  .after (.mono irq_frame rfl) (.after (.mono tally_frame rfl) (.after (.mono bump_frame rfl) set_jnl_frame))

theorem jnlPut_frame {e : JEnt} : s.frame [.jnl] (s.jnlPut e) :=
  .after (.after (.after (.after (.after (.after (.ite (.mono irq_frame rfl) (.refl _)) (.ite (.mono irq_frame rfl) (.refl
    _))) (.mono tally_frame rfl)) set_jnl_frame) (.mono wr_frame rfl)) (.ite (.mono wr_frame rfl) (.refl _))) set_jnl_frame

theorem jnlWrite_frame : s.frame [.jnl] s.jnlWrite := by
  unfold jnlWrite
  dsimp only
  split
  · exact .refl _
  · exact .after (.ite jnlLose_frame jnlPut_frame) set_jnl_frame

theorem jnlTail_frame {v : Nat} : s.frame [.jnl] (s.jnlTail v) := .after set_jnl_frame (.mono wr_frame rfl)

theorem execJournalEntryWrite_frame : s.frameOut [.jnl] (execJournalEntryWrite s) :=
  .nextIn (.after jnlWrite_frame (.mono begin_frame rfl))

theorem execJnlTailWrite_frame {path data : Nat} : s.frameOut [.jnl, .waiting] (execJnlTailWrite path data s) :=
  .guarded (.after (gateWrite_frame (fun _ => .mono jnlTail_frame rfl) rfl) (.mono begin_frame rfl))

theorem execJnlDataRead_frame {path : Nat} : s.frameOut [.jnl, .waiting] (execJnlDataRead path s) :=
  .guarded (.after (gateRead_frame (fun _ => .after (.ite (.mono jnlTail_frame rfl) (.refl _)) (.mono answer_frame rfl)) rfl)
    (.mono begin_frame rfl))

theorem execJnlSwWrite_frame {path data : Nat} : s.frameOut [.jnl, .csr, .waiting] (execJnlSwWrite path data s) :=
  .guarded (.after (gateWrite_frame (fun _ => .after (.mono stageLo_frame rfl) (.mono journalAt_frame rfl)) rfl) (.mono
    begin_frame rfl))

end Sys2Proof.Machine.State
end

section
/-! SUPPORT. The frames of the regulators. -/

namespace Sys2Proof.Machine.State

variable {s : State}

theorem updPwr_frame {f : PwrState → PwrState} : s.frame [.pwr, .waiting] (s.updPwr f) := set_pwr_frame

theorem pmbSend_frame {r : Nat} {e : Nat → Bool → Bool → Emit} : s.frame [] (s.pmbSend r e) :=
  .after emit_frame (.ite (.refl _) emit_frame)

theorem pmbWrite_frame {r cmd data : Nat} : s.frame [] (s.pmbWrite r cmd data) := pmbSend_frame

theorem pmbRead_frame {r cmd : Nat} : s.frame [] (s.pmbRead r cmd) := pmbSend_frame

theorem voltsRefused_frame : s.frame [.pwr] s.voltsRefused :=
  .ite (.refl _) (.ite (.refl _) (.after (updPwr_power_frame fun _ => rfl) (.mono wr_frame rfl)))

theorem regSend_frame : s.frame [.pwr, .free] s.regSend := by
  unfold regSend
  extract_lets t
  have ht : s.frame [.pwr, .free] t := .mono voltsRefused_frame rfl
  split
  · exact ht
  · rename_i r op _ _
    extract_lets t'
    have ht' : s.frame [.pwr, .free] t' := .after (.mono (updPwr_power_frame fun _ => rfl) rfl) (.after (.any wr_frame) ht)
    split
    · exact .after (.mono tookFree_frame rfl) (.after (.mono (updPwr_power_frame fun _ => rfl) rfl) (.after (.any pmbWrite_frame) ht'))
    · exact .after (.mono (updPwr_power_frame fun _ => rfl) rfl) (.after (.any pmbWrite_frame) ht')
    · exact .after (.any pmbWrite_frame) ht'

theorem regAsk_frame {l : List (Nat × RegOp)} : s.frame [.pwr, .free] (s.regAsk l) :=
  .after (.ite regSend_frame (.refl _)) (.mono (updPwr_power_frame fun _ => rfl) rfl)

theorem vidRequest_frame : s.frame [.pwr, .free] s.vidRequest :=
  .after (.ite (.refl _) regAsk_frame) (.mono (updPwr_power_frame fun _ => rfl) rfl)

theorem dramLost_frame : s.frame [.dram, .eng, .pwr] s.dramLost :=
  .cleared rfl rfl rfl rfl (by intro p hp; cases p <;> simp at hp <;> rfl)

theorem selfRefresh_frame : s.frame [.pwr] s.selfRefresh :=
  .ite (.refl _) (.after (.mono tally_frame rfl) (updPwr_power_frame fun _ => rfl))

theorem regAcked_frame {r : Nat} {op : RegOp} {mode : Nat} : s.frame [.dram, .eng, .pwr, .free] (s.regAcked r op mode) := by
  unfold regAcked
  extract_lets t t' t''
  have ht : s.frame [.dram, .eng, .pwr, .free] t := .after (.mono (updPwr_power_frame fun _ => rfl) rfl) (.any wr_frame)
  refine .after (.mono regSend_frame rfl) (.after (t := t) ?_ ht)
  unfold t''
  split
  · exact .any wr_frame
  · exact .ite (.mono dramLost_frame rfl) (.refl _)
  · exact .after (.ite (.any pmbRead_frame) (.refl _)) (.mono (updPwr_power_frame fun _ => rfl) rfl)

theorem regFault_frame {r : Nat} : s.frame [.jnl, .csr] (s.regFault r) := .after alarm_frame (.mono wr_frame rfl)

theorem regAlert_frame {l : List Nat} : s.frame [.jnl] (s.regAlert l) :=
  .after (.foldl (fun _ _ => .after (.ite (.refl _) journalAt_frame) (.after (.mono wr_frame rfl) (.mono pmbRead_frame
    rfl)))) (.mono irq_frame rfl)

theorem alertServed_frame : s.frame [.jnl, .pwr] s.alertServed := by
  unfold alertServed
  split
  · exact .ite (.after (.mono regAlert_frame rfl) (.mono (updPwr_power_frame fun _ => rfl) rfl)) (.refl _)
  · exact .refl _

end Sys2Proof.Machine.State
end

section
/-! SUPPORT. The frames of the management pairs. -/

namespace Sys2Proof.Machine.State

variable {s : State}

theorem updMgt_frame {f : MgtState → MgtState} : s.frame [.mgt] (s.updMgt f) := set_mgt_frame

theorem setMpair_frame {p : Nat} {x : MgtPair} : s.frame [.mgt] (s.setMpair p x) := updMgt_frame

theorem pairHalt_frame {p cause pc0 pc1 : Nat} :
    s.frame [.tun, .planes, .mcg, .rgm, .mgt, .jnl] (s.pairHalt p cause pc0 pc1) :=
  .after (.after (.after (.mono pairLost_frame rfl) (.mono setMpair_frame rfl)) (.after (.mono event_frame rfl) (.mono
    bump_frame rfl))) (.after (.mono wr_frame rfl) (.after (.mono wr_frame rfl) (.mono wr_frame rfl)))

theorem pairHaltCmd_frame {p : Nat} : s.frame [.tun, .planes, .mcg, .rgm, .mgt, .jnl, .free] (s.pairHaltCmd p) :=
  .ite (.after (.mono pairHalt_frame rfl) (.mono set_free_frame rfl)) (.refl _)

theorem pairFault_frame {p cause pc0 pc1 corr : Nat} :
    s.frame [.tun, .planes, .mcg, .rgm, .mgt, .jnl] (s.pairFault p cause pc0 pc1 corr) :=
  .after (.after pairHalt_frame (.ite (.after (.mono tally_frame rfl) (.mono bump_frame rfl)) (.refl _))) (.after (.mono
    tally_frame rfl) (.mono bumpBy_frame rfl))

theorem wdtKick_frame {p pc0 pc1 : Nat} : s.frame [.tun, .planes, .mcg, .rgm, .mgt, .jnl] (s.wdtKick p pc0 pc1) :=
  .ite (.refl _) (.ite pairHalt_frame (.mono setMpair_frame rfl))

theorem customerLoads_frame : s.frame [.mgt] s.customerLoads :=
  .after (.after (.mono wr_frame rfl) (.mono wr_frame rfl)) updMgt_frame

theorem pairStarts_frame {p : Nat} {i : Image} : s.frame [.mgt] (s.pairStarts p i) :=
  .after (.after (.mono showPair_frame rfl) setMpair_frame) (.ite customerLoads_frame (.refl _))

theorem pairReturns_frame {p : Nat} : s.frame [.mgt, .pwr] (s.pairReturns p) := by
  unfold pairReturns
  split
  · exact .refl _
  · exact .ite (.after (.mono irq_frame rfl) (.after (.mono pairStarts_frame rfl) (.ite (.mono cacheReads_frame rfl) (.refl
      _)))) (.refl _)

theorem pairRestart_frame {p : Nat} : s.frame [.mgt, .pwr] (s.pairRestart p) :=
  .ite (.refl _) (.after pairReturns_frame (.mono setMpair_frame rfl))

theorem mgtResult_frame {r : Nat} : s.frame [] (s.mgtResult r) := wr_frame

theorem toStage_frame {n : Nat} : s.frame [] (s.toStage n) := wr_frame

theorem restartCmd_frame {p : Nat} : s.frame [.tun, .planes, .mcg, .rgm, .mgt, .jnl, .pwr, .free] (s.restartCmd p) :=
  .ite (.mono mgtResult_frame rfl) (.ite (.mono mgtResult_frame rfl) (.after (.mono mgtResult_frame rfl) (.after (.mono
    pairReturns_frame rfl) (.mono pairHaltCmd_frame rfl))))

theorem senderGone_frame {path : Nat} : s.frame [.waiting] (s.senderGone path) := set_waiting_frame

theorem pairOffNow_frame {p : Nat} : s.frame [.mgt, .waiting] (s.pairOffNow p) :=
  .after (.after (.after (.ite (.after (.mono senderGone_frame rfl) (.mono updMgt_frame rfl)) (.refl _)) (.ite (.refl _)
    (.mono senderGone_frame rfl))) (.mono setMpair_frame rfl)) (.mono showPair_frame rfl)

theorem stopB_frame : s.frame [.tun, .planes, .mcg, .rgm, .mgt, .jnl, .waiting, .free] s.stopB :=
  .ite (.mono mgtResult_frame rfl) (.after (.mono mgtResult_frame rfl) (.after (.mono pairOffNow_frame rfl) (.mono
    pairHaltCmd_frame rfl)))

theorem mboxDrain_frame : s.frame [.mgt, .free] s.mboxDrain := by
  unfold mboxDrain
  dsimp only
  split
  · exact .refl _
  · exact .ite (.refl _) (.after (.foldl (fun _ _ => .after (.mono emit_frame rfl) (.mono set_free_frame rfl))) (.mono
      updMgt_frame rfl))

theorem mgtMessage_frame {u : UnitMsg} {localId : Nat} : s.frameOpt [.mgt, .free] (s.mgtMessage u localId) := by
  unfold mgtMessage
  dsimp only
  exact .after (by
    split
    · exact .none
    · exact .some (.after mboxDrain_frame (.mono updMgt_frame rfl))) mboxDrain_frame

theorem customerFault_frame : s.frame [.mgt] s.customerFault :=
  .after (.mono irq_frame rfl) (.after (.mono wr_frame rfl) updMgt_frame)

theorem mboxRead_frame {a : Nat} : s.frame [.mgt, .free] (s.mboxRead a) := by
  unfold mboxRead
  dsimp only
  split
  · exact .mono emit_frame rfl
  · exact .ite (.mono customerFault_frame rfl) (.after (.after (.after (.mono emit_frame rfl) (.mono setMpair_frame rfl))
      (.mono updMgt_frame rfl)) (.mono set_free_frame rfl))

theorem bootFails_frame {cause : Nat} : s.frame [.tun, .planes, .mcg, .rgm, .mgt, .jnl, .csr, .free] (s.bootFails cause) :=
  .after (.after (.after (.mono alarm_frame rfl) (.mono pairHalt_frame rfl)) (.mono set_free_frame rfl)) (.after (.mono
    wr_frame rfl) (.mono toStage_frame rfl))

theorem residentLoaded_frame {i : Image} {slot : Nat} : s.frame [.mgt] (s.residentLoaded i slot) :=
  .after (.mono toStage_frame rfl) (.after (.mono wr_frame rfl) (.after (.mono wr_frame rfl) updMgt_frame))

theorem bootDirectory_frame : s.frame [.tun, .planes, .mcg, .rgm, .mgt, .jnl, .csr, .free] s.bootDirectory := by
  unfold bootDirectory
  split
  · exact bootFails_frame
  · exact .after (.mono toStage_frame rfl) (.after (.mono wr_frame rfl) (.mono wr_frame rfl))

theorem bootResident_frame : s.frame [.tun, .planes, .mcg, .rgm, .mgt, .jnl, .csr, .free] s.bootResident := by
  unfold bootResident
  dsimp only
  split
  · exact .mono residentLoaded_frame rfl
  · exact .after (by
      split
      · exact .mono residentLoaded_frame rfl
      · exact bootFails_frame) (.mono wr_frame rfl)

theorem bootStartA_frame : s.frame [.tun, .planes, .mcg, .rgm, .mgt, .pwr, .free] s.bootStartA := by
  unfold bootStartA
  split
  · exact .refl _
  · exact .after (.mono regAsk_frame rfl) (.after (.mono toStage_frame rfl) (.after (.mono pairBeats_frame rfl) (.after
      (.mono pairStarts_frame rfl) (.mono updMgt_frame rfl))))

theorem bootSpare_frame {e : Nat} : s.frame [.eng, .jnl, .pwr, .free] (s.bootSpare e) := by
  unfold bootSpare
  dsimp only
  exact .after (.after (.mono engStart_frame rfl) (by
    split
    · exact .refl _
    · exact .after (.mono wr_frame rfl) (.after (.mono wr_frame rfl) (.mono tookFree_frame rfl)))) (.mono wr_frame rfl)

theorem bootEngines_frame : s.frame [.dram, .eng, .jnl, .pwr, .free] s.bootEngines :=
  .after (.after (.mono toStage_frame rfl) (.after (.mono bootSpare_frame rfl) (.mono bootSpare_frame rfl))) (.foldl (fun _ _
    => .mono cacheEnter_frame rfl))

theorem bootPairB_frame : s.frame [.tun, .planes, .mcg, .rgm, .mgt] s.bootPairB := by
  unfold bootPairB
  dsimp only
  refine .after (.after (.mono irq_frame rfl) (.mono toStage_frame rfl)) ?_
  split
  · exact .after (.mono pairBeats_frame rfl) (.mono pairStarts_frame rfl)
  · exact .refl _

theorem bootStep_frame : s.frame [.tun, .planes, .mcg, .rgm, .dram, .eng, .mgt, .jnl, .csr, .pwr, .free] s.bootStep := by
  unfold bootStep
  split
  · exact .after (.mono toStage_frame rfl) (.mono setPairState_frame rfl)
  · exact .mono bootDirectory_frame rfl
  · exact .mono bootResident_frame rfl
  · exact .mono bootStartA_frame rfl
  · exact .mono toStage_frame rfl
  · exact .mono bootEngines_frame rfl
  · exact .mono bootPairB_frame rfl
  · exact .refl _

theorem flashCmd_frame {op : Nat} : s.frame [.mgt] (s.flashCmd op) :=
  .ite (.mono wr_frame rfl) (.ite (.mono wr_frame rfl) (.after (.mono wr_frame rfl) updMgt_frame))

theorem setFlashBuf_frame {bs : List Byte} : s.frame [] (s.setFlashBuf bs) := .foldl (fun _ _ => wr_frame)

theorem updFlash_frame {f : Tab Byte → Tab Byte} : s.frame [.mgt] (s.updFlash f) := updMgt_frame

theorem flashErase_frame {a n : Nat} : s.frame [.mgt] (s.flashErase a n) := updFlash_frame

theorem flashAct_frame {op a : Nat} {buf : List Byte} : s.frame [.mgt] (s.flashAct op a buf) := by
  unfold flashAct
  split
  · exact .mono setFlashBuf_frame rfl
  · exact updFlash_frame
  · exact flashErase_frame
  · exact flashErase_frame

theorem flashDone_frame : s.frame [.mgt] s.flashDone := by
  unfold flashDone
  split
  · exact .refl _
  · exact .after (.mono wr_frame rfl) (.after (.mono wr_frame rfl) (.after updMgt_frame flashAct_frame))

theorem evcSelect_frame {path c data : Nat} : s.frame [.jnl, .waiting] (s.evcSelect path c data) :=
  gateWrite_frame (fun _ => .after (.mono wr_frame rfl) (.mono store_frame rfl)) rfl

theorem evcClear_frame {data : Nat} : s.frame [] (s.evcClear data) := .ite (.foldl (fun _ _ => wr_frame)) wr_frame

theorem evcWrap_frame {c : Nat} : s.frame [] (s.evcWrap c) := .ite tallyAt_frame (.refl _)

theorem execPairHeartbeatMiss_frame {p missed pc0 pc1 : Nat} :
    s.frameOut [.tun, .planes, .mcg, .rgm, .mgt, .jnl] (execPairHeartbeatMiss p missed pc0 pc1 s) :=
  .guardedIn (.ite (.after pairHalt_frame (.mono begin_frame rfl)) (.mono begin_frame rfl))

theorem execPairHalt_frame {p cause corr : Nat} {pcs : Nat × Nat} :
    s.frameOut [.tun, .planes, .mcg, .rgm, .mgt, .jnl] (execPairHalt p cause corr pcs s) :=
  .guardedIn (.ite (.after pairFault_frame (.mono begin_frame rfl)) (.mono begin_frame rfl))

theorem execWdtKick_frame {path p src data pc0 pc1 : Nat} :
    s.frameOut [.tun, .planes, .mcg, .rgm, .mgt, .jnl, .waiting] (execWdtKick path p src data pc0 pc1 s) :=
  .guarded (.after (gateWrite_frame (fun _ => .ite (.mono wdtKick_frame rfl) (.refl _)) rfl) (.mono begin_frame rfl))

theorem execPairWatchdogExpiry_frame {p pc0 pc1 : Nat} :
    s.frameOut [.tun, .planes, .mcg, .rgm, .mgt, .jnl] (execPairWatchdogExpiry p pc0 pc1 s) :=
  .guardedIn (.ite (.after pairHalt_frame (.mono begin_frame rfl)) (.mono begin_frame rfl))

theorem execPairRestart_frame {p : Nat} : s.frameOut [.mgt, .pwr] (execPairRestart p s) :=
  .guardedIn (.after pairRestart_frame (.mono begin_frame rfl))

theorem execRestartA_frame {path : Nat} :
    s.frameOut [.tun, .planes, .mcg, .rgm, .mgt, .jnl, .pwr, .waiting, .free] (execRestartA path s) :=
  .guarded (.after (gateWrite_frame (fun _ => .mono restartCmd_frame rfl) rfl) (.mono begin_frame rfl))

theorem execRestartB_frame {path : Nat} :
    s.frameOut [.tun, .planes, .mcg, .rgm, .mgt, .jnl, .pwr, .waiting, .free] (execRestartB path s) :=
  .guarded (.after (gateWrite_frame (fun _ => .mono restartCmd_frame rfl) rfl) (.mono begin_frame rfl))

theorem execStopB_frame {path : Nat} :
    s.frameOut [.tun, .planes, .mcg, .rgm, .mgt, .jnl, .waiting, .free] (execStopB path s) :=
  .guarded (.after (gateWrite_frame (fun _ => stopB_frame) rfl) (.mono begin_frame rfl))

theorem execEcallYield_frame : s.frameOut [] (execEcallYield s) := .nextIn begin_frame

theorem execEcallSetHandler_frame {a1 : Nat} : s.frameOut [.mgt] (execEcallSetHandler a1 s) :=
  .guardedIn (.ite (.after updMgt_frame (.mono begin_frame rfl)) (.mono begin_frame rfl))

theorem execEcallIrqForward_frame {a1 a2 : Nat} : s.frameOut [.mgt] (execEcallIrqForward a1 a2 s) :=
  .guardedIn (.ite (.after updMgt_frame (.mono begin_frame rfl)) (.mono begin_frame rfl))

theorem execEcallMboxRead_frame {a1 : Nat} : s.frameOut [.mgt, .free] (execEcallMboxRead a1 s) :=
  .guardedIn (.ite (.after mboxRead_frame (.mono begin_frame rfl)) (.mono begin_frame rfl))

theorem execPairbFault_frame : s.frameOut [.mgt] (execPairbFault s) :=
  .nextIn (.ite (.after customerFault_frame (.mono begin_frame rfl)) (.mono begin_frame rfl))

theorem execBootStepDone_frame :
    s.frameOut [.tun, .planes, .mcg, .rgm, .dram, .eng, .mgt, .jnl, .csr, .pwr, .free] (execBootStepDone s) :=
  .nextIn (.after bootStep_frame (.mono begin_frame rfl))

theorem execFlashRead_frame {path : Nat} : s.frameOut [.mgt, .jnl, .waiting] (execFlashRead path s) :=
  .guarded (.after (gateWrite_frame (fun _ => .mono flashCmd_frame rfl) rfl) (.mono begin_frame rfl))

theorem execFlashProgram_frame {path : Nat} : s.frameOut [.mgt, .jnl, .waiting] (execFlashProgram path s) :=
  .guarded (.after (gateWrite_frame (fun _ => .mono flashCmd_frame rfl) rfl) (.mono begin_frame rfl))

theorem execFlashErase4k_frame {path : Nat} : s.frameOut [.mgt, .jnl, .waiting] (execFlashErase4k path s) :=
  .guarded (.after (gateWrite_frame (fun _ => .mono flashCmd_frame rfl) rfl) (.mono begin_frame rfl))

theorem execFlashErase64k_frame {path : Nat} : s.frameOut [.mgt, .jnl, .waiting] (execFlashErase64k path s) :=
  .guarded (.after (gateWrite_frame (fun _ => .mono flashCmd_frame rfl) rfl) (.mono begin_frame rfl))

theorem execFlashOpDone_frame : s.frameOut [.mgt] (execFlashOpDone s) :=
  .nextIn (.after flashDone_frame (.mono begin_frame rfl))

theorem execEvcSelWrite_frame {path c data : Nat} : s.frameOut [.jnl, .waiting] (execEvcSelWrite path c data s) :=
  .guarded (.after evcSelect_frame (.mono begin_frame rfl))

theorem execEvcClear_frame {path data : Nat} : s.frameOut [.jnl, .waiting] (execEvcClear path data s) :=
  .guarded (.after (gateWrite_frame (fun _ => .mono evcClear_frame rfl) rfl) (.mono begin_frame rfl))

theorem execEvcFreeze_frame {path data : Nat} : s.frameOut [.jnl, .waiting] (execEvcFreeze path data s) :=
  .guarded (.after (gateWrite_frame (fun _ => .mono store_frame rfl) rfl) (.mono begin_frame rfl))

theorem execEvcWrap_frame {c : Nat} : s.frameOut [] (execEvcWrap c s) := .guardedIn (.after evcWrap_frame begin_frame)

end Sys2Proof.Machine.State
end

section
/-! SUPPORT. The frames of the pages' own writes and reads. -/

namespace Sys2Proof.Machine.State

variable {s : State}

theorem eraseKeys_frame {p : Nat → Bool} : s.frame [] (s.eraseKeys p) := set_regs_frame

end Sys2Proof.Machine.State
end

section
/-! SUPPORT. The frames of the resets. -/

namespace Sys2Proof.Machine.State

variable {s : State}

theorem showDomains_frame : s.frame [] s.showDomains := wr_frame

theorem regsDropped_frame : s.frame [.pwr] s.regsDropped :=
  .after (.foldl (fun _ _ => .mono wr_frame rfl)) (updPwr_power_frame fun _ => rfl)

theorem flashCut_frame : s.frame [.mgt, .free] s.flashCut := by
  unfold flashCut
  split
  · exact .refl _
  · exact .after (.mono tookFree_frame rfl) (.ite (.mono flashAct_frame rfl) (.refl _))

/-- A core die that comes up anew keeps the queue and the hardware time. -/
theorem coreDie_frame {keep : Nat → Bool} : s.frame Part.all (s.coreDie keep) := by
  refine .after ?_ (.mono flashCut_frame rfl)
  exact ⟨⟨rfl, rfl, fun p hp => by cases p <;> simp [Part.all] at hp⟩, fun h => ⟨Tab.wf_nil 0, Tab.rises_filter h.2⟩⟩

theorem otpShows_frame : s.frame [] s.otpShows := .after wr_frame (.after wr_frame wr_frame)

theorem ringmasterOff_frame : s.frame [] s.ringmasterOff := .after (.ite noAuth_frame (.refl _)) (.after wr_frame wr_frame)

theorem waitingDenied_frame : s.frame [.waiting] s.waitingDenied :=
  .after (.foldl (fun _ _ => .after (.ite (.refl _) (.mono answer_frame rfl)) (.mono bump_frame rfl))) (updPwr_waiting_frame
    fun _ => rfl)

theorem timeKept_frame : s.frame [.tim] s.timeKept :=
  .after (.after updTim_frame (.ite (.after (.mono wr_frame rfl) (.mono wr_frame rfl)) (.refl _))) (.ite (.mono wr_frame rfl)
    (.refl _))

theorem lanesKept_frame : s.frame [.links] s.lanesKept := set_links_frame

theorem schedKept_frame : s.frame [.sch] s.schedKept := set_sch_frame

theorem warmState_frame :
    s.frame [.tun, .links, .planes, .mcg, .rgm, .sch, .dram, .dsp, .sto, .brg, .net, .usb, .tim, .eng, .mgt, .key, .jnl,
      .csr, .free] s.warmState := by
  unfold warmState
  extract_lets t t' key jnl t''
  have ht : s.frame [.tun, .links, .planes, .sch, .tim, .mgt, .free] t' := .after (.mono eraseKeys_frame rfl)
    (.after (.mono schedKept_frame rfl) (.after (.mono lanesKept_frame rfl) (.after (.mono timeKept_frame rfl) (.mono flashCut_frame rfl))))
  have hc : t'.frame [.tun, .planes, .mcg, .rgm, .dram, .dsp, .sto, .brg, .net, .usb, .eng, .mgt, .key, .jnl, .csr] t'' :=
    .cleared rfl rfl rfl rfl fun p hp => by cases p <;> simp at hp <;> rfl
  exact .after (.mono ringmasterOff_frame rfl) (.after (.mono wr_frame rfl) (.after (.mono hc rfl) (.mono ht rfl)))

theorem warmPower_frame : s.frame [.pwr, .waiting, .rst] s.warmPower :=
  .after (.after (.after (.after (.mono wr_frame rfl) (.after (.mono wr_frame rfl) (.mono wr_frame rfl))) (.mono
    set_rst_frame rfl)) (.mono updPwr_frame rfl)) (.after (.mono waitingDenied_frame rfl) (.mono regsDropped_frame rfl))

theorem hibernated_frame : s.frame Part.all s.hibernated := by
  unfold hibernated
  extract_lets dis asleep aon intn soft t t'
  have ht : s.frame Part.all t' := .after (.mono ringmasterOff_frame rfl) (.after (t := t) (.all rfl rfl rfl rfl) (coreDie_frame (keep := keptHibernate)))
  clear_value asleep
  split
  · exact ht
  · exact .after (.mono setPanelNs_frame rfl) (.after (.mono tookFree_frame rfl) ht)

theorem hibernateReset_frame : s.frame Part.all s.hibernateReset := .after (.mono wr_frame rfl) hibernated_frame

theorem warmReset_frame {f : List Field} : s.frame Part.all (s.warmReset f) :=
  .after (.after (.after (.after (.after (.mono wr_frame rfl) (.mono set_rst_frame rfl)) (.after (.mono wr_frame rfl) (.mono
    wr_frame rfl))) (.foldl (fun _ _ => .mono wr_frame rfl))) (.after (.mono warmState_frame rfl) (.mono warmPower_frame
    rfl))) (.ite (.refl _) hibernated_frame)

theorem holdOrRelease_frame : s.frame [.jnl, .pwr, .rst, .free] s.holdOrRelease :=
  .after (.after (.ite (.refl _) (.after (.mono alertServed_frame rfl) (.mono tamperFollows_frame rfl))) (.after (.mono
    showDomains_frame rfl) (.mono set_rst_frame rfl))) (.ite (.refl _) (.mono regAsk_frame rfl))

theorem rootChecked_frame {intact : Bool} : s.frame [.key] (s.rootChecked intact) := by
  unfold rootChecked
  split
  · exact .refl _
  · exact .ite (.refl _) (.after (.mono wr_frame rfl) (.after (.mono wr_frame rfl) updKey_frame))

theorem coldReset_frame {mode : Nat} {intact : Bool} : s.frame Part.all (s.coldReset mode intact) := by
  unfold coldReset
  extract_lets told t t' t''
  have ht : s.frame Part.all t' := .after (t := t) (.all rfl rfl rfl rfl) (coreDie_frame (keep := keptCold))
  exact .after (.mono tamperFollows_frame rfl) (.after (.ite (.mono tamperFlag_frame rfl) (.refl t'')) (.after (.mono pmbRead_frame rfl)
    (.after (.mono showDomains_frame rfl) (.after (.mono rederive_frame rfl) (.after (.mono rootChecked_frame rfl)
    (.after (.mono otpShows_frame rfl) ht))))))

theorem coreDies_frame : s.frame Part.all s.coreDies := by
  unfold coreDies
  extract_lets told t t'
  have ht : s.frame Part.all t' := .after (t := t) (.all rfl rfl rfl rfl) (coreDie_frame (keep := keptCold))
  exact .after (.mono showDomains_frame rfl) ht

theorem islandDies_frame : s.frame [.key, .csr] s.islandDies :=
  .after (.after (.mono updKey_frame rfl) (.mono set_csr_frame rfl)) (.mono eraseKeys_frame rfl)

theorem rstLow_frame {ns : Nat} : s.frame Part.all (s.rstLow ns) := by
  unfold rstLow
  split
  rename_i t takes h
  have ht : s.frame Part.all t := by
    refine .fst h ?_
    split
    · exact .refl s
    · split
      · exact .refl s
      · exact .mono tookFree_frame rfl
  exact .ite ht (.ite (.after (.mono wr_frame rfl) (.after (.mono set_rst_frame rfl) ht))
    (.after (.mono holdOrRelease_frame rfl) (.after (.mono set_rst_frame rfl) (.after (.mono warmReset_frame rfl) ht))))

theorem armReset_frame {path : Nat} : s.frame [.rst] (s.armReset path) :=
  .ite (.after (.mono wr_frame rfl) set_rst_frame) (.mono wr_frame rfl)

theorem tempOne_frame {k : Nat} {raw : Int} : s.frame [.csr] (s.tempOne k raw) :=
  .after (.ite (.after set_csr_frame (.after (.mono wr_frame rfl) (.mono wr_frame rfl))) (.refl _)) (.mono wr_frame rfl)

theorem temperatures_frame {raw : List Int} : s.frame [.jnl, .csr] (s.temperatures raw) :=
  .after (.after (.after (.foldl (fun _ _ => alarm_frame)) (.mono set_csr_frame rfl)) (.ite (.refl _) (.mono irq_frame rfl)))
    (.foldl (fun _ _ => .mono tempOne_frame rfl))

theorem execRstNAssert_frame {ns : Nat} : s.frameOut Part.all (execRstNAssert ns s) :=
  .next (.ite (.mono begin_frame rfl) (.after rstLow_frame (.mono begin_frame rfl)))

theorem execRstNRelease_frame : s.frameOut [.jnl, .pwr, .rst, .free] (execRstNRelease s) :=
  .next (.after (.ite (.after (.ite (.refl _) holdOrRelease_frame) (.mono set_rst_frame rfl)) (.refl _)) (.mono begin_frame
    rfl))

theorem execChipRstWarm_frame {path : Nat} : s.frameOut [.jnl, .waiting, .rst] (execChipRstWarm path s) :=
  .guarded (.after (gateWrite_frame (fun _ => .mono armReset_frame rfl) rfl) (.mono begin_frame rfl))

theorem execWarmReset_frame : s.frameOut Part.all (execWarmReset s) :=
  .next (.after (.ite (.after (.mono holdOrRelease_frame rfl) warmReset_frame) (.refl _)) (.mono begin_frame rfl))

theorem execColdReset_frame {voutMode : Nat} {intact : Bool} : s.frameOut Part.all (execColdReset voutMode intact s) :=
  .guarded (.after coldReset_frame (.mono begin_frame rfl))

theorem execRootPllTimeout_frame : s.frameOut Part.all (execRootPllTimeout s) :=
  .next (.after (.ite (.after (.after (.mono holdOrRelease_frame rfl) (.mono set_rst_frame rfl)) (.ite (.mono wr_frame rfl)
    warmReset_frame)) (.refl _)) (.mono begin_frame rfl))

theorem execPllRelock_frame {k : Nat} : s.frameOut [.jnl, .pwr, .rst, .free] (execPllRelock k s) :=
  .guarded (.after (.ite (.refl _) (.after (.ite (.after holdOrRelease_frame (.mono set_rst_frame rfl)) (.refl _)) (.mono
    wr_frame rfl))) (.mono begin_frame rfl))

theorem execCoreDiePowerLoss_frame : s.frameOut Part.all (execCoreDiePowerLoss s) :=
  .next (.ite (.mono begin_frame rfl) (.after coreDies_frame (.mono begin_frame rfl)))

theorem execIslandPowerLoss_frame : s.frameOut [.key, .csr] (execIslandPowerLoss s) :=
  .next (.ite (.after islandDies_frame (.mono begin_frame rfl)) (.mono begin_frame rfl))

theorem execTemperatureSample_frame {raw : List Int} : s.frameOut [.jnl, .csr] (execTemperatureSample raw s) :=
  .guardedIn (.after temperatures_frame (.mono begin_frame rfl))

end Sys2Proof.Machine.State
end

section
/-! SUPPORT. The frames of the Ethernet MACs. -/

namespace Sys2Proof.Machine.State

variable {s : State}

theorem updNet_frame {f : NetState → NetState} : s.frame [.net] (s.updNet f) := set_net_frame

theorem updMac_frame {m : Nat} {f : EthMac → EthMac} : s.frame [.net] (s.updMac m f) := updNet_frame

theorem setMacState_frame {m v : Nat} : s.frame [] (s.setMacState m v) := wr_frame

theorem macDrained_frame {m : Nat} : s.frame [] (s.macDrained m) := .ite (.after irq_frame setMacState_frame) (.refl _)

theorem pumpNet_frame {fuel : Nat} : s.frame [.tun, .planes, .sch, .net] (s.pumpNet fuel) := by
  induction fuel generalizing s with
  | zero => exact .refl s
  | succ fuel ih =>
    unfold pumpNet
    split
    · exact .refl s
    · split
      · exact .refl s
      · split
        · exact .after ih (.after (.mono macDrained_frame rfl)
            (.after (.ite (.after (.mono tally_frame rfl) (.mono bump_frame rfl)) (.refl _)) (.mono updNet_frame rfl)))
        · exact .after ih (.after (.mono originUnitAt_frame rfl) (.mono updNet_frame rfl))

theorem netSettled_frame : s.frame [.tun, .planes, .sch, .net] s.netSettled := pumpNet_frame

theorem rxClassified_frame {m : Nat} {f : List Byte} {tid : Nat} {strip : Bool} :
    s.frame [.tun, .planes, .sch, .net] (s.rxClassified m f tid strip) :=
  .after netSettled_frame (.mono updNet_frame rfl)

theorem rxFrame_frame {m : Nat} {f : List Byte} {good : Bool} : s.frame [.tun, .planes, .sch, .net] (s.rxFrame m f good) := by
  unfold rxFrame
  dsimp only
  split
  · exact .mono bump_frame rfl
  · split
    · exact .mono bump_frame rfl
    · split
      · exact .mono bump_frame rfl
      · split
        · exact .after (.ite (.mono updMac_frame rfl) (.refl _)) (.mono bump_frame rfl)
        · split
          · exact .after (.mono irq_frame rfl) (.after (.mono tally_frame rfl) (.mono bump_frame rfl))
          · split
            · exact .ite (.mono bump_frame rfl) rxClassified_frame
            · exact .ite (.mono bump_frame rfl) rxClassified_frame

theorem txOne_frame {e : Nat × Nat} {p : List Byte} {m : Nat} : s.frame [.net] (s.txOne e p m) :=
  .ite updMac_frame (.ite (.mono bump_frame rfl) (.mono bump_frame rfl))

theorem ethUnit_frame {u : UnitMsg} : s.frame [.net] (s.ethUnit u) := by
  unfold ethUnit
  dsimp only
  split
  · exact .after (.mono irq_frame rfl) (.mono bump_frame rfl)
  · exact .ite (.after (.mono irq_frame rfl) (.mono bump_frame rfl)) (.ite (.refl _) (.foldl (fun _ _ => txOne_frame)))

theorem pushStamp_frame {x : TxStamp} : s.frame [.net] (s.pushStamp x) :=
  .ite (.after (.mono irq_frame rfl) (.mono bump_frame rfl)) (.after (.mono irq_frame rfl) updNet_frame)

theorem txSend_frame {m : Nat} : s.frame [.net] (s.txSend m) := by
  unfold txSend
  dsimp only
  split
  · exact .refl _
  · exact .after (.after (by
      split
      · exact .after (.mono macDrained_frame rfl) (.mono emit_frame rfl)
      · exact .ite (.after (.mono macDrained_frame rfl) (.mono emit_frame rfl)) (.ite (.after (.mono macDrained_frame rfl)
          (.mono emit_frame rfl)) (.after (.mono macDrained_frame rfl) (.after (.mono emit_frame rfl) pushStamp_frame))))
          (.after (.mono tally_frame rfl) (.mono bump_frame rfl))) updMac_frame

theorem txLost_frame {m : Nat} : s.frame [.net] (s.txLost m) :=
  .after (.mono macDrained_frame rfl) (.after updMac_frame (.mono bumpBy_frame rfl))

theorem macUp_frame {m : Nat} : s.frame [.net] (s.macUp m) :=
  .ite (.refl _) (.after (.after (.after (.after (.mono irq_frame rfl) updMac_frame) (.mono wr_frame rfl)) (.mono wr_frame
    rfl)) (.mono setMacState_frame rfl))

theorem macDown_frame {m : Nat} {cut : Bool} : s.frame [.net] (s.macDown m cut) := by
  unfold macDown
  extract_lets t t' t''
  have ht : s.frame [.net] t := updMac_frame
  have ht' : s.frame [.net] t' := .after (.ite (.mono setMacState_frame rfl) (.refl t)) ht
  have ht'' : s.frame [.net] t'' := by
    refine .ite ?_ ht'
    split
    · exact .after (.mono emit_frame rfl) ht'
    · exact ht'
  exact .ite (.after (.mono irq_frame rfl) (.after txLost_frame ht'')) ht

theorem macDrains_frame {m : Nat} : s.frame [.net, .free] (s.macDrains m) :=
  .ite (.after (.mono macDrained_frame rfl) (.after (.mono tookFree_frame rfl) (.after (.mono updMac_frame rfl) (.mono
    setMacState_frame rfl)))) (.ite (.after (.mono macDrained_frame rfl) (.mono setMacState_frame rfl)) (.refl _))

theorem macStop_frame {m : Nat} : s.frame [.net, .free] (s.macStop m) := .after macDrains_frame (.mono wr_frame rfl)

theorem macCfgWrite_frame {path m data : Nat} : s.frame [.net, .jnl, .waiting, .free] (s.macCfgWrite path m data) :=
  gateWrite_frame (fun _ => .after (.ite (.mono macStop_frame rfl) (.ite (.after (.ite (.refl _) (.mono setMacState_frame
    rfl)) (.mono wr_frame rfl)) (.refl _))) (.mono store_frame rfl)) rfl

theorem netLeaves_frame {m : Nat} : s.frame [.sch, .net] (s.netLeaves m) := by
  unfold netLeaves
  split
  · exact .ite (.after (.mono updNet_frame rfl) (.mono setIngress_frame rfl)) (.refl _)
  · exact .refl _

theorem macDrainEnd_frame {m : Nat} : s.frame [.tun, .planes, .sch, .net] (s.macDrainEnd m) :=
  .ite (.refl _) (.after (.after (.after (.after (.mono macDrained_frame rfl) (.after netSettled_frame (.mono updMac_frame
    rfl))) (.mono updNet_frame rfl)) (.mono bumpBy_frame rfl)) (.mono netLeaves_frame rfl))

theorem macsStop_frame : s.frame [.net, .free] s.macsStop := .foldl (fun _ _ => macDrains_frame)

theorem macsResume_frame : s.frame [] s.macsResume := .foldl (fun _ _ => .ite setMacState_frame (.refl _))

theorem wakeMatch_frame {m : Nat} {f : List Byte} {good : Bool} : s.frame [] (s.wakeMatch m f good).1 := by
  unfold wakeMatch
  split
  · split
    · exact .refl _
    · exact .after irq_frame (.after wr_frame (.after wr_frame bump_frame))
  · exact .refl _

theorem clsDone_frame {r : Nat} : s.frame [] (s.clsDone r) := .after nextIndex_frame wr_frame

theorem clsRead_frame : s.frame [] s.clsRead := .after clsDone_frame (.after wr_frame (.after wr_frame wr_frame))

theorem clsWrite_frame : s.frame [.net] s.clsWrite :=
  .ite (.mono clsDone_frame rfl) (.ite (.mono clsDone_frame rfl) (.after (.mono clsDone_frame rfl) updNet_frame))

theorem egbDone_frame {r : Nat} : s.frame [] (s.egbDone r) := .after nextIndex_frame wr_frame

theorem egbRead_frame : s.frame [] s.egbRead := .after egbDone_frame (.after wr_frame wr_frame)

theorem egbWrite_frame : s.frame [.net] s.egbWrite :=
  .ite (.mono egbDone_frame rfl) (.ite (.mono egbDone_frame rfl) (.after (.mono egbDone_frame rfl) updNet_frame))

theorem execEthFrameReceived_frame {m : Nat} {frame : List Byte} {good begun : Bool} :
    s.frameOut [.tun, .planes, .sch, .net] (execEthFrameReceived m frame good begun s) :=
  .guardedIn (.after (.ite (.refl _) (.ite rxFrame_frame (.ite (.after (.mono macDrained_frame rfl) (.after rxFrame_frame
    (.mono updMac_frame rfl))) (.refl _)))) (.mono begin_frame rfl))

theorem execEthEgressUnit_frame {u : UnitMsg} : s.frameOut [.net] (execEthEgressUnit u s) :=
  .nextIn (.after ethUnit_frame (.mono begin_frame rfl))

theorem execEthFrameTransmit_frame {m : Nat} : s.frameOut [.net] (execEthFrameTransmit m s) :=
  .guardedIn (.ite (.after txSend_frame (.mono begin_frame rfl)) (.mono begin_frame rfl))

theorem execTxtsRead_frame {path : Nat} : s.frameOut [.net, .jnl, .waiting] (execTxtsRead path s) :=
  .guarded (.after (gateRead_frame (fun _ => .after (.mono answer_frame rfl) (.mono updNet_frame rfl)) rfl) (.mono
    begin_frame rfl))

theorem execEthLinkDown_frame {m : Nat} {cut : Bool} : s.frameOut [.net] (execEthLinkDown m cut s) :=
  .guardedIn (.after macDown_frame (.mono begin_frame rfl))

theorem execEthLinkUp_frame {m : Nat} : s.frameOut [.net] (execEthLinkUp m s) :=
  .guardedIn (.after macUp_frame (.mono begin_frame rfl))

theorem execMacDisable_frame {path m data : Nat} : s.frameOut [.net, .jnl, .waiting, .free] (execMacDisable path m data s) :=
  .guarded (.after macCfgWrite_frame (.mono begin_frame rfl))

theorem execMacEnable_frame {path m data : Nat} : s.frameOut [.net, .jnl, .waiting, .free] (execMacEnable path m data s) :=
  .guarded (.after macCfgWrite_frame (.mono begin_frame rfl))

theorem execMacDrainTimeout_frame {m : Nat} : s.frameOut [.tun, .planes, .sch, .net] (execMacDrainTimeout m s) :=
  .guardedIn (.after macDrainEnd_frame (.mono begin_frame rfl))

theorem execEthClsRead_frame {path : Nat} : s.frameOut [.jnl, .waiting] (execEthClsRead path s) :=
  .guarded (.after (gateWrite_frame (fun _ => .mono clsRead_frame rfl) rfl) (.mono begin_frame rfl))

theorem execEthClsWrite_frame {path : Nat} : s.frameOut [.net, .jnl, .waiting] (execEthClsWrite path s) :=
  .guarded (.after (gateWrite_frame (fun _ => .mono clsWrite_frame rfl) rfl) (.mono begin_frame rfl))

theorem execEthEgbRead_frame {path : Nat} : s.frameOut [.jnl, .waiting] (execEthEgbRead path s) :=
  .guarded (.after (gateWrite_frame (fun _ => .mono egbRead_frame rfl) rfl) (.mono begin_frame rfl))

theorem execEthEgbWrite_frame {path : Nat} : s.frameOut [.net, .jnl, .waiting] (execEthEgbWrite path s) :=
  .guarded (.after (gateWrite_frame (fun _ => .mono egbWrite_frame rfl) rfl) (.mono begin_frame rfl))

end Sys2Proof.Machine.State
end

section
/-! SUPPORT. The frames of storage. -/

namespace Sys2Proof.Machine.State

variable {s : State}

theorem updSto_frame {f : StoState → StoState} : s.frame [.sto] (s.updSto f) := set_sto_frame

theorem setStoTun_frame {b : Nat} {t : StoTun} : s.frame [.sto] (s.setStoTun b t) := updSto_frame

theorem updStoTun_frame {b : Nat} {f : StoTun → StoTun} : s.frame [.sto] (s.updStoTun b f) := setStoTun_frame

theorem setStoPort_frame {p : Nat} {x : StoPort} : s.frame [.sto] (s.setStoPort p x) := updSto_frame

theorem setBtState_frame {b v : Nat} : s.frame [] (s.setBtState b v) := wr_frame

theorem setRpState_frame {p v : Nat} : s.frame [] (s.setRpState p v) := wr_frame

theorem nvme_frame {p : Nat} {m : NvmeOut} : s.frame [] (s.nvme p m) := emit_frame

theorem submitCmd_frame {b : Nat} {c : StoCmd} : s.frame [] (s.submitCmd b c) := .after nvme_frame tally_frame

theorem issueAdmin_frame {b k : Nat} : s.frame [.sto] (s.issueAdmin b k) := by
  unfold issueAdmin
  extract_lets p t
  have ht : s.frame [.sto] t := updStoTun_frame
  split
  · exact .after (.mono nvme_frame rfl) ht
  · exact .after (.mono nvme_frame rfl) ht
  · exact .after (.mono nvme_frame rfl) ht
  · exact .after (.mono nvme_frame rfl) ht
  · exact ht

theorem stoDram_frame {dram : Nat} : s.frame [] (s.stoDram dram) :=
  .ite (.refl _) (.ite (.after tally_frame bump_frame) (.after irq_frame bump_frame))

theorem reply_frame {b : Nat} {slot : Option Nat} {op tag status : Nat} {data : Option (List Byte)} :
    s.frame [.sto] (s.reply b slot op tag status data) :=
  .after updStoTun_frame (.ite (.mono bumpWrap_frame rfl) (.mono bump_frame rfl))

theorem finishCmd_frame {b : Nat} {c : StoCmd} {status : Nat} {data : Option (List Byte)} :
    s.frame [.sto] (s.finishCmd b c status data) :=
  .after reply_frame updStoTun_frame

theorem freeSlot_frame {b k : Nat} : s.frame [.sto] (s.freeSlot b k) := updStoTun_frame

theorem refuseCmd_frame {b : Nat} {p : List Byte} {status : Nat} : s.frame [.sto] (s.refuseCmd b p status) :=
  .after (.ite updStoTun_frame (.refl _)) reply_frame

theorem takeCommand_frame {b : Nat} {payload : List Byte} : s.frame [.sto, .free] (s.takeCommand b payload) :=
  .after (.ite (.after (.mono bump_frame rfl) (.mono refuseCmd_frame rfl)) (.ite (.mono refuseCmd_frame rfl) (.ite (.mono
    refuseCmd_frame rfl) (.ite (.mono refuseCmd_frame rfl) (.ite (.mono refuseCmd_frame rfl) (.ite (.mono refuseCmd_frame
    rfl) (.ite (.mono refuseCmd_frame rfl) (.after (.ite (.refl _) (.mono submitCmd_frame rfl)) (.mono updStoTun_frame
    rfl))))))))) (.ite (.refl _) (.mono tookFree_frame rfl))

theorem dataMissing_frame {b k : Nat} {next : StoNext} : s.frame [.sto] (s.dataMissing b k next) := by
  unfold dataMissing
  dsimp only
  exact .after (by
    split
    · exact finishCmd_frame
    · exact .refl _) updStoTun_frame

theorem takeData_frame {b k : Nat} {payload : List Byte} {dram : Nat} :
    s.frame [.dram, .sto, .pwr, .free] (s.takeData b k payload dram) := by
  unfold takeData
  dsimp only
  split
  · exact .mono updStoTun_frame rfl
  · exact .ite (.after (.ite (.mono finishCmd_frame rfl) (.after (.mono dramMoves_frame rfl) (.after (.mono submitCmd_frame
      rfl) (.mono updStoTun_frame rfl)))) (.after (.mono stoDram_frame rfl) (.after (.mono dramWrite_frame rfl) (.mono
      updStoTun_frame rfl)))) (.after (.ite (.mono takeCommand_frame rfl) (.refl _)) (.mono dataMissing_frame rfl))

theorem releaseCopied_frame {tid n : Nat} : s.frame [.tun, .links, .planes, .sch, .sto] (s.releaseCopied tid n) :=
  .after (.foldl (fun _ _ => .mono dropMember_frame rfl)) (.mono updSto_frame rfl)

theorem copied17_frame {u : UnitMsg} : s.frame [.tun, .links, .planes, .sch, .sto] (s.copied17 u) :=
  .ite releaseCopied_frame (.refl _)

theorem actStorage_frame {b : Nat} {u : UnitMsg} {dram : Nat} :
    s.frame [.tun, .links, .planes, .sch, .dram, .sto, .pwr, .free] (s.actStorage b u dram) := by
  unfold actStorage
  dsimp only
  split
  · exact .mono updStoTun_frame rfl
  · refine .after (.mono copied17_frame rfl) ?_
    split
    · exact .mono takeData_frame rfl
    · exact .after (.ite (.mono takeCommand_frame rfl) (.ite (.mono bump_frame rfl) (.refl _))) (.mono updStoTun_frame rfl)
    · exact .ite (.mono updStoTun_frame rfl) (.ite (.mono takeCommand_frame rfl) (.refl _))

theorem rpShut_frame {p : Nat} : s.frame [.sto] (s.rpShut p) :=
  .ite (.after (.after setStoPort_frame (.after (.mono wr_frame rfl) (.after (.mono wr_frame rfl) (.after (.mono wr_frame
    rfl) (.mono setRpState_frame rfl))))) (.ite (.mono nvme_frame rfl) (.refl _))) (.refl _)

theorem btEnd_frame {b : Nat} : s.frame [.tun, .links, .planes, .sch, .sto] (s.btEnd b) :=
  .after (.after (.after (.mono rpShut_frame rfl) (.after (.mono irq_frame rfl) (.mono setBtState_frame rfl))) (.after (.mono
    setStoTun_frame rfl) (.after (.mono bumpBy_frame rfl) (.mono dropTunnel_frame rfl)))) releaseCopied_frame

theorem replyEntered_frame {b : Nat} : s.frame [.sto] (s.replyEntered b) := by
  unfold replyEntered
  dsimp only
  exact .after (by
    split
    · exact .refl _
    · split
      · exact updStoTun_frame
      · exact .after (by
          split
          · exact freeSlot_frame
          · exact .refl _) (.after (.mono tally_frame rfl) updStoTun_frame)) updSto_frame

theorem sendReply_frame {b : Nat} : s.frame [.tun, .planes, .sch, .sto] (s.sendReply b) := by
  unfold sendReply
  dsimp only
  split
  · exact .refl _
  · exact .after (.mono originUnit_frame rfl) (.after (.mono updStoTun_frame rfl) (.mono updSto_frame rfl))

theorem stoMove_frame : s.frameOpt [.tun, .links, .planes, .sch, .dram, .sto, .pwr, .free] s.stoMove := by
  unfold stoMove
  split
  · exact .some (.mono replyEntered_frame rfl)
  · split
    · exact .some (.after (.foldl (fun _ _ => .mono actStorage_frame rfl)) (.mono updStoTun_frame rfl))
    · split
      · exact .some (.mono issueAdmin_frame rfl)
      · split
        · exact .some (.mono btEnd_frame rfl)
        · intro t ht
          obtain ⟨b, _, rfl⟩ := Option.map_eq_some_iff.mp ht
          exact .mono sendReply_frame rfl

theorem stoSettle_frame {fuel : Nat} : s.frame [.tun, .links, .planes, .sch, .dram, .sto, .pwr, .free] (s.stoSettle fuel) := by
  induction fuel generalizing s with
  | zero => exact .refl s
  | succ fuel ih =>
    unfold stoSettle
    split
    · exact .refl s
    · rename_i h
      exact .after ih (.opt h stoMove_frame)

theorem settled_frame : s.frame [.tun, .links, .planes, .sch, .dram, .sto, .pwr, .free] s.settled := stoSettle_frame

theorem takeStorage_frame {u : UnitMsg} {port dram : Nat} :
    s.frame [.tun, .links, .planes, .sch, .dram, .sto, .pwr, .free] (s.takeStorage u port dram) := by
  unfold takeStorage
  split
  · exact .after (.mono irq_frame rfl) (.after (.mono bump_frame rfl) (.mono copied17_frame rfl))
  · exact .after settled_frame actStorage_frame

theorem btDrains_frame {b : Nat} : s.frame [.tun, .links, .planes, .sch, .sto] (s.btDrains b) :=
  .ite (.mono setBtState_frame rfl) (.ite btEnd_frame (.refl _))

theorem btDrain_frame {b : Nat} : s.frame [.tun, .links, .planes, .sch, .sto] (s.btDrain b) :=
  .after btDrains_frame (.mono wr_frame rfl)

theorem btDrainTimeout_frame {b : Nat} :
    s.frame [.tun, .links, .planes, .sch, .dram, .sto, .pwr, .free] (s.btDrainTimeout b) :=
  .ite (.refl _) (.after (.after settled_frame (.after (.mono issueAdmin_frame rfl) (.mono updStoTun_frame rfl))) (.foldl
    (fun _ _ => .after (.mono bump_frame rfl) (.mono finishCmd_frame rfl))))

theorem sqDeleted_frame {b : Nat} : s.frame [.sto, .jnl] (s.sqDeleted b) :=
  .after (.after (.ite (.refl _) (.mono event_frame rfl)) (.after (.mono issueAdmin_frame rfl) (.mono updStoTun_frame rfl)))
    (.foldl (fun _ _ => .after (.mono bump_frame rfl) (.mono finishCmd_frame rfl)))

theorem bindFail_frame {b result : Nat} : s.frame [] (s.bindFail b result) := .after irq_frame (.after wr_frame wr_frame)

theorem adminDone_frame {b : Nat} {ok : Bool} :
    s.frame [.tun, .links, .planes, .sch, .dram, .sto, .jnl, .pwr, .free] (s.adminDone b ok) := by
  unfold adminDone
  dsimp only
  refine .after (.mono settled_frame rfl) ?_
  split
  · exact .ite (.mono setStoTun_frame rfl) (.ite (.mono issueAdmin_frame rfl) (.after (.mono bindFail_frame rfl) (.after
      (.mono setBtState_frame rfl) (.mono setStoTun_frame rfl))))
  · exact .ite (.mono setStoTun_frame rfl) (.ite (.after (.mono setBtState_frame rfl) (.mono setStoTun_frame rfl)) (.after
      (.mono bindFail_frame rfl) (.after (.mono setBtState_frame rfl) (.mono setStoTun_frame rfl))))
  · exact .mono sqDeleted_frame rfl
  · exact .mono setStoTun_frame rfl
  · exact .refl _

theorem rpBegin_frame {p k : Nat} : s.frame [.sto] (s.rpBegin p k) := by
  unfold rpBegin
  dsimp only
  split
  · exact setStoPort_frame
  · exact .after (.mono nvme_frame rfl) setStoPort_frame
  · exact .after (.mono nvme_frame rfl) setStoPort_frame
  · exact .after (.mono nvme_frame rfl) setStoPort_frame
  · exact .after (.mono nvme_frame rfl) setStoPort_frame
  · exact .after (.mono nvme_frame rfl) setStoPort_frame
  · exact .after (.mono nvme_frame rfl) setStoPort_frame
  · exact setStoPort_frame

theorem rpStart_frame {p : Nat} : s.frame [.sto] (s.rpStart p) :=
  .ite (.after rpBegin_frame (.after (.mono wr_frame rfl) (.mono setRpState_frame rfl))) (.refl _)

theorem btBind_frame {b : Nat} : s.frame [.sto] (s.btBind b) :=
  .ite (.refl _) (.ite (.after rpStart_frame (.mono wr_frame rfl)) (.ite (.mono bindFail_frame rfl) (.after (.mono
    setBtState_frame rfl) (.after (.mono wr_frame rfl) (.after (.mono wr_frame rfl) (.after issueAdmin_frame
    setStoTun_frame))))))

theorem btCfgWrite_frame {path data : Nat} :
    s.frame [.tun, .links, .planes, .sch, .dram, .sto, .jnl, .pwr, .waiting, .free] (s.btCfgWrite path data) :=
  gateWrite_frame (fun _ => .after (.ite (.mono btBind_frame rfl) (.after (.mono rpShut_frame rfl) (.after (.mono
    settled_frame rfl) (.mono btDrain_frame rfl)))) (.ite (.mono store_frame rfl) (.refl _))) rfl

theorem loseTunnel_frame {b : Nat} : s.frame [.sto] (s.loseTunnel b) :=
  .after updStoTun_frame (.foldl (fun _ _ => finishCmd_frame))

theorem rpReset_frame {p cause : Nat} {linkLost : Bool} :
    s.frame [.tun, .links, .planes, .sch, .dram, .sto, .jnl, .pwr, .free] (s.rpReset p cause linkLost) :=
  .ite (.refl _) (.after (.after (.after (.mono settled_frame rfl) (.foldl (fun _ _ => .mono loseTunnel_frame rfl))) (.after
    (.mono rpBegin_frame rfl) (.mono event_frame rfl))) (.after (.mono bump_frame rfl) (.after (.mono wr_frame rfl) (.mono
    setRpState_frame rfl))))

theorem rpFail_frame {p cause : Nat} : s.frame [.sto] (s.rpFail p cause) :=
  .after rpShut_frame (.after (.mono irq_frame rfl) (.after setStoPort_frame (.after (.mono wr_frame rfl) (.mono
    setRpState_frame rfl))))

theorem fillEntry_frame {p k : Nat} {l : Option NsInfo} : s.frame [] (s.fillEntry p k l) := by
  unfold fillEntry
  split
  · exact .after wr_frame (.after wr_frame (.after wr_frame (.after wr_frame (.after wr_frame wr_frame))))
  · exact .after wr_frame (.after wr_frame (.after wr_frame (.after wr_frame (.after wr_frame wr_frame))))

theorem fillSpaces_frame {p : Nat} {l : List NsInfo} : s.frame [] (s.fillSpaces p l) := .foldl (fun _ _ => fillEntry_frame)

theorem rpUp_frame {p : Nat} : s.frame [.sto] (s.rpUp p) :=
  .after (.after (.foldl (fun _ _ => .ite btBind_frame (.refl _))) (.foldl (fun _ _ => .ite (.refl _) (.ite (.after (.mono
    setBtState_frame rfl) (.after issueAdmin_frame (.after issueAdmin_frame issueAdmin_frame))) (.after (.mono wr_frame rfl)
    (.mono setBtState_frame rfl)))))) (.after (.mono irq_frame rfl) (.after setStoPort_frame (.mono setRpState_frame rfl)))

theorem rpStep_frame {p : Nat} {f : RpFinding} : s.frame [.sto] (s.rpStep p f) := by
  unfold rpStep
  dsimp only
  split
  · exact rpBegin_frame
  · exact .ite (.after (.ite (.after rpBegin_frame (.mono wr_frame rfl)) (.after (.mono setRpState_frame rfl) (.after
      rpBegin_frame (.mono wr_frame rfl)))) (.mono wr_frame rfl)) rpFail_frame
  · exact .ite rpBegin_frame rpFail_frame
  · exact .ite rpBegin_frame rpFail_frame
  · exact .ite rpBegin_frame rpFail_frame
  · exact .ite rpBegin_frame rpFail_frame
  · exact .ite rpBegin_frame rpFail_frame
  · exact .ite (.after rpBegin_frame (.mono wr_frame rfl)) rpFail_frame
  · exact .ite (.after rpUp_frame (.mono fillSpaces_frame rfl)) rpFail_frame
  · exact .refl _

theorem rpStop_frame {p : Nat} : s.frame [.tun, .links, .planes, .sch, .dram, .sto, .pwr, .free] (s.rpStop p) :=
  .after (.after (.mono rpShut_frame rfl) (.after settled_frame (.foldl (fun _ _ => .mono btDrain_frame rfl)))) (.ite (.refl
    _) (.mono setStoPort_frame rfl))

theorem rpCfgWrite_frame {path p data : Nat} :
    s.frame [.tun, .links, .planes, .sch, .dram, .sto, .jnl, .pwr, .waiting, .free] (s.rpCfgWrite path p data) :=
  gateWrite_frame (fun _ => .after (.ite (.ite (.refl _) (.after (.mono rpStart_frame rfl) (.mono wr_frame rfl))) (.after
    (.mono rpStop_frame rfl) (.mono wr_frame rfl))) (.mono store_frame rfl)) rfl

theorem stoShutdown_frame : s.frame [.tun, .links, .planes, .sch, .dram, .sto, .pwr, .free] s.stoShutdown :=
  .foldl (fun _ _ => .after (.after (.mono rpShut_frame rfl) (.after settled_frame (.foldl (fun _ _ => .mono btDrains_frame
    rfl)))) (.ite (.refl _) (.mono setStoPort_frame rfl)))

theorem stoResumes_frame : s.frame [.sto] s.stoResumes := .foldl (fun _ _ => .ite rpStart_frame (.refl _))

theorem stoTrims_frame : s.frame [.sto] s.stoTrims := .foldl (fun _ _ => rpShut_frame)

theorem execStoCommandUnit_frame {u : UnitMsg} {port dram : Nat} :
    s.frameOut [.tun, .links, .planes, .sch, .dram, .sto, .pwr, .free] (execStoCommandUnit u port dram s) :=
  .guardedIn (.after takeStorage_frame (.mono begin_frame rfl))

theorem execStoDataUnit_frame {u : UnitMsg} {port dram : Nat} :
    s.frameOut [.tun, .links, .planes, .sch, .dram, .sto, .pwr, .free] (execStoDataUnit u port dram s) :=
  .guardedIn (.after takeStorage_frame (.mono begin_frame rfl))

theorem execStoDataTimeout_frame {b : Nat} :
    s.frameOut [.tun, .links, .planes, .sch, .dram, .sto, .pwr, .free] (execStoDataTimeout b s) := by
  unfold execStoDataTimeout
  exact .guardedIn (by
    split
    · exact .ite (.mono begin_frame rfl) (.after settled_frame (.after (.mono dataMissing_frame rfl) (.mono begin_frame rfl)))
    · exact .mono begin_frame rfl)

theorem execNvmeCompletion_frame {b slot sc dnr dram : Nat} {data : List Byte} :
    s.frameOut [.tun, .links, .planes, .sch, .dram, .sto, .pwr, .free] (execNvmeCompletion b slot sc dnr dram data s) := by
  refine .guardedIn ?_
  extract_lets t
  have ht : s.frame [.tun, .links, .planes, .sch, .dram, .sto, .pwr, .free] t := .mono begin_frame rfl
  split
  · exact ht
  · extract_lets n t' t'' t3
    have ht' : s.frame [.tun, .links, .planes, .sch, .dram, .sto, .pwr, .free] t' :=
      .ite (.after (.mono dramWrite_frame rfl) ht) ht
    have ht3 : s.frame [.tun, .links, .planes, .sch, .dram, .sto, .pwr, .free] t3 :=
      .after (.ite (.mono dramMoves_frame rfl) (.refl t'')) (.after (.mono stoDram_frame rfl) ht')
    split
    · exact .after settled_frame (.after (.mono bump_frame rfl) (.after (.mono freeSlot_frame rfl) ht'))
    · exact .ite (.after settled_frame (.after (.mono finishCmd_frame rfl) ht3))
        (.after settled_frame (.after (.mono finishCmd_frame rfl) ht3))
    · exact ht'

theorem execStoFence_frame {u : UnitMsg} {port : Nat} :
    s.frameOut [.tun, .links, .planes, .sch, .dram, .sto, .pwr, .free] (execStoFence u port s) :=
  .guardedIn (.after takeStorage_frame (.mono begin_frame rfl))

theorem execStoCmdTimeout_frame {b slot : Nat} :
    s.frameOut [.tun, .links, .planes, .sch, .dram, .sto, .jnl, .pwr, .free] (execStoCmdTimeout b slot s) := by
  unfold execStoCmdTimeout
  dsimp only
  exact .guardedIn (.after (by
    split
    · exact .refl _
    · split
      · exact .refl _
      · exact .refl _
      · exact .after (.after (.mono settled_frame rfl) (.after (.mono event_frame rfl) (.after (.mono tally_frame rfl)
          (.after (.mono bump_frame rfl) (.after (.mono reply_frame rfl) (.mono nvme_frame rfl)))))) (.mono updStoTun_frame
          rfl)) (.mono begin_frame rfl))

theorem execStoAbortTimeout_frame {b slot : Nat} :
    s.frameOut [.tun, .links, .planes, .sch, .dram, .sto, .jnl, .pwr, .free] (execStoAbortTimeout b slot s) := by
  unfold execStoAbortTimeout
  exact .guardedIn (by
    split
    · exact .ite (.after rpReset_frame (.mono begin_frame rfl)) (.mono begin_frame rfl)
    · exact .mono begin_frame rfl)

theorem execRootPortEnable_frame {path p data : Nat} :
    s.frameOut [.tun, .links, .planes, .sch, .dram, .sto, .jnl, .pwr, .waiting, .free] (execRootPortEnable path p data s) :=
  .guarded (.after rpCfgWrite_frame (.mono begin_frame rfl))

theorem execRpBringupStepDone_frame {p : Nat} {found : RpFinding} : s.frameOut [.sto] (execRpBringupStepDone p found s) :=
  .guardedIn (.after rpStep_frame (.mono begin_frame rfl))

theorem execControllerReadyTimeout_frame {p : Nat} : s.frameOut [.sto] (execControllerReadyTimeout p s) :=
  .guardedIn (.ite (.after rpFail_frame (.mono begin_frame rfl)) (.mono begin_frame rfl))

theorem execRootPortDisable_frame {path p data : Nat} :
    s.frameOut [.tun, .links, .planes, .sch, .dram, .sto, .jnl, .pwr, .waiting, .free] (execRootPortDisable path p data s) :=
  .guarded (.after rpCfgWrite_frame (.mono begin_frame rfl))

theorem execControllerResetCmd_frame {path p : Nat} :
    s.frameOut [.tun, .links, .planes, .sch, .dram, .sto, .jnl, .pwr, .waiting, .free] (execControllerResetCmd path p s) :=
  .guarded (.after (gateWrite_frame (fun _ => .after (.mono rpReset_frame rfl) (.mono wr_frame rfl)) rfl) (.mono begin_frame
    rfl))

theorem execRpRescan_frame {path p : Nat} {spaces : List NsInfo} :
    s.frameOut [.jnl, .waiting] (execRpRescan path p spaces s) :=
  .guarded (.after (gateWrite_frame (fun _ => .ite (.mono wr_frame rfl) (.after (.mono fillSpaces_frame rfl) (.mono wr_frame
    rfl))) rfl) (.mono begin_frame rfl))

theorem execControllerFatal_frame {p : Nat} {aer : Bool} :
    s.frameOut [.tun, .links, .planes, .sch, .dram, .sto, .jnl, .pwr, .free] (execControllerFatal p aer s) :=
  .guardedIn (.ite (.after rpReset_frame (.after (.mono irq_frame rfl) (.after (.mono bump_frame rfl) (.mono begin_frame
    rfl)))) (.after rpReset_frame (.mono begin_frame rfl)))

theorem execRpLinkDown_frame {p : Nat} :
    s.frameOut [.tun, .links, .planes, .sch, .dram, .sto, .jnl, .pwr, .free] (execRpLinkDown p s) :=
  .guardedIn (.after rpReset_frame (.mono begin_frame rfl))

theorem execAerMessage_frame {p : Nat} {uncorr : Bool} : s.frameOut [] (execAerMessage p uncorr s) :=
  .guardedIn (.after irq_frame (.after bump_frame begin_frame))

theorem execBlockTunnelEnable_frame {path data : Nat} :
    s.frameOut [.tun, .links, .planes, .sch, .dram, .sto, .jnl, .pwr, .waiting, .free] (execBlockTunnelEnable path data s) :=
  .guarded (.after btCfgWrite_frame (.mono begin_frame rfl))

theorem execBlockTunnelDisable_frame {path data : Nat} :
    s.frameOut [.tun, .links, .planes, .sch, .dram, .sto, .jnl, .pwr, .waiting, .free] (execBlockTunnelDisable path data s) :=
  .guarded (.after btCfgWrite_frame (.mono begin_frame rfl))

theorem execBlockTunnelDrainTimeout_frame {b : Nat} :
    s.frameOut [.tun, .links, .planes, .sch, .dram, .sto, .pwr, .free] (execBlockTunnelDrainTimeout b s) :=
  .guardedIn (.after btDrainTimeout_frame (.mono begin_frame rfl))

theorem execAdminCommandDone_frame {b : Nat} {ok : Bool} :
    s.frameOut [.tun, .links, .planes, .sch, .dram, .sto, .jnl, .pwr, .free] (execAdminCommandDone b ok s) :=
  .guardedIn (.after adminDone_frame (.mono begin_frame rfl))

theorem execQueueDeleteTimeout_frame {b : Nat} :
    s.frameOut [.tun, .links, .planes, .sch, .dram, .sto, .jnl, .pwr, .free] (execQueueDeleteTimeout b s) :=
  .guardedIn (.ite (.after rpReset_frame (.mono begin_frame rfl)) (.mono begin_frame rfl))

end Sys2Proof.Machine.State
end

section
/-! SUPPORT. The frames of USB. -/

namespace Sys2Proof.Machine.State

variable {s : State}

theorem updUsb_frame {f : UsbState → UsbState} : s.frame [.usb] (s.updUsb f) := set_usb_frame

theorem setEp_frame {e : Nat} {x : UsbEp} : s.frame [.usb] (s.setEp e x) := updUsb_frame

theorem usbAnswer_frame {e code : Nat} {data : List Byte} : s.frame [] (s.usbAnswer e code data) :=
  .after (.ite tally_frame (.refl _)) emit_frame

theorem setEpBuf_frame {e : Nat} {x : UsbEp} : s.frame [.usb] (s.setEpBuf e x) :=
  .after (.after (.mono wr_frame rfl) (.mono wr_frame rfl)) setEp_frame

theorem flipToggle_frame {e : Nat} : s.frame [] (s.flipToggle e) := wr_frame

theorem usbDetach_frame : s.frame [.usb] s.usbDetach :=
  .after (.after (.after (.mono wr_frame rfl) (.after (.mono wr_frame rfl) (.mono wr_frame rfl))) (.after (.mono wr_frame
    rfl) (.after (.mono wr_frame rfl) (.mono wr_frame rfl)))) updUsb_frame

theorem usbAttach_frame : s.frame [.usb] s.usbAttach := .ite (.after (.mono wr_frame rfl) updUsb_frame) (.refl _)

theorem usbDetachIfDone_frame : s.frame [.usb] s.usbDetachIfDone := .ite usbDetach_frame (.refl _)

theorem epDrained_frame {e : Nat} : s.frame [.usb] (s.epDrained e) :=
  .ite (.after usbDetachIfDone_frame (.after (.mono irq_frame rfl) (.mono wr_frame rfl))) (.refl _)

theorem epEmptied_frame {e : Nat} : s.frame [.usb] (s.epEmptied e) := .after epDrained_frame setEpBuf_frame

theorem pumpUsb_frame {fuel : Nat} : s.frame [.tun, .planes, .sch, .usb] (s.pumpUsb fuel) := by
  induction fuel generalizing s with
  | zero => exact .refl s
  | succ fuel ih =>
    unfold pumpUsb
    split
    · exact .refl s
    · exact .ite (.refl s) (.ite (.after ih (.after (.mono epEmptied_frame rfl) (.mono updUsb_frame rfl)))
        (.ite (.refl s) (.after ih (.after (.mono originUnitAt_frame rfl) (.mono updUsb_frame rfl)))))

theorem usbSettled_frame : s.frame [.tun, .planes, .sch, .usb] s.usbSettled := pumpUsb_frame

theorem dropPacket_frame {e : Nat} : s.frame [.sch, .usb] (s.dropPacket e) :=
  .after (.after (.mono epEmptied_frame rfl) (.mono updUsb_frame rfl)) (.ite (.mono setIngress_frame rfl) (.refl _))

theorem flushEp_frame {e : Nat} : s.frame [.sch, .usb] (s.flushEp e) :=
  .ite (.refl _) (.after dropPacket_frame (.mono bump_frame rfl))

theorem usbEcc_frame {ecc : Nat} : s.frame [] (s.usbEcc ecc) :=
  .ite (.after tally_frame bump_frame) (.ite (.after irq_frame (.after tally_frame bump_frame)) (.refl _))

theorem usbPing_frame {e : Nat} : s.frame [] (s.usbPing e) := .ite (.refl _) (.ite usbAnswer_frame usbAnswer_frame)

theorem usbOut_frame {e toggle ecc : Nat} {data : List Byte} :
    s.frame [.tun, .planes, .sch, .usb] (s.usbOut e toggle ecc data) :=
  .ite (.refl _) (.ite (.mono usbAnswer_frame rfl) (.ite (.mono usbAnswer_frame rfl) (.ite (.mono usbAnswer_frame rfl)
    (.after (.after (.ite (.after (.mono usbAnswer_frame rfl) (.after (.mono flushEp_frame rfl) (.mono usbEcc_frame rfl)))
    (.after (.mono usbAnswer_frame rfl) (.after usbSettled_frame (.mono usbEcc_frame rfl)))) (.after (.mono updUsb_frame rfl)
    (.mono setEpBuf_frame rfl))) (.after (.mono tally_frame rfl) (.after (.mono bumpWrap_frame rfl) (.mono flipToggle_frame
    rfl)))))))

theorem usbUnbound_frame : s.frame [] s.usbUnbound := .after irq_frame bump_frame

theorem usbBadUnit_frame : s.frame [] s.usbBadUnit := .after irq_frame bump_frame

theorem usbTake_frame {e : Nat} {data : List Byte} {last : Bool} : s.frame [.usb] (s.usbTake e data last) :=
  .after (.ite (.mono wr_frame rfl) (.refl _)) setEpBuf_frame

theorem usbUnit_frame {u : UnitMsg} : s.frame [.usb] (s.usbUnit u) := by
  unfold usbUnit
  dsimp only
  split
  · exact .mono usbUnbound_frame rfl
  · exact .ite (.mono usbBadUnit_frame rfl) (.ite (.mono bump_frame rfl) (.ite (.refl _) usbTake_frame))

theorem usbMessage_frame {e : Nat} {body : List Byte} : s.frameOpt [.usb] (s.usbMessage e body) := by
  unfold usbMessage
  split
  · exact .some (.mono usbBadUnit_frame rfl)
  · split
    · exact .some (.mono bump_frame rfl)
    · split
      · exact .some (.mono usbUnbound_frame rfl)
      · split
        · exact .none
        · exact .some usbTake_frame

theorem usbToken_frame {e ecc : Nat} : s.frame [.sch, .usb] (s.usbToken e ecc) := by
  unfold usbToken
  dsimp only
  split
  · exact .refl _
  · split
    · exact .mono usbAnswer_frame rfl
    · split
      · exact .after (.mono usbAnswer_frame rfl) flushEp_frame
      · split
        · exact .mono usbAnswer_frame rfl
        · exact .ite (.after (.mono usbAnswer_frame rfl) (.after flushEp_frame (.mono usbEcc_frame rfl))) (.after (.mono
            usbAnswer_frame rfl) (.after (.mono setEp_frame rfl) (.mono usbEcc_frame rfl)))

theorem usbAcked_frame {e : Nat} : s.frame [.usb] (s.usbAcked e) := by
  unfold usbAcked
  dsimp only
  split
  · exact .refl _
  · exact .ite (.refl _) (.after (.ite epEmptied_frame (.after (.ite setEp_frame epEmptied_frame) (.mono bumpWrap_frame
      rfl))) (.after (.mono tally_frame rfl) (.mono flipToggle_frame rfl)))

theorem usbFence_frame {u : UnitMsg} : s.frame [.usb] (s.usbFence u) := by
  unfold usbFence
  dsimp only
  split
  · exact .mono usbUnbound_frame rfl
  · exact .ite (.mono usbBadUnit_frame rfl) (.ite (.mono bump_frame rfl) (.ite (.refl _) setEp_frame))

theorem usbResetUnit_frame {u : UnitMsg} : s.frame [.sch, .usb] (s.usbResetUnit u) := by
  unfold usbResetUnit
  dsimp only
  split
  · exact .mono usbUnbound_frame rfl
  · exact .ite (.mono usbBadUnit_frame rfl) (.ite (.mono bump_frame rfl) (.after (.ite (.mono setEp_frame rfl) flushEp_frame)
      (.after (.mono irq_frame rfl) (.mono bump_frame rfl))))

theorem sendReset_frame {e : Nat} : s.frame [.tun, .planes, .sch] (s.sendReset e) :=
  .ite (.refl _) (.after (.mono bump_frame rfl) originUnit_frame)

theorem clearHalt_frame {e : Nat} : s.frame [.tun, .planes, .sch, .usb] (s.clearHalt e) :=
  .after (.after usbSettled_frame (.after (.mono sendReset_frame rfl) (.mono flushEp_frame rfl))) (.after (.mono wr_frame
    rfl) (.mono wr_frame rfl))

theorem setHalt_frame {e : Nat} : s.frame [.sch, .usb] (s.setHalt e) :=
  .after (.ite flushEp_frame (.refl _)) (.mono wr_frame rfl)

theorem usbSuspend_frame {selective : Bool} : s.frame [.usb] (s.usbSuspend selective) :=
  .ite (.refl _) (.ite (.ite (.refl _) updUsb_frame) (.after (.after (.mono irq_frame rfl) (.after (.mono bump_frame rfl)
    (.mono wr_frame rfl))) updUsb_frame))

theorem portChanged_frame {n bit : Nat} : s.frame [.usb] (s.portChanged n bit) := updUsb_frame

theorem wakeSignal_frame : s.frame [.usb] s.wakeSignal := .after (.mono emit_frame rfl) updUsb_frame

theorem hostResume_frame : s.frame [.usb] s.hostResume :=
  .ite (.refl _) (.after (.after (.after (.after (.ite (.after (.ite (.refl _) (.mono bump_frame rfl)) (.after (.mono
    irq_frame rfl) (.mono bump_frame rfl))) (.refl _)) (.after (.mono irq_frame rfl) updUsb_frame)) (.after (.mono wr_frame
    rfl) (.mono wr_frame rfl))) (.ite portChanged_frame (.refl _))) (.ite (.mono emit_frame rfl) (.refl _)))

theorem hubReset_frame {hs : Bool} : s.frame [.usb] (s.hubReset hs) :=
  .after (.foldl (fun _ _ => .ite (.mono wr_frame rfl) (.refl _))) (.after updUsb_frame (.mono wr_frame rfl))

theorem usbReset_frame {port5 hs control : Bool} :
    s.frame [.tun, .planes, .sch, .usb, .jnl, .waiting] (s.usbReset port5 hs control) :=
  .ite (.refl _) (.after (.after (.after (.after (.after (.after (.after (.after (.after (.mono event_frame rfl) (.after
    (.mono usbSettled_frame rfl) (.after (.foldl (fun _ _ => .mono sendReset_frame rfl)) (.foldl (fun _ _ => .mono
    flushEp_frame rfl))))) (.ite (.mono portChanged_frame rfl) (.mono hubReset_frame rfl))) (.ite (.after (.mono irq_frame
    rfl) (.mono bump_frame rfl)) (.refl _))) (.mono bump_frame rfl)) (.after (.mono wr_frame rfl) (.mono wr_frame rfl)))
    (.after (.mono wr_frame rfl) (.after (.mono wr_frame rfl) (.mono wr_frame rfl)))) (.foldl (fun _ _ => .after (.mono
    wr_frame rfl) (.mono wr_frame rfl)))) (.mono updUsb_frame rfl)) (.mono set_waiting_frame rfl))

theorem epDrains_frame {e : Nat} : s.frame [.usb] (s.epDrains e) :=
  .ite (.after epDrained_frame (.mono wr_frame rfl)) (.refl _)

theorem epStop_frame {e : Nat} : s.frame [.usb] (s.epStop e) := .after epDrains_frame (.mono wr_frame rfl)

theorem epCfgWrite_frame {path data : Nat} : s.frame [.usb, .jnl, .waiting] (s.epCfgWrite path data) :=
  gateWrite_frame (fun _ => .after (.ite (.mono epStop_frame rfl) (.ite (.refl _) (.after (.ite (.refl _) (.after (.ite
    (.refl _) (.mono wr_frame rfl)) (.mono wr_frame rfl))) (.mono wr_frame rfl)))) (.mono store_frame rfl)) rfl

theorem epDrainEnd_frame {e : Nat} : s.frame [.sch, .usb] (s.epDrainEnd e) :=
  .ite (.refl _) (.after dropPacket_frame (.mono bump_frame rfl))

theorem usbDrainAll_frame : s.frame [.usb] s.usbDrainAll := .foldl (fun _ _ => epStop_frame)

theorem usbQuiets_frame : s.frame [.usb] s.usbQuiets := .foldl (fun _ _ => epDrains_frame)

theorem epResume_frame {e : Nat} : s.frame [] (s.epResume e) := .ite (.after (.ite wr_frame wr_frame) wr_frame) (.refl _)

theorem usbResumes_frame : s.frame [.usb] s.usbResumes :=
  .after (.foldl (fun _ _ => .mono epResume_frame rfl)) usbAttach_frame

theorem usbCfgWrite_frame {path data : Nat} : s.frame [.usb, .jnl, .waiting] (s.usbCfgWrite path data) :=
  gateWrite_frame (fun _ => .after (.ite (.after (.mono usbDetachIfDone_frame rfl) (.after (.mono usbDrainAll_frame rfl)
    (.mono wr_frame rfl))) (.ite (.refl _) (.after (.mono usbAttach_frame rfl) (.mono wr_frame rfl)))) (.mono store_frame
    rfl)) rfl

theorem ep0Ok_frame : s.frame [] s.ep0Ok := emit_frame

theorem ep0Stall_frame : s.frame [] s.ep0Stall := emit_frame

theorem ep0Send_frame {len : Nat} {bs : List Byte} : s.frame [.usb] (s.ep0Send len bs) :=
  .after (.mono emit_frame rfl) updUsb_frame

theorem endpointsAnew_frame : s.frame [] s.endpointsAnew := .foldl (fun _ _ => .after wr_frame wr_frame)

theorem setConfiguration_frame {v : Nat} : s.frame [] (s.setConfiguration v) := .after wr_frame endpointsAnew_frame

theorem functionRequest_frame {rtype req value index len : Nat} :
    s.frame [.tun, .planes, .sch, .usb, .free] (s.functionRequest rtype req value index len) := by
  unfold functionRequest
  dsimp only
  split
  · exact .mono ep0Send_frame rfl
  · exact .ite (.mono ep0Send_frame rfl) (.mono ep0Stall_frame rfl)
  · exact .ite (.mono ep0Send_frame rfl) (.ite (.mono ep0Send_frame rfl) (.mono ep0Stall_frame rfl))
  · exact .ite (.after (.mono ep0Ok_frame rfl) (.mono wr_frame rfl)) (.mono ep0Stall_frame rfl)
  · exact .ite (.after (.mono ep0Ok_frame rfl) (.mono wr_frame rfl)) (.ite (.mono ep0Ok_frame rfl) (.mono ep0Stall_frame rfl))
  · exact .ite (.after (.mono ep0Ok_frame rfl) (.mono clearHalt_frame rfl)) (.ite (.mono ep0Ok_frame rfl) (.mono
      ep0Stall_frame rfl))
  · exact .ite (.after (.mono ep0Ok_frame rfl) (.mono setHalt_frame rfl)) (.mono ep0Stall_frame rfl)
  · exact .after (.mono ep0Ok_frame rfl) (.after (.mono wr_frame rfl) (.mono wr_frame rfl))
  · split
    · exact .after (.mono ep0Send_frame rfl) (.mono set_free_frame rfl)
    · exact .mono ep0Stall_frame rfl
  · exact .mono ep0Send_frame rfl
  · exact .ite (.after (.mono ep0Ok_frame rfl) (.mono setConfiguration_frame rfl)) (.mono ep0Stall_frame rfl)
  · exact .ite (.mono ep0Send_frame rfl) (.mono ep0Stall_frame rfl)
  · exact .ite (.after (.mono ep0Ok_frame rfl) (.mono endpointsAnew_frame rfl)) (.mono ep0Stall_frame rfl)
  · exact .mono ep0Stall_frame rfl

theorem hubEvent_frame : s.frame [.usb] s.hubEvent := .ite updUsb_frame (.refl _)

theorem portCleared_frame {n bit : Nat} : s.frame [.usb] (s.portCleared n bit) := updUsb_frame

theorem resetGone_frame {n : Nat} : s.frame [.usb] (s.resetGone n) := updUsb_frame

theorem portResetsEnd_frame : s.frame [.usb] s.portResetsEnd :=
  .foldl (fun _ _ => .ite (.after portChanged_frame (.after resetGone_frame (.mono wr_frame rfl))) resetGone_frame)

theorem portFeature_frame {n feature : Nat} {set : Bool} : s.frame [.usb, .free] (s.portFeature n feature set) := by
  unfold portFeature
  dsimp only
  split
  · exact .ite (.after (.mono wr_frame rfl) (.after (.mono wr_frame rfl) (.mono wr_frame rfl))) (.refl _)
  · exact .after (.mono resetGone_frame rfl) (.after (.mono wr_frame rfl) (.mono wr_frame rfl))
  · exact .ite (.after (.mono tookFree_frame rfl) (.after (.mono updUsb_frame rfl) (.mono wr_frame rfl))) (.refl _)
  · exact .ite (.mono wr_frame rfl) (.refl _)
  · exact .ite (.after (.mono portChanged_frame rfl) (.mono wr_frame rfl)) (.refl _)
  · exact .ite (.after (.mono resetGone_frame rfl) (.mono wr_frame rfl)) (.refl _)
  · exact .ite (.mono portCleared_frame rfl) (.refl _)
  · exact .refl _

theorem hubRequest_frame {rtype req value index len : Nat} :
    s.frame [.tun, .planes, .sch, .usb, .jnl, .waiting, .free] (s.hubRequest rtype req value index len) := by
  unfold hubRequest
  dsimp only
  split
  · exact .mono ep0Send_frame rfl
  · exact .ite (.mono ep0Send_frame rfl) (.mono ep0Stall_frame rfl)
  · exact .ite (.mono ep0Send_frame rfl) (.ite (.mono ep0Send_frame rfl) (.mono ep0Stall_frame rfl))
  · exact .ite (.after (.mono ep0Ok_frame rfl) (.mono updUsb_frame rfl)) (.mono ep0Stall_frame rfl)
  · exact .ite (.after (.mono ep0Ok_frame rfl) (.mono updUsb_frame rfl)) (.ite (.mono ep0Ok_frame rfl) (.mono ep0Stall_frame
      rfl))
  · exact .ite (.after (.mono ep0Ok_frame rfl) (.mono updUsb_frame rfl)) (.ite (.mono ep0Ok_frame rfl) (.mono ep0Stall_frame
      rfl))
  · exact .ite (.after (.mono ep0Ok_frame rfl) (.mono updUsb_frame rfl)) (.mono ep0Stall_frame rfl)
  · exact .ite (.mono ep0Send_frame rfl) (.mono ep0Stall_frame rfl)
  · exact .ite (.after (.mono ep0Ok_frame rfl) (.mono updUsb_frame rfl)) (.mono ep0Stall_frame rfl)
  · exact .mono ep0Send_frame rfl
  · exact .ite (.after (.mono ep0Send_frame rfl) (.mono set_free_frame rfl)) (.mono ep0Stall_frame rfl)
  · exact .ite (.mono ep0Send_frame rfl) (.mono ep0Stall_frame rfl)
  · exact .after (.mono ep0Ok_frame rfl) (.mono updUsb_frame rfl)
  · split
    · exact .after (.mono ep0Send_frame rfl) (.mono set_free_frame rfl)
    · exact .mono ep0Stall_frame rfl
  · exact .mono ep0Send_frame rfl
  · exact .ite (.after (.mono ep0Ok_frame rfl) (.mono updUsb_frame rfl)) (.mono ep0Stall_frame rfl)
  · exact .ite (.mono ep0Stall_frame rfl) (.ite (.ite (.after (.mono ep0Ok_frame rfl) (.mono usbSuspend_frame rfl)) (.ite
      (.after (.mono ep0Ok_frame rfl) (.mono usbReset_frame rfl)) (.mono ep0Ok_frame rfl))) (.ite (.after (.mono ep0Ok_frame
      rfl) (.mono portFeature_frame rfl)) (.mono ep0Stall_frame rfl)))
  · exact .ite (.mono ep0Stall_frame rfl) (.ite (.ite (.after (.mono ep0Ok_frame rfl) (.mono hostResume_frame rfl)) (.ite
      (.after (.mono ep0Ok_frame rfl) (.mono portCleared_frame rfl)) (.mono ep0Ok_frame rfl))) (.ite (.after (.mono
      ep0Ok_frame rfl) (.mono portFeature_frame rfl)) (.mono ep0Stall_frame rfl)))
  · exact .ite (.mono ep0Ok_frame rfl) (.mono ep0Stall_frame rfl)
  · exact .ite (.mono ep0Ok_frame rfl) (.mono ep0Stall_frame rfl)
  · exact .ite (.mono ep0Ok_frame rfl) (.mono ep0Stall_frame rfl)
  · exact .ite (.mono ep0Ok_frame rfl) (.mono ep0Stall_frame rfl)
  · exact .ite (.mono ep0Ok_frame rfl) (.mono ep0Stall_frame rfl)
  · exact .ite (.after (.mono ep0Send_frame rfl) (.mono set_free_frame rfl)) (.mono ep0Stall_frame rfl)
  · exact .mono ep0Stall_frame rfl

theorem hubStatus_frame : s.frame [] s.hubStatus :=
  .ite (.refl _) (.ite emit_frame (.ite (.after tally_frame emit_frame) emit_frame))

theorem ep0Ecc_frame {ecc : Nat} {go : State → State} {ps : List Part} (hgo : ∀ s, State.frame s ps (go s))
    (hps : decide ([.usb] ⊆ ps) = true) : s.frame ps (s.ep0Ecc ecc go) :=
  .ite (.after (.within usbAnswer_frame hps rfl) (.after (.within updUsb_frame hps rfl) (.within usbEcc_frame hps rfl)))
    (.after (hgo _) (.within usbEcc_frame hps rfl))

theorem execUnitEnterPlane_frame {sp : Nat} :
    s.frameOut [.tun, .links, .planes, .sch, .dram, .sto, .brg, .net, .usb, .pwr, .waiting, .free] (execUnitEnterPlane sp s)
      :=
  .guardedIn (.after (.ite (.mono settled_frame rfl) (.ite (.mono netSettled_frame rfl) (.ite (.mono usbSettled_frame rfl)
    (.ite (.mono bridgeSettled_frame rfl) (.refl _))))) (.after (.mono pumpIngress_frame rfl) (.mono begin_frame rfl)))

theorem execUsbStandardRequest_frame {tgt : Ep0Target} {rtype req value index len : Nat} :
    s.frameOut [.tun, .planes, .sch, .usb, .jnl, .waiting, .free] (execUsbStandardRequest tgt rtype req value index len s) :=
  .guardedIn (.after (.ite (.refl _) (.after (ep0Ecc_frame (fun _ => .ite hubRequest_frame (.mono functionRequest_frame rfl))
    rfl) (.mono updUsb_frame rfl))) (.mono begin_frame rfl))

theorem execUsbOutPacket_frame {e : Nat} {token : OutToken} {ecc : Nat} {data : List Byte} :
    s.frameOut [.tun, .planes, .sch, .usb] (execUsbOutPacket e token ecc data s) := by
  unfold execUsbOutPacket
  exact .guardedIn (by
    split
    · exact .after (.mono usbPing_frame rfl) (.mono begin_frame rfl)
    · exact .after usbOut_frame (.mono begin_frame rfl))

theorem execUsbInUnit_frame {u : UnitMsg} : s.frameOut [.usb] (execUsbInUnit u s) :=
  .nextIn (.after usbUnit_frame (.mono begin_frame rfl))

theorem execUsbInToken_frame {e : Option Nat} {ecc : Nat} : s.frameOut [.sch, .usb] (execUsbInToken e ecc s) := by
  unfold execUsbInToken
  exact .guardedIn (by
    split
    · exact .after (.mono hubStatus_frame rfl) (.mono begin_frame rfl)
    · exact .after usbToken_frame (.mono begin_frame rfl))

theorem execUsbInAck_frame {e : Nat} : s.frameOut [.usb] (execUsbInAck e s) :=
  .guardedIn (.after usbAcked_frame (.mono begin_frame rfl))

theorem execUsbFence_frame {u : UnitMsg} : s.frameOut [.usb] (execUsbFence u s) :=
  .nextIn (.after usbFence_frame (.mono begin_frame rfl))

theorem execUsbEndpointResetUnit_frame {u : UnitMsg} : s.frameOut [.sch, .usb] (execUsbEndpointResetUnit u s) :=
  .nextIn (.after usbResetUnit_frame (.mono begin_frame rfl))

theorem execUsbEndpointHalt_frame {e : Nat} : s.frameOut [.sch, .usb] (execUsbEndpointHalt e s) :=
  .guardedIn (.ite (.after setHalt_frame (.mono begin_frame rfl)) (.mono begin_frame rfl))

theorem execUsbClearHalt_frame {e : Nat} : s.frameOut [.tun, .planes, .sch, .usb] (execUsbClearHalt e s) :=
  .guardedIn (.ite (.after clearHalt_frame (.mono begin_frame rfl)) (.mono begin_frame rfl))

theorem execUsbSuspend_frame : s.frameOut [.usb] (execUsbSuspend s) :=
  .nextIn (.after usbSuspend_frame (.mono begin_frame rfl))

theorem execUsbPort5Suspend_frame : s.frameOut [.usb] (execUsbPort5Suspend s) :=
  .nextIn (.after usbSuspend_frame (.mono begin_frame rfl))

theorem execUsbWakeSignal_frame : s.frameOut [.usb] (execUsbWakeSignal s) :=
  .nextIn (.ite (.after wakeSignal_frame (.mono begin_frame rfl)) (.mono begin_frame rfl))

theorem execUsbHostResume_frame : s.frameOut [.usb] (execUsbHostResume s) :=
  .nextIn (.after hostResume_frame (.mono begin_frame rfl))

theorem execUsbBusReset_frame {port5 hs control : Bool} :
    s.frameOut [.tun, .planes, .sch, .usb, .jnl, .waiting] (execUsbBusReset port5 hs control s) :=
  .nextIn (.after usbReset_frame (.mono begin_frame rfl))

theorem execUsbVbusChange_frame {present : Bool} : s.frameOut [.usb] (execUsbVbusChange present s) :=
  .nextIn (.after (.ite usbAttach_frame usbDetach_frame) (.after (.mono wr_frame rfl) (.mono begin_frame rfl)))

theorem execUsbFunctionEnWrite_frame {path data : Nat} :
    s.frameOut [.usb, .jnl, .waiting] (execUsbFunctionEnWrite path data s) :=
  .guarded (.after usbCfgWrite_frame (.mono begin_frame rfl))

theorem execUsbEpEnable_frame {path data : Nat} : s.frameOut [.usb, .jnl, .waiting] (execUsbEpEnable path data s) :=
  .guarded (.after epCfgWrite_frame (.mono begin_frame rfl))

theorem execUsbEpDisable_frame {path data : Nat} : s.frameOut [.usb, .jnl, .waiting] (execUsbEpDisable path data s) :=
  .guarded (.after epCfgWrite_frame (.mono begin_frame rfl))

theorem execUsbEpDrainTimeout_frame {e : Nat} : s.frameOut [.sch, .usb] (execUsbEpDrainTimeout e s) :=
  .guardedIn (.after epDrainEnd_frame (.mono begin_frame rfl))

theorem execUsbOverCurrent_frame {n : Nat} : s.frameOut [.usb] (execUsbOverCurrent n s) :=
  .guardedIn (.after (.after hubEvent_frame (.after portChanged_frame (.after (.mono irq_frame rfl) (.after (.mono bump_frame
    rfl) resetGone_frame)))) (.after (.mono wr_frame rfl) (.after (.mono wr_frame rfl) (.after (.mono wr_frame rfl) (.mono
    begin_frame rfl)))))

theorem execUsbDescDataAccess_frame {path : Nat} {write : Bool} {data : Nat} :
    s.frameOut [.jnl, .waiting, .free] (execUsbDescDataAccess path write data s) :=
  .guarded (.ite (.after (gateWrite_frame (fun _ => .ite (.after (.mono wr_frame rfl) (.ite (.mono wr_frame rfl) (.refl _)))
    (.ite (.mono wr_frame rfl) (.refl _))) rfl) (.mono begin_frame rfl)) (.after (gateRead_frame (fun _ => .ite (.after
    (.mono wr_frame rfl) (.after (.mono answer_frame rfl) (.after (.mono usbEcc_frame rfl) (.ite (.mono tookFree_frame rfl)
    (.refl _))))) (.after (.mono answer_frame rfl) (.after (.mono usbEcc_frame rfl) (.ite (.mono tookFree_frame rfl) (.refl
    _))))) rfl) (.mono begin_frame rfl)))

theorem execDownstreamPortConnect_frame {n : Nat} {connected : Bool} {speed : Nat} :
    s.frameOut [.usb] (execDownstreamPortConnect n connected speed s) :=
  .guardedIn (.after (.ite (.refl _) (.after (.after portChanged_frame (.after (.mono irq_frame rfl) (.mono wr_frame rfl)))
    (.after resetGone_frame (.mono wr_frame rfl)))) (.mono begin_frame rfl))

end Sys2Proof.Machine.State
end

section
/-! SUPPORT. The frames of the message router and the windows. -/

namespace Sys2Proof.Machine.State

variable {s : State}

theorem inFailed_frame {tid reason : Nat} : s.frame [.jnl] (s.inFailed tid reason) :=
  .after event_frame (.after (.mono wr_frame rfl) (.after (.mono wr_frame rfl) (.mono bump_frame rfl)))

theorem inRefused_frame {u : UnitMsg} {reason : Nat} : s.frame [.jnl, .free] (s.inRefused u reason) := by
  unfold inRefused
  dsimp only
  refine .after (.after (.mono tookFree_frame rfl) (.mono inFailed_frame rfl)) ?_
  split
  · exact .mono bump_frame rfl
  · exact .refl _

theorem inWrites_frame {a attr : Nat} {data : List Byte} : s.frame [] (s.inWrites a attr data) :=
  .foldl (fun _ _ => tlpOut_frame)

theorem inData_frame {u : UnitMsg} : s.frame [.jnl, .free] (s.inData u) := by
  unfold inData
  split
  · exact inRefused_frame
  · exact .mono inWrites_frame rfl

theorem inAnswer_frame {win : Option Nat} {write : Bool} {reply tage len status : Nat} {data : List Byte} :
    s.frame [.tun, .planes, .sch, .brg] (s.inAnswer win write reply tage len status data) := by
  unfold inAnswer
  dsimp only
  refine .after (.mono originUnit_frame rfl) ?_
  split
  · exact .mono updBrg_frame rfl
  · exact .refl _

theorem inRequest_frame {u : UnitMsg} : s.frameOpt [.tun, .planes, .sch, .brg, .jnl, .free] (s.inRequest u) := by
  unfold inRequest
  extract_lets write tage len reply
  split
  · exact .some (.after (.mono inAnswer_frame rfl) (.mono inRefused_frame rfl))
  · exact .ite .none (.some (.after (.foldl (fun _ _ => .mono tlpOut_frame rfl)) (.after (.ite (.mono inWrites_frame rfl) (.refl _))
      (.mono updBrg_frame rfl))))

theorem routerMiss_frame {tid id : Nat} : s.frame [] (s.routerMiss tid id) :=
  .after irq_frame (.after wr_frame (.after wr_frame bump_frame))

theorem routerKindErr_frame : s.frame [] s.routerKindErr := .after irq_frame bump_frame

theorem msixDeliver_frame {v localId : Nat} : s.frame [.brg] (s.msixDeliver v localId) :=
  .after (.mono msixWrite_frame rfl) (.ite updBrg_frame (.after (.mono irq_frame rfl) (.mono bump_frame rfl)))

theorem routerDeliver_frame {u : UnitMsg} {target index localId : Nat} :
    s.frameOpt [.brg, .usb, .eng, .mgt, .free] (s.routerDeliver u target index localId) := by
  unfold routerDeliver
  dsimp only
  split
  · split
    · exact .some (.mono routerKindErr_frame rfl)
    · split
      · exact .none
      · exact .some (.mono msixDeliver_frame rfl)
  · split
    · exact .mono engMessage_frame rfl
    · split
      · split
        · exact .some (.mono routerKindErr_frame rfl)
        · exact .mono usbMessage_frame rfl
      · exact .mono mgtMessage_frame rfl

theorem routerAct_frame {h : HeldUnit} : s.frameOpt [.brg, .usb, .eng, .mgt, .free] (s.routerAct h) := by
  unfold routerAct
  split
  · exact .some (.mono routerMiss_frame rfl)
  · exact routerDeliver_frame

theorem unitAct_frame {h : HeldUnit} :
    s.frameOpt [.tun, .planes, .sch, .brg, .usb, .eng, .mgt, .jnl, .waiting, .free] (s.unitAct h) := by
  unfold unitAct
  dsimp only
  split
  · exact .some (.mono inData_frame rfl)
  · split
    · exact .mono inRequest_frame rfl
    · split
      · exact .some (.after (.mono bridgeSettled_frame rfl) (.mono bridgeResponse_frame rfl))
      · split
        · split
          · exact .none
          · exact .some (.refl _)
        · exact .mono routerAct_frame rfl

theorem setHold_frame {tid : Nat} {l : List HeldUnit} : s.frame [.brg] (s.setHold tid l) := updBrg_frame

theorem holdRun_frame {tid : Nat} {l : List HeldUnit} :
    s.frame [.tun, .planes, .sch, .brg, .usb, .eng, .mgt, .jnl, .waiting, .free] (s.holdRun tid l) := by
  induction l generalizing s with
  | nil => exact .mono setHold_frame rfl
  | cons x l ih =>
    unfold holdRun
    split
    · rename_i h
      exact .after ih (.opt h unitAct_frame)
    · exact .mono setHold_frame rfl

theorem holdRetry_frame {tid : Nat} :
    s.frame [.tun, .planes, .sch, .brg, .usb, .eng, .mgt, .jnl, .waiting, .free] (s.holdRetry tid) :=
  holdRun_frame

theorem holdAll_frame : s.frame [.tun, .planes, .sch, .brg, .usb, .eng, .mgt, .jnl, .waiting, .free] s.holdAll :=
  .foldl (fun _ _ => holdRetry_frame)

theorem unitArrives_frame {u : UnitMsg} :
    s.frame [.tun, .planes, .sch, .brg, .usb, .eng, .mgt, .jnl, .waiting, .free] (s.unitArrives u) :=
  .after holdRun_frame (.ite (.mono tally_frame rfl) (.refl _))

theorem inEnds_frame {id status : Nat} {reason : Option Nat} {data : List Byte} :
    s.frame [.tun, .planes, .sch, .brg, .usb, .eng, .mgt, .jnl, .waiting, .free] (s.inEnds id status reason data) := by
  unfold inEnds
  dsimp only
  split
  · exact .refl _
  · exact .after (.after (.after (.after (.mono iwinDrained_frame rfl) (.after holdAll_frame holdRetry_frame)) (.mono
      inAnswer_frame rfl)) (by
      split
      · exact .mono inFailed_frame rfl
      · exact .refl _)) (.mono updBrg_frame rfl)

theorem hostCompletion_frame {id status : Nat} {poisoned : Bool} {data : List Byte} :
    s.frame [.tun, .planes, .sch, .brg, .usb, .eng, .mgt, .jnl, .waiting, .free] (s.hostCompletion id status poisoned data) :=
  .after (.ite inEnds_frame (.ite inEnds_frame inEnds_frame)) (.mono tally_frame rfl)

theorem inAborts_frame {p : InReq → Bool} {reason : Nat} :
    s.frame [.tun, .planes, .sch, .brg, .usb, .eng, .mgt, .jnl, .waiting, .free] (s.inAborts p reason) :=
  .foldl (fun _ _ => inEnds_frame)

theorem hostLinkLost_frame : s.frame [.tun, .planes, .sch, .brg, .usb, .eng, .mgt, .jnl, .waiting, .free] s.hostLinkLost :=
  .after (.after (.after inAborts_frame (.mono bridgeQuiet_frame rfl)) (.mono set_waiting_frame rfl)) (.after (.mono
    irq_frame rfl) (.mono wr_frame rfl))

theorem failUnsent_frame {x : BrgSend} : s.frame [.jnl] (s.failUnsent x) := by
  unfold failUnsent
  dsimp only
  refine .after (.after (.mono irq_frame rfl) (.mono bump_frame rfl)) ?_
  split
  · exact .after (.mono tally_frame rfl) (.mono failRead_frame rfl)
  · exact npFail_frame
  · exact .mono aborted_frame rfl

theorem failWaiting_frame {x : BrgWait} : s.frame [.tun, .planes, .sch, .brg, .jnl] (s.failWaiting x) :=
  .ite (.after (.mono semLeft_frame rfl) (.mono failUnsent_frame rfl)) (.mono sendNow_frame rfl)

theorem owinForced_frame {w : Nat} : s.frame [.tun, .planes, .sch, .brg, .jnl, .waiting, .free] (s.owinForced w) := by
  unfold owinForced
  exact .after (.after (.after (.after (.mono bridgeSettled_frame rfl) (.mono unlockWin_frame rfl)) (.foldl (fun _ _ => .mono
    endEarly_frame rfl))) (.after (.foldl (fun _ _ => .mono failUnsent_frame rfl)) (.foldl (fun _ _ => .mono
    failWaiting_frame rfl)))) (.mono updBrg_frame rfl)

theorem owinDrains_frame {w : Nat} : s.frame [] (s.owinDrains w) := .ite (.after owinDrained_frame wr_frame) (.refl _)

theorem iwinDrains_frame {i : Nat} : s.frame [] (s.iwinDrains i) := .ite (.after iwinDrained_frame wr_frame) (.refl _)

theorem owinClose_frame {w : Nat} : s.frame [] (s.owinClose w) := .after owinDrains_frame wr_frame

theorem iwinClose_frame {i : Nat} : s.frame [] (s.iwinClose i) := .after iwinDrains_frame wr_frame

theorem windowsClose_frame : s.frame [] s.windowsClose :=
  .after (.foldl (fun _ _ => iwinDrains_frame)) (.foldl (fun _ _ => owinDrains_frame))

theorem windowsOpen_frame : s.frame [] s.windowsOpen :=
  .after (.foldl (fun _ _ => .ite wr_frame (.refl _))) (.foldl (fun _ _ => .ite wr_frame (.refl _)))

theorem winCfgWrite_frame {path data : Nat} {inward : Bool} : s.frame [.jnl, .waiting] (s.winCfgWrite path data inward) :=
  .ite (gateWrite_frame (fun _ => .after (.ite (.mono iwinClose_frame rfl) (.ite (.after (.ite (.refl _) (.mono wr_frame
    rfl)) (.mono wr_frame rfl)) (.refl _))) (.ite (.mono store_frame rfl) (.refl _))) rfl) (gateWrite_frame (fun _ => .after
    (.ite (.mono owinClose_frame rfl) (.ite (.after (.ite (.refl _) (.mono wr_frame rfl)) (.mono wr_frame rfl)) (.refl _)))
    (.ite (.mono store_frame rfl) (.refl _))) rfl)

theorem mrtDone_frame {r : Nat} : s.frame [] (s.mrtDone r) := .after nextIndex_frame wr_frame

theorem mrtRead_frame : s.frame [] s.mrtRead := .after mrtDone_frame (.after wr_frame wr_frame)

theorem mrtWrite_frame : s.frame [.brg] s.mrtWrite :=
  .ite (.mono mrtDone_frame rfl) (.ite (.mono mrtDone_frame rfl) (.ite (.mono mrtDone_frame rfl) (.after (.mono mrtDone_frame
    rfl) updBrg_frame)))

theorem mrtClear_frame : s.frame [.brg] s.mrtClear := .after (.mono mrtDone_frame rfl) updBrg_frame

theorem causeRead_frame {path : Nat} : s.frame [.brg] (s.causeRead path) := by
  unfold causeRead
  split
  · exact .mono answer_frame rfl
  · exact .after (.mono answer_frame rfl) updBrg_frame

theorem holdExpires_frame {tid : Nat} :
    s.frame [.tun, .planes, .sch, .brg, .usb, .eng, .mgt, .jnl, .waiting, .free] (s.holdExpires tid) := by
  unfold holdExpires
  dsimp only
  split
  · exact .refl _
  · exact .ite (.refl _) (.after (.after holdRun_frame (.ite (.mono bump_frame rfl) (.refl _))) (.after (.mono irq_frame rfl)
      (.mono bump_frame rfl)))

theorem execInboundData_frame {u : UnitMsg} :
    s.frameOut [.tun, .planes, .sch, .brg, .usb, .eng, .mgt, .jnl, .waiting, .free] (execInboundData u s) :=
  .nextIn (.after unitArrives_frame (.mono begin_frame rfl))

theorem execInboundReadRequest_frame {u : UnitMsg} :
    s.frameOut [.tun, .planes, .sch, .brg, .usb, .eng, .mgt, .jnl, .waiting, .free] (execInboundReadRequest u s) :=
  .nextIn (.after unitArrives_frame (.mono begin_frame rfl))

theorem execInboundWriteNp_frame {u : UnitMsg} :
    s.frameOut [.tun, .planes, .sch, .brg, .usb, .eng, .mgt, .jnl, .waiting, .free] (execInboundWriteNp u s) :=
  .nextIn (.after unitArrives_frame (.mono begin_frame rfl))

theorem execHostCompletion_frame {id status : Nat} {poisoned : Bool} {data : List Byte} :
    s.frameOut [.tun, .planes, .sch, .brg, .usb, .eng, .mgt, .jnl, .waiting, .free] (execHostCompletion id status poisoned
      data s) :=
  .guardedIn (.after hostCompletion_frame (.mono begin_frame rfl))

theorem execHostCompletionTimeout_frame {id : Nat} :
    s.frameOut [.tun, .planes, .sch, .brg, .usb, .eng, .mgt, .jnl, .waiting, .free] (execHostCompletionTimeout id s) :=
  .nextIn (.after inEnds_frame (.mono begin_frame rfl))

theorem execBridgeResponse_frame {u : UnitMsg} :
    s.frameOut [.tun, .planes, .sch, .brg, .usb, .eng, .mgt, .jnl, .waiting, .free] (execBridgeResponse u s) :=
  .nextIn (.ite (.after unitArrives_frame (.mono begin_frame rfl)) (.mono begin_frame rfl))

theorem execBridgeFenceUnit_frame {u : UnitMsg} :
    s.frameOut [.tun, .planes, .sch, .brg, .usb, .eng, .mgt, .jnl, .waiting, .free] (execBridgeFenceUnit u s) :=
  .nextIn (.after unitArrives_frame (.mono begin_frame rfl))

theorem execRouterUnit_frame {u : UnitMsg} :
    s.frameOut [.tun, .planes, .sch, .brg, .usb, .eng, .mgt, .jnl, .waiting, .free] (execRouterUnit u s) :=
  .nextIn (.ite (.after unitArrives_frame (.mono begin_frame rfl)) (.mono begin_frame rfl))

theorem execRouterHoldRelease_frame {tid : Nat} :
    s.frameOut [.tun, .planes, .sch, .brg, .usb, .eng, .mgt, .jnl, .waiting, .free] (execRouterHoldRelease tid s) :=
  .guardedIn (.after holdRetry_frame (.mono begin_frame rfl))

theorem execRouterHoldTimeout_frame {tid : Nat} :
    s.frameOut [.tun, .planes, .sch, .brg, .usb, .eng, .mgt, .jnl, .waiting, .free] (execRouterHoldTimeout tid s) :=
  .guardedIn (.after holdExpires_frame (.mono begin_frame rfl))

theorem execMrtCauseRead_frame {path : Nat} : s.frameOut [.brg, .jnl, .waiting] (execMrtCauseRead path s) :=
  .guarded (.after (gateRead_frame (fun _ => .mono causeRead_frame rfl) rfl) (.mono begin_frame rfl))

theorem execMrtRead_frame {path : Nat} : s.frameOut [.jnl, .waiting] (execMrtRead path s) :=
  .guarded (.after (gateWrite_frame (fun _ => .mono mrtRead_frame rfl) rfl) (.mono begin_frame rfl))

theorem execMrtWrite_frame {path : Nat} : s.frameOut [.brg, .jnl, .waiting] (execMrtWrite path s) :=
  .guarded (.after (gateWrite_frame (fun _ => .mono mrtWrite_frame rfl) rfl) (.mono begin_frame rfl))

theorem execMrtClear_frame {path : Nat} : s.frameOut [.brg, .jnl, .waiting] (execMrtClear path s) :=
  .guarded (.after (gateWrite_frame (fun _ => .mono mrtClear_frame rfl) rfl) (.mono begin_frame rfl))

theorem execWindowEnable_frame {path data : Nat} {inward : Bool} :
    s.frameOut [.jnl, .waiting] (execWindowEnable path data inward s) :=
  .guarded (.after winCfgWrite_frame (.mono begin_frame rfl))

theorem execWindowDisable_frame {path data : Nat} {inward : Bool} :
    s.frameOut [.jnl, .waiting] (execWindowDisable path data inward s) :=
  .guarded (.after winCfgWrite_frame (.mono begin_frame rfl))

theorem execWindowDrainTimeout_frame {w : Nat} {inward : Bool} :
    s.frameOut [.tun, .planes, .sch, .brg, .usb, .eng, .mgt, .jnl, .waiting, .free] (execWindowDrainTimeout w inward s) :=
  .guardedIn (.ite (.ite (.after inAborts_frame (.mono begin_frame rfl)) (.mono begin_frame rfl)) (.ite (.after (.mono
    owinForced_frame rfl) (.mono begin_frame rfl)) (.mono begin_frame rfl)))

theorem execHostLinkDown_frame :
    s.frameOut [.tun, .planes, .sch, .brg, .usb, .eng, .mgt, .jnl, .waiting, .free] (execHostLinkDown s) :=
  .nextIn (.ite (.after hostLinkLost_frame (.mono begin_frame rfl)) (.mono begin_frame rfl))

end Sys2Proof.Machine.State
end

section
/-! SUPPORT. The frames of the power states. -/

namespace Sys2Proof.Machine.State

variable {s : State}

theorem engSenderGone_frame {c : Nat} : s.frame [.waiting] (s.engSenderGone c) := updPwr_waiting_frame fun _ => rfl

theorem domainLost_frame {d : Nat} : s.frame [.links, .dsp, .sto, .brg, .net, .usb, .eng, .mgt, .waiting] (s.domainLost d) :=
  .after (.ite (.after (.mono senderGone_frame rfl) (.mono senderGone_frame rfl)) (.ite (.mono pairOffNow_frame rfl) (.ite
    (.mono set_links_frame rfl) (.ite (.after (.mono updEng_frame rfl) (.mono engSenderGone_frame rfl)) (.ite (.mono
    set_dsp_frame rfl) (.ite (.mono set_sto_frame rfl) (.ite (.mono updNet_frame rfl) (.ite (.after (.mono senderGone_frame
    rfl) (.mono set_usb_frame rfl)) (.ite (.mono updBrg_frame rfl) (.refl _)))))))))) (.mono eraseKeys_frame rfl)

theorem pllsStop_frame : s.frame [] s.pllsStop := wr_frame

theorem switchDomains_frame {mask : Nat} :
    s.frame [.tun, .links, .planes, .sch, .dsp, .sto, .brg, .net, .usb, .eng, .mgt, .jnl, .pwr, .waiting, .free]
      (s.switchDomains mask) :=
  .after (.after (.after (.mono pllsStop_frame rfl) (.after (.mono showDomains_frame rfl) (.mono (updPwr_power_frame fun _ =>
    rfl) rfl))) (.foldl (fun _ _ => .mono domainLost_frame rfl))) (.ite (.mono hostLinkLost_frame rfl) (.refl _))

theorem pairBPower_frame :
    s.frame [.tun, .links, .planes, .mcg, .rgm, .sch, .dsp, .sto, .brg, .net, .usb, .eng, .mgt, .jnl, .pwr, .waiting, .free]
      s.pairBPower :=
  .ite (.after (.mono switchDomains_frame rfl) (.ite (.mono pairLost_frame rfl) (.refl _))) (.refl _)

theorem refused_frame {target : Nat} {aborted : Bool} {refs : List Nat} : s.frame [.jnl] (s.refused target aborted refs) := by
  unfold refused
  dsimp only
  split
  · exact .refl _
  · exact .after (.after (.after event_frame (.after (.mono tally_frame rfl) (.mono wr_frame rfl))) (.after (.mono wr_frame
      rfl) (.after (.mono wr_frame rfl) (.mono wr_frame rfl)))) (.foldl (fun _ _ => .mono bump_frame rfl))

theorem retrainOne_frame {n : Nat} :
    s.frame [.tun, .links, .planes, .sch, .brg, .tim, .jnl, .waiting, .free] (s.retrainOne n) :=
  linkToDown_frame

theorem drainsQuiet_frame : s.frame [.tun, .links, .planes, .sch, .dram, .dsp, .sto, .usb, .eng, .pwr, .free] s.drainsQuiet :=
  .after (.mono usbQuiets_frame rfl) (.after (.mono enginesStop_frame rfl) (.after (.mono stoShutdown_frame rfl) (.after
    (.mono displayShuts_frame rfl) (.mono (updPwr_power_frame fun _ => rfl) rfl))))

theorem drainsDeep_frame : s.frame [.net, .pwr, .free] s.drainsDeep :=
  .after (.mono (updPwr_power_frame fun _ => rfl) rfl) (.after (.mono macsStop_frame rfl) (.mono windowsClose_frame rfl))

theorem drainsBegin_frame {target : Nat} :
    s.frame [.tun, .links, .planes, .sch, .dram, .dsp, .sto, .brg, .net, .usb, .tim, .eng, .jnl, .pwr, .waiting, .free]
      (s.drainsBegin target) :=
  .after (.after (.ite (.after (.foldl (fun _ _ => .mono retrainOne_frame rfl)) (.mono (updPwr_power_frame fun _ => rfl)
    rfl)) (.refl _)) (.ite (.mono drainsDeep_frame rfl) (.refl _))) (.ite (.mono drainsQuiet_frame rfl) (.refl _))

theorem trunksDrain_frame : s.frame [.tun, .links, .planes, .sch, .brg, .tim, .jnl, .pwr, .waiting, .free] s.trunksDrain :=
  .after (.foldl (fun _ _ => .ite (.mono linkToDrain_frame rfl) (.ite (.refl _) (.mono linkToDown_frame rfl)))) (.mono
    (updPwr_power_frame fun _ => rfl) rfl)

theorem planesStop_frame : s.frame [.tun, .planes, .sch] s.planesStop :=
  .after (.foldl (fun _ _ => .after (.mono wr_frame rfl) (.after (.mono emptyPlane_frame rfl) (.mono failFences_frame rfl))))
    (.ite (.after (.mono noAuth_frame rfl) (.mono loseAuth_frame rfl)) (.refl _))

theorem setTrans_frame {t : PwrTrans} : s.frame [.pwr] (s.setTrans t) := updPwr_power_frame fun _ => rfl

theorem transDone_frame : s.frame [.jnl, .pwr, .free] s.transDone :=
  .after (.mono alertServed_frame rfl) (.mono vidRequest_frame rfl)

theorem portsOffP1_frame : s.frame [.sto] s.portsOffP1 :=
  .ite (.after (.foldl (fun _ _ => .after (.mono wr_frame rfl) (.mono wr_frame rfl))) stoTrims_frame) (.refl _)

theorem commitEntry_frame {t : PwrTrans} : s.frame [.dram, .sto, .eng, .jnl, .pwr, .free] (s.commitEntry t) :=
  .after (.after (.after (.ite (.mono dramLost_frame rfl) (.mono transDone_frame rfl)) (.after (.mono irq_frame rfl) (.mono
    portsOffP1_frame rfl))) (.after (.mono (updPwr_power_frame fun _ => rfl) rfl) (.mono wr_frame rfl))) (.after (.mono
    wr_frame rfl) (.after (.mono wr_frame rfl) (.mono wr_frame rfl)))

theorem switchOff_frame {t : PwrTrans} :
    s.frame [.tun, .links, .planes, .sch, .dram, .dsp, .sto, .brg, .net, .usb, .eng, .mgt, .jnl, .pwr, .waiting, .free]
      (s.switchOff t) :=
  .after (.after (.after (.after (.ite (.mono commitEntry_frame rfl) (.refl _)) (.after (.mono regAsk_frame rfl) (.mono
    setTrans_frame rfl))) (.ite (.after (.mono (updPwr_power_frame fun _ => rfl) rfl) (.ite (.refl _) (.mono dramLost_frame
    rfl))) (.refl _))) (.ite (.mono selfRefresh_frame rfl) (.refl _))) (.mono switchDomains_frame rfl)

theorem backVolts_frame {t : PwrTrans} : s.frame [.pwr, .free] (s.backVolts t) :=
  .after (.ite (.mono setTrans_frame rfl) (.refl _)) (.after regAsk_frame (.mono setTrans_frame rfl))

theorem abortEntry_frame {t : PwrTrans} {refs : List Nat} : s.frame [.jnl, .pwr, .free] (s.abortEntry t refs) :=
  .after (.mono backVolts_frame rfl) (.after (.mono alertServed_frame rfl) (.after (.mono regsDropped_frame rfl) (.mono
    refused_frame rfl)))

theorem watchEntry_frame : s.frame [.jnl, .pwr, .free] s.watchEntry := by
  unfold watchEntry
  split
  · exact .refl _
  · exact .ite (.refl _) abortEntry_frame

theorem leave_frame {target : Nat} : s.frame [.pwr, .free] (s.leave target) :=
  .after backVolts_frame (.after (.mono wr_frame rfl) (.mono wr_frame rfl))

theorem pwrRequest_frame {path target : Nat} :
    s.frame [.tun, .links, .planes, .sch, .dram, .dsp, .sto, .brg, .net, .usb, .tim, .eng, .jnl, .pwr, .waiting, .free]
      (s.pwrRequest path target) :=
  .ite (.mono wr_frame rfl) (.ite (.mono wr_frame rfl) (.ite (.mono wr_frame rfl) (.ite (.mono leave_frame rfl) (.ite (.mono
    wr_frame rfl) (.after (.ite (.after (.mono wr_frame rfl) (.mono refused_frame rfl)) (.after (.after drainsBegin_frame
    (.mono setTrans_frame rfl)) (.after (.mono wr_frame rfl) (.mono wr_frame rfl)))) (.ite (.mono wr_frame rfl) (.refl
    _)))))))

theorem quiesced_frame {t : PwrTrans} :
    s.frame [.tun, .links, .planes, .sch, .dram, .dsp, .sto, .brg, .net, .usb, .tim, .eng, .mgt, .jnl, .pwr, .waiting, .free]
      (s.quiesced t) := by
  unfold quiesced
  split
  · exact .ite (.refl _) (.ite (.after (.mono trunksDrain_frame rfl) (.mono setTrans_frame rfl)) (.ite (.refl _) (.mono
      switchOff_frame rfl)))
  · exact .ite (.after (.mono switchOff_frame rfl) (.mono planesStop_frame rfl)) (.refl _)
  · exact .refl _

theorem functionsResume_frame {was target : Nat} :
    s.frame [.dsp, .sto, .usb, .eng, .jnl, .pwr] (s.functionsResume was target) :=
  .after (.after (.ite (.after (.mono macsResume_frame rfl) (.mono windowsOpen_frame rfl)) (.refl _)) (.ite (.after (.mono
    usbResumes_frame rfl) (.after (.mono enginesResume_frame rfl) (.after (.mono stoResumes_frame rfl) (.mono
    displayResumes_frame rfl)))) (.refl _))) (.mono (updPwr_power_frame fun _ => rfl) rfl)

theorem trafficResumes_frame {was target : Nat} :
    s.frame [.tun, .links, .planes, .sch, .brg, .tim, .jnl, .pwr, .waiting, .free] (s.trafficResumes was target) :=
  .after (.ite (.refl _) (.after (.foldl (fun _ _ => .ite (.ite (.mono enterTrain_frame rfl) (.refl _)) (.ite (.mono
    retrainOne_frame rfl) (.refl _)))) (.foldl (fun _ _ => .ite (.mono beginRestart_frame rfl) (.refl _))))) (.mono
    (updPwr_power_frame fun _ => rfl) rfl)

theorem pairsResume_frame {was target : Nat} : s.frame [.mgt, .pwr] (s.pairsResume was target) :=
  .ite (.foldl (fun _ _ => .ite pairReturns_frame (.refl _))) (.refl _)

theorem exitDone_frame {t : PwrTrans} : s.frame Part.all (s.exitDone t) :=
  .after (.after (.after (.after (.after (.after (.after (.after (.mono tamperFollows_frame rfl) (.after (.mono
    transDone_frame rfl) (.ite (.mono portsOffP1_frame rfl) (.ite (.mono stoResumes_frame rfl) (.refl _))))) (.after (.mono
    pairsResume_frame rfl) (.after (.mono functionsResume_frame rfl) (.mono trafficResumes_frame rfl)))) (.mono wr_frame
    rfl)) (.after (.mono wr_frame rfl) (.after (.mono wr_frame rfl) (.mono wr_frame rfl)))) (.ite (.mono selfRefresh_frame
    rfl) (.mono (updPwr_power_frame fun _ => rfl) rfl))) (.mono (updPwr_power_frame fun _ => rfl) rfl)) (.mono
    switchDomains_frame rfl)) (.ite (.refl _) hibernateReset_frame)

theorem wakes_frame {sources trunk : Nat} : s.frame [.jnl, .pwr, .free] (s.wakes sources trunk) := by
  unfold wakes
  exact .after (.after (.after (.after (.mono leave_frame rfl) (.ite (.mono (updPwr_power_frame fun _ => rfl) rfl) (.refl
    _))) (.mono event_frame rfl)) (.after (.mono tally_frame rfl) (.mono bump_frame rfl))) (.after (.mono wr_frame rfl)
    (.after (.mono wr_frame rfl) (.mono wr_frame rfl)))

theorem wakeEvent_frame {sources trunk : Nat} : s.frame [.jnl, .pwr, .free] (s.wakeEvent sources trunk) := by
  unfold wakeEvent
  dsimp only
  split
  · exact .ite (.refl _) abortEntry_frame
  · exact .ite wakes_frame (.refl _)

theorem tamperSeen_frame {sources : Nat} : s.frame [.key, .jnl, .csr, .pwr, .free] (s.tamperSeen sources) :=
  .after (.ite (.mono wakeEvent_frame rfl) (.refl _)) (.mono tamper_frame rfl)

theorem regPolled_frame {status : Nat} {pgood : Bool} {mode : Nat} :
    s.frame [.dram, .sto, .eng, .jnl, .pwr, .rst, .free] (s.regPolled status pgood mode) := by
  unfold regPolled
  dsimp only
  split
  · exact .refl _
  · split
    · exact .refl _
    · split
      · exact .after (.mono wr_frame rfl) (.mono pmbRead_frame rfl)
      · exact .after (by
          split
          · exact .ite (.mono holdOrRelease_frame rfl) (.mono alertServed_frame rfl)
          · exact .ite (.after (.mono abortEntry_frame rfl) (.mono (updPwr_power_frame fun _ => rfl) rfl)) (.ite (.mono
              watchEntry_frame rfl) (.ite (.after (.mono alertServed_frame rfl) (.mono setTrans_frame rfl)) (.mono
              commitEntry_frame rfl)))) (.after (.mono regAcked_frame rfl) (.after (.mono wr_frame rfl) (.mono pmbRead_frame
              rfl)))

theorem regRepeats_frame {r : Nat} : s.frame [.jnl, .csr, .pwr] (s.regRepeats r) :=
  .after (.ite (.mono regFault_frame rfl) (.refl _)) (.mono (updPwr_power_frame fun _ => rfl) rfl)

theorem regTimesOut_frame {status : Nat} : s.frame [.jnl, .csr, .pwr, .free] (s.regTimesOut status) := by
  unfold regTimesOut
  dsimp only
  split
  · exact .refl _
  · split
    · exact .refl _
    · exact .after (by
        split
        · exact .ite (.mono regRepeats_frame rfl) (.after (.mono alertServed_frame rfl) (.after (.mono regSend_frame rfl)
            (.mono (updPwr_power_frame fun _ => rfl) rfl)))
        · exact .ite (.mono regRepeats_frame rfl) (.ite (.after (.mono abortEntry_frame rfl) (.after (.mono regFault_frame
            rfl) (.after (.mono regsDropped_frame rfl) (.mono (updPwr_power_frame fun _ => rfl) rfl)))) (.after (.mono
            regSend_frame rfl) (.after (.mono (updPwr_power_frame fun _ => rfl) rfl) (.mono regsDropped_frame rfl)))))
            (.after (.mono bump_frame rfl) (.after (.mono wr_frame rfl) (.after (.mono wr_frame rfl) (.mono pmbRead_frame
            rfl))))

theorem alertLow_frame {l : List Nat} : s.frame [.jnl, .pwr] (s.alertLow l) :=
  .ite (.mono regAlert_frame rfl) (.mono (updPwr_power_frame fun _ => rfl) rfl)

theorem trimWrite_frame {path k data : Nat} : s.frame [.jnl, .pwr, .waiting, .free] (s.trimWrite path k data) :=
  gateWrite_frame (fun _ => .after (.ite (.refl _) (.ite (.mono (updPwr_power_frame fun _ => rfl) rfl) (.ite (.mono
    regAsk_frame rfl) (.refl _)))) (.mono store_frame rfl)) rfl

theorem pllLinksDown_frame {k : Nat} :
    s.frame [.tun, .links, .planes, .sch, .dram, .dsp, .sto, .brg, .net, .usb, .tim, .eng, .mgt, .jnl, .pwr, .waiting, .free]
      (s.pllLinksDown k) :=
  .ite (.foldl (fun _ _ => .ite (.mono linkToDown_frame rfl) (.refl _))) (.ite (.after (.foldl (fun _ _ => .mono
    rpReset_frame rfl)) (.ite (.mono hostLinkLost_frame rfl) (.refl _))) (.ite (.foldl (fun _ _ => .mono macDown_frame rfl))
    (.ite (.foldl (fun _ _ => .ite (.mono startTraining_frame rfl) (.refl _))) (.ite (.mono usbDetach_frame rfl) (.refl _)))))

theorem lockLost_frame {k : Nat} :
    s.frame [.tun, .links, .planes, .sch, .dram, .dsp, .sto, .brg, .net, .usb, .tim, .eng, .mgt, .jnl, .pwr, .waiting, .rst,
      .free] (s.lockLost k) :=
  .after (.after (.after (.ite (.after (.mono showDomains_frame rfl) (.mono set_rst_frame rfl)) (.refl _)) (.after (.mono
    pllLinksDown_frame rfl) (.mono event_frame rfl))) (.after (.mono bump_frame rfl) (.mono wr_frame rfl))) (.mono wr_frame
    rfl)

theorem execPowerStateRequest_frame {path target : Nat} :
    s.frameOut [.tun, .links, .planes, .sch, .dram, .dsp, .sto, .brg, .net, .usb, .tim, .eng, .jnl, .pwr, .waiting, .free]
      (execPowerStateRequest path target s) :=
  .guarded (.after (gateWrite_frame (fun _ => pwrRequest_frame) rfl) (.mono begin_frame rfl))

theorem execEntryQuiesceDone_frame :
    s.frameOut [.tun, .links, .planes, .sch, .dram, .dsp, .sto, .brg, .net, .usb, .tim, .eng, .mgt, .jnl, .pwr, .waiting,
      .free] (execEntryQuiesceDone s) := by
  unfold execEntryQuiesceDone
  dsimp only
  exact .nextIn (.after (by
    split
    · exact quiesced_frame
    · exact .refl _) (.after (.mono watchEntry_frame rfl) (.mono begin_frame rfl)))

theorem execRegulatorAck_frame {status : Nat} {pgood : Bool} {mode : Nat} :
    s.frameOut [.dram, .sto, .eng, .jnl, .pwr, .rst, .free] (execRegulatorAck status pgood mode s) :=
  .guardedIn (.after regPolled_frame (.mono begin_frame rfl))

theorem execRegulatorNoack_frame {status : Nat} : s.frameOut [.jnl, .csr, .pwr, .free] (execRegulatorNoack status s) :=
  .guardedIn (.after regTimesOut_frame (.mono begin_frame rfl))

theorem execRegulatorRetry_frame : s.frameOut [.pwr, .free] (execRegulatorRetry s) :=
  .nextIn (.ite (.after regSend_frame (.mono begin_frame rfl)) (.mono begin_frame rfl))

theorem execExitStepDone_frame : s.frameOut Part.all (execExitStepDone s) := by
  unfold execExitStepDone
  dsimp only
  exact .nextIn (.after (by
    split
    · exact .ite exitDone_frame (.refl _)
    · exact .refl _) (.mono begin_frame rfl))

theorem execWakeEvent_frame {sources trunk : Nat} : s.frameOut [.jnl, .pwr, .free] (execWakeEvent sources trunk s) :=
  .guardedIn (.after wakeEvent_frame (.mono begin_frame rfl))

theorem execAonTimerWake_frame : s.frameOut [.jnl, .pwr, .free] (execAonTimerWake s) :=
  .nextIn (.ite (.mono begin_frame rfl) (.after wakeEvent_frame (.mono begin_frame rfl)))

theorem execI2cAddressMatch_frame {addr : Nat} : s.frameOut [.jnl, .pwr, .free] (execI2cAddressMatch addr s) :=
  .guardedIn (.after (.ite (.after wakeEvent_frame (.ite (.mono (updPwr_power_frame fun _ => rfl) rfl) (.refl _))) (.refl _))
    (.mono begin_frame rfl))

theorem execWakeFrame_frame {m : Nat} {frame : List Byte} {good : Bool} :
    s.frameOut [.jnl, .pwr, .free] (execWakeFrame m frame good s) :=
  .guardedIn (.after (.ite (.ite (.after wakeEvent_frame (.mono wakeMatch_frame rfl)) (.mono wakeMatch_frame rfl)) (.refl _))
    (.mono begin_frame rfl))

theorem execTamperDetected_frame {sources : Nat} :
    s.frameOut [.key, .jnl, .csr, .pwr, .free] (execTamperDetected sources s) :=
  .guarded (.after tamperSeen_frame (.mono begin_frame rfl))

theorem execBatLow_frame {mv : Nat} : s.frameOut [.key, .jnl, .csr, .pwr, .free] (execBatLow mv s) :=
  .guarded (.after tamperSeen_frame (.after (.mono vbat_frame rfl) (.mono begin_frame rfl)))

theorem execPmbusAlert_frame {st : List Nat} : s.frameOut [.jnl, .pwr] (execPmbusAlert st s) :=
  .guardedIn (.after alertLow_frame (.mono begin_frame rfl))

theorem execVidTrimWrite_frame {path k data : Nat} :
    s.frameOut [.jnl, .pwr, .waiting, .free] (execVidTrimWrite path k data s) :=
  .guarded (.after trimWrite_frame (.mono begin_frame rfl))

theorem execPllLossOfLock_frame {k : Nat} :
    s.frameOut [.tun, .links, .planes, .sch, .dram, .dsp, .sto, .brg, .net, .usb, .tim, .eng, .mgt, .jnl, .pwr, .waiting,
      .rst, .free] (execPllLossOfLock k s) :=
  .guardedIn (.after lockLost_frame (.mono begin_frame rfl))

theorem execAonTrim_frame {ppm : Int} : s.frameOut [] (execAonTrim ppm s) := .guardedIn (.after wr_frame begin_frame)

theorem execDramSelfRefreshEntry_frame : s.frameOut [.pwr] (execDramSelfRefreshEntry s) :=
  .nextIn (.after (.ite selfRefresh_frame (.refl _)) (.mono begin_frame rfl))

end Sys2Proof.Machine.State
end

section
/-! SUPPORT. The frames of the routing of an access to its command. -/

namespace Sys2Proof.Machine.State

variable {s : State}

theorem cmdTraffic_frame {path i a data : Nat} :
    s.frameOpt [.tun, .links, .planes, .mcg, .rgm, .sch, .dsp, .brg, .tim, .jnl, .waiting, .free] (s.cmdTraffic path i a
      data) := by
  unfold cmdTraffic
  split
  · exact .some (ran_frame (.mono execTmapReadA_frame rfl))
  · exact .some (ran_frame (.mono execTmapReadB_frame rfl))
  · exact .some (ran_frame (.mono execTmapStage_frame rfl))
  · exact .some (ran_frame (.mono execTmapCommit_frame rfl))
  · exact .some (ran_frame (.mono execTmapDiscard_frame rfl))
  · exact .some (ran_frame (.mono execTmapReadStaged_frame rfl))
  · exact .some (.mono tmapResult_frame rfl)
  · exact .some (ran_frame (.mono execLinkEnWrite_frame rfl))
  · exact .some (ran_frame (.mono execLinkRetrain_frame rfl))
  · exact .some (.refl _)
  · exact .some (ran_frame (.mono execLaneSubstitute_frame rfl))
  · exact .some (ran_frame (.mono execLaneRequalify_frame rfl))
  · exact .some (ran_frame (.mono execLaneRelearn_frame rfl))
  · exact .some (.refl _)
  · exact .some (ran_frame (.mono execAltModeWrite_frame rfl))
  · exact .some (ran_frame (.ite (.mono execPlaneEnable_frame rfl) (.mono execPlaneDisable_frame rfl)))
  · exact .some (ran_frame (.mono execPlaneRestartCmd_frame rfl))
  · exact .some (.mono wr_frame rfl)
  · exact .some (ran_frame (.mono execMcgRead_frame rfl))
  · exact .some (ran_frame (.mono execMcgStage_frame rfl))
  · exact .some (ran_frame (.mono execMcgCommit_frame rfl))
  · exact .some (ran_frame (.mono execMcgDiscard_frame rfl))
  · exact .some (ran_frame (.mono execMcgReadStaged_frame rfl))
  · exact .some (.mono mcgResult_frame rfl)
  · exact .some (ran_frame (.mono execRgmHandover_frame rfl))
  · exact .some (ran_frame (.mono execRgmSwapLive_frame rfl))
  · exact .some (.mono wr_frame rfl)
  · exact .none

theorem cmdSched_frame {path j a data : Nat} : s.frameOpt [.sch, .tim, .jnl, .waiting] (s.cmdSched path j a data) := by
  unfold cmdSched
  split
  · exact .some (ran_frame (.mono execSchRelSet_frame rfl))
  · exact .some (ran_frame (.mono execSchRelSet_frame rfl))
  · exact .some (ran_frame (.mono execSchRelClr_frame rfl))
  · exact .some (ran_frame (.mono execSchRelClr_frame rfl))
  · exact .some (ran_frame (.mono execSchQRead_frame rfl))
  · exact .some (ran_frame (.mono execSchQWrite_frame rfl))
  · exact .some (.after (.mono nextIndex_frame rfl) (.mono wr_frame rfl))
  · exact .some (ran_frame (.mono execSchAlRead_frame rfl))
  · exact .some (ran_frame (.mono execSchAlWrite_frame rfl))
  · exact .some (ran_frame (.mono execSchAlReadPending_frame rfl))
  · exact .some (.mono schAlDone_frame rfl)
  · exact .some (ran_frame (.mono execSchPolRead_frame rfl))
  · exact .some (ran_frame (.mono execSchPolWrite_frame rfl))
  · exact .some (ran_frame (.mono execSchPolClearCnt_frame rfl))
  · exact .some (.mono schPolDone_frame rfl)
  · exact .some (ran_frame (.mono execSchSmpRead_frame rfl))
  · exact .some (ran_frame (.mono execSchSmpClear_frame rfl))
  · exact .some (.refl _)
  · exact .some (ran_frame (.mono execHistSelWrite_frame rfl))
  · exact .some (ran_frame (.mono execTimeSet_frame rfl))
  · exact .some (ran_frame (.mono execTimeStep_frame rfl))
  · exact .some (ran_frame (.mono execTimeSlew_frame rfl))
  · exact .some (ran_frame (.mono execSlewAbort_frame rfl))
  · exact .some (ran_frame (.mono execTimeCapture_frame rfl))
  · exact .some (.mono timResult_frame rfl)
  · exact .some (ran_frame (.mono execFadjWrite_frame rfl))
  · exact .some (ran_frame (.mono execPtpQualWrite_frame rfl))
  · exact .some (ran_frame (.mono execJnlTailWrite_frame rfl))
  · exact .none

theorem cmdAdapters_frame {path i j a data : Nat} :
    s.frameOpt [.tun, .links, .planes, .sch, .dram, .dsp, .sto, .brg, .jnl, .pwr, .waiting, .free] (s.cmdAdapters path i j a
      data) := by
  unfold cmdAdapters
  dsimp only
  split
  · exact .some (ran_frame (.mono execAuxNativeRead_frame rfl))
  · exact .some (ran_frame (.mono execAuxNativeWrite_frame rfl))
  · exact .some (ran_frame (.mono execAuxI2cRead_frame rfl))
  · exact .some (ran_frame (.mono execAuxI2cWrite_frame rfl))
  · exact .some (.mono wr_frame rfl)
  · exact .some (ran_frame (.ite (.mono execSourceEnable_frame rfl) (.mono execSourceDisable_frame rfl)))
  · exact .some (ran_frame (.ite (.mono execRootPortEnable_frame rfl) (.mono execRootPortDisable_frame rfl)))
  · exact .some (ran_frame (.mono execControllerResetCmd_frame rfl))
  · exact .some (.after (.mono set_free_frame rfl) (ran_frame (.mono execRpRescan_frame rfl)))
  · exact .some (.mono wr_frame rfl)
  · exact .some (ran_frame (.ite (.mono execBlockTunnelEnable_frame rfl) (.mono execBlockTunnelDisable_frame rfl)))
  · exact .some (ran_frame (.mono execHbrFence_frame rfl))
  · exact .some (.ite (ran_frame (.mono execHbrSemRelease_frame rfl)) (.refl _))
  · exact .some (ran_frame (.ite (.mono execWindowEnable_frame rfl) (.mono execWindowDisable_frame rfl)))
  · exact .some (ran_frame (.ite (.mono execWindowEnable_frame rfl) (.mono execWindowDisable_frame rfl)))
  · exact .some (ran_frame (.mono execMrtRead_frame rfl))
  · exact .some (ran_frame (.mono execMrtWrite_frame rfl))
  · exact .some (ran_frame (.mono execMrtClear_frame rfl))
  · exact .some (.mono mrtDone_frame rfl)
  · exact .none

theorem cmdEngines_frame {path i a data : Nat} :
    s.frameOpt [.tun, .links, .planes, .sch, .net, .usb, .eng, .jnl, .pwr, .waiting, .free] (s.cmdEngines path i a data) := by
  unfold cmdEngines
  dsimp only
  split
  · exact .some (ran_frame (.ite (.mono execMacEnable_frame rfl) (.mono execMacDisable_frame rfl)))
  · exact .some (ran_frame (.mono execEthClsRead_frame rfl))
  · exact .some (ran_frame (.mono execEthClsWrite_frame rfl))
  · exact .some (.mono clsDone_frame rfl)
  · exact .some (ran_frame (.mono execEthEgbRead_frame rfl))
  · exact .some (ran_frame (.mono execEthEgbWrite_frame rfl))
  · exact .some (.mono egbDone_frame rfl)
  · exact .some (ran_frame (.mono execUsbFunctionEnWrite_frame rfl))
  · exact .some (ran_frame (.ite (.mono execUsbEpEnable_frame rfl) (.mono execUsbEpDisable_frame rfl)))
  · exact .some (ran_frame (.mono execUsbDescDataAccess_frame rfl))
  · exact .some (.ite (.after (.mono set_free_frame rfl) (ran_frame (.mono execEngineStart_frame rfl))) (ran_frame (.mono
      execEngineDisable_frame rfl)))
  · exact .some (ran_frame (.mono execEngReload_frame rfl))
  · exact .some (ran_frame (.mono execEngRestart_frame rfl))
  · exact .some (.refl _)
  · exact .some (ran_frame (.mono execEngCmdqPush_frame rfl))
  · exact .some (ran_frame (.mono execEngCacheLoad_frame rfl))
  · exact .some (ran_frame (.mono execEngCacheEvict_frame rfl))
  · exact .some (.mono wr_frame rfl)
  · exact .some (ran_frame (.mono execEngBindRead_frame rfl))
  · exact .some (ran_frame (.mono execEngBindWrite_frame rfl))
  · exact .some (.mono wr_frame rfl)
  · exact .none

theorem cmdKeys_frame {path i j a data : Nat} :
    s.frameOpt [.tun, .planes, .mcg, .rgm, .mgt, .key, .jnl, .pwr, .waiting, .free] (s.cmdKeys path i j a data) := by
  unfold cmdKeys
  dsimp only
  split
  · exact .some (ran_frame (.mono execRestartA_frame rfl))
  · exact .some (ran_frame (.mono execRestartB_frame rfl))
  · exact .some (ran_frame (.mono execStopB_frame rfl))
  · exact .some (.mono mgtResult_frame rfl)
  · exact .some (ran_frame (.mono execFlashRead_frame rfl))
  · exact .some (ran_frame (.mono execFlashProgram_frame rfl))
  · exact .some (ran_frame (.mono execFlashErase4k_frame rfl))
  · exact .some (ran_frame (.mono execFlashErase64k_frame rfl))
  · exact .some (.mono wr_frame rfl)
  · exact .some (.after (.mono set_free_frame rfl) (ran_frame (.mono execWdtKick_frame rfl)))
  · exact .some (ran_frame (.mono execEvcFreeze_frame rfl))
  · exact .some (ran_frame (.mono execEvcClear_frame rfl))
  · exact .some (ran_frame (.mono execEvcSelWrite_frame rfl))
  · exact .some (.ite (.after (.mono keyWord_frame rfl) (.mono set_free_frame rfl)) (.mono keyWord_frame rfl))
  · exact .some (ran_frame (.mono execKeyAuthRead_frame rfl))
  · exact .some (ran_frame (.mono execKeyAuthWrite_frame rfl))
  · exact .some (ran_frame (.mono execKeyAuthLock_frame rfl))
  · exact .some (.mono authResult_frame rfl)
  · exact .some (ran_frame (.mono execDebugChallenge_frame rfl))
  · exact .some (ran_frame (.mono execDebugRespond_frame rfl))
  · exact .some (ran_frame (.mono execDebugClose_frame rfl))
  · exact .some (.mono dbgResult_frame rfl)
  · exact .some (ran_frame (.mono execTamperLock_frame rfl))
  · exact .some (ran_frame (.mono execAttest_frame rfl))
  · exact .some (.mono wr_frame rfl)
  · exact .some (ran_frame (.mono execOtpProgCodeHash_frame rfl))
  · exact .some (ran_frame (.mono execOtpProgDebugHash_frame rfl))
  · exact .some (ran_frame (.mono execOtpSetDbgNever_frame rfl))
  · exact .some (ran_frame (.mono execOtpRaiseSvn_frame rfl))
  · exact .some (.mono otpResult_frame rfl)
  · exact .none

theorem cmdPower_frame {path i j a data : Nat} :
    s.frameOpt [.tun, .links, .planes, .sch, .dram, .dsp, .sto, .brg, .net, .usb, .tim, .eng, .fus, .jnl, .pwr, .waiting,
      .rst, .free] (s.cmdPower path i j a data) := by
  unfold cmdPower
  split
  · exact .some (ran_frame (.mono execPreloadProgram_frame rfl))
  · exact .some (.mono wr_frame rfl)
  · exact .some (ran_frame (.mono execChannelDirWrite_frame rfl))
  · exact .some (ran_frame (.mono execFusClear_frame rfl))
  · exact .some (ran_frame (.mono execApplyCurve_frame rfl))
  · exact .some (ran_frame (.mono execSetHeat_frame rfl))
  · exact .some (ran_frame (.mono execPeakClr_frame rfl))
  · exact .some (ran_frame (.mono execEnergyClr_frame rfl))
  · exact .some (.mono fusResult_frame rfl)
  · exact .some (ran_frame (.mono execCpdEnableWrite_frame rfl))
  · exact .some (ran_frame (.mono execCpdSend_frame rfl))
  · exact .some (ran_frame (.mono execCpdHardReset_frame rfl))
  · exact .some (ran_frame (.mono execCpdFrsSend_frame rfl))
  · exact .some (ran_frame (.mono execCpdFrsConfirm_frame rfl))
  · exact .some (ran_frame (.mono execCpdSwapEnd_frame rfl))
  · exact .some (.mono cpdResult_frame rfl)
  · exact .some (ran_frame (.mono execPowerStateRequest_frame rfl))
  · exact .some (ran_frame (.mono execVidTrimWrite_frame rfl))
  · exact .some (ran_frame (.mono execChipRstWarm_frame rfl))
  · exact .some (.mono wr_frame rfl)
  · exact .none

theorem cmdWrite_frame {path i j a data : Nat} :
    s.frameOpt [.tun, .links, .planes, .mcg, .rgm, .sch, .dram, .dsp, .sto, .brg, .net, .usb, .tim, .eng, .mgt, .key, .fus,
      .jnl, .pwr, .waiting, .rst, .free] (s.cmdWrite path i j a data) :=
  .orElse (.orElse (.orElse (.orElse (.orElse (.mono cmdTraffic_frame rfl) (.mono cmdSched_frame rfl)) (.mono
    cmdAdapters_frame rfl)) (.mono cmdEngines_frame rfl)) (.mono cmdKeys_frame rfl)) (.mono cmdPower_frame rfl)

theorem cmdRead_frame {path i j a : Nat} :
    s.frameOpt [.brg, .net, .eng, .fus, .jnl, .csr, .waiting, .free] (s.cmdRead path i j a) := by
  unfold cmdRead
  split
  · exact .some (ran_frame (.mono execTimNowRead_frame rfl))
  · exact .some (ran_frame (.mono execHbrSemRead_frame rfl))
  · exact .some (ran_frame (.mono execMrtCauseRead_frame rfl))
  · exact .some (ran_frame (.mono execTxtsRead_frame rfl))
  · exact .some (ran_frame (.mono execUsbDescDataAccess_frame rfl))
  · exact .some (ran_frame (.mono execCpdRxRead_frame rfl))
  · split
    · exact .some (ran_frame (.mono execJnlDataRead_frame rfl))
    · exact .none
  · split
    · exact .some (ran_frame (.mono execEngRspRead_frame rfl))
    · exact .none
  · exact .none

end Sys2Proof.Machine.State
end

section
/-! SUPPORT. The frames of the accesses of the paths. -/

namespace Sys2Proof.Machine.State

variable {s : State}

theorem afterWrite_frame {old : State} {x : Place} {data : Nat} :
    s.frame [.tun, .links, .planes, .mcg, .rgm, .sch, .dsp, .sto, .brg, .net, .usb, .tim, .eng, .mgt, .jnl, .csr, .pwr,
      .waiting, .free] (s.afterWrite old x data) := by
  unfold afterWrite
  dsimp only
  split
  · exact .ite (.mono set_csr_frame rfl) (.refl _)
  · exact .mono set_csr_frame rfl
  · exact .ite (.mono wr_frame rfl) (.refl _)
  · exact .mono reselect_frame rfl
  · exact .ite (.mono set_jnl_frame rfl) (.refl _)
  · exact .mono outEnWritten_frame rfl
  · exact .mono portsOffP1_frame rfl
  · exact .mono pairBPower_frame rfl
  · exact .mono wr_frame rfl
  · exact .refl _

theorem plainWrite_frame {path addr : Nat} {x : Place} {data : Nat} :
    s.frame [.tun, .links, .planes, .mcg, .rgm, .sch, .dsp, .sto, .brg, .net, .usb, .tim, .eng, .mgt, .jnl, .csr, .pwr,
      .waiting, .free] (s.plainWrite path addr x data) :=
  .ite (.mono deny_frame rfl) (.ite (.refl _) (.ite (routing_frame (fun _ => .mono store_frame rfl)) (.after afterWrite_frame
    (.mono store_frame rfl))))

theorem applyPair_frame {path : Nat} {x : Place} {addr data : Nat} :
    s.frame [.jnl, .csr, .waiting] (s.applyPair path x addr data) := by
  unfold applyPair
  dsimp only
  split
  · exact .getD (carried_frame (fun _ => .some (ran_frame execJnlSwWrite_frame)) rfl) (.refl _)
  · split
    · exact .refl _
    · split
      · exact .ite (.after (.mono stageLo_frame rfl) (.mono put_frame rfl)) (.refl _)
      · exact .refl _

theorem forceIrq_frame {page data : Nat} : s.frame [] (s.forceIrq page data) :=
  .after (.foldl (fun _ _ => forwardIrq_frame)) (routing_frame (fun _ => .foldl (fun _ _ => wr_frame)))

theorem writeAct_frame {path addr data : Nat} : s.frame Part.all (s.writeAct path addr data) := by
  unfold writeAct
  split
  · exact .mono forceIrq_frame rfl
  · split
    · exact .ite (.mono stageLo_frame rfl) (.getD (carried_frame (fun _ => .mono cmdWrite_frame rfl) rfl) (.mono
        plainWrite_frame rfl))
    · split
      · exact .mono applyPair_frame rfl
      · exact .refl _

theorem readAct_frame {path addr : Nat} :
    s.frame [.brg, .net, .eng, .fus, .jnl, .csr, .waiting, .free] (s.readAct path addr) := by
  unfold readAct
  dsimp only
  split
  · split
    · rename_i h2
      exact .opt h2 (carried_frame (fun _ => cmdRead_frame) rfl)
    · split
      · exact .ite (.mono answer_frame rfl) (.after (.mono answer_frame rfl) (.mono setLatch_frame rfl))
      · refine .after (.mono answer_frame rfl) ?_
        split
        · exact .mono setLatch_frame rfl
        · exact .refl _
  · split
    · exact .mono answer_frame rfl
    · exact .mono answer_frame rfl

theorem captureBad_frame {path : Nat} {write : Bool} {addr data be cause : Nat} :
    s.frame [] (s.captureBad path write addr data be cause) :=
  .ite (.refl _) (.ite bump_frame (.ite (.after capture_frame bump_frame) capture_frame))

theorem csrWrite_frame {path addr data be : Nat} : s.frame Part.all (s.csrWrite path addr data be) := by
  unfold csrWrite
  dsimp only
  split
  · exact .after (.ite (.mono queueAccess_frame rfl) (.mono captureBad_frame rfl)) (.mono tlpIn_frame rfl)
  · exact .ite (gateWrite_frame (fun _ => writeAct_frame) rfl) (.mono tlpIn_frame rfl)

theorem csrRead_frame {path addr be : Nat} :
    s.frame [.brg, .net, .eng, .fus, .jnl, .csr, .waiting, .free] (s.csrRead path addr be) := by
  unfold csrRead
  split
  · exact .ite (.refl _) (.ite (.after (.mono queueAccess_frame rfl) (.mono tlpIn_frame rfl))
      (.after (.mono answer_frame rfl) (.after (.mono captureBad_frame rfl) (.mono tlpIn_frame rfl))))
  · exact .ite (gateRead_frame (fun _ => .mono readAct_frame rfl) rfl) (.ite (.refl _)
      (.ite (.after (.mono queueAccess_frame rfl) (.mono tlpIn_frame rfl)) (.after (.mono answer_frame rfl) (.mono tlpIn_frame rfl))))

theorem softResetExtra_frame {page : Nat} :
    s.frame [.tun, .links, .planes, .sch, .brg, .net, .tim, .jnl, .csr, .waiting, .free] (s.softResetExtra page) := by
  unfold softResetExtra
  dsimp only
  split
  · split
    · exact .mono linkToDown_frame rfl
    · exact .foldl (fun _ _ => .after (.mono wr_frame rfl) (.mono wr_frame rfl))
    · exact .refl _
  · split
    · exact .mono peakClear_frame rfl
    · split
      · exact .mono updTun_frame rfl
      · exact .mono wr_frame rfl
      · exact .mono wr_frame rfl
      · exact .mono updSch_frame rfl
      · exact .mono updSch_frame rfl
      · exact .after (.foldl (fun _ _ => .mono wr_frame rfl)) (.mono updTim_frame rfl)
      · exact .after (.mono set_jnl_frame rfl) (.mono wr_frame rfl)
      · exact .mono updNet_frame rfl
      · exact .after (.mono set_csr_frame rfl) (.after (.mono wr_frame rfl) (.mono wr_frame rfl))
      · exact .refl _

theorem softResetHeader_frame {page : Nat} : s.frame [.csr] (s.softResetHeader page) :=
  .after set_csr_frame (.mono eraseKeys_frame rfl)

theorem softReset_frame {page : Nat} :
    s.frame [.tun, .links, .planes, .sch, .brg, .net, .tim, .jnl, .csr, .waiting, .free] (s.softReset page) :=
  .after (.after (.mono wr_frame rfl) (.after (.mono softResetHeader_frame rfl) softResetExtra_frame)) (.ite (.refl _) (.mono
    eraseKeys_frame rfl))

theorem execRegisterWrite_frame {path addr data be : Nat} : s.frameOut Part.all (execRegisterWrite path addr data be s) :=
  .guarded (.after csrWrite_frame (.mono begin_frame rfl))

theorem execLatchingRead_frame {path addr be : Nat} :
    s.frameOut [.brg, .net, .eng, .fus, .jnl, .csr, .waiting, .free] (execLatchingRead path addr be s) :=
  .guarded (.after csrRead_frame (.mono begin_frame rfl))

theorem execHiWriteApply_frame {path addr data : Nat} : s.frameOut Part.all (execHiWriteApply path addr data s) :=
  .guarded (.after csrWrite_frame (.mono begin_frame rfl))

theorem execSoftResetRequest_frame {path page data : Nat} : s.frameOut Part.all (execSoftResetRequest path page data s) :=
  .guarded (.after csrWrite_frame (.mono begin_frame rfl))

theorem execSoftResetAct_frame {page : Nat} :
    s.frameOut [.tun, .links, .planes, .sch, .brg, .net, .tim, .jnl, .csr, .waiting, .free] (execSoftResetAct page s) :=
  .guarded (.after (.ite softReset_frame (.refl _)) (.mono begin_frame rfl))

theorem execPageLock_frame {path page data : Nat} : s.frameOut Part.all (execPageLock path page data s) :=
  .guarded (.after csrWrite_frame (.mono begin_frame rfl))

theorem execPageIrqForce_frame {path page data : Nat} : s.frameOut Part.all (execPageIrqForce path page data s) :=
  .guarded (.after csrWrite_frame (.mono begin_frame rfl))

end Sys2Proof.Machine.State
end

section
/-! SUPPORT. The frames of the access paths' commands. -/

namespace Sys2Proof.Machine.State

variable {s : State}

theorem quietRead_frame {path addr : Nat} :
    s.frame [.brg, .net, .eng, .fus, .jnl, .csr, .waiting, .free] (s.quietRead path addr).1 :=
  .after (.mono set_out_frame rfl) (.after csrRead_frame (.mono set_out_frame rfl))

theorem usbAccess_frame {write : Bool} {addr data : Nat} : s.frame Part.all (s.usbAccess write addr data) :=
  .ite (.after (.mono ep0Stall_frame rfl) (.ite csrWrite_frame (.mono quietRead_frame rfl))) (.ite (.after (.mono
    usbAnswer_frame rfl) (.ite csrWrite_frame (.mono csrRead_frame rfl))) (.ite (.after (.mono ep0Ok_frame rfl)
    csrWrite_frame) (.after (.mono ep0Send_frame rfl) (.mono quietRead_frame rfl))))

theorem vendorSetup_frame {write : Bool} {addr len : Nat} : s.frame [.usb] (s.vendorSetup write addr len) := updUsb_frame

theorem vendorRead_frame {addr len : Nat} : s.frame Part.all (s.vendorRead addr len) :=
  .after (.ite (.mono ep0Stall_frame rfl) usbAccess_frame) (.mono vendorSetup_frame rfl)

theorem vendorWrite_frame {addr len : Nat} {l : CtlStage} : s.frame Part.all (s.vendorWrite addr len l) := by
  unfold vendorWrite
  dsimp only
  split
  · exact .after (.ite (.mono ep0Stall_frame rfl) (.mono updUsb_frame rfl)) (.mono vendorSetup_frame rfl)
  · exact .ite (.after (.mono usbAnswer_frame rfl) (.mono updUsb_frame rfl)) (.refl _)
  · exact .ite (.refl _) (.after (.ite (.mono ep0Stall_frame rfl) usbAccess_frame) (.mono updUsb_frame rfl))

theorem mtunOp_frame {op addr data : Nat} : s.frame Part.all (s.mtunOp op addr data).1 := by
  unfold mtunOp
  dsimp only
  split
  · exact .refl _
  · split
    · exact .ite csrWrite_frame (.mono quietRead_frame rfl)
    · split
      · exact .ite csrWrite_frame (.mono quietRead_frame rfl)
      · split
        · exact csrWrite_frame
        · exact .mono quietRead_frame rfl

theorem mtunOps_frame {ops : List (Nat × Nat × Nat)} {r : List Byte} : s.frame Part.all (s.mtunOps ops r).1 := by
  induction ops generalizing s r with
  | nil => exact .refl s
  | cons op ops ih =>
    unfold mtunOps
    split
    · exact .ite csrWrite_frame (.mono csrRead_frame rfl)
    · exact .after ih (.after (.mono asArrived_frame rfl) mtunOp_frame)

theorem mtunRun_frame {j : MtunJob} : s.frame Part.all (s.mtunRun j) :=
  .ite (.after (.mono originUnit_frame rfl) (.after (.mono set_csr_frame rfl) mtunOps_frame)) (.after (.mono set_csr_frame
    rfl) mtunOps_frame)

theorem mtunTake_frame {x : Nat × UnitMsg} : s.frame Part.all (s.mtunTake x) := .ite (.mono set_csr_frame rfl) mtunRun_frame

theorem mtunUnit_frame {inSp : Nat} {u : UnitMsg} : s.frame Part.all (s.mtunUnit inSp u) :=
  .ite (.refl _) (.ite mtunTake_frame (.after (.mono irq_frame rfl) (.mono bump_frame rfl)))

theorem resume_frame {path : Nat} : s.frame Part.all (s.resume path) := by
  unfold resume
  split
  · exact .refl _
  · rename_i w rest _
    extract_lets pwr t back
    have ht : s.frame Part.all t := .after (.mono asArrived_frame rfl) (.mono set_waiting_frame rfl)
    have hback : ∀ t : State, t.frame Part.all (back t) :=
      fun _ => .after (.mono asArrived_frame rfl) (.mono set_waiting_frame rfl)
    refine .ite (.refl _) (.ite ?_ (.ite (.after (hback _) (.after usbAccess_frame ht)) ?_))
    · split
      · extract_lets u
        have hu : s.frame Part.all u := .after (.mono asArrived_frame rfl) (.after mtunRun_frame ht)
        exact .ite hu (.after (.foldl (fun _ _ => mtunTake_frame)) (.after (.mono set_csr_frame rfl) hu))
      · exact .after (hback _) ht
    · split
      · exact .after (hback _) (.after (.mono hostTakes_frame rfl) ht)
      · exact .after (hback _) (.after (gateWrite_frame (fun _ => .mono keyWord_frame rfl) rfl) ht)
      · exact .after (hback _) (.ite (.after csrWrite_frame ht) (.after (.mono csrRead_frame rfl) ht))

theorem autoOn_frame {d : Nat} : s.frame Part.all (s.autoOn d) :=
  .ite (.after (.foldl (fun _ _ => .ite resume_frame (.refl _))) (.mono switchDomains_frame rfl)) (.refl _)

theorem idleOff_frame {d : Nat} :
    s.frame [.tun, .links, .planes, .sch, .dsp, .sto, .brg, .net, .usb, .eng, .mgt, .jnl, .pwr, .waiting, .free] (s.idleOff
      d) :=
  .ite switchDomains_frame (.refl _)

theorem execUsbCsrRead_frame {addr len ecc : Nat} : s.frameOut Part.all (execUsbCsrRead addr len ecc s) :=
  .guardedIn (.ite (.after (ep0Ecc_frame (fun _ => vendorRead_frame) rfl) (.mono begin_frame rfl)) (.mono begin_frame rfl))

theorem execUsbCsrWrite_frame {addr len : Nat} {stage : CtlStage} {ecc : Nat} :
    s.frameOut Part.all (execUsbCsrWrite addr len stage ecc s) :=
  .guardedIn (.ite (.after (ep0Ecc_frame (fun _ => vendorWrite_frame) rfl) (.mono begin_frame rfl)) (.mono begin_frame rfl))

theorem execMtunCommand_frame {inSp : Nat} {u : UnitMsg} : s.frameOut Part.all (execMtunCommand inSp u s) :=
  .guardedIn (.after mtunUnit_frame (.mono begin_frame rfl))

theorem execAccessResume_frame {path : Nat} : s.frameOut Part.all (execAccessResume path s) :=
  .guarded (.after resume_frame (.mono begin_frame rfl))

theorem execDomainAutoPowerOn_frame {d : Nat} : s.frameOut Part.all (execDomainAutoPowerOn d s) :=
  .guardedIn (.after autoOn_frame (.mono begin_frame rfl))

theorem execDomainIdlePowerOff_frame {d : Nat} :
    s.frameOut [.tun, .links, .planes, .sch, .dsp, .sto, .brg, .net, .usb, .eng, .mgt, .jnl, .pwr, .waiting, .free]
      (execDomainIdlePowerOff d s) :=
  .guardedIn (.after idleOff_frame (.mono begin_frame rfl))

theorem execI2cWrite_frame {dev addr : Nat} {data : List Byte} : s.frameOut Part.all (execI2cWrite dev addr data s) :=
  .guardedIn (.after (.ite csrWrite_frame (.refl _)) (.mono begin_frame rfl))

theorem execI2cRead_frame {dev addr : Nat} :
    s.frameOut [.brg, .net, .eng, .fus, .jnl, .csr, .waiting, .free] (execI2cRead dev addr s) :=
  .guardedIn (.after (.ite csrRead_frame (.refl _)) (.mono begin_frame rfl))

end Sys2Proof.Machine.State
end

section
/-! SUPPORT. The frames of the nanosecond without a command. -/

namespace Sys2Proof.Machine.State

variable {s : State}

theorem expiriesStand_frame : s.frame [.tun, .links, .planes, .sch, .brg, .tim, .jnl, .waiting, .free] s.expiriesStand :=
  .foldl (fun _ _ => .ite expiryStands_frame (.refl _))

end Sys2Proof.Machine.State
end

section
/-! SUPPORT. The frame of every command, and what a step keeps. -/

namespace Sys2Proof.Machine

namespace State

variable {s : State}

/-- Every command has the frame of its own parts: an arm of the dispatch each. -/
theorem exec_frame (i : Instr) : s.frameOut i.parts (exec i s) := by
  cases i with
  | registerWrite => exact .mono execRegisterWrite_frame rfl
  | latchingRead => exact .mono execLatchingRead_frame rfl
  | hiWriteApply => exact .mono execHiWriteApply_frame rfl
  | softResetRequest => exact .mono execSoftResetRequest_frame rfl
  | softResetAct => exact .mono execSoftResetAct_frame rfl
  | pageLock => exact .mono execPageLock_frame rfl
  | pageIrqForce => exact .mono execPageIrqForce_frame rfl
  | unitIngress => exact .mono execUnitIngress_frame rfl
  | fenceArrival => exact .mono execFenceArrival_frame rfl
  | fenceTimeout => exact .mono execFenceTimeout_frame rfl
  | scrubPass => exact .mono execScrubPass_frame rfl
  | tmapReadA => exact .mono execTmapReadA_frame rfl
  | tmapReadB => exact .mono execTmapReadB_frame rfl
  | tmapStage => exact .mono execTmapStage_frame rfl
  | tmapCommit => exact .mono execTmapCommit_frame rfl
  | tmapCommitApply => exact .mono execTmapCommitApply_frame rfl
  | tmapCommitPairTimeout => exact .mono execTmapCommitPairTimeout_frame rfl
  | tmapDiscard => exact .mono execTmapDiscard_frame rfl
  | tmapReadStaged => exact .mono execTmapReadStaged_frame rfl
  | cellReceived => exact .mono execCellReceived_frame rfl
  | ackTimerExpiry => exact .mono execAckTimerExpiry_frame rfl
  | ackSend => exact .mono execAckSend_frame rfl
  | ackReceived => exact .mono execAckReceived_frame rfl
  | cellTransmit => exact .mono execCellTransmit_frame rfl
  | replayTimerExpiry => exact .mono execReplayTimerExpiry_frame rfl
  | creditReceived => exact .mono execCreditReceived_frame rfl
  | creditRefresh => exact .mono execCreditRefresh_frame rfl
  | ctlErr => exact .mono execCtlErr_frame rfl
  | capBlockSend => exact .mono execCapBlockSend_frame rfl
  | capReceived => exact .mono execCapReceived_frame rfl
  | capTimeout => exact .mono execCapTimeout_frame rfl
  | linkDownDwell => exact .mono execLinkDownDwell_frame rfl
  | linkEnWrite => exact .mono execLinkEnWrite_frame rfl
  | linkDrainTimeout => exact .mono execLinkDrainTimeout_frame rfl
  | linkRetrain => exact .mono execLinkRetrain_frame rfl
  | trainStepDone => exact .mono execTrainStepDone_frame rfl
  | trainStepTimeout => exact .mono execTrainStepTimeout_frame rfl
  | trainRetry => exact .mono execTrainRetry_frame rfl
  | laneHealthSample => exact .mono execLaneHealthSample_frame rfl
  | healthSend => exact .mono execHealthSend_frame rfl
  | healthReceived => exact .mono execHealthReceived_frame rfl
  | laneHardFail => exact .mono execLaneHardFail_frame rfl
  | substReqRepeat => exact .mono execSubstReqRepeat_frame rfl
  | substReqReceived => exact .mono execSubstReqReceived_frame rfl
  | switchReceived => exact .mono execSwitchReceived_frame rfl
  | substTimeout => exact .mono execSubstTimeout_frame rfl
  | spareLost => exact .mono execSpareLost_frame rfl
  | learningDone => exact .mono execLearningDone_frame rfl
  | laneSubstitute => exact .mono execLaneSubstitute_frame rfl
  | laneRequalify => exact .mono execLaneRequalify_frame rfl
  | laneRelearn => exact .mono execLaneRelearn_frame rfl
  | requalified => exact .mono execRequalified_frame rfl
  | altModeWrite => exact .mono execAltModeWrite_frame rfl
  | unitEnterPlane => exact .mono execUnitEnterPlane_frame rfl
  | cellSlotMatch => exact .mono execCellSlotMatch_frame rfl
  | schedStall => exact .mono execSchedStall_frame rfl
  | egressCellBoundary => exact .mono execEgressCellBoundary_frame rfl
  | planeFatalError => exact .mono execPlaneFatalError_frame rfl
  | planePowerLost => exact .mono execPlanePowerLost_frame rfl
  | planeHeartbeatMiss => exact .mono execPlaneHeartbeatMiss_frame rfl
  | planeDisable => exact .mono execPlaneDisable_frame rfl
  | planeEnable => exact .mono execPlaneEnable_frame rfl
  | planeRestartBegin => exact .mono execPlaneRestartBegin_frame rfl
  | planeRestartCmd => exact .mono execPlaneRestartCmd_frame rfl
  | planeEnterService => exact .mono execPlaneEnterService_frame rfl
  | sheepdogSweepStart => exact .mono execSheepdogSweepStart_frame rfl
  | sheepdogVisit => exact .mono execSheepdogVisit_frame rfl
  | sheepdogSweepEnd => exact .mono execSheepdogSweepEnd_frame rfl
  | mcgRead => exact .mono execMcgRead_frame rfl
  | mcgStage => exact .mono execMcgStage_frame rfl
  | mcgCommit => exact .mono execMcgCommit_frame rfl
  | mcgCommitApply => exact .mono execMcgCommitApply_frame rfl
  | mcgCommitPairTimeout => exact .mono execMcgCommitPairTimeout_frame rfl
  | mcgDiscard => exact .mono execMcgDiscard_frame rfl
  | mcgReadStaged => exact .mono execMcgReadStaged_frame rfl
  | replicaMismatch => exact .mono execReplicaMismatch_frame rfl
  | authorityClaim => exact .mono execAuthorityClaim_frame rfl
  | pairHeartbeat => exact .mono execPairHeartbeat_frame rfl
  | pairHeartbeatMiss => exact .mono execPairHeartbeatMiss_frame rfl
  | pairHalt => exact .mono execPairHalt_frame rfl
  | rgmHandover => exact .mono execRgmHandover_frame rfl
  | rgmSwapLive => exact .mono execRgmSwapLive_frame rfl
  | parkScan => exact .mono execParkScan_frame rfl
  | carouselSlotEnd => exact .mono execCarouselSlotEnd_frame rfl
  | missDeadline => exact .mono execMissDeadline_frame rfl
  | refillBoundary => exact .mono execRefillBoundary_frame rfl
  | schQRead => exact .mono execSchQRead_frame rfl
  | schQWrite => exact .mono execSchQWrite_frame rfl
  | schAlRead => exact .mono execSchAlRead_frame rfl
  | schAlWrite => exact .mono execSchAlWrite_frame rfl
  | schAlReadPending => exact .mono execSchAlReadPending_frame rfl
  | schPolRead => exact .mono execSchPolRead_frame rfl
  | schPolWrite => exact .mono execSchPolWrite_frame rfl
  | schPolClearCnt => exact .mono execSchPolClearCnt_frame rfl
  | schRelSet => exact .mono execSchRelSet_frame rfl
  | schRelClr => exact .mono execSchRelClr_frame rfl
  | samplerVisit => exact .mono execSamplerVisit_frame rfl
  | schSmpRead => exact .mono execSchSmpRead_frame rfl
  | schSmpClear => exact .mono execSchSmpClear_frame rfl
  | histSelWrite => exact .mono execHistSelWrite_frame rfl
  | timNowRead => exact .mono execTimNowRead_frame rfl
  | timeSet => exact .mono execTimeSet_frame rfl
  | timeStep => exact .mono execTimeStep_frame rfl
  | timeSlew => exact .mono execTimeSlew_frame rfl
  | slewAbort => exact .mono execSlewAbort_frame rfl
  | timeCapture => exact .mono execTimeCapture_frame rfl
  | fadjWrite => exact .mono execFadjWrite_frame rfl
  | sourceQualified => exact .mono execSourceQualified_frame rfl
  | sourceDisqualified => exact .mono execSourceDisqualified_frame rfl
  | sourceHoldExpiry => exact .mono execSourceHoldExpiry_frame rfl
  | ptpQualWrite => exact .mono execPtpQualWrite_frame rfl
  | ptpTmo => exact .mono execPtpTmo_frame rfl
  | irigFrame => exact .mono execIrigFrame_frame rfl
  | irigFault => exact .mono execIrigFault_frame rfl
  | ppsEdge => exact .mono execPpsEdge_frame rfl
  | ppsFault => exact .mono execPpsFault_frame rfl
  | holdTimeExpiry => exact .mono execHoldTimeExpiry_frame rfl
  | exchangeOriginate => exact .mono execExchangeOriginate_frame rfl
  | timeSymbolReceived => exact .mono execTimeSymbolReceived_frame rfl
  | timeEchoReceived => exact .mono execTimeEchoReceived_frame rfl
  | exchangeTimeout => exact .mono execExchangeTimeout_frame rfl
  | asymTrimReceived => exact .mono execAsymTrimReceived_frame rfl
  | ppsOutRise => exact .mono execPpsOutRise_frame rfl
  | ppsOutFall => exact .mono execPpsOutFall_frame rfl
  | journalEntryWrite => exact .mono execJournalEntryWrite_frame rfl
  | jnlTailWrite => exact .mono execJnlTailWrite_frame rfl
  | jnlDataRead => exact .mono execJnlDataRead_frame rfl
  | jnlSwWrite => exact .mono execJnlSwWrite_frame rfl
  | modeSet => exact .mono execModeSet_frame rfl
  | rectRaw => exact .mono execRectRaw_frame rfl
  | rectTile => exact .mono execRectTile_frame rfl
  | cursor => exact .mono execCursor_frame rfl
  | flip => exact .mono execFlip_frame rfl
  | displayFence => exact .mono execDisplayFence_frame rfl
  | frameStart => exact .mono execFrameStart_frame rfl
  | psrStandby => exact .mono execPsrStandby_frame rfl
  | modeChangeDone => exact .mono execModeChangeDone_frame rfl
  | copyDone => exact .mono execCopyDone_frame rfl
  | fetchStart => exact .mono execFetchStart_frame rfl
  | fetchDramUncorr => exact .mono execFetchDramUncorr_frame rfl
  | latencyToleranceUpdate => exact .mono execLatencyToleranceUpdate_frame rfl
  | underrun => exact .mono execUnderrun_frame rfl
  | hpdPlug => exact .mono execHpdPlug_frame rfl
  | hpdUnplug => exact .mono execHpdUnplug_frame rfl
  | irqHpd => exact .mono execIrqHpd_frame rfl
  | outputTrainAttemptDone => exact .mono execOutputTrainAttemptDone_frame rfl
  | auxNativeRead => exact .mono execAuxNativeRead_frame rfl
  | auxNativeWrite => exact .mono execAuxNativeWrite_frame rfl
  | auxI2cRead => exact .mono execAuxI2cRead_frame rfl
  | auxI2cWrite => exact .mono execAuxI2cWrite_frame rfl
  | auxReply => exact .mono execAuxReply_frame rfl
  | auxTimeout => exact .mono execAuxTimeout_frame rfl
  | sourceDisable => exact .mono execSourceDisable_frame rfl
  | sourceDrainTimeout => exact .mono execSourceDrainTimeout_frame rfl
  | stoCommandUnit => exact .mono execStoCommandUnit_frame rfl
  | stoDataUnit => exact .mono execStoDataUnit_frame rfl
  | stoDataTimeout => exact .mono execStoDataTimeout_frame rfl
  | nvmeCompletion => exact .mono execNvmeCompletion_frame rfl
  | stoFence => exact .mono execStoFence_frame rfl
  | stoCmdTimeout => exact .mono execStoCmdTimeout_frame rfl
  | stoAbortTimeout => exact .mono execStoAbortTimeout_frame rfl
  | rootPortEnable => exact .mono execRootPortEnable_frame rfl
  | rpBringupStepDone => exact .mono execRpBringupStepDone_frame rfl
  | controllerReadyTimeout => exact .mono execControllerReadyTimeout_frame rfl
  | rootPortDisable => exact .mono execRootPortDisable_frame rfl
  | controllerResetCmd => exact .mono execControllerResetCmd_frame rfl
  | rpRescan => exact .mono execRpRescan_frame rfl
  | controllerFatal => exact .mono execControllerFatal_frame rfl
  | rpLinkDown => exact .mono execRpLinkDown_frame rfl
  | aerMessage => exact .mono execAerMessage_frame rfl
  | blockTunnelEnable => exact .mono execBlockTunnelEnable_frame rfl
  | blockTunnelDisable => exact .mono execBlockTunnelDisable_frame rfl
  | blockTunnelDrainTimeout => exact .mono execBlockTunnelDrainTimeout_frame rfl
  | adminCommandDone => exact .mono execAdminCommandDone_frame rfl
  | queueDeleteTimeout => exact .mono execQueueDeleteTimeout_frame rfl
  | hostWrite => exact .mono execHostWrite_frame rfl
  | hostRead => exact .mono execHostRead_frame rfl
  | hostAtomic => exact .mono execHostAtomic_frame rfl
  | hostLockedRead => exact .mono execHostLockedRead_frame rfl
  | hostUnlock => exact .mono execHostUnlock_frame rfl
  | hbrFence => exact .mono execHbrFence_frame rfl
  | semaphoreAcquired => exact .mono execSemaphoreAcquired_frame rfl
  | semWaitTimeout => exact .mono execSemWaitTimeout_frame rfl
  | bridgeResponse => exact .mono execBridgeResponse_frame rfl
  | hbrReadTimeout => exact .mono execHbrReadTimeout_frame rfl
  | lockTimeout => exact .mono execLockTimeout_frame rfl
  | hbrSemRead => exact .mono execHbrSemRead_frame rfl
  | hbrSemRelease => exact .mono execHbrSemRelease_frame rfl
  | inboundData => exact .mono execInboundData_frame rfl
  | inboundReadRequest => exact .mono execInboundReadRequest_frame rfl
  | inboundWriteNp => exact .mono execInboundWriteNp_frame rfl
  | hostCompletion => exact .mono execHostCompletion_frame rfl
  | bridgeFenceUnit => exact .mono execBridgeFenceUnit_frame rfl
  | routerUnit => exact .mono execRouterUnit_frame rfl
  | routerHoldRelease => exact .mono execRouterHoldRelease_frame rfl
  | routerHoldTimeout => exact .mono execRouterHoldTimeout_frame rfl
  | msixUnmask => exact .mono execMsixUnmask_frame rfl
  | mrtCauseRead => exact .mono execMrtCauseRead_frame rfl
  | mrtRead => exact .mono execMrtRead_frame rfl
  | mrtWrite => exact .mono execMrtWrite_frame rfl
  | mrtClear => exact .mono execMrtClear_frame rfl
  | windowDisable => exact .mono execWindowDisable_frame rfl
  | windowDrainTimeout => exact .mono execWindowDrainTimeout_frame rfl
  | flr => exact .mono execFlr_frame rfl
  | hostLinkDown => exact .mono execHostLinkDown_frame rfl
  | hostLinkUp => exact .mono execHostLinkUp_frame rfl
  | ethFrameReceived => exact .mono execEthFrameReceived_frame rfl
  | ethEgressUnit => exact .mono execEthEgressUnit_frame rfl
  | ethFrameTransmit => exact .mono execEthFrameTransmit_frame rfl
  | txtsRead => exact .mono execTxtsRead_frame rfl
  | wakeFrame => exact .mono execWakeFrame_frame rfl
  | ethLinkDown => exact .mono execEthLinkDown_frame rfl
  | ethLinkUp => exact .mono execEthLinkUp_frame rfl
  | macDisable => exact .mono execMacDisable_frame rfl
  | macDrainTimeout => exact .mono execMacDrainTimeout_frame rfl
  | ethClsRead => exact .mono execEthClsRead_frame rfl
  | ethClsWrite => exact .mono execEthClsWrite_frame rfl
  | ethEgbRead => exact .mono execEthEgbRead_frame rfl
  | ethEgbWrite => exact .mono execEthEgbWrite_frame rfl
  | usbStandardRequest => exact .mono execUsbStandardRequest_frame rfl
  | usbCsrRead => exact .mono execUsbCsrRead_frame rfl
  | usbCsrWrite => exact .mono execUsbCsrWrite_frame rfl
  | usbOutPacket => exact .mono execUsbOutPacket_frame rfl
  | usbInUnit => exact .mono execUsbInUnit_frame rfl
  | usbInToken => exact .mono execUsbInToken_frame rfl
  | usbInAck => exact .mono execUsbInAck_frame rfl
  | usbFence => exact .mono execUsbFence_frame rfl
  | usbEndpointResetUnit => exact .mono execUsbEndpointResetUnit_frame rfl
  | usbEndpointHalt => exact .mono execUsbEndpointHalt_frame rfl
  | usbClearHalt => exact .mono execUsbClearHalt_frame rfl
  | usbSuspend => exact .mono execUsbSuspend_frame rfl
  | usbPort5Suspend => exact .mono execUsbPort5Suspend_frame rfl
  | usbWakeSignal => exact .mono execUsbWakeSignal_frame rfl
  | usbHostResume => exact .mono execUsbHostResume_frame rfl
  | usbBusReset => exact .mono execUsbBusReset_frame rfl
  | usbVbusChange => exact .mono execUsbVbusChange_frame rfl
  | usbFunctionEnWrite => exact .mono execUsbFunctionEnWrite_frame rfl
  | usbEpEnable => exact .mono execUsbEpEnable_frame rfl
  | usbEpDisable => exact .mono execUsbEpDisable_frame rfl
  | usbEpDrainTimeout => exact .mono execUsbEpDrainTimeout_frame rfl
  | usbOverCurrent => exact .mono execUsbOverCurrent_frame rfl
  | usbDescDataAccess => exact .mono execUsbDescDataAccess_frame rfl
  | engineUnit => exact .mono execEngineUnit_frame rfl
  | engCmdqPush => exact .mono execEngCmdqPush_frame rfl
  | engRspRead => exact .mono execEngRspRead_frame rfl
  | engineSend => exact .mono execEngineSend_frame rfl
  | checkpointDoorbell => exact .mono execCheckpointDoorbell_frame rfl
  | ckptStale => exact .mono execCkptStale_frame rfl
  | engineWatchdog => exact .mono execEngineWatchdog_frame rfl
  | engineFault => exact .mono execEngineFault_frame rfl
  | engRestart => exact .mono execEngRestart_frame rfl
  | engineReloadDone => exact .mono execEngineReloadDone_frame rfl
  | engReload => exact .mono execEngReload_frame rfl
  | reloadComplete => exact .mono execReloadComplete_frame rfl
  | engineStart => exact .mono execEngineStart_frame rfl
  | engineDisable => exact .mono execEngineDisable_frame rfl
  | engineDrainTimeout => exact .mono execEngineDrainTimeout_frame rfl
  | engCacheLoad => exact .mono execEngCacheLoad_frame rfl
  | engCacheEvict => exact .mono execEngCacheEvict_frame rfl
  | engBindRead => exact .mono execEngBindRead_frame rfl
  | engBindWrite => exact .mono execEngBindWrite_frame rfl
  | wdtKick => exact .mono execWdtKick_frame rfl
  | pairWatchdogExpiry => exact .mono execPairWatchdogExpiry_frame rfl
  | pairRestart => exact .mono execPairRestart_frame rfl
  | restartA => exact .mono execRestartA_frame rfl
  | restartB => exact .mono execRestartB_frame rfl
  | stopB => exact .mono execStopB_frame rfl
  | ecallYield => exact .mono execEcallYield_frame rfl
  | ecallSetHandler => exact .mono execEcallSetHandler_frame rfl
  | ecallIrqForward => exact .mono execEcallIrqForward_frame rfl
  | ecallMboxRead => exact .mono execEcallMboxRead_frame rfl
  | pairbFault => exact .mono execPairbFault_frame rfl
  | bootStepDone => exact .mono execBootStepDone_frame rfl
  | flashRead => exact .mono execFlashRead_frame rfl
  | flashProgram => exact .mono execFlashProgram_frame rfl
  | flashErase4k => exact .mono execFlashErase4k_frame rfl
  | flashErase64k => exact .mono execFlashErase64k_frame rfl
  | flashOpDone => exact .mono execFlashOpDone_frame rfl
  | evcSelWrite => exact .mono execEvcSelWrite_frame rfl
  | evcClear => exact .mono execEvcClear_frame rfl
  | evcFreeze => exact .mono execEvcFreeze_frame rfl
  | evcWrap => exact .mono execEvcWrap_frame rfl
  | keyAuthRead => exact .mono execKeyAuthRead_frame rfl
  | keyAuthWrite => exact .mono execKeyAuthWrite_frame rfl
  | keyAuthLock => exact .mono execKeyAuthLock_frame rfl
  | mtunCommand => exact .mono execMtunCommand_frame rfl
  | provision => exact .mono execProvision_frame rfl
  | keyLoad => exact .mono execKeyLoad_frame rfl
  | keyClear => exact .mono execKeyClear_frame rfl
  | keyGenerate => exact .mono execKeyGenerate_frame rfl
  | keyWrap => exact .mono execKeyWrap_frame rfl
  | keyDerive => exact .mono execKeyDerive_frame rfl
  | keySign => exact .mono execKeySign_frame rfl
  | keyMac => exact .mono execKeyMac_frame rfl
  | keyReadPub => exact .mono execKeyReadPub_frame rfl
  | keyReadAttPub => exact .mono execKeyReadAttPub_frame rfl
  | keyCmdComplete => exact .mono execKeyCmdComplete_frame rfl
  | otpProgCodeHash => exact .mono execOtpProgCodeHash_frame rfl
  | otpProgDebugHash => exact .mono execOtpProgDebugHash_frame rfl
  | otpSetDbgNever => exact .mono execOtpSetDbgNever_frame rfl
  | otpRaiseSvn => exact .mono execOtpRaiseSvn_frame rfl
  | otpCommandDone => exact .mono execOtpCommandDone_frame rfl
  | tamperDetected => exact .mono execTamperDetected_frame rfl
  | batLow => exact .mono execBatLow_frame rfl
  | tamperLock => exact .mono execTamperLock_frame rfl
  | attest => exact .mono execAttest_frame rfl
  | attestDone => exact .mono execAttestDone_frame rfl
  | debugChallenge => exact .mono execDebugChallenge_frame rfl
  | debugRespond => exact .mono execDebugRespond_frame rfl
  | debugClose => exact .mono execDebugClose_frame rfl
  | debugNonceExpiry => exact .mono execDebugNonceExpiry_frame rfl
  | channelEnable => exact .mono execChannelEnable_frame rfl
  | channelDisable => exact .mono execChannelDisable_frame rfl
  | channelDirWrite => exact .mono execChannelDirWrite_frame rfl
  | startConditionsMet => exact .mono execStartConditionsMet_frame rfl
  | rampComplete => exact .mono execRampComplete_frame rfl
  | startTimeout => exact .mono execStartTimeout_frame rfl
  | enhanceDone => exact .mono execEnhanceDone_frame rfl
  | passDeviceTimeout => exact .mono execPassDeviceTimeout_frame rfl
  | instantTrip => exact .mono execInstantTrip_frame rfl
  | breakerTick => exact .mono execBreakerTick_frame rfl
  | autoRetry => exact .mono execAutoRetry_frame rfl
  | reverseCurrent => exact .mono execReverseCurrent_frame rfl
  | forwardRecovery => exact .mono execForwardRecovery_frame rfl
  | faultTimerExpiry => exact .mono execFaultTimerExpiry_frame rfl
  | powerGoodUpdate => exact .mono execPowerGoodUpdate_frame rfl
  | fetShort => exact .mono execFetShort_frame rfl
  | pdOverTemp => exact .mono execPdOverTemp_frame rfl
  | seatOpen => exact .mono execSeatOpen_frame rfl
  | seatSettled => exact .mono execSeatSettled_frame rfl
  | inputOutOfRange => exact .mono execInputOutOfRange_frame rfl
  | channelSample => exact .mono execChannelSample_frame rfl
  | fusClear => exact .mono execFusClear_frame rfl
  | applyCurve => exact .mono execApplyCurve_frame rfl
  | setHeat => exact .mono execSetHeat_frame rfl
  | peakClr => exact .mono execPeakClr_frame rfl
  | energyClr => exact .mono execEnergyClr_frame rfl
  | preloadProgram => exact .mono execPreloadProgram_frame rfl
  | pdLinkUp => exact .mono execPdLinkUp_frame rfl
  | pdLinkLost => exact .mono execPdLinkLost_frame rfl
  | pdTimeCorrection => exact .mono execPdTimeCorrection_frame rfl
  | powerDieColdPowerUp => exact .mono execPowerDieColdPowerUp_frame rfl
  | vinPdLow => exact .mono execVinPdLow_frame rfl
  | cpdEnableWrite => exact .mono execCpdEnableWrite_frame rfl
  | cpdSend => exact .mono execCpdSend_frame rfl
  | cpdTransmitStart => exact .mono execCpdTransmitStart_frame rfl
  | cpdGoodcrcReceived => exact .mono execCpdGoodcrcReceived_frame rfl
  | cpdRetryTimeout => exact .mono execCpdRetryTimeout_frame rfl
  | cpdCollision => exact .mono execCpdCollision_frame rfl
  | cpdMessageReceived => exact .mono execCpdMessageReceived_frame rfl
  | cpdRxRead => exact .mono execCpdRxRead_frame rfl
  | cpdResponseTimeout => exact .mono execCpdResponseTimeout_frame rfl
  | cpdSwapEnd => exact .mono execCpdSwapEnd_frame rfl
  | cpdHardReset => exact .mono execCpdHardReset_frame rfl
  | hardResetReceived => exact .mono execHardResetReceived_frame rfl
  | psHrExpiry => exact .mono execPsHrExpiry_frame rfl
  | srcRecoverExpiry => exact .mono execSrcRecoverExpiry_frame rfl
  | recoverMaxExpiry => exact .mono execRecoverMaxExpiry_frame rfl
  | cpdFrsSend => exact .mono execCpdFrsSend_frame rfl
  | autoFrs => exact .mono execAutoFrs_frame rfl
  | frsDetected => exact .mono execFrsDetected_frame rfl
  | cpdFrsConfirm => exact .mono execCpdFrsConfirm_frame rfl
  | frsTmo => exact .mono execFrsTmo_frame rfl
  | powerStateRequest => exact .mono execPowerStateRequest_frame rfl
  | entryQuiesceDone => exact .mono execEntryQuiesceDone_frame rfl
  | regulatorAck => exact .mono execRegulatorAck_frame rfl
  | regulatorNoack => exact .mono execRegulatorNoack_frame rfl
  | regulatorRetry => exact .mono execRegulatorRetry_frame rfl
  | exitStepDone => exact .mono execExitStepDone_frame rfl
  | wakeEvent => exact .mono execWakeEvent_frame rfl
  | aonTimerWake => exact .mono execAonTimerWake_frame rfl
  | domainAutoPowerOn => exact .mono execDomainAutoPowerOn_frame rfl
  | domainIdlePowerOff => exact .mono execDomainIdlePowerOff_frame rfl
  | accessResume => exact .mono execAccessResume_frame rfl
  | i2cWrite => exact .mono execI2cWrite_frame rfl
  | i2cRead => exact .mono execI2cRead_frame rfl
  | i2cAddressMatch => exact .mono execI2cAddressMatch_frame rfl
  | pmbusAlert => exact .mono execPmbusAlert_frame rfl
  | vidTrimWrite => exact .mono execVidTrimWrite_frame rfl
  | pllLossOfLock => exact .mono execPllLossOfLock_frame rfl
  | aonTrim => exact .mono execAonTrim_frame rfl
  | rstNAssert => exact .mono execRstNAssert_frame rfl
  | rstNRelease => exact .mono execRstNRelease_frame rfl
  | chipRstWarm => exact .mono execChipRstWarm_frame rfl
  | warmReset => exact .mono execWarmReset_frame rfl
  | coldReset => exact .mono execColdReset_frame rfl
  | rootPllTimeout => exact .mono execRootPllTimeout_frame rfl
  | temperatureSample => exact .mono execTemperatureSample_frame rfl
  | dramSelfRefreshEntry => exact .mono execDramSelfRefreshEntry_frame rfl
  | pllRelock => exact .mono execPllRelock_frame rfl
  | coreDiePowerLoss => exact .mono execCoreDiePowerLoss_frame rfl
  | islandPowerLoss => exact .mono execIslandPowerLoss_frame rfl
  | hostCompletionTimeout => exact .mono execHostCompletionTimeout_frame rfl
  | hostConfigWrite => exact .mono execHostConfigWrite_frame rfl
  | downstreamPortConnect => exact .mono execDownstreamPortConnect_frame rfl
  | engineTakeEntry => exact .mono execEngineTakeEntry_frame rfl
  | engineWdtKick => exact .mono execEngineWdtKick_frame rfl
  | engineRspPost => exact .mono execEngineRspPost_frame rfl
  | engCacheLoadDone => exact .mono execEngCacheLoadDone_frame rfl
  | sourceEnable => exact .mono execSourceEnable_frame rfl
  | macEnable => exact .mono execMacEnable_frame rfl
  | windowEnable => exact .mono execWindowEnable_frame rfl
  | crossPlaneHeartbeat => exact .mono execCrossPlaneHeartbeat_frame rfl

/-- The tick of hardware time beside, what a nanosecond does without a command has a frame. -/
theorem idle_frame : ({ s with hw := s.hw + 1 } : State).frame Part.all s.idle := by
  have ht : s.frame Part.all s.begin.expiriesStand.failuresStand.mboxDrain :=
    .after (.mono mboxDrain_frame rfl) (.after (.mono failuresStand_frame rfl) (.after (.mono expiriesStand_frame rfl) (.mono begin_frame rfl)))
  obtain ⟨⟨hp, _, _⟩, hc⟩ := ht
  have hu : ({ s with hw := s.hw + 1 } : State).frame Part.all
      { s.begin.expiriesStand.failuresStand.mboxDrain with hw := s.hw + 1 } :=
    ⟨⟨hp, rfl, fun p hm => absurd (by cases p <;> decide) hm⟩, hc⟩
  unfold idle
  exact .after (.ite (.mono watchEntry_frame rfl) (.refl _)) (.after (.ite (.mono portResetsEnd_frame rfl) (.refl _))
    (.after (.ite (.mono preloadDone_frame rfl) (.refl _)) (.after (.ite (.mono tally_frame rfl) (.refl _))
    (.after (.ite (.mono tickPanel_frame rfl) (.refl _)) (.after (.ite (.mono settleClaims_frame rfl) (.refl _)) hu)))))

end State

/-- A command completes or faults by its operands alone. -/
theorem exec_guarded (i : Instr) (s : State) : ∃ t, exec i s = guarded i.wf t := by cases i <;> exact ⟨_, rfl⟩

/-- What a step takes off the queue and keeps. -/
theorem step_kept {s t : State} (h : step s = .next t) : t.pending = s.pending.tail ∧ (s.canonical → t.canonical) := by
  unfold step at h
  split at h
  next hp =>
    cases h
    obtain ⟨⟨hp', _, _⟩, hc⟩ := State.idle_frame (s := s)
    exact ⟨by rw [hp', hp]; rfl, hc⟩
  next c rest hp =>
    obtain ⟨⟨hp', _, _⟩, hc⟩ := State.exec_frame c t h
    exact ⟨by rw [hp', hp]; rfl, hc⟩

end Sys2Proof.Machine
end

section
namespace Sys2Proof.Proofs

open Sys2Proof.Machine

/-- Settles O34: every arm of the dispatch has the frame of its command's parts. -/
theorem everyCommandTouchesItsOwnParts : Obligations.EveryCommandTouchesItsOwnParts := fun i _ t h =>
  (State.exec_frame i t h).1

/-- Settles O32: a command and a nanosecond without one keep the canonical form. -/
theorem everyStepKeepsCanonicalForm : Obligations.EveryStepKeepsCanonicalForm := fun _ _ hs h => (step_kept h).2 hs

/-- Settles O3: every arm of the dispatch is guarded by the operands of its command. -/
theorem commandsCompleteWhenWellFormed : Obligations.CommandsCompleteWhenWellFormed := by
  intro i s
  obtain ⟨t, ht⟩ := exec_guarded i s
  constructor <;> intro hw
  · exact ⟨t, by rw [ht, hw]; rfl⟩
  · rw [ht, hw]
    rfl

/-- Settles O33: a step takes the front command off, and a well-formed one completes. -/
theorem everyStepServesTheQueueInOrder : Obligations.EveryStepServesTheQueueInOrder := by
  intro s
  refine ⟨fun t h => (step_kept h).1, fun hs => ?_⟩
  have hn : ∃ t, step s = .next t := by
    unfold step
    split
    · exact ⟨_, rfl⟩
    next c rest hp => exact (commandsCompleteWhenWellFormed c _).1 (by simp_all [State.safe])
  obtain ⟨t, ht⟩ := hn
  refine ⟨t, ht, ?_⟩
  unfold State.safe at hs ⊢
  rw [(step_kept ht).1]
  exact List.all_eq_true.mpr fun c hc => List.all_eq_true.mp hs c (List.mem_of_mem_tail hc)

/-- Settles O1: the queue of a state is a field of its own. -/
theorem frontCommandRuns : Obligations.FrontCommandRuns := fun _ _ _ => rfl

end Sys2Proof.Proofs
end

end

section
/-! SUPPORT. What counting an event leaves of page 0x014: all but its interrupt bits and the registers beyond its header. -/

namespace Sys2Proof.Machine

/-- A bit of page 0x014 that counting an event may change: interrupt 0, or one beyond its header. -/
def countKey (k : Nat) : Prop := k = (irqField 0).key 0x014 0 ∨ (keyPage k = 0x014 ∧ 0x40 ≤ keyAddr k % 4096)

/-- A header keeps all of its registers but that interrupt. -/
theorem countKey_header {k : Nat} (h : keyAddr k % 4096 < 0x40) (hk : k ≠ (irqField 0).key 0x014 0) : ¬ countKey k := by
  rintro (h' | ⟨-, h'⟩)
  · exact hk h'
  · omega

theorem countKey_irq {page b : Nat} (hb : b < 32) (h : page = 0x014 → b ≠ 0) : ¬ countKey ((irqField b).key page 0) := by
  have hoff : keyAddr ((irqField b).key page 0) % 4096 = 0x010 := by
    simp only [keyAddr, Field.key, irqField]
    omega
  refine countKey_header (by omega) (fun e => ?_)
  simp only [Field.key, irqField] at e
  have hp : page = 0x014 := by omega
  exact h hp (by omega)

theorem countKey_evc {c : Nat} (h : c < 64) :
    countKey (R.MGT_EVC.key 0 c) ∧ countKey (R.MGT_EVC_OVF.key 0 (c / 32)) ∧ countKey ((irqField 0).key 0x014 0) := by
  refine ⟨Or.inr ?_, Or.inr ?_, Or.inl rfl⟩ <;>
    simp only [keyPage, keyAddr, Field.key, R.MGT_EVC, R.MGT_EVC_OVF] <;> omega

namespace State

variable {s : State} {d k : Nat}

theorem countAt_keeps {c n : Nat} (hc : c < 64) (h : ¬ countKey k) : (s.countAt c n).regs.get d k = s.regs.get d k := by
  obtain ⟨hevc, hovf, -⟩ := countKey_evc hc
  have hne : ∀ x, countKey x → k ≠ x := fun x hx e => h (e ▸ hx)
  simp only [countAt]
  split
  · exact get_wr_ne (hne _ hevc)
  · rw [get_wr_ne (hne _ hovf), get_wr_ne (hne _ hevc)]

theorem tallyMsix_keeps {ev : Nat} (h : ¬ countKey k) : (s.tallyMsix ev).regs.get d k = s.regs.get d k := by
  refine foldl_get _ (fun t c hc => ?_) s
  have hc := followers_lt hc
  have hk : k ≠ (irqField 0).key 0x014 0 := fun e => h (e ▸ (countKey_evc hc).2.2)
  split
  · rw [forwardIrq_get, get_wr_ne hk, countAt_keeps hc h]
  · exact countAt_keeps hc h

theorem msixWrite_keeps {v : Nat} (h : ¬ countKey k) : (s.msixWrite v).regs.get d k = s.regs.get d k := by
  simp only [msixWrite]
  split
  · rfl
  · rw [tallyMsix_keeps h, tallyMsix_keeps h, emit_regs]

theorem notice_keeps {g : Nat} (h : ¬ countKey k) : (s.notice g).regs.get d k = s.regs.get d k := by
  simp only [notice]
  split <;> split <;> simp only [msixWrite_keeps h, pairInterrupt_get]

theorem routing_keeps {g : Nat} {act : State → State} (h : ¬ countKey k) :
    (s.routing g act).regs.get d k = (act s).regs.get d k := by
  simp only [routing]
  split
  · rfl
  · split <;> simp only [notice_keeps h]

theorem irq_keeps {page b : Nat} (h : ¬ countKey k) (hk : k ≠ (irqField b).key page 0) :
    (s.irq page b).regs.get d k = s.regs.get d k := by
  rw [irq, forwardIrq_get, routing_keeps h, get_wr_ne hk]

theorem tally_keeps {ev n : Nat} (h : ¬ countKey k) : (s.tally ev n).regs.get d k = s.regs.get d k := by
  refine foldl_get _ (fun t c hc => ?_) s
  have hc := followers_lt hc
  have hk : k ≠ (irqField 0).key 0x014 0 := fun e => h (e ▸ (countKey_evc hc).2.2)
  unfold tallyAt
  split
  · rw [irq_keeps h hk, countAt_keeps hc h]
  · exact countAt_keeps hc h

theorem tlpIn_keeps {path : Nat} (h : ¬ countKey k) : (s.tlpIn path).regs.get d k = s.regs.get d k := by
  unfold tlpIn
  split
  · exact tally_keeps h
  · rfl

theorem tlpIn_rd_keeps {path i j : Nat} {f : Field} (h : ¬ countKey (f.key i j)) : (s.tlpIn path).rd f i j = s.rd f i j :=
  tlpIn_keeps h

/-- No arrival of an access changes a page's mask. -/
theorem tlpIn_maskAllows_all (s : State) {path q addr : Nat} {w : Bool} :
    (s.tlpIn path).maskAllows q w addr = s.maskAllows q w addr := by
  have hkey : ∀ p, ¬ countKey (R.PAGE_AUTH_RD.key p 0) ∧ ¬ countKey (R.PAGE_AUTH_WR.key p 0) := fun p => by
    constructor <;> refine countKey_header ?_ ?_ <;>
      simp only [keyAddr, Field.key, R.PAGE_AUTH_RD, R.PAGE_AUTH_WR, irqField] <;> omega
  rw [maskAllows, maskNow, tlpIn_csr, tlpIn_debugOpen, tlpIn_debugCsr, tlpIn_rd_keeps (hkey _).1, tlpIn_rd_keeps (hkey _).2]
  rfl

theorem tlpIn_verdict_all (s : State) {path q addr : Nat} {w : Bool} : (s.tlpIn path).verdict q w addr = s.verdict q w addr := by
  simp only [verdict, tlpIn_noSender, tlpIn_pathHeld, tlpIn_rst, tlpIn_maskAllows_all, tlpIn_pdLinkUp, tlpIn_domainRuns]

end State

end Sys2Proof.Machine
end
section
/-! SUPPORT. The scratch register of a page. -/

namespace Sys2Proof.Machine

/-- The scratch register's place on a page. -/
def scratchPlace (page : Nat) : Place := ⟨page, ⟨0x34, 0, 1, none, false, [R.PAGE_SCRATCH]⟩, 0⟩

theorem placeAt_scratch {page : Nat} (h : pageListed page = true) :
    placeAt (page * 4096 + 0x034) = some (scratchPlace page) := by
  have hp : (page * 4096 + 0x034) / 4096 = page := by omega
  have ho : (page * 4096 + 0x034) % 4096 = 0x034 := by omega
  simp only [placeAt, hp, ho, h]
  rfl

/-- The pages of Table 18.1 lie in the 4 MB of the registers. -/
theorem pageListed_lt {page : Nat} (h : pageListed page = true) : page < 0x400 := by
  simp only [pageListed, Bool.or_eq_true, Bool.and_eq_true, beq_iff_eq, decide_eq_true_eq] at h
  omega

namespace State

variable {s : State} {page path data : Nat}

/-- A read of a register beyond the header's constants answers its value. -/
theorem readAt_placed {addr : Nat} {x : Place} (hx : placeAt addr = some x) (h0 : addr % 4096 ≠ 0x000)
    (h4 : addr % 4096 ≠ 0x004) (hC : addr % 4096 ≠ 0x00C) : s.readAt addr = s.regValue x := by
  simp only [readAt, hx]

theorem scratch_cmdWrite : s.cmdWrite path page 0 0x34 data = none := rfl

theorem scratch_cmdRead : s.cmdRead path page 0 0x34 = none := rfl

theorem scratch_value : s.regValue (scratchPlace page) = s.rd R.PAGE_SCRATCH page := by
  change 0 + s.rd R.PAGE_SCRATCH page 0 * 2 ^ 0 = _
  omega

theorem scratch_key_ne {page : Nat} : ¬ countKey (R.PAGE_SCRATCH.key page 0) := by
  refine countKey_header ?_ (fun e => ?_)
  · simp only [keyAddr, Field.key, R.PAGE_SCRATCH]
    omega
  · simp only [Field.key, R.PAGE_SCRATCH, irqField] at e
    omega

/-- A write of the scratch register stores the word, and nothing else. -/
theorem writeAct_scratch (h : pageListed page = true) (hd : data < 2 ^ 32) :
    s.writeAct path (page * 4096 + 0x034) data = s.wr R.PAGE_SCRATCH data page := by
  have hclamp : R.PAGE_SCRATCH.clamp (data / 2 ^ 0 % 2 ^ 32) = data := by
    simp only [Field.clamp, R.PAGE_SCRATCH]
    omega
  have hplain : s.plainWrite path (page * 4096 + 0x034) (scratchPlace page) data =
      s.wr R.PAGE_SCRATCH (R.PAGE_SCRATCH.clamp (data / 2 ^ 0 % 2 ^ 32)) page := by
    have hunlocked : s.lockedWrite ((page * 4096 + 0x034) / 4096) [R.PAGE_SCRATCH] data page 0 = false :=
      Bool.and_false _
    change (s.store path (page * 4096 + 0x034) data [R.PAGE_SCRATCH] page 0) = _
    rw [store, hunlocked]
    rfl
  rw [writeAct, if_neg (by omega), placeAt_scratch h]
  change (s.plainWrite path (page * 4096 + 0x034) (scratchPlace page) data) = _
  rw [hplain, hclamp]

theorem readAct_scratch (h : pageListed page = true) :
    s.readAct path (page * 4096 + 0x034) = s.answer path (s.rd R.PAGE_SCRATCH page) := by
  have hread : s.readAt (page * 4096 + 0x034) = s.rd R.PAGE_SCRATCH page :=
    (readAt_placed (placeAt_scratch h) (by omega) (by omega) (by omega)).trans scratch_value
  have hcap : capNs (page * 4096 + 0x034) = none := by
    rw [capNs, if_neg (by omega), if_neg (by omega), if_neg (by omega)]
  have hcmd : s.carried (fun s => s.cmdRead path (scratchPlace page).i (scratchPlace page).j (scratchPlace page).base) = none := rfl
  unfold readAct
  rw [placeAt_scratch h]
  dsimp only
  rw [hcmd, hcap, hread]
  rfl

end State

end Sys2Proof.Machine
end

section
namespace Sys2Proof.Proofs

open Sys2Proof.Machine Sys2Proof.Machine.State

/-- Settles O6: the write stores the word alone, and the arrival of the read on any path leaves it. -/
theorem scratchHoldsWhatIsWritten : Obligations.ScratchHoldsWhatIsWritten := by
  intro s path page data hl hd hw
  have hpage : (page * 4096 + 0x034) / 4096 = page := by omega
  have hlist : pageListed ((page * 4096 + 0x034) / 4096) = true := by rw [hpage, hl]
  have haddr : page * 4096 + 0x034 < 2 ^ 22 := by
    have := pageListed_lt hl
    omega
  have hrd : ((s.begin.tlpIn path).wr R.PAGE_SCRATCH data page).rd R.PAGE_SCRATCH page = data := by
    rw [rd_wr_same]
    exact Nat.mod_eq_of_lt hd
  refine ⟨(s.begin.tlpIn path).wr R.PAGE_SCRATCH data page, ?_, rfl, fun d k hk => get_wr_ne hk, hrd, fun q hq => ?_⟩
  · rw [exec_registerWrite hw.1 haddr hd (by decide), csrWrite_go (by omega) hlist hw, writeAct_scratch hl hd]
  · rw [exec_latchingRead hq.1 haddr (by decide), csrRead_go (by omega) hlist hq, readAct_scratch hl,
      tlpIn_rd_keeps scratch_key_ne, begin_rd, hrd]

end Sys2Proof.Proofs
end
section
/-! SUPPORT. An event that journals, and an access that a mask refuses: which registers they change, and what a refusal records. -/

namespace Sys2Proof.Machine

/-- The key of an interrupt bit lies on its page. -/
theorem irqField_keyPage {page b : Nat} (hp : page < 2 ^ 10) (hb : b < 32) : keyPage ((irqField b).key page 0) = page := by
  simp only [keyPage, keyAddr, Field.key, irqField]
  omega

namespace State

variable {s t : State}

/-! ### Events -/

theorem journalAt_get {tsw page b arg d k : Nat} (h : keyPage k ≠ 0x014) (h' : keyPage k ≠ 0x058) :
    (s.journalAt tsw page b arg).regs.get d k = s.regs.get d k := by
  have hlost : k ≠ R.MON_JNL_LOST.key 0 0 := fun e => h' (e ▸ by decide)
  have hirq : k ≠ (irqField 1).key 0x058 0 := fun e => h' (e ▸ by decide)
  unfold journalAt
  split
  · rfl
  · dsimp only
    split
    · rw [irq_get h hirq, tally_get h, bump_get hlost]
    · rfl

theorem event_get {page b arg d k : Nat} (h : keyPage k ≠ 0x014) (h' : keyPage k ≠ 0x058) (hk : k ≠ (irqField b).key page 0) :
    (s.event page b arg).regs.get d k = s.regs.get d k := by
  rw [event, journalAt_get h h', irq_get h hk]

theorem event_rd {page b arg i j : Nat} {f : Field} (h : keyPage (f.key i j) ≠ 0x014) (h' : keyPage (f.key i j) ≠ 0x058)
    (hk : f.key i j ≠ (irqField b).key page 0) : (s.event page b arg).rd f i j = s.rd f i j := event_get h h' hk

theorem event_sets {page b arg : Nat} (h : keyPage ((irqField b).key page 0) ≠ 0x014)
    (h' : keyPage ((irqField b).key page 0) ≠ 0x058) : (s.event page b arg).irqBit page b = true := by
  have hrd : (s.event page b arg).rd (irqField b) page = (s.irq page b).rd (irqField b) page := journalAt_get h h'
  rw [irqBit, hrd]
  exact irq_sets h

/-- `s` with the parts that `ps` names, the registers, what is put out and the pending MSI-X vectors of `t`. -/
def overlay (s t : State) (ps : List Part) : State :=
  { s with
    regs := t.regs, out := t.out,
    tun := if .tun ∈ ps then t.tun else s.tun, links := if .links ∈ ps then t.links else s.links,
    planes := if .planes ∈ ps then t.planes else s.planes, mcg := if .mcg ∈ ps then t.mcg else s.mcg,
    rgm := if .rgm ∈ ps then t.rgm else s.rgm, sch := if .sch ∈ ps then t.sch else s.sch,
    dram := if .dram ∈ ps then t.dram else s.dram, dsp := if .dsp ∈ ps then t.dsp else s.dsp,
    sto := if .sto ∈ ps then t.sto else s.sto,
    brg := if .brg ∈ ps then t.brg else { s.brg with pba := t.brg.pba },
    net := if .net ∈ ps then t.net else s.net, usb := if .usb ∈ ps then t.usb else s.usb,
    tim := if .tim ∈ ps then t.tim else s.tim, eng := if .eng ∈ ps then t.eng else s.eng,
    mgt := if .mgt ∈ ps then t.mgt else s.mgt, key := if .key ∈ ps then t.key else s.key,
    fus := if .fus ∈ ps then t.fus else s.fus, jnl := if .jnl ∈ ps then t.jnl else s.jnl,
    csr := if .csr ∈ ps then t.csr else s.csr,
    pwr := { (if .pwr ∈ ps then t.pwr else s.pwr) with waiting := if .waiting ∈ ps then t.pwr.waiting else s.pwr.waiting },
    rst := if .rst ∈ ps then t.rst else s.rst, free := if .free ∈ ps then t.free else s.free }

theorem eq_ite {α : Type} {c : Prop} [Decidable c] {a b x : α} (h : c → x = a) (h' : ¬c → x = b) : x = if c then a else b := by
  split
  · exact h ‹_›
  · exact h' ‹_›

/-- What an operation's frame says of the whole state. -/
theorem frame.overlay {ps : List Part} (h : s.frame ps t) : t = s.overlay t ps := by
  obtain ⟨⟨hp, hh, hs⟩, -⟩ := h
  have hpwr : t.pwr = { (if .pwr ∈ ps then t.pwr else s.pwr) with
      waiting := if .waiting ∈ ps then t.pwr.waiting else s.pwr.waiting } := by
    have hw : t.pwr.waiting = if .waiting ∈ ps then t.pwr.waiting else s.pwr.waiting := eq_ite (fun _ => rfl) (hs .waiting)
    rw [← hw]
    split
    · rfl
    · exact hs .pwr ‹_›
  have htun := eq_ite (fun _ => rfl) (hs .tun)
  have hlinks := eq_ite (fun _ => rfl) (hs .links)
  have hplanes := eq_ite (fun _ => rfl) (hs .planes)
  have hmcg := eq_ite (fun _ => rfl) (hs .mcg)
  have hrgm := eq_ite (fun _ => rfl) (hs .rgm)
  have hsch := eq_ite (fun _ => rfl) (hs .sch)
  have hdram := eq_ite (fun _ => rfl) (hs .dram)
  have hdsp := eq_ite (fun _ => rfl) (hs .dsp)
  have hsto := eq_ite (fun _ => rfl) (hs .sto)
  have hbrg := eq_ite (fun _ => rfl) (hs .brg)
  have hnet := eq_ite (fun _ => rfl) (hs .net)
  have husb := eq_ite (fun _ => rfl) (hs .usb)
  have htim := eq_ite (fun _ => rfl) (hs .tim)
  have heng := eq_ite (fun _ => rfl) (hs .eng)
  have hmgt := eq_ite (fun _ => rfl) (hs .mgt)
  have hkey := eq_ite (fun _ => rfl) (hs .key)
  have hfus := eq_ite (fun _ => rfl) (hs .fus)
  have hjnl := eq_ite (fun _ => rfl) (hs .jnl)
  have hcsr := eq_ite (fun _ => rfl) (hs .csr)
  have hrst := eq_ite (fun _ => rfl) (hs .rst)
  have hfree := eq_ite (fun _ => rfl) (hs .free)
  obtain ⟨⟩ := t
  simp only [State.overlay, mk.injEq]
  exact ⟨hp, hh, hfree, trivial, trivial, htun, hlinks, hplanes, hmcg, hrgm, hsch, hdram, hdsp, hsto, hbrg, hnet, husb, htim,
    heng, hmgt, hkey, hfus, hjnl, hcsr, hpwr, hrst⟩

/-- What touches no part but the journal leaves all but the registers, what is put out, the pending MSI-X vectors and the journal. -/
theorem frame.jnl_eq (h : s.frame [.jnl] t) : t = { s with regs := t.regs, out := t.out, brg := t.brg, jnl := t.jnl } := by
  rw [h.overlay]
  rfl

/-! ### A refused access -/

section
variable {path addr data be : Nat} {write : Bool}

/-- The keys of page 0x021 that a refusal records in. -/
theorem denyRecords_keyPage (hp : path < 8) :
    ∀ k ∈ [R.KEY_DENY.key 0 path, R.KEY_DENY_LAST_ADDR.key 0 0, R.KEY_DENY_LAST_PATH.key 0 0, R.KEY_DENY_LAST_WRITE.key 0 0,
      (irqField 0).key 0x021 0], keyPage k = 0x021 := by
  have h : ∀ p < 8, ∀ k ∈ [R.KEY_DENY.key 0 p, R.KEY_DENY_LAST_ADDR.key 0 0, R.KEY_DENY_LAST_PATH.key 0 0,
      R.KEY_DENY_LAST_WRITE.key 0 0, (irqField 0).key 0x021 0], keyPage k = 0x021 := by decide
  exact h path hp

theorem deny_get {d k : Nat} (hp : path < 8) (hk : keyPage k ∉ [0x014, 0x021, 0x058]) (hc : k / 32 ∉ captureWords (addr / 4096)) :
    (s.deny path write addr data be).regs.get d k = s.regs.get d k := by
  simp only [List.mem_cons, List.not_mem_nil, or_false, not_or] at hk
  obtain ⟨h14, h21, h58⟩ := hk
  have hne : ∀ x ∈ [R.KEY_DENY.key 0 path, R.KEY_DENY_LAST_ADDR.key 0 0, R.KEY_DENY_LAST_PATH.key 0 0,
      R.KEY_DENY_LAST_WRITE.key 0 0, (irqField 0).key 0x021 0], k ≠ x :=
    fun x hx e => h21 (e ▸ denyRecords_keyPage hp x hx)
  rw [deny, event_get h14 h58 (hne _ (by simp)), get_wr_ne (hne _ (by simp)), get_wr_ne (hne _ (by simp)),
    get_wr_ne (hne _ (by simp)), bump_get (hne _ (by simp)), capture_get hc]

/-- A refused access is counted for its path, its address, path and direction are recorded, and page 0x021 flags it (R407). -/
theorem deny_records (hp : path < 8) (ha : addr < 2 ^ 22) :
    let t := s.deny path write addr data be
    t.rd R.KEY_DENY 0 path = (if s.counting 0x021 then min (s.rd R.KEY_DENY 0 path + 1) (2 ^ R.KEY_DENY.width - 1)
      else s.rd R.KEY_DENY 0 path) ∧
    t.rd R.KEY_DENY_LAST_ADDR = addr ∧ t.rd R.KEY_DENY_LAST_PATH = path ∧
    t.rd R.KEY_DENY_LAST_WRITE = (if write then 1 else 0) ∧ t.irqBit 0x021 0 = true := by
  have hdeny : ∀ p < 8, R.KEY_DENY.key 0 p ≠ R.KEY_DENY_LAST_ADDR.key 0 0 ∧ R.KEY_DENY.key 0 p ≠ R.KEY_DENY_LAST_PATH.key 0 0 ∧
      R.KEY_DENY.key 0 p ≠ R.KEY_DENY_LAST_WRITE.key 0 0 ∧ R.KEY_DENY.key 0 p ≠ (irqField 0).key 0x021 0 ∧
      keyPage (R.KEY_DENY.key 0 p) = 0x021 ∧ keyAddr (R.KEY_DENY.key 0 p) % 4096 ∉ [0x20, 0x24, 0x28, 0x2C] ∧
      R.KEY_DENY.key 0 p / 32 < 2 ^ 22 := by decide
  obtain ⟨h1, h2, h3, h4, h5, h6, h7⟩ := hdeny path hp
  have hwords : ∀ k, keyAddr k % 4096 ∉ [0x20, 0x24, 0x28, 0x2C] → k / 32 < 2 ^ 22 → k / 32 ∉ captureWords (addr / 4096) := by
    intro k hk hlt hm
    simp only [captureWords, keyAddr, List.mem_cons, List.not_mem_nil, or_false] at hk hm
    omega
  have hcount : (s.capture (addr / 4096) path write causeDenied (addr % 4096) data be 0).counting 0x021 = s.counting 0x021 := by
    simp only [counting, rd, Field.get]
    rw [capture_get (hwords _ (by decide) (by decide))]
  have hcnt : (s.capture (addr / 4096) path write causeDenied (addr % 4096) data be 0).rd R.KEY_DENY 0 path = s.rd R.KEY_DENY 0 path :=
    capture_get (hwords _ h6 h7)
  dsimp only [deny]
  refine ⟨?_, ?_, ?_, ?_, event_sets (by decide) (by decide)⟩
  · rw [event_rd (by rw [h5]; decide) (by rw [h5]; decide) h4, rd_wr_ne h3, rd_wr_ne h2, rd_wr_ne h1, bump_rd, hcnt]
    simp only [show R.KEY_DENY.page 0 = 0x021 from rfl, hcount]
  · rw [event_rd (by decide) (by decide) (by decide), rd_wr_ne (by decide), rd_wr_ne (by decide), rd_wr_same]
    exact Nat.mod_eq_of_lt ha
  · rw [event_rd (by decide) (by decide) (by decide), rd_wr_ne (by decide), rd_wr_same]
    exact Nat.mod_eq_of_lt hp
  · rw [event_rd (by decide) (by decide) (by decide), rd_wr_same]
    cases write <;> rfl

/-- An access that arrives and is refused leaves the hub as R407 says. -/
theorem deny_denied {q : Nat} (hp : path < 8) (ha : addr < 2 ^ 22) :
    s.denied ((s.begin.tlpIn q).deny path write addr data be) path write addr := by
  have hrd : ∀ (f : Field) (j : Nat), keyPage (f.key 0 j) ≠ 0x014 → (s.begin.tlpIn q).rd f 0 j = s.rd f 0 j :=
    fun f j h => tlpIn_rd s.begin q h
  have hframe : s.frame [.jnl] ((s.begin.tlpIn q).deny path write addr data be) :=
    .after deny_frame (.after (.any tlpIn_frame) (.any begin_frame))
  have hkey : keyPage (R.KEY_DENY.key 0 path) = 0x021 := denyRecords_keyPage hp _ (by simp)
  obtain ⟨hcnt, haddr, hpath, hwrite, hirq⟩ := deny_records (s := s.begin.tlpIn q) (write := write) (data := data) (be := be) hp ha
  refine ⟨hframe.jnl_eq, fun d k hk hc => ?_, ?_, haddr, hpath, hwrite, hirq⟩
  · rw [deny_get hp hk hc, tlpIn_get (by simp at hk; omega), begin_regs]
  · have hcounting : (s.begin.tlpIn q).counting 0x021 = s.counting 0x021 := by
      simp only [counting]
      rw [tlpIn_rd s.begin q (by decide), begin_rd]
    rw [hcnt, hcounting, hrd _ _ (by rw [hkey]; decide)]

end

end State

end Sys2Proof.Machine
end
section
/-! SUPPORT. What is put out stays put out while an answer is counted. -/

namespace Sys2Proof.Machine.State

variable {s t u : State}

/-- `t` has put out what `s` has, and perhaps more after it. -/
def putsMore (s t : State) : Prop := s.out <+: t.out

namespace putsMore

theorem refl (s : State) : s.putsMore s := List.prefix_refl _

theorem trans (h : s.putsMore t) (h' : t.putsMore u) : s.putsMore u := List.IsPrefix.trans h h'

theorem ite {c : Prop} [Decidable c] (h : s.putsMore t) (h' : s.putsMore u) : s.putsMore (if c then t else u) := by
  split
  · exact h
  · exact h'

theorem foldl {α : Type} {f : State → α → State} (hf : ∀ (s : State) (x : α), s.putsMore (f s x)) (l : List α) (s : State) :
    s.putsMore (l.foldl f s) := by
  induction l generalizing s with
  | nil => exact refl s
  | cons x l ih => exact (hf s x).trans (ih (f s x))

theorem same (h : t.out = s.out) : s.putsMore t := by
  rw [putsMore, h]

theorem mem (h : s.putsMore t) {e : Emit} (he : e ∈ s.out) : e ∈ t.out := h.subset he

end putsMore

theorem emit_putsMore (s : State) (e : Emit) : s.putsMore (s.emit e) := List.prefix_append _ _

theorem wr_putsMore (s : State) (f : Field) (v i j : Nat) : s.putsMore (s.wr f v i j) := putsMore.refl s

theorem countAt_putsMore (s : State) (c n : Nat) : s.putsMore (s.countAt c n) := by
  unfold countAt
  exact .ite (wr_putsMore ..) ((wr_putsMore ..).trans (wr_putsMore ..))

theorem forwardIrq_putsMore (s : State) (page b : Nat) : s.putsMore (s.forwardIrq page b) := .ite (emit_putsMore ..) (.refl s)

theorem tallyMsix_putsMore (s : State) (ev : Nat) : s.putsMore (s.tallyMsix ev) :=
  .foldl (fun s c => .ite (((countAt_putsMore s c 1).trans (wr_putsMore ..)).trans (forwardIrq_putsMore ..)) (countAt_putsMore s c 1)) _ s

theorem msixWrite_putsMore (s : State) (v : Nat) : s.putsMore (s.msixWrite v) := by
  unfold msixWrite
  exact .ite (.same rfl) (((emit_putsMore ..).trans (tallyMsix_putsMore ..)).trans (tallyMsix_putsMore ..))

theorem pairInterrupt_putsMore (s : State) (g : Nat) : s.putsMore (s.pairInterrupt g) :=
  .ite (emit_putsMore ..) (.ite (emit_putsMore ..) (.refl s))

theorem notice_putsMore (s : State) (g : Nat) : s.putsMore (s.notice g) := by
  have h : s.putsMore (if (s.rd R.MON_ROUTE_MGT).testBit g then s.pairInterrupt g else s) :=
    .ite (pairInterrupt_putsMore ..) (.refl s)
  unfold notice
  exact .ite (h.trans (msixWrite_putsMore ..)) h

theorem routing_putsMore {act : State → State} (s : State) (g : Nat) (h : s.putsMore (act s)) : s.putsMore (s.routing g act) := by
  unfold routing
  exact .ite h (.ite (h.trans (notice_putsMore ..)) ((h.trans (notice_putsMore ..)).trans (notice_putsMore ..)))

theorem irq_putsMore (s : State) (page b : Nat) : s.putsMore (s.irq page b) :=
  (routing_putsMore s (page / 32) (wr_putsMore ..)).trans (forwardIrq_putsMore ..)

theorem tallyAt_putsMore (s : State) (c n : Nat) : s.putsMore (s.tallyAt c n) :=
  .ite ((countAt_putsMore s c n).trans (irq_putsMore ..)) (countAt_putsMore s c n)

theorem tally_putsMore (s : State) (ev n : Nat) : s.putsMore (s.tally ev n) := .foldl (fun s c => tallyAt_putsMore s c n) _ s

/-- The answer of a read is put out, whatever counts it. -/
theorem answer_mem (s : State) (path v : Nat) : .csr path v ∈ (s.answer path v).out := by
  refine putsMore.mem (s := s.emit (.csr path v)) ?_ (by simp [emit])
  exact .ite (tally_putsMore ..) (.refl _)

/-- An answer adds nothing to what a refusal touches. -/
theorem denied_answer {path addr v : Nat} {write : Bool} (hp : path < 8) (h : s.denied t path write addr) (hf : s.frame [.jnl] (t.answer path v)) :
    s.denied (t.answer path v) path write addr := by
  obtain ⟨-, hget, hcnt, haddr, hpath, hwrite, hirq⟩ := h
  have hrd : ∀ (f : Field) (i j : Nat), keyPage (f.key i j) ≠ 0x014 → (t.answer path v).rd f i j = t.rd f i j :=
    fun f i j h => answer_get h
  have hkey : keyPage (R.KEY_DENY.key 0 path) = 0x021 := denyRecords_keyPage hp _ (by simp)
  refine ⟨hf.jnl_eq, fun d k hk hc => ?_, ?_, ?_, ?_, ?_, ?_⟩
  · rw [answer_get (by simp at hk; omega), hget d k hk hc]
  · rw [hrd _ _ _ (by rw [hkey]; decide), hcnt]
  · rw [hrd _ _ _ (by decide), haddr]
  · rw [hrd _ _ _ (by decide), hpath]
  · rw [hrd _ _ _ (by decide), hwrite]
  · rw [irqBit, hrd _ _ _ (by decide)]
    exact hirq

/-- The mask decides an access of a path that nothing else holds. -/
theorem verdict_denied {path addr : Nat} {write : Bool} (hn : s.noSender path = false) (hh : s.pathHeld path = false)
    (hr : s.rst.held = false) (hm : s.maskAllows path write addr = false) : s.verdict path write addr = .denied := by
  simp [verdict, hn, hh, hr, hm]

end Sys2Proof.Machine.State
end

section
namespace Sys2Proof.Proofs

open Sys2Proof.Machine Sys2Proof.Machine.State

/-- Settles O9: the gate refuses, the refusal writes the capture registers of the page and the records of page 0x021, and its event reaches the interrupts and the journal's queue alone. -/
theorem refusedAccessesChangeNothing : Obligations.RefusedAccessesChangeNothing := by
  intro s path addr data hp ha h4 hd hl hn hr hh _
  refine ⟨fun hm hc => ?_, fun hm => ?_⟩
  · refine ⟨(s.begin.tlpIn path).deny path true addr data 0xF, ?_, deny_denied hp ha⟩
    have hv : s.begin.writeVerdict path addr data = .denied := by
      rw [writeVerdict, show s.begin.verdict path true addr = .denied from verdict_denied hn hh hr hm, hc]
      rfl
    rw [exec_registerWrite hp ha hd (by decide)]
    simp only [csrWrite, badAccess_none h4, hl, if_true, gateWrite, hv]
  · refine ⟨((s.begin.tlpIn path).deny path false addr 0 0xF).answer path 0xFFFFFFFF, ?_, ?_, answer_mem ..⟩
    · have hv : s.begin.verdict path false addr = .denied := verdict_denied hn hh hr hm
      rw [exec_latchingRead hp ha (by decide)]
      simp only [csrRead, badAccess_none h4, hl, if_true, gateRead, hv]
    · exact denied_answer hp (deny_denied hp ha)
        (.after (.any answer_frame) (.after deny_frame (.after (.any tlpIn_frame) (.any begin_frame))))

end Sys2Proof.Proofs
end
section
/-! SUPPORT. An access that waits (R521): which access decisions it changes. -/

namespace Sys2Proof.Machine.State

variable {s : State} {path addr data : Nat}

theorem queueAccess_waits (s : State) (w : WaitingAccess) : (s.queueAccess w).pathHeld w.path = true := by
  simp [pathHeld, queueAccess]

theorem queueAccess_pathHeld (s : State) {w : WaitingAccess} {q : Nat} (hq : q ≠ w.path) :
    (s.queueAccess w).pathHeld q = s.pathHeld q := by
  have hne : (w.path == q) = false := beq_false_of_ne (Ne.symm hq)
  simp [pathHeld, creditsHeld, queueAccess, hne]

/-- An access that waits decides nothing of another path's. -/
theorem queueAccess_verdict (s : State) {w : WaitingAccess} {q addr : Nat} {write : Bool} (hq : q ≠ w.path) :
    (s.queueAccess w).verdict q write addr = s.verdict q write addr := by
  simp only [verdict, queueAccess_pathHeld s hq]
  rfl

theorem verdict_held {write : Bool} (hn : s.noSender path = false) (hh : s.pathHeld path = true) :
    s.verdict path write addr = .waits := by
  simp [verdict, hn, hh]

/-- Whatever a path sends to a listed page while it waits joins what waits. -/
theorem csrWrite_held {be : Nat} (hl : pageListed (addr / 4096) = true) (hn : s.noSender path = false) (hh : s.pathHeld path = true) :
    s.csrWrite path addr data be =
      (s.tlpIn path).queueAccess { path := path, write := true, addr := addr, data := data, be := be } := by
  unfold csrWrite
  split
  · simp [hn, hh]
  · rename_i hb
    have hbe : be = 0xF := by
      by_contra hne
      simp [badAccess, hne] at hb
    have hv : s.writeVerdict path addr data = .waits := by
      rw [writeVerdict, verdict_held hn hh]
    simp only [hl, if_true, gateWrite, hv, hbe]

end Sys2Proof.Machine.State
end

section
namespace Sys2Proof.Proofs

open Sys2Proof.Machine Sys2Proof.Machine.State

/-- Settles O10: the gate makes the access wait, which holds its path, and no other path's accesses depend on that. -/
theorem waitingAccessHoldsItsPathOnly : Obligations.WaitingAccessHoldsItsPathOnly := by
  intro s path addr data hp ha h4 hd hl hn hr hh hm hdom hrun
  set t := (s.begin.tlpIn path).queueAccess { path := path, write := true, addr := addr, data := data } with ht
  have hverdict : s.begin.verdict path true addr = .waits := by
    change s.verdict path true addr = .waits
    simp [verdict, hn, hh, hr, hm, hdom, hrun]
  have hmask : (s.begin.tlpIn path).maskAllows path true addr = true := (tlpIn_maskAllows_all ..).trans hm
  have hsender : t.noSender path = false := (tlpIn_noSender s.begin path path).trans hn
  have hheld : t.pathHeld path = true := queueAccess_waits ..
  refine ⟨t, ?_, ?_, fun w a => verdict_held hsender hheld, fun q w a hq => ?_, fun a d be ha hd hb hl => ?_⟩
  · have hv : s.begin.writeVerdict path addr data = .waits := by rw [writeVerdict, hverdict]
    rw [exec_registerWrite hp ha hd (by decide)]
    simp only [csrWrite, badAccess_none h4, hl, if_true, gateWrite, hv, ht]
  · rw [ht, queueAccess, hmask, tlpIn_pwr]
    rfl
  · rw [ht, queueAccess_verdict _ hq, tlpIn_verdict_all]
    rfl
  · rw [exec_registerWrite hp ha hd hb, csrWrite_held (s := t.begin) hl hsender hheld]

end Sys2Proof.Proofs
end
section
/-! SUPPORT. A forced interrupt (R551): which bits it sets. -/

namespace Sys2Proof.Machine.State

variable {s : State}

theorem signalsOnly.shared {t : State} (h : s.begin.signalsOnly t) : t = { s with regs := t.regs, out := t.out, brg := t.brg } := by
  rw [h]
  rfl

theorem irqField_key_inj {page b c : Nat} (h : (irqField b).key page 0 = (irqField c).key page 0) : b = c := by
  simp only [Field.key, irqField] at h
  omega

/-- Setting a list of interrupt bits of a page sets those and leaves all other registers. -/
theorem setBits_rd {page b : Nat} (bs : List Nat) (s : State) :
    (bs.foldl (fun s b => s.wr (irqField b) 1 page) s).rd (irqField b) page = if b ∈ bs then 1 else s.rd (irqField b) page := by
  induction bs generalizing s with
  | nil => simp
  | cons c bs ih =>
    rw [List.foldl_cons, ih]
    by_cases hb : b ∈ bs
    · simp [hb]
    · by_cases hc : b = c
      · simp [hc, irqField]
      · simp [hb, hc, rd_wr_ne (fun e => hc (irqField_key_inj e))]

theorem setBits_get {page d k : Nat} (bs : List Nat) (hk : ∀ b ∈ bs, k ≠ (irqField b).key page 0) (s : State) :
    (bs.foldl (fun s b => s.wr (irqField b) 1 page) s).regs.get d k = s.regs.get d k :=
  foldl_get bs (fun _ b hb => get_wr_ne (hk b hb)) s

/-- The interrupts that a write of PAGE_IRQ_FORCE sets. -/
def forced (page data : Nat) : List Nat := (irqBits page).filter (fun b => data.testBit b)

theorem forceIrq_get {page data d k : Nat} (h : ¬ countKey k) :
    (s.forceIrq page data).regs.get d k = ((forced page data).foldl (fun s b => s.wr (irqField b) 1 page) s).regs.get d k := by
  dsimp only [forceIrq]
  rw [foldl_get _ (fun _ _ _ => forwardIrq_get), routing_keeps h]
  rfl

theorem forceIrq_signals {page data : Nat} : s.signalsOnly (s.forceIrq page data) :=
  (routing_signals s (page / 32) (.foldl (fun s b => wr_signals s (irqField b) 1 page 0) _ s)).trans
    (.foldl (fun s b => forwardIrq_signals s page b) _ _)

theorem forceIrq_irqBit {page data b : Nat} (hb : b < 32) (h : page = 0x014 → b ≠ 0) :
    (s.forceIrq page data).irqBit page b = (s.irqBit page b || ((irqBits page).contains b && data.testBit b)) := by
  have hrd : (s.forceIrq page data).rd (irqField b) page = if b ∈ forced page data then 1 else s.rd (irqField b) page := by
    rw [← setBits_rd]
    exact forceIrq_get (countKey_irq hb h)
  have hmem : b ∈ forced page data ↔ ((irqBits page).contains b && data.testBit b) = true := by
    simp [forced, List.mem_filter]
  rw [irqBit, irqBit, hrd]
  by_cases hm : b ∈ forced page data
  · rw [if_pos hm, hmem.mp hm, Bool.or_true]
    rfl
  · rw [if_neg hm, Bool.eq_false_iff.mpr (fun e => hm (hmem.mpr e)), Bool.or_false]

theorem irqCount_le (page : Nat) : irqCount page ≤ 32 := by
  have hite : ∀ (c : Prop) [Decidable c] (a b : Nat), a ≤ 32 → b ≤ 32 → (if c then a else b) ≤ 32 := fun c _ a b ha hb => by
    split
    · exact ha
    · exact hb
  unfold irqCount
  repeat' refine hite _ _ _ ?_ ?_
  all_goals decide

end Sys2Proof.Machine.State
end

section
namespace Sys2Proof.Proofs

open Sys2Proof.Machine Sys2Proof.Machine.State

/-- Settles O13: the write sets the bits it names that the page has, and what routes them counts on page 0x014 alone. -/
theorem forcedInterruptsSetBitsOnly : Obligations.ForcedInterruptsSetBitsOnly := by
  intro s path page data hl hd hw
  have hpage : (page * 4096 + 0x018) / 4096 = page := by omega
  have hexec : exec (.pageIrqForce path page data) s = .next ((s.begin.tlpIn path).forceIrq page data) := by
    have hw' : s.begin.csrWrite path (page * 4096 + 0x018) data = (s.begin.tlpIn path).forceIrq page data := by
      rw [csrWrite_go (by omega) (by rw [hpage, hl]) hw, writeAct, if_pos (by omega), hpage]
    change guarded (decide (path < 8) && pageListed page && decide (data < 2 ^ 32)) _ = _
    rw [hw', decide_eq_true hw.1, hl, decide_eq_true hd]
    rfl
  have hsig : s.begin.signalsOnly ((s.begin.tlpIn path).forceIrq page data) := (tlpIn_signals ..).trans forceIrq_signals
  refine ⟨_, hexec, fun b hb h => ?_, fun d k hk h14 => ?_, ?_, hsig.csr, ?_⟩
  · rw [forceIrq_irqBit hb h, irqBit, tlpIn_rd_keeps (countKey_irq hb h)]
    rfl
  · have hk14 : ¬ countKey k := by
      rintro (e | ⟨e, -⟩)
      · exact h14 (e ▸ by decide)
      · exact h14 e
    have hbits : ∀ b ∈ forced page data, k ≠ (irqField b).key page 0 := by
      intro b hb e
      have := List.mem_range.mp (List.mem_of_mem_filter (List.mem_of_mem_filter hb))
      have := irqCount_le page
      simp only [Field.key, irqField] at e
      omega
    rw [forceIrq_get hk14, setBits_get _ hbits, tlpIn_keeps hk14]
    rfl
  · rw [hsig]
    rfl
  · exact hsig.shared

end Sys2Proof.Proofs
end
section
/-! SUPPORT. The reads of a pair's halves (R7, R553). -/

namespace Sys2Proof.Machine.State

variable {s t : State} {path addr : Nat} {x : Place}

/-- Which registers a read has a command for does not depend on the state. -/
theorem cmdRead_none {i j a : Nat} (h : s.cmdRead path i j a = none) : t.cmdRead path i j a = none := by
  unfold cmdRead at h ⊢
  split at h
  case h_7 | h_8 =>
    split at h
    · cases h
    next hj => exact if_neg hj
  case h_9 => rfl
  all_goals cases h

theorem carried_none {f : State → Option State} (h : f (s.asArrived (some true)) = none) : s.carried f = none := by
  rw [carried, h]
  rfl

/-- A read of an ordinary pair's _LO answers the low half and latches the other for its path. -/
theorem readAct_pairLo (hx : placeAt addr = some x) (hp : x.reg.pair = true) (hg : groupLatch x = false)
    (hc : s.cmdRead path x.i x.j x.base = none) :
    s.readAct path addr = (s.setLatch path addr (s.readAt addr / 2 ^ 32)).answer path (s.readAt addr % 2 ^ 32) := by
  unfold readAct
  rw [hx]
  dsimp only
  rw [carried_none (cmdRead_none hc), hp, hg]
  rfl

/-- A read of an ordinary pair's _HI answers what the path has latched. -/
theorem readAct_pairHi (hx : placeAt addr = none) (hp : pairAt addr = some x) (hg : groupLatch x = false) :
    s.readAct path addr = s.answer path (s.latched path (addr - 4)) := by
  unfold readAct
  rw [hx, hp]
  dsimp only
  rw [hg]
  rfl

theorem pairKey_inj {q a : Nat} (ha : a < 2 ^ 22) (hb : addr < 2 ^ 22) (h : pairKey q a = pairKey path addr) : q = path ∧ a = addr := by
  simp only [pairKey] at h
  omega

end Sys2Proof.Machine.State
end

section
namespace Sys2Proof.Proofs

open Sys2Proof.Machine Sys2Proof.Machine.State

/-- Settles O11: the gate lets the read through to the pair's place, and the latch's key is that of the path and the pair. -/
theorem pairReadsLatchPerPath : Obligations.PairReadsLatchPerPath := by
  intro s path addr x ha h4 hx hp hg hc hoff
  obtain ⟨hlist, -⟩ := placeAt_block hx hoff
  refine ⟨fun h => ?_, fun hx' hp' hpage h => ?_⟩
  · refine ⟨_, ?_, rfl, ?_, fun q a ha' hne => ?_⟩
    · rw [exec_latchingRead h.1 ha (by decide), csrRead_go h4 hlist h, readAct_pairLo hx hp hg (cmdRead_none hc)]
    · rw [answer_latched]
      exact Tab.get_set_same ..
    · rw [answer_latched, latched, setLatch]
      refine (Tab.get_set_ne fun e => ?_).trans (tlpIn_latched ..)
      obtain ⟨hq, ha'⟩ := pairKey_inj ha' ha e
      exact hne.elim (fun f => f hq) (fun f => f ha')
  · rw [exec_latchingRead h.1 (by omega) (by decide), csrRead_go (by omega) (by rw [hpage, hlist]) h, readAct_pairHi hx' hp' hg]
    rw [Nat.add_sub_cancel, tlpIn_latched]
    rfl

end Sys2Proof.Proofs
end

section
/-! SUPPORT. DRAM, the core setpoints and the causes of the message router. -/

namespace Sys2Proof.Machine

namespace State

variable {s : State}

theorem signalsOnly.cause {t : State} (h : s.signalsOnly t) : t.brg.cause = s.brg.cause := by rw [h]

/-! ### DRAM -/

/-- The blocks that an access of DRAM counts leave its bytes. -/
theorem dramMoves_dram {ev a n : Nat} : (s.dramMoves ev a n).dram = s.dram := by
  unfold dramMoves
  split
  · rfl
  · exact tally_dram ..

theorem dramWrite_dram {a : Nat} {bs : List Byte} : (s.dramWrite a bs).dram = s.dram.setRun 0 a bs := dramMoves_dram

/-! ### Registers of the core's voltages -/

/-- The register of a setpoint. -/
def vidPlace (k : Nat) : Place := ⟨0, ⟨0x80, 0x4, 3, none, false, [R.PWR_VID]⟩, k⟩

theorem placeAt_vid {k : Nat} (hk : k < 3) : placeAt (0x31080 + 4 * k) = some (vidPlace k) ∧ capNs (0x31080 + 4 * k) = none := by
  have h : placeAt 0x31080 = some (vidPlace 0) ∧ placeAt 0x31084 = some (vidPlace 1) ∧ placeAt 0x31088 = some (vidPlace 2) := by
    decide +kernel
  obtain ⟨h0, h1, h2⟩ := h
  interval_cases k
  · exact ⟨h0, rfl⟩
  · exact ⟨h1, rfl⟩
  · exact ⟨h2, rfl⟩

theorem vid_value {k : Nat} : s.regValue (vidPlace k) = s.vid k := by
  have h1 : s.viewTraffic 0x31080 0 = none := rfl
  have h2 : s.viewTime 0x31080 0 k = none := rfl
  have h3 : s.viewAdapters 0x31080 = none := rfl
  have h4 : s.viewEngines 0x31080 0 k = none := rfl
  have h5 : s.viewControl 0x31080 0 k = some (s.vid k) := rfl
  simp only [regValue, show (vidPlace k).base = 0x31080 from rfl, show s.placeJ (vidPlace k) = k from rfl,
    show (vidPlace k).i = 0 from rfl, h1, h2, h3, h4, h5]
  rfl

/-- A register that no read takes anything from, of one word, answers its value. -/
theorem readAct_word {path addr : Nat} {x : Place} (hx : placeAt addr = some x) (hp : x.reg.pair = false) (hn : capNs addr = none)
    (hc : s.cmdRead path x.i x.j x.base = none) : s.readAct path addr = s.answer path (s.readAt addr) := by
  unfold readAct
  rw [hx]
  dsimp only
  rw [carried_none (cmdRead_none hc), hp, hn]
  rfl

theorem tlpIn_vid {path k : Nat} (hk : k < 3) : (s.tlpIn path).vid k = s.vid k := by
  have h : ∀ k < 3, keyPage (R.PWR_VIDF.key 0 k) ≠ 0x014 ∧ keyPage (R.PWR_VIDU.key 0 k) ≠ 0x014 := by decide
  obtain ⟨hf, hu⟩ := h k hk
  simp only [vid, tlpIn_rd s path hf, tlpIn_rd s path hu]

end State

end Sys2Proof.Machine
end

section
namespace Sys2Proof.Proofs

open Sys2Proof.Machine Sys2Proof.Machine.State

/-- Settles O30: a write stores a run of the table that DRAM is. -/
theorem dramHoldsWhatIsWritten : Obligations.DramHoldsWhatIsWritten := by
  intro s a bs
  refine ⟨?_, fun b hb => ?_, fun h => ?_⟩
  · rw [dramRead, dramWrite_dram]
    refine List.ext_getElem (by simp [Tab.getRun]) fun i _ hi => ?_
    simp only [Tab.getRun, List.getElem_map, List.getElem_range]
    exact Tab.get_setRun_in hi
  · simp only [dramRead, dramWrite_dram, Tab.getRun, List.map_inj_left, List.mem_range]
    intro i hi
    exact Tab.get_setRun_out (by omega)
  · rw [dramWrite_dram]
    exact Tab.wf_setRun h

/-- Settles O28: the register answers the limited sum, and the arrival of the read leaves its terms. -/
theorem coreSetpointsAreLimited : Obligations.CoreSetpointsAreLimited := by
  intro s path k hk h
  obtain ⟨hx, hn⟩ := placeAt_vid hk
  have hoff : (0x31080 + 4 * k) % 4096 = 0x80 + 4 * k := by omega
  rw [exec_latchingRead h.1 (by omega) (by decide),
    csrRead_go (by omega) (by rw [show (0x31080 + 4 * k) / 4096 = 0x31 by omega]; decide) h, readAct_word hx rfl hn rfl,
    readAt_placed hx (by omega) (by omega) (by omega), vid_value, tlpIn_vid hk]
  rfl

/-- Settles O24: the read takes the front of the queue of causes. -/
theorem causeQueueIsFirstInFirstOut : Obligations.CauseQueueIsFirstInFirstOut := by
  intro s path h
  have hexec : exec (.mrtCauseRead path) s = .next ((s.begin.tlpIn path).causeRead path) := by
    change guarded (decide (path < 8)) (s.begin.gateRead path mrtCauseAddr _) = _
    rw [decide_eq_true h.1, letsRead_act h]
    rfl
  have hcause : (s.begin.tlpIn path).brg.cause = s.brg.cause := (tlpIn_signals ..).cause
  refine ⟨fun hc => ?_, fun v l rest hc => ⟨_, _, hexec, rfl, ?_, ?_⟩⟩
  · rw [hexec, causeRead, hcause, hc]
  · rw [causeRead, hcause, hc]
    rfl
  · rw [causeRead, hcause, hc]
    exact (answer_signals ..).cause

end Sys2Proof.Proofs
end
section
namespace Sys2Proof.Proofs

open Sys2Proof.Machine Sys2Proof.Machine.State

/-- A register of the hub right after reset holds its reset value. -/
theorem reset_rd (f : Field) (i j : Nat) : State.reset.rd f i j = f.resetAt i j := rfl

/-- Settles O31: no table of the reset state lists anything, so that every register reads its reset value. -/
theorem resetState : Obligations.ResetState := by
  refine ⟨rfl, ⟨rfl, List.Pairwise.nil⟩, rfl, rfl, rfl, rfl, rfl, fun n _ => rfl, fun p _ _ => ?_, rfl⟩
  rw [reset_rd, reset_rd]
  simp [Field.resetAt, R.PAGE_AUTH_RD, R.PAGE_AUTH_WR]

end Sys2Proof.Proofs
end
section
/-! SUPPORT. What the receive side of a link keeps (R68): the expected sequence and the cells held out of order. -/

namespace Sys2Proof.Machine.State

variable {s t u : State} {n : Nat}

/-- `t` expects the cell that `s` expects on link `n`, and holds the same cells out of order. -/
def rxKept (s t : State) (n : Nat) : Prop := (t.link n).ne = (s.link n).ne ∧ (t.link n).landing = (s.link n).landing

namespace rxKept

theorem refl (s : State) (n : Nat) : s.rxKept s n := ⟨rfl, rfl⟩

theorem trans (h : s.rxKept t n) (h' : t.rxKept u n) : s.rxKept u n := ⟨h'.1.trans h.1, h'.2.trans h.2⟩

theorem ite {c : Prop} [Decidable c] (h : s.rxKept t n) (h' : s.rxKept u n) : s.rxKept (if c then t else u) n := by
  split
  · exact h
  · exact h'

theorem of_links (h : t.links = s.links) : s.rxKept t n := by
  constructor <;> rw [link, h, link]

theorem updLink {f : Link → Link} (h : (f (s.link n)).ne = (s.link n).ne) (h' : (f (s.link n)).landing = (s.link n).landing) :
    s.rxKept (s.updLink n f) n := by
  rw [rxKept, State.updLink, link_setLink_same]
  exact ⟨h, h'⟩

theorem setLink {l : Link} (h : l.ne = (s.link n).ne) (h' : l.landing = (s.link n).landing) : s.rxKept (s.setLink n l) n := by
  rw [rxKept, link_setLink_same]
  exact ⟨h, h'⟩

end rxKept

/-- A part that an operation's frame does not name stays. -/
theorem frame.part {ps : List Part} (h : s.frame ps t) (p : Part) (hp : decide (p ∈ ps) = false) : s.samePart t p :=
  h.1.2.2 p (of_decide_eq_false hp)

theorem ackTrigger_rxKept (s : State) (n : Nat) : s.rxKept (s.ackTrigger n) n := .updLink rfl rfl

theorem ackCount_rxKept (s : State) (n : Nat) : s.rxKept (s.ackCount n) n := by
  have h : s.rxKept (s.updLink n fun l => { l with ackCells := l.ackCells + 1, ackArmed := true }) n := .updLink rfl rfl
  exact .ite (h.trans (ackTrigger_rxKept ..)) h

theorem noteSeq_rxKept (s : State) (n sq : Nat) : s.rxKept (s.noteSeq n sq) n := by
  refine .updLink ?_ ?_ <;> dsimp only <;> split <;> rfl

theorem keepMax_rxKept (s : State) (f : Field) (v i j : Nat) : s.rxKept (s.keepMax f v i j) n := by
  unfold keepMax
  exact .ite (.refl s n) (.ite (.of_links rfl) (.refl s n))

theorem noteSubstEnd_rxKept (s : State) (n : Nat) : s.rxKept (s.noteSubstEnd n) n := by
  unfold noteSubstEnd
  exact .ite (.refl s n) (.setLink rfl rfl)

theorem substEnds_rxKept (s : State) (n : Nat) : s.rxKept (s.substEnds n) n := by
  unfold substEnds
  split
  · dsimp only
    split
    · exact .ite ((noteSubstEnd_rxKept s n).trans ((keepMax_rxKept ..).trans (.updLink rfl rfl))) (noteSubstEnd_rxKept s n)
    · exact noteSubstEnd_rxKept s n
  · exact .refl s n

theorem duplicate_rxKept (s : State) (n : Nat) : s.rxKept (s.duplicate n) n :=
  (rxKept.of_links (bump_links ..)).trans (ackTrigger_rxKept ..)

/-- What becomes of a cell that lies past a hole and is not held yet. -/
def holdCell (s : State) (n : Nat) (c : Cell) (arrival : Nat) : State :=
  (((s.noteSeq n c.lseq).updLink n fun l =>
    { l with landing := l.landing.set none c.lseq (some (c, arrival)) }).substEnds n).ackCount n

theorem holdCell_landing {c : Cell} {arrival : Nat} :
    ((s.holdCell n c arrival).link n).landing.get none c.lseq = some (c, arrival) := by
  rw [holdCell, (ackCount_rxKept ..).2, (substEnds_rxKept ..).2, updLink, link_setLink_same]
  dsimp only
  exact Tab.get_set_same ..

theorem holdCell_ne {c : Cell} {arrival : Nat} : ((s.holdCell n c arrival).link n).ne = (s.link n).ne := by
  rw [holdCell, (ackCount_rxKept ..).1, (substEnds_rxKept ..).1, updLink, link_setLink_same]
  exact (noteSeq_rxKept ..).1

theorem holdCell_frame {c : Cell} {arrival : Nat} : s.frame [.links] (s.holdCell n c arrival) :=
  .after ackCount_frame (.after substEnds_frame (.after updLink_frame noteSeq_frame))

/-- A cell that a link in service receives whole goes by its sequence. -/
theorem exec_cellReceived {lane : Nat} {raw : List Byte} {c : Cell} (hn : n < 16) (hlane : lane < 3)
    (hd : s.domainRuns (6 + n / 4) = true) (hrun : s.linkRuns n = true) (hc : decodeCell raw = some c) :
    exec (.cellReceived n lane raw false) s = .next (s.begin.cellIn n c (s.begin.rxTsw n lane)) := by
  change execCellReceived n lane raw false s = _
  rw [execCellReceived, guardedIn_runs hd (by simp only [hn, hlane, decide_true, Bool.and_self])]
  have hrun' : s.begin.linkRuns n = true := hrun
  simp only [hrun', Bool.not_true, Bool.false_eq_true, if_false, hc]

end Sys2Proof.Machine.State
end

section
namespace Sys2Proof.Proofs

open Sys2Proof.Machine Sys2Proof.Machine.State

/-- Settles O20: the distance from the expected sequence decides, and none of the three ways moves it. -/
theorem cellSequenceRules : Obligations.CellSequenceRules := by
  intro s n lane raw c hn hlane hd hrun hc
  have hexec := exec_cellReceived hn hlane hd hrun hc
  have hlink : s.begin.link n = s.link n := rfl
  refine ⟨fun ⟨h1, h2⟩ => ?_, fun h => ?_, fun ⟨h0, h1, h2⟩ => ?_⟩
  · rw [hexec, cellIn, hlink, if_neg (by omega), if_neg (by omega), if_neg (by omega)]
  · have hdup : s.begin.cellIn n c (s.begin.rxTsw n lane) = s.begin.duplicate n := by
      rw [cellIn, hlink]
      rcases h with h | ⟨h0, h1, h2⟩
      · rw [if_neg (by omega), if_neg (by omega), if_pos h]
      · rw [if_neg h0, if_pos h1, if_pos h2]
    have hframe : s.begin.frame [.links] (s.begin.duplicate n) := duplicate_frame
    obtain ⟨hne, hland⟩ := duplicate_rxKept s.begin n
    exact ⟨_, hexec.trans (congrArg _ hdup), rfl, hne, hland, hframe.part .planes rfl, hframe.part .dram rfl⟩
  · have hheld : s.begin.cellIn n c (s.begin.rxTsw n lane) = s.begin.holdCell n c (s.begin.rxTsw n lane) := by
      rw [cellIn, hlink, if_neg h0, if_pos h1, if_neg (by rw [h2]; decide)]
      rfl
    have hframe : s.begin.frame [.links] (s.begin.holdCell n c (s.begin.rxTsw n lane)) := holdCell_frame
    refine ⟨_, hexec.trans (congrArg _ hheld), holdCell_ne, ?_, hframe.part .planes rfl, hframe.part .dram rfl⟩
    rw [holdCell_landing]
    rfl

end Sys2Proof.Proofs
end
section
/-! SUPPORT. The commands of TIM_CMD that a protection tunnel refuses (R206). -/

namespace Sys2Proof.Machine.State

variable {s : State} {path : Nat}

/-- A command of TIM_CMD that goes through while no SET or STEP waits is carried out. -/
theorem timCmd_acts {op : Nat} {act : State → State} (h : s.letsWrite path timCmdAddr) (hb : s.rd R.TIM_RESULT_BUSY = 0) :
    s.begin.timCmd path op act = act (s.begin.tlpIn path) := by
  have hbusy : (s.begin.tlpIn path).rd R.TIM_RESULT_BUSY = 0 := (tlpIn_rd s.begin path (by decide)).trans hb
  rw [timCmd, letsWrite_act h, if_neg (by rw [hbusy]; decide)]

/-- A refused time step shows PINNED and raises STEP_REFUSED, and leaves panel time. -/
theorem refuseStep_shows (s : State) (d : Int) :
    (s.refuseStep d).rd R.TIM_RESULT_LAST_RESULT = 1 ∧ (s.refuseStep d).irqBit 0x040 5 = true ∧ s.sharedOnly (s.refuseStep d) := by
  refine ⟨?_, event_sets (by decide) (by decide), (wr_shared ..).trans (event_shared ..)⟩
  rw [refuseStep, event_rd (by decide) (by decide) (by decide), rd_wr_same]
  rfl

theorem pinnedMap_tlpIn : (s.begin.tlpIn path).pinnedMap = s.pinnedMap := by
  rw [pinnedMap, tlpIn_tun]
  rfl

end Sys2Proof.Machine.State
end

section
namespace Sys2Proof.Proofs

open Sys2Proof.Machine Sys2Proof.Machine.State

/-- Settles O23: with no holdover the protection tunnel decides, and the refusal is an event beside the result. -/
theorem pinnedTunnelsRefuseTimeSteps : Obligations.PinnedTunnelsRefuseTimeSteps := by
  intro s path h hb he hpin
  have hshared : ∀ d, s.sharedOnly ((s.begin.tlpIn path).refuseStep d) := fun d =>
    ((begin_shared s).trans (tlpIn_shared ..)).trans (refuseStep_shows _ d).2.2
  have hshows : ∀ d, let t := (s.begin.tlpIn path).refuseStep d
      t.rd R.TIM_RESULT_LAST_RESULT = 1 ∧ t.irqBit 0x040 5 = true ∧ t.tim = s.tim ∧ s.sharedOnly t := fun d => by
    obtain ⟨hres, hirq, -⟩ := refuseStep_shows (s.begin.tlpIn path) d
    exact ⟨hres, hirq, (hshared d).tim, hshared d⟩
  have heng : (s.begin.tlpIn path).tim.engaged = false := by rw [tlpIn_tim, begin_tim, he]
  have hmap : (s.begin.tlpIn path).pinnedMap = true := pinnedMap_tlpIn.trans hpin
  have hexec : ∀ (i : Instr) (u : State), exec i s = guarded (decide (path < 8)) u → exec i s = .next u := fun i u hu => by
    rw [hu, decide_eq_true h.1]
    rfl
  refine ⟨⟨_, hexec _ _ rfl, ?_⟩, fun hd => ⟨_, hexec _ _ rfl, ?_⟩⟩
  · rw [timCmd_acts h hb, timeSet, heng, hmap]
    exact hshows _
  · have hstep : (s.begin.tlpIn path).rd R.TIM_STEP = s.rd R.TIM_STEP := tlpIn_rd s.begin path (by decide)
    have hlimit : (s.begin.tlpIn path).rd R.TIM_PIN_STEP = s.rd R.TIM_PIN_STEP := tlpIn_rd s.begin path (by decide)
    rw [timCmd_acts h hb, timeStep, heng, hstep, hlimit, if_neg (by decide), if_pos ⟨hmap, hd⟩]
    exact hshows _

end Sys2Proof.Proofs
end

section
/-! SUPPORT. The tamper response (R423): the registers that it writes, and what it leaves of the key store. -/

namespace Sys2Proof.Machine.State

variable {s t u : State} {p : Nat → Bool}

/-- `t` has the registers of `s`, but for those whose keys `p` allows. -/
def writesAt (s : State) (p : Nat → Bool) (t : State) : Prop := ∀ d k, p k = false → t.regs.get d k = s.regs.get d k

namespace writesAt

theorem refl (s : State) : s.writesAt p s := fun _ _ _ => rfl

/-- An operation after another. -/
theorem after (h' : t.writesAt p u) (h : s.writesAt p t) : s.writesAt p u := fun d k hk => (h' d k hk).trans (h d k hk)

theorem ite {c : Prop} [Decidable c] (h : s.writesAt p t) (h' : s.writesAt p u) : s.writesAt p (if c then t else u) := by
  split
  · exact h
  · exact h'

theorem of_regs (h : t.regs = s.regs) : s.writesAt p t := fun _ _ _ => by rw [h]

theorem rd (h : s.writesAt p t) {f : Field} {i j : Nat} (hk : p (f.key i j) = false) : t.rd f i j = s.rd f i j := h _ _ hk

theorem foldl {α : Type} {l : List α} {f : State → α → State} (h : ∀ x ∈ l, ∀ v : State, v.writesAt p (f v x)) :
    s.writesAt p (l.foldl f s) := by
  induction l generalizing s with
  | nil => exact .refl s
  | cons x xs ih =>
    exact (ih fun y hy => h y (List.mem_cons_of_mem _ hy)).after (h x List.mem_cons_self s)

end writesAt

/-- A register written under a key that `p` allows. -/
theorem wr_writesAt {f : Field} {v i j : Nat} (h : p (f.key i j) = true) : s.writesAt p (s.wr f v i j) :=
  fun _ _ hk => get_wr_ne fun e => Bool.false_ne_true (hk.symm.trans (e ▸ h))

theorem updKey_writesAt {f : KeyState → KeyState} : s.writesAt p (s.updKey f) := .of_regs rfl

theorem updPwr_writesAt {f : PwrState → PwrState} : s.writesAt p (s.updPwr f) := .of_regs rfl

theorem updTim_writesAt {f : TimeState → TimeState} : s.writesAt p (s.updTim f) := .of_regs rfl

theorem emit_writesAt {e : Emit} : s.writesAt p (s.emit e) := .of_regs rfl

theorem tookFree_writesAt : s.writesAt p s.tookFree := .of_regs rfl

theorem bump_writesAt {f : Field} {i j : Nat} (h : p (f.key i j) = true) : s.writesAt p (s.bump f i j) :=
  fun _ _ hk => bump_get fun e => Bool.false_ne_true (hk.symm.trans (e ▸ h))

theorem irq_writesAt {page b : Nat} (h : p ((irqField b).key page 0) = true) (h14 : ∀ k, keyPage k = 0x014 → p k = true) :
    s.writesAt p (s.irq page b) := fun _ _ hk =>
  irq_get (fun e => Bool.false_ne_true (hk.symm.trans (h14 _ e))) (fun e => Bool.false_ne_true (hk.symm.trans (e ▸ h)))

theorem journalAt_writesAt {tsw page b arg : Nat} (h14 : ∀ k, keyPage k = 0x014 → p k = true) (h58 : ∀ k, keyPage k = 0x058 → p k = true) :
    s.writesAt p (s.journalAt tsw page b arg) := fun _ _ hk =>
  journalAt_get (fun e => Bool.false_ne_true (hk.symm.trans (h14 _ e))) (fun e => Bool.false_ne_true (hk.symm.trans (h58 _ e)))

/-! ### The response -/

/-- The registers of the key store, with those of the interrupts', counters' and journal's machinery. -/
def tamperKey (k : Nat) : Bool := decide (keyPage k ∈ [0x014, 0x020, 0x022, 0x023, 0x024, 0x058])

theorem tamperKey_of_evc {k : Nat} (h : keyPage k = 0x014) : tamperKey k = true := by rw [tamperKey, h]; rfl

theorem tamperKey_of_journal {k : Nat} (h : keyPage k = 0x058) : tamperKey k = true := by rw [tamperKey, h]; rfl

theorem keyAborts_writesAt : s.writesAt tamperKey s.keyAborts := by
  unfold keyAborts
  exact .after updKey_writesAt (.after (.ite (.after (wr_writesAt rfl) (wr_writesAt rfl)) (.refl _))
    (.ite (.after (wr_writesAt rfl) (wr_writesAt rfl)) (.refl _)))

theorem nonceGone_writesAt : s.writesAt tamperKey s.nonceGone := .after (wr_writesAt rfl) updKey_writesAt

theorem debugShut_writesAt : s.writesAt tamperKey s.debugShut :=
  .after (wr_writesAt rfl) (.after (wr_writesAt rfl) (.after (wr_writesAt rfl) (wr_writesAt rfl)))

theorem tamperFollows_writesAt : s.writesAt tamperKey s.tamperFollows :=
  .ite (.after (journalAt_writesAt (fun _ => tamperKey_of_evc) (fun _ => tamperKey_of_journal)) (wr_writesAt rfl)) (.refl s)

theorem tamperFlag_writesAt : s.writesAt tamperKey s.tamperFlag :=
  .after (t := { s with csr := { s.csr with intn := s.csr.intn.set false (0x023 * 32) true } }) (irq_writesAt rfl (fun _ => tamperKey_of_evc)) (.of_regs rfl)

theorem tamperTold_writesAt : s.writesAt tamperKey s.tamperTold := by
  unfold tamperTold
  exact .ite (wr_writesAt rfl) (.after tamperFollows_writesAt (.after tamperFlag_writesAt (wr_writesAt rfl)))

theorem zeroise_writesAt {causes : Nat} : s.writesAt tamperKey (s.zeroise causes) := by
  unfold zeroise
  exact .after tamperTold_writesAt (.after (bump_writesAt rfl) (.after (wr_writesAt rfl) (.after (wr_writesAt rfl)
    (.after updKey_writesAt (.after (wr_writesAt rfl) (.after debugShut_writesAt (.after nonceGone_writesAt keyAborts_writesAt)))))))

/-- The sources that are active now, and whether an enabled one is. -/
def tamperLooks (s : State) (sources : Nat) : State :=
  let s := s.wr R.KEY_TMP_LIVE sources
  s.updKey (fun k => { k with tampered := s.tamperActive })

theorem tamper_eq {sources : Nat} :
    s.tamper sources = if (s.tamperLooks sources).tamperActive && !s.key.tampered then
      (s.tamperLooks sources).zeroise ((s.tamperLooks sources).rd R.KEY_TMP_LIVE &&& (s.tamperLooks sources).rd R.KEY_TMP_EN)
    else s.tamperLooks sources := rfl

theorem tamperLooks_writesAt {sources : Nat} : s.writesAt tamperKey (s.tamperLooks sources) :=
  .after updKey_writesAt (wr_writesAt rfl)

theorem tamper_writesAt {sources : Nat} : s.writesAt tamperKey (s.tamper sources) := by
  rw [tamper_eq]
  exact .ite (.after zeroise_writesAt tamperLooks_writesAt) tamperLooks_writesAt

/-- The response empties the key store. -/
theorem zeroise_key {causes : Nat} :
    (s.zeroise causes).key.root = none ∧ (s.zeroise causes).key.slots = [] ∧ (s.zeroise causes).key.attKey = none := by
  have htold : ∀ x : State, x.tamperTold.key = x.key := fun x => (tamperTold_frame (s := x)).part .key rfl
  unfold zeroise
  rw [htold, bump_key]
  exact ⟨rfl, rfl, rfl⟩

/-- In P0 to P2, outside an entry, no wake event does anything. -/
theorem wakeEvent_awake {sources trunk : Nat} (hp : s.pwrState < 3) (he : s.entering = none) : s.wakeEvent sources trunk = s := by
  unfold wakeEvent
  rw [he]
  dsimp only
  rw [if_neg (by omega)]

theorem tamperSeen_awake {sources : Nat} (hp : s.pwrState < 3) (he : s.entering = none) : s.tamperSeen sources = s.tamper sources := by
  have hpwr : (s.tamper sources).pwrState = s.pwrState := tamper_writesAt.rd rfl
  have hent : (s.tamper sources).entering = s.entering := by
    have hpart : (s.tamper sources).pwr = s.pwr := by
      rw [(tamper_frame (s := s) (sources := sources)).overlay]
      rfl
    rw [entering, hpart, entering]
  unfold tamperSeen
  dsimp only
  split
  · exact wakeEvent_awake (hpwr ▸ hp) (hent.trans he)
  · rfl

end Sys2Proof.Machine.State
end

section
namespace Sys2Proof.Proofs

open Sys2Proof.Machine Sys2Proof.Machine.State

/-- Settles O26: awake the response has no wake event, and all else of it lies in the key store and what events set off. -/
theorem tamperTouchesTheKeyStoreOnly : Obligations.TamperTouchesTheKeyStoreOnly := by
  intro s sources hs hp he hoff
  have hexec : exec (.tamperDetected sources) s = .next (s.begin.tamper sources) := by
    change guarded (decide (sources < 128)) (s.begin.tamperSeen sources) = _
    rw [decide_eq_true hs, tamperSeen_awake (s := s.begin) hp he]
    rfl
  have hframe : s.frame [.key, .jnl, .csr] (s.begin.tamper sources) := .after tamper_frame (.any begin_frame)
  refine ⟨_, hexec, ?_, fun d k hk => tamper_writesAt d k (decide_eq_false hk), fun ht ha => ?_, fun ht => ?_⟩
  · rw [hframe.overlay]
    rfl
  · rw [tamper_eq, show s.begin.key.tampered = false from ht] at ha ⊢
    by_cases hact : (s.begin.tamperLooks sources).tamperActive = true
    · rw [hact]
      exact zeroise_key
    · rw [Bool.not_eq_true] at hact
      rw [hact] at ha
      exact absurd (ha.symm.trans hact) (by decide)
  · rw [tamper_eq, show s.begin.key.tampered = true from ht, Bool.not_true, Bool.and_false]
    rfl

end Sys2Proof.Proofs
end
section
/-! SUPPORT. The latching of a power channel (R444 to R458): what FUS_STAT shows of it. -/

namespace Sys2Proof.Machine.State

variable {s : State} {c d : Nat} {f : Field}

/-- The fields of FUS_STAT that a channel's latching moves. -/
def statFields : List Field := [R.FUS_STAT_STATE, R.FUS_STAT_PG, R.FUS_STAT_CAUSE]

/-- No event reaches FUS_STAT: it lies on the channel's page, off the interrupts and the counter of trips. -/
theorem statFields_key (hf : f ∈ statFields) (hd : d < 18) :
    keyPage (f.key d 0) ≠ 0x014 ∧ keyPage (f.key d 0) ≠ 0x058 ∧ (∀ page b, b < 32 → f.key d 0 ≠ (irqField b).key page 0) ∧
      ∀ c, f.key d 0 ≠ R.FUS_TRIP_CNT.key c 0 := by
  simp only [statFields, List.mem_cons, List.not_mem_nil, or_false] at hf
  rcases hf with rfl | rfl | rfl <;>
    simp only [keyPage, keyAddr, Field.key, irqField, R.FUS_STAT_STATE, R.FUS_STAT_PG, R.FUS_STAT_CAUSE, R.FUS_TRIP_CNT] <;>
    exact ⟨by omega, by omega, fun _ _ _ => by omega, fun _ => by omega⟩

theorem irq_stat {page b : Nat} (hf : f ∈ statFields) (hd : d < 18) (hb : b < 32) : (s.irq page b).rd f d = s.rd f d := by
  obtain ⟨h14, -, hirq, -⟩ := statFields_key hf hd
  exact irq_rd h14 (hirq page b hb)

theorem fusJournal_rd {page b arg i j : Nat} (h14 : keyPage (f.key i j) ≠ 0x014) (h58 : keyPage (f.key i j) ≠ 0x058) :
    (s.fusJournal page b arg).rd f i j = s.rd f i j := by
  unfold fusJournal
  split
  · exact journalAt_get (s := s) h14 h58
  · rfl

theorem fusEvent_stat {page b arg : Nat} (hf : f ∈ statFields) (hd : d < 18) (hb : b < 32) :
    (s.fusEvent page b arg).rd f d = s.rd f d := by
  obtain ⟨h14, h58, -, -⟩ := statFields_key hf hd
  rw [fusEvent, fusJournal_rd h14 h58, irq_stat hf hd hb]

/-- A channel that leaves for a state that is not ON shows it, with power-good withdrawn. -/
theorem chGo_stat {st : Nat} (hc : c < 18) (hst : st ≠ chOn) :
    (s.chGo c st).rd R.FUS_STAT_STATE c = st % 16 ∧ (s.chGo c st).rd R.FUS_STAT_PG c = 0 ∧
      ∀ d, d < 18 → d ≠ c → (s.chGo c st).rd R.FUS_STAT_STATE d = s.rd R.FUS_STAT_STATE d := by
  have hgone : ∀ (x : State) (f : Field) (d : Nat), f ∈ statFields → d < 18 →
      (x.pgGone c).rd f d = (x.wr R.FUS_STAT_PG 0 c).rd f d := fun x f d hf hd => by
    unfold pgGone
    split
    · exact irq_stat hf hd (by decide)
    · rfl
  have hne : ∀ d, R.FUS_STAT_STATE.key d 0 ≠ R.FUS_STAT_PG.key c 0 ∧ R.FUS_STAT_STATE.key d 0 ≠ R.FUS_STAT_FTIMER.key c 0 := fun d => by
    simp only [Field.key, R.FUS_STAT_STATE, R.FUS_STAT_PG, R.FUS_STAT_FTIMER]
    omega
  have hshift : ∀ (x : State) (y : PowChan) (f : Field) (d : Nat), (x.setChan c y).rd f d = x.rd f d := fun _ _ _ _ => rfl
  unfold chGo
  rw [if_neg hst]
  refine ⟨?_, ?_, fun d hd hdc => ?_⟩
  · rw [hgone _ _ _ (by decide) hc, rd_wr_ne (hne c).1, rd_wr_ne (hne c).2, hshift, rd_wr_same]
    rfl
  · rw [hgone _ _ _ (by decide) hc, rd_wr_same]
    rfl
  · rw [hgone _ _ _ (by decide) hd, rd_wr_ne (hne d).1, rd_wr_ne (hne d).2, hshift, rd_wr_ne]
    · rfl
    · simp only [Field.key, R.FUS_STAT_STATE]
      omega

/-- A channel that latches shows TRIPPED with the cause and no power-good, and no other channel moves. -/
theorem chTrip_stat {cause : Nat} (hc : c < 18) (hcause : cause < 16) :
    (s.chTrip c cause).chSt c = chTripped ∧ (s.chTrip c cause).rd R.FUS_STAT_PG c = 0 ∧
      (s.chTrip c cause).rd R.FUS_STAT_CAUSE c = cause ∧
      ∀ d, d < 18 → d ≠ c → (s.chTrip c cause).chSt d = s.chSt d := by
  have hsep : ∀ d, R.FUS_STAT_STATE.key d 0 ≠ R.FUS_STAT_CAUSE.key c 0 ∧ R.FUS_STAT_PG.key c 0 ≠ R.FUS_STAT_CAUSE.key c 0 := fun d => by
    simp only [Field.key, R.FUS_STAT_STATE, R.FUS_STAT_PG, R.FUS_STAT_CAUSE]
    omega
  have htrip : ∀ f d, f ∈ statFields → d < 18 →
      (s.chTrip c cause).rd f d = ((s.chGo c chTripped).wr R.FUS_STAT_CAUSE cause c).rd f d := fun f d hf hd => by
    dsimp only [chTrip]
    rw [fusEvent_stat hf hd (by decide)]
    exact bump_get ((statFields_key hf hd).2.2.2 c)
  obtain ⟨hst, hpg, hoth⟩ := chGo_stat (s := s) hc (show chTripped ≠ chOn by decide)
  refine ⟨?_, ?_, ?_, fun d hd hdc => ?_⟩
  · rw [chSt, htrip _ _ (by decide) hc, rd_wr_ne (hsep c).1, hst]
    rfl
  · rw [htrip _ _ (by decide) hc, rd_wr_ne (hsep c).2, hpg]
  · rw [htrip _ _ (by decide) hc, rd_wr_same]
    exact Nat.mod_eq_of_lt hcause
  · rw [chSt, htrip _ _ (by decide) hd, rd_wr_ne (hsep d).1, hoth d hd hdc, chSt]

/-- The cause that the comparator gives a channel in a state. -/
def instantCause (st : Nat) : Nat := if st = chOn then fusInstant else fusShortStart

theorem instantCause_eq (st : Nat) : instantCause st = if st = chOn then 3 else 4 := rfl

theorem instantCause_lt (st : Nat) : instantCause st < 16 := by
  unfold instantCause
  split <;> decide

theorem driven_ne {st : Nat} (h : driven st = true) : st ≠ chTripped ∧ st ≠ chOff ∧ st ≠ chWait := by
  simp only [driven, Bool.or_eq_true, beq_iff_eq] at h
  rcases h with (rfl | rfl) | rfl <;> decide

/-- The comparator latches a channel that is driven now. -/
theorem chInstant_driven (hh : s.fus.held = false) (hd : s.chDriven c = true) : s.chInstant c = s.chTrip c (instantCause (s.chSt c)) := by
  have hne : (s.chSt c == chTripped) = false := beq_false_of_ne (driven_ne hd).1
  have hst : driven (s.chSt c) = true := hd
  simp only [chInstant, latchFrom, hh, hne, hst, Bool.and_false, Bool.false_and, Bool.false_eq_true, if_false, if_true]
  rfl

/-- It gives its cause to a breaker trip of this tick, and to a stop by command. -/
theorem chInstant_renames (hh : s.fus.held = false) (hb : driven (s.tickStart c).st = true)
    (h : (s.chSt c = chTripped ∧ s.rd R.FUS_STAT_CAUSE c = fusBreaker) ∨ (s.chSt c = chOff ∧ s.rd R.FUS_STAT_CAUSE c = fusCommand)) :
    s.chInstant c = s.wr R.FUS_STAT_CAUSE (instantCause (s.tickStart c).st) c := by
  rcases h with ⟨hst, hwhy⟩ | ⟨hst, hwhy⟩ <;> simp only [chInstant, latchFrom, hh, hb, hst, hwhy] <;> rfl

/-- It latches a channel whose seat opened in this tick. -/
theorem chInstant_seat (hh : s.fus.held = false) (hb : driven (s.tickStart c).st = true) (hst : s.chSt c = chWait)
    (hwhy : s.rd R.FUS_STAT_CAUSE c = fusSeatOpen) : s.chInstant c = s.chTrip c (instantCause (s.tickStart c).st) := by
  have hne : (chWait == chTripped) = false := rfl
  have hoff : driven chWait = false := rfl
  simp only [chInstant, latchFrom, hh, hb, hst, hwhy, hne, hoff, beq_self_eq_true, Bool.and_true, Bool.and_false, Bool.false_and,
    Bool.false_eq_true, if_false, if_true]
  rfl

/-- It leaves a channel that is not driven, and was not as the tick began. -/
theorem chInstant_idle (hd : s.chDriven c = false) (hb : driven (s.tickStart c).st = false) : s.chInstant c = s := by
  have hst : driven (s.chSt c) = false := hd
  simp only [chInstant, latchFrom, hb, hst, Bool.false_and, Bool.false_eq_true, if_false, ite_self]

end Sys2Proof.Machine.State
end

section
namespace Sys2Proof.Proofs

open Sys2Proof.Machine Sys2Proof.Machine.State

/-- Settles O27: what the comparator does goes by the channel's state, by what the tick began with and by the cause shown. -/
theorem instantTripsLatchDrivenChannels : Obligations.InstantTripsLatchDrivenChannels := by
  intro s c hc ha
  have hexec : exec (.instantTrip c) s = .next (s.begin.chInstant c) := by
    change guarded (decide (c < 18)) (if s.fus.alive then _ else _) = _
    rw [decide_eq_true hc, ha]
    rfl
  have hframe : s.begin.frame [.fus, .jnl] (s.begin.chInstant c) := chInstant_frame
  refine ⟨fun hh => ?_, fun hh => ⟨fun hd => ?_, fun hb => ⟨fun h => ?_, fun hst hwhy => ?_⟩, fun hd hb => ?_⟩⟩
  · rw [hexec, chInstant, show s.begin.fus.held = true from hh]
    rfl
  · have hact := chInstant_driven (s := s.begin) hh hd
    obtain ⟨hst, hpg, hcause, hoth⟩ := chTrip_stat (s := s.begin) hc (instantCause_lt (s.chSt c))
    refine ⟨_, hexec, ?_, ?_, ?_, ?_, hframe.part .dram rfl, hframe.part .links rfl, hframe.part .planes rfl,
      hframe.part .tun rfl⟩ <;> rw [hact]
    · exact hst
    · exact hpg
    · exact hcause
    · exact hoth
  · rw [hexec, chInstant_renames (s := s.begin) hh hb h]
    rfl
  · have hact := chInstant_seat (s := s.begin) hh hb hst hwhy
    obtain ⟨hst', -, hcause, -⟩ := chTrip_stat (s := s.begin) hc (instantCause_lt (s.begin.tickStart c).st)
    refine ⟨_, hexec, ?_, ?_⟩ <;> rw [hact]
    · exact hst'
    · exact hcause
  · rw [hexec, chInstant_idle (s := s.begin) hd hb]

end Sys2Proof.Proofs
end

section
/-! SUPPORT. The warm reset (R494, R526, R530): what it leaves of page 0x001 and of the power controller. -/

namespace Sys2Proof.Machine.State

variable {s t u : State}

/-- The state that the hub comes up in, and the record of the warm reset. -/
def resetRecord : List Nat :=
  [R.PWR_STAT_STATE.key 0 0, R.CHIP_RST_CAUSE_COMMAND.key 0 0, R.CHIP_RST_CNT.key 0 0, R.CHIP_RST_TSW.key 0 0]

/-- Every register but those of the record. -/
def besideRecord (k : Nat) : Bool := !resetRecord.contains k

theorem besideRecord_of_page {k : Nat} (h1 : keyPage k ≠ 0x001) (h30 : keyPage k ≠ 0x030) : besideRecord k = true := by
  have hk : ∀ x ∈ resetRecord, keyPage x = 0x001 ∨ keyPage x = 0x030 := by decide
  cases hc : resetRecord.contains k with
  | false => rw [besideRecord, hc]; rfl
  | true =>
    cases hk k (List.contains_iff_mem.mp hc) with
    | inl h => exact absurd h h1
    | inr h => exact absurd h h30

theorem besideRecord_of_evc {k : Nat} (h : keyPage k = 0x014) : besideRecord k = true :=
  besideRecord_of_page (h ▸ by decide) (h ▸ by decide)

theorem besideRecord_of_journal {k : Nat} (h : keyPage k = 0x058) : besideRecord k = true :=
  besideRecord_of_page (h ▸ by decide) (h ▸ by decide)

/-- Everything of the record is kept through a warm reset. -/
theorem keptWarm_of_record {k : Nat} (h : besideRecord k = false) : keptWarm k = true := by
  have hk : ∀ x ∈ resetRecord, keptWarm x = true := by decide
  rw [besideRecord, Bool.not_eq_false'] at h
  exact hk k (List.contains_iff_mem.mp h)

theorem answer_beside {path v : Nat} : s.writesAt besideRecord (s.answer path v) := fun _ _ hk =>
  answer_get fun e => Bool.false_ne_true (hk.symm.trans (besideRecord_of_evc e))

theorem irq_beside {page b : Nat} (h : besideRecord ((irqField b).key page 0) = true) : s.writesAt besideRecord (s.irq page b) :=
  irq_writesAt h fun _ => besideRecord_of_evc

theorem journalAt_beside {tsw page b arg : Nat} : s.writesAt besideRecord (s.journalAt tsw page b arg) :=
  journalAt_writesAt (fun _ => besideRecord_of_evc) (fun _ => besideRecord_of_journal)

/-! ### The reset itself -/

theorem regsDropped_beside : s.writesAt besideRecord s.regsDropped :=
  .after (.foldl fun r hr v => wr_writesAt ((by decide : ∀ r ∈ List.range 4, besideRecord (R.PWR_REG_STAT_PENDING.key 0 r) = true) r hr))
    updPwr_writesAt

theorem waitingDenied_beside : s.writesAt besideRecord s.waitingDenied := by
  unfold waitingDenied
  refine .after (.foldl fun w _ v => ?_) updPwr_writesAt
  have hbump : v.writesAt besideRecord (v.bump R.CHIP_RST_DENIED) := bump_writesAt rfl
  exact .ite hbump (.after answer_beside hbump)

theorem flashAct_beside {op a : Nat} {buf : List Byte} : s.writesAt besideRecord (s.flashAct op a buf) := by
  have hbuf : ∀ i ∈ List.range 64, besideRecord (R.MGT_FLASH_BUF.key 0 i) = true := by decide
  unfold flashAct
  split
  · exact .foldl fun i hi _ => wr_writesAt (hbuf i hi)
  · exact .of_regs rfl
  · exact .of_regs rfl
  · exact .of_regs rfl

theorem flashCut_beside : s.writesAt besideRecord s.flashCut := by
  unfold flashCut
  split
  · exact .refl s
  next op a buf _ =>
    have hact : s.writesAt besideRecord (if s.freeNat % 2 = 1 then s.flashAct op a buf else s) := .ite flashAct_beside (.refl s)
    exact .after tookFree_writesAt hact

theorem timeKept_beside : s.writesAt besideRecord s.timeKept := by
  unfold timeKept
  exact .after updTim_writesAt (.after (.ite (.after (wr_writesAt rfl) (wr_writesAt rfl)) (.refl _)) (.ite (wr_writesAt rfl) (.refl _)))

theorem ringmasterOff_beside : s.writesAt besideRecord s.ringmasterOff := by
  unfold ringmasterOff
  exact .after (.ite (.after (irq_beside rfl) (wr_writesAt rfl)) (.refl _)) (.after (wr_writesAt rfl) (wr_writesAt rfl))

theorem eraseKeys_beside : s.writesAt besideRecord (s.eraseKeys fun k => !keptWarm k) := fun _ _ hk =>
  Tab.get_filter (by simp [keptWarm_of_record hk])

theorem warmState_beside : s.writesAt besideRecord s.warmState := by
  have hkept : s.writesAt besideRecord s.flashCut.timeKept.lanesKept.schedKept :=
    .after (.of_regs rfl) (.after timeKept_beside flashCut_beside)
  unfold warmState
  extract_lets x y k j z
  have hz : y.writesAt besideRecord z := .of_regs rfl
  exact .after ringmasterOff_beside (.after (wr_writesAt rfl) (hz.after (.after eraseKeys_beside hkept)))

/-- What the warm reset makes of the hub before the cause, the stamp and the count are written. -/
theorem warmState_root : s.warmState.key.root = s.key.root := by
  have hcut : s.flashCut.key = s.key := (flashCut_frame (s := s)).part .key rfl
  have hoff : ∀ x : State, x.ringmasterOff.key = x.key := fun x => (ringmasterOff_frame (s := x)).part .key rfl
  have htim : ∀ x : State, x.timeKept.key = x.key := fun x => (timeKept_frame (s := x)).part .key rfl
  have hrest : s.flashCut.timeKept.lanesKept.schedKept.key.root = s.key.root :=
    congrArg KeyState.root ((htim s.flashCut).trans hcut)
  unfold warmState
  rw [hoff]
  exact hrest

theorem warmPower_pwr : s.warmPower.pwr.trans = none ∧ s.warmPower.pwr.reqs = [] := ⟨rfl, rfl⟩

theorem warmPower_state : s.warmPower.rd R.PWR_STAT_STATE = 0 :=
  ((rd_wr_ne (by decide)).trans (rd_wr_ne (by decide))).trans (rd_wr_same ..)

theorem warmPower_rd {f : Field} (hk : besideRecord (f.key 0 0) = false) (hf : f.key 0 0 ≠ R.PWR_STAT_STATE.key 0 0) :
    s.warmPower.rd f = s.rd f := by
  have hne : ∀ {g : Field}, besideRecord (g.key 0 0) = true → f.key 0 0 ≠ g.key 0 0 := fun h e =>
    Bool.false_ne_true (hk.symm.trans (e ▸ h))
  unfold warmPower
  extract_lets moved x y r
  have hx : x.rd f = s.rd f := (waitingDenied_beside.rd hk).trans (regsDropped_beside.rd hk)
  exact ((rd_wr_ne (hne rfl)).trans ((rd_wr_ne (hne rfl)).trans (rd_wr_ne hf))).trans hx

/-- The state that a warm reset starts from: a core die without power loses what it held. -/
def warmStart (s : State) : State := if s.pwr.doms.testBit 1 then s else s.hibernated

/-- The record of a warm reset by command, made last. -/
def warmRecord (s : State) (tsw : Nat) : State :=
  let s := s.wr R.CHIP_RST_CAUSE_COMMAND 1
  let s := (s.wr R.CHIP_RST_TSW tsw).wr R.CHIP_RST_CNT (min (s.rd R.CHIP_RST_CNT + 1) 0xFFFFFFFF)
  { s with rst := { s.rst with armed := false } }.wr R.FUS_PD_STAT_PRESENT 0

theorem warmReset_eq :
    s.warmReset [R.CHIP_RST_CAUSE_COMMAND] = s.warmStart.warmPower.warmState.warmRecord s.warmStart.tswNow := by
  unfold warmReset warmRecord warmStart
  rfl

theorem warmRecord_pwr {tsw : Nat} : (s.warmRecord tsw).pwr = s.pwr := rfl

theorem warmRecord_root {tsw : Nat} : (s.warmRecord tsw).key.root = s.key.root := rfl

theorem warmRecord_armed {tsw : Nat} : (s.warmRecord tsw).rst.armed = false := rfl

theorem warmRecord_cause {tsw : Nat} : (s.warmRecord tsw).rd R.CHIP_RST_CAUSE_COMMAND = 1 :=
  (rd_wr_ne (by decide)).trans (((rd_wr_ne (by decide)).trans (rd_wr_ne (by decide))).trans (rd_wr_same ..))

theorem warmRecord_count {tsw : Nat} :
    (s.warmRecord tsw).rd R.CHIP_RST_CNT = min (s.rd R.CHIP_RST_CNT + 1) 0xFFFFFFFF := by
  have hcnt : (s.wr R.CHIP_RST_CAUSE_COMMAND 1).rd R.CHIP_RST_CNT = s.rd R.CHIP_RST_CNT := rd_wr_ne (by decide)
  refine (rd_wr_ne (by decide)).trans ((rd_wr_same ..).trans ?_)
  rw [hcnt]
  exact Nat.mod_eq_of_lt (by simp only [R.CHIP_RST_CNT]; omega)

theorem warmRecord_stamp {tsw : Nat} : (s.warmRecord tsw).rd R.CHIP_RST_TSW = tsw % 2 ^ 64 :=
  (rd_wr_ne (by decide)).trans ((rd_wr_ne (by decide)).trans (rd_wr_same ..))

theorem warmRecord_state {tsw : Nat} : (s.warmRecord tsw).rd R.PWR_STAT_STATE = s.rd R.PWR_STAT_STATE :=
  (rd_wr_ne (by decide)).trans ((rd_wr_ne (by decide)).trans ((rd_wr_ne (by decide)).trans (rd_wr_ne (by decide))))

theorem warmState_pwr : s.warmState.pwr = s.pwr := by
  rw [(warmState_frame (s := s)).overlay]
  rfl

theorem hibernated_root : s.hibernated.key.root = s.key.root := by
  have hcut : s.flashCut.key = s.key := (flashCut_frame (s := s)).part .key rfl
  have hoff : ∀ x : State, x.ringmasterOff.key = x.key := fun x => (ringmasterOff_frame (s := x)).part .key rfl
  unfold hibernated
  extract_lets dis asleep aon intn soft x y
  have hroot : y.key.root = s.key.root := by rw [hoff]; exact congrArg KeyState.root hcut
  cases asleep <;> exact hroot

theorem warmStart_root : s.warmStart.key.root = s.key.root := by
  unfold warmStart
  split
  · rfl
  · exact hibernated_root

theorem warmPower_root : s.warmPower.key.root = s.key.root :=
  congrArg KeyState.root ((warmPower_frame (s := s)).part .key rfl)

/-! ### What follows the reset -/

theorem voltsRefused_beside : s.writesAt besideRecord s.voltsRefused :=
  .ite (.refl s) (.ite (.refl s) (.after updPwr_writesAt (wr_writesAt rfl)))

theorem voltsRefused_pwr :
    s.voltsRefused.pwr.trans = s.pwr.trans ∧ ∀ x ∈ s.voltsRefused.pwr.reqs, x ∈ s.pwr.reqs := by
  unfold voltsRefused
  dsimp only
  split
  · exact ⟨rfl, fun _ h => h⟩
  · split
    · exact ⟨rfl, fun _ h => h⟩
    · exact ⟨rfl, fun _ h => (List.dropWhile_suffix _).subset h⟩

theorem pmbSend_beside {r : Nat} {e : Nat → Bool → Bool → Emit} : s.writesAt besideRecord (s.pmbSend r e) := by
  unfold pmbSend
  exact .after emit_writesAt (.ite (.refl s) emit_writesAt)

theorem pmbSend_pwr {r : Nat} {e : Nat → Bool → Bool → Emit} : (s.pmbSend r e).pwr = s.pwr := by
  unfold pmbSend
  dsimp only
  split <;> rfl

/-- The four regulators of Table 16.3 and no other. -/
def namesRegulators (l : List (Nat × RegOp)) : Prop := ∀ x ∈ l, x.1 < 4

theorem besideRecord_regulator {r : Nat} (h : r < 4) :
    besideRecord (R.PWR_REG_STAT_PENDING.key 0 r) = true ∧ besideRecord (R.PWR_REG_STAT_STATUS.key 0 r) = true :=
  (by decide : ∀ r < 4, besideRecord (R.PWR_REG_STAT_PENDING.key 0 r) = true ∧
    besideRecord (R.PWR_REG_STAT_STATUS.key 0 r) = true) r h

theorem regSend_beside (h : namesRegulators s.pwr.reqs) : s.writesAt besideRecord s.regSend := by
  have hv := voltsRefused_beside (s := s)
  have hreq := (voltsRefused_pwr (s := s)).2
  unfold regSend
  dsimp only
  split
  · exact hv
  next r op rest heq =>
    have hr : r < 4 := h (r, op) (hreq _ (heq ▸ List.mem_cons_self))
    have hw : s.writesAt besideRecord ((s.voltsRefused.wr R.PWR_REG_STAT_PENDING 1 0 r).updPwr fun p => { p with idle := false }) :=
      .after updPwr_writesAt (.after (wr_writesAt (besideRecord_regulator hr).1) hv)
    split
    · exact .after tookFree_writesAt (.after updPwr_writesAt (.after pmbSend_beside hw))
    · exact .after updPwr_writesAt (.after pmbSend_beside hw)
    · exact .after pmbSend_beside hw

theorem regSend_trans : s.regSend.pwr.trans = s.pwr.trans := by
  have hv := (voltsRefused_pwr (s := s)).1
  unfold regSend
  dsimp only
  split
  · exact hv
  · split
    · exact (congrArg PwrState.trans pmbSend_pwr).trans hv
    · exact (congrArg PwrState.trans pmbSend_pwr).trans hv
    · exact (congrArg PwrState.trans pmbSend_pwr).trans hv

theorem regAsk_beside {l : List (Nat × RegOp)} (h : namesRegulators s.pwr.reqs) (hl : namesRegulators l) :
    s.writesAt besideRecord (s.regAsk l) := by
  unfold regAsk
  extract_lets l' fresh x
  refine .ite (.after (regSend_beside fun r hr => ?_) updPwr_writesAt) updPwr_writesAt
  cases List.mem_append.mp hr with
  | inl hr => exact h r hr
  | inr hr => exact hl r (List.mem_of_mem_filter hr)

theorem regAsk_trans {l : List (Nat × RegOp)} : (s.regAsk l).pwr.trans = s.pwr.trans := by
  unfold regAsk
  dsimp only
  split
  · exact regSend_trans
  · rfl

theorem namesRegulators_regsWanted : namesRegulators s.regsWanted := by
  intro x hx
  unfold regsWanted regsBack at hx
  cases List.mem_append.mp hx with
  | inl h =>
    obtain ⟨r, hr, rfl⟩ := List.mem_map.mp h
    exact (by decide : ∀ r ∈ [1, 0, 2, 3], r < 4) r (List.mem_of_mem_filter hr)
  | inr h =>
    split at h
    · rw [List.mem_singleton.mp h]; exact Nat.zero_lt_succ 3
    · exact absurd h List.not_mem_nil

theorem regAlert_beside {l : List Nat} : s.writesAt besideRecord (s.regAlert l) := by
  unfold regAlert
  refine .after (.foldl fun r hr v => ?_) (irq_beside rfl)
  have hr4 : r < 4 := List.mem_range.mp (List.mem_of_mem_filter hr)
  have hw : v.writesAt besideRecord ((v.pmbRead r pmbStatusWord).wr R.PWR_REG_STAT_STATUS (l.getD r 0 % 65536) 0 r) :=
    .after (wr_writesAt (besideRecord_regulator hr4).2) pmbSend_beside
  exact .ite hw (.after journalAt_beside hw)

theorem alertServed_beside : s.writesAt besideRecord s.alertServed := by
  unfold alertServed
  split
  · exact .ite (.after regAlert_beside updPwr_writesAt) (.refl s)
  · exact .refl s

theorem alertServed_trans : s.alertServed.pwr.trans = s.pwr.trans := by
  have hal : ∀ (x : State) l, (x.regAlert l).pwr.trans = x.pwr.trans := fun x l => by
    rw [(regAlert_frame (s := x) (l := l)).overlay]
    rfl
  unfold alertServed
  split
  · split
    · exact hal _ _
    · rfl
  · rfl

theorem tamperFollows_beside : s.writesAt besideRecord s.tamperFollows :=
  .ite (.after journalAt_beside (wr_writesAt rfl)) (.refl s)

theorem tamperFollows_trans : s.tamperFollows.pwr.trans = s.pwr.trans := by
  rw [(tamperFollows_frame (s := s)).overlay]
  rfl

/-- What a reset leaves, held while the pin, the root PLL or a voltage must come. -/
def afterHold (s : State) (wait : Bool) : State :=
  if wait || !s.rst.volts || !s.regsDone then s else s.regAsk s.regsWanted

theorem afterHold_beside {wait : Bool} (h : s.pwr.reqs = []) : s.writesAt besideRecord (s.afterHold wait) :=
  .ite (.refl s) (regAsk_beside (h ▸ fun _ hx => absurd hx List.not_mem_nil) namesRegulators_regsWanted)

theorem holdOrRelease_beside (h : s.pwr.reqs = []) : s.writesAt besideRecord s.holdOrRelease := by
  unfold holdOrRelease
  extract_lets wait x volts y z
  have hz : s.writesAt besideRecord z := .after (wr_writesAt rfl) (.after (.of_regs rfl) (afterHold_beside (wait := wait) h))
  exact .ite hz (.after alertServed_beside (.after tamperFollows_beside hz))

theorem holdOrRelease_trans : s.holdOrRelease.pwr.trans = s.pwr.trans := by
  unfold holdOrRelease
  extract_lets wait x volts y z
  have hz : z.pwr.trans = s.pwr.trans := by
    change x.pwr.trans = _
    simp only [x]
    split
    · rfl
    · exact regAsk_trans
  split
  · exact hz
  · exact alertServed_trans.trans (tamperFollows_trans.trans hz)

theorem holdOrRelease_armed : s.holdOrRelease.rst.armed = s.rst.armed := by
  have hask : ∀ x : State, ∀ l, (x.regAsk l).rst = x.rst := fun x l => (regAsk_frame (s := x) (l := l)).part .rst rfl
  have hal : ∀ x : State, x.alertServed.rst = x.rst := fun x => (alertServed_frame (s := x)).part .rst rfl
  have htf : ∀ x : State, x.tamperFollows.rst = x.rst := fun x => (tamperFollows_frame (s := x)).part .rst rfl
  unfold holdOrRelease
  extract_lets wait x volts y z
  have hz : z.rst.armed = s.rst.armed := by
    change x.rst.armed = _
    simp only [x]
    split
    · rfl
    · rw [hask]
  split
  · exact hz
  · rw [hal, htf]; exact hz

theorem holdOrRelease_key : s.holdOrRelease.key = s.key := (holdOrRelease_frame (s := s)).part .key rfl

/-! ### The two together -/

theorem warmReset_shows (h : s.warmReset [R.CHIP_RST_CAUSE_COMMAND] = t) :
    t.rd R.PWR_STAT_STATE = 0 ∧ t.rd R.CHIP_RST_CAUSE_COMMAND = 1 ∧ t.pwr.trans = none ∧ t.pwr.reqs = [] ∧
      t.rst.armed = false ∧ t.key.root = s.key.root := by
  subst h
  rw [warmReset_eq]
  have hpwr : (s.warmStart.warmPower.warmState.warmRecord s.warmStart.tswNow).pwr = s.warmStart.warmPower.pwr :=
    warmRecord_pwr.trans warmState_pwr
  obtain ⟨htrans, hreqs⟩ := warmPower_pwr (s := s.warmStart)
  refine ⟨?_, warmRecord_cause, (congrArg PwrState.trans hpwr).trans htrans, (congrArg PwrState.reqs hpwr).trans hreqs, warmRecord_armed, ?_⟩
  · exact warmRecord_state.trans ((warmState_beside.rd rfl).trans warmPower_state)
  · refine Eq.trans warmRecord_root ?_
    exact warmState_root.trans (warmPower_root.trans warmStart_root)

theorem warmReset_records (h : s.warmReset [R.CHIP_RST_CAUSE_COMMAND] = t) (hd : s.pwr.doms.testBit 1 = true) :
    t.rd R.CHIP_RST_CNT = min (s.rd R.CHIP_RST_CNT + 1) 0xFFFFFFFF ∧ t.rd R.CHIP_RST_TSW = s.tswNow % 2 ^ 64 := by
  have hstart : s.warmStart = s := if_pos hd
  subst h
  rw [warmReset_eq, hstart]
  refine ⟨?_, warmRecord_stamp⟩
  rw [warmRecord_count, warmState_beside.rd rfl, warmPower_rd rfl (by decide)]

theorem warmReset_pending {fs : List Field} : (s.warmReset fs).pending = s.pending := (warmReset_frame (s := s) (f := fs)).1.1

end Sys2Proof.Machine.State
end

section
namespace Sys2Proof.Proofs

open Sys2Proof.Machine Sys2Proof.Machine.State

/-- Settles O29: WARM arms a reset for an owner alone, and the reset's last steps are its record, which the release keeps. -/
theorem warmResetReturnsToP0 : Obligations.WarmResetReturnsToP0 := by
  intro s
  have hexec : ∀ path, s.letsWrite path 0x001040 → exec (.chipRstWarm path) s = .next ((s.begin.tlpIn path).armReset path) := by
    intro path hl
    change guarded (decide (path < 8)) _ = _
    rw [decide_eq_true hl.1, letsWrite_act hl]
    rfl
  have htlp : ∀ path, (s.begin.tlpIn path).rst = s.rst := fun path => (tlpIn_frame (s := s.begin) (path := path)).part .rst rfl
  have hown : ∀ path, (s.begin.tlpIn path).ownerPath path = s.ownerPath path := fun path => by
    simp (disch := decide) only [ownerPath, tlpIn_rd, tlpIn_debugCsr]
    rfl
  refine ⟨fun path hl ho => ⟨_, hexec path hl, ?_⟩, fun path hl ho => ⟨_, hexec path hl, ?_⟩, fun ha hoff => ?_⟩
  · rw [armReset, hown, ho, if_neg Bool.false_ne_true]
    exact congrArg RstState.armed (htlp path)
  · rw [armReset, hown, ho, if_pos rfl]
    rfl
  · have hw := warmReset_shows (s := s.begin) rfl
    obtain ⟨hstate, hcause, htrans, hreqs, harmed, hroot⟩ := hw
    have hkeep := holdOrRelease_beside hreqs
    refine ⟨(s.begin.warmReset [R.CHIP_RST_CAUSE_COMMAND]).holdOrRelease, ?_, (hkeep.rd rfl).trans hstate,
      holdOrRelease_trans.trans htrans, holdOrRelease_armed.trans harmed, (hkeep.rd rfl).trans hcause, ?_, ?_, fun hd => ?_⟩
    · change Host.Outcome.next (if (s.rst.armed && !s.rst.off) = true then _ else _) = _
      rw [ha, hoff]
      rfl
    · rw [holdOrRelease_key, hroot]; rfl
    · exact ((holdOrRelease_frame (s := s.begin.warmReset [R.CHIP_RST_CAUSE_COMMAND])).1.1).trans warmReset_pending
    · obtain ⟨hcnt, htsw⟩ := warmReset_records (s := s.begin) rfl hd
      exact ⟨(hkeep.rd rfl).trans hcnt, (hkeep.rd rfl).trans htsw⟩

end Sys2Proof.Proofs
end
section
/-! SUPPORT. A nanosecond without a command (log 2): nothing but the machinery of time moves while no expiry, failure or programming waits. -/

namespace Sys2Proof.Machine.State

variable {s t u : State} {ps : List Part}

/-- Of every plane, `t` has all of `s` but its claim of authority. -/
def claimsOnly (s t : State) : Prop :=
  ∀ p, t.plane p = { s.plane p with claims := (t.plane p).claims, mayClaim := (t.plane p).mayClaim }

theorem claimsOnly_of_planes (h : t.planes = s.planes) : s.claimsOnly t := fun p => by
  rw [show t.plane p = s.plane p from congrArg (Tab.get _ p) h]

/-- A part of the quiet nanosecond after another. -/
theorem claimsOnly.after (h' : t.claimsOnly u) (h : s.claimsOnly t) : s.claimsOnly u := fun p => by
  rw [h' p, h p]

theorem claimsOnly.ite {c : Prop} [Decidable c] (h : s.claimsOnly t) (h' : s.claimsOnly u) : s.claimsOnly (if c then t else u) := by
  split
  · exact h
  · exact h'

theorem claimsOnly_of_frame (h : s.frame ps t) (hps : decide (Part.planes ∈ ps) = false) : s.claimsOnly t :=
  claimsOnly_of_planes (h.part .planes hps)

/-- A change of one plane's claim. -/
theorem updPlane_claimsOnly {p : Nat} {f : Plane → Plane}
    (h : ∀ x, f x = { x with claims := (f x).claims, mayClaim := (f x).mayClaim }) : s.claimsOnly (s.updPlane p f) := by
  intro q
  by_cases hq : q = p
  · rw [hq, show (s.updPlane p f).plane p = f (s.plane p) from Tab.get_set_same ..]
    exact h _
  · rw [show (s.updPlane p f).plane q = s.plane q from Tab.get_set_ne hq]

theorem demote_claimsOnly {p : Nat} : s.claimsOnly (s.demote p) := updPlane_claimsOnly fun _ => rfl

theorem grant_claimsOnly {p : Nat} : s.claimsOnly (s.grant p) := by
  have hq : ∀ (x : State) q, x.claimsOnly (x.updPlane q fun y => { y with claims := false }) := fun x q =>
    updPlane_claimsOnly fun _ => rfl
  unfold grant
  extract_lets x y z
  have hx : s.claimsOnly x := .after (hq _ 1) (.after (hq _ 0) (claimsOnly_of_planes rfl))
  have hz : z.claimsOnly ((z.irq (planePage p) 2).irq rgmPage 1) :=
    .after (claimsOnly_of_frame irq_frame rfl) (claimsOnly_of_frame irq_frame rfl)
  exact hz.after (.after (t := y) (claimsOnly_of_planes rfl) (.after (claimsOnly_of_planes rfl) hx))

theorem vote_claimsOnly {a b : Bool} : s.claimsOnly (s.vote a b) := by
  have hsame : s.claimsOnly s := claimsOnly_of_planes rfl
  unfold vote
  extract_lets ca cb o x
  have hx : s.claimsOnly x := .after (claimsOnly_of_frame bump_frame rfl) demote_claimsOnly
  have hev : x.claimsOnly (x.event rgmPage 2 x.rgmArg) := claimsOnly_of_frame event_frame rfl
  exact .ite (.after (updPlane_claimsOnly fun _ => rfl) (updPlane_claimsOnly fun _ => rfl))
    (.ite (.ite (.after hev hx) hsame)
      (.ite (.ite (.after grant_claimsOnly demote_claimsOnly) grant_claimsOnly) (.ite grant_claimsOnly hsame)))

theorem settleClaims_claimsOnly : s.claimsOnly s.settleClaims := .ite vote_claimsOnly (claimsOnly_of_planes rfl)

/-! ### What does not happen -/

theorem expiriesStand_none (h : ∀ n, (s.link n).expiry = none) : s.expiriesStand = s := by
  have hone : ∀ n, s.expiryStands n = s := fun n => by rw [expiryStands, h]; rfl
  unfold expiriesStand
  induction List.range 16 with
  | nil => rfl
  | cons n ns ih => rw [List.foldl_cons, hone, ite_self, ih]

theorem failuresStand_none (h : s.eng.failing = []) : s.failuresStand = s.updEng (fun x => { x with failing := [] }) := by
  unfold failuresStand
  rw [h]
  rfl

theorem preloadDone_none (h : s.fus.prog = none) : s.preloadDone = s := by
  unfold preloadDone
  rw [h]

/-! ### The quiet nanosecond -/

/-- The parts that a nanosecond without a command may move while nothing waits for its end. -/
def quietParts : List Part := [.planes, .mgt, .free, .eng, .usb, .tim, .jnl, .pwr, .csr]

/-- What the quiet nanosecond may do: move those parts, and of the planes their claims. -/
def quiet (s t : State) : Prop := s.frame quietParts t ∧ s.claimsOnly t

theorem quiet.after (h' : t.quiet u) (h : s.quiet t) : s.quiet u := ⟨.after h'.1 h.1, h'.2.after h.2⟩

theorem quiet_of_frame (h : s.frame ps t) (hps : decide (ps ⊆ quietParts) = true) (hp : decide (Part.planes ∈ ps) = false) : s.quiet t :=
  ⟨h.mono hps, claimsOnly_of_frame h hp⟩

theorem quiet.refl (s : State) : s.quiet s := quiet_of_frame (.refl s) (ps := []) rfl rfl

theorem quiet.ite {c : Prop} [Decidable c] (h : s.quiet t) (h' : s.quiet u) : s.quiet (if c then t else u) := by
  split
  · exact h
  · exact h'

theorem settleClaims_quiet : s.quiet s.settleClaims := ⟨.mono settleClaims_frame rfl, settleClaims_claimsOnly⟩

/-- The nanosecond's end, from the claims to the power state's watch. -/
def nanosecondEnds (s : State) : State :=
  let s := if s.domainRuns 0 then s.settleClaims else s
  let s := if s.panelRuns then s.tickPanel else s
  let s := if s.domainRuns 1 && decide (s.hw % 4 = 0) then s.tally 0x001 else s
  let s := if s.fus.alive then s.preloadDone else s
  let s := if s.domainRuns 15 then s.portResetsEnd else s
  if s.domainRuns 0 then s.watchEntry else s

theorem idle_eq : s.idle = { s.begin.expiriesStand.failuresStand.mboxDrain with hw := s.hw + 1 }.nanosecondEnds := rfl

theorem nanosecondEnds_quiet (h : s.fus.prog = none) : s.quiet s.nanosecondEnds := by
  unfold nanosecondEnds
  extract_lets a b c d e
  have ha : s.quiet a := .ite settleClaims_quiet (.refl s)
  have hb : a.quiet b := .ite (quiet_of_frame tickPanel_frame rfl rfl) (.refl a)
  have hc : b.quiet c := .ite (quiet_of_frame tally_frame rfl rfl) (.refl b)
  have hsc : s.quiet c := hc.after (hb.after ha)
  have hprog : c.fus.prog = none := (congrArg FusState.prog (hsc.1.part .fus rfl)).trans h
  have hd : c.quiet d := .ite ((preloadDone_none hprog).symm.subst (.refl c)) (.refl c)
  have he : d.quiet e := .ite (quiet_of_frame portResetsEnd_frame rfl rfl) (.refl d)
  exact .after (.ite (quiet_of_frame watchEntry_frame rfl rfl) (.refl e)) (he.after (hd.after hsc))

theorem idle_quiet (he : ∀ n, (s.link n).expiry = none) (hf : s.eng.failing = []) (hp : s.fus.prog = none) :
    ({ s with hw := s.hw + 1 } : State).quiet s.idle := by
  have hs : s.quiet s.begin.expiriesStand.failuresStand.mboxDrain := by
    rw [expiriesStand_none (s := s.begin) he, failuresStand_none (s := s.begin) hf]
    exact .after (quiet_of_frame mboxDrain_frame rfl rfl) (.after (quiet_of_frame updEng_frame rfl rfl) (quiet_of_frame begin_frame rfl rfl))
  obtain ⟨⟨⟨hpend, -, hparts⟩, hcan⟩, hclaims⟩ := hs
  have htick : ({ s with hw := s.hw + 1 } : State).quiet { s.begin.expiriesStand.failuresStand.mboxDrain with hw := s.hw + 1 } :=
    ⟨⟨⟨hpend, rfl, hparts⟩, hcan⟩, hclaims⟩
  rw [idle_eq]
  exact (nanosecondEnds_quiet ((congrArg FusState.prog (htick.1.part .fus rfl)).trans hp)).after htick

end Sys2Proof.Machine.State
end

section
namespace Sys2Proof.Proofs

open Sys2Proof.Machine Sys2Proof.Machine.State

/-- Settles O2: a step on an empty queue is the idle nanosecond, whose frame is small when nothing waits for its end. -/
theorem emptyQueueLetsTimePass : Obligations.EmptyQueueLetsTimePass := by
  intro s hq
  obtain ⟨⟨hpend, hhw, -⟩, -⟩ := idle_frame (s := s)
  refine ⟨s.idle, by rw [step, hq], hhw, hpend.trans hq, fun he hf hp => ?_⟩
  obtain ⟨hframe, hclaims⟩ := idle_quiet he hf hp
  exact ⟨hframe.part .dram rfl, hframe.part .links rfl, hframe.part .tun rfl, hframe.part .key rfl, hframe.part .fus rfl,
    hframe.part .sch rfl, hclaims⟩

end Sys2Proof.Proofs
end

section
/-! SUPPORT. When a command completes: its operands name something, the domain that carries it runs, and its access goes through. -/

namespace Sys2Proof.Machine

variable {s t u : State} {ok : Bool}

/-- A command on operands that name something comes to its effect. -/
theorem completes (hok : ok = true) (h : t = u) : guarded ok t = .next u := by rw [hok, h]; rfl

/-- In a running domain too. -/
theorem completesIn {d : Nat} (hd : s.domainRuns d = true) (hok : ok = true) (h : t = u) : guardedIn d s ok t = .next u := by
  rw [guardedIn, State.inDomain, if_pos hd]
  exact completes hok h

/-- An event of a running domain comes to its effect. -/
theorem happensIn {d : Nat} (hd : s.domainRuns d = true) (h : t = u) : nextIn d s t = .next u := by
  rw [nextIn, State.inDomain, if_pos hd, h]

namespace State

/-- A command that is a register write which goes through comes to what the write does. -/
theorem completesWrite {path addr data : Nat} {act : State → State} (hok : ok = true) (hl : s.letsWrite path addr)
    (h : act (s.begin.tlpIn path) = u) : guarded ok (s.begin.gateWrite path addr data act) = .next u :=
  completes hok ((letsWrite_act hl).trans h)

/-- A command that is a register read which goes through comes to what the read does. -/
theorem completesRead {path addr : Nat} {act : State → State} (hok : ok = true) (hl : s.letsRead path addr)
    (h : act (s.begin.tlpIn path) = u) : guarded ok (s.begin.gateRead path addr act) = .next u :=
  completes hok ((letsRead_act hl).trans h)

@[simp] theorem tlpIn_ownerPath {path q : Nat} : (s.tlpIn path).ownerPath q = s.ownerPath q := by
  simp (disch := decide) only [ownerPath, tlpIn_rd, tlpIn_debugCsr]

/-- The page of a field's register. -/
theorem keyPage_key {f : Field} {i j : Nat} (h : f.lsb < 32) : keyPage (f.key i j) = (f.addr + i * f.si + j * f.sj) % 2 ^ 22 / 4096 := by
  rw [keyPage, keyAddr, Field.key, Nat.add_comm, Nat.add_mul_div_right _ _ (by decide), Nat.div_eq_of_lt h, Nat.zero_add]

/-- The arrival of an access changes no register of a page other than that of the event counters. -/
theorem tlpIn_rd_instance {path i j : Nat} {f : Field} (hf : f.lsb < 32) (h : (f.addr + i * f.si + j * f.sj) % 2 ^ 22 / 4096 ≠ 0x014) :
    (s.tlpIn path).rd f i j = s.rd f i j := tlpIn_rd s path (by rwa [keyPage_key hf])

@[simp] theorem begin_onLine {n : Nat} : s.begin.onLine n = s.onLine n := rfl

@[simp] theorem tlpIn_phy {path n : Nat} : (s.tlpIn path).phy n = s.phy n := by rw [phy, tlpIn_fus]; rfl

@[simp] theorem tlpIn_onLine {path n : Nat} : (s.tlpIn path).onLine n = s.onLine n := by rw [onLine, tlpIn_phy]; rfl

theorem tlpIn_cpdAttached {path n : Nat} (h : n < 16) : (s.tlpIn path).cpdAttached n = s.cpdAttached n := by
  rw [cpdAttached, cpdState, crd, tlpIn_rd_instance (by decide) (by simp only [R.CPD_STAT_STATE]; omega)]
  rfl

theorem tlpIn_jnlFill {path : Nat} : (s.tlpIn path).jnlFill = s.jnlFill := by
  rw [jnlFill, (tlpIn_frame (s := s) (path := path)).part .jnl rfl, tlpIn_rd s path (by decide), tlpIn_rd s path (by decide)]
  rfl

theorem tlpIn_jnlWord {path k : Nat} : (s.tlpIn path).jnlWord k = s.jnlWord k := by
  rw [jnlWord, tlpIn_jnlFill, (tlpIn_frame (s := s) (path := path)).part .jnl rfl, tlpIn_rd s path (by decide)]
  rfl

theorem tlpIn_macState {path m : Nat} (h : m < 4) : (s.tlpIn path).macState m = s.macState m :=
  tlpIn_rd_instance (by decide) (by simp only [R.ETH_MAC_STAT_STATE]; omega)

/-- The bank of a window lies 2 ^ 22 bytes past the one before: its page is that of the first, whatever its index. -/
theorem tlpIn_winState {path w : Nat} :
    (s.tlpIn path).owin R.HBR_OWIN_STAT_STATE w = s.owin R.HBR_OWIN_STAT_STATE w ∧
      (s.tlpIn path).iwin R.HBR_IWIN_STAT_STATE w = s.iwin R.HBR_IWIN_STAT_STATE w :=
  ⟨tlpIn_rd_instance (by decide) (by simp only [R.HBR_OWIN_STAT_STATE]; omega),
    tlpIn_rd_instance (by decide) (by simp only [R.HBR_IWIN_STAT_STATE]; omega)⟩

/-- A latch that the channel's own state calls for. -/
theorem latchFrom_now {c : Nat} {p : Nat → Bool} {cause : Nat → Nat} (h : p (s.chSt c) = true) :
    s.latchFrom c p cause = s.chTrip c (cause (s.chSt c)) := if_pos h

theorem tlpIn_outState {path o : Nat} (h : o < 4) : (s.tlpIn path).outState o = s.outState o :=
  tlpIn_rd_instance (by decide) (by simp only [R.DSP_OUT_STAT_STATE]; omega)

@[simp] theorem updBrg_rd {g : BrgState → BrgState} (f : Field) (i j : Nat) : (s.updBrg g).rd f i j = s.rd f i j := rfl

/-- A request of the host that nothing blocks is taken. -/
theorem hostAsks_unblocked {r : HostReq} (h : s.hostBlocked = false) : s.hostAsks r = s.hostTakes r :=
  if_neg fun hb => Bool.false_ne_true (h.symm.trans hb)

theorem tlpIn_semHeld {path i : Nat} (h : i < 64) : (s.tlpIn path).semHeld i = s.semHeld i := by
  rw [semHeld, tlpIn_rd_instance (by decide) (by simp only [R.HBR_SEM_HELD]; omega)]
  rfl

/-- Nothing else of a semaphore moves either. -/
theorem tlpIn_semOwner {path i : Nat} (h : i < 64) :
    (s.tlpIn path).rd R.HBR_SEM_EMU 0 i = s.rd R.HBR_SEM_EMU 0 i ∧ (s.tlpIn path).rd R.HBR_SEM_PATH 0 i = s.rd R.HBR_SEM_PATH 0 i :=
  ⟨tlpIn_rd_instance (by decide) (by simp only [R.HBR_SEM_EMU]; omega),
    tlpIn_rd_instance (by decide) (by simp only [R.HBR_SEM_PATH]; omega)⟩

/-- A write into the header of a listed page is carried out. -/
theorem headerWrite_go {path page off data : Nat} (hoff : off < 4096) (h4 : off % 4 = 0) (hp : pageListed page = true)
    (hl : s.letsWrite path (page * 4096 + off)) :
    s.begin.csrWrite path (page * 4096 + off) data = (s.begin.tlpIn path).writeAct path (page * 4096 + off) data :=
  csrWrite_go (by omega) (by rwa [show (page * 4096 + off) / 4096 = page by omega]) hl

theorem tlpIn_auxData {path o : Nat} (h : o < 4) : (s.tlpIn path).auxData o = s.auxData o :=
  congrArg List.flatten (List.map_congr_left fun j hj => by
    have hj4 : j < 4 := List.mem_range.mp hj
    rw [tlpIn_rd_instance (by decide) (by simp only [R.DSP_AUX_D]; omega)])

theorem auxData_busy {v o : Nat} : (s.wr R.DSP_AUX_STAT_BUSY v o).auxData o = s.auxData o :=
  congrArg List.flatten (List.map_congr_left fun j _ => by
    rw [rd_wr_ne (by simp only [Field.key, R.DSP_AUX_D, R.DSP_AUX_STAT_BUSY]; omega)])

/-- The address of an AUX command's transfer, by the kind of command. -/
def auxPlace (op data : Nat) : Nat := if op < 3 then bitsOf data 27 8 else bitsOf data 14 8

/-- An AUX command of an output that is trained and has no transfer starts one. -/
theorem auxCmd_idle {path o op data : Nat} (ho : o < 4) (hl : s.letsWrite path (auxAddr o)) (htrain : s.outState o ≠ outTraining)
    (hpsr : s.outState o ≠ outPsr) (hidle : (s.output o).aux = none) :
    s.begin.auxCmd path o op data =
      (((s.begin.tlpIn path).updOutput o (fun x => { x with aux := some (op, auxPlace op data, bitsOf data 7 4 + 1, 1) })).wr
        R.DSP_AUX_STAT_BUSY 1 o).emit (.aux o op (auxPlace op data) (bitsOf data 7 4 + 1)
          (if op % 2 = 0 then (s.auxData o).take (bitsOf data 7 4 + 1) else [])) := by
  have hfree : ¬ ((s.begin.tlpIn path).outState o = outTraining ∨ (s.begin.tlpIn path).outState o = outPsr ∨
      ((s.begin.tlpIn path).output o).aux.isSome = true) := by
    have hout : (s.begin.tlpIn path).output o = s.output o := by
      rw [output, tlpIn_dsp]
      rfl
    rw [tlpIn_outState ho, hout, hidle]
    exact fun h => h.elim htrain (fun h => h.elim hpsr Bool.false_ne_true)
  have hdata : ∀ g, (((s.begin.tlpIn path).updOutput o g).wr R.DSP_AUX_STAT_BUSY 1 o).auxData o = s.auxData o := fun _ =>
    auxData_busy.trans (tlpIn_auxData ho)
  rw [auxCmd, letsWrite_act hl, if_neg hfree]
  dsimp only
  rw [hdata]
  rfl

theorem replayExpires_link {n : Nat} :
    ((s.replayExpires n).link n).expiries = (s.link n).expiries + 1 ∧
      ((s.replayExpires n).link n).resend = s.oldest n :: (s.link n).resend.filter (· ≠ s.oldest n) := by
  have hlinks : ((s.bump R.TRK_RPL_TMO n).irq (trunkPage n) 4).link n = s.link n := by
    rw [link, irq_links, bump_links]
    rfl
  unfold replayExpires updLink
  rw [link_setLink_same, hlinks]
  exact ⟨rfl, rfl⟩

@[simp] theorem tlpIn_rxActive {path n lane : Nat} : (s.tlpIn path).rxActive n lane = s.rxActive n lane := by
  have h0 : (s.tlpIn path).rd R.TRK_LANESTAT_P0_LANE n = s.rd R.TRK_LANESTAT_P0_LANE n :=
    tlpIn_rd_instance (by decide) (by simp only [R.TRK_LANESTAT_P0_LANE]; omega)
  have h1 : (s.tlpIn path).rd R.TRK_LANESTAT_P1_LANE n = s.rd R.TRK_LANESTAT_P1_LANE n :=
    tlpIn_rd_instance (by decide) (by simp only [R.TRK_LANESTAT_P1_LANE]; omega)
  rw [rxActive, h0, h1]
  rfl

@[simp] theorem tlpIn_rxRetired {path n lane : Nat} : (s.tlpIn path).rxRetired n lane = s.rxRetired n lane := by
  rw [rxRetired, tlpIn_rd_instance (by decide) (by simp only [R.TRK_LANESTAT_RETIRED_MASK]; omega)]
  rfl

@[simp] theorem tlpIn_rxSpare {path n : Nat} : (s.tlpIn path).rxSpare n = s.rxSpare n :=
  tlpIn_rd_instance (by decide) (by simp only [R.TRK_LANESTAT_SPARE_LANE]; omega)

@[simp] theorem tlpIn_lanesBound {path n : Nat} : (s.tlpIn path).lanesBound n = s.lanesBound n := by
  have hst : (s.tlpIn path).linkState n = s.linkState n := tlpIn_rd_instance (by decide) (by simp only [R.TRK_LSTAT_STATE]; omega)
  rw [lanesBound, linkRuns, hst]
  rfl

@[simp] theorem begin_lanesBound {n : Nat} : s.begin.lanesBound n = s.lanesBound n := rfl

@[simp] theorem tlpIn_btState {path b : Nat} : (s.tlpIn path).btState b = s.btState b :=
  tlpIn_rd_instance (by decide) (by simp only [R.STO_BT_STAT_STATE]; omega)

@[simp] theorem tlpIn_btPort {path b : Nat} : (s.tlpIn path).btPort b = s.btPort b :=
  congrArg (· / 32) (tlpIn_rd_instance (by decide) (by simp only [R.STO_BT_CFG_NS]; omega))

@[simp] theorem tlpIn_tunsOn {path p : Nat} : (s.tlpIn path).tunsOn p = s.tunsOn p := by
  simp only [tunsOn, tlpIn_btState, tlpIn_btPort]

theorem tlpIn_rpState {path p : Nat} (h : p < 2) : (s.tlpIn path).rpState p = s.rpState p :=
  tlpIn_rd_instance (by decide) (by simp only [R.STO_RP_STAT_STATE]; omega)

@[simp] theorem tlpIn_learning {path n : Nat} :
    (s.tlpIn path).rd R.TRK_LANESTAT_LEARNING n = s.rd R.TRK_LANESTAT_LEARNING n :=
  tlpIn_rd_instance (by decide) (by simp only [R.TRK_LANESTAT_LEARNING]; omega)

@[simp] theorem tlpIn_link {path n : Nat} : (s.tlpIn path).link n = s.link n := by rw [link, tlpIn_links]; rfl

@[simp] theorem tlpIn_planeState {path p : Nat} : (s.tlpIn path).planeState p = s.planeState p :=
  tlpIn_rd_instance (by decide) (by simp only [R.SW_STAT_STATE]; omega)

@[simp] theorem tlpIn_inService {path p : Nat} : (s.tlpIn path).inService p = s.inService p := by
  rw [inService, tlpIn_rd_instance (by decide) (by simp only [R.SW_STAT_STATE]; omega)]
  rfl

@[simp] theorem tlpIn_planeEn {path p : Nat} : (s.tlpIn path).rd R.SW_CFG_EN p = s.rd R.SW_CFG_EN p :=
  tlpIn_rd_instance (by decide) (by simp only [R.SW_CFG_EN]; omega)

@[simp] theorem tlpIn_frozen {path : Nat} : (s.tlpIn path).frozen = s.frozen := by
  simp (disch := decide) only [frozen, tlpIn_rd]

@[simp] theorem tlpIn_committing {path : Nat} : (s.tlpIn path).committing = s.committing := by
  simp (disch := decide) only [committing, tlpIn_rd]

@[simp] theorem tlpIn_swapTarget {path : Nat} : (s.tlpIn path).swapTarget = s.swapTarget := by
  unfold swapTarget livePair
  rw [tlpIn_rd s path (by decide)]
  simp only [tlpIn_pairState]

/-- A command of a plane's groups, while no commit of them is under way. -/
theorem mcgCmd_free {path p op : Nat} {act : State → State} (hl : s.letsWrite path (mcgCmdAddr p))
    (hbusy : s.rd R.SW_MCG_STAT_BUSY p = 0) : s.begin.mcgCmd path p op act = act (s.begin.tlpIn path) := by
  have hfree : ¬ (s.begin.tlpIn path).rd R.SW_MCG_STAT_BUSY p = 1 := by
    rw [tlpIn_rd_instance (by decide) (by simp only [R.SW_MCG_STAT_BUSY]; omega), begin_rd, hbusy]
    decide
  rw [mcgCmd, letsWrite_act hl, if_neg hfree]

theorem tlpIn_vid_of_lt {path k : Nat} (h : k < 3) : (s.tlpIn path).vid k = s.vid k := by
  have hf : (s.tlpIn path).rd R.PWR_VIDF 0 k = s.rd R.PWR_VIDF 0 k := tlpIn_rd_instance (by decide) (by simp only [R.PWR_VIDF]; omega)
  have hu : (s.tlpIn path).rd R.PWR_VIDU 0 k = s.rd R.PWR_VIDU 0 k := tlpIn_rd_instance (by decide) (by simp only [R.PWR_VIDU]; omega)
  rw [vid, hf, hu]
  rfl

/-- A written trim, as the setpoint and the power state decide. -/
theorem trimWrite_decided {path k data : Nat} (hk : k < 3) (hl : s.letsWrite path (0x31074 + 4 * k))
    (hu : u = (s.begin.tlpIn path).store path (0x31074 + 4 * k) data [R.PWR_VIDU] 0 k) :
    s.begin.trimWrite path k data =
      if u.vid k = s.vid k then u
      else if u.pwr.trans.isSome then u.updPwr (fun p => { p with trimmed := p.trimmed ++ [k] })
      else if k = vidIndex u.pwrState then u.regAsk [(0, .volt u.vidNow)]
      else u := by
  have hvid : (s.begin.tlpIn path).vid k = s.vid k := tlpIn_vid_of_lt hk
  unfold trimWrite
  rw [letsWrite_act hl, ← hu, hvid]

theorem tlpIn_descWord {path w : Nat} : (s.tlpIn path).rd R.USB_DESC_DATA 0 w = s.rd R.USB_DESC_DATA 0 w :=
  tlpIn_rd_instance (by decide) (by simp only [R.USB_DESC_DATA]; omega)

/-- A written descriptor word is not the index. -/
theorem descWritten_autoinc {v w : Nat} : (s.wr R.USB_DESC_DATA v 0 w).rd R.USB_DESC_INDEX_AUTOINC = s.rd R.USB_DESC_INDEX_AUTOINC :=
  rd_wr_ne (by simp only [Field.key, R.USB_DESC_DATA, R.USB_DESC_INDEX_AUTOINC]; omega)

theorem answer_rd_descAutoinc {path v : Nat} : (s.answer path v).rd R.USB_DESC_INDEX_AUTOINC = s.rd R.USB_DESC_INDEX_AUTOINC :=
  answer_get (by decide)

/-- What a read of a semaphore does (R344). -/
def semRead (s : State) (path i : Nat) : State :=
  let s := if s.semHeld i then s else s.semTake i 0 path
  let emu := s.rd R.HBR_SEM_EMU 0 i
  let holder := s.rd R.HBR_SEM_PATH 0 i
  let got := if emu = 0 ∧ holder = path then 1 else 0
  s.answer path (got + 2 + 4 * emu + 16 * holder)

theorem semTake_owner {path i : Nat} (hp : path < 8) :
    (s.semTake i 0 path).rd R.HBR_SEM_HELD 0 i = 1 ∧ (s.semTake i 0 path).rd R.HBR_SEM_EMU 0 i = 0 ∧
      (s.semTake i 0 path).rd R.HBR_SEM_PATH 0 i = path := by
  have hkeys : R.HBR_SEM_HELD.key 0 i ≠ R.HBR_SEM_EMU.key 0 i ∧ R.HBR_SEM_HELD.key 0 i ≠ R.HBR_SEM_PATH.key 0 i ∧
      R.HBR_SEM_EMU.key 0 i ≠ R.HBR_SEM_PATH.key 0 i := by
    simp only [Field.key, R.HBR_SEM_HELD, R.HBR_SEM_EMU, R.HBR_SEM_PATH]
    omega
  obtain ⟨hhe, hhp, hep⟩ := hkeys
  refine ⟨(rd_wr_ne hhp).trans ((rd_wr_ne hhe).trans (rd_wr_same ..)), (rd_wr_ne hep).trans (rd_wr_same ..), (rd_wr_same ..).trans ?_⟩
  exact Nat.mod_eq_of_lt hp

/-- A free semaphore is taken by the path that reads it, which is told so. -/
theorem semRead_takes {path i : Nat} (hi : i < 64) (hp : path < 8) (hfree : s.semHeld i = false) :
    ((s.begin.tlpIn path).semRead path i).semHeld i = true ∧ .csr path (3 + 16 * path) ∈ ((s.begin.tlpIn path).semRead path i).out := by
  have hfree' : (s.begin.tlpIn path).semHeld i = false := (tlpIn_semHeld hi).trans hfree
  obtain ⟨hheld, hemu, hown⟩ := semTake_owner (s := s.begin.tlpIn path) (i := i) hp
  have hread : (s.begin.tlpIn path).semRead path i = ((s.begin.tlpIn path).semTake i 0 path).answer path (3 + 16 * path) := by
    unfold semRead
    rw [hfree', if_neg Bool.false_ne_true]
    dsimp only
    rw [hemu, hown, if_pos ⟨rfl, rfl⟩]
  rw [hread]
  refine ⟨?_, answer_mem ..⟩
  have hkept : (((s.begin.tlpIn path).semTake i 0 path).answer path (3 + 16 * path)).rd R.HBR_SEM_HELD 0 i = 1 :=
    (answer_get (by rw [keyPage_key (by decide)]; simp only [R.HBR_SEM_HELD]; omega)).trans hheld
  rw [semHeld, hkept]
  rfl

theorem not_drainedTo {n : Nat} (hp : t.pwr = s.pwr) (h : s.pwr.drained < n) : ¬ t.drainedTo n = true := by
  rw [drainedTo, hp, decide_eq_true_iff]
  exact Nat.not_le.mpr h

theorem winStored_pwr {path data w : Nat} {addr : Nat} {fs : List Field} {f : Field} :
    (((s.begin.tlpIn path).store path addr data fs 0 w).wr f 1 0 w).pwr = s.pwr :=
  (wr_pwr ..).trans ((store_pwr ..).trans (tlpIn_pwr ..))

/-- An EN of 1 written to a disabled outbound window opens it. -/
theorem owinCfgWrite_opens {path data : Nat} (hl : s.letsWrite path 0x321044)
    (hst : s.owin R.HBR_OWIN_STAT_STATE (s.rd R.HBR_OWIN_INDEX) = winDisabled) (hdr : s.pwr.drained < 3) :
    s.begin.winCfgWrite path (data / 2 * 2 + 1) false =
      (((s.begin.tlpIn path).store path 0x321044 (data / 2 * 2 + 1) owinCfg 0 (s.rd R.HBR_OWIN_INDEX)).wr R.HBR_OWIN_CFG_EN 1 0
        (s.rd R.HBR_OWIN_INDEX)).wr R.HBR_OWIN_STAT_STATE winOpen 0 (s.rd R.HBR_OWIN_INDEX) := by
  have hodd : (data / 2 * 2 + 1) % 2 ≠ 0 := by omega
  have hidx : (s.begin.tlpIn path).rd R.HBR_OWIN_INDEX = s.rd R.HBR_OWIN_INDEX := tlpIn_rd s.begin path (by decide)
  have hfree : ((s.begin.tlpIn path).owin R.HBR_OWIN_STAT_STATE (s.rd R.HBR_OWIN_INDEX) == winDisabled) = true :=
    beq_iff_eq.mpr (tlpIn_winState.1.trans hst)
  rw [winCfgWrite, if_neg Bool.false_ne_true, letsWrite_act hl]
  dsimp only
  rw [hidx, hfree, if_neg hodd, if_pos rfl, if_pos rfl, if_neg (not_drainedTo winStored_pwr hdr)]

/-- An EN of 1 written to a disabled inbound window opens it. -/
theorem iwinCfgWrite_opens {path data : Nat} (hl : s.letsWrite path 0x322044)
    (hst : s.iwin R.HBR_IWIN_STAT_STATE (s.rd R.HBR_IWIN_INDEX) = winDisabled) (hdr : s.pwr.drained < 3) :
    s.begin.winCfgWrite path (data / 2 * 2 + 1) true =
      (((s.begin.tlpIn path).store path 0x322044 (data / 2 * 2 + 1) iwinCfg 0 (s.rd R.HBR_IWIN_INDEX)).wr R.HBR_IWIN_CFG_EN 1 0
        (s.rd R.HBR_IWIN_INDEX)).wr R.HBR_IWIN_STAT_STATE winOpen 0 (s.rd R.HBR_IWIN_INDEX) := by
  have hodd : (data / 2 * 2 + 1) % 2 ≠ 0 := by omega
  have hidx : (s.begin.tlpIn path).rd R.HBR_IWIN_INDEX = s.rd R.HBR_IWIN_INDEX := tlpIn_rd s.begin path (by decide)
  have hfree : ((s.begin.tlpIn path).iwin R.HBR_IWIN_STAT_STATE (s.rd R.HBR_IWIN_INDEX) == winDisabled) = true :=
    beq_iff_eq.mpr (tlpIn_winState.2.trans hst)
  rw [winCfgWrite, if_pos rfl, letsWrite_act hl]
  dsimp only
  rw [hidx, hfree, if_neg hodd, if_pos rfl, if_pos rfl, if_neg (not_drainedTo winStored_pwr hdr)]

theorem tlpIn_serves {path e : Nat} (h : e < 16) : (s.tlpIn path).serves e = s.serves e := by
  have hst : (s.tlpIn path).engSt e = s.engSt e := tlpIn_rd_instance (by decide) (by simp only [R.ENG_HEALTH_STATE]; omega)
  rw [serves, hst]
  rfl

/-! ### Key store and OTP commands -/

theorem tlpIn_bufBytes {path n : Nat} {f : Field} (h : ∀ j < n, keyPage (f.key 0 j) ≠ 0x014) :
    (s.tlpIn path).bufBytes f n = s.bufBytes f n :=
  congrArg List.flatten (List.map_congr_left fun j hj => by rw [tlpIn_rd s path (h j (List.mem_range.mp hj))])

@[simp] theorem tlpIn_rootIs {path r : Nat} : (s.tlpIn path).rootIs r = s.rootIs r := by
  rw [rootIs, tlpIn_rd s path (by decide)]
  rfl

@[simp] theorem tlpIn_slot {path k : Nat} : (s.tlpIn path).slot k = s.slot k := by rw [slot, tlpIn_key]; rfl

@[simp] theorem tlpIn_needRoot {path : Nat} {o : Option Nat} : (s.tlpIn path).needRoot o = s.needRoot o := by
  rw [needRoot, tlpIn_rootIs]
  rfl

@[simp] theorem tlpIn_slotRefused {path k : Nat} {kind bit eng : Option Nat} :
    (s.tlpIn path).slotRefused k kind bit eng = s.slotRefused k kind bit eng := by
  rw [slotRefused, loaded, tlpIn_slot]
  rfl

@[simp] theorem tlpIn_provisionRefused {path q : Nat} : (s.tlpIn path).provisionRefused q = s.provisionRefused q := by
  have htamper : (s.tlpIn path).tamperActive = s.tamperActive := by
    simp (disch := decide) only [tamperActive, tlpIn_rd]
  rw [provisionRefused, tlpIn_ownerPath, tlpIn_rootIs, tlpIn_debugOpen, htamper]
  rfl

@[simp] theorem tlpIn_blobBad {path k : Nat} {buf : List Byte} : (s.tlpIn path).blobBad buf k = s.blobBad buf k := by
  rw [blobBad, tlpIn_rd s path (by decide)]
  rfl

/-- The arrival of a command changes nothing that its refusal depends on. -/
theorem tlpIn_keyRefused {path q op k kind l : Nat} {buf : List Byte} :
    (s.tlpIn path).keyRefused q op k kind l buf = s.keyRefused q op k kind l buf := by
  unfold keyRefused
  rw [tlpIn_slot, tlpIn_blobBad]
  simp only [tlpIn_provisionRefused, tlpIn_needRoot, tlpIn_slotRefused]

theorem tlpIn_otpRefused {path q op kind svn : Nat} : (s.tlpIn path).otpRefused q op kind svn = s.otpRefused q op kind svn := by
  unfold otpRefused svnMinOf
  rw [tlpIn_ownerPath, tlpIn_key]

theorem tlpIn_keyBuf {path : Nat} : (s.tlpIn path).bufBytes R.KEY_BUF 64 = s.bufBytes R.KEY_BUF 64 := tlpIn_bufBytes (by decide)

theorem tlpIn_otpBuf {path : Nat} : (s.tlpIn path).bufBytes R.KEY_OTP_BUF 12 = s.bufBytes R.KEY_OTP_BUF 12 := tlpIn_bufBytes (by decide)

/-- A key command that goes through while the key store is free, as its refusal decides. -/
theorem keyWrite_decided {path op k kind usage l : Nat} (hl : s.letsWrite path keyCmdAddr) (hbusy : s.rd R.KEY_STAT_BUSY = 0) :
    s.begin.keyWrite path op k kind usage l =
      match s.keyRefused path op k kind l (s.bufBytes R.KEY_BUF 64) with
      | some r => (s.begin.tlpIn path).keyResult r
      | none => ((s.begin.tlpIn path).updKey (fun x =>
        { x with job := some ⟨op, k, kind, usage, s.bufBytes R.KEY_BUF 64⟩ })).wr R.KEY_STAT_BUSY 1 := by
  have hfree : ¬ (s.begin.tlpIn path).rd R.KEY_STAT_BUSY = 1 := by
    rw [tlpIn_rd s.begin path (by decide), begin_rd, hbusy]
    decide
  rw [keyWrite, gateWrite_go (s := s.begin) hl.2, keyCmd, if_neg hfree, tlpIn_keyRefused, tlpIn_keyBuf]
  rfl

/-- A key command that nothing refuses starts its job. -/
theorem keyWrite_starts {path op k kind usage l : Nat} (hl : s.letsWrite path keyCmdAddr) (hbusy : s.rd R.KEY_STAT_BUSY = 0)
    (hnone : s.keyRefused path op k kind l (s.bufBytes R.KEY_BUF 64) = none) :
    s.begin.keyWrite path op k kind usage l = ((s.begin.tlpIn path).updKey (fun x =>
      { x with job := some ⟨op, k, kind, usage, s.bufBytes R.KEY_BUF 64⟩ })).wr R.KEY_STAT_BUSY 1 := by
  rw [keyWrite_decided hl hbusy, hnone]

/-- One that is refused shows why. -/
theorem keyWrite_refused {path op k kind usage l r : Nat} (hl : s.letsWrite path keyCmdAddr) (hbusy : s.rd R.KEY_STAT_BUSY = 0)
    (hsome : s.keyRefused path op k kind l (s.bufBytes R.KEY_BUF 64) = some r) :
    s.begin.keyWrite path op k kind usage l = (s.begin.tlpIn path).keyResult r := by
  rw [keyWrite_decided hl hbusy, hsome]

/-- A slot without the engine's bit refuses that engine (R420). -/
theorem slotRefused_engine {k l : Nat} {x : KeySlot} {path : Nat} {kind bit : Option Nat} (hp : path = pathEngine) (hx : s.loaded k = some x)
    (hbit : x.engMask.testBit l = false) : s.slotRefused k kind bit (engineOf path l) = some keyUsage := by
  rw [slotRefused, hx]
  simp [engineOf, hp, hbit]

theorem needRoot_provisioned {o : Option Nat} (h : s.rootIs rootProvisioned = true) : s.needRoot o = o := if_pos h

/-- An OTP command that nothing refuses starts its job. -/
theorem otpWrite_starts {path op kind svn : Nat} (hl : s.letsWrite path otpCmdAddr) (hbusy : s.rd R.KEY_OTP_STAT_BUSY = 0)
    (hnone : s.otpRefused path op kind svn = none) :
    s.begin.otpWrite path op kind svn = ((s.begin.tlpIn path).updKey (fun x =>
      { x with otpJob := some ⟨op, 0, kind, svn, s.bufBytes R.KEY_OTP_BUF 12⟩ })).wr R.KEY_OTP_STAT_BUSY 1 := by
  have hfree : ¬ (s.begin.tlpIn path).rd R.KEY_OTP_STAT_BUSY = 1 := by
    rw [tlpIn_rd s.begin path (by decide), begin_rd, hbusy]
    decide
  have hgo : (s.begin.tlpIn path).otpRefused path op kind svn = none := tlpIn_otpRefused.trans hnone
  rw [otpWrite, gateWrite_go (s := s.begin) hl.2, otpCmd, if_neg hfree, hgo, tlpIn_otpBuf]
  rfl

end State

end Sys2Proof.Machine
end

section
namespace Sys2Proof.Proofs

open Sys2Proof.Machine Sys2Proof.Machine.State

/-- Settles O37: an access of a command is the access of the fabric, which goes through on a path that may make it. -/
theorem registerPathsComplete : Obligations.RegisterPathsComplete := fun s =>
  ⟨fun _ _ _ _ hl hp ha h4 hdata hbe => by
      subst hbe
      rw [exec_registerWrite hl.1 ha hdata (by decide), csrWrite_go h4 hp hl],
    fun _ _ _ hl hp ha h4 hbe => by
      subst hbe
      rw [exec_latchingRead hl.1 ha (by decide), csrRead_go h4 hp hl],
    fun _ _ _ _ hl hp _ h4 _ hoff hplace hpair => completes (by simp [h4, hpair, hl.1]; omega)
      ((csrWrite_go h4 hp hl).trans (by rw [writeAct, if_neg hoff, hplace]; dsimp only; rw [hpair])),
    fun _ _ _ hl hp hdata => completes (by simp only [hp, hdata, hl.1, decide_true, Bool.and_self])
      (headerWrite_go (by decide) (by decide) hp hl),
    fun _ hp hsoft hbusy hruns => exec_softResetAct hp hsoft hbusy hruns,
    fun _ _ _ hl hp hdata => completes (by simp only [hp, hdata, hl.1, decide_true, Bool.and_self])
      (headerWrite_go (by decide) (by decide) hp hl),
    fun _ _ _ hl hp hdata => completes (by simp only [hp, hdata, hl.1, decide_true, Bool.and_self])
      ((headerWrite_go (by decide) (by decide) hp hl).trans ((if_pos (by omega)).trans (congrArg (forceIrq _ · _) (by omega)))),
    fun _ hpath => completes (decide_eq_true hpath) rfl,
    fun _ _ _ hdev haddr hd hi2cReady hx => completesIn hd (by simp only [hdev, haddr, decide_true, Bool.and_self]) (by simp [hi2cReady, hx]),
    fun _ _ hdev haddr hd hi2cReady => completesIn hd (by simp only [hdev, haddr, decide_true, Bool.and_self]) (if_pos hi2cReady),
    fun _ haddr hd hown hstop => completesIn hd (decide_eq_true haddr)
      ((if_pos hown).trans (congrArg (wakeEvent · 1 0) (if_pos hstop))),
    fun _ haddr hd hown hrun => completesIn hd (decide_eq_true haddr)
      ((if_pos hown).trans (congrArg (wakeEvent · 1 0) (if_neg (ne_of_eq_of_ne hrun Bool.false_ne_true))))⟩

/-- Settles O38: each is its effect under its domain or its write, while no commit is under way. -/
theorem tunnelMapCompletes : Obligations.TunnelMapCompletes := fun s =>
  ⟨fun _ _ _ hsp hd => completesIn hd (by simp; omega) (if_pos hsp),
    fun _ _ _ hsp' hsp hd => completesIn hd (decide_eq_true hsp) (by simp [hsp']),
    fun _ _ hp hq hd => completesIn hd (by simp [hp, hq]) rfl,
    fun _ _ hq htid hd => completesIn hd (by simp [hq, htid]) rfl,
    fun _ hd => happensIn hd rfl,
    fun _ hl hbusy => ⟨completesWrite (decide_eq_true hl.1) hl (by simp (disch := decide) [tlpIn_rd, hbusy]),
      completesWrite (decide_eq_true hl.1) hl (by simp (disch := decide) [tlpIn_rd, hbusy]),
      completesWrite (decide_eq_true hl.1) hl (by simp (disch := decide) [tlpIn_rd, hbusy]),
      completesWrite (decide_eq_true hl.1) hl (by simp (disch := decide) [tlpIn_rd, hbusy])⟩,
    fun hd => ⟨happensIn hd rfl,
      happensIn hd rfl⟩,
    fun _ hl hbusy => ⟨completesWrite (decide_eq_true hl.1) hl (by simp (disch := decide) [tlpIn_rd, hbusy]),
      completesWrite (decide_eq_true hl.1) hl (by simp (disch := decide) [tlpIn_rd, hbusy])⟩⟩

/-- Settles O39: a running link's commands are their effects; the replay timer's is read off the link that it writes. -/
theorem linksComplete : Obligations.LinksComplete := fun s =>
  ⟨fun _ _ _ _ _ hn hlane hd hlinkRuns hfault hx => completesIn hd (by simp [hn, hlane]) (by simp [hlinkRuns, hfault, hx]),
    fun _ _ _ _ hn hlane hd hrun hbad => completesIn hd (by simp [hn, hlane]) (by
      have hno : (if _ = true then none else decodeCell _) = none := ite_eq_left_iff.mpr fun h => hbad.resolve_left h
      simp [hrun, hno]),
    fun _ hn hd hlinkRuns hackArmed => completesIn hd (decide_eq_true hn) (by simp [hlinkRuns, hackArmed]),
    fun _ hn hd hlinkRuns hacks hcellReady => completesIn hd (decide_eq_true hn) (by simp [hlinkRuns, hacks, hcellReady]),
    fun _ hn hd hlinkRuns hacks hcellReady => completesIn hd (decide_eq_true hn) (by simp [hlinkRuns, hacks, hcellReady]),
    fun _ _ _ _ _ _ hn hcumv hbase hmap hd hlinkRuns hrtt => completesIn hd (by simp only [hn, hcumv, hbase, hmap, decide_true, Bool.and_self]) (by simp [hlinkRuns, hrtt]),
    fun _ _ _ _ _ hn hcumv hbase hmap hd hlinkRuns hrtt => completesIn hd (by simp only [hn, hcumv, hbase, hmap, decide_true, Bool.and_self]) (by simp [hlinkRuns, hrtt]),
    fun _ _ hn hecc hd => completesIn hd (by simp [hn, hecc]) rfl,
    fun n hn hd hrun hreplay hcum => ⟨s.begin.replayExpires n, completesIn hd (decide_eq_true hn)
        (by simp [hrun, hreplay, hcum]),
      replayExpires_link.1, replayExpires_link.2⟩,
    fun _ _ _ hn hv hlimit hd hlinkRuns => completesIn hd (by simp only [hn, hv, hlimit, decide_true, Bool.and_self]) (if_pos hlinkRuns),
    fun _ hn hd hlinkRuns => completesIn hd (decide_eq_true hn) (if_pos hlinkRuns),
    fun _ _ hn hd hx => completesIn hd (decide_eq_true hn) (by simp [hx]),
    fun _ hn hd hlinkState => completesIn hd (decide_eq_true hn) (if_pos hlinkState),
    fun _ hn hd hst hleft => completesIn hd (decide_eq_true hn)
      ((if_neg (ne_of_eq_of_ne hst (by decide))).trans (if_pos ⟨hst, hleft⟩)),
    fun _ _ hn hd => completesIn hd (decide_eq_true hn) rfl,
    fun _ hn hd hlinkState => completesIn hd (decide_eq_true hn) (if_pos hlinkState),
    fun _ hn hd hlinkState hen => completesIn hd (decide_eq_true hn) (by simp [hlinkState, hen]),
    fun _ hn hd hlinkState hen => completesIn hd (decide_eq_true hn) (by simp [hlinkState, hen]),
    fun _ _ _ _ hn hl ht hen hst hdwelt => completesWrite (by simp [hn, hl.1]) hl
      (by subst ht; exact (if_pos hen).trans (if_pos ⟨hst, hdwelt⟩)),
    fun _ _ _ _ hn hl ht hen hst => completesWrite (by simp [hn, hl.1]) hl
      (by subst ht; exact (if_neg (ne_of_eq_of_ne hen (by decide))).trans (if_pos hst)),
    fun _ hn hd hlinkState => completesIn hd (decide_eq_true hn) (if_pos hlinkState),
    fun _ _ hn hl => completesWrite (by simp [hn, hl.1]) hl rfl⟩

/-- Settles O40: each is its effect under the lanes' state that the hypotheses name. -/
theorem trunkLanesComplete : Obligations.TrunkLanesComplete := fun s =>
  ⟨fun _ _ hn hd hlinkState => completesIn hd (decide_eq_true hn) (if_pos hlinkState),
    fun _ hn hd hlinkState hstep => completesIn hd (decide_eq_true hn) (by simp [hlinkState, hstep]),
    fun _ hn hd hlinkState hretryWait => completesIn hd (decide_eq_true hn) (by simp [hlinkState, hretryWait]),
    fun _ _ hn hd hlinkState hlearning => completesIn hd (decide_eq_true hn) (by simp [hlinkState, hlearning]),
    fun _ _ hn hd hlinkState hlearning => completesIn hd (decide_eq_true hn) (by simp [hlinkState, hlearning]),
    fun _ hn hd hlinkState hv21 => completesIn hd (decide_eq_true hn) (by simp [hlinkState, hv21]),
    fun _ _ hn hx hd hlinkState hv21 => completesIn hd (by simp [hn, hx]) (by simp [hlinkState, hv21]),
    fun _ _ hn hlane hd => completesIn hd (by simp [hn, hlane]) rfl,
    fun _ hn hd => completesIn hd (decide_eq_true hn) rfl,
    fun _ _ _ hn hlane hrseq hd => completesIn hd (by simp [hn, hlane, hrseq]) rfl,
    fun _ _ _ _ _ _ hn hsrc hdst hpos hd => completesIn hd (by simp [hn, hsrc, hdst, hpos]) rfl,
    fun _ hn hd hsubst => completesIn hd (decide_eq_true hn) (if_pos hsubst),
    fun _ hn hd => completesIn hd (decide_eq_true hn) rfl,
    fun _ hn hd hlinkState hlearning => completesIn hd (decide_eq_true hn) (by simp [hlinkState, hlearning]),
    fun _ _ _ hn hlane hl hbound hlearn hact hspare hsubst => completesWrite (by simp [hn, hlane, hl.1]) hl
      (by simp [hbound, hlearn, hact, hspare, hsubst]),
    fun _ _ _ hn hlane hl hret => completesWrite (by simp [hn, hlane, hl.1]) hl (by simp [hret]),
    fun _ _ hn hl => completesWrite (by simp [hn, hl.1]) hl rfl,
    fun _ _ hn hlane hd hrxRetired hrxSpare hheldGood => completesIn hd (by simp [hn, hlane]) (by simp [hrxRetired, hrxSpare, hheldGood]),
    fun _ n _ _ hn hl ht hen hst => completes (by simp [hn, hl.1]) (by
      have haddr : lanePage n * 4096 + 0xA0 = (0x082 + 8 * n) * 4096 + 0xA0 := by unfold lanePage trunkPage; omega
      rw [haddr] at hl ht
      subst ht
      refine (letsWrite_act hl).trans ?_
      dsimp only
      rw [if_pos ⟨hen, hst⟩])⟩

/-- Settles O41: each is its effect; a plane's and the Ringmaster's commands read what the arrival of the write leaves. -/
theorem switchPlanesComplete : Obligations.SwitchPlanesComplete := fun s =>
  ⟨fun _ hsp' hsp hd hsp2 hsp3 hsp4 hsp5 => completesIn hd (by simp [hsp', hsp]) (by simp [hsp2, hsp3, hsp4, hsp5]),
    fun _ hd hsp => completesIn hd (by simp only [hsp]; rfl) (by
      have hne : ∀ x, spBridge ≠ x → _ ≠ x := fun x h => ne_of_eq_of_ne hsp h
      exact (if_neg (hne _ (by decide))).trans ((if_neg (hne _ (by decide))).trans ((if_neg (hne _ (by decide))).trans (if_pos hsp)))),
    fun _ hd hsp => completesIn hd (by simp only [hsp]; rfl) (by rw [hsp]; rfl),
    fun _ hd hsp => completesIn hd (by simp only [hsp]; rfl) (by rw [hsp]; rfl),
    fun _ hd hsp => completesIn hd (by simp only [hsp]; rfl) (if_pos hsp),
    fun _ hp hd => completesIn hd (decide_eq_true hp) rfl,
    fun _ v hp hd hin hv hdown => completesIn hd (decide_eq_true hp)
      (if_pos (.inr ⟨hin, List.any_eq_true.mpr ⟨v, hv, by simp [hdown]⟩⟩)),
    fun _ _ hn hecc hd hlinkRuns => completesIn hd (by simp [hecc]; omega) (by simp [hn, hlinkRuns]),
    fun _ _ hn' hn hecc hd => completesIn hd (by simp [hn, hecc]) (if_pos hn'),
    fun _ hp hd => completesIn hd (decide_eq_true hp) rfl,
    fun _ hp hd => completesIn hd (decide_eq_true hp) rfl,
    fun _ _ hp hd hinService hmiss => completesIn hd (decide_eq_true hp) (by simp [hinService, hmiss]),
    fun _ _ _ _ hp hl ht hin => completesWrite (by simp [hp, hl.1]) hl (by subst ht; exact if_pos hin),
    fun _ _ _ _ hp hl ht hoff => completesWrite (by simp [hp, hl.1]) hl (by subst ht; exact if_pos hoff),
    fun _ hp hd hplaneState hrestart hen hmax => completesIn hd (decide_eq_true hp) (by simp [hplaneState, hrestart, hen, hmax]),
    fun _ _ hp hl hst hen hin => completesWrite (by simp [hp, hl.1]) hl (by simp [hst, hen, hin]),
    fun _ hp hd => completesIn hd (decide_eq_true hp) rfl,
    fun _ hp hd hinService hen => completesIn hd (decide_eq_true hp) (by simp [hinService, hen]),
    fun _ _ hp hd => completesIn hd (decide_eq_true hp) rfl,
    fun _ _ hp hd => completesIn hd (decide_eq_true hp) rfl,
    fun _ hp hd => ⟨completesIn hd (decide_eq_true hp) rfl,
      completesIn hd (decide_eq_true hp) rfl⟩,
    fun _ _ hp hl hbusy => ⟨completes (by simp [hp, hl.1]) (mcgCmd_free hl hbusy),
      completes (by simp [hp, hl.1]) (mcgCmd_free hl hbusy),
      completes (by simp [hp, hl.1]) (mcgCmd_free hl hbusy)⟩,
    fun hd => ⟨happensIn hd rfl,
      happensIn hd rfl⟩,
    fun _ _ hp hl hbusy => ⟨completes (by simp [hp, hl.1]) (mcgCmd_free hl hbusy),
      completes (by simp [hp, hl.1]) (mcgCmd_free hl hbusy)⟩,
    fun _ hr hd => completesIn hd (decide_eq_true hr) rfl,
    fun _ _ hd => ⟨happensIn hd rfl,
      happensIn hd rfl⟩,
    fun _ _ _ _ hp hpc0 hpc1 hd hpairRuns hfrozen hmiss => completesIn hd (by simp only [hp, hpc0, hpc1, decide_true, Bool.and_self]) (by simp [hpairRuns, hfrozen, hmiss]),
    fun _ hl hfrozen hvalid hauth hcommit => completesWrite (decide_eq_true hl.1) hl
      (by simp (disch := decide) [State.rgmHandover, tlpIn_rd, hfrozen, hvalid, hauth, hcommit]),
    fun _ _ hl hfrozen htarget => completesWrite (decide_eq_true hl.1) hl (by simp [State.rgmSwapLive, hfrozen, htarget])⟩

/-- Settles O42: each is its effect under its domain or its write. -/
theorem schedulingCompletes : Obligations.SchedulingCompletes := fun s =>
  ⟨fun _ _ hn hslot hd => completesIn hd (by simp [hn, hslot]) rfl,
    fun _ hn hd => completesIn hd (decide_eq_true hn) rfl,
    fun hd => happensIn hd rfl,
    fun _ hl => ⟨completesWrite (decide_eq_true hl.1) hl rfl,
      completesWrite (decide_eq_true hl.1) hl rfl⟩,
    fun _ hl => ⟨completesWrite (decide_eq_true hl.1) hl rfl,
      completesWrite (decide_eq_true hl.1) hl rfl,
      completesWrite (decide_eq_true hl.1) hl rfl⟩,
    fun _ hl => ⟨completesWrite (decide_eq_true hl.1) hl rfl,
      completesWrite (decide_eq_true hl.1) hl rfl,
      completesWrite (decide_eq_true hl.1) hl rfl⟩,
    fun _ _ _ hw hl => completesWrite (by simp [hw, hl.1]) hl rfl,
    fun _ _ _ hw hl => completesWrite (by simp [hw, hl.1]) hl rfl,
    fun _ hp hd => completesIn hd (decide_eq_true hp) rfl,
    fun _ hl => ⟨completesWrite (decide_eq_true hl.1) hl rfl,
      completesWrite (decide_eq_true hl.1) hl rfl⟩,
    fun _ _ _ hh hl => completesWrite (by simp [hh, hl.1]) hl rfl⟩

/-- Settles O43: each is its effect under its domain, its read or its write. -/
theorem panelTimeCompletes : Obligations.PanelTimeCompletes := fun s =>
  ⟨fun _ hl => completesRead (decide_eq_true hl.1) hl (by rw [tlpIn_tim]; rfl),
    fun _ hl hbusy => ⟨completesWrite (decide_eq_true hl.1) hl (by simp (disch := decide) [tlpIn_rd, hbusy]),
      completesWrite (decide_eq_true hl.1) hl (by simp (disch := decide) [tlpIn_rd, hbusy])⟩,
    fun _ hl hbusy hengaged => completesWrite (decide_eq_true hl.1) hl (by simp (disch := decide) [tlpIn_rd, hbusy, hengaged]),
    fun _ hl hbusy => ⟨completesWrite (decide_eq_true hl.1) hl (by simp (disch := decide) [tlpIn_rd, hbusy]),
      completesWrite (decide_eq_true hl.1) hl (by simp (disch := decide) [tlpIn_rd, hbusy])⟩,
    fun _ _ hl hengaged => completesWrite (decide_eq_true hl.1) hl (by simp [hengaged]),
    fun _ hk hd hsourceQualified => completesIn hd (decide_eq_true hk) (if_pos hsourceQualified),
    fun _ hk hd hsourceQualified => completesIn hd (decide_eq_true hk) (by simp [hsourceQualified]),
    fun _ hk hd => completesIn hd (decide_eq_true hk) rfl,
    fun _ _ hl => completesWrite (decide_eq_true hl.1) hl rfl,
    fun hd => happensIn hd rfl,
    fun _ _ _ _ _ _ _ _ hd hcode => happensIn hd (by simp [hcode]),
    fun _ _ _ _ _ _ _ _ hd herr hcode => happensIn hd (by simp [herr, hcode]),
    fun hd => ⟨happensIn hd rfl,
      happensIn hd rfl,
      happensIn hd rfl⟩,
    fun hd hstate => happensIn hd (if_pos hstate),
    fun hd hppsDue hen hgate => happensIn hd (by simp [hppsDue, hen, hgate]),
    fun hd => happensIn hd rfl⟩

/-- Settles O44: each is its effect; JNL_DATA answers the word that the arrival of the read leaves. -/
theorem trunkTimeAndJournalComplete : Obligations.TrunkTimeAndJournalComplete := fun s =>
  ⟨fun _ hn hd => completesIn hd (decide_eq_true hn) rfl,
    fun _ _ _ hn hlane hid hd hlinkRuns => completesIn hd (by simp [hn, hlane, hid]) (if_pos hlinkRuns),
    fun _ _ _ _ _ hn hlane hsub' hsub hid hd => completesIn hd (by simp [hn, hlane, hsub', hsub, hid]) rfl,
    fun _ _ hn hd hexch => completesIn hd (decide_eq_true hn) (by simp [hexch]),
    fun _ _ hn hd hv21 => completesIn hd (decide_eq_true hn) (if_pos hv21),
    fun hd => happensIn hd rfl,
    fun _ _ hl => completesWrite (decide_eq_true hl.1) hl rfl,
    fun path hl hadv hfill => completesRead (decide_eq_true hl.1) hl (by
      rw [tlpIn_jnlWord, tlpIn_jnlFill, tlpIn_rd s.begin path (by decide), tlpIn_rd s.begin path (by decide)]
      exact if_pos ⟨hadv, hfill⟩),
    fun _ _ hl => completesWrite (decide_eq_true hl.1) hl rfl⟩

/-- Settles O45: each is its effect under the display's domain or its write. -/
theorem displayUnitsComplete : Obligations.DisplayUnitsComplete := fun s =>
  ⟨fun _ hd => ⟨happensIn hd rfl,
      happensIn hd rfl,
      happensIn hd rfl,
      happensIn hd rfl,
      happensIn hd rfl,
      happensIn hd rfl⟩,
    fun _ hi hd => ⟨completesIn hd (decide_eq_true hi) rfl,
      completesIn hd (decide_eq_true hi) rfl,
      completesIn hd (decide_eq_true hi) rfl,
      completesIn hd (decide_eq_true hi) rfl⟩,
    fun _ _ hi hx hd => completesIn hd (by simp [hi, hx]) rfl,
    fun _ hd => happensIn hd rfl,
    fun _ _ hf0 hf1 hd => completesIn hd (by simp [hf0, hf1]) rfl,
    fun _ _ hi hd => completesIn hd (decide_eq_true hi) rfl,
    fun _ hi hd => completesIn hd (decide_eq_true hi) rfl,
    fun _ _ _ _ hi hl ht hst hdr => completes (by simp [hi, hl.1]) (by
      subst ht
      unfold srcCfgWrite
      refine (letsWrite_act hl).trans ?_
      simp [hst, drainedTo, Nat.not_le.mpr hdr]),
    fun _ _ _ hi hl => completes (by simp [hi, hl.1]) (by unfold srcCfgWrite; exact letsWrite_act hl)⟩

/-- Settles O46: each is its effect, and an AUX command finds its output idle. -/
theorem displayOutputsComplete : Obligations.DisplayOutputsComplete := fun s =>
  ⟨fun _ _ ho hd htrunk => completesIn hd (decide_eq_true ho) (if_neg (ne_of_eq_of_ne (congrArg Option.isSome htrunk) Bool.false_ne_true)),
    fun _ ho hd htrunk => completesIn hd (decide_eq_true ho) (if_neg (ne_of_eq_of_ne (congrArg Option.isSome htrunk) Bool.false_ne_true)),
    fun _ _ ho hd hdirectTrunk => completesIn hd (decide_eq_true ho) (by simp [hdirectTrunk]),
    fun _ _ ho hd => completesIn hd (decide_eq_true ho) rfl,
    fun _ _ _ ho hl htrain hpsr hidle => ⟨completes (by simp [ho, hl.1]) (auxCmd_idle ho hl htrain hpsr hidle),
      completes (by simp [ho, hl.1]) (auxCmd_idle ho hl htrain hpsr hidle),
      completes (by simp [ho, hl.1]) (auxCmd_idle ho hl htrain hpsr hidle),
      completes (by simp [ho, hl.1]) (auxCmd_idle ho hl htrain hpsr hidle)⟩,
    fun _ _ _ ho hcode hd => completesIn hd (by simp [ho, hcode]) rfl,
    fun _ ho hd haux => completesIn hd (decide_eq_true ho) (if_pos haux)⟩

/-- Settles O47: each is its effect; a timeout depends on the command's phase. -/
theorem storageCommandsComplete : Obligations.StorageCommandsComplete := fun s =>
  ⟨fun _ _ _ hport hdram hd => ⟨completesIn hd (by simp [hport, hdram]) rfl,
      completesIn hd (by simp [hport, hdram]) rfl⟩,
    fun _ _ hb hd hnext hbtState => completesIn hd (decide_eq_true hb) (by simp [hnext, hbtState]),
    fun _ _ _ _ _ _ _ hb hslot hsc hdnr hdram hd hcmdAt hx hx2 => completesIn hd (by simp [hb, hslot, hsc, hdnr, hdram]) (by simp [hcmdAt, hx, hx2]),
    fun _ _ _ _ _ _ _ hb hslot hsc hdnr hdram hd hcmdAt hx hx2 => completesIn hd (by simp [hb, hslot, hsc, hdnr, hdram]) (by simp [hdram, hcmdAt, hx, hx2]),
    fun _ _ hport hd => completesIn hd (decide_eq_true hport) rfl,
    fun _ _ _ _ hb hslot hd hcmd hph hx => completesIn hd (by simp [hb, hslot]) (by
      subst hx
      dsimp only
      rw [begin_cmdAt, hcmd]
      dsimp only
      rw [hph]
      rfl),
    fun _ _ _ _ hb hslot hd hcmd hph hx => completesIn hd (by simp [hb, hslot]) (by
      subst hx
      dsimp only
      rw [begin_cmdAt, hcmd]
      dsimp only
      rw [hph]
      rfl),
    fun _ _ _ hb hslot hd hcmdAt hx => completesIn hd (by simp [hb, hslot]) (by simp [hcmdAt, hx])⟩

/-- Settles O48: each is its effect under the port's or the tunnel's state. -/
theorem storagePortsComplete : Obligations.StoragePortsComplete := fun s =>
  ⟨fun _ _ data _ hp hl ht hoff => completes (by simp [hp, hl.1]) (by
      subst ht
      have hodd : (data / 2 * 2 + 1) % 2 = 1 := by omega
      unfold rpCfgWrite
      refine (letsWrite_act hl).trans ((if_pos hodd).trans (if_neg fun h => h.2 hoff))),
    fun _ _ hp hd => completesIn hd (decide_eq_true hp) rfl,
    fun _ hp hd hstep => completesIn hd (decide_eq_true hp) (if_pos hstep),
    fun _ _ data hp hl => completes (by simp [hp, hl.1]) (by
      have heven : ¬ data / 2 * 2 % 2 = 1 := by omega
      unfold rpCfgWrite
      exact (letsWrite_act hl).trans (if_neg heven)),
    fun _ _ hp hl => completesWrite (by simp [hp, hl.1]) hl rfl,
    fun _ _ _ hp hl htuns hst => completesWrite (by simp [hp, hl.1]) hl (by simp [tlpIn_rpState hp, htuns, hst]),
    fun _ _ hp hd haer => completesIn hd (decide_eq_true hp) (if_pos haer),
    fun _ _ hp hd haer => completesIn hd (decide_eq_true hp) (by simp [haer]),
    fun _ hp hd => completesIn hd (decide_eq_true hp) rfl,
    fun _ _ hp hd => completesIn hd (decide_eq_true hp) rfl,
    fun _ data _ hl hb hst => completes (decide_eq_true hl.1) (by
      subst hb
      have hodd : (data / 2 * 2 + 1) % 2 = 1 := by omega
      unfold btCfgWrite
      refine (letsWrite_act hl).trans ?_
      simp (disch := decide) [tlpIn_rd, hst, hodd]),
    fun _ _ _ hl hb hst => completes (decide_eq_true hl.1) (by
      subst hb
      unfold btCfgWrite
      refine (letsWrite_act hl).trans ?_
      simp (disch := decide) [tlpIn_rd, hst]),
    fun _ hb hd => completesIn hd (decide_eq_true hb) rfl,
    fun _ _ hb hd => completesIn hd (decide_eq_true hb) rfl,
    fun _ hb hd hadmin => completesIn hd (decide_eq_true hb) (if_pos hadmin)⟩

/-- Settles O49: a request that nothing blocks is taken, and a free semaphore goes to the path that reads it. -/
theorem hostBridgeCompletes : Obligations.HostBridgeCompletes := fun s =>
  ⟨fun _ _ _ hoff hd hfree => completes (decide_eq_true hoff) ((if_pos hd).trans (hostAsks_unblocked hfree)),
    fun _ _ _ _ hx hlen' hlen hd hfree => completes (by simp [hx, hlen', hlen]) ((if_pos hd).trans (hostAsks_unblocked hfree)),
    fun _ _ _ _ _ _ _ hoff hd hfree => completes (decide_eq_true hoff) ((if_pos hd).trans (hostAsks_unblocked hfree)),
    fun _ _ _ _ hoff hlen' hlen hd hfree => completes (by simp only [hoff, hlen', hlen, decide_true, Bool.and_self])
      ((if_pos hd).trans (hostAsks_unblocked hfree)),
    fun hd hfree => by
      change guardedIn 16 s true _ = _
      exact completesIn hd rfl (hostAsks_unblocked hfree),
    fun _ _ hw hl => completesWrite (by simp [hw, hl.1]) hl rfl,
    fun _ _ hi hd hfind hsemHeld => completesIn hd (decide_eq_true hi) (by simp [hfind, hsemHeld]),
    fun _ _ hi hd hfind => completesIn hd (decide_eq_true hi) (by simp [hfind]),
    fun _ hd hx => happensIn hd (if_pos hx),
    fun _ ht hd => completesIn hd (decide_eq_true ht) (Eq.refl _),
    fun hd hisSome => happensIn hd (if_pos hisSome),
    fun _ _ hi hl hfree => ⟨_, completesRead (by simp [hi, hl.1]) hl rfl, semRead_takes hi hl.1 hfree⟩,
    fun _ _ hi hl hheld hemu hpath => completesWrite (by simp [hi, hl.1]) hl (by simp [tlpIn_semHeld hi, tlpIn_semOwner hi, hheld, hemu, hpath]),
    fun _ _ _ hv hd hfree => completes (decide_eq_true hv) ((if_pos hd).trans (hostAsks_unblocked hfree)),
    fun hd => happensIn hd rfl,
    fun _ _ hwidth hgen hd => completesIn hd (by simp [hwidth, hgen]) (by simp (disch := decide) [rd_wr_ne]),
    fun _ _ _ _ _ hbme hmps hmrrs hd hfree => completes (by simp [hbme, hmps, hmrrs]) ((if_pos hd).trans (hostAsks_unblocked hfree))⟩

/-- Settles O50: each is its effect under the window's state, whose bank lies on its own page. -/
theorem routerCompletes : Obligations.RouterCompletes := fun s =>
  ⟨fun _ hd => ⟨happensIn hd rfl,
      happensIn hd rfl,
      happensIn hd rfl⟩,
    fun _ _ _ _ hstatus hd => completesIn hd (decide_eq_true hstatus) rfl,
    fun _ hd => happensIn hd rfl,
    fun _ hd hx => happensIn hd (if_pos hx),
    fun _ htid hd => ⟨completesIn hd (decide_eq_true htid) rfl,
      completesIn hd (decide_eq_true htid) rfl⟩,
    fun _ hl => completesRead (decide_eq_true hl.1) hl rfl,
    fun _ hl => ⟨completesWrite (decide_eq_true hl.1) hl rfl,
      completesWrite (decide_eq_true hl.1) hl rfl,
      completesWrite (decide_eq_true hl.1) hl rfl⟩,
    fun _ _ _ _ hl hin hw hst => completes (decide_eq_true hl.1) (by
      subst hin hw
      rw [winCfgWrite, if_neg Bool.false_ne_true]
      refine (letsWrite_act hl).trans ?_
      simp (disch := decide) [tlpIn_rd, tlpIn_winState, hst]),
    fun _ _ _ _ hl hin hw hst => completes (decide_eq_true hl.1) (by
      subst hin hw
      rw [winCfgWrite, if_pos rfl]
      refine (letsWrite_act hl).trans ?_
      simp (disch := decide) [tlpIn_rd, tlpIn_winState, hst]),
    fun _ _ hw hd hinward howin => completesIn hd (by simp [hw, hinward]) (by simp [hinward, howin]),
    fun _ _ hw hd hinward hiwin => completesIn hd (by simp [hw, hinward]) (by simp [hinward, hiwin]),
    fun hd hup => happensIn hd (if_pos hup),
    fun _ hd => happensIn hd rfl,
    fun _ _ _ _ hl hin hw hst hdr => completes (decide_eq_true hl.1) (by subst hin hw; exact owinCfgWrite_opens hl hst hdr),
    fun _ _ _ _ hl hin hw hst hdr => completes (decide_eq_true hl.1) (by subst hin hw; exact iwinCfgWrite_opens hl hst hdr)⟩

/-- Settles O51: each is its effect under its domain or its write, by the MAC's state. -/
theorem networkCompletes : Obligations.NetworkCompletes := fun s =>
  ⟨fun _ _ _ _ hm hd hstate hmacState => completesIn hd (decide_eq_true hm) (by simp [hstate, hmacState]),
    fun _ hd => happensIn hd rfl,
    fun _ hm hd hmacState hpausedTo => completesIn hd (decide_eq_true hm) (by simp [hmacState, hpausedTo]),
    fun _ hl => completesRead (decide_eq_true hl.1) hl rfl,
    fun _ _ _ hm hd hpwrState h2 => completesIn hd (decide_eq_true hm) (by simp [hpwrState, h2]),
    fun _ _ hm hd => completesIn hd (decide_eq_true hm) rfl,
    fun _ hm hd => completesIn hd (decide_eq_true hm) rfl,
    fun _ _ _ _ hm hl ht => completes (by simp [hm, hl.1]) (by
      subst ht
      unfold macCfgWrite
      exact (letsWrite_act hl).trans (if_pos (by omega))),
    fun _ hm hd => completesIn hd (decide_eq_true hm) rfl,
    fun _ hl => ⟨completesWrite (decide_eq_true hl.1) hl rfl,
      completesWrite (decide_eq_true hl.1) hl rfl⟩,
    fun _ hl => ⟨completesWrite (decide_eq_true hl.1) hl rfl,
      completesWrite (decide_eq_true hl.1) hl rfl⟩,
    fun _ _ data _ hm hl ht hst hdr => completes (by simp [hm, hl.1]) (by
      subst ht
      have hodd : (data / 2 * 2 + 1) % 2 ≠ 0 := by omega
      unfold macCfgWrite
      refine (letsWrite_act hl).trans ?_
      simp [hst, drainedTo, Nat.not_le.mpr hdr])⟩

/-- Settles O52: each is its effect under its domain or its write, by the endpoint's state. -/
theorem usbCompletes : Obligations.UsbCompletes := fun s =>
  ⟨fun _ _ _ _ _ _ _ hx hrtype hreq hvalue hindex hlen hd hattached hx2 hx3 => completesIn hd (by simp [hx, hrtype, hreq, hvalue, hindex, hlen]) (by simp [hattached, hx2, hx3]),
    fun _ _ _ _ _ _ _ hx hrtype hreq hvalue hindex hlen hd hattached hx2 hx3 => completesIn hd (by simp [hx, hrtype, hreq, hvalue, hindex, hlen]) (by simp [hattached, hx2, hx3]),
    fun _ _ _ hecc haddr hlen hd hattached => completesIn hd (by simp only [hecc, haddr, hlen, decide_true, Bool.and_self]) (if_pos hattached),
    fun _ _ _ _ hecc haddr hlen hx hd hattached => completesIn hd (by simp only [hecc, haddr, hlen, hx, decide_true, Bool.and_self]) (if_pos hattached),
    fun _ _ _ _ he' he _ hecc hd htoken => completesIn hd (by simp only [he', he, hecc, htoken, decide_true, Bool.and_self]; rfl) (by simp [htoken]),
    fun _ _ _ _ _ hlo hhi hok hecc hd htoken => completesIn hd (by simp only [hlo, hhi, hok, hecc, decide_true, Bool.and_self])
      (by rw [htoken]),
    fun _ hd => happensIn hd rfl,
    fun _ _ hecc hd he => completesIn hd (by simp only [hecc, he, decide_true]; rfl) (by simp [he]),
    fun _ _ _ hecc hlo hhi hd he => completesIn hd (by rw [he]; simp [inTokenOk, hlo, hhi, hecc]) (by rw [he]),
    fun _ he' he hd => completesIn hd (by simp [he', he]) rfl,
    fun _ hd => ⟨happensIn hd rfl,
      happensIn hd rfl⟩,
    fun _ hx hd husbState => ⟨completesIn hd hx (if_pos husbState),
      completesIn hd hx (if_pos husbState)⟩,
    fun _ data _ _ hl he hx hst hres hdr => completes (decide_eq_true hl.1) (by
      have hodd : (data / 2 * 2 + 1) % 2 ≠ 0 := by omega
      unfold epCfgWrite
      refine (letsWrite_act hl).trans ?_
      rw [tlpIn_rd s.begin _ (by decide), begin_rd, ← he]
      dsimp only
      rw [← hx, if_neg hodd, if_neg (not_not_intro hst), hres, if_neg (not_not_intro rfl), if_neg]
      refine not_drainedTo ((wr_pwr ..).trans ((wr_pwr ..).trans ?_)) hdr
      rw [hx, store_pwr, tlpIn_pwr]
      rfl),
    fun _ _ _ hl he => completesWrite (decide_eq_true hl.1) hl (by simp (disch := decide) [tlpIn_rd, he]),
    fun _ hx hd => completesIn hd hx rfl,
    fun _ _ _ hl hread hauto hword hcorr huncorr => completes (decide_eq_true hl.1) (by
      subst hread
      refine (if_neg Bool.false_ne_true).trans ((letsRead_act hl).trans ?_)
      simp (disch := decide) [tlpIn_rd, tlpIn_descWord, answer_rd_descAutoinc, usbEcc, hauto, Nat.not_le.mpr hword, hcorr, huncorr]),
    fun _ _ _ hl hwrite hauto hen hword => completes (decide_eq_true hl.1) (by
      subst hwrite
      refine (if_pos rfl).trans ((letsWrite_act hl).trans ?_)
      simp (disch := decide) [tlpIn_rd, descWritten_autoinc, hauto, hen, hword]),
    fun hd => ⟨happensIn hd rfl,
      happensIn hd rfl⟩,
    fun hd husbSuspended hwakePending hdriving => happensIn hd (by simp [husbSuspended, hwakePending, hdriving]),
    fun hd => happensIn hd rfl,
    fun _ _ _ hd => happensIn hd rfl,
    fun _ hd hpresent => happensIn hd (by simp [hpresent]),
    fun _ hd hpresent => happensIn hd (by simp [hpresent]),
    fun _ _ _ hl hx hodd _ hatt => completes (decide_eq_true hl.1) (by
      subst hx
      unfold usbCfgWrite
      refine (letsWrite_act hl).trans ((if_neg (ne_of_eq_of_ne hodd (by decide))).trans (if_neg fun h => ?_))
      exact Bool.false_ne_true (hatt.symm.trans h.2)),
    fun _ _ hl heven => completes (decide_eq_true hl.1) (by
      unfold usbCfgWrite
      exact (letsWrite_act hl).trans (if_pos heven)),
    fun _ hn hd => completesIn hd (decide_eq_true hn) (Eq.refl _),
    fun _ _ _ hn hspeed hd hpower => completesIn hd (by simp [hn, hspeed]) (if_neg hpower)⟩

/-- Settles O53: each is its effect under its domain or its write, by the engine's state. -/
theorem enginesComplete : Obligations.EnginesComplete := fun s =>
  ⟨fun _ _ hk hd => completesIn hd (decide_eq_true hk) rfl,
    fun _ _ he hl => completesWrite (by simp [he, hl.1]) hl rfl,
    fun _ _ he hl => completesRead (by simp [he, hl.1]) hl rfl,
    fun _ _ _ _ _ _ _ he hd hserves hfails => completesIn hd (decide_eq_true he) (by simp [hserves, hfails]),
    fun _ _ he hd hserves hfails => completesIn hd (decide_eq_true he) (by simp [hserves, hfails]),
    fun _ he hd hserves hhasCkpt => completesIn hd (decide_eq_true he) (by simp [hserves, hhasCkpt]),
    fun _ he hd hkickAt => completesIn hd (decide_eq_true he) (if_neg hkickAt),
    fun _ _ he hd hx => completesIn hd (decide_eq_true he) (if_pos hx),
    fun _ _ he hd hx => completesIn hd (decide_eq_true he) (by simp [hx]),
    fun _ _ he hl hserves => completesWrite (by simp [he, hl.1]) hl (by simp [tlpIn_serves he, hserves]),
    fun _ _ he hd => completesIn hd (decide_eq_true he) rfl,
    fun _ _ he hl => completesWrite (by simp [he, hl.1]) hl rfl,
    fun _ _ he hd => completesIn hd (decide_eq_true he) rfl,
    fun _ _ data _ he hl hdr => completes (by simp [he, hl.1]) (by
      have hodd : (data / 2 * 2 + 1) % 2 ≠ 0 := by omega
      unfold engCfgWrite
      refine (letsWrite_act hl).trans ?_
      simp [drainedTo, Nat.not_le.mpr hdr]),
    fun _ _ data he hl => completes (by simp [he, hl.1]) (by
      have heven : data / 2 * 2 % 2 = 0 := by omega
      unfold engCfgWrite
      exact (letsWrite_act hl).trans (if_pos heven)),
    fun _ he hd hengSt => completesIn hd (decide_eq_true he) (if_pos hengSt),
    fun _ _ _ hkind hslot hl => completesWrite (by simp [hkind, hslot, hl.1]) hl rfl,
    fun _ _ hd heng hload => happensIn hd (by rw [hload, heng]; rfl),
    fun _ _ _ hkind hslot hl => completesWrite (by simp [hkind, hslot, hl.1]) hl rfl,
    fun _ _ hk hl => ⟨completesWrite (by simp [hk, hl.1]) hl rfl,
      completesWrite (by simp [hk, hl.1]) hl rfl⟩,
    fun _ _ he hbox hd hengSt hfails => completesIn hd (by simp [he, hbox]) (by simp [hengSt, hfails]),
    fun _ he hd hserves => completesIn hd (decide_eq_true he) (if_pos hserves),
    fun _ _ he hlength hall hd hserves hrsp => completesIn hd (by simp only [he, hlength, hall, decide_true, Bool.and_self]) (by simp [hserves, hrsp])⟩

/-- Settles O54: each is its effect under its domain or its write. -/
theorem managementCompletes : Obligations.ManagementCompletes := fun s =>
  ⟨fun _ _ _ _ hp hcause' hcause h1 h2 hd hpairRuns => completesIn hd (by simp only [hp, hcause', hcause, h1, h2, decide_true, Bool.and_self]) (if_pos hpairRuns),
    fun _ _ _ _ _ _ hp _ _ hl hpath hsrc hdata => completesWrite (by simp [hp, hpath]; omega) hl (by simp [hpath, hsrc, hdata]),
    fun _ _ _ hp hpc0 hpc1 hd hpairRuns hkickAt => completesIn hd (by simp only [hp, hpc0, hpc1, decide_true, Bool.and_self]) (by simp [hpairRuns, hkickAt]),
    fun _ hp hd => completesIn hd (decide_eq_true hp) rfl,
    fun _ hl => ⟨completesWrite (decide_eq_true hl.1) hl rfl,
      completesWrite (decide_eq_true hl.1) hl rfl,
      completesWrite (decide_eq_true hl.1) hl rfl⟩,
    fun hd => happensIn hd rfl,
    fun _ ha1 hd hcustomerRuns => completesIn hd (decide_eq_true ha1) (if_pos hcustomerRuns),
    fun _ _ ha1 ha2 hd hcustomerRuns => completesIn hd (by simp only [ha1, ha2, decide_true, Bool.and_self]) (if_pos hcustomerRuns),
    fun _ ha1 hd hcustomerRuns => completesIn hd (decide_eq_true ha1) (if_pos hcustomerRuns),
    fun hd hcustomerRuns => happensIn hd (if_pos hcustomerRuns),
    fun hd => happensIn hd rfl,
    fun _ hl => ⟨completesWrite (decide_eq_true hl.1) hl rfl,
      completesWrite (decide_eq_true hl.1) hl rfl,
      completesWrite (decide_eq_true hl.1) hl rfl,
      completesWrite (decide_eq_true hl.1) hl rfl⟩,
    fun hd => happensIn hd rfl,
    fun _ _ _ hc hl => completes (by simp [hc, hl.1]) (by unfold evcSelect; exact letsWrite_act hl),
    fun _ _ hl => completesWrite (decide_eq_true hl.1) hl rfl,
    fun _ _ hl => completesWrite (decide_eq_true hl.1) hl rfl,
    fun _ hc hd => completesIn hd (decide_eq_true hc) rfl⟩

/-- Settles O55: a command that goes through does what its refusal decides, and a slot without the engine's bit refuses. -/
theorem keyCommandsComplete : Obligations.KeyCommandsComplete := fun s =>
  ⟨fun _ hl hbusy hnone => completes (decide_eq_true hl.1) (keyWrite_starts hl hbusy hnone),
    fun _ _ hk hl hbusy hnone => completes (by simp [hk, hl.1]) (keyWrite_starts hl hbusy hnone),
    fun _ _ hk hl hbusy hnone => completes (by simp [hk, hl.1]) (keyWrite_starts hl hbusy hnone),
    fun _ _ _ _ hk hkind husage hl hbusy hnone => completes (by simp [hk, hkind, husage, hl.1]) (keyWrite_starts hl hbusy hnone),
    fun _ _ hk hx hl hbusy hnone => completes (by simp [hk, hx, hl.1]) (keyWrite_starts hl hbusy hnone),
    fun _ _ _ hk he hp hl hbusy hslot hbit => completes (by simp [hk, he, hl.1]) (keyWrite_refused hl hbusy (slotRefused_engine hp hslot hbit)),
    fun _ _ _ _ hk hkind husage hl hbusy hnone => completes (by simp [hk, hkind, husage, hl.1]) (keyWrite_starts hl hbusy hnone),
    fun _ _ hk hx hl hbusy hnone => completes (by simp [hk, hx, hl.1]) (keyWrite_starts hl hbusy hnone),
    fun _ _ _ hk he hp hl hbusy hroot hslot hbit => completes (by simp [hk, he, hl.1]) (keyWrite_refused hl hbusy ((needRoot_provisioned hroot).trans (slotRefused_engine hp hslot hbit))),
    fun _ _ hk hx hl hbusy hnone => completes (by simp [hk, hx, hl.1]) (keyWrite_starts hl hbusy hnone),
    fun _ _ _ hk he hp hl hbusy hroot hslot hbit => completes (by simp [hk, he, hl.1]) (keyWrite_refused hl hbusy ((needRoot_provisioned hroot).trans (slotRefused_engine hp hslot hbit))),
    fun _ _ hk hx hl hbusy hnone => completes (by simp [hk, hx, hl.1]) (keyWrite_starts hl hbusy hnone),
    fun _ _ _ hk he hp hl hbusy hslot hbit => completes (by simp [hk, he, hl.1]) (keyWrite_refused hl hbusy (slotRefused_engine hp hslot hbit)),
    fun _ hl hbusy hnone => completes (decide_eq_true hl.1) (keyWrite_starts hl hbusy hnone),
    fun hd => happensIn hd rfl,
    fun _ hl hbusy hnone => completes (decide_eq_true hl.1) (otpWrite_starts hl hbusy hnone),
    fun _ hl hbusy hnone => completes (decide_eq_true hl.1) (otpWrite_starts hl hbusy hnone),
    fun _ hl hbusy hnone => completes (decide_eq_true hl.1) (otpWrite_starts hl hbusy hnone),
    fun _ _ _ hkind hsvn hl hbusy hnone => completes (by simp [hkind, hsvn, hl.1]) (otpWrite_starts hl hbusy hnone),
    fun hd => happensIn hd rfl⟩

/-- Settles O56: each is its effect under its domain, its write or the path's authority. -/
theorem authorityCompletes : Obligations.AuthorityCompletes := fun s =>
  ⟨fun _ hl => ⟨completesWrite (decide_eq_true hl.1) hl rfl,
      completesWrite (decide_eq_true hl.1) hl rfl,
      completesWrite (decide_eq_true hl.1) hl rfl⟩,
    fun _ _ hinSp hd => completesIn hd (decide_eq_true hinSp) rfl,
    fun _ hsources htampered hkey hrst => completes (decide_eq_true hsources) (by simp [tamperSeen, htampered, hkey, hrst]),
    fun _ hsources htampered => completes (decide_eq_true hsources) (by simp [tamperSeen, htampered]),
    fun _ hmv => completes (decide_eq_true hmv) rfl,
    fun _ _ hl hownerPath => completesWrite (decide_eq_true hl.1) hl (by simp [hownerPath]),
    fun _ hl => completesWrite (decide_eq_true hl.1) hl rfl,
    fun hd => happensIn hd rfl,
    fun _ _ hscope hl => completesWrite (by simp [hscope, hl.1]) hl rfl,
    fun _ hl => ⟨completesWrite (decide_eq_true hl.1) hl rfl,
      completesWrite (decide_eq_true hl.1) hl rfl⟩,
    fun hd => happensIn hd rfl⟩

/-- Settles O57: each is its effect while the power die lives. -/
theorem feedChannelsComplete : Obligations.FeedChannelsComplete := fun s =>
  ⟨fun _ hc hd => ⟨completes (decide_eq_true hc) (if_pos hd),
      completes (decide_eq_true hc) (if_pos hd)⟩,
    fun _ hc hd hst => completes (decide_eq_true hc) ((if_pos hd).trans (latchFrom_now (s := s.begin) (beq_iff_eq.mpr hst))),
    fun _ hc hd => completes (decide_eq_true hc) (if_pos hd),
    fun _ hc hd hst => completes (decide_eq_true hc) ((if_pos hd).trans (latchFrom_now (s := s.begin) (beq_iff_eq.mpr hst))),
    fun _ hc hd => ⟨completes (decide_eq_true hc) (if_pos hd),
      completes (decide_eq_true hc) (if_pos hd),
      completes (decide_eq_true hc) (if_pos hd),
      completes (decide_eq_true hc) (if_pos hd),
      completes (decide_eq_true hc) (if_pos hd),
      completes (decide_eq_true hc) (if_pos hd)⟩,
    fun _ _ _ _ hc hd => completes (decide_eq_true hc) (if_pos hd),
    fun _ hc hd => ⟨completes (decide_eq_true hc) (if_pos hd),
      completes (decide_eq_true hc) (if_pos hd)⟩,
    fun _ _ _ _ hc hd => completes (decide_eq_true hc) (if_pos hd)⟩

/-- Settles O58: each is its effect while the power die lives, or under its write. -/
theorem powerDieCompletes : Obligations.PowerDieCompletes := fun s =>
  ⟨fun _ _ _ hc hl => ⟨completesWrite (by simp [hc, hl.1]) hl rfl,
      completesWrite (by simp [hc, hl.1]) hl rfl,
      completesWrite (by simp [hc, hl.1]) hl rfl⟩,
    fun _ _ hc hl => ⟨completesWrite (by simp [hc, hl.1]) hl rfl,
      completesWrite (by simp [hc, hl.1]) hl rfl,
      completesWrite (by simp [hc, hl.1]) hl rfl,
      completesWrite (by simp [hc, hl.1]) hl rfl,
      completesWrite (by simp [hc, hl.1]) hl rfl⟩,
    fun _ hl => completesWrite (decide_eq_true hl.1) hl rfl,
    fun _ hd => congrArg Host.Outcome.next (if_pos hd),
    fun ha hd hlink => congrArg Host.Outcome.next (by simp [ha, hd, hlink]),
    congrArg Host.Outcome.next rfl,
    fun hpdLinkUp => congrArg Host.Outcome.next (if_pos hpdLinkUp),
    fun _ ha hmv => congrArg Host.Outcome.next (if_pos ⟨ha, hmv⟩),
    fun _ ha => congrArg Host.Outcome.next (if_pos ha)⟩

/-- Settles O59: each is its effect while the power die lives, by what is on the line. -/
theorem cableDialogueCompletes : Obligations.CableDialogueCompletes := fun s =>
  ⟨fun _ _ _ hn hd hx => completes (decide_eq_true hn) ((if_pos hd).trans (if_pos hx)),
    fun _ _ _ hn hd ha hb => completes (decide_eq_true hn) ((if_pos hd).trans (by simp [ha, hb])),
    fun _ hn hd => completes (decide_eq_true hn) (if_pos hd),
    fun _ _ _ hn hl => completesWrite (by simp [hn, hl.1]) hl rfl,
    fun _ _ hn hl => completesWrite (by simp [hn, hl.1]) hl rfl,
    fun _ hn hd => completes (decide_eq_true hn) (if_pos hd),
    fun _ _ hn hd hid => completes (decide_eq_true hn) ((if_pos hd).trans (if_pos hid)),
    fun _ hn hd => ⟨completes (decide_eq_true hn) (if_pos hd),
      completes (decide_eq_true hn) (if_pos hd)⟩,
    fun _ _ _ _ _ _ _ hn hhdr hx hd hat hgood ht hline => completes (by simp only [hn, hhdr, hx, decide_true, Bool.and_self])
      (by subst ht; simp [hd, hat, hgood, hline]),
    fun _ _ _ _ _ _ _ hn hhdr hx hd hat hgood ht hline => completes (by simp only [hn, hhdr, hx, decide_true, Bool.and_self])
      (by subst ht; simp [hd, hat, hgood, Option.isSome_iff_ne_none.mpr hline]),
    fun _ _ _ _ _ _ hn hhdr hx hd hat hgood => completes (by simp only [hn, hhdr, hx, decide_true, Bool.and_self])
      (by simp [hd, hat, hgood]),
    fun _ _ hn hl => completesRead (by simp [hn, hl.1]) hl rfl,
    fun _ hn hd => completes (decide_eq_true hn) (if_pos hd),
    fun _ _ hn hl => completesWrite (by simp [hn, hl.1]) hl rfl,
    fun _ _ hn hl hat hline => completesWrite (by simp [hn, hl.1]) hl (by simp [cpdHardReset, tlpIn_cpdAttached hn, hat, hline]),
    fun _ hn hd hcpdAttached => completes (decide_eq_true hn) ((if_pos hd).trans (if_pos hcpdAttached)),
    fun _ hn hd => ⟨completes (decide_eq_true hn) (if_pos hd),
      completes (decide_eq_true hn) (if_pos hd),
      completes (decide_eq_true hn) (if_pos hd)⟩,
    fun _ _ hn hl => completesWrite (by simp [hn, hl.1]) hl rfl,
    fun _ hn hd hfrs hdir hthr => completes (decide_eq_true hn) ((if_pos hd).trans (by simp [hfrs, hdir, hthr])),
    fun _ hn hd => completes (decide_eq_true hn) (if_pos hd),
    fun _ _ hn hl => completesWrite (by simp [hn, hl.1]) hl rfl,
    fun _ hn hd hconfirm => completes (decide_eq_true hn) ((if_pos hd).trans (if_pos hconfirm))⟩

/-- Settles O60: each is its effect under the power state and the reset that the hypotheses name. -/
theorem powerStatesAndResetsComplete : Obligations.PowerStatesAndResetsComplete := fun s =>
  ⟨fun _ _ htarget hl => completesWrite (by simp [htarget, hl.1]) hl rfl,
    fun _ hd hentering => happensIn hd (by simp [hentering]),
    fun _ _ _ hstatus hmode hd => completesIn hd (by simp [hstatus, hmode]) rfl,
    fun _ hstatus hd => completesIn hd (decide_eq_true hstatus) rfl,
    fun hd hidle => happensIn hd (if_pos hidle),
    fun _ hd htrans hx hx2 hfunctionsDrained => happensIn hd (by simp [htrans, hx, hx2, hfunctionsDrained]),
    fun _ _ hsources htrunk hd => completesIn hd (by simp [hsources, htrunk]) rfl,
    fun hd htime => happensIn hd (if_neg htime),
    fun _ hlo hhi hd => ⟨completesIn hd (by simp [hlo, hhi]) rfl, completesIn hd (by simp [hlo, hhi]) rfl⟩,
    fun _ hx hx2 hd => completesIn hd (by simp [hx, hx2]) rfl,
    fun _ _ _ _ hk hl hx hvid htrans hnow => completes (by simp only [hk, hl.1, decide_true, Bool.and_self])
      ((trimWrite_decided hk hl hx).trans ((if_neg hvid).trans ((if_neg (by simp [htrans])).trans (if_pos hnow)))),
    fun _ _ _ _ hk hl hx hvid htrans => completes (by simp [hk, hl.1])
      ((trimWrite_decided hk hl hx).trans ((if_neg hvid).trans (if_pos (Option.isSome_iff_ne_none.mpr htrans)))),
    fun _ _ _ _ hk hl hx hkept => completes (by simp [hk, hl.1])
      ((trimWrite_decided hk hl hx).trans (hkept.elim (if_pos ·) fun ⟨htrans, hother⟩ => by simp [htrans, hother])),
    fun _ hk hd => completesIn hd (decide_eq_true hk) rfl,
    fun _ hx hppm hd => completesIn hd (by simp [hx, hppm]) rfl,
    fun hd hst hlt href => happensIn hd ((if_pos ⟨hst, hlt⟩).trans (if_neg (ne_of_eq_of_ne href Bool.false_ne_true))),
    fun _ hoff => congrArg Host.Outcome.next (by simp [hoff]),
    fun hpin hoff => congrArg Host.Outcome.next (by simp [hpin, hoff]),
    fun _ hl => completesWrite (decide_eq_true hl.1) hl rfl,
    fun harmed hoff => congrArg Host.Outcome.next (by simp [harmed, hoff]),
    fun _ _ hvoutMode => completes (decide_eq_true hvoutMode) rfl,
    fun _ hlost hpll hoff hheld hx => congrArg Host.Outcome.next (by simp [hlost, hpll, hoff, hheld, hx]),
    fun _ hx hd => completesIn hd (decide_eq_true hx) rfl,
    fun _ _ hk hoff hk2 hx => completes (decide_eq_true hk) (by simp [hoff, hk2, hx]),
    fun _ hk hoff hk2 => completes (decide_eq_true hk) (by simp [hoff, hk2]),
    fun hoff => congrArg Host.Outcome.next (by simp [hoff]),
    fun hoff => congrArg Host.Outcome.next (if_pos hoff)⟩

end Sys2Proof.Proofs
end

section

/- The proofs of this part are many and short: elaborated in turn they need less memory than side by side. -/
set_option Elab.async false

section
/-! SUPPORT. The register frame of an operation: the page families (Table 18.1) whose registers it may write, how such frames
join along its body, and the frames of the state's own operations. -/

namespace Sys2Proof.Machine.State

/-- A register that a command of the pages `ps` may write: theirs, an interrupt bit or a capture, or one of the event counters' page. -/
def writable (ps : List Nat) (k : Nat) : Bool :=
  [0x010, 0x020, 0x024, 0x028, 0x02C].contains (keyAddr k % 4096) || keyPage k == 0x014 || ps.contains (keyFamily k)

/-- The register frame of a command: that of the state in which it completes. -/
def writesOut (s : State) (ps : List Nat) (o : Host.Outcome State Fault Refusal) : Prop := ∀ t, o = .next t → s.writesOnly t ps

variable {s t u : State} {ps qs : List Nat} {f : Field} {i j n v : Nat}

theorem writable_eq_false {k : Nat} : writable ps k = false ↔
    keyAddr k % 4096 ∉ [0x010, 0x020, 0x024, 0x028, 0x02C] ∧ keyPage k ≠ 0x014 ∧ keyFamily k ∉ ps := by
  simp [writable, not_or, and_assoc]

theorem pages_trans {rs : List Nat} (h : ps.all qs.contains = true) (h' : qs.all rs.contains = true) : ps.all rs.contains = true :=
  List.all_eq_true.mpr fun p hp => List.all_eq_true.mp h' p (List.elem_iff.mp (List.all_eq_true.mp h p hp))

theorem writesOnly_iff : s.writesOnly t ps ↔ s.writesAt (writable ps) t := by
  simp only [writesOnly, writesAt, writable_eq_false, and_imp]

/-! ### Joining register frames -/

namespace writesOnly

theorem refl (s : State) : s.writesOnly s ps := fun _ _ _ _ _ => rfl

/-- An operation after another. -/
theorem after (h' : t.writesOnly u ps) (h : s.writesOnly t ps) : s.writesOnly u ps :=
  fun d k hk h14 hf => (h' d k hk h14 hf).trans (h d k hk h14 hf)

/-- A frame of fewer pages; that they are fewer is evaluated. -/
theorem mono (h : s.writesOnly t ps) (hps : ps.all qs.contains = true) : s.writesOnly t qs :=
  fun d k hk h14 hf => h d k hk h14 fun hm => hf (List.elem_iff.mp (List.all_eq_true.mp hps _ hm))

theorem any (h : s.writesOnly t []) : s.writesOnly t ps := h.mono rfl

/-- The frame of a part of an operation over any action, whose frame has what the operation needs. -/
theorem within {rs : List Nat} (h : s.writesOnly t ps) (hqs : qs.all rs.contains = true) (hps : ps.all qs.contains = true) :
    s.writesOnly t rs := (h.mono hps).mono hqs

theorem iteH {c : Prop} [Decidable c] (h : c → s.writesOnly t ps) (h' : ¬ c → s.writesOnly u ps) :
    s.writesOnly (if c then t else u) ps := by
  split
  next hc => exact h hc
  next hc => exact h' hc

theorem ite {c : Prop} [Decidable c] (h : s.writesOnly t ps) (h' : s.writesOnly u ps) : s.writesOnly (if c then t else u) ps :=
  iteH (fun _ => h) fun _ => h'

theorem of_regs (h : t.regs = s.regs) : s.writesOnly t ps := fun _ _ _ _ _ => by rw [h]

theorem foldl_mem {α : Type} {g : State → α → State} {l : List α} (hg : ∀ x ∈ l, ∀ s : State, s.writesOnly (g s x) ps) {s : State} :
    s.writesOnly (l.foldl g s) ps := by
  induction l generalizing s with
  | nil => exact refl s
  | cons x l ih => exact (ih fun y hy => hg y (List.mem_cons_of_mem _ hy)).after (hg x List.mem_cons_self s)

theorem foldl {α : Type} {g : State → α → State} (hg : ∀ (s : State) (x : α), s.writesOnly (g s x) ps) {l : List α} {s : State} :
    s.writesOnly (l.foldl g s) ps := foldl_mem fun x _ s => hg s x

/-- A fold over indices below a bound. -/
theorem foldl_lt {g : State → Nat → State} {l : List Nat} (hl : ∀ x ∈ l, x < n)
    (hg : ∀ x, x < n → ∀ s : State, s.writesOnly (g s x) ps) {s : State} : s.writesOnly (l.foldl g s) ps :=
  foldl_mem fun x hx => hg x (hl x hx)

/-- The state of a pair that an operation answers. -/
theorem fst {α : Type} {p : State × α} {x : α} (hp : p = (t, x)) (h : s.writesOnly p.1 ps) : s.writesOnly t ps := by
  rwa [hp] at h

end writesOnly

/-! ### Which registers an index names -/

theorem writable_instance (n : Nat) (hi : i < n) (h : ∀ i < n, writable ps (f.key i j) = true) : writable ps (f.key i j) = true := h i hi

theorem writable_nth (n : Nat) (hj : j < n) (h : ∀ j < n, writable ps (f.key i j) = true) : writable ps (f.key i j) = true := h j hj

theorem writable_within (m n : Nat) (hi : i < m) (hj : j < n) (h : ∀ i < m, ∀ j < n, writable ps (f.key i j) = true) :
    writable ps (f.key i j) = true := h i hi j hj

/-- The banks of a register lie at one address of the CSR space. -/
theorem writable_bank (hb : f.sj % 2 ^ 22 = 0) (h : writable ps (f.key i 0) = true) : writable ps (f.key i j) = true := by
  obtain ⟨b, hb⟩ := Nat.dvd_of_mod_eq_zero hb
  have haddr : keyAddr (f.key i j) = keyAddr (f.key i 0) := by
    have hmul : j * f.sj = 2 ^ 22 * (j * b) := by rw [hb, Nat.mul_left_comm]
    simp only [keyAddr, Field.key, hmul, Nat.zero_mul]
    omega
  have hfam : keyFamily (f.key i j) = keyFamily (f.key i 0) := by simp only [keyFamily, keyPage, haddr]
  simpa only [writable, keyPage, haddr, hfam] using h

/-- The header registers of any page are a family of their own. -/
theorem writable_header (hsi : f.si = 0x1000) (hsj : f.sj = 0) (hlsb : f.lsb / 32 = 0) (haddr : f.addr < 0x40)
    (hps : ps.contains 0x400 = true) : writable ps (f.key i j) = true := by
  have hoff : keyAddr (f.key i j) % 4096 < 0x40 := by
    simp only [keyAddr, Field.key, hsi, hsj]
    omega
  rw [writable, keyFamily, if_pos hoff, hps, Bool.or_true]

theorem range_lt : ∀ x ∈ List.range n, x < n := fun _ => List.mem_range.mp

theorem filter_lt {l : List Nat} {p : Nat → Bool} (h : ∀ x ∈ l, x < n) : ∀ x ∈ l.filter p, x < n :=
  fun x hx => h x (List.mem_of_mem_filter hx)

theorem append_lt {l l' : List Nat} (h : ∀ x ∈ l, x < n) (h' : ∀ x ∈ l', x < n) : ∀ x ∈ l ++ l', x < n :=
  fun x hx => (List.mem_append.mp hx).elim (h x) (h' x)

theorem eraseDups_lt {l : List Nat} (h : ∀ x ∈ l, x < n) : ∀ x ∈ l.eraseDups, x < n := fun x hx => h x (List.mem_eraseDups.mp hx)

theorem groupOf_lt : ∀ x ∈ s.groupOf i, x < 4 := filter_lt range_lt

theorem authPlane_lt : s.authPlane < 2 := by
  unfold authPlane
  split <;> decide

theorem homePlane_lt {tid : Nat} {e : Entry} : s.homePlane tid e < 2 := by
  unfold homePlane
  split
  · split <;> [decide; split <;> decide]
  · decide
  · decide

theorem planesInService_lt : ∀ x ∈ s.planesInService, x < 2 := filter_lt (by decide)

theorem choosePlanes_lt {tid kind inSp : Nat} {e : Entry} : ∀ x ∈ s.choosePlanes tid kind e inSp, x < 2 := by
  have hup : ∀ x ∈ s.planesInService, x < 2 := planesInService_lt
  have hone : ∀ p, p < 2 → ∀ x ∈ [p], x < 2 := fun p hp x hx => List.mem_singleton.mp hx ▸ hp
  have hhome : ∀ x ∈ [s.homePlane tid e], x < 2 := hone _ homePlane_lt
  unfold choosePlanes
  dsimp only
  split
  · exact hup
  split
  · split
    · exact hup
    split
    · split
      · exact hhome
      · exact hup
    split
    next a b hab =>
      rw [hab] at hup
      split
      · exact hone b (hup b (by simp))
      · exact hone a (hup a (by simp))
    · exact hup
  split
  · exact hhome
  split
  · exact hup
  · exact fun x hx => absurd hx List.not_mem_nil

theorem logOf_lt {e : Nat} (he : e < 16) : s.logOf e < 16 := by
  unfold logOf
  cases h : (List.range 16).find? (fun l => s.physOf l == e) with
  | none => exact he
  | some l => exact List.mem_range.mp (List.mem_of_find?_eq_some h)

theorem boundSource_lt {tid : Nat} (h : s.boundSource tid = some i) : i < 2 := by
  have hm : i ∈ [0, 1] := List.mem_of_find?_eq_some h
  rcases List.mem_pair.mp hm with rfl | rfl <;> decide

/-! ### Updates of single fields -/

theorem set_free_writes {x : Nat} : s.writesOnly { s with free := x } ps := .of_regs rfl
theorem set_out_writes {x : List Emit} : s.writesOnly { s with out := x } ps := .of_regs rfl
theorem set_tun_writes {x : TunState} : s.writesOnly { s with tun := x } ps := .of_regs rfl
theorem set_links_writes {x : Tab Link} : s.writesOnly { s with links := x } ps := .of_regs rfl
theorem set_planes_writes {x : Tab Plane} : s.writesOnly { s with planes := x } ps := .of_regs rfl
theorem set_mcg_writes {x : McgEdit} : s.writesOnly { s with mcg := x } ps := .of_regs rfl
theorem set_rgm_writes {x : RgmState} : s.writesOnly { s with rgm := x } ps := .of_regs rfl
theorem set_sch_writes {x : SchedState} : s.writesOnly { s with sch := x } ps := .of_regs rfl
theorem set_dram_writes {x : Tab Byte} : s.writesOnly { s with dram := x } ps := .of_regs rfl
theorem set_dsp_writes {x : DspState} : s.writesOnly { s with dsp := x } ps := .of_regs rfl
theorem set_sto_writes {x : StoState} : s.writesOnly { s with sto := x } ps := .of_regs rfl
theorem set_brg_writes {x : BrgState} : s.writesOnly { s with brg := x } ps := .of_regs rfl
theorem set_net_writes {x : NetState} : s.writesOnly { s with net := x } ps := .of_regs rfl
theorem set_usb_writes {x : UsbState} : s.writesOnly { s with usb := x } ps := .of_regs rfl
theorem set_tim_writes {x : TimeState} : s.writesOnly { s with tim := x } ps := .of_regs rfl
theorem set_eng_writes {x : EngsState} : s.writesOnly { s with eng := x } ps := .of_regs rfl
theorem set_mgt_writes {x : MgtState} : s.writesOnly { s with mgt := x } ps := .of_regs rfl
theorem set_key_writes {x : KeyState} : s.writesOnly { s with key := x } ps := .of_regs rfl
theorem set_fus_writes {x : FusState} : s.writesOnly { s with fus := x } ps := .of_regs rfl
theorem set_jnl_writes {x : JnlState} : s.writesOnly { s with jnl := x } ps := .of_regs rfl
theorem set_csr_writes {x : CsrState} : s.writesOnly { s with csr := x } ps := .of_regs rfl
theorem set_pwr_writes {x : PwrState} : s.writesOnly { s with pwr := x } ps := .of_regs rfl
theorem set_rst_writes {x : RstState} : s.writesOnly { s with rst := x } ps := .of_regs rfl

/-! ### Registers -/

theorem wr_writes (h : writable ps (f.key i j) = true) : s.writesOnly (s.wr f v i j) ps := writesOnly_iff.mpr (wr_writesAt h)

theorem put_writes (h : writable ps (f.key i j) = true) : s.writesOnly (s.put f v i j) ps := wr_writes h

theorem bumpBy_writes (h : writable ps (f.key i j) = true) : s.writesOnly (s.bumpBy f v i j) ps := .ite (wr_writes h) (.refl s)

theorem bump_writes (h : writable ps (f.key i j) = true) : s.writesOnly (s.bump f i j) ps := bumpBy_writes h

theorem bumpWrap_writes (h : writable ps (f.key i j) = true) : s.writesOnly (s.bumpWrap f i j) ps := .ite (wr_writes h) (.refl s)

theorem keepMax_writes (h : writable ps (f.key i j) = true) : s.writesOnly (s.keepMax f v i j) ps :=
  .ite (.refl s) (.ite (wr_writes h) (.refl s))

theorem nextIndex_writes {auto : Field} (h : writable ps (f.key 0 0) = true) : s.writesOnly (s.nextIndex f auto) ps :=
  .ite (wr_writes h) (.refl s)

theorem cwr_writes (hn : n < 16) (h : ∀ i < 4, ∀ j < 4, writable ps (f.key i j) = true) : s.writesOnly (s.cwr f v n) ps :=
  wr_writes (writable_within 4 4 (by omega) (by omega) h)

theorem cbump_writes (hn : n < 16) (h : ∀ i < 4, ∀ j < 4, writable ps (f.key i j) = true) : s.writesOnly (s.cbump f n) ps :=
  bump_writes (writable_within 4 4 (by omega) (by omega) h)

theorem setBuf_writes {bs : List Byte} (m : Nat) (hn : n ≤ m) (h : ∀ j < m, writable ps (f.key 0 j) = true) :
    s.writesOnly (s.setBuf f n bs) ps :=
  .foldl_lt range_lt fun _ hi _ => wr_writes (writable_nth m (by omega) h)

/-! ### Interrupts, captures, event counters and the journal -/

theorem capture_writes {page path cause off data be pf : Nat} {write : Bool} :
    s.writesOnly (s.capture page path write cause off data be pf) ps := fun d k hk _ _ => capture_get fun hm => hk <| by
  simp only [captureWords, List.mem_cons, List.not_mem_nil, or_false] at hm ⊢
  unfold keyAddr
  omega

theorem irq_writes {page b : Nat} (hb : b < 32) : s.writesOnly (s.irq page b) ps := fun d k hk h14 _ =>
  irq_get h14 fun e => hk <| by
    subst e
    simp only [keyAddr, Field.key, irqField, List.mem_cons]
    omega

theorem tally_writes {ev n : Nat} : s.writesOnly (s.tally ev n) ps := fun _ _ _ h14 _ => tally_get h14

theorem msixWrite_writes {v : Nat} : s.writesOnly (s.msixWrite v) ps := fun _ _ _ h14 _ => msixWrite_get h14

theorem tlpIn_writes {path : Nat} : s.writesOnly (s.tlpIn path) ps := fun _ _ _ h14 _ => tlpIn_get h14

theorem answer_writes {path v : Nat} : s.writesOnly (s.answer path v) ps := fun _ _ _ h14 _ => answer_get h14

/-! ### The writes of a word -/

theorem storeField_writes {page data : Nat} (h : writable ps (f.key i j) = true) : s.writesOnly (s.storeField page f data i j) ps := by
  unfold storeField
  dsimp only
  split
  · exact put_writes h
  · exact put_writes h
  · exact .ite (.refl s) (put_writes h)
  · exact wr_writes h
  · exact wr_writes h
  · exact .refl s
  · exact .refl s
  · exact .refl s

theorem store_writes {path addr data : Nat} {fs : List Field} (h : ∀ f ∈ fs, writable ps (f.key i j) = true) :
    s.writesOnly (s.store path addr data fs i j) ps :=
  .after (.foldl_mem fun f hf _ => storeField_writes (h f hf)) (.ite capture_writes (.refl s))

theorem stored_instance {fs : List Field} (n : Nat) (hi : i < n) (h : ∀ i < n, ∀ f ∈ fs, writable ps (f.key i j) = true) :
    ∀ f ∈ fs, writable ps (f.key i j) = true := h i hi

theorem stored_nth {fs : List Field} (n : Nat) (hj : j < n) (h : ∀ j < n, ∀ f ∈ fs, writable ps (f.key i j) = true) :
    ∀ f ∈ fs, writable ps (f.key i j) = true := h j hj

theorem stored_within {fs : List Field} (m n : Nat) (hi : i < m) (hj : j < n)
    (h : ∀ i < m, ∀ j < n, ∀ f ∈ fs, writable ps (f.key i j) = true) : ∀ f ∈ fs, writable ps (f.key i j) = true := h i hi j hj

/-! ### The outcome of a command -/

theorem begin_writes : s.writesOnly s.begin ps := .of_regs rfl

/-- An event of a domain without power, clock or release does nothing. -/
theorem inDomain_writes {d : Nat} (h : s.writesOnly t ps) : s.writesOnly (s.inDomain d t) ps := .ite h begin_writes

namespace writesOut

theorem next (h : s.writesOnly t ps) : s.writesOut ps (.next t) := fun u hu => by
  cases hu
  exact h

theorem guarded {ok : Bool} (h : ok = true → s.writesOnly t ps) : s.writesOut ps (guarded ok t) := fun u hu => by
  unfold Machine.guarded at hu
  split at hu
  next hok =>
    cases hu
    exact h hok
  next => cases hu

theorem guardedIn {d : Nat} {ok : Bool} (h : ok = true → s.writesOnly t ps) : s.writesOut ps (guardedIn d s ok t) :=
  .guarded fun hok => inDomain_writes (h hok)

theorem nextIn {d : Nat} (h : s.writesOnly t ps) : s.writesOut ps (nextIn d s t) := .next (inDomain_writes h)

theorem ite {c : Prop} [Decidable c] {o o' : Host.Outcome State Fault Refusal} (h : s.writesOut ps o) (h' : s.writesOut ps o') :
    s.writesOut ps (if c then o else o') := by
  split
  · exact h
  · exact h'

theorem mono {o : Host.Outcome State Fault Refusal} (h : s.writesOut ps o) (hps : ps.all qs.contains = true) : s.writesOut qs o :=
  fun t ht => (h t ht).mono hps

end writesOut

end Sys2Proof.Machine.State
end

section
/-! SUPPORT. The register frames of the shared operations. -/

namespace Sys2Proof.Machine.State

variable {s : State} {ps : List Nat}

theorem updFus_writes {f : FusState → FusState} : s.writesOnly (s.updFus f) ps := set_fus_writes

theorem setChan_writes {c : Nat} {x : PowChan} : s.writesOnly (s.setChan c x) ps := updFus_writes

theorem setPhy_writes {n : Nat} {x : CpdPhy} : s.writesOnly (s.setPhy n x) ps := updFus_writes

theorem emit_writes {e : Emit} : s.writesOnly (s.emit e) ps := set_out_writes

theorem tookFree_writes : s.writesOnly s.tookFree ps := set_free_writes

theorem setLink_writes {n : Nat} {l : Link} : s.writesOnly (s.setLink n l) ps := set_links_writes

theorem updLink_writes {n : Nat} {f : Link → Link} : s.writesOnly (s.updLink n f) ps := setLink_writes

theorem setPlane_writes {p : Nat} {x : Plane} : s.writesOnly (s.setPlane p x) ps := set_planes_writes

theorem updPlane_writes {p : Nat} {f : Plane → Plane} : s.writesOnly (s.updPlane p f) ps := setPlane_writes

theorem setEgress_writes {sp : Nat} {e : Egress} : s.writesOnly (s.setEgress sp e) ps := set_sch_writes

theorem updEgress_writes {sp : Nat} {f : Egress → Egress} : s.writesOnly (s.updEgress sp f) ps := setEgress_writes

theorem updTun_writes {f : TunState → TunState} : s.writesOnly (s.updTun f) ps := set_tun_writes

theorem updSch_writes {f : SchedState → SchedState} : s.writesOnly (s.updSch f) ps := set_sch_writes

theorem ask_writes {f : Requests → Requests} : s.writesOnly (s.ask f) ps := updSch_writes

theorem setPairState_writes {x v : Nat} : s.writesOnly (s.setPairState x v) [0x01C] := .ite (wr_writes rfl) (wr_writes rfl)

theorem countAt_writes {c n : Nat} (hc : c < 64) : s.writesOnly (s.countAt c n) ps :=
  .after (.ite (.refl _) (.any (wr_writes (writable_nth 2 (by omega) (by decide))))) (.any (wr_writes (writable_nth 64 hc
    (by decide))))

theorem tallyAt_writes {c n : Nat} (hc : c < 64) : s.writesOnly (s.tallyAt c n) ps :=
  .ite (.after (irq_writes (by decide)) (countAt_writes hc)) (countAt_writes hc)

theorem dramMoves_writes {ev a n : Nat} : s.writesOnly (s.dramMoves ev a n) ps :=
  .ite (.refl _) (.after tally_writes set_pwr_writes)

theorem dramWrite_writes {a : Nat} {bs : List Byte} : s.writesOnly (s.dramWrite a bs) ps :=
  .after dramMoves_writes set_dram_writes

theorem journalAt_writes {tsw page b arg : Nat} : s.writesOnly (s.journalAt tsw page b arg) [0x058] :=
  .ite (.refl _) (.after (.ite (.after (irq_writes (by decide)) (.after tally_writes (bump_writes rfl))) (.refl _))
    set_jnl_writes)

theorem event_writes {page b arg : Nat} (hb : b < 32) : s.writesOnly (s.event page b arg) [0x058] :=
  .after journalAt_writes (irq_writes hb)

theorem alarm_writes {page b arg : Nat} (hb : b < 32) : s.writesOnly (s.alarm page b arg) [0x058] :=
  .after (event_writes hb) set_csr_writes

end Sys2Proof.Machine.State
end

section
/-! SUPPORT. The register frames of the gate that an access passes. -/

namespace Sys2Proof.Machine.State

variable {s : State} {ps : List Nat}

theorem setLatch_writes {path addr v : Nat} : s.writesOnly (s.setLatch path addr v) ps := set_csr_writes

theorem stageLo_writes {path addr : Nat} {v : Option Nat} : s.writesOnly (s.stageLo path addr v) ps := set_csr_writes

theorem deny_writes {path : Nat} {write : Bool} {addr data be : Nat} (hpath : path < 8) :
    s.writesOnly (s.deny path write addr data be) [0x021, 0x058] :=
  .after (.after (.after (.mono (event_writes (by decide)) rfl) (.after (wr_writes rfl) (.after (wr_writes rfl) (wr_writes
    rfl)))) (bump_writes (writable_nth 8 hpath (by decide)))) capture_writes

theorem queueAccess_writes {w : WaitingAccess} : s.writesOnly (s.queueAccess w) ps := set_pwr_writes

/-- A write command writes what its action does, the records of a refusal, and the capture of a lost link to the power die. -/
theorem gateWrite_writes {path addr data : Nat} {act : State → State} {eng : Option Nat}
    (hact : ∀ s, State.writesOnly s (act s) ps) (hpath : path < 8) (hps : [0x001, 0x021, 0x058, 0x060].all ps.contains = true) :
    s.writesOnly (s.gateWrite path addr data act eng) ps := by
  unfold gateWrite
  split
  · exact .after (hact _) tlpIn_writes
  · exact .after (.within (deny_writes hpath) hps rfl) tlpIn_writes
  · exact .after (.within (bump_writes (ps := [0x001]) rfl) hps rfl) tlpIn_writes
  · exact .after capture_writes (.after (.within (bump_writes (ps := [0x060]) rfl) hps rfl) tlpIn_writes)
  · exact .after queueAccess_writes tlpIn_writes
  · exact .refl _

theorem gateRead_writes {path addr : Nat} {act : State → State} (hact : ∀ s, State.writesOnly s (act s) ps) (hpath : path < 8)
    (hps : [0x001, 0x021, 0x058, 0x060].all ps.contains = true) : s.writesOnly (s.gateRead path addr act) ps := by
  unfold gateRead
  split
  · exact .after (hact _) tlpIn_writes
  · exact .after answer_writes (.after (.within (deny_writes hpath) hps rfl) tlpIn_writes)
  · exact .after answer_writes (.after (.within (bump_writes (ps := [0x001]) rfl) hps rfl) tlpIn_writes)
  · exact .after answer_writes
      (.after capture_writes (.after (.within (bump_writes (ps := [0x060]) rfl) hps rfl) tlpIn_writes))
  · exact .after queueAccess_writes tlpIn_writes
  · exact .refl _

end Sys2Proof.Machine.State
end

section
/-! SUPPORT. The register frames of the planes' memories. -/

namespace Sys2Proof.Machine.State

variable {s : State} {ps : List Nat}

theorem readyCtl_writes {n : Nat} {b : Ctl} : s.writesOnly (s.readyCtl n b) ps := updLink_writes

theorem creditDue_writes {n v : Nat} : s.writesOnly (s.creditDue n v) ps :=
  .ite (.after readyCtl_writes setLink_writes) (.refl _)

theorem creditReturn_writes {n v : Nat} : s.writesOnly (s.creditReturn n v) ps := .after creditDue_writes updLink_writes

theorem creditCopy_writes {id : Nat} : s.writesOnly (s.creditCopy id) ps := by
  unfold creditCopy
  split
  · exact .refl _
  · exact .ite (.after creditReturn_writes updSch_writes) updSch_writes

theorem releaseAt_writes {p h k : Nat} : s.writesOnly (s.releaseAt p h k) ps := by
  unfold releaseAt
  dsimp only
  split
  · exact .refl _
  · split
    · exact .refl _
    · exact .ite (.after creditCopy_writes setPlane_writes) setPlane_writes

theorem releaseFrom_writes {p h k : Nat} : s.writesOnly (s.releaseFrom p h k) ps := by
  unfold releaseFrom
  split
  · exact .refl _
  · exact .foldl (fun _ _ => releaseAt_writes)

theorem forgetMember_writes {p h port : Nat} : s.writesOnly (s.forgetMember p h port) ps := by
  unfold forgetMember
  dsimp only
  split
  · exact .refl _
  · exact updPlane_writes

theorem updFence_writes {q tid sq : Nat} {g : FenceState → FenceState} : s.writesOnly (s.updFence q tid sq g) ps :=
  updTun_writes

theorem fenceGone_writes {p q tid sq : Nat} : s.writesOnly (s.fenceGone p q tid sq) ps := updFence_writes

theorem dropMember_writes {p h port k : Nat} : s.writesOnly (s.dropMember p h port k) ps := by
  unfold dropMember
  dsimp only
  refine .after (.after forgetMember_writes releaseFrom_writes) ?_
  split
  · exact .ite fenceGone_writes (.refl _)
  · exact .refl _

theorem downDisc_writes {p : Nat} (hp : p < 2) : s.writesOnly (s.downDisc p) [0x100] :=
  .after (irq_writes (by decide)) (.after tally_writes (bump_writes (writable_instance 2 hp (by decide))))

theorem countEntered_writes {p sp k : Nat} (hp : p < 2) : s.writesOnly (s.countEntered p sp k) [0x100, 0x103] :=
  .after (wr_writes (writable_instance 2 hp (by decide))) (.after tally_writes (bumpBy_writes (writable_bank rfl
    (writable_instance 2 hp (by decide)))))

theorem linkVoqs_writes {p h inSp cls : Nat} {members : List (Nat × Nat)} :
    s.writesOnly (s.linkVoqs p h inSp cls members) ps :=
  .foldl (fun _ _ => updPlane_writes)

theorem liveMembers_writes {p : Nat} {e : Entry} {inSp : Nat} (hp : p < 2) :
    s.writesOnly (s.liveMembers p e inSp).1 [0x100] := by
  unfold liveMembers
  dsimp only
  split
  · exact downDisc_writes hp
  · exact .foldl (fun _ _ => downDisc_writes hp)

theorem enterPlane_writes {p : Nat} {w : Waiting} {inSp cells fromProt : Nat} {fromTrunk whole : Bool} {credit : Nat}
    (hp : p < 2) :
    s.writesOnly (s.enterPlane p w inSp cells fromProt fromTrunk whole credit).1 [0x100, 0x103] := by
  have hm : s.writesOnly (s.liveMembers p w.entry inSp).1 [0x100, 0x103] := .mono (liveMembers_writes hp) rfl
  unfold enterPlane
  dsimp only
  split
  · exact hm
  · exact .after linkVoqs_writes (.after (countEntered_writes hp) (.after setPlane_writes hm))

theorem unlinkVoqs_writes {p h : Nat} {u : PUnit} : s.writesOnly (s.unlinkVoqs p h u) ps :=
  .foldl (fun _ _ => updPlane_writes)

theorem setPair_writes {q : Nat} {x : QPair} : s.writesOnly (s.setPair q x) ps := updSch_writes

theorem setQueue_writes {p q : Nat} {l : List QEnt} : s.writesOnly (s.setQueue p q l) ps := updPlane_writes

theorem tagHead_writes {q : Nat} {afterSelected : Bool} : s.writesOnly (s.tagHead q afterSelected) ps := by
  unfold tagHead
  dsimp only
  split
  · exact .refl _
  · split
    · exact setPair_writes
    · exact .ite (.refl _) (.ite setPair_writes setPair_writes)

theorem retag_writes {q : Nat} : s.writesOnly (s.retag q) ps := .after tagHead_writes setPair_writes

theorem unqueue_writes {p q h : Nat} : s.writesOnly (s.unqueue p q h) ps :=
  .after (.ite retag_writes (.refl _)) setQueue_writes

theorem missed_writes {p h port lateness : Nat} : s.writesOnly (s.missed p h port lateness) [0x058, 0x200] := by
  unfold missed
  dsimp only
  split
  · exact .refl _
  · exact .after (.after (.after (.mono (event_writes (by decide)) rfl) (.after (wr_writes rfl) (.after (wr_writes rfl)
      (wr_writes rfl)))) (.after tally_writes (bump_writes (by split <;> decide)))) dropMember_writes

end Sys2Proof.Machine.State
end

section
/-! SUPPORT. The register frames of panel time. -/

namespace Sys2Proof.Machine.State

variable {s : State} {ps : List Nat}

theorem updTim_writes {f : TimeState → TimeState} : s.writesOnly (s.updTim f) ps := set_tim_writes

theorem setTrunkTime_writes {n : Nat} {x : TrunkTime} : s.writesOnly (s.setTrunkTime n x) ps := updTim_writes

theorem setPanelNs_writes {n : Nat} : s.writesOnly (s.setPanelNs n) ps := updTim_writes

theorem movePanel_writes {d : Int} : s.writesOnly (s.movePanel d) ps := setPanelNs_writes

theorem movePanel16_writes {d : Int} : s.writesOnly (s.movePanel16 d) ps := .after updTim_writes movePanel_writes

theorem captureTime_writes {c : Nat} {d : Int} (hc : c < 3) : s.writesOnly (s.captureTime c d) [0x041] :=
  .after (wr_writes (writable_nth 3 hc (by decide))) updTim_writes

theorem captureAt_writes {c : Nat} {d : Int} (hc : c < 3) : s.writesOnly (s.captureAt c d) [0x041] :=
  .after (bumpWrap_writes (writable_nth 3 hc (by decide))) (captureTime_writes hc)

theorem recapture_writes : s.writesOnly s.recapture [0x041] := by
  unfold recapture
  exact .foldl_lt (n := 3) (by decide) (fun _ hx0 _ => by
    split
    · exact .ite (captureTime_writes hx0) (.refl _)
    · exact .refl _)

theorem timeEvent_writes {b : Nat} (hb : b < 32) : s.writesOnly (s.timeEvent b) [0x058] := event_writes hb

theorem setSync_writes {v : Nat} : s.writesOnly (s.setSync v) [0x040, 0x058] :=
  .ite (.refl _) (.after (.mono (timeEvent_writes (by split <;> omega)) rfl) (wr_writes rfl))

theorem setTimeState_writes {st sync : Nat} : s.writesOnly (s.setTimeState st sync) [0x040, 0x058] :=
  .after setSync_writes (wr_writes rfl)

theorem refreshSource_writes : s.writesOnly s.refreshSource [0x040, 0x058] :=
  .ite (.refl _) (.after (.ite setTimeState_writes (.refl _)) (.after (wr_writes rfl) (wr_writes rfl)))

theorem followSlot_writes {k : Nat} : s.writesOnly (s.followSlot k) [0x040, 0x058] :=
  .after (.after (.after (.mono (event_writes (by decide)) rfl) (.after refreshSource_writes setTimeState_writes))
    updTim_writes) (.after (wr_writes rfl) (wr_writes rfl))

theorem enterHoldover_writes : s.writesOnly s.enterHoldover [0x040, 0x058] :=
  .after (.after (.after (.after (.mono (timeEvent_writes (by decide)) rfl) (.mono (event_writes (by decide)) rfl)) (.ite
    (wr_writes rfl) (.refl _))) updTim_writes) (.after (wr_writes rfl) (wr_writes rfl))

theorem reselect_writes : s.writesOnly s.reselect [0x040, 0x058] := by
  unfold reselect
  dsimp only
  split
  · exact .after refreshSource_writes updTim_writes
  · split
    · exact followSlot_writes
    · exact .ite enterHoldover_writes (.refl _)

theorem refuseStep_writes {d : Int} : s.writesOnly (s.refuseStep d) [0x040, 0x058] :=
  .after (.mono (event_writes (by decide)) rfl) (wr_writes rfl)

theorem slewBy_writes {d : Int} : s.writesOnly (s.slewBy d) [0x040] := wr_writes rfl

theorem followerStep_writes {d : Int} {slew : Bool} : s.writesOnly (s.followerStep d slew) [0x040, 0x058] :=
  .ite (.after (.ite (.after tookFree_writes (.mono slewBy_writes rfl)) (.refl _)) refuseStep_writes) ask_writes

theorem followerSample_writes {d : Int} {ms : Nat} : s.writesOnly (s.followerSample d ms) [0x040, 0x058] :=
  .after (.after (.after (.ite setTimeState_writes (.ite (.after setTimeState_writes updTim_writes) (.refl _)))
    updTim_writes) (.ite followerStep_writes (.after tookFree_writes (.after (wr_writes rfl) updTim_writes)))) (.ite
    (wr_writes rfl) (.after tookFree_writes (wr_writes rfl)))

theorem timeSwitched_writes {n : Nat} : s.writesOnly (s.timeSwitched n) ps := setTrunkTime_writes

theorem timeStepped_writes : s.writesOnly s.timeStepped ps := updTim_writes

theorem timeDeparts_writes {n : Nat} {b : Ctl} : s.writesOnly (s.timeDeparts n b).1 ps := by
  unfold timeDeparts
  dsimp only
  split
  · exact setTrunkTime_writes
  · exact .after readyCtl_writes setTrunkTime_writes
  · exact readyCtl_writes
  · exact .refl _

end Sys2Proof.Machine.State
end

section
/-! SUPPORT. The register frames of the ingress of units. -/

namespace Sys2Proof.Machine.State

variable {s : State} {ps : List Nat}

theorem mapPut_writes {p i : Nat} {e : Entry} : s.writesOnly (s.mapPut p i e) ps := updTun_writes

theorem upset_writes {l : MapUpset} : s.writesOnly (s.upset l) ps := by
  unfold upset
  split
  · exact updTun_writes
  · exact updTun_writes
  · exact mapPut_writes

theorem readCopy_writes {p i : Nat} : s.writesOnly (s.readCopy p i).1 [0x280] := by
  unfold readCopy
  split
  · exact .refl _
  · exact .after tally_writes (.after (bump_writes rfl) mapPut_writes)
  · exact .after (irq_writes (by decide)) (.after tally_writes (bump_writes rfl))

theorem readMap_writes {i : Nat} : s.writesOnly (s.readMap i).1 [0x280] := by
  unfold readMap
  dsimp only
  split
  · rename_i h1
    exact .fst h1 readCopy_writes
  · rename_i h1
    split
    · rename_i h2
      exact .after mapPut_writes (.fst h2 (.after readCopy_writes (.fst h1 readCopy_writes)))
    · rename_i h2
      exact .fst h2 (.after readCopy_writes (.fst h1 readCopy_writes))

theorem lookupMiss_writes {tid : Nat} : s.writesOnly (s.lookupMiss tid) [0x280] :=
  .after (irq_writes (by decide)) (.after (wr_writes rfl) (.after tally_writes (bump_writes rfl)))

theorem reservedKind_writes {tid : Nat} : s.writesOnly (s.reservedKind tid) [0x280] :=
  .after (wr_writes rfl) (.after tally_writes (bump_writes rfl))

theorem lookup_writes {tid : Nat} : s.writesOnly (s.lookup tid).1 [0x280] := by
  unfold lookup
  split
  · exact lookupMiss_writes
  · split
    · rename_i h1
      split
      · exact .after updTun_writes (.fst h1 (.after readMap_writes (.after updTun_writes tally_writes)))
      · exact .after lookupMiss_writes (.fst h1 (.after readMap_writes (.after updTun_writes tally_writes)))
    · rename_i h1
      exact .after lookupMiss_writes (.fst h1 (.after readMap_writes (.after updTun_writes tally_writes)))

theorem setPolicer_writes {i : Nat} {x : Policer} : s.writesOnly (s.setPolicer i x) ps := updSch_writes

theorem police_writes {e : Entry} {cells : Nat} : s.writesOnly (s.police e cells).1 ps := by
  unfold police
  dsimp only
  split
  · exact .after tally_writes (.ite setPolicer_writes setPolicer_writes)
  · exact .refl _

theorem number_writes {tid : Nat} : s.writesOnly (s.number tid).1 ps := updTun_writes

theorem noPlane_writes {tid : Nat} {e : Entry} : s.writesOnly (s.noPlane tid e) [0x100] :=
  .ite (.after (bump_writes rfl) (bump_writes rfl)) (bump_writes (writable_instance 2 homePlane_lt (by decide)))

theorem noteEntered_writes {sp : Nat} {w : Waiting} {l : List Nat} : s.writesOnly (s.noteEntered sp w l) ps := updSch_writes

theorem tryEnter_writes {sp : Nat} {w : Waiting} : s.writesOnly (s.tryEnter sp w).1 [0x100, 0x103] := by
  unfold tryEnter
  dsimp only
  split
  · exact .mono noPlane_writes rfl
  split
  · exact .foldl_lt (filter_lt choosePlanes_lt) fun _ hp _ =>
      .after (irq_writes (by decide)) (.after tally_writes (bump_writes (writable_instance 2 hp (by decide))))
  split
  · refine .after (.foldl_lt choosePlanes_lt fun p hp t => ?_) noteEntered_writes
    exact enterPlane_writes hp
  · exact .foldl_lt (filter_lt choosePlanes_lt) fun _ hp _ =>
      bump_writes (writable_bank rfl (writable_instance 2 hp (by decide)))

theorem drainIngress_writes {sp : Nat} {l : List Waiting} : s.writesOnly (s.drainIngress sp l).1 [0x100, 0x103] := by
  induction l generalizing s with
  | nil => exact .refl s
  | cons w l ih =>
    unfold drainIngress
    split
    next h => exact .fst h tryEnter_writes
    next h => exact .after ih (.fst h tryEnter_writes)

theorem drainTunnels_writes {sp : Nat} {held : List Nat} {l : List Waiting} :
    s.writesOnly (s.drainTunnels sp held l).1 [0x100, 0x103] := by
  induction l generalizing s held with
  | nil =>
    unfold drainTunnels
    exact .refl s
  | cons w l ih =>
    unfold drainTunnels
    dsimp only
    split
    · exact ih
    · split
      next h => exact .after ih (.ite (.fst h tryEnter_writes) (.refl s))
      next h => exact .after ih (.fst h tryEnter_writes)

theorem setIngress_writes {sp : Nat} {l : List Waiting} : s.writesOnly (s.setIngress sp l) ps := updSch_writes

theorem pumpIngress_writes {sp : Nat} : s.writesOnly (s.pumpIngress sp) [0x100, 0x103] := by
  unfold pumpIngress
  dsimp only
  refine .after setIngress_writes ?_
  split
  · exact drainTunnels_writes
  · exact drainIngress_writes

theorem offer_writes {sp : Nat} {w : Waiting} : s.writesOnly (s.offer sp w) [0x100, 0x103] :=
  .after pumpIngress_writes setIngress_writes

theorem originUnitAt_writes {sp tid kind : Nat} {payload : List Byte} {tsw : Nat} :
    s.writesOnly (s.originUnitAt sp tid kind payload tsw) [0x100, 0x103, 0x280] := by
  unfold originUnitAt
  dsimp only
  split
  · exact bump_writes rfl
  · split
    · exact .mono reservedKind_writes rfl
    · split
      · rename_i h1
        exact .fst h1 (.mono lookup_writes rfl)
      · rename_i h1
        split
        · rename_i h2
          exact .fst h2 (.after police_writes (.fst h1 (.mono lookup_writes rfl)))
        · rename_i h2
          exact .after (.mono offer_writes rfl) (.after number_writes (.fst h2 (.after police_writes (.fst h1 (.mono
            lookup_writes rfl)))))

theorem originUnit_writes {sp tid kind : Nat} {payload : List Byte} :
    s.writesOnly (s.originUnit sp tid kind payload) [0x100, 0x103, 0x280] :=
  originUnitAt_writes

theorem trunkUnit_writes {sp : Nat} {u : UnitMsg} (hsp : sp < 16) :
    s.writesOnly (s.trunkUnit sp u) [0x081, 0x100, 0x103, 0x280] := by
  unfold trunkUnit
  dsimp only
  exact .after (.ite (.after (bump_writes (writable_instance 16 hsp (by decide))) (.after (bump_writes rfl) (.after
    (irq_writes (by decide)) (bump_writes (writable_instance 16 hsp (by decide)))))) (.ite (.mono reservedKind_writes rfl) (by
    split
    · rename_i h1
      exact .fst h1 (.mono lookup_writes rfl)
    · rename_i h1
      split
      · rename_i h2
        exact .fst h2 (.after police_writes (.fst h1 (.mono lookup_writes rfl)))
      · rename_i h2
        exact .ite (.after (.mono noPlane_writes rfl) (.fst h2 (.after police_writes (.fst h1 (.mono lookup_writes rfl)))))
          (.after (.foldl_lt choosePlanes_lt (fun _ hx0 _ => .mono (enterPlane_writes hx0) rfl)) (.fst h2 (.after
          police_writes (.fst h1 (.mono lookup_writes rfl)))))))) tookFree_writes

theorem execUnitIngress_writes {sp : Nat} {u : UnitMsg} {upsets : List MapUpset} :
    s.writesOut [0x081, 0x100, 0x103, 0x280] (execUnitIngress sp u upsets s) :=
  .guardedIn (fun _ => .after (.iteH (fun hc0 => trunkUnit_writes (by omega)) (fun _ => .after (.mono originUnitAt_writes
    rfl) tookFree_writes)) (.after (.foldl (fun _ _ => upset_writes)) begin_writes))

end Sys2Proof.Machine.State
end

section
/-! SUPPORT. The register frames of the host bridge's requests and windows. -/

namespace Sys2Proof.Machine.State

variable {s : State} {ps : List Nat}

theorem updBrg_writes {f : BrgState → BrgState} : s.writesOnly (s.updBrg f) ps := set_brg_writes

theorem semTake_writes {i emu path : Nat} (hi : i < 64) : s.writesOnly (s.semTake i emu path) [0x323] :=
  .after (wr_writes (writable_nth 64 hi (by decide))) (.after (wr_writes (writable_nth 64 hi (by decide))) (wr_writes
    (writable_nth 64 hi (by decide))))

theorem semFree_writes {i : Nat} (hi : i < 64) : s.writesOnly (s.semFree i) [0x323] :=
  .after (wr_writes (writable_nth 64 hi (by decide))) (.after (wr_writes (writable_nth 64 hi (by decide))) (wr_writes
    (writable_nth 64 hi (by decide))))

theorem msixFlush_writes : s.writesOnly s.msixFlush ps := .foldl (fun _ _ => .after msixWrite_writes updBrg_writes)

theorem execHbrSemRead_writes {path i : Nat} : s.writesOut [0x001, 0x021, 0x058, 0x060, 0x323] (execHbrSemRead path i s) := by
  refine .guarded fun hok => ?_
  simp only [Bool.and_eq_true, decide_eq_true_eq] at hok
  have hpath : path < 8 := by omega
  have hi : i < 64 := by omega
  exact .after (gateRead_writes (fun _ => .after answer_writes (.ite (.refl _) (.mono (semTake_writes hi) rfl))) hpath rfl)
    begin_writes

theorem execHbrSemRelease_writes {path i : Nat} :
    s.writesOut [0x001, 0x021, 0x058, 0x060, 0x323] (execHbrSemRelease path i s) := by
  refine .guarded fun hok => ?_
  simp only [Bool.and_eq_true, decide_eq_true_eq] at hok
  have hpath : path < 8 := by omega
  have hi : i < 64 := by omega
  exact .after (gateWrite_writes (fun _ => .ite (.mono (semFree_writes hi) rfl) (.refl _)) hpath rfl) begin_writes

theorem execHostLinkUp_writes {width gen : Nat} : s.writesOut [0x320] (execHostLinkUp width gen s) :=
  .guardedIn (fun _ => .after (.after (.after (.after msixFlush_writes (.after (irq_writes (by decide)) (wr_writes rfl)))
    updBrg_writes) (.after (wr_writes rfl) (wr_writes rfl))) begin_writes)

end Sys2Proof.Machine.State
end

section
/-! SUPPORT. The register frames of the engines' images. -/

namespace Sys2Proof.Machine.State

variable {s : State} {ps : List Nat}

theorem updEng_writes {f : EngsState → EngsState} : s.writesOnly (s.updEng f) ps := set_eng_writes

theorem setEngine_writes {e : Nat} {x : EngState} : s.writesOnly (s.setEngine e x) ps := updEng_writes

theorem setLog_writes {l : Nat} {x : LogEng} : s.writesOnly (s.setLog l x) ps := updEng_writes

theorem updLog_writes {l : Nat} {f : LogEng → LogEng} : s.writesOnly (s.updLog l f) ps := setLog_writes

end Sys2Proof.Machine.State
end

section
/-! SUPPORT. The register frames of the links' states. -/

namespace Sys2Proof.Machine.State

variable {s : State} {ps : List Nat}

theorem dropToward_writes {p n h : Nat} : s.writesOnly (s.dropToward p n h) ps := by
  unfold dropToward
  dsimp only
  split
  · exact .refl _
  · exact .after (.after (.after (.after dropMember_writes updEgress_writes) updPlane_writes) (.foldl (fun _ _ =>
      unqueue_writes))) unlinkVoqs_writes

theorem dropTunnel_writes {n tid : Nat} : s.writesOnly (s.dropTunnel n tid) ps :=
  .after updTun_writes (.foldl (fun _ _ => .foldl (fun _ _ => dropToward_writes)))

theorem idleLink_writes {n : Nat} : s.writesOnly (s.idleLink n) ps := updLink_writes

theorem dropSubst_writes {n : Nat} (hn : n < 16) : s.writesOnly (s.dropSubst n) [0x082] :=
  .after (wr_writes (writable_instance 16 hn (by decide))) updLink_writes

theorem enterDown_writes {n cause : Nat} (hn : n < 16) : s.writesOnly (s.enterDown n cause) [0x080, 0x082] :=
  .after (.mono (dropSubst_writes hn) rfl) (.after idleLink_writes (.after (wr_writes (writable_instance 16 hn (by decide)))
    (.after (wr_writes (writable_instance 16 hn (by decide))) (wr_writes (writable_instance 16 hn (by decide))))))

end Sys2Proof.Machine.State
end

section
/-! SUPPORT. The register frames of a plane that fails. -/

namespace Sys2Proof.Machine.State

variable {s : State} {ps : List Nat}

theorem updRgm_writes {f : RgmState → RgmState} : s.writesOnly (s.updRgm f) ps := set_rgm_writes

theorem grant_writes {p : Nat} (hp : p < 2) : s.writesOnly (s.grant p) [0x01C, 0x100] :=
  .after (.after (.after (.after (irq_writes (by decide)) (irq_writes (by decide))) (wr_writes rfl)) (.after (wr_writes rfl)
    (wr_writes rfl))) (.after (.foldl (fun _ _ => updPlane_writes)) (wr_writes (writable_instance 2 hp (by decide))))

theorem loseAuth_writes {p : Nat} : s.writesOnly (s.loseAuth p) ps := irq_writes (by decide)

theorem handover_writes : s.writesOnly s.handover [0x01C, 0x100] :=
  .ite (.after (grant_writes (by omega)) (.after loseAuth_writes (wr_writes (writable_instance 2 authPlane_lt (by decide)))))
    (.refl _)

theorem afterCommit_writes : s.writesOnly s.afterCommit [0x01C, 0x100] :=
  .ite (.after handover_writes updRgm_writes) (.refl _)

theorem loseUnits_writes {p : Nat} : s.writesOnly (s.loseUnits p) ps := updPlane_writes

theorem emptyPlane_writes {p : Nat} (hp : p < 2) : s.writesOnly (s.emptyPlane p) [0x101] :=
  .after (.after (.after (wr_writes (writable_instance 2 hp (by decide))) (wr_writes (writable_instance 2 hp (by decide))))
    updSch_writes) (.after updPlane_writes loseUnits_writes)

theorem beginRestart_writes {p : Nat} (hp : p < 2) : s.writesOnly (s.beginRestart p) [0x100, 0x101] :=
  .after (.mono (emptyPlane_writes hp) rfl) (wr_writes (writable_instance 2 hp (by decide)))

theorem execPlaneEnable_writes {path p data : Nat} :
    s.writesOut [0x001, 0x021, 0x058, 0x060, 0x100, 0x101] (execPlaneEnable path p data s) := by
  refine .guarded fun hok => ?_
  simp only [Bool.and_eq_true, decide_eq_true_eq] at hok
  have hpath : path < 8 := by omega
  have hp : p < 2 := by omega
  exact .after (gateWrite_writes (fun _ => .after (.after (.ite (.mono (beginRestart_writes hp) rfl) (.refl _)) (wr_writes
    (writable_instance 2 hp (by decide)))) (store_writes (stored_instance 2 hp (by decide)))) hpath rfl) begin_writes

theorem execPlaneRestartBegin_writes {p : Nat} : s.writesOut [0x100, 0x101] (execPlaneRestartBegin p s) := by
  refine .guardedIn fun hok => ?_
  have hp : p < 2 := of_decide_eq_true hok
  exact .after (.ite (.after (beginRestart_writes hp) updPlane_writes) (.refl _)) begin_writes

theorem execPlaneRestartCmd_writes {path p : Nat} :
    s.writesOut [0x001, 0x021, 0x058, 0x060, 0x100, 0x101] (execPlaneRestartCmd path p s) := by
  refine .guarded fun hok => ?_
  simp only [Bool.and_eq_true, decide_eq_true_eq] at hok
  have hpath : path < 8 := by omega
  have hp : p < 2 := by omega
  exact .after (gateWrite_writes (fun _ => .ite (wr_writes (writable_instance 2 hp (by decide))) (.ite (.after (.mono
    (beginRestart_writes hp) rfl) (wr_writes (writable_instance 2 hp (by decide)))) (wr_writes (writable_instance 2 hp
    (by decide))))) hpath rfl) begin_writes

end Sys2Proof.Machine.State
end

section
/-! SUPPORT. The register frames of the link layer's commands. -/

namespace Sys2Proof.Machine.State

variable {s : State} {ps : List Nat}

theorem sendAlign_writes {n after : Nat} : s.writesOnly (s.sendAlign n after) ps :=
  .after updLink_writes (.foldl (fun _ _ => .after tookFree_writes emit_writes))

theorem sendPrbs_writes {n k : Nat} : s.writesOnly (s.sendPrbs n k) ps := .ite (.refl _) (.foldl (fun _ _ => emit_writes))

theorem passBlocks_writes {n k : Nat} {prbs : Bool} : s.writesOnly (s.passBlocks n k prbs) ps :=
  .ite (.after sendPrbs_writes updLink_writes) (.after sendPrbs_writes (.after sendAlign_writes (.after sendPrbs_writes
    updLink_writes)))

theorem ranBlocks_writes {n k : Nat} : s.writesOnly (s.ranBlocks n k) ps := passBlocks_writes

theorem sentBlocks_writes {n k : Nat} : s.writesOnly (s.sentBlocks n k) ps := .after ranBlocks_writes updLink_writes

theorem sendOnLanes_writes {n : Nat} {b : Ctl} : s.writesOnly (s.sendOnLanes n b) ps :=
  .after passBlocks_writes (.foldl (fun _ _ => emit_writes))

theorem ackTrigger_writes {n : Nat} : s.writesOnly (s.ackTrigger n) ps := updLink_writes

theorem noteSubstEnd_writes {n : Nat} : s.writesOnly (s.noteSubstEnd n) ps := .ite (.refl _) setLink_writes

theorem substEnds_writes {n : Nat} (hn : n < 16) : s.writesOnly (s.substEnds n) [0x082] := by
  unfold substEnds
  dsimp only
  split
  · exact .after (by
      split
      · exact .ite (.after updLink_writes (keepMax_writes (writable_instance 16 hn (by decide)))) (.refl _)
      · exact .refl _) noteSubstEnd_writes
  · exact .refl _

theorem replayExpires_writes {n : Nat} (hn : n < 16) : s.writesOnly (s.replayExpires n) [0x081] :=
  .after updLink_writes (.after (irq_writes (by decide)) (bump_writes (writable_instance 16 hn (by decide))))

theorem creditIn_writes {n v limit : Nat} (hn : n < 16) : s.writesOnly (s.creditIn n v limit) [0x081] :=
  .ite setLink_writes (bump_writes (writable_instance 16 hn (by decide)))

theorem enterCap_writes {n : Nat} (hn : n < 16) : s.writesOnly (s.enterCap n) [0x080] :=
  .after updLink_writes (wr_writes (writable_instance 16 hn (by decide)))

theorem enterTrain_writes {n : Nat} (hn : n < 16) : s.writesOnly (s.enterTrain n) [0x080] :=
  .ite updLink_writes (.after updLink_writes (wr_writes (writable_instance 16 hn (by decide))))

theorem execAckTimerExpiry_writes {n : Nat} : s.writesOut ps (execAckTimerExpiry n s) :=
  .guardedIn (fun _ => .after (.ite ackTrigger_writes (.refl _)) begin_writes)

theorem execReplayTimerExpiry_writes {n : Nat} : s.writesOut [0x081] (execReplayTimerExpiry n s) := by
  refine .guardedIn fun hok => ?_
  have hn : n < 16 := of_decide_eq_true hok
  exact .after (.ite (.refl _) (replayExpires_writes hn)) begin_writes

theorem execCreditReceived_writes {n v limit : Nat} : s.writesOut [0x081] (execCreditReceived n v limit s) := by
  refine .guardedIn fun hok => ?_
  simp only [Bool.and_eq_true, decide_eq_true_eq] at hok
  have hn : n < 16 := by omega
  exact .ite (.after (creditIn_writes hn) begin_writes) begin_writes

theorem execCreditRefresh_writes {n : Nat} : s.writesOut ps (execCreditRefresh n s) :=
  .guardedIn (fun _ => .after (.ite (.foldl (fun _ _ => .after readyCtl_writes setLink_writes)) (.refl _)) begin_writes)

theorem execCtlErr_writes {n : Nat} {raw : List Byte} : s.writesOut [0x081] (execCtlErr n raw s) := by
  refine .guardedIn fun hok => ?_
  have hn : n < 16 := of_decide_eq_true hok
  exact .ite (.after (irq_writes (by decide)) (.after (bump_writes (writable_instance 16 hn (by decide))) begin_writes))
    begin_writes

theorem execCapBlockSend_writes {n : Nat} : s.writesOut ps (execCapBlockSend n s) :=
  .guardedIn (fun _ => .after (.ite (.after sentBlocks_writes (.after emit_writes setLink_writes)) (.ite (.after
    sentBlocks_writes (.after emit_writes setLink_writes)) (.refl _))) begin_writes)

theorem execCapTimeout_writes {n : Nat} : s.writesOut [0x080, 0x082] (execCapTimeout n s) := by
  refine .guardedIn fun hok => ?_
  have hn : n < 16 := of_decide_eq_true hok
  exact .ite (.after (enterDown_writes hn) begin_writes) begin_writes

theorem execLinkDownDwell_writes {n : Nat} : s.writesOut [0x080] (execLinkDownDwell n s) := by
  refine .guardedIn fun hok => ?_
  have hn : n < 16 := of_decide_eq_true hok
  exact .after (.ite (.ite (enterTrain_writes hn) updLink_writes) (.refl _)) begin_writes

end Sys2Proof.Machine.State
end

section
/-! SUPPORT. The register frames of the trunk lanes' commands. -/

namespace Sys2Proof.Machine.State

variable {s : State} {ps : List Nat}

theorem setRxMap_writes {n p0 p1 spare retired : Nat} (hn : n < 16) :
    s.writesOnly (s.setRxMap n p0 p1 spare retired) [0x082] :=
  .after (.after (wr_writes (writable_instance 16 hn (by decide))) (wr_writes (writable_instance 16 hn (by decide)))) (.after
    (wr_writes (writable_instance 16 hn (by decide))) (.after (wr_writes (writable_instance 16 hn (by decide))) (wr_writes
    (writable_instance 16 hn (by decide)))))

theorem setTxMap_writes {n p0 p1 spare retired : Nat} (hn : n < 16) :
    s.writesOnly (s.setTxMap n p0 p1 spare retired) [0x082] :=
  .after (.after (wr_writes (writable_instance 16 hn (by decide))) (wr_writes (writable_instance 16 hn (by decide)))) (.after
    (wr_writes (writable_instance 16 hn (by decide))) (.after (wr_writes (writable_instance 16 hn (by decide))) (wr_writes
    (writable_instance 16 hn (by decide)))))

theorem trainFail_writes {n : Nat} (hn : n < 16) : s.writesOnly (s.trainFail n) [0x082] :=
  .after updLink_writes (.after (irq_writes (by decide)) (bump_writes (writable_instance 16 hn (by decide))))

theorem assignLanes_writes {n : Nat} {t : TrainInfo} (hn : n < 16) : s.writesOnly (s.assignLanes n t) [0x080, 0x082] :=
  .after (.after (.after (.mono (enterCap_writes hn) rfl) updLink_writes) (.after (irq_writes (by decide)) (wr_writes
    (writable_instance 16 hn (by decide))))) (.after (.mono (setTxMap_writes hn) rfl) (.mono (setRxMap_writes hn) rfl))

theorem checkSends_writes {n : Nat} : s.writesOnly (s.checkSends n) ps :=
  .after sendPrbs_writes (.foldl (fun _ _ => .after sendAlign_writes sendPrbs_writes))

theorem trainSends_writes {n step : Nat} : s.writesOnly (s.trainSends n step) ps :=
  .after (.ite checkSends_writes (.foldl (fun _ _ => .after tookFree_writes emit_writes))) updLink_writes

theorem setPreset_writes {n lane preset : Nat} : s.writesOnly (s.setPreset n lane preset) ps := .ite (.refl _) updLink_writes

theorem trainStep_writes {n : Nat} {t : TrainInfo} (hn : n < 16) : s.writesOnly (s.trainStep n t) [0x080, 0x082] := by
  unfold trainStep
  dsimp only
  split
  · exact .ite trainSends_writes (.refl _)
  · exact trainSends_writes
  · exact .after trainSends_writes (wr_writes (writable_instance 16 hn (by decide)))
  · exact .after trainSends_writes (.after setPreset_writes (.after setPreset_writes setPreset_writes))
  · exact .ite (.mono (trainFail_writes hn) rfl) (.after (.after trainSends_writes updLink_writes) (.after (wr_writes
      (writable_instance 16 hn (by decide))) (.after (wr_writes (writable_instance 16 hn (by decide))) (wr_writes
      (writable_instance 16 hn (by decide))))))
  · exact assignLanes_writes hn
  · exact .refl _

theorem sendSubstReq_writes {n : Nat} : s.writesOnly (s.sendSubstReq n) ps := by
  unfold sendSubstReq
  split
  · exact sendOnLanes_writes
  · exact .refl _

theorem interrupted_writes {n : Nat} : s.writesOnly (s.interrupted n) ps := updLink_writes

theorem startSubst_writes {n lane kind : Nat} (hn : n < 16) : s.writesOnly (s.startSubst n lane kind) [0x082] :=
  .after (.after (.after sendSubstReq_writes (wr_writes (writable_instance 16 hn (by decide)))) (.ite interrupted_writes
    (.refl _))) updLink_writes

theorem goodAgain_writes {n lane : Nat} : s.writesOnly (s.goodAgain n lane) ps := updLink_writes

theorem switched_writes {n src dst pos rseq ns : Nat} (hn : n < 16) :
    s.writesOnly (s.switched n src dst pos rseq ns) [0x058, 0x082] := by
  unfold switched
  dsimp only
  split
  · exact .refl _
  · exact .ite (.refl _) (.after (.after (.after (.ite (.after (.mono (substEnds_writes hn) rfl) (.after (.mono (event_writes
      (by decide)) rfl) (bump_writes (writable_instance 16 hn (by decide))))) (.after (.mono (event_writes (by decide)) rfl)
      (.after (bump_writes (writable_instance 16 hn (by decide))) (keepMax_writes (writable_instance 16 hn (by decide))))))
      (.after timeSwitched_writes tally_writes)) (.after (wr_writes (writable_instance 16 hn (by decide))) updLink_writes))
      (.after goodAgain_writes (.mono (setRxMap_writes hn) rfl)))

theorem substReqIn_writes {n lane rseq : Nat} (hn : n < 16) : s.writesOnly (s.substReqIn n lane rseq) [0x082] :=
  .ite (.refl _) (.after (.after (setTxMap_writes hn) (.after tookFree_writes (.after timeSwitched_writes
    sendOnLanes_writes))) updLink_writes)

theorem storeBase_writes {n lane : Nat} (hn : n < 16) (hlane : lane < 3) : s.writesOnly (s.storeBase n lane) [0x082] :=
  .ite (.refl _) (.after (.after tookFree_writes (wr_writes (writable_within 16 3 hn hlane (by decide)))) (.after
    tookFree_writes (wr_writes (writable_within 16 3 hn hlane (by decide)))))

theorem relearn_writes {n : Nat} (hn : n < 16) : s.writesOnly (s.relearn n) [0x082] :=
  .ite (.after (wr_writes (writable_instance 16 hn (by decide))) updLink_writes) updLink_writes

theorem execTrainStepDone_writes {n : Nat} {t : TrainInfo} : s.writesOut [0x080, 0x082] (execTrainStepDone n t s) := by
  refine .guardedIn fun hok => ?_
  have hn : n < 16 := of_decide_eq_true hok
  exact .ite (.after (trainStep_writes hn) begin_writes) begin_writes

theorem execTrainStepTimeout_writes {n : Nat} : s.writesOut [0x082] (execTrainStepTimeout n s) := by
  refine .guardedIn fun hok => ?_
  have hn : n < 16 := of_decide_eq_true hok
  exact .ite (.after (trainFail_writes hn) begin_writes) begin_writes

theorem execTrainRetry_writes {n : Nat} : s.writesOut ps (execTrainRetry n s) :=
  .guardedIn (fun _ => .ite (.after trainSends_writes (.after updLink_writes begin_writes)) begin_writes)

theorem execHealthSend_writes {n : Nat} : s.writesOut ps (execHealthSend n s) :=
  .guardedIn (fun _ => .after (.ite (.foldl (fun _ _ => readyCtl_writes)) (.refl _)) begin_writes)

theorem execSubstReqRepeat_writes {n : Nat} : s.writesOut ps (execSubstReqRepeat n s) :=
  .guardedIn (fun _ => .after sendSubstReq_writes begin_writes)

theorem execSubstReqReceived_writes {n lane rseq : Nat} : s.writesOut [0x082] (execSubstReqReceived n lane rseq s) := by
  refine .guardedIn fun hok => ?_
  simp only [Bool.and_eq_true, decide_eq_true_eq] at hok
  have hn : n < 16 := by omega
  exact .after (substReqIn_writes hn) begin_writes

theorem execSwitchReceived_writes {n src dst pos rseq ns : Nat} :
    s.writesOut [0x058, 0x082] (execSwitchReceived n src dst pos rseq ns s) := by
  refine .guardedIn fun hok => ?_
  simp only [Bool.and_eq_true, decide_eq_true_eq] at hok
  have hn : n < 16 := by omega
  exact .after (switched_writes hn) begin_writes

theorem execLearningDone_writes {n : Nat} : s.writesOut [0x082] (execLearningDone n s) := by
  refine .guardedIn fun hok => ?_
  have hn : n < 16 := of_decide_eq_true hok
  exact .after (.ite (.after (.after (irq_writes (by decide)) (.after (wr_writes (writable_instance 16 hn (by decide)))
    updLink_writes)) (.foldl_lt (n := 3) (by decide) (fun _ hx0 _ => storeBase_writes hn hx0))) (.refl _)) begin_writes

theorem execLaneSubstitute_writes {path n lane : Nat} :
    s.writesOut [0x001, 0x021, 0x058, 0x060, 0x082] (execLaneSubstitute path n lane s) := by
  refine .guarded fun hok => ?_
  simp only [Bool.and_eq_true, decide_eq_true_eq] at hok
  have hpath : path < 8 := by omega
  have hn : n < 16 := by omega
  exact .after (gateWrite_writes (fun _ => .ite (.mono (startSubst_writes hn) rfl) (.refl _)) hpath rfl) begin_writes

theorem execLaneRequalify_writes {path n lane : Nat} :
    s.writesOut [0x001, 0x021, 0x058, 0x060] (execLaneRequalify path n lane s) := by
  refine .guarded fun hok => ?_
  simp only [Bool.and_eq_true, decide_eq_true_eq] at hok
  have hpath : path < 8 := by omega
  exact .after (gateWrite_writes (fun _ => .ite goodAgain_writes (.refl _)) hpath rfl) begin_writes

theorem execLaneRelearn_writes {path n : Nat} : s.writesOut [0x001, 0x021, 0x058, 0x060, 0x082] (execLaneRelearn path n s) := by
  refine .guarded fun hok => ?_
  simp only [Bool.and_eq_true, decide_eq_true_eq] at hok
  have hpath : path < 8 := by omega
  have hn : n < 16 := by omega
  exact .after (gateWrite_writes (fun _ => .mono (relearn_writes hn) rfl) hpath rfl) begin_writes

theorem execRequalified_writes {n lane : Nat} : s.writesOut [0x082] (execRequalified n lane s) := by
  refine .guardedIn fun hok => ?_
  simp only [Bool.and_eq_true, decide_eq_true_eq] at hok
  have hn : n < 16 := by omega
  exact .after (.ite (.after (.after (irq_writes (by decide)) updLink_writes) (setRxMap_writes hn)) (.refl _)) begin_writes

end Sys2Proof.Machine.State
end

section
/-! SUPPORT. The register frames of the switch planes' commands. -/

namespace Sys2Proof.Machine.State

variable {s : State} {ps : List Nat}

theorem dropFence_writes {p q h : Nat} : s.writesOnly (s.dropFence p q h) ps := .after dropMember_writes unqueue_writes

theorem fenceCopy_writes {p q : Nat} {u : PUnit} : s.writesOnly (s.fenceCopy p q u).1 ps := by
  unfold fenceCopy
  dsimp only
  split
  · exact updTun_writes
  · split
    · exact .refl _
    · exact updFence_writes

theorem fenceArrives_writes {p q : Nat} : s.writesOnly (s.fenceArrives p q) ps := by
  unfold fenceArrives
  dsimp only
  split
  · exact .refl _
  · split
    · exact .refl _
    · exact .ite (.refl _) (.ite (.after dropFence_writes fenceCopy_writes) (.after tagHead_writes fenceCopy_writes))

theorem fenceExpires_writes {q tid : Nat} : s.writesOnly (s.fenceExpires q tid) [0x058, 0x280] := by
  unfold fenceExpires
  dsimp only
  split
  · exact .refl _
  · exact .after (.after tagHead_writes (.after (.mono (event_writes (by decide)) rfl) (.after tally_writes (bump_writes
      rfl)))) updFence_writes

theorem execFenceArrival_writes {p q : Nat} : s.writesOut ps (execFenceArrival p q s) :=
  .guardedIn (fun _ => .after fenceArrives_writes begin_writes)

theorem execFenceTimeout_writes {q tid : Nat} : s.writesOut [0x058, 0x280] (execFenceTimeout q tid s) :=
  .guardedIn (fun _ => .after fenceExpires_writes begin_writes)

end Sys2Proof.Machine.State
end

section
/-! SUPPORT. The register frames of the egress of cells. -/

namespace Sys2Proof.Machine.State

variable {s : State} {ps : List Nat}

theorem sendCtl_writes {n : Nat} {b : Ctl} (hn : n < 16) : s.writesOnly (s.sendCtl n b) [0x081] := by
  unfold sendCtl
  extract_lets r low t
  have ht : s.writesOnly t [0x081] :=
    .after updLink_writes (.after sentBlocks_writes (.after emit_writes (.after timeDeparts_writes updLink_writes)))
  split
  · exact .ite ht (.after (bump_writes (writable_instance 16 hn (by decide))) ht)
  · exact ht

theorem sendAck_writes {n : Nat} (hn : n < 16) : s.writesOnly (s.sendAck n) [0x081] := by
  unfold sendAck
  dsimp only
  split
  · exact .refl _
  · exact .after (by
      split
      · exact sendCtl_writes hn
      · exact .refl _) updLink_writes

theorem fillGap_writes {n fuel : Nat} (hn : n < 16) : s.writesOnly (s.fillGap n fuel) [0x081] := by
  induction fuel generalizing s with
  | zero => exact .refl s
  | succ fuel ih =>
    unfold fillGap
    dsimp only
    split
    · exact .refl s
    · split
      · exact .after ih (sendAck_writes hn)
      · split
        · exact .after ih (sendCtl_writes hn)
        · split
          · exact .refl s
          · exact .ite (.refl s) (.after ih (sendCtl_writes hn))

theorem gap_writes {n : Nat} (hn : n < 16) : s.writesOnly (s.gap n) [0x081] := fillGap_writes hn

theorem sendAcks_writes {n fuel : Nat} (hn : n < 16) : s.writesOnly (s.sendAcks n fuel) [0x081] := by
  induction fuel generalizing s with
  | zero => exact .refl s
  | succ fuel ih => exact .ite (.refl s) (.after ih (sendAck_writes hn))

theorem sendReady_writes {n : Nat} (hn : n < 16) : s.writesOnly (s.sendReady n) [0x081] :=
  .ite (sendCtl_writes hn) (.after (.foldl (fun _ _ => sendCtl_writes hn)) (sendAcks_writes hn))

theorem pinnedFence_writes {n p h : Nat} : s.writesOnly (s.pinnedFence n p h).1 ps := by
  unfold pinnedFence
  split
  · split
    · exact fenceCopy_writes
    · exact .refl _
  · exact .refl _

theorem handUnit_writes {n p : Nat} {x : Pinned} : s.writesOnly (s.handUnit n p x) ps :=
  .after (.ite dropMember_writes (.after tally_writes updEgress_writes)) pinnedFence_writes

theorem endSlot_writes {n slot p : Nat} : s.writesOnly (s.endSlot n slot p) ps :=
  .after (.foldl (fun _ _ => handUnit_writes)) updPlane_writes

theorem parkScan_writes {p : Nat} : s.writesOnly (s.parkScan p) ps := updPlane_writes

theorem missDeadline_writes {n : Nat} : s.writesOnly (s.missDeadline n) [0x058, 0x200] :=
  .after (.foldl (fun _ _ => missed_writes)) updEgress_writes

theorem execAckSend_writes {n : Nat} : s.writesOut [0x081] (execAckSend n s) := by
  refine .guardedIn fun hok => ?_
  have hn : n < 16 := of_decide_eq_true hok
  exact .ite (.ite (.after (gap_writes hn) begin_writes) (.after (sendReady_writes hn) begin_writes)) begin_writes

theorem execParkScan_writes {p : Nat} : s.writesOut ps (execParkScan p s) :=
  .guardedIn (fun _ => .after parkScan_writes begin_writes)

theorem execCarouselSlotEnd_writes {n slot : Nat} : s.writesOut ps (execCarouselSlotEnd n slot s) :=
  .guardedIn (fun _ => .after endSlot_writes (.after endSlot_writes begin_writes))

theorem execMissDeadline_writes {n : Nat} : s.writesOut [0x058, 0x200] (execMissDeadline n s) :=
  .guardedIn (fun _ => .after missDeadline_writes begin_writes)

end Sys2Proof.Machine.State
end

section
/-! SUPPORT. The register frames of the time exchanges. -/

namespace Sys2Proof.Machine.State

variable {s : State} {ps : List Nat}

theorem timResult_writes {r : Nat} : s.writesOnly (s.timResult r) [0x040] := wr_writes rfl

theorem timCmd_writes {path op : Nat} {act : State → State} (hact : ∀ s, State.writesOnly s (act s) ps) (hpath : path < 8)
    (hps : [0x001, 0x021, 0x040, 0x058, 0x060].all ps.contains = true) : s.writesOnly (s.timCmd path op act) ps :=
  gateWrite_writes (fun _ => .ite (.within timResult_writes hps rfl) (hact _)) hpath (pages_trans rfl hps)

theorem timAccept_writes {w : Nat × Nat ⊕ Int} : s.writesOnly (s.timAccept w) [0x040] :=
  .after timResult_writes (.after (wr_writes rfl) ask_writes)

theorem timeSet_writes : s.writesOnly s.timeSet [0x040, 0x058] :=
  .ite (.mono timResult_writes rfl) (.ite refuseStep_writes (.mono timAccept_writes rfl))

theorem timeStep_writes : s.writesOnly s.timeStep [0x040, 0x058] :=
  .ite (.mono timResult_writes rfl) (.ite refuseStep_writes (.mono timAccept_writes rfl))

theorem disqualify_writes {k : Nat} : s.writesOnly (s.disqualify k) [0x040, 0x058] :=
  .ite (.after (.after reselect_writes (.ite (.mono (timeEvent_writes (by decide)) rfl) (.refl _))) updTim_writes) (.ite
    (.after (.after reselect_writes (.ite (.mono (timeEvent_writes (by decide)) rfl) (.refl _))) updTim_writes) (.after
    (.after reselect_writes (.ite (.mono (timeEvent_writes (by decide)) rfl) (.refl _))) updTim_writes))

theorem ppsEdge_writes : s.writesOnly s.ppsEdge [0x040, 0x041, 0x058] :=
  .after (.after (.after (.ite (.mono followerSample_writes rfl) (.refl _)) (.ite (.mono disqualify_writes rfl) (.ite (.after
    (.mono reselect_writes rfl) updTim_writes) (.refl _)))) updTim_writes) (.mono (captureAt_writes (by decide)) rfl)

theorem irigGood_writes {t : Int} : s.writesOnly (s.irigGood t) [0x040, 0x041, 0x058] :=
  .after (.after (.after (.ite (.after (.ite (.refl _) (.mono followerStep_writes rfl)) (.mono followerSample_writes rfl))
    (.refl _)) (.ite (.after (.mono reselect_writes rfl) updTim_writes) (.refl _))) updTim_writes) (.mono (captureAt_writes
    (by decide)) rfl)

theorem irigBadFrame_writes : s.writesOnly s.irigBadFrame [0x040, 0x058] :=
  .after (.ite disqualify_writes (.refl _)) updTim_writes

theorem holdExpired_writes {k : Nat} : s.writesOnly (s.holdExpired k) [0x040, 0x058] :=
  .ite (.after (.ite followSlot_writes (.refl _)) reselect_writes) (.refl _)

theorem originate_writes {n : Nat} : s.writesOnly (s.originate n) ps :=
  .ite (.refl _) (.after (.after (.ite readyCtl_writes (.refl _)) readyCtl_writes) setTrunkTime_writes)

theorem discardExchange_writes {n : Nat} {e : Exchange} {d : Int} (hn : n < 16) :
    s.writesOnly (s.discardExchange n e d) [0x040, 0x042, 0x058] :=
  .ite (.after (.mono reselect_writes rfl) setTrunkTime_writes) (.after (.after (.after (.mono reselect_writes rfl) (.ite
    (.after (.after (wr_writes (writable_nth 16 hn (by decide))) (.after (wr_writes (writable_nth 16 hn (by decide)))
    (wr_writes (writable_nth 16 hn (by decide))))) setTrunkTime_writes) (.refl _))) (.after (.mono (event_writes (by decide))
    rfl) (bump_writes (writable_nth 16 hn (by decide))))) setTrunkTime_writes)

theorem keepExchange_writes {n d2 : Nat} {times : Nat × Nat × Nat × Nat} (hn : n < 16) :
    s.writesOnly (s.keepExchange n d2 times) [0x040, 0x042, 0x058] :=
  .after (.after (.after (.mono reselect_writes rfl) (.ite (wr_writes (writable_nth 16 hn (by decide))) (.refl _))) (.after
    (wr_writes (writable_nth 16 hn (by decide))) (.after tookFree_writes (wr_writes (writable_nth 16 hn (by decide))))))
    setTrunkTime_writes

theorem measure_writes {n : Nat} {e : Exchange} {t1 t2 t3 t4 : Nat} (hn : n < 16) :
    s.writesOnly (s.measure n e t1 t2 t3 t4) [0x040, 0x042, 0x058] :=
  .ite (discardExchange_writes hn) (keepExchange_writes hn)

theorem timeOfDay_writes {n id stamp : Nat} : s.writesOnly (s.timeOfDay n id stamp) [0x040, 0x058] := by
  unfold timeOfDay
  dsimp only
  exact .after (.after (by
    split
    · exact .refl _
    · exact .ite (.after tookFree_writes followerSample_writes) (.refl _)) reselect_writes) setTrunkTime_writes

theorem echoIn_writes {n lane sub id stamp : Nat} (hn : n < 16) :
    s.writesOnly (s.echoIn n lane sub id stamp) [0x040, 0x042, 0x058] := by
  unfold echoIn
  dsimp only
  split
  · exact .refl _
  · split
    · exact .mono timeOfDay_writes rfl
    · split
      · exact .refl _
      · split
        · exact .refl _
        · split
          · exact setTrunkTime_writes
          · split
            · exact measure_writes hn
            · exact .refl _

theorem execTimNowRead_writes {path : Nat} : s.writesOut [0x001, 0x021, 0x058, 0x060] (execTimNowRead path s) := by
  refine .guarded fun hok => ?_
  have hpath : path < 8 := of_decide_eq_true hok
  exact .after (gateRead_writes (fun _ => .after answer_writes setLatch_writes) hpath rfl) begin_writes

theorem execTimeSet_writes {path : Nat} : s.writesOut [0x001, 0x021, 0x040, 0x058, 0x060] (execTimeSet path s) := by
  refine .guarded fun hok => ?_
  have hpath : path < 8 := of_decide_eq_true hok
  exact .after (timCmd_writes (fun _ => .mono timeSet_writes rfl) hpath rfl) begin_writes

theorem execTimeStep_writes {path : Nat} : s.writesOut [0x001, 0x021, 0x040, 0x058, 0x060] (execTimeStep path s) := by
  refine .guarded fun hok => ?_
  have hpath : path < 8 := of_decide_eq_true hok
  exact .after (timCmd_writes (fun _ => .mono timeStep_writes rfl) hpath rfl) begin_writes

theorem execTimeSlew_writes {path : Nat} : s.writesOut [0x001, 0x021, 0x040, 0x058, 0x060] (execTimeSlew path s) := by
  refine .guarded fun hok => ?_
  have hpath : path < 8 := of_decide_eq_true hok
  exact .after (timCmd_writes (fun _ => .ite (.mono timResult_writes rfl) (.after (.mono timResult_writes rfl) (.mono
    slewBy_writes rfl))) hpath rfl) begin_writes

theorem execSlewAbort_writes {path : Nat} : s.writesOut [0x001, 0x021, 0x040, 0x058, 0x060] (execSlewAbort path s) := by
  refine .guarded fun hok => ?_
  have hpath : path < 8 := of_decide_eq_true hok
  exact .after (timCmd_writes (fun _ => .after (.mono timResult_writes rfl) (.mono slewBy_writes rfl)) hpath rfl) begin_writes

theorem execTimeCapture_writes {path : Nat} :
    s.writesOut [0x001, 0x021, 0x040, 0x041, 0x058, 0x060] (execTimeCapture path s) := by
  refine .guarded fun hok => ?_
  have hpath : path < 8 := of_decide_eq_true hok
  exact .after (timCmd_writes (fun _ => .after (.mono timResult_writes rfl) (.mono (captureAt_writes (by decide)) rfl)) hpath
    rfl) begin_writes

theorem execFadjWrite_writes {path data : Nat} :
    s.writesOut [0x001, 0x021, 0x040, 0x058, 0x060] (execFadjWrite path data s) := by
  refine .guarded fun hok => ?_
  have hpath : path < 8 := of_decide_eq_true hok
  exact .after (gateWrite_writes (fun _ => .ite (.mono timResult_writes rfl) (wr_writes rfl)) hpath rfl) begin_writes

theorem execSourceQualified_writes {k : Nat} : s.writesOut [0x040, 0x058] (execSourceQualified k s) :=
  .guardedIn (fun _ => .ite (.after reselect_writes begin_writes) begin_writes)

theorem execSourceDisqualified_writes {k : Nat} : s.writesOut [0x040, 0x058] (execSourceDisqualified k s) :=
  .guardedIn (fun _ => .ite begin_writes (.after reselect_writes begin_writes))

theorem execSourceHoldExpiry_writes {k : Nat} : s.writesOut [0x040, 0x058] (execSourceHoldExpiry k s) :=
  .guardedIn (fun _ => .after holdExpired_writes begin_writes)

theorem execPtpQualWrite_writes {path data : Nat} :
    s.writesOut [0x001, 0x021, 0x040, 0x041, 0x058, 0x060] (execPtpQualWrite path data s) := by
  refine .guarded fun hok => ?_
  have hpath : path < 8 := of_decide_eq_true hok
  exact .after (gateWrite_writes (fun _ => .after (.after (.mono reselect_writes rfl) updTim_writes) (store_writes
    (by decide))) hpath rfl) begin_writes

theorem execPtpTmo_writes : s.writesOut [0x040, 0x058] (execPtpTmo s) := .nextIn (.after disqualify_writes begin_writes)

theorem execIrigFrame_writes {err : Bool} {code year day hour min sec : Nat} {localOfs : Int} :
    s.writesOut [0x040, 0x041, 0x058] (execIrigFrame err code year day hour min sec localOfs s) :=
  .nextIn (.after (.ite (.mono irigBadFrame_writes rfl) irigGood_writes) begin_writes)

theorem execIrigFault_writes : s.writesOut [0x040, 0x058] (execIrigFault s) :=
  .nextIn (.after disqualify_writes (.after updTim_writes begin_writes))

theorem execPpsEdge_writes : s.writesOut [0x040, 0x041, 0x058] (execPpsEdge s) := .nextIn (.after ppsEdge_writes begin_writes)

theorem execPpsFault_writes : s.writesOut [0x040, 0x058] (execPpsFault s) :=
  .nextIn (.after disqualify_writes (.after updTim_writes begin_writes))

theorem execHoldTimeExpiry_writes : s.writesOut [0x040, 0x058] (execHoldTimeExpiry s) :=
  .nextIn (.after (.ite (.after setTimeState_writes (.after (wr_writes rfl) (wr_writes rfl))) (.refl _)) begin_writes)

theorem execExchangeOriginate_writes {n : Nat} : s.writesOut ps (execExchangeOriginate n s) :=
  .guardedIn (fun _ => .after originate_writes begin_writes)

theorem execTimeSymbolReceived_writes {n lane id : Nat} : s.writesOut ps (execTimeSymbolReceived n lane id s) :=
  .guardedIn (fun _ => .after (.ite readyCtl_writes (.refl _)) begin_writes)

theorem execTimeEchoReceived_writes {n lane sub id stamp : Nat} :
    s.writesOut [0x040, 0x042, 0x058] (execTimeEchoReceived n lane sub id stamp s) := by
  refine .guardedIn fun hok => ?_
  simp only [Bool.and_eq_true, decide_eq_true_eq] at hok
  have hn : n < 16 := by omega
  exact .after (echoIn_writes hn) begin_writes

theorem execExchangeTimeout_writes {n : Nat} : s.writesOut [0x040, 0x042, 0x058] (execExchangeTimeout n s) := by
  unfold execExchangeTimeout
  refine .guardedIn fun hok => ?_
  have hn : n < 16 := of_decide_eq_true hok
  dsimp only
  split
  · exact begin_writes
  · exact .after tookFree_writes (.after (discardExchange_writes hn) begin_writes)

theorem execAsymTrimReceived_writes {n stamp : Nat} : s.writesOut [0x042] (execAsymTrimReceived n stamp s) := by
  refine .guardedIn fun hok => ?_
  have hn : n < 16 := of_decide_eq_true hok
  exact .ite (.after (wr_writes (writable_nth 16 hn (by decide))) begin_writes) begin_writes

theorem execPpsOutRise_writes : s.writesOut ps (execPpsOutRise s) :=
  .nextIn (.after (.ite updTim_writes (.refl _)) begin_writes)

theorem execPpsOutFall_writes : s.writesOut ps (execPpsOutFall s) := .nextIn (.after updTim_writes begin_writes)

end Sys2Proof.Machine.State
end

section
/-! SUPPORT. The register frames of scheduling and shaping. -/

namespace Sys2Proof.Machine.State

variable {s : State} {ps : List Nat}

theorem handPassed_writes {n : Nat} : s.writesOnly (s.handPassed n) ps :=
  .after (.foldl (fun _ _ => handUnit_writes)) (.foldl (fun _ _ => updPlane_writes))

theorem handParked_writes {p : Nat} : s.writesOnly (s.handParked p) ps :=
  .after (.foldl (fun _ _ => handUnit_writes)) updPlane_writes

theorem stretchDeadlines_writes {d : Nat} : s.writesOnly (s.stretchDeadlines d) ps := updSch_writes

theorem stepped_writes {d : Int} : s.writesOnly (s.stepped d) [0x058] :=
  .after (.ite (.after stretchDeadlines_writes (.after handParked_writes (.after handParked_writes (.foldl (fun _ _ =>
    handPassed_writes))))) (.refl _)) (.after timeStepped_writes (event_writes (by decide)))

theorem applyTime_writes {w : Nat × Nat ⊕ Int} : s.writesOnly (s.applyTime w) [0x058] := by
  unfold applyTime
  dsimp only
  split
  · exact .after stepped_writes (.after updTim_writes setPanelNs_writes)
  · exact .after stepped_writes movePanel16_writes

theorem applyRelease_writes {r : Requests} : s.writesOnly (s.applyRelease r) [0x200] := by
  unfold applyRelease
  extract_lets next word t
  have ht : s.writesOnly t [0x200] := .after (wr_writes rfl) (wr_writes rfl)
  clear_value word t
  exact .ite ht (.after (irq_writes (by decide)) ht)

theorem applyWords_writes {r : Requests} : s.writesOnly (s.applyWords r) ps := updSch_writes

theorem applyTimes_writes {l : List (Nat × Nat ⊕ Int)} : s.writesOnly (s.applyTimes l) [0x041, 0x058] :=
  .ite (.refl _) (.after (.mono recapture_writes rfl) (.foldl (fun _ _ => .mono applyTime_writes rfl)))

theorem refill_writes : s.writesOnly s.refill [0x040, 0x041, 0x058, 0x200] :=
  .after (.after (.after (.after tally_writes updSch_writes) (.after applyWords_writes (.after (.mono applyRelease_writes
    rfl) (.mono applyTimes_writes rfl)))) (.ite (wr_writes rfl) (.refl _))) updSch_writes

theorem schQRead_writes : s.writesOnly s.schQRead [0x201] :=
  .after (.after (.after (nextIndex_writes rfl) (.after (wr_writes rfl) (wr_writes rfl))) (.after (wr_writes rfl) (wr_writes
    rfl))) (.after (wr_writes rfl) (wr_writes rfl))

theorem schQWrite_writes : s.writesOnly s.schQWrite [0x201] :=
  .after (nextIndex_writes rfl) (.ite (wr_writes rfl) (.after (wr_writes rfl) setPair_writes))

theorem allotData_writes {a : Allot} : s.writesOnly (s.allotData a) [0x202] :=
  .after (.after (wr_writes rfl) (.after (wr_writes rfl) (wr_writes rfl))) (.after (wr_writes rfl) (wr_writes rfl))

theorem schAlDone_writes {r : Nat} : s.writesOnly (s.schAlDone r) [0x202] := .after (nextIndex_writes rfl) (wr_writes rfl)

theorem schAlRead_writes : s.writesOnly s.schAlRead [0x202] :=
  .after (.after schAlDone_writes (.after (wr_writes rfl) (wr_writes rfl))) allotData_writes

theorem schAlWrite_writes : s.writesOnly s.schAlWrite [0x202] := .ite schAlDone_writes (.after schAlDone_writes ask_writes)

theorem schAlReadPending_writes : s.writesOnly s.schAlReadPending [0x202] := .after schAlDone_writes allotData_writes

theorem schPolDone_writes {r : Nat} : s.writesOnly (s.schPolDone r) [0x203] := .after (nextIndex_writes rfl) (wr_writes rfl)

theorem schPolRead_writes : s.writesOnly s.schPolRead [0x203] :=
  .after (.after schPolDone_writes (.after (wr_writes rfl) (.after (wr_writes rfl) (wr_writes rfl)))) (.after (wr_writes rfl)
    (.after (wr_writes rfl) (.after (wr_writes rfl) (wr_writes rfl))))

theorem schPolWrite_writes : s.writesOnly s.schPolWrite [0x203] :=
  .ite schPolDone_writes (.after schPolDone_writes ask_writes)

theorem schPolClear_writes : s.writesOnly s.schPolClear [0x203] := .after schPolDone_writes setPolicer_writes

theorem askRelease_writes {gs : List Nat} : s.writesOnly (s.askRelease gs) ps := ask_writes

theorem askReclaim_writes {gs : List Nat} : s.writesOnly (s.askReclaim gs) ps := ask_writes

theorem countBins_writes {p q depth age : Nat} : s.writesOnly (s.countBins p q depth age) ps :=
  .ite (.refl _) (.foldl (fun _ _ => updSch_writes))

theorem sample_writes {p : Nat} : s.writesOnly (s.sample p) [0x204] :=
  .ite (.refl _) (.after (.after (.ite (bump_writes (by split <;> decide)) (.refl _)) countBins_writes) (.after
    tookFree_writes updSch_writes))

theorem schSmpRead_writes : s.writesOnly s.schSmpRead [0x204] :=
  .after (wr_writes rfl) (.after (wr_writes rfl) (.after (wr_writes rfl) (.after (wr_writes rfl) (.after (wr_writes rfl)
    (.after (wr_writes rfl) (wr_writes rfl))))))

theorem schSmpClear_writes : s.writesOnly s.schSmpClear ps := updSch_writes

theorem clearHist_writes {h : Nat} : s.writesOnly (s.clearHist h) ps := updSch_writes

theorem execRefillBoundary_writes : s.writesOut [0x040, 0x041, 0x058, 0x200] (execRefillBoundary s) :=
  .nextIn (.after refill_writes begin_writes)

theorem execSchQRead_writes {path : Nat} : s.writesOut [0x001, 0x021, 0x058, 0x060, 0x201] (execSchQRead path s) := by
  refine .guarded fun hok => ?_
  have hpath : path < 8 := of_decide_eq_true hok
  exact .after (gateWrite_writes (fun _ => .mono schQRead_writes rfl) hpath rfl) begin_writes

theorem execSchQWrite_writes {path : Nat} : s.writesOut [0x001, 0x021, 0x058, 0x060, 0x201] (execSchQWrite path s) := by
  refine .guarded fun hok => ?_
  have hpath : path < 8 := of_decide_eq_true hok
  exact .after (gateWrite_writes (fun _ => .mono schQWrite_writes rfl) hpath rfl) begin_writes

theorem execSchAlRead_writes {path : Nat} : s.writesOut [0x001, 0x021, 0x058, 0x060, 0x202] (execSchAlRead path s) := by
  refine .guarded fun hok => ?_
  have hpath : path < 8 := of_decide_eq_true hok
  exact .after (gateWrite_writes (fun _ => .mono schAlRead_writes rfl) hpath rfl) begin_writes

theorem execSchAlWrite_writes {path : Nat} : s.writesOut [0x001, 0x021, 0x058, 0x060, 0x202] (execSchAlWrite path s) := by
  refine .guarded fun hok => ?_
  have hpath : path < 8 := of_decide_eq_true hok
  exact .after (gateWrite_writes (fun _ => .mono schAlWrite_writes rfl) hpath rfl) begin_writes

theorem execSchAlReadPending_writes {path : Nat} :
    s.writesOut [0x001, 0x021, 0x058, 0x060, 0x202] (execSchAlReadPending path s) := by
  refine .guarded fun hok => ?_
  have hpath : path < 8 := of_decide_eq_true hok
  exact .after (gateWrite_writes (fun _ => .mono schAlReadPending_writes rfl) hpath rfl) begin_writes

theorem execSchPolRead_writes {path : Nat} : s.writesOut [0x001, 0x021, 0x058, 0x060, 0x203] (execSchPolRead path s) := by
  refine .guarded fun hok => ?_
  have hpath : path < 8 := of_decide_eq_true hok
  exact .after (gateWrite_writes (fun _ => .mono schPolRead_writes rfl) hpath rfl) begin_writes

theorem execSchPolWrite_writes {path : Nat} : s.writesOut [0x001, 0x021, 0x058, 0x060, 0x203] (execSchPolWrite path s) := by
  refine .guarded fun hok => ?_
  have hpath : path < 8 := of_decide_eq_true hok
  exact .after (gateWrite_writes (fun _ => .mono schPolWrite_writes rfl) hpath rfl) begin_writes

theorem execSchPolClearCnt_writes {path : Nat} :
    s.writesOut [0x001, 0x021, 0x058, 0x060, 0x203] (execSchPolClearCnt path s) := by
  refine .guarded fun hok => ?_
  have hpath : path < 8 := of_decide_eq_true hok
  exact .after (gateWrite_writes (fun _ => .mono schPolClear_writes rfl) hpath rfl) begin_writes

theorem execSchRelSet_writes {path w data : Nat} : s.writesOut [0x001, 0x021, 0x058, 0x060] (execSchRelSet path w data s) := by
  refine .guarded fun hok => ?_
  simp only [Bool.and_eq_true, decide_eq_true_eq] at hok
  have hpath : path < 8 := by omega
  exact .after (gateWrite_writes (fun _ => askRelease_writes) hpath rfl) begin_writes

theorem execSchRelClr_writes {path w data : Nat} : s.writesOut [0x001, 0x021, 0x058, 0x060] (execSchRelClr path w data s) := by
  refine .guarded fun hok => ?_
  simp only [Bool.and_eq_true, decide_eq_true_eq] at hok
  have hpath : path < 8 := by omega
  exact .after (gateWrite_writes (fun _ => askReclaim_writes) hpath rfl) begin_writes

theorem execSamplerVisit_writes {p : Nat} : s.writesOut [0x204] (execSamplerVisit p s) :=
  .guardedIn (fun _ => .after sample_writes begin_writes)

theorem execSchSmpRead_writes {path : Nat} : s.writesOut [0x001, 0x021, 0x058, 0x060, 0x204] (execSchSmpRead path s) := by
  refine .guarded fun hok => ?_
  have hpath : path < 8 := of_decide_eq_true hok
  exact .after (gateWrite_writes (fun _ => .mono schSmpRead_writes rfl) hpath rfl) begin_writes

theorem execSchSmpClear_writes {path : Nat} : s.writesOut [0x001, 0x021, 0x058, 0x060] (execSchSmpClear path s) := by
  refine .guarded fun hok => ?_
  have hpath : path < 8 := of_decide_eq_true hok
  exact .after (gateWrite_writes (fun _ => schSmpClear_writes) hpath rfl) begin_writes

theorem execHistSelWrite_writes {path h data : Nat} :
    s.writesOut [0x001, 0x021, 0x058, 0x060, 0x204] (execHistSelWrite path h data s) := by
  refine .guarded fun hok => ?_
  simp only [Bool.and_eq_true, decide_eq_true_eq] at hok
  have hpath : path < 8 := by omega
  have hh : h < 64 := by omega
  exact .after (gateWrite_writes (fun _ => .after clearHist_writes (store_writes (stored_nth 64 hh (by decide)))) hpath rfl)
    begin_writes

end Sys2Proof.Machine.State
end

section
/-! SUPPORT. The register frames of the display. -/

namespace Sys2Proof.Machine.State

variable {s : State} {ps : List Nat}

theorem setSrc_writes {i : Nat} {x : DspSource} : s.writesOnly (s.setSrc i x) ps := set_dsp_writes

theorem updSrc_writes {i : Nat} {f : DspSource → DspSource} : s.writesOnly (s.updSrc i f) ps := setSrc_writes

theorem setOutput_writes {o : Nat} {x : DspOutput} : s.writesOnly (s.setOutput o x) ps := set_dsp_writes

theorem updOutput_writes {o : Nat} {f : DspOutput → DspOutput} : s.writesOnly (s.updOutput o f) ps := setOutput_writes

theorem setSrcState_writes {i v : Nat} (hi : i < 2) : s.writesOnly (s.setSrcState i v) [0x301] :=
  wr_writes (writable_instance 2 hi (by decide))

theorem setOutState_writes {o v : Nat} (ho : o < 4) : s.writesOnly (s.setOutState o v) [0x304] :=
  wr_writes (writable_instance 4 ho (by decide))

theorem putPixels_writes {i buf : Nat} {m : DspMode} {x y : Nat} {rows : List (List Nat)} :
    s.writesOnly (s.putPixels i buf m x y rows) ps :=
  .foldl (fun _ _ => dramWrite_writes)

theorem fillBuffers_writes {i : Nat} {m : DspMode} : s.writesOnly (s.fillBuffers i m) ps :=
  .after tookFree_writes (.after putPixels_writes putPixels_writes)

theorem copyBuffer_writes {i : Nat} {m : DspMode} : s.writesOnly (s.copyBuffer i m) ps :=
  .foldl (fun _ _ => .after dramWrite_writes dramMoves_writes)

theorem dspReply_writes {i ev detail token : Nat} : s.writesOnly (s.dspReply i ev detail token) [0x100, 0x103, 0x280] :=
  .ite (.refl _) originUnit_writes

theorem outFail_writes {o cause : Nat} (ho : o < 4) : s.writesOnly (s.outFail o cause) [0x304] :=
  .after (irq_writes (by decide)) (.after (wr_writes (writable_instance 4 ho (by decide))) (setOutState_writes ho))

theorem startTraining_writes {o : Nat} (ho : o < 4) : s.writesOnly (s.startTraining o) [0x304] := by
  unfold startTraining
  dsimp only
  split
  · exact .refl _
  · exact .after (.ite (outFail_writes ho) (setOutState_writes ho)) updOutput_writes

theorem settleOutput_writes {o : Nat} (ho : o < 4) : s.writesOnly (s.settleOutput o) [0x304] :=
  .ite (setOutState_writes ho) (.ite (setOutState_writes ho) (.ite (startTraining_writes ho) (.refl _)))

theorem takeClone_writes {i : Nat} : s.writesOnly (s.takeClone i) [0x304] :=
  .after (.foldl_lt (eraseDups_lt (append_lt groupOf_lt groupOf_lt)) (fun _ hx0 _ => .after (settleOutput_writes hx0)
    updOutput_writes)) updSrc_writes

theorem cloneWritten_writes {i : Nat} : s.writesOnly (s.cloneWritten i) [0x304] := .ite takeClone_writes (.refl _)

theorem hpdPlug_writes {o : Nat} {k : DspSink} (ho : o < 4) : s.writesOnly (s.hpdPlug o k) [0x304] :=
  .after (.after (.ite (startTraining_writes ho) (.refl _)) (.after (irq_writes (by decide)) updOutput_writes)) (.after
    (wr_writes (writable_instance 4 ho (by decide))) (wr_writes (writable_instance 4 ho (by decide))))

theorem hpdUnplug_writes {o : Nat} (ho : o < 4) : s.writesOnly (s.hpdUnplug o) [0x304] :=
  .after (.after (.ite (.after (wr_writes (writable_instance 4 ho (by decide))) (setOutState_writes ho)) (.refl _)) (.after
    (irq_writes (by decide)) updOutput_writes)) (.after (wr_writes (writable_instance 4 ho (by decide))) (wr_writes
    (writable_instance 4 ho (by decide))))

theorem setOwn_writes {o : Nat} {k : Option DspSink} : s.writesOnly (s.setOwn o k) ps := updOutput_writes

theorem directMoved_writes {old : State} : s.writesOnly (s.directMoved old) [0x304] := by
  refine .foldl_lt range_lt fun o ho t => .ite (.refl t) ?_
  extract_lets t'
  have ht : t.writesOnly t' [0x304] := .ite (hpdUnplug_writes ho) (.refl t)
  split
  · exact .after (hpdPlug_writes ho) ht
  · exact ht

theorem hpdIrq_writes {o : Nat} {lost : Bool} (ho : o < 4) : s.writesOnly (s.hpdIrq o lost) [0x304] :=
  .after (.ite updOutput_writes (.ite (startTraining_writes ho) (.refl _))) (irq_writes (by decide))

theorem trainDone_writes {o : Nat} {ok : Bool} (ho : o < 4) : s.writesOnly (s.trainDone o ok) [0x304] := by
  unfold trainDone
  dsimp only
  split
  · exact .refl _
  · split
    · exact .refl _
    · exact .after (.ite (.after (.after (.after (irq_writes (by decide)) (setOutState_writes ho)) (.after (wr_writes
        (writable_instance 4 ho (by decide))) (.after (wr_writes (writable_instance 4 ho (by decide))) (wr_writes
        (writable_instance 4 ho (by decide)))))) updOutput_writes) (.after (.ite (outFail_writes ho) (.refl _))
        updOutput_writes)) (bump_writes (writable_instance 4 ho (by decide)))

theorem badDisplay_writes {u : UnitMsg} {reason : Nat} : s.writesOnly (s.badDisplay u reason) [0x300] :=
  .after (.after (irq_writes (by decide)) (bump_writes rfl)) (.after (wr_writes rfl) (.after (wr_writes rfl) (wr_writes rfl)))

theorem wakeOutputs_writes {i : Nat} : s.writesOnly (s.wakeOutputs i) [0x304] :=
  .foldl_lt groupOf_lt (fun _ hx0 _ => .ite (.ite (startTraining_writes hx0) (setOutState_writes hx0)) (.refl _))

theorem srcUpdate_writes {i : Nat} (hi : i < 2) : s.writesOnly (s.srcUpdate i) [0x100, 0x103, 0x280, 0x301, 0x304] :=
  .after (.ite (.refl _) (.after (.after (.after (.mono wakeOutputs_writes rfl) (.after (.mono dspReply_writes rfl)
    (irq_writes (by decide)))) (.ite (.refl _) askReclaim_writes)) (.after updSrc_writes (.mono (setSrcState_writes hi)
    rfl)))) (.after updSrc_writes (wr_writes (writable_instance 2 hi (by decide))))

theorem enterPsr_writes {i : Nat} (hi : i < 2) : s.writesOnly (s.enterPsr i) [0x100, 0x103, 0x280, 0x301] :=
  .after (.after (.after (.mono dspReply_writes rfl) (.after (irq_writes (by decide)) (bump_writes (writable_instance 2 hi
    (by decide))))) (.ite (.refl _) askRelease_writes)) (.after updSrc_writes (.mono (setSrcState_writes hi) rfl))

theorem modeSet_writes {u : UnitMsg} {i : Nat} (hi : i < 2) :
    s.writesOnly (s.modeSet u i) [0x100, 0x103, 0x280, 0x301, 0x304] :=
  .ite (.after (.mono dspReply_writes rfl) (irq_writes (by decide))) (.ite (.after (.mono dspReply_writes rfl) (irq_writes
    (by decide))) (.after updSrc_writes (srcUpdate_writes hi)))

theorem rectRaw_writes {u : UnitMsg} {i : Nat} (hi : i < 2) :
    s.writesOnly (s.rectRaw u i) [0x100, 0x103, 0x280, 0x301, 0x304] := by
  unfold rectRaw
  dsimp only
  split
  · exact .refl _
  · exact .after (srcUpdate_writes hi) putPixels_writes

theorem rectTile_writes {u : UnitMsg} {i : Nat} (hi : i < 2) :
    s.writesOnly (s.rectTile u i) [0x100, 0x103, 0x280, 0x301, 0x304] := by
  unfold rectTile
  dsimp only
  split
  · exact .refl _
  · split
    · exact .refl _
    · exact .after (srcUpdate_writes hi) (.after (.foldl (fun _ _ => putPixels_writes)) tookFree_writes)

theorem cursorUnit_writes {u : UnitMsg} {i : Nat} (hi : i < 2) :
    s.writesOnly (s.cursorUnit u i) [0x100, 0x103, 0x280, 0x301, 0x304] :=
  .after (srcUpdate_writes hi) updSrc_writes

theorem flipUnit_writes {u : UnitMsg} {i : Nat} (hi : i < 2) :
    s.writesOnly (s.flipUnit u i) [0x100, 0x103, 0x280, 0x301, 0x304] :=
  .after (.after (srcUpdate_writes hi) (wr_writes (writable_instance 2 hi (by decide)))) updSrc_writes

theorem fenceUnitDsp_writes {u : UnitMsg} {i : Nat} : s.writesOnly (s.fenceUnitDsp u i) [0x100, 0x103, 0x280] :=
  .ite updSrc_writes dspReply_writes

theorem applyDisplay_writes {u : UnitMsg} {i : Nat} (hi : i < 2) :
    s.writesOnly (s.applyDisplay u i) [0x100, 0x103, 0x280, 0x300, 0x301, 0x304] := by
  unfold applyDisplay
  dsimp only
  split
  · exact .refl _
  · split
    · exact .mono badDisplay_writes rfl
    · split
      · exact .mono (modeSet_writes hi) rfl
      · exact .mono (rectRaw_writes hi) rfl
      · exact .mono (rectTile_writes hi) rfl
      · exact .mono (cursorUnit_writes hi) rfl
      · exact .mono (flipUnit_writes hi) rfl
      · exact .mono fenceUnitDsp_writes rfl

theorem takeDisplay_writes {u : UnitMsg} {want : Nat} :
    s.writesOnly (s.takeDisplay u want) [0x100, 0x103, 0x280, 0x300, 0x301, 0x304] := by
  unfold takeDisplay
  split
  · exact .after (irq_writes (by decide)) (bump_writes rfl)
  next i hi =>
    have hi := boundSource_lt hi
    exact .ite (bump_writes (writable_instance 2 hi (by decide))) (.ite (.refl s) (.ite updSrc_writes
      (applyDisplay_writes hi)))

theorem takeHeld_writes {i : Nat} (hi : i < 2) : s.writesOnly (s.takeHeld i) [0x100, 0x103, 0x280, 0x300, 0x301, 0x304] :=
  .after (.foldl (fun _ _ => .ite updSrc_writes (applyDisplay_writes hi))) updSrc_writes

theorem srcDrained_writes {i : Nat} (hi : i < 2) : s.writesOnly (s.srcDrained i) [0x301, 0x304] :=
  .ite (.after (.mono wakeOutputs_writes rfl) (.after (irq_writes (by decide)) (.after updSrc_writes (.mono
    (setSrcState_writes hi) rfl)))) (.refl _)

theorem srcDisable_writes {i : Nat} (hi : i < 2) : s.writesOnly (s.srcDisable i) [0x301, 0x304] :=
  .ite (.refl _) (.after (srcDrained_writes hi) (.after (bumpBy_writes (writable_instance 2 hi (by decide))) (.after
    updSrc_writes (.mono (setSrcState_writes hi) rfl))))

theorem srcAbort_writes {i : Nat} (hi : i < 2) : s.writesOnly (s.srcAbort i) [0x100, 0x103, 0x280, 0x301, 0x304] :=
  .ite (.refl _) (.after (.after (.after (.after (.mono (srcDrained_writes hi) rfl) (.ite (.refl _) (irq_writes
    (by decide)))) (.after (.foldl (fun _ _ => .mono dspReply_writes rfl)) (bumpBy_writes (writable_instance 2 hi
    (by decide))))) (.after (wr_writes (writable_instance 2 hi (by decide))) (wr_writes (writable_instance 2 hi
    (by decide))))) updSrc_writes)

theorem srcEnable_writes {i : Nat} (hi : i < 2) : s.writesOnly (s.srcEnable i) [0x301] :=
  .after (.after updSrc_writes (.after (wr_writes (writable_instance 2 hi (by decide))) (wr_writes (writable_instance 2 hi
    (by decide))))) (.after (wr_writes (writable_instance 2 hi (by decide))) (.after (wr_writes (writable_instance 2 hi
    (by decide))) (setSrcState_writes hi)))

theorem takeFlips_writes {i : Nat} (hi : i < 2) : s.writesOnly (s.takeFlips i) [0x100, 0x103, 0x280, 0x301] :=
  .ite (.refl _) (.after (.after (.after (.after (.foldl (fun _ _ => .mono dspReply_writes rfl)) (.after (wr_writes
    (writable_instance 2 hi (by decide))) (wr_writes (writable_instance 2 hi (by decide))))) (.ite (wr_writes
    (writable_instance 2 hi (by decide))) (.refl _))) (wr_writes (writable_instance 2 hi (by decide)))) updSrc_writes)

theorem takeMode_writes {i : Nat} (hi : i < 2) : s.writesOnly (s.takeMode i) [0x301, 0x304] := by
  unfold takeMode
  dsimp only
  split
  · exact .refl _
  · exact .after (.after (.after (.after (.after (.foldl_lt groupOf_lt (fun _ hx0 _ => by
      split
      · exact .refl _
      · exact .ite (.refl _) (.ite (.refl _) (.mono (startTraining_writes hx0) rfl)))) fillBuffers_writes) (.after (wr_writes
          (writable_instance 2 hi (by decide))) (wr_writes (writable_instance 2 hi (by decide))))) (.after (wr_writes
          (writable_instance 2 hi (by decide))) (wr_writes (writable_instance 2 hi (by decide))))) (.ite (.refl _) (.mono
          (setSrcState_writes hi) rfl))) updSrc_writes

theorem journalLines_writes {i : Nat} : s.writesOnly (s.journalLines i) [0x058] := by
  unfold journalLines
  dsimp only
  exact .after (by
    split
    · exact journalAt_writes
    · exact .refl _) updSrc_writes

theorem resumeFetch_writes {i : Nat} : s.writesOnly (s.resumeFetch i) ps := by
  unfold resumeFetch
  split
  · exact .ite updSrc_writes (.refl _)
  · exact .refl _

theorem countIdle_writes {i : Nat} (hi : i < 2) : s.writesOnly (s.countIdle i) [0x301] :=
  .ite (.refl _) (.after updSrc_writes (bump_writes (writable_instance 2 hi (by decide))))

theorem frameStart_writes {i : Nat} (hi : i < 2) : s.writesOnly (s.frameStart i) [0x058, 0x100, 0x103, 0x280, 0x301, 0x304] :=
  .ite (.refl _) (.after (.after (.after (.ite (.mono (enterPsr_writes hi) rfl) (.refl _)) (.after (.mono (countIdle_writes
    hi) rfl) (.after (.mono (srcDrained_writes hi) rfl) (.after resumeFetch_writes (.mono (takeMode_writes hi) rfl)))))
    (.after updSrc_writes (.after (.mono (takeFlips_writes hi) rfl) (.mono takeClone_writes rfl)))) (.after (.mono
    journalLines_writes rfl) (.after tally_writes (bumpWrap_writes (writable_instance 2 hi (by decide))))))

theorem stateTolerance_writes {f0 f1 : Nat} : s.writesOnly (s.stateTolerance f0 f1) [0x300, 0x301] :=
  .after (wr_writes rfl) (.after (wr_writes rfl) (wr_writes rfl))

theorem psrStandby_writes {i : Nat} (hi : i < 2) : s.writesOnly (s.psrStandby i) [0x300, 0x301, 0x304] :=
  .ite (.refl _) (.after (.after (.foldl_lt groupOf_lt (fun _ hx0 _ => .ite (.mono (setOutState_writes hx0) rfl) (.refl _)))
    (.mono stateTolerance_writes rfl)) (.after (wr_writes (writable_instance 2 hi (by decide))) updSrc_writes))

theorem modeChanged_writes {i : Nat} (hi : i < 2) :
    s.writesOnly (s.modeChanged i) [0x100, 0x103, 0x280, 0x300, 0x301, 0x304] := by
  unfold modeChanged
  dsimp only
  split
  · exact .refl _
  · exact .after (.after (.after (takeHeld_writes hi) (.after (.mono (srcDrained_writes hi) rfl) (.after (.mono
      dspReply_writes rfl) (irq_writes (by decide))))) (.ite (.mono (setSrcState_writes hi) rfl) (.refl _))) updSrc_writes

theorem copied_writes {i : Nat} (hi : i < 2) : s.writesOnly (s.copied i) [0x100, 0x103, 0x280, 0x300, 0x301, 0x304] := by
  unfold copied
  dsimp only
  split
  · exact .refl _
  · refine .after (.after (takeHeld_writes hi) (.after (.mono (srcDrained_writes hi) rfl) (wr_writes (writable_instance 2 hi
      (by decide))))) ?_
    split
    · exact .refl _
    · exact copyBuffer_writes

theorem fetch_writes {i fill corr : Nat} (hi : i < 2) : s.writesOnly (s.fetch i fill corr) [0x300, 0x301] :=
  .ite (wr_writes (writable_instance 2 hi (by decide))) (.after (.after (bumpBy_writes rfl) (.after tally_writes (.after
    tally_writes (.after tally_writes set_pwr_writes)))) (.after (wr_writes (writable_instance 2 hi (by decide)))
    updSrc_writes))

theorem lateLine_writes {i : Nat} {whole : Bool} : s.writesOnly (s.lateLine i whole) ps := by
  unfold lateLine
  dsimp only
  split
  · exact .refl _
  · exact .ite (.refl _) updSrc_writes

theorem showBack_writes {addr : Nat} : s.writesOnly (s.showBack addr) ps := by
  unfold showBack
  dsimp only
  exact .foldl (fun _ _ => by
    split
    · exact .refl _
    · exact updSrc_writes)

theorem underrun_writes {i : Nat} {whole : Bool} : s.writesOnly (s.underrun i whole) [0x304] := by
  unfold underrun
  dsimp only
  split
  · exact .refl _
  · exact .after (.foldl_lt (filter_lt groupOf_lt) (fun _ hx0 _ => .after (.ite (bump_writes (writable_instance 4 hx0
      (by decide))) (.refl _)) (.after (irq_writes (by decide)) (.after tally_writes (bump_writes (writable_instance 4 hx0
      (by decide))))))) (.after updSrc_writes lateLine_writes)

theorem auxCmd_writes {path o op data : Nat} (hpath : path < 8) (ho : o < 4) :
    s.writesOnly (s.auxCmd path o op data) [0x001, 0x021, 0x058, 0x060, 0x304] :=
  gateWrite_writes (fun _ => .ite (wr_writes (writable_instance 4 ho (by decide))) (.after emit_writes (.after (wr_writes
    (writable_instance 4 ho (by decide))) updOutput_writes))) hpath rfl

theorem auxDone_writes {o r : Nat} (ho : o < 4) : s.writesOnly (s.auxDone o r) [0x304] :=
  .after (irq_writes (by decide)) (.after (wr_writes (writable_instance 4 ho (by decide))) (.after (wr_writes
    (writable_instance 4 ho (by decide))) updOutput_writes))

theorem auxStore_writes {o : Nat} {bs : List Byte} (ho : o < 4) : s.writesOnly (s.auxStore o bs) [0x304] := by
  unfold auxStore
  extract_lets all
  clear_value all
  exact .foldl_lt range_lt fun _ hj _ => wr_writes (writable_within 4 4 ho hj (by decide))

theorem auxReply_writes {o code : Nat} {bs : List Byte} (ho : o < 4) : s.writesOnly (s.auxReply o code bs) [0x304] := by
  unfold auxReply
  split
  · exact .refl _
  · exact .ite (.after (auxDone_writes ho) (.ite (auxStore_writes ho) (.refl _))) (.ite (auxDone_writes ho) (.ite
      (auxDone_writes ho) (.after emit_writes updOutput_writes)))

theorem srcCfgWrite_writes {path i data : Nat} {act : State → State} (hact : ∀ s, State.writesOnly s (act s) ps)
    (hpath : path < 8) (hi : i < 2) (hps : [0x001, 0x021, 0x058, 0x060, 0x301, 0x304].all ps.contains = true) :
    s.writesOnly (s.srcCfgWrite path i data act) ps := by
  have hstore : ∀ t : State, t.writesOnly (t.store path (0x301040 + 0x1000 * i) data srcCfgFields i) [0x301] := fun _ =>
    store_writes (stored_instance 2 hi (by decide))
  exact gateWrite_writes (fun _ => .after (.within cloneWritten_writes hps rfl) (.after (hact _) (.within (hstore _) hps rfl)))
    hpath (pages_trans rfl hps)

theorem execModeSet_writes {u : UnitMsg} : s.writesOut [0x100, 0x103, 0x280, 0x300, 0x301, 0x304] (execModeSet u s) :=
  .nextIn (.after takeDisplay_writes begin_writes)

theorem execRectRaw_writes {u : UnitMsg} : s.writesOut [0x100, 0x103, 0x280, 0x300, 0x301, 0x304] (execRectRaw u s) :=
  .nextIn (.after takeDisplay_writes begin_writes)

theorem execRectTile_writes {u : UnitMsg} : s.writesOut [0x100, 0x103, 0x280, 0x300, 0x301, 0x304] (execRectTile u s) :=
  .nextIn (.after takeDisplay_writes begin_writes)

theorem execCursor_writes {u : UnitMsg} : s.writesOut [0x100, 0x103, 0x280, 0x300, 0x301, 0x304] (execCursor u s) :=
  .nextIn (.after takeDisplay_writes begin_writes)

theorem execFlip_writes {u : UnitMsg} : s.writesOut [0x100, 0x103, 0x280, 0x300, 0x301, 0x304] (execFlip u s) :=
  .nextIn (.after takeDisplay_writes begin_writes)

theorem execDisplayFence_writes {u : UnitMsg} :
    s.writesOut [0x100, 0x103, 0x280, 0x300, 0x301, 0x304] (execDisplayFence u s) :=
  .nextIn (.after takeDisplay_writes begin_writes)

theorem execFrameStart_writes {i : Nat} : s.writesOut [0x058, 0x100, 0x103, 0x280, 0x301, 0x304] (execFrameStart i s) := by
  refine .guardedIn fun hok => ?_
  have hi : i < 2 := of_decide_eq_true hok
  exact .after (frameStart_writes hi) begin_writes

theorem execPsrStandby_writes {i : Nat} : s.writesOut [0x300, 0x301, 0x304] (execPsrStandby i s) := by
  refine .guardedIn fun hok => ?_
  have hi : i < 2 := of_decide_eq_true hok
  exact .after (psrStandby_writes hi) begin_writes

theorem execModeChangeDone_writes {i : Nat} :
    s.writesOut [0x100, 0x103, 0x280, 0x300, 0x301, 0x304] (execModeChangeDone i s) := by
  refine .guardedIn fun hok => ?_
  have hi : i < 2 := of_decide_eq_true hok
  exact .after (modeChanged_writes hi) begin_writes

theorem execCopyDone_writes {i : Nat} : s.writesOut [0x100, 0x103, 0x280, 0x300, 0x301, 0x304] (execCopyDone i s) := by
  refine .guardedIn fun hok => ?_
  have hi : i < 2 := of_decide_eq_true hok
  exact .after (copied_writes hi) begin_writes

theorem execFetchStart_writes {i : Nat} {run : FetchRun} : s.writesOut [0x300, 0x301] (execFetchStart i run s) := by
  refine .guardedIn fun hok => ?_
  simp only [Bool.and_eq_true, decide_eq_true_eq] at hok
  have hi : i < 2 := by omega
  exact .after (fetch_writes hi) begin_writes

theorem execFetchDramUncorr_writes {addr : Nat} : s.writesOut [0x058, 0x300] (execFetchDramUncorr addr s) :=
  .nextIn (.after (.mono (event_writes (by decide)) rfl) (.after (bump_writes rfl) (.after showBack_writes begin_writes)))

theorem execLatencyToleranceUpdate_writes {f0 f1 : Nat} : s.writesOut [0x300, 0x301] (execLatencyToleranceUpdate f0 f1 s) :=
  .guardedIn (fun _ => .after stateTolerance_writes begin_writes)

theorem execUnderrun_writes {i : Nat} {whole : Bool} : s.writesOut [0x304] (execUnderrun i whole s) :=
  .guardedIn (fun _ => .after underrun_writes begin_writes)

theorem execHpdPlug_writes {o : Nat} {sink : DspSink} : s.writesOut [0x304] (execHpdPlug o sink s) := by
  refine .guardedIn fun hok => ?_
  have ho : o < 4 := of_decide_eq_true hok
  exact .after (.ite (.refl _) (hpdPlug_writes ho)) (.after setOwn_writes begin_writes)

theorem execHpdUnplug_writes {o : Nat} : s.writesOut [0x304] (execHpdUnplug o s) := by
  refine .guardedIn fun hok => ?_
  have ho : o < 4 := of_decide_eq_true hok
  exact .after (.ite (.refl _) (hpdUnplug_writes ho)) (.after setOwn_writes begin_writes)

theorem execIrqHpd_writes {o : Nat} {lost : Bool} : s.writesOut [0x304] (execIrqHpd o lost s) := by
  refine .guardedIn fun hok => ?_
  have ho : o < 4 := of_decide_eq_true hok
  exact .ite begin_writes (.after (hpdIrq_writes ho) begin_writes)

theorem execOutputTrainAttemptDone_writes {o : Nat} {ok : Bool} : s.writesOut [0x304] (execOutputTrainAttemptDone o ok s) := by
  refine .guardedIn fun hok => ?_
  have ho : o < 4 := of_decide_eq_true hok
  exact .after (trainDone_writes ho) begin_writes

theorem execAuxNativeRead_writes {path o data : Nat} :
    s.writesOut [0x001, 0x021, 0x058, 0x060, 0x304] (execAuxNativeRead path o data s) := by
  refine .guarded fun hok => ?_
  simp only [Bool.and_eq_true, decide_eq_true_eq] at hok
  have hpath : path < 8 := by omega
  have ho : o < 4 := by omega
  exact .after (auxCmd_writes hpath ho) begin_writes

theorem execAuxNativeWrite_writes {path o data : Nat} :
    s.writesOut [0x001, 0x021, 0x058, 0x060, 0x304] (execAuxNativeWrite path o data s) := by
  refine .guarded fun hok => ?_
  simp only [Bool.and_eq_true, decide_eq_true_eq] at hok
  have hpath : path < 8 := by omega
  have ho : o < 4 := by omega
  exact .after (auxCmd_writes hpath ho) begin_writes

theorem execAuxI2cRead_writes {path o data : Nat} :
    s.writesOut [0x001, 0x021, 0x058, 0x060, 0x304] (execAuxI2cRead path o data s) := by
  refine .guarded fun hok => ?_
  simp only [Bool.and_eq_true, decide_eq_true_eq] at hok
  have hpath : path < 8 := by omega
  have ho : o < 4 := by omega
  exact .after (auxCmd_writes hpath ho) begin_writes

theorem execAuxI2cWrite_writes {path o data : Nat} :
    s.writesOut [0x001, 0x021, 0x058, 0x060, 0x304] (execAuxI2cWrite path o data s) := by
  refine .guarded fun hok => ?_
  simp only [Bool.and_eq_true, decide_eq_true_eq] at hok
  have hpath : path < 8 := by omega
  have ho : o < 4 := by omega
  exact .after (auxCmd_writes hpath ho) begin_writes

theorem execAuxReply_writes {o code : Nat} {data : List Byte} : s.writesOut [0x304] (execAuxReply o code data s) := by
  refine .guardedIn fun hok => ?_
  simp only [Bool.and_eq_true, decide_eq_true_eq] at hok
  have ho : o < 4 := by omega
  exact .after (auxReply_writes ho) begin_writes

theorem execAuxTimeout_writes {o : Nat} : s.writesOut [0x304] (execAuxTimeout o s) := by
  refine .guardedIn fun hok => ?_
  have ho : o < 4 := of_decide_eq_true hok
  exact .after (.ite (auxDone_writes ho) (.ite (.after (outFail_writes ho) updOutput_writes) (.refl _))) begin_writes

theorem execSourceEnable_writes {path i data : Nat} :
    s.writesOut [0x001, 0x021, 0x058, 0x060, 0x301, 0x304] (execSourceEnable path i data s) := by
  refine .guarded fun hok => ?_
  simp only [Bool.and_eq_true, decide_eq_true_eq] at hok
  have hpath : path < 8 := by omega
  have hi : i < 2 := by omega
  exact .after (srcCfgWrite_writes (fun _ => .ite (.mono (srcEnable_writes hi) rfl) (.refl _)) hpath hi rfl) begin_writes

theorem execSourceDisable_writes {path i data : Nat} :
    s.writesOut [0x001, 0x021, 0x058, 0x060, 0x301, 0x304] (execSourceDisable path i data s) := by
  refine .guarded fun hok => ?_
  simp only [Bool.and_eq_true, decide_eq_true_eq] at hok
  have hpath : path < 8 := by omega
  have hi : i < 2 := by omega
  exact .after (srcCfgWrite_writes (fun _ => .mono (srcDisable_writes hi) rfl) hpath hi rfl) begin_writes

theorem execSourceDrainTimeout_writes {i : Nat} :
    s.writesOut [0x100, 0x103, 0x280, 0x301, 0x304] (execSourceDrainTimeout i s) := by
  refine .guardedIn fun hok => ?_
  have hi : i < 2 := of_decide_eq_true hok
  exact .after (srcAbort_writes hi) begin_writes

theorem execAltModeWrite_writes {path n data : Nat} :
    s.writesOut [0x001, 0x021, 0x058, 0x060, 0x082, 0x304] (execAltModeWrite path n data s) := by
  refine .guarded fun hok => ?_
  simp only [Bool.and_eq_true, decide_eq_true_eq] at hok
  have hpath : path < 8 := by omega
  have hn : n < 16 := by omega
  exact .after (gateWrite_writes (fun _ => .after (.after (.mono directMoved_writes rfl) (.ite (.after (wr_writes
    (writable_instance 16 hn (by decide))) (wr_writes (writable_instance 16 hn (by decide)))) (.refl _))) (store_writes
    (stored_instance 16 hn (by decide)))) hpath rfl) begin_writes

end Sys2Proof.Machine.State
end

section
/-! SUPPORT. The register frames of the key store. -/

namespace Sys2Proof.Machine.State

variable {s : State} {ps : List Nat}

theorem updKey_writes {f : KeyState → KeyState} : s.writesOnly (s.updKey f) ps := set_key_writes

theorem setSlot_writes {k : Nat} {x : Option KeySlot} : s.writesOnly (s.setSlot k x) ps := updKey_writes

theorem rederive_writes : s.writesOnly s.rederive ps := by
  unfold rederive
  split
  · exact updKey_writes
  · exact updKey_writes

theorem ownerWrite_writes {path addr data : Nat} {act : State → State} (hact : ∀ s, State.writesOnly s (act s) ps)
    (hpath : path < 8) (hps : [0x001, 0x021, 0x058, 0x060].all ps.contains = true) :
    s.writesOnly (s.ownerWrite path addr data act) ps :=
  gateWrite_writes (fun _ => .ite (hact _) (.within (deny_writes hpath) hps rfl)) hpath hps

theorem authResult_writes {r : Nat} : s.writesOnly (s.authResult r) [0x021] := wr_writes rfl

theorem authRead_writes : s.writesOnly s.authRead [0x021] :=
  .after authResult_writes (.after (wr_writes rfl) (.after (wr_writes rfl) (wr_writes rfl)))

theorem authWrite_writes {path : Nat} : s.writesOnly (s.authWrite path) [0x021, 0x400] := by
  have hresult : ∀ (t : State) (r : Nat), t.writesOnly (t.authResult r) [0x021, 0x400] := fun _ _ => .mono authResult_writes rfl
  unfold authWrite
  exact .ite (hresult _ _) (.ite (hresult _ _) (.ite (hresult _ _) (.after (hresult _ _) (.after
    (wr_writes (writable_header rfl rfl rfl (by decide) rfl)) (wr_writes (writable_header rfl rfl rfl (by decide) rfl))))))

theorem authLock_writes {path : Nat} : s.writesOnly (s.authLock path) [0x021, 0x400] := by
  have hresult : ∀ (t : State) (r : Nat), t.writesOnly (t.authResult r) [0x021, 0x400] := fun _ _ => .mono authResult_writes rfl
  unfold authLock
  exact .ite (hresult _ _) (.ite (hresult _ _) (.after (hresult _ _)
    (wr_writes (writable_header rfl rfl rfl (by decide) rfl))))

theorem keyResult_writes {r : Nat} : s.writesOnly (s.keyResult r) [0x020] := wr_writes rfl

theorem keyCmd_writes {path op k kind usage l : Nat} : s.writesOnly (s.keyCmd path op k kind usage l) [0x020] := by
  unfold keyCmd
  dsimp only
  split
  · exact keyResult_writes
  · split
    · exact keyResult_writes
    · exact .after (wr_writes rfl) updKey_writes

theorem provision_writes : s.writesOnly s.provision [0x020] :=
  .after (.after (.after keyResult_writes (.after rederive_writes updKey_writes)) (.after (wr_writes rfl) (wr_writes rfl)))
    set_free_writes

theorem keyLoad_writes {k : Nat} {b : List Byte} : s.writesOnly (s.keyLoad k b) [0x020] := by
  unfold keyLoad
  split
  · exact .after keyResult_writes setSlot_writes
  · exact .after keyResult_writes (.after (bump_writes rfl) setSlot_writes)

theorem fillSlot_writes {j : KeyJob} {key : List Byte} : s.writesOnly (s.fillSlot j key) [0x020] :=
  .after keyResult_writes (.after setSlot_writes set_free_writes)

theorem keyGenerate_writes {j : KeyJob} : s.writesOnly (s.keyGenerate j) [0x020] := .after fillSlot_writes set_free_writes

theorem keyDerive_writes {j : KeyJob} : s.writesOnly (s.keyDerive j) [0x020] := fillSlot_writes

theorem keyWrap_writes {k : Nat} : s.writesOnly (s.keyWrap k) [0x020] := by
  unfold keyWrap
  dsimp only
  split
  · exact keyResult_writes
  · exact .after (.after keyResult_writes (setBuf_writes 64 (by decide) (by decide))) set_free_writes

theorem keyUse_writes {k n : Nat} {f : List Byte → List Byte} : s.writesOnly (s.keyUse k n f) [0x020] := by
  unfold keyUse
  split
  · exact keyResult_writes
  · exact .after keyResult_writes (setBuf_writes 64 (by decide) (by decide))

theorem keyAttPub_writes : s.writesOnly s.keyAttPub [0x020] := by
  unfold keyAttPub
  split
  · exact keyResult_writes
  · exact .after keyResult_writes (setBuf_writes 64 (by decide) (by decide))

theorem keyAct_writes {j : KeyJob} : s.writesOnly (s.keyAct j) [0x020] := by
  unfold keyAct
  split
  · exact provision_writes
  · exact keyLoad_writes
  · exact .after keyResult_writes setSlot_writes
  · exact keyGenerate_writes
  · exact keyWrap_writes
  · exact keyDerive_writes
  · exact keyUse_writes
  · exact keyUse_writes
  · exact keyUse_writes
  · exact keyAttPub_writes

theorem keyDone_writes : s.writesOnly s.keyDone [0x020] := by
  unfold keyDone
  split
  · exact .refl _
  · exact .after (wr_writes rfl) (.after updKey_writes keyAct_writes)

theorem otpResult_writes {r : Nat} : s.writesOnly (s.otpResult r) [0x024] := wr_writes rfl

theorem otpCmd_writes {path op kind svn : Nat} : s.writesOnly (s.otpCmd path op kind svn) [0x024] := by
  unfold otpCmd
  split
  · exact otpResult_writes
  · split
    · exact otpResult_writes
    · exact .after (wr_writes rfl) updKey_writes

theorem otpAct_writes {j : KeyJob} : s.writesOnly (s.otpAct j) [0x024] := by
  unfold otpAct
  split
  · exact .after (wr_writes rfl) updKey_writes
  · exact .after (wr_writes rfl) updKey_writes
  · exact .after (wr_writes rfl) updKey_writes
  · exact updKey_writes

theorem otpDone_writes : s.writesOnly s.otpDone [0x024] := by
  unfold otpDone
  split
  · exact .refl _
  · exact .after otpResult_writes (.after (wr_writes rfl) (.after updKey_writes otpAct_writes))

theorem debugShut_writes : s.writesOnly s.debugShut [0x020, 0x022] :=
  .after (wr_writes rfl) (.after (wr_writes rfl) (.after (wr_writes rfl) (wr_writes rfl)))

theorem nonceGone_writes : s.writesOnly s.nonceGone [0x022] := .after (wr_writes rfl) updKey_writes

theorem attest_writes : s.writesOnly s.attest [0x024] := by
  unfold attest
  split
  · exact wr_writes rfl
  · split
    · exact wr_writes rfl
    · exact .ite (wr_writes rfl) (.after (wr_writes rfl) updKey_writes)

theorem dbgResult_writes {r : Nat} : s.writesOnly (s.dbgResult r) [0x022] := wr_writes rfl

theorem challenge_writes {scope : Nat} : s.writesOnly (s.challenge scope) [0x022] :=
  .ite dbgResult_writes (.ite dbgResult_writes (.ite dbgResult_writes (.after (.after dbgResult_writes (.after (wr_writes
    rfl) (.after (setBuf_writes 8 (by decide) (by decide)) updKey_writes))) set_free_writes)))

theorem respondFails_writes {r : Nat} : s.writesOnly (s.respondFails r) [0x022] :=
  .after (.after dbgResult_writes (.after (wr_writes rfl) (bump_writes rfl))) updKey_writes

theorem debugOpens_writes {scope : Nat} : s.writesOnly (s.debugOpens scope) [0x020, 0x022, 0x058] :=
  .after (.after (.after (.mono dbgResult_writes rfl) (.after set_free_writes (.after (.mono journalAt_writes rfl)
    rederive_writes))) (.after (wr_writes rfl) (.after (wr_writes rfl) (.after (wr_writes rfl) (wr_writes rfl)))))
    updKey_writes

theorem respond_writes : s.writesOnly s.respond [0x020, 0x022, 0x058] := by
  unfold respond
  dsimp only
  split
  · exact .mono respondFails_writes rfl
  · exact .after (.ite (.mono respondFails_writes rfl) (.ite (.mono respondFails_writes rfl) (.ite (.mono respondFails_writes
      rfl) debugOpens_writes))) (.mono nonceGone_writes rfl)

theorem debugCloses_writes : s.writesOnly s.debugCloses [0x020, 0x022] :=
  .after rederive_writes (.after updKey_writes debugShut_writes)

theorem dbgClose_writes : s.writesOnly s.dbgClose [0x020, 0x022] :=
  .ite (.after tookFree_writes (.mono dbgResult_writes rfl)) (.ite (.after (.mono dbgResult_writes rfl) debugCloses_writes)
    (.mono dbgResult_writes rfl))

theorem keyWrite_writes {path op k kind usage l : Nat} (hpath : path < 8) :
    s.writesOnly (s.keyWrite path op k kind usage l) [0x001, 0x020, 0x021, 0x058, 0x060] :=
  gateWrite_writes (fun _ => .mono keyCmd_writes rfl) hpath rfl

theorem otpWrite_writes {path op kind svn : Nat} (hpath : path < 8) :
    s.writesOnly (s.otpWrite path op kind svn) [0x001, 0x021, 0x024, 0x058, 0x060] :=
  gateWrite_writes (fun _ => .mono otpCmd_writes rfl) hpath rfl

theorem execKeyAuthRead_writes {path : Nat} : s.writesOut [0x001, 0x021, 0x058, 0x060] (execKeyAuthRead path s) := by
  refine .guarded fun hok => ?_
  have hpath : path < 8 := of_decide_eq_true hok
  exact .after (gateWrite_writes (fun _ => .mono authRead_writes rfl) hpath rfl) begin_writes

theorem execKeyAuthWrite_writes {path : Nat} : s.writesOut [0x001, 0x021, 0x058, 0x060, 0x400] (execKeyAuthWrite path s) := by
  refine .guarded fun hok => ?_
  have hpath : path < 8 := of_decide_eq_true hok
  exact .after (gateWrite_writes (fun _ => .mono authWrite_writes rfl) hpath rfl) begin_writes

theorem execKeyAuthLock_writes {path : Nat} : s.writesOut [0x001, 0x021, 0x058, 0x060, 0x400] (execKeyAuthLock path s) := by
  refine .guarded fun hok => ?_
  have hpath : path < 8 := of_decide_eq_true hok
  exact .after (gateWrite_writes (fun _ => .mono authLock_writes rfl) hpath rfl) begin_writes

theorem execProvision_writes {path : Nat} : s.writesOut [0x001, 0x020, 0x021, 0x058, 0x060] (execProvision path s) := by
  refine .guarded fun hok => ?_
  have hpath : path < 8 := of_decide_eq_true hok
  exact .after (keyWrite_writes hpath) begin_writes

theorem execKeyLoad_writes {path k : Nat} : s.writesOut [0x001, 0x020, 0x021, 0x058, 0x060] (execKeyLoad path k s) := by
  refine .guarded fun hok => ?_
  simp only [Bool.and_eq_true, decide_eq_true_eq] at hok
  have hpath : path < 8 := by omega
  exact .after (keyWrite_writes hpath) begin_writes

theorem execKeyClear_writes {path k : Nat} : s.writesOut [0x001, 0x020, 0x021, 0x058, 0x060] (execKeyClear path k s) := by
  refine .guarded fun hok => ?_
  simp only [Bool.and_eq_true, decide_eq_true_eq] at hok
  have hpath : path < 8 := by omega
  exact .after (keyWrite_writes hpath) begin_writes

theorem execKeyGenerate_writes {path k kind usage : Nat} :
    s.writesOut [0x001, 0x020, 0x021, 0x058, 0x060] (execKeyGenerate path k kind usage s) := by
  refine .guarded fun hok => ?_
  simp only [Bool.and_eq_true, decide_eq_true_eq] at hok
  have hpath : path < 8 := by omega
  exact .after (keyWrite_writes hpath) begin_writes

theorem execKeyWrap_writes {who : KeyUser} {k : Nat} :
    s.writesOut [0x001, 0x020, 0x021, 0x058, 0x060] (execKeyWrap who k s) := by
  refine .guarded fun hok => ?_
  simp only [Bool.and_eq_true, decide_eq_true_eq] at hok
  exact .after (keyWrite_writes (by omega)) begin_writes

theorem execKeyDerive_writes {path k kind usage : Nat} :
    s.writesOut [0x001, 0x020, 0x021, 0x058, 0x060] (execKeyDerive path k kind usage s) := by
  refine .guarded fun hok => ?_
  simp only [Bool.and_eq_true, decide_eq_true_eq] at hok
  have hpath : path < 8 := by omega
  exact .after (keyWrite_writes hpath) begin_writes

theorem execKeySign_writes {who : KeyUser} {k : Nat} :
    s.writesOut [0x001, 0x020, 0x021, 0x058, 0x060] (execKeySign who k s) := by
  refine .guarded fun hok => ?_
  simp only [Bool.and_eq_true, decide_eq_true_eq] at hok
  exact .after (keyWrite_writes (by omega)) begin_writes

theorem execKeyMac_writes {who : KeyUser} {k : Nat} : s.writesOut [0x001, 0x020, 0x021, 0x058, 0x060] (execKeyMac who k s) := by
  refine .guarded fun hok => ?_
  simp only [Bool.and_eq_true, decide_eq_true_eq] at hok
  exact .after (keyWrite_writes (by omega)) begin_writes

theorem execKeyReadPub_writes {who : KeyUser} {k : Nat} :
    s.writesOut [0x001, 0x020, 0x021, 0x058, 0x060] (execKeyReadPub who k s) := by
  refine .guarded fun hok => ?_
  simp only [Bool.and_eq_true, decide_eq_true_eq] at hok
  exact .after (keyWrite_writes (by omega)) begin_writes

theorem execKeyReadAttPub_writes {path : Nat} : s.writesOut [0x001, 0x020, 0x021, 0x058, 0x060] (execKeyReadAttPub path s) := by
  refine .guarded fun hok => ?_
  have hpath : path < 8 := of_decide_eq_true hok
  exact .after (keyWrite_writes hpath) begin_writes

theorem execKeyCmdComplete_writes : s.writesOut [0x020] (execKeyCmdComplete s) := .nextIn (.after keyDone_writes begin_writes)

theorem execOtpProgCodeHash_writes {path : Nat} :
    s.writesOut [0x001, 0x021, 0x024, 0x058, 0x060] (execOtpProgCodeHash path s) := by
  refine .guarded fun hok => ?_
  have hpath : path < 8 := of_decide_eq_true hok
  exact .after (otpWrite_writes hpath) begin_writes

theorem execOtpProgDebugHash_writes {path : Nat} :
    s.writesOut [0x001, 0x021, 0x024, 0x058, 0x060] (execOtpProgDebugHash path s) := by
  refine .guarded fun hok => ?_
  have hpath : path < 8 := of_decide_eq_true hok
  exact .after (otpWrite_writes hpath) begin_writes

theorem execOtpSetDbgNever_writes {path : Nat} :
    s.writesOut [0x001, 0x021, 0x024, 0x058, 0x060] (execOtpSetDbgNever path s) := by
  refine .guarded fun hok => ?_
  have hpath : path < 8 := of_decide_eq_true hok
  exact .after (otpWrite_writes hpath) begin_writes

theorem execOtpRaiseSvn_writes {path kind svn : Nat} :
    s.writesOut [0x001, 0x021, 0x024, 0x058, 0x060] (execOtpRaiseSvn path kind svn s) := by
  refine .guarded fun hok => ?_
  simp only [Bool.and_eq_true, decide_eq_true_eq] at hok
  have hpath : path < 8 := by omega
  exact .after (otpWrite_writes hpath) begin_writes

theorem execOtpCommandDone_writes : s.writesOut [0x024] (execOtpCommandDone s) := .nextIn (.after otpDone_writes begin_writes)

theorem execTamperLock_writes {path data : Nat} :
    s.writesOut [0x001, 0x021, 0x023, 0x058, 0x060] (execTamperLock path data s) := by
  refine .guarded fun hok => ?_
  have hpath : path < 8 := of_decide_eq_true hok
  exact .after (ownerWrite_writes (fun _ => store_writes (by decide)) hpath rfl) begin_writes

theorem execAttest_writes {path : Nat} : s.writesOut [0x001, 0x021, 0x024, 0x058, 0x060] (execAttest path s) := by
  refine .guarded fun hok => ?_
  have hpath : path < 8 := of_decide_eq_true hok
  exact .after (gateWrite_writes (fun _ => .mono attest_writes rfl) hpath rfl) begin_writes

theorem execDebugChallenge_writes {path scope : Nat} :
    s.writesOut [0x001, 0x021, 0x022, 0x058, 0x060] (execDebugChallenge path scope s) := by
  refine .guarded fun hok => ?_
  simp only [Bool.and_eq_true, decide_eq_true_eq] at hok
  have hpath : path < 8 := by omega
  exact .after (gateWrite_writes (fun _ => .mono challenge_writes rfl) hpath rfl) begin_writes

theorem execDebugRespond_writes {path : Nat} :
    s.writesOut [0x001, 0x020, 0x021, 0x022, 0x058, 0x060] (execDebugRespond path s) := by
  refine .guarded fun hok => ?_
  have hpath : path < 8 := of_decide_eq_true hok
  exact .after (gateWrite_writes (fun _ => .mono respond_writes rfl) hpath rfl) begin_writes

theorem execDebugClose_writes {path : Nat} : s.writesOut [0x001, 0x020, 0x021, 0x022, 0x058, 0x060] (execDebugClose path s) := by
  refine .guarded fun hok => ?_
  have hpath : path < 8 := of_decide_eq_true hok
  exact .after (gateWrite_writes (fun _ => .mono dbgClose_writes rfl) hpath rfl) begin_writes

theorem execDebugNonceExpiry_writes : s.writesOut [0x022] (execDebugNonceExpiry s) :=
  .nextIn (.after (wr_writes rfl) begin_writes)

end Sys2Proof.Machine.State
end

section
/-! SUPPORT. The register frames of the feeds and fuses. -/

namespace Sys2Proof.Machine.State

variable {s : State} {ps : List Nat}

theorem fusJournal_writes {page b arg : Nat} : s.writesOnly (s.fusJournal page b arg) [0x058] :=
  .ite journalAt_writes updFus_writes

theorem fusEvent_writes {page b arg : Nat} (hb : b < 32) : s.writesOnly (s.fusEvent page b arg) [0x058] :=
  .after fusJournal_writes (irq_writes hb)

theorem pgGone_writes {c : Nat} (hc : c < 18) : s.writesOnly (s.pgGone c) [0x061] :=
  .after (.ite (irq_writes (by decide)) (.refl _)) (wr_writes (writable_instance 18 hc (by decide)))

theorem noteTick_writes {c : Nat} : s.writesOnly (s.noteTick c) ps := setChan_writes

theorem chGo_writes {c st : Nat} (hc : c < 18) : s.writesOnly (s.chGo c st) [0x061] :=
  .after (.ite (.refl _) (.after (pgGone_writes hc) (.after (wr_writes (writable_instance 18 hc (by decide)))
    setChan_writes))) (.after (wr_writes (writable_instance 18 hc (by decide))) noteTick_writes)

theorem chTrip_writes {c cause : Nat} (hc : c < 18) : s.writesOnly (s.chTrip c cause) [0x058, 0x061] :=
  .after (.after (.mono (fusEvent_writes (by decide)) rfl) setChan_writes) (.after (bump_writes (writable_instance 18 hc
    (by decide))) (.after (wr_writes (writable_instance 18 hc (by decide))) (.mono (chGo_writes hc) rfl)))

theorem latchFrom_writes {c : Nat} {ok : Nat → Bool} {cause : Nat → Nat} (hc : c < 18) :
    s.writesOnly (s.latchFrom c ok cause) [0x058, 0x061] :=
  .ite (chTrip_writes hc) (.ite (chTrip_writes hc) (.ite (wr_writes (writable_instance 18 hc (by decide))) (.refl _)))

theorem chWaits_writes {c cause : Nat} (hc : c < 18) : s.writesOnly (s.chWaits c cause) [0x061] :=
  .after (wr_writes (writable_instance 18 hc (by decide))) (chGo_writes hc)

theorem chEnable_writes {c en : Nat} (hc : c < 18) : s.writesOnly (s.chEnable c en) [0x061] :=
  .after (.ite (.ite (chGo_writes hc) (.refl _)) (.ite (.refl _) (.after (wr_writes (writable_instance 18 hc (by decide)))
    (chGo_writes hc)))) (.after (wr_writes (writable_instance 18 hc (by decide))) (wr_writes (writable_instance 18 hc
    (by decide))))

theorem chSetDir_writes {c d : Nat} (hc : c < 18) : s.writesOnly (s.chSetDir c d) [0x061] :=
  .after (wr_writes (writable_instance 18 hc (by decide))) (wr_writes (writable_instance 18 hc (by decide)))

theorem fusCfg_writes {path c data : Nat} (hc : c < 18) : s.writesOnly (s.fusCfg path c data) [0x061] := by
  have hfields : ∀ f ∈ [R.FUS_CFG_AUTO_RETRY, R.FUS_CFG_RETRY_MAX, R.FUS_CFG_SLOPE] ++ (if c < 16 then [R.FUS_CFG_FRS_ARM] else []),
      writable [0x061] (f.key c 0) = true := by
    refine stored_instance 18 hc ?_
    split <;> decide
  have hresult : ∀ t : State, t.writesOnly (t.wr R.FUS_STAT_LAST_RESULT 1 c) [0x061] := fun _ =>
    wr_writes (writable_instance 18 hc (by decide))
  unfold fusCfg
  exact .ite (hresult _) (.after (chEnable_writes hc) (.after (.ite (.refl _) (.ite (chSetDir_writes hc) (hresult _)))
    (store_writes hfields)))

theorem fusCfgWrite_writes {path c data : Nat} (hpath : path < 8) (hc : c < 18) :
    s.writesOnly (s.fusCfgWrite path c data) [0x001, 0x021, 0x058, 0x060, 0x061] :=
  gateWrite_writes (fun _ => .mono (fusCfg_writes hc) rfl) hpath rfl

theorem chStart_writes {c : Nat} (hc : c < 18) : s.writesOnly (s.chStart c) [0x061] := .ite (chGo_writes hc) (.refl _)

theorem chRamped_writes {c : Nat} (hc : c < 18) : s.writesOnly (s.chRamped c) [0x061] :=
  .ite (.after setChan_writes (chGo_writes hc)) (.refl _)

theorem recovered_writes {n : Nat} (hn : n < 16) : s.writesOnly (s.recovered n) [0x074] :=
  .ite (.refl _) (.after (irq_writes (by omega)) (.after (wr_writes (writable_within 4 4 (by omega) (by omega) (by decide)))
    setPhy_writes))

theorem chEnhanced_writes {c : Nat} (hc : c < 18) : s.writesOnly (s.chEnhanced c) [0x061, 0x074] :=
  .ite (.refl _) (.after (.after (.iteH (fun hc1 => .mono (recovered_writes (by omega)) rfl) (fun _ => .refl _)) (.after
    setChan_writes (.mono (chGo_writes hc) rfl))) (.ite (bump_writes (writable_instance 18 hc (by decide))) (.refl _)))

theorem chReverse_writes {c : Nat} (hc : c < 18) : s.writesOnly (s.chReverse c) [0x061] :=
  .ite (.after (irq_writes (by decide)) (.after (bump_writes (writable_instance 18 hc (by decide))) (chGo_writes hc))) (.ite
    (.after (irq_writes (by decide)) (.after (bump_writes (writable_instance 18 hc (by decide))) (.after (chGo_writes hc)
    (.after (wr_writes (writable_instance 18 hc (by decide))) (wr_writes (writable_instance 18 hc (by decide))))))) (.refl _))

theorem chForward_writes {c : Nat} (hc : c < 18) : s.writesOnly (s.chForward c) [0x061] :=
  .ite (.after setChan_writes (chGo_writes hc)) (.refl _)

theorem chInstant_writes {c : Nat} (hc : c < 18) : s.writesOnly (s.chInstant c) [0x058, 0x061] :=
  .ite (.refl _) (.ite (wr_writes (writable_instance 18 hc (by decide))) (latchFrom_writes hc))

theorem chShort_writes {c : Nat} (hc : c < 18) : s.writesOnly (s.chShort c) [0x058, 0x061] :=
  .ite (.refl _) (.after (.mono (fusEvent_writes (by decide)) rfl) (chTrip_writes hc))

theorem chInput_writes {c : Nat} (hc : c < 18) : s.writesOnly (s.chInput c) [0x061] := .ite (chWaits_writes hc) (.refl _)

theorem setHeat_writes {c h : Nat} (hc : c < 18) : s.writesOnly (s.setHeat c h) [0x061] :=
  .after (wr_writes (writable_instance 18 hc (by decide))) setChan_writes

theorem breakerTick_writes {c : Nat} (hc : c < 18) : s.writesOnly (s.breakerTick c) [0x058, 0x061] :=
  .after (.after (.ite (latchFrom_writes hc) (.refl _)) (.ite setChan_writes (.refl _))) (.after tookFree_writes (.mono
    (setHeat_writes hc) rfl))

theorem chRetry_writes {c : Nat} (hc : c < 18) : s.writesOnly (s.chRetry c) [0x061] :=
  .ite (.after (chGo_writes hc) (.after (irq_writes (by decide)) (wr_writes (writable_instance 18 hc (by decide))))) (.refl _)

theorem pgTick_writes {c vin vout vgs : Nat} (hc : c < 18) : s.writesOnly (s.pgTick c vin vout vgs) [0x058, 0x061] :=
  .ite (.ite (latchFrom_writes hc) (.refl _)) (.after (.ite (chTrip_writes hc) (.ite (.after (.mono (pgGone_writes hc) rfl)
    setChan_writes) (.after (.ite (.after (irq_writes (by decide)) (wr_writes (writable_instance 18 hc (by decide)))) (.refl
    _)) setChan_writes))) (.after (wr_writes (writable_instance 18 hc (by decide))) setChan_writes))

theorem showPbus_writes {c vin vout : Nat} : s.writesOnly (s.showPbus c vin vout) [0x060] := wr_writes rfl

theorem ftimerExpires_writes {c : Nat} (hc : c < 18) : s.writesOnly (s.ftimerExpires c) [0x058, 0x061] := by
  unfold ftimerExpires
  dsimp only
  exact .ite (latchFrom_writes hc) (.refl _)

theorem chSample_writes {c : Nat} {rawI : Int} {rawV rawVgs : Nat} (hc : c < 18) :
    s.writesOnly (s.chSample c rawI rawV rawVgs) [0x061] :=
  .after (.after (.after (.after (.after (.after (.after (.after (keepMax_writes (writable_instance 18 hc (by decide))) (.ite
    (wr_writes (writable_instance 18 hc (by decide))) (.refl _))) (.after (wr_writes (writable_instance 18 hc (by decide)))
    (wr_writes (writable_instance 18 hc (by decide))))) (.after tookFree_writes (wr_writes (writable_instance 18 hc
    (by decide))))) (.after (wr_writes (writable_instance 18 hc (by decide))) (.after (wr_writes (writable_instance 18 hc
    (by decide))) (.after (wr_writes (writable_instance 18 hc (by decide))) (wr_writes (writable_instance 18 hc
    (by decide))))))) (.after tookFree_writes setChan_writes)) tookFree_writes) tookFree_writes) tookFree_writes

theorem fusResult_writes {c r : Nat} (hc : c < 18) : s.writesOnly (s.fusResult c r) [0x061] :=
  wr_writes (writable_instance 18 hc (by decide))

theorem fusClear_writes {c : Nat} (hc : c < 18) : s.writesOnly (s.fusClear c) [0x061] :=
  .ite (fusResult_writes hc) (.after (.ite (chGo_writes hc) (.refl _)) (.after (fusResult_writes hc) (wr_writes
    (writable_instance 18 hc (by decide)))))

theorem applyCurve_writes {c : Nat} (hc : c < 18) : s.writesOnly (s.applyCurve c) [0x061] :=
  .ite (.after (fusResult_writes hc) setChan_writes) (fusResult_writes hc)

theorem peakClear_writes {c : Nat} (hc : c < 18) : s.writesOnly (s.peakClear c) [0x061] :=
  .after (wr_writes (writable_instance 18 hc (by decide))) (wr_writes (writable_instance 18 hc (by decide)))

theorem energyClear_writes {c : Nat} (hc : c < 18) : s.writesOnly (s.energyClear c) [0x061] :=
  .after (wr_writes (writable_instance 18 hc (by decide))) setChan_writes

theorem fusCmd_writes {path c op : Nat} {act : State → State} (hact : ∀ s, State.writesOnly s (act s) ps) (hpath : path < 8)
    (hps : [0x001, 0x021, 0x058, 0x060].all ps.contains = true) : s.writesOnly (s.fusCmd path c op act) ps :=
  gateWrite_writes hact hpath hps

theorem preloadProgram_writes {path : Nat} : s.writesOnly (s.preloadProgram path) [0x060] :=
  .ite (wr_writes rfl) (.ite (wr_writes rfl) (.ite (wr_writes rfl) (.after (wr_writes rfl) (.after tookFree_writes
    updFus_writes))))

theorem pdUp_writes : s.writesOnly s.pdUp [0x058, 0x060] :=
  .after (.foldl (fun _ _ => .mono journalAt_writes rfl)) (.after (irq_writes (by decide)) (.after updFus_writes (wr_writes
    rfl)))

theorem pdLost_writes : s.writesOnly s.pdLost [0x060] := .ite (.after (irq_writes (by decide)) (wr_writes rfl)) (.refl _)

theorem vinPd_writes {mv : Nat} : s.writesOnly (s.vinPd mv) [0x060] := .after updFus_writes (wr_writes rfl)

theorem progCut_writes : s.writesOnly s.progCut [0x060] := by
  unfold progCut
  dsimp only
  split
  · exact .refl _
  · exact .after (.after (wr_writes rfl) tookFree_writes) updFus_writes

theorem vinLow_writes {mv : Nat} : s.writesOnly (s.vinLow mv) [0x060] :=
  .after (.ite (.after pdLost_writes (.after updFus_writes progCut_writes)) (.refl _)) vinPd_writes

theorem pdTemp_writes {t : Int} : s.writesOnly (s.pdTemp t) [0x058, 0x060, 0x061] :=
  .after (.ite (.after (.foldl_lt range_lt (fun _ hx0 _ => .ite (.refl _) (.mono (chTrip_writes (by omega)) rfl))) (.ite
    (.refl _) (.after (irq_writes (by decide)) (wr_writes rfl)))) (.ite (wr_writes rfl) (.refl _))) (.after (wr_writes rfl)
    updFus_writes)

theorem copyCorrected_writes : s.writesOnly s.copyCorrected ps := updFus_writes

theorem chEvent_writes {c : Nat} {act : State → Nat → State} (hact : ∀ s ch, ch < 18 → State.writesOnly s (act s ch) ps) :
    s.writesOut ps (chEvent s c act) :=
  .guarded fun hok => .ite (.after (hact _ _ (of_decide_eq_true hok)) begin_writes) begin_writes

theorem execChannelEnable_writes {path c data : Nat} :
    s.writesOut [0x001, 0x021, 0x058, 0x060, 0x061] (execChannelEnable path c data s) := by
  refine .guarded fun hok => ?_
  simp only [Bool.and_eq_true, decide_eq_true_eq] at hok
  have hpath : path < 8 := by omega
  have hc : c < 18 := by omega
  exact .after (fusCfgWrite_writes hpath hc) begin_writes

theorem execChannelDisable_writes {path c data : Nat} :
    s.writesOut [0x001, 0x021, 0x058, 0x060, 0x061] (execChannelDisable path c data s) := by
  refine .guarded fun hok => ?_
  simp only [Bool.and_eq_true, decide_eq_true_eq] at hok
  have hpath : path < 8 := by omega
  have hc : c < 18 := by omega
  exact .after (fusCfgWrite_writes hpath hc) begin_writes

theorem execChannelDirWrite_writes {path c data : Nat} :
    s.writesOut [0x001, 0x021, 0x058, 0x060, 0x061] (execChannelDirWrite path c data s) := by
  refine .guarded fun hok => ?_
  simp only [Bool.and_eq_true, decide_eq_true_eq] at hok
  have hpath : path < 8 := by omega
  have hc : c < 18 := by omega
  exact .after (fusCfgWrite_writes hpath hc) begin_writes

theorem execStartConditionsMet_writes {c : Nat} : s.writesOut [0x061] (execStartConditionsMet c s) :=
  chEvent_writes (fun _ _ hb => chStart_writes hb)

theorem execRampComplete_writes {c : Nat} : s.writesOut [0x061] (execRampComplete c s) :=
  chEvent_writes (fun _ _ hb => chRamped_writes hb)

theorem execStartTimeout_writes {c : Nat} : s.writesOut [0x058, 0x061] (execStartTimeout c s) :=
  chEvent_writes (fun _ _ hb => latchFrom_writes hb)

theorem execEnhanceDone_writes {c : Nat} : s.writesOut [0x061, 0x074] (execEnhanceDone c s) :=
  chEvent_writes (fun _ _ hb => chEnhanced_writes hb)

theorem execPassDeviceTimeout_writes {c : Nat} : s.writesOut [0x058, 0x061] (execPassDeviceTimeout c s) :=
  chEvent_writes (fun _ _ hb => latchFrom_writes hb)

theorem execInstantTrip_writes {c : Nat} : s.writesOut [0x058, 0x061] (execInstantTrip c s) :=
  chEvent_writes (fun _ _ hb => chInstant_writes hb)

theorem execBreakerTick_writes {c : Nat} : s.writesOut [0x058, 0x061] (execBreakerTick c s) :=
  chEvent_writes (fun _ _ hb => breakerTick_writes hb)

theorem execAutoRetry_writes {c : Nat} : s.writesOut [0x061] (execAutoRetry c s) :=
  chEvent_writes (fun _ _ hb => chRetry_writes hb)

theorem execReverseCurrent_writes {c : Nat} : s.writesOut [0x061] (execReverseCurrent c s) :=
  chEvent_writes (fun _ _ hb => chReverse_writes hb)

theorem execForwardRecovery_writes {c : Nat} : s.writesOut [0x061] (execForwardRecovery c s) :=
  chEvent_writes (fun _ _ hb => chForward_writes hb)

theorem execFaultTimerExpiry_writes {c : Nat} : s.writesOut [0x058, 0x061] (execFaultTimerExpiry c s) :=
  chEvent_writes (fun _ _ hb => ftimerExpires_writes hb)

theorem execPowerGoodUpdate_writes {c vin vout vgs : Nat} :
    s.writesOut [0x058, 0x060, 0x061] (execPowerGoodUpdate c vin vout vgs s) :=
  chEvent_writes (fun _ _ hb => .after (.mono (pgTick_writes hb) rfl) (.mono showPbus_writes rfl))

theorem execFetShort_writes {c : Nat} : s.writesOut [0x058, 0x061] (execFetShort c s) :=
  chEvent_writes (fun _ _ hb => chShort_writes hb)

theorem execPdOverTemp_writes {t : Int} : s.writesOut [0x058, 0x060, 0x061] (execPdOverTemp t s) :=
  .next (.ite (.after pdTemp_writes begin_writes) begin_writes)

theorem execInputOutOfRange_writes {c : Nat} : s.writesOut [0x061] (execInputOutOfRange c s) :=
  chEvent_writes (fun _ _ hb => chInput_writes hb)

theorem execChannelSample_writes {c : Nat} {rawI : Int} {rawV vgs : Nat} :
    s.writesOut [0x061] (execChannelSample c rawI rawV vgs s) :=
  chEvent_writes (fun _ _ hb => chSample_writes hb)

theorem execFusClear_writes {path c : Nat} : s.writesOut [0x001, 0x021, 0x058, 0x060, 0x061] (execFusClear path c s) := by
  refine .guarded fun hok => ?_
  simp only [Bool.and_eq_true, decide_eq_true_eq] at hok
  have hpath : path < 8 := by omega
  have hc : c < 18 := by omega
  exact .after (fusCmd_writes (fun _ => .mono (fusClear_writes hc) rfl) hpath rfl) begin_writes

theorem execApplyCurve_writes {path c : Nat} : s.writesOut [0x001, 0x021, 0x058, 0x060, 0x061] (execApplyCurve path c s) := by
  refine .guarded fun hok => ?_
  simp only [Bool.and_eq_true, decide_eq_true_eq] at hok
  have hpath : path < 8 := by omega
  have hc : c < 18 := by omega
  exact .after (fusCmd_writes (fun _ => .mono (applyCurve_writes hc) rfl) hpath rfl) begin_writes

theorem execSetHeat_writes {path c : Nat} : s.writesOut [0x001, 0x021, 0x058, 0x060, 0x061] (execSetHeat path c s) := by
  refine .guarded fun hok => ?_
  simp only [Bool.and_eq_true, decide_eq_true_eq] at hok
  have hpath : path < 8 := by omega
  have hc : c < 18 := by omega
  exact .after (fusCmd_writes (fun _ => .after (.mono (fusResult_writes hc) rfl) (.mono (setHeat_writes hc) rfl)) hpath rfl)
    begin_writes

theorem execPeakClr_writes {path c : Nat} : s.writesOut [0x001, 0x021, 0x058, 0x060, 0x061] (execPeakClr path c s) := by
  refine .guarded fun hok => ?_
  simp only [Bool.and_eq_true, decide_eq_true_eq] at hok
  have hpath : path < 8 := by omega
  have hc : c < 18 := by omega
  exact .after (fusCmd_writes (fun _ => .after (.mono (fusResult_writes hc) rfl) (.mono (peakClear_writes hc) rfl)) hpath
    rfl) begin_writes

theorem execEnergyClr_writes {path c : Nat} : s.writesOut [0x001, 0x021, 0x058, 0x060, 0x061] (execEnergyClr path c s) := by
  refine .guarded fun hok => ?_
  simp only [Bool.and_eq_true, decide_eq_true_eq] at hok
  have hpath : path < 8 := by omega
  have hc : c < 18 := by omega
  exact .after (fusCmd_writes (fun _ => .after (.mono (fusResult_writes hc) rfl) (.mono (energyClear_writes hc) rfl)) hpath
    rfl) begin_writes

theorem execPreloadProgram_writes {path : Nat} : s.writesOut [0x001, 0x021, 0x058, 0x060] (execPreloadProgram path s) := by
  refine .guarded fun hok => ?_
  have hpath : path < 8 := of_decide_eq_true hok
  exact .after (gateWrite_writes (fun _ => .mono preloadProgram_writes rfl) hpath rfl) begin_writes

theorem execPdLinkUp_writes : s.writesOut [0x058, 0x060] (execPdLinkUp s) :=
  .next (.ite (.after pdUp_writes begin_writes) begin_writes)

theorem execPdLinkLost_writes : s.writesOut [0x060] (execPdLinkLost s) := .next (.after pdLost_writes begin_writes)

theorem execPdTimeCorrection_writes : s.writesOut ps (execPdTimeCorrection s) :=
  .next (.ite (.after copyCorrected_writes begin_writes) begin_writes)

theorem execVinPdLow_writes {mv : Nat} : s.writesOut [0x060] (execVinPdLow mv s) :=
  .next (.ite (.after vinLow_writes begin_writes) begin_writes)

end Sys2Proof.Machine.State
end

section
/-! SUPPORT. The register frames of the cable power dialogue. -/

namespace Sys2Proof.Machine.State

variable {s : State} {ps : List Nat}

theorem cpdIrq_writes {n k : Nat} (hk : k < 8) : s.writesOnly (s.cpdIrq n k) ps := irq_writes (by omega)

theorem cpdEvent_writes {n k : Nat} (hk : k < 8) : s.writesOnly (s.cpdEvent n k) [0x058] := fusEvent_writes (by omega)

/-- The data words of the message shown, with their numbers. -/
def rxDataFields : List (Field × Nat) :=
  [R.CPD_RX_DATA0, R.CPD_RX_DATA1, R.CPD_RX_DATA2, R.CPD_RX_DATA3, R.CPD_RX_DATA4, R.CPD_RX_DATA5, R.CPD_RX_DATA6].zip (List.range 7)

theorem rxDataFields_writable : ∀ p ∈ rxDataFields, ∀ i < 4, ∀ j < 4, writable [0x074] (p.1.key i j) = true := by decide

theorem rxShow_writes {n : Nat} (hn : n < 16) : s.writesOnly (s.rxShow n) [0x074] := by
  unfold rxShow
  refine .after (.foldl_mem fun p hp _ => ?_) (.after (cwr_writes hn (by decide)) (.after (cwr_writes hn (by decide))
    (.after (cwr_writes hn (by decide)) (cwr_writes hn (by decide)))))
  exact cwr_writes hn (rxDataFields_writable p hp)

theorem txEnd_writes {n result : Nat} (hn : n < 16) : s.writesOnly (s.txEnd n result) [0x074] :=
  .after (cwr_writes hn (by decide)) (.after (cwr_writes hn (by decide)) setPhy_writes)

theorem idsZero_writes {n : Nat} (hn : n < 16) : s.writesOnly (s.idsZero n) [0x074] :=
  .after (cwr_writes hn (by decide)) setPhy_writes

theorem swapEnd_writes {n : Nat} (hn : n < 16) : s.writesOnly (s.swapEnd n) [0x074] :=
  .after (cwr_writes hn (by decide)) setPhy_writes

theorem swapOver_writes {n t : Nat} (hn : n < 16) : s.writesOnly (s.swapOver n t) [0x074] :=
  .after (.ite (.after (cwr_writes hn (by decide)) setPhy_writes) (.refl _)) setPhy_writes

theorem swapStart_writes {n kind : Nat} (hn : n < 16) : s.writesOnly (s.swapStart n kind) [0x074] :=
  .after (cwr_writes hn (by decide)) (.after (cwr_writes hn (by decide)) setPhy_writes)

theorem swapNote_writes {n hdr : Nat} (hn : n < 16) : s.writesOnly (s.swapNote n hdr) [0x074] := by
  unfold swapNote
  dsimp only
  split
  · exact .refl _
  · split
    · exact swapStart_writes hn
    · split
      · exact .refl _
      · split
        · exact swapOver_writes hn
        · split
          · exact setPhy_writes
          · split
            · split
              · exact .refl _
              · exact setPhy_writes
              · exact swapOver_writes hn
            · exact .refl _

theorem cpdLeave_writes {n : Nat} (hn : n < 16) : s.writesOnly (s.cpdLeave n) [0x074, 0x082, 0x304] :=
  .ite (.refl _) (.after (.after (.after (.after (.ite (.mono directMoved_writes rfl) (.refl _)) (.after (wr_writes
    (writable_instance 16 hn (by decide))) (wr_writes (writable_instance 16 hn (by decide))))) (.after (cwr_writes hn
    (by decide)) (.after (.mono (rxShow_writes hn) rfl) (.mono (swapEnd_writes hn) rfl)))) (.after (.mono (idsZero_writes hn)
    rfl) setPhy_writes)) (.ite (.mono (txEnd_writes hn) rfl) (.refl _)))

theorem cpdAttach_writes {n : Nat} (hn : n < 16) : s.writesOnly (s.cpdAttach n) [0x074, 0x082, 0x304] :=
  .ite (.ite (cwr_writes hn (by decide)) (.refl _)) (cpdLeave_writes hn)

theorem seatsRead_writes {n : Nat} {a b : Bool} (hn : n < 18) : s.writesOnly (s.seatsRead n a b) [0x061] :=
  .after (wr_writes (writable_instance 18 hn (by decide))) (wr_writes (writable_instance 18 hn (by decide)))

theorem seatSettles_writes {n : Nat} (hn : n < 16) : s.writesOnly (s.seatSettles n) [0x061, 0x074, 0x082, 0x304] :=
  .after (.after (.mono (cpdAttach_writes hn) rfl) setPhy_writes) (.mono (seatsRead_writes (by omega)) rfl)

theorem cpdOut_writes {n : Nat} {m : CpdTx} : s.writesOnly (s.cpdOut n m) ps := emit_writes

theorem cpdResult_writes {n r : Nat} (hn : n < 16) : s.writesOnly (s.cpdResult n r) [0x074] := cwr_writes hn (by decide)

theorem cpdSend_writes {n : Nat} (hn : n < 16) : s.writesOnly (s.cpdSend n) [0x074] :=
  .ite (cpdResult_writes hn) (.ite (.after (cpdResult_writes hn) (cwr_writes hn (by decide))) (.after (cpdResult_writes hn)
    (.after (cwr_writes hn (by decide)) setPhy_writes)))

theorem txStart_writes {n : Nat} : s.writesOnly (s.txStart n) ps := by
  unfold txStart
  dsimp only
  split
  · exact .refl _
  · split
    · exact .after cpdOut_writes setPhy_writes
    · exact .after cpdOut_writes setPhy_writes
    · exact .refl _

theorem goodCrc_writes {n : Nat} (hn : n < 16) : s.writesOnly (s.goodCrc n) [0x074] := by
  unfold goodCrc
  dsimp only
  split
  · exact .refl _
  · exact .after (.ite setPhy_writes (.after (.after (.after (swapNote_writes hn) (.ite (idsZero_writes hn) (.refl _)))
      setPhy_writes) (.after (cpdIrq_writes (by decide)) (txEnd_writes hn)))) (cwr_writes hn (by decide))

theorem txRetry_writes {n : Nat} (hn : n < 16) : s.writesOnly (s.txRetry n) [0x074] := by
  unfold txRetry
  dsimp only
  split
  · exact .refl _
  · exact .ite (.after cpdOut_writes setPhy_writes) (.after (.ite setPhy_writes (.after (cpdIrq_writes (by decide))
      (txEnd_writes hn))) (cbump_writes hn (by decide)))

theorem txCollides_writes {n : Nat} (hn : n < 16) : s.writesOnly (s.txCollides n) [0x074] := by
  unfold txCollides
  dsimp only
  split
  · exact .refl _
  · exact .after (cbump_writes hn (by decide)) setPhy_writes

theorem cpdRxRead_writes {path n : Nat} (hn : n < 16) : s.writesOnly (s.cpdRxRead path n) [0x074] := by
  unfold cpdRxRead
  extract_lets t
  have ht : s.writesOnly t [0x074] := answer_writes
  clear_value t
  exact .after (rxShow_writes hn) (.after setPhy_writes ht)

theorem respExpires_writes {n : Nat} (hn : n < 16) : s.writesOnly (s.respExpires n) [0x074] :=
  .ite (.after (cpdIrq_writes (by decide)) (.after (cwr_writes hn (by decide)) (.after (swapEnd_writes hn) setPhy_writes)))
    (.refl _)

theorem frsSend_writes {n : Nat} (hn : n < 16) : s.writesOnly (s.frsSend n) [0x074] :=
  .after (.after emit_writes setPhy_writes) (.ite (.after tookFree_writes (txEnd_writes hn)) (.refl _))

theorem frsTurn_writes {c : Nat} (hc : c < 18) : s.writesOnly (s.frsTurn c) [0x061] :=
  .ite (.after (.after (irq_writes (by decide)) setChan_writes) (.after (chGo_writes hc) (.after (wr_writes
    (writable_instance 18 hc (by decide))) noteTick_writes))) (.refl _)

theorem frsReport_writes {n : Nat} (hn : n < 16) : s.writesOnly (s.frsReport n) [0x061, 0x074] :=
  .ite (.refl _) (.after (.mono (frsTurn_writes (by omega)) rfl) (.after setPhy_writes (.after (cpdIrq_writes (by decide))
    (cbump_writes hn (by decide)))))

theorem frsConfirm_writes {n : Nat} (hn : n < 16) : s.writesOnly (s.frsConfirm n) [0x061, 0x074] :=
  .after (.mono (cpdResult_writes hn) rfl) (.after setPhy_writes (.after (wr_writes (writable_instance 18 (by omega)
    (by decide))) (.mono (chSetDir_writes (by omega)) rfl)))

theorem hardReset_writes {n : Nat} (hn : n < 16) : s.writesOnly (s.hardReset n) [0x058, 0x061, 0x074] :=
  .after (.after (.after (.after (.ite (.after (.after (.mono (chEnable_writes (by omega)) rfl) (.mono (chSetDir_writes
    (by omega)) rfl)) (.ite (.mono (chGo_writes (by omega)) rfl) (.refl _))) (.refl _)) (.after (.mono (cpdEvent_writes
    (by decide)) rfl) (cbump_writes hn (by decide)))) (.after (cwr_writes hn (by decide)) (.after (.mono (rxShow_writes hn)
    rfl) (.mono (swapEnd_writes hn) rfl)))) (.after (.mono (idsZero_writes hn) rfl) setPhy_writes)) (.ite (.mono
    (txEnd_writes hn) rfl) (.ite (cwr_writes hn (by decide)) (.refl _)))

theorem hrSend_writes {n : Nat} (hn : n < 16) : s.writesOnly (s.hrSend n) [0x058, 0x061, 0x074] :=
  .after (hardReset_writes hn) emit_writes

theorem hrWaited_writes {n : Nat} (hn : n < 16) : s.writesOnly (s.hrWaited n) [0x058, 0x061, 0x074] :=
  .ite (hrSend_writes hn) (.refl _)

theorem cpdHardReset_writes {n : Nat} (hn : n < 16) : s.writesOnly (s.cpdHardReset n) [0x058, 0x061, 0x074] :=
  .ite (cwr_writes hn (by decide)) (.ite setPhy_writes (hrSend_writes hn))

theorem txTimeout_writes {n : Nat} (hn : n < 16) : s.writesOnly (s.txTimeout n) [0x058, 0x061, 0x074] :=
  .ite (hrSend_writes hn) (.mono (txRetry_writes hn) rfl)

theorem psHr_writes {n : Nat} (hn : n < 18) : s.writesOnly (s.psHr n) [0x061] :=
  .ite (.after setPhy_writes (.ite (chGo_writes hn) (.refl _))) (.refl _)

theorem srcRecover_writes {n : Nat} (hn : n < 18) : s.writesOnly (s.srcRecover n) [0x061] :=
  .ite (.after (chEnable_writes hn) (chSetDir_writes hn)) (.refl _)

theorem cpdCmd_writes {path n op : Nat} {act : State → State} (hact : ∀ s, State.writesOnly s (act s) ps) (hpath : path < 8)
    (hps : [0x001, 0x021, 0x058, 0x060].all ps.contains = true) : s.writesOnly (s.cpdCmd path n op act) ps :=
  gateWrite_writes hact hpath hps

theorem cpdEventOn_writes {n : Nat} {act : State → Nat → State} (hact : ∀ s p, p < 16 → State.writesOnly s (act s p) ps) :
    s.writesOut ps (cpdEventOn s n act) :=
  .guarded fun hok => .ite (.after (hact _ _ (of_decide_eq_true hok)) begin_writes) begin_writes

theorem execSeatSettled_writes {n : Nat} : s.writesOut [0x061, 0x074, 0x082, 0x304] (execSeatSettled n s) :=
  cpdEventOn_writes (fun _ _ hb => seatSettles_writes hb)

theorem execCpdEnableWrite_writes {path n data : Nat} :
    s.writesOut [0x001, 0x021, 0x058, 0x060, 0x074, 0x082, 0x304] (execCpdEnableWrite path n data s) := by
  refine .guarded fun hok => ?_
  simp only [Bool.and_eq_true, decide_eq_true_eq] at hok
  have hpath : path < 8 := by omega
  have hn : n < 16 := by omega
  exact .after (gateWrite_writes (fun _ => .after (.mono (cpdAttach_writes hn) rfl) (store_writes (stored_within 4 4
    (by omega) (by omega) (by decide)))) hpath rfl) begin_writes

theorem execCpdSend_writes {path n : Nat} : s.writesOut [0x001, 0x021, 0x058, 0x060, 0x074] (execCpdSend path n s) := by
  refine .guarded fun hok => ?_
  simp only [Bool.and_eq_true, decide_eq_true_eq] at hok
  have hpath : path < 8 := by omega
  have hn : n < 16 := by omega
  exact .after (cpdCmd_writes (fun _ => .mono (cpdSend_writes hn) rfl) hpath rfl) begin_writes

theorem execCpdTransmitStart_writes {n : Nat} : s.writesOut ps (execCpdTransmitStart n s) :=
  cpdEventOn_writes (fun _ _ _ => txStart_writes)

theorem execCpdGoodcrcReceived_writes {n id : Nat} : s.writesOut [0x058, 0x061, 0x074] (execCpdGoodcrcReceived n id s) :=
  cpdEventOn_writes (fun _ _ hb => .ite (.after (hrWaited_writes hb) (.mono (goodCrc_writes hb) rfl)) (.refl _))

theorem execCpdRetryTimeout_writes {n : Nat} : s.writesOut [0x058, 0x061, 0x074] (execCpdRetryTimeout n s) :=
  cpdEventOn_writes (fun _ _ hb => txTimeout_writes hb)

theorem execCpdCollision_writes {n : Nat} : s.writesOut [0x058, 0x061, 0x074] (execCpdCollision n s) :=
  cpdEventOn_writes (fun _ _ hb => .after (hrWaited_writes hb) (.mono (txCollides_writes hb) rfl))

theorem execCpdRxRead_writes {path n : Nat} : s.writesOut [0x001, 0x021, 0x058, 0x060, 0x074] (execCpdRxRead path n s) := by
  refine .guarded fun hok => ?_
  simp only [Bool.and_eq_true, decide_eq_true_eq] at hok
  have hpath : path < 8 := by omega
  have hn : n < 16 := by omega
  exact .after (gateRead_writes (fun _ => .mono (cpdRxRead_writes hn) rfl) hpath rfl) begin_writes

theorem execCpdResponseTimeout_writes {n : Nat} : s.writesOut [0x074] (execCpdResponseTimeout n s) :=
  cpdEventOn_writes (fun _ _ hb => respExpires_writes hb)

theorem execCpdSwapEnd_writes {path n : Nat} : s.writesOut [0x001, 0x021, 0x058, 0x060, 0x074] (execCpdSwapEnd path n s) := by
  refine .guarded fun hok => ?_
  simp only [Bool.and_eq_true, decide_eq_true_eq] at hok
  have hpath : path < 8 := by omega
  have hn : n < 16 := by omega
  exact .after (cpdCmd_writes (fun _ => .after (.mono (cpdResult_writes hn) rfl) (.mono (swapEnd_writes hn) rfl)) hpath rfl)
    begin_writes

theorem execCpdHardReset_writes {path n : Nat} :
    s.writesOut [0x001, 0x021, 0x058, 0x060, 0x061, 0x074] (execCpdHardReset path n s) := by
  refine .guarded fun hok => ?_
  simp only [Bool.and_eq_true, decide_eq_true_eq] at hok
  have hpath : path < 8 := by omega
  have hn : n < 16 := by omega
  exact .after (cpdCmd_writes (fun _ => .after (.mono (cpdResult_writes hn) rfl) (.mono (cpdHardReset_writes hn) rfl)) hpath
    rfl) begin_writes

theorem execHardResetReceived_writes {n : Nat} : s.writesOut [0x058, 0x061, 0x074] (execHardResetReceived n s) :=
  cpdEventOn_writes (fun _ _ hb => .ite (hardReset_writes hb) (.refl _))

theorem execPsHrExpiry_writes {n : Nat} : s.writesOut [0x061] (execPsHrExpiry n s) :=
  cpdEventOn_writes (fun _ _ hb => psHr_writes (by omega))

theorem execSrcRecoverExpiry_writes {n : Nat} : s.writesOut [0x061] (execSrcRecoverExpiry n s) :=
  cpdEventOn_writes (fun _ _ hb => srcRecover_writes (by omega))

theorem execRecoverMaxExpiry_writes {n : Nat} : s.writesOut [0x074] (execRecoverMaxExpiry n s) :=
  cpdEventOn_writes (fun _ _ hb => recovered_writes hb)

theorem execCpdFrsSend_writes {path n : Nat} :
    s.writesOut [0x001, 0x021, 0x058, 0x060, 0x061, 0x074] (execCpdFrsSend path n s) := by
  refine .guarded fun hok => ?_
  simp only [Bool.and_eq_true, decide_eq_true_eq] at hok
  have hpath : path < 8 := by omega
  have hn : n < 16 := by omega
  exact .after (cpdCmd_writes (fun _ => .after (.mono (cpdResult_writes hn) rfl) (.after (.mono (hrWaited_writes hn) rfl)
    (.mono (frsSend_writes hn) rfl))) hpath rfl) begin_writes

theorem execAutoFrs_writes {n : Nat} : s.writesOut [0x058, 0x061, 0x074] (execAutoFrs n s) :=
  cpdEventOn_writes (fun _ _ hb => .ite (.after (hrWaited_writes hb) (.mono (frsSend_writes hb) rfl)) (.refl _))

theorem execFrsDetected_writes {n : Nat} : s.writesOut [0x061, 0x074] (execFrsDetected n s) :=
  cpdEventOn_writes (fun _ _ hb => frsReport_writes hb)

theorem execCpdFrsConfirm_writes {path n : Nat} :
    s.writesOut [0x001, 0x021, 0x058, 0x060, 0x061, 0x074] (execCpdFrsConfirm path n s) := by
  refine .guarded fun hok => ?_
  simp only [Bool.and_eq_true, decide_eq_true_eq] at hok
  have hpath : path < 8 := by omega
  have hn : n < 16 := by omega
  exact .after (cpdCmd_writes (fun _ => .mono (frsConfirm_writes hn) rfl) hpath rfl) begin_writes

theorem execFrsTmo_writes {n : Nat} : s.writesOut ps (execFrsTmo n s) :=
  cpdEventOn_writes (fun _ _ _ => .ite (.after (cpdIrq_writes (by decide)) setPhy_writes) (.refl _))

end Sys2Proof.Machine.State
end

section
/-! SUPPORT. The register frames of the engines. -/

namespace Sys2Proof.Machine.State

variable {s : State} {ps : List Nat}

theorem setEngSt_writes {e v : Nat} (he : e < 16) : s.writesOnly (s.setEngSt e v) [0x370] :=
  wr_writes (writable_instance 16 he (by decide))

theorem cacheReads_writes {i : Image} : s.writesOnly (s.cacheReads i) ps := dramMoves_writes

theorem engStore_writes {e a : Nat} {bs : List Byte} : s.writesOnly (s.engStore e a bs) ps := setEngine_writes

theorem loadFails_writes {e : Nat} (he : e < 16) : s.writesOnly (s.loadFails e) [0x058, 0x370] :=
  .after (.mono (event_writes (by decide)) rfl) (.after (irq_writes (by decide)) (.after (wr_writes (writable_instance 16 he
    (by decide))) (.mono (setEngSt_writes he) rfl)))

theorem engStages_writes {e : Nat} (he : e < 16) : s.writesOnly (s.engStages e) [0x058, 0x370] := by
  unfold engStages
  split
  · exact .mono (setEngSt_writes he) rfl
  · exact .ite (.after (.mono (setEngSt_writes he) rfl) (.after cacheReads_writes engStore_writes)) (loadFails_writes he)

theorem engLoad_writes {e : Nat} {i : Image} (he : e < 16) : s.writesOnly (s.engLoad e i) [0x370] :=
  .after (.after cacheReads_writes (wr_writes (writable_instance 16 he (by decide)))) setEngine_writes

theorem plainRsp_writes {cmd : List Nat} {status ver : Nat} : s.writesOnly (s.plainRsp cmd status ver).1 ps := set_free_writes

theorem pushRsp_writes {e : Nat} {w : List Nat} : s.writesOnly (s.pushRsp e w) ps :=
  .after (irq_writes (by decide)) updLog_writes

theorem engOffNow_writes {e : Nat} (he : e < 16) : s.writesOnly (s.engOffNow e) [0x370] :=
  .after (irq_writes (by decide)) (.after (wr_writes (writable_instance 16 he (by decide))) (.after setEngine_writes
    (setEngSt_writes he)))

theorem portRefuses_writes {l e : Nat} (he : e < 16) : s.writesOnly (s.portRefuses l e) [0x370] :=
  .foldl (fun _ _ => .after dropTunnel_writes (bumpBy_writes (writable_instance 16 he (by decide))))

theorem engDrainEnd_writes {e : Nat} (he : e < 16) : s.writesOnly (s.engDrainEnd e) [0x370] :=
  .after (.after (.after (engOffNow_writes he) setLog_writes) (.foldl (fun _ _ => .after pushRsp_writes plainRsp_writes)))
    (.after (bumpBy_writes (writable_instance 16 he (by decide))) (portRefuses_writes he))

theorem engDrained_writes {e : Nat} (he : e < 16) : s.writesOnly (s.engDrained e) [0x370] :=
  .ite (engDrainEnd_writes he) (.refl _)

theorem releaseTaken_writes {l : Nat} : s.writesOnly (s.releaseTaken l) ps := updLog_writes

theorem engReloads_writes {e : Nat} {asSpare : Bool} (he : e < 16) : s.writesOnly (s.engReloads e asSpare) [0x370] :=
  .after setEngine_writes (setEngSt_writes he)

theorem respare_writes {k : Nat} (hk : k < 2) : s.writesOnly (s.respare k) [0x370] := by
  have hl : ∀ x ∈ (List.range 8).map (· + 8 * k), x < 16 := fun x hx => by
    obtain ⟨a, ha, rfl⟩ := List.mem_map.mp hx
    have := List.mem_range.mp ha
    omega
  exact .foldl_lt (filter_lt hl) fun _ he _ => .ite (engReloads_writes he) (engOffNow_writes he)

theorem firstTaken_writes {l : Nat} (hl : l < 16) : s.writesOnly (s.firstTaken l) [0x058, 0x360, 0x370] := by
  unfold firstTaken
  dsimp only
  split
  · exact .refl _
  · exact .after (.after updLog_writes (.mono (respare_writes (by omega)) rfl)) (.ite (.mono (event_writes (by decide)) rfl)
      (keepMax_writes rfl))

theorem engTake_writes {e box : Nat} (he : e < 16) : s.writesOnly (s.engTake e box) [0x058, 0x360, 0x370] := by
  unfold engTake
  dsimp only
  split
  · split
    · exact .refl _
    · exact .after (.mono (engDrained_writes he) rfl) (.ite (.after updLog_writes emit_writes) (.after releaseTaken_writes
        (.after updLog_writes emit_writes)))
  · split
    · exact .refl _
    · exact .after (.after (.mono (engDrained_writes he) rfl) (.ite (.after (firstTaken_writes (logOf_lt he)) updLog_writes)
        (.after releaseTaken_writes (.after (firstTaken_writes (logOf_lt he)) updLog_writes)))) (.after tally_writes
        emit_writes)
  · split
    · exact .refl _
    · exact .after (.after (.mono (engDrained_writes he) rfl) (.ite (.after (firstTaken_writes (logOf_lt he)) updLog_writes)
        (.after releaseTaken_writes (.after (firstTaken_writes (logOf_lt he)) updLog_writes)))) (.after tally_writes
        emit_writes)

theorem cmdPush_writes {e : Nat} (he : e < 16) : s.writesOnly (s.cmdPush e) [0x370] := by
  unfold cmdPush
  dsimp only
  split
  · exact wr_writes (writable_instance 16 he (by decide))
  · exact .ite (wr_writes (writable_instance 16 he (by decide))) (.ite (.ite (wr_writes (writable_instance 16 he
      (by decide))) (.after (wr_writes (writable_instance 16 he (by decide))) (.after pushRsp_writes plainRsp_writes))) (.ite
      (wr_writes (writable_instance 16 he (by decide))) (.after (wr_writes (writable_instance 16 he (by decide)))
      updLog_writes)))

theorem rspRead_writes {path e : Nat} : s.writesOnly (s.rspRead path e) ps := by
  unfold rspRead
  dsimp only
  split
  · exact answer_writes
  · exact .after (.after answer_writes (.ite (irq_writes (by decide)) (.refl _))) updLog_writes

theorem sendNowEng_writes {e : Nat} {x : SendEnt} : s.writesOnly (s.sendNowEng e x) [0x100, 0x103, 0x280] :=
  .after tally_writes originUnit_writes

theorem engSend_writes {e w0 w1 w2 w3 w4 : Nat} {payload : List Byte} (he : e < 16) :
    s.writesOnly (s.engSend e w0 w1 w2 w3 w4 payload) [0x100, 0x103, 0x280, 0x370] :=
  .after (.ite (.after (bump_writes rfl) (bump_writes (writable_instance 16 he (by decide)))) (.ite (bump_writes
    (writable_instance 16 he (by decide))) (.ite updLog_writes (.mono sendNowEng_writes rfl)))) engStore_writes

theorem commitCkpt_writes {e : Nat} {region : List Byte} (he : e < 16) :
    s.writesOnly (s.commitCkpt e region) [0x100, 0x103, 0x280, 0x370] := by
  unfold commitCkpt
  dsimp only
  split
  · exact .refl _
  · exact .ite (.refl _) (.after (.after (.after (.after (.after (.mono (engDrained_writes he) rfl) (.after (wr_writes
      (writable_instance 16 he (by decide))) releaseTaken_writes)) setEngine_writes) updLog_writes) (.after (.foldl (fun _ _
      => .mono sendNowEng_writes rfl)) updLog_writes)) engStore_writes)

theorem resumeAt_writes {l e : Nat} : s.writesOnly (s.resumeAt l e) ps := by
  unfold resumeAt
  dsimp only
  exact .after (.after (.after updLog_writes (by
    split
    · exact .foldl (fun _ _ => updTun_writes)
    · exact .refl _)) (by
    split
    · exact .foldl (fun _ _ => engStore_writes)
    · exact .refl _)) (by
    split
    · exact engStore_writes
    · exact .refl _)

theorem engFail_writes {e fault : Nat} : s.writesOnly (s.engFail e fault) ps := .ite updEng_writes (.refl _)

theorem reloadDone_writes {e : Nat} {intact : Bool} (he : e < 16) : s.writesOnly (s.reloadDone e intact) [0x058, 0x370] := by
  unfold reloadDone
  dsimp only
  split
  · exact .refl _
  · split
    · exact loadFails_writes he
    · exact .ite (loadFails_writes he) (.after (.ite (engStages_writes he) (.after resumeAt_writes (.mono (setEngSt_writes
        he) rfl))) (.after (wr_writes (writable_instance 16 he (by decide))) (.mono (engLoad_writes he) rfl)))

theorem engResult_writes {e r : Nat} (he : e < 16) : s.writesOnly (s.engResult e r) [0x370] :=
  wr_writes (writable_instance 16 he (by decide))

theorem engReload_writes {e : Nat} (he : e < 16) : s.writesOnly (s.engReload e) [0x370] := by
  unfold engReload
  dsimp only
  split
  · exact engResult_writes he
  · split
    · exact engResult_writes he
    · split
      · exact .ite (.after (engResult_writes he) (.after setEngine_writes (setEngSt_writes he))) (engResult_writes he)
      · exact engResult_writes he

theorem reloadComplete_writes {e : Nat} {intact : Bool} (he : e < 16) :
    s.writesOnly (s.reloadComplete e intact) [0x058, 0x370] := by
  unfold reloadComplete
  dsimp only
  split
  · exact .refl _
  · split
    · exact loadFails_writes he
    · exact .ite (.after (loadFails_writes he) setEngine_writes) (.after (.mono (setEngSt_writes he) rfl) (.after
        resumeAt_writes (.mono (engLoad_writes he) rfl)))

theorem engStart_writes {e : Nat} {intact : Bool} (he : e < 16) : s.writesOnly (s.engStart e intact) [0x058, 0x370] := by
  unfold engStart
  dsimp only
  split
  · exact .refl _
  · split
    · exact .mono (engResult_writes he) rfl
    · exact .after (.ite (loadFails_writes he) (.after (.ite (engStages_writes he) (.after updLog_writes (.mono
        (setEngSt_writes he) rfl))) (wr_writes (writable_instance 16 he (by decide))))) (.after (.mono (engLoad_writes he)
        rfl) (.after (wr_writes (writable_instance 16 he (by decide))) (.after (.mono (engResult_writes he) rfl) (wr_writes
        (writable_instance 16 he (by decide))))))

theorem engDrains_writes {e : Nat} (he : e < 16) : s.writesOnly (s.engDrains e) [0x370] :=
  .ite (.after (engDrained_writes he) (setEngSt_writes he)) (.ite (.refl _) (engDrainEnd_writes he))

theorem engStop_writes {e : Nat} (he : e < 16) : s.writesOnly (s.engStop e) [0x370] :=
  .after (engDrains_writes he) (wr_writes (writable_instance 16 he (by decide)))

theorem engCfgWrite_writes {path e data : Nat} {intact : Bool} (hpath : path < 8) (he : e < 16) :
    s.writesOnly (s.engCfgWrite path e data intact) [0x001, 0x021, 0x058, 0x060, 0x370] :=
  gateWrite_writes (fun _ => .after (.ite (.mono (engStop_writes he) rfl) (.ite (wr_writes (writable_instance 16 he
    (by decide))) (.mono (engStart_writes he) rfl))) (store_writes (stored_instance 16 he (by decide)))) hpath rfl

theorem cacheResult_writes {r : Nat} : s.writesOnly (s.cacheResult r) [0x360] := .after (wr_writes rfl) (wr_writes rfl)

theorem cacheEnter_writes {kind slot : Nat} : s.writesOnly (s.cacheEnter kind slot) [0x058, 0x360] := by
  unfold cacheEnter
  dsimp only
  split
  · exact .after (.mono (event_writes (by decide)) rfl) (.mono cacheResult_writes rfl)
  · exact .ite (.mono cacheResult_writes rfl) (.after (.mono cacheResult_writes rfl) (.after dramWrite_writes updEng_writes))

theorem cacheLoad_writes {kind slot : Nat} : s.writesOnly (s.cacheLoad kind slot) [0x360] :=
  .ite (wr_writes rfl) (.after (wr_writes rfl) updEng_writes)

theorem cacheEvict_writes {kind slot : Nat} : s.writesOnly (s.cacheEvict kind slot) [0x360] :=
  .ite (wr_writes rfl) (.ite (wr_writes rfl) (.ite (wr_writes rfl) (.after (wr_writes rfl) updEng_writes)))

theorem bindRead_writes {k : Nat} (hk : k < 2) : s.writesOnly (s.bindRead k) [0x361] :=
  .after (wr_writes (writable_instance 2 hk (by decide))) (.after (wr_writes (writable_instance 2 hk (by decide))) (.after
    (wr_writes (writable_instance 2 hk (by decide))) (.after (wr_writes (writable_instance 2 hk (by decide))) (wr_writes
    (writable_instance 2 hk (by decide))))))

theorem bindWrite_writes {k : Nat} (hk : k < 2) : s.writesOnly (s.bindWrite k) [0x361] :=
  .ite (wr_writes (writable_instance 2 hk (by decide))) (.after (wr_writes (writable_instance 2 hk (by decide)))
    updEng_writes)

theorem execEngCmdqPush_writes {path e : Nat} : s.writesOut [0x001, 0x021, 0x058, 0x060, 0x370] (execEngCmdqPush path e s) := by
  refine .guarded fun hok => ?_
  simp only [Bool.and_eq_true, decide_eq_true_eq] at hok
  have hpath : path < 8 := by omega
  have he : e < 16 := by omega
  exact .after (gateWrite_writes (fun _ => .mono (cmdPush_writes he) rfl) hpath rfl) begin_writes

theorem execEngRspRead_writes {path e : Nat} : s.writesOut [0x001, 0x021, 0x058, 0x060] (execEngRspRead path e s) := by
  refine .guarded fun hok => ?_
  simp only [Bool.and_eq_true, decide_eq_true_eq] at hok
  have hpath : path < 8 := by omega
  exact .after (gateRead_writes (fun _ => rspRead_writes) hpath rfl) begin_writes

theorem execEngineSend_writes {e w0 w1 w2 w3 w4 : Nat} {payload : List Byte} :
    s.writesOut [0x100, 0x103, 0x280, 0x370] (execEngineSend e w0 w1 w2 w3 w4 payload s) := by
  refine .guardedIn fun hok => ?_
  have he : e < 16 := of_decide_eq_true hok
  exact .ite (.after (engSend_writes he) begin_writes) begin_writes

theorem execCheckpointDoorbell_writes {e : Nat} {region : List Byte} :
    s.writesOut [0x100, 0x103, 0x280, 0x370] (execCheckpointDoorbell e region s) := by
  refine .guardedIn fun hok => ?_
  have he : e < 16 := of_decide_eq_true hok
  exact .ite (.after (commitCkpt_writes he) begin_writes) begin_writes

theorem execCkptStale_writes {e : Nat} : s.writesOut [0x370] (execCkptStale e s) := by
  refine .guardedIn fun hok => ?_
  have he : e < 16 := of_decide_eq_true hok
  exact .ite (.after (irq_writes (by decide)) (.after (wr_writes (writable_instance 16 he (by decide))) begin_writes))
    begin_writes

theorem execEngineWatchdog_writes {e : Nat} : s.writesOut ps (execEngineWatchdog e s) :=
  .guardedIn (fun _ => .ite begin_writes (.after engFail_writes begin_writes))

theorem engCorrected_writes {e corr : Nat} (he : e < 16) : s.writesOnly (s.engCorrected e corr) [0x370] :=
  .after tally_writes (bumpBy_writes (writable_instance 16 he (by decide)))

theorem execEngineFault_writes {e : Nat} {err : EngineErr} : s.writesOut [0x370] (execEngineFault e err s) := by
  refine .guardedIn fun hok => ?_
  have he : e < 16 := of_decide_eq_true hok
  exact .ite (.after engFail_writes (.after (engCorrected_writes he) begin_writes)) (.after engFail_writes (.after
    tally_writes (.after (bump_writes (writable_instance 16 he (by decide))) (.after (engCorrected_writes he) begin_writes))))

theorem execEngRestart_writes {path e : Nat} : s.writesOut [0x001, 0x021, 0x058, 0x060, 0x370] (execEngRestart path e s) := by
  refine .guarded fun hok => ?_
  simp only [Bool.and_eq_true, decide_eq_true_eq] at hok
  have hpath : path < 8 := by omega
  have he : e < 16 := by omega
  exact .after (gateWrite_writes (fun _ => .ite (.after (.mono (engResult_writes he) rfl) engFail_writes) (.mono
    (engResult_writes he) rfl)) hpath rfl) begin_writes

theorem execEngineReloadDone_writes {e : Nat} {intact : Bool} :
    s.writesOut [0x058, 0x370] (execEngineReloadDone e intact s) := by
  refine .guardedIn fun hok => ?_
  have he : e < 16 := of_decide_eq_true hok
  exact .after (reloadDone_writes he) begin_writes

theorem execEngReload_writes {path e : Nat} : s.writesOut [0x001, 0x021, 0x058, 0x060, 0x370] (execEngReload path e s) := by
  refine .guarded fun hok => ?_
  simp only [Bool.and_eq_true, decide_eq_true_eq] at hok
  have hpath : path < 8 := by omega
  have he : e < 16 := by omega
  exact .after (gateWrite_writes (fun _ => .mono (engReload_writes he) rfl) hpath rfl) begin_writes

theorem execReloadComplete_writes {e : Nat} {intact : Bool} : s.writesOut [0x058, 0x370] (execReloadComplete e intact s) := by
  refine .guardedIn fun hok => ?_
  have he : e < 16 := of_decide_eq_true hok
  exact .after (reloadComplete_writes he) begin_writes

theorem execEngineStart_writes {path e data : Nat} {intact : Bool} :
    s.writesOut [0x001, 0x021, 0x058, 0x060, 0x370] (execEngineStart path e data intact s) := by
  refine .guarded fun hok => ?_
  simp only [Bool.and_eq_true, decide_eq_true_eq] at hok
  have hpath : path < 8 := by omega
  have he : e < 16 := by omega
  exact .after (engCfgWrite_writes hpath he) begin_writes

theorem execEngineDisable_writes {path e data : Nat} :
    s.writesOut [0x001, 0x021, 0x058, 0x060, 0x370] (execEngineDisable path e data s) := by
  refine .guarded fun hok => ?_
  simp only [Bool.and_eq_true, decide_eq_true_eq] at hok
  have hpath : path < 8 := by omega
  have he : e < 16 := by omega
  exact .after (engCfgWrite_writes hpath he) begin_writes

theorem execEngineDrainTimeout_writes {e : Nat} : s.writesOut [0x370] (execEngineDrainTimeout e s) := by
  refine .guardedIn fun hok => ?_
  have he : e < 16 := of_decide_eq_true hok
  exact .ite (.after (engDrainEnd_writes he) begin_writes) begin_writes

theorem execEngCacheLoad_writes {path kind slot : Nat} :
    s.writesOut [0x001, 0x021, 0x058, 0x060, 0x360] (execEngCacheLoad path kind slot s) := by
  refine .guarded fun hok => ?_
  simp only [Bool.and_eq_true, decide_eq_true_eq] at hok
  have hpath : path < 8 := by omega
  exact .after (gateWrite_writes (fun _ => .mono cacheLoad_writes rfl) hpath rfl) begin_writes

theorem execEngCacheEvict_writes {path kind slot : Nat} :
    s.writesOut [0x001, 0x021, 0x058, 0x060, 0x360] (execEngCacheEvict path kind slot s) := by
  refine .guarded fun hok => ?_
  simp only [Bool.and_eq_true, decide_eq_true_eq] at hok
  have hpath : path < 8 := by omega
  exact .after (gateWrite_writes (fun _ => .mono cacheEvict_writes rfl) hpath rfl) begin_writes

theorem execEngBindRead_writes {path k : Nat} : s.writesOut [0x001, 0x021, 0x058, 0x060, 0x361] (execEngBindRead path k s) := by
  refine .guarded fun hok => ?_
  simp only [Bool.and_eq_true, decide_eq_true_eq] at hok
  have hpath : path < 8 := by omega
  have hk : k < 2 := by omega
  exact .after (gateWrite_writes (fun _ => .mono (bindRead_writes hk) rfl) hpath rfl) begin_writes

theorem execEngBindWrite_writes {path k : Nat} :
    s.writesOut [0x001, 0x021, 0x058, 0x060, 0x361] (execEngBindWrite path k s) := by
  refine .guarded fun hok => ?_
  simp only [Bool.and_eq_true, decide_eq_true_eq] at hok
  have hpath : path < 8 := by omega
  have hk : k < 2 := by omega
  exact .after (gateWrite_writes (fun _ => .mono (bindWrite_writes hk) rfl) hpath rfl) begin_writes

theorem execEngineTakeEntry_writes {e box : Nat} : s.writesOut [0x058, 0x360, 0x370] (execEngineTakeEntry e box s) := by
  refine .guardedIn fun hok => ?_
  simp only [Bool.and_eq_true, decide_eq_true_eq] at hok
  have he : e < 16 := by omega
  exact .ite (.after (engTake_writes he) begin_writes) begin_writes

theorem engKick_writes {e : Nat} : s.writesOnly (s.engKick e) ps := .after updEng_writes setEngine_writes

theorem execEngineWdtKick_writes {e : Nat} : s.writesOut ps (execEngineWdtKick e s) :=
  .guardedIn (fun _ => .ite (.after engKick_writes begin_writes) begin_writes)

theorem execEngineRspPost_writes {e : Nat} {words : List Nat} : s.writesOut ps (execEngineRspPost e words s) :=
  .guardedIn (fun _ => .ite (.after pushRsp_writes begin_writes) begin_writes)

theorem execEngCacheLoadDone_writes : s.writesOut [0x058, 0x360] (execEngCacheLoadDone s) := by
  unfold execEngCacheLoadDone
  exact .nextIn (by
    split
    · exact begin_writes
    · exact .after cacheEnter_writes (.after updEng_writes begin_writes))

end Sys2Proof.Machine.State
end

section
/-! SUPPORT. The register frames of the tunnel map. -/

namespace Sys2Proof.Machine.State

variable {s : State} {ps : List Nat}

theorem tmapResult_writes {r : Nat} : s.writesOnly (s.tmapResult r) [0x280] := wr_writes rfl

theorem tmapRefuse_writes {r : Nat} : s.writesOnly (s.tmapRefuse r) [0x280] :=
  .after (irq_writes (by decide)) tmapResult_writes

theorem tmapNext_writes : s.writesOnly s.tmapNext [0x280] := .ite (wr_writes rfl) (.refl _)

theorem tmapCmd_writes {path op : Nat} {act : State → State} (hact : ∀ s, State.writesOnly s (act s) ps) (hpath : path < 8)
    (hps : [0x001, 0x021, 0x058, 0x060, 0x280].all ps.contains = true) : s.writesOnly (s.tmapCmd path op act) ps :=
  gateWrite_writes (fun _ => .ite (.within tmapResult_writes hps rfl) (hact _)) hpath (pages_trans rfl hps)

theorem tmapData_writes {e : Entry} : s.writesOnly (s.tmapData e) [0x280] :=
  .after (wr_writes rfl) (.after (wr_writes rfl) (.after (wr_writes rfl) (wr_writes rfl)))

theorem tmapDataFree_writes : s.writesOnly s.tmapDataFree [0x280] :=
  .foldl_lt range_lt (fun _ hx0 _ => .after tookFree_writes (wr_writes (writable_nth 4 hx0 (by decide))))

theorem tmapRead_writes {p : Nat} : s.writesOnly (s.tmapRead p) [0x280] :=
  .after (.after tmapNext_writes tmapResult_writes) (.ite tmapDataFree_writes tmapData_writes)

theorem tmapStage_writes {path : Nat} : s.writesOnly (s.tmapStage path) [0x280] :=
  .ite tmapResult_writes (.ite tmapResult_writes (.after (.after tmapNext_writes tmapResult_writes) updTun_writes))

theorem tmapGrant_writes : s.writesOnly s.tmapGrant [0x01C, 0x100, 0x280] :=
  .ite (.refl _) (.after (.ite (.after (.mono afterCommit_writes rfl) (.after (.mono tmapRefuse_writes rfl) (wr_writes rfl)))
    updTun_writes) updTun_writes)

theorem tmapCommit_writes {path : Nat} : s.writesOnly (s.tmapCommit path) [0x01C, 0x100, 0x280] := by
  unfold tmapCommit
  dsimp only
  split
  · exact .mono tmapRefuse_writes rfl
  · split
    · exact .mono tmapRefuse_writes rfl
    · split
      · exact .after (wr_writes rfl) (.mono tmapRefuse_writes rfl)
      · exact .ite (.mono tmapRefuse_writes rfl) (.after (.ite tmapGrant_writes (.refl _)) (.after updTun_writes (wr_writes
          rfl)))

theorem tmapDiscard_writes {path : Nat} : s.writesOnly (s.tmapDiscard path) [0x280] :=
  .ite tmapResult_writes (.after tmapResult_writes updTun_writes)

theorem tmapReadStaged_writes : s.writesOnly s.tmapReadStaged [0x280] := by
  unfold tmapReadStaged
  dsimp only
  split
  · exact .after tmapNext_writes (.after tmapResult_writes tmapData_writes)
  · exact tmapRead_writes

theorem tmapApplyOne_writes {i : Nat} {e : Entry} : s.writesOnly (s.tmapApplyOne i e) ps :=
  .after updTun_writes (.after mapPut_writes mapPut_writes)

theorem tmapApply_writes : s.writesOnly s.tmapApply [0x280] :=
  .ite (.refl _) (.after (.ite tmapRefuse_writes (.after (.after (irq_writes (by decide)) (.after tally_writes (.after
    (bumpWrap_writes rfl) (.after tmapResult_writes updTun_writes)))) (.foldl (fun _ _ => tmapApplyOne_writes)))) (.after
    (wr_writes rfl) updTun_writes))

theorem tmapPairTimeout_writes : s.writesOnly s.tmapPairTimeout [0x280] :=
  .ite (.after tmapRefuse_writes (.after (wr_writes rfl) updTun_writes)) (.refl _)

theorem scrubOne_writes {i : Nat} : s.writesOnly (s.scrubOne i) [0x058, 0x280] := by
  have hx : s.writesOnly (s.readCopy s.authPlane i).1 [0x058, 0x280] := .mono readCopy_writes rfl
  have hy : s.writesOnly ((s.readCopy s.authPlane i).1.readCopy (1 - s.authPlane) i).1 [0x058, 0x280] :=
    .after (.mono readCopy_writes rfl) hx
  unfold scrubOne
  dsimp only
  split
  · exact .ite hy (.after (.mono (event_writes (by decide)) rfl) (.after mapPut_writes hy))
  · exact .after mapPut_writes hy
  · exact .after mapPut_writes hy
  · exact hy

theorem execTmapReadA_writes {path : Nat} : s.writesOut [0x001, 0x021, 0x058, 0x060, 0x280] (execTmapReadA path s) := by
  refine .guarded fun hok => ?_
  have hpath : path < 8 := of_decide_eq_true hok
  exact .after (tmapCmd_writes (fun _ => .mono tmapRead_writes rfl) hpath rfl) begin_writes

theorem execTmapReadB_writes {path : Nat} : s.writesOut [0x001, 0x021, 0x058, 0x060, 0x280] (execTmapReadB path s) := by
  refine .guarded fun hok => ?_
  have hpath : path < 8 := of_decide_eq_true hok
  exact .after (tmapCmd_writes (fun _ => .mono tmapRead_writes rfl) hpath rfl) begin_writes

theorem execTmapStage_writes {path : Nat} : s.writesOut [0x001, 0x021, 0x058, 0x060, 0x280] (execTmapStage path s) := by
  refine .guarded fun hok => ?_
  have hpath : path < 8 := of_decide_eq_true hok
  exact .after (tmapCmd_writes (fun _ => .mono tmapStage_writes rfl) hpath rfl) begin_writes

theorem execTmapCommit_writes {path : Nat} :
    s.writesOut [0x001, 0x01C, 0x021, 0x058, 0x060, 0x100, 0x280] (execTmapCommit path s) := by
  refine .guarded fun hok => ?_
  have hpath : path < 8 := of_decide_eq_true hok
  exact .after (tmapCmd_writes (fun _ => .mono tmapCommit_writes rfl) hpath rfl) begin_writes

theorem execTmapCommitApply_writes : s.writesOut [0x01C, 0x100, 0x280] (execTmapCommitApply s) :=
  .nextIn (.after (.mono afterCommit_writes rfl) (.after (.mono tmapApply_writes rfl) begin_writes))

theorem execTmapCommitPairTimeout_writes : s.writesOut [0x01C, 0x100, 0x280] (execTmapCommitPairTimeout s) :=
  .nextIn (.after (.mono afterCommit_writes rfl) (.after (.mono tmapPairTimeout_writes rfl) begin_writes))

theorem execTmapDiscard_writes {path : Nat} : s.writesOut [0x001, 0x021, 0x058, 0x060, 0x280] (execTmapDiscard path s) := by
  refine .guarded fun hok => ?_
  have hpath : path < 8 := of_decide_eq_true hok
  exact .after (tmapCmd_writes (fun _ => .mono tmapDiscard_writes rfl) hpath rfl) begin_writes

theorem execTmapReadStaged_writes {path : Nat} :
    s.writesOut [0x001, 0x021, 0x058, 0x060, 0x280] (execTmapReadStaged path s) := by
  refine .guarded fun hok => ?_
  have hpath : path < 8 := of_decide_eq_true hok
  exact .after (tmapCmd_writes (fun _ => .mono tmapReadStaged_writes rfl) hpath rfl) begin_writes

theorem execScrubPass_writes {upsets : List MapUpset} : s.writesOut [0x058, 0x280] (execScrubPass upsets s) :=
  .nextIn (.after (.foldl (fun _ _ => scrubOne_writes)) (.after (.foldl (fun _ _ => upset_writes)) begin_writes))

end Sys2Proof.Machine.State
end

section
/-! SUPPORT. The register frames of the multicast groups. -/

namespace Sys2Proof.Machine.State

variable {s : State} {ps : List Nat}

theorem updMcg_writes {f : McgEdit → McgEdit} : s.writesOnly (s.updMcg f) ps := set_mcg_writes

theorem mcgResult_writes {r : Nat} : s.writesOnly (s.mcgResult r) [0x102] := .after (wr_writes rfl) (wr_writes rfl)

theorem mcgBusy_writes {v : Nat} : s.writesOnly (s.mcgBusy v) [0x102] := .after (wr_writes rfl) (wr_writes rfl)

theorem mcgCmd_writes {path p op : Nat} {act : State → State} (hact : ∀ s, State.writesOnly s (act s) ps) (hpath : path < 8)
    (hps : [0x001, 0x021, 0x058, 0x060, 0x102].all ps.contains = true) : s.writesOnly (s.mcgCmd path p op act) ps :=
  gateWrite_writes (fun _ => .ite (.within mcgResult_writes hps rfl) (hact _)) hpath (pages_trans rfl hps)

theorem mcgRead_writes {p : Nat} (hp : p < 2) : s.writesOnly (s.mcgRead p) [0x102] :=
  .after mcgResult_writes (wr_writes (writable_instance 2 hp (by decide)))

theorem mcgStage_writes {path p : Nat} : s.writesOnly (s.mcgStage path p) [0x102] :=
  .ite mcgResult_writes (.ite mcgResult_writes (.after mcgResult_writes updMcg_writes))

theorem mcgGrant_writes : s.writesOnly s.mcgGrant [0x01C, 0x100, 0x102] :=
  .ite (.refl _) (.after (.ite (.after (.mono afterCommit_writes rfl) (.after (.mono mcgResult_writes rfl) (.mono
    mcgBusy_writes rfl))) updMcg_writes) updMcg_writes)

theorem mcgCommit_writes {path : Nat} : s.writesOnly (s.mcgCommit path) [0x01C, 0x100, 0x102] := by
  unfold mcgCommit
  dsimp only
  split
  · exact .mono mcgResult_writes rfl
  · split
    · exact .mono mcgResult_writes rfl
    · split
      · exact .after (wr_writes rfl) (.after (wr_writes rfl) (.mono mcgResult_writes rfl))
      · exact .ite (.mono mcgResult_writes rfl) (.after (.ite mcgGrant_writes (.refl _)) (.after updMcg_writes (.mono
          mcgBusy_writes rfl)))

theorem mcgApply_writes : s.writesOnly s.mcgApply [0x102] :=
  .ite (.refl _) (.after (.ite mcgResult_writes (.after (.after (bumpWrap_writes rfl) (bumpWrap_writes rfl)) (.after
    tally_writes (.after mcgResult_writes (.after updMcg_writes (.after updPlane_writes updPlane_writes)))))) (.after
    mcgBusy_writes updMcg_writes))

theorem mcgPairTimeout_writes : s.writesOnly s.mcgPairTimeout [0x102] :=
  .ite (.after mcgResult_writes (.after mcgBusy_writes updMcg_writes)) (.refl _)

theorem mcgDiscard_writes {path : Nat} : s.writesOnly (s.mcgDiscard path) [0x102] :=
  .ite mcgResult_writes (.after mcgResult_writes updMcg_writes)

theorem mcgReadStaged_writes {p : Nat} (hp : p < 2) : s.writesOnly (s.mcgReadStaged p) [0x102] := by
  unfold mcgReadStaged
  split
  · exact .after mcgResult_writes (wr_writes (writable_instance 2 hp (by decide)))
  · exact mcgRead_writes hp

theorem sdgFind_writes {p b arg : Nat} (hb : b < 32) : s.writesOnly (s.sdgFind p b arg) [0x058] :=
  .after (event_writes hb) tally_writes

theorem sdgCell_writes {p i : Nat} (hp : p < 2) : s.writesOnly (s.sdgCell p i) [0x058, 0x101] :=
  .ite (.ite (.ite (.after (.after (.mono (sdgFind_writes (by decide)) rfl) (.ite (.after (bump_writes (writable_instance 2
    hp (by decide))) updPlane_writes) (.refl _))) (.after (wr_writes (writable_instance 2 hp (by decide))) (wr_writes
    (writable_instance 2 hp (by decide))))) updPlane_writes) (.after (.ite (.after (.mono (sdgFind_writes (by decide)) rfl)
    (bump_writes (writable_instance 2 hp (by decide)))) (.refl _)) updPlane_writes)) (.ite (.after (.mono (sdgFind_writes
    (by decide)) rfl) (.after (bump_writes (writable_instance 2 hp (by decide))) updPlane_writes)) (.refl _))

theorem sdgVisit_writes {p : Nat} {upset : Option (Bool × Nat × Nat)} (hp : p < 2) :
    s.writesOnly (s.sdgVisit p upset) [0x058, 0x101] := by
  unfold sdgVisit
  dsimp only
  refine .after (.ite (.after (wr_writes (writable_instance 2 hp (by decide))) (sdgCell_writes hp)) (.refl _)) ?_
  split
  · exact .refl _
  · exact updPlane_writes

theorem execMcgRead_writes {path p : Nat} : s.writesOut [0x001, 0x021, 0x058, 0x060, 0x102] (execMcgRead path p s) := by
  refine .guarded fun hok => ?_
  simp only [Bool.and_eq_true, decide_eq_true_eq] at hok
  have hpath : path < 8 := by omega
  have hp : p < 2 := by omega
  exact .after (mcgCmd_writes (fun _ => .mono (mcgRead_writes hp) rfl) hpath rfl) begin_writes

theorem execMcgStage_writes {path p : Nat} : s.writesOut [0x001, 0x021, 0x058, 0x060, 0x102] (execMcgStage path p s) := by
  refine .guarded fun hok => ?_
  simp only [Bool.and_eq_true, decide_eq_true_eq] at hok
  have hpath : path < 8 := by omega
  exact .after (mcgCmd_writes (fun _ => .mono mcgStage_writes rfl) hpath rfl) begin_writes

theorem execMcgCommit_writes {path p : Nat} :
    s.writesOut [0x001, 0x01C, 0x021, 0x058, 0x060, 0x100, 0x102] (execMcgCommit path p s) := by
  refine .guarded fun hok => ?_
  simp only [Bool.and_eq_true, decide_eq_true_eq] at hok
  have hpath : path < 8 := by omega
  exact .after (mcgCmd_writes (fun _ => .mono mcgCommit_writes rfl) hpath rfl) begin_writes

theorem execMcgCommitApply_writes : s.writesOut [0x01C, 0x100, 0x102] (execMcgCommitApply s) :=
  .nextIn (.after (.mono afterCommit_writes rfl) (.after (.mono mcgApply_writes rfl) begin_writes))

theorem execMcgCommitPairTimeout_writes : s.writesOut [0x01C, 0x100, 0x102] (execMcgCommitPairTimeout s) :=
  .nextIn (.after (.mono afterCommit_writes rfl) (.after (.mono mcgPairTimeout_writes rfl) begin_writes))

theorem execMcgDiscard_writes {path p : Nat} : s.writesOut [0x001, 0x021, 0x058, 0x060, 0x102] (execMcgDiscard path p s) := by
  refine .guarded fun hok => ?_
  simp only [Bool.and_eq_true, decide_eq_true_eq] at hok
  have hpath : path < 8 := by omega
  exact .after (mcgCmd_writes (fun _ => .mono mcgDiscard_writes rfl) hpath rfl) begin_writes

theorem execMcgReadStaged_writes {path p : Nat} :
    s.writesOut [0x001, 0x021, 0x058, 0x060, 0x102] (execMcgReadStaged path p s) := by
  refine .guarded fun hok => ?_
  simp only [Bool.and_eq_true, decide_eq_true_eq] at hok
  have hpath : path < 8 := by omega
  have hp : p < 2 := by omega
  exact .after (mcgCmd_writes (fun _ => .mono (mcgReadStaged_writes hp) rfl) hpath rfl) begin_writes

theorem execSheepdogSweepStart_writes {p : Nat} : s.writesOut [0x101] (execSheepdogSweepStart p s) := by
  refine .guardedIn fun hok => ?_
  have hp : p < 2 := of_decide_eq_true hok
  exact .after (.ite (.after (wr_writes (writable_instance 2 hp (by decide))) updPlane_writes) (.refl _)) begin_writes

theorem execSheepdogVisit_writes {p : Nat} {upset : Option (Bool × Nat × Nat)} :
    s.writesOut [0x058, 0x101] (execSheepdogVisit p upset s) := by
  refine .guardedIn fun hok => ?_
  have hp : p < 2 := of_decide_eq_true hok
  exact .after (sdgVisit_writes hp) begin_writes

end Sys2Proof.Machine.State
end

section
/-! SUPPORT. The register frames of the Ringmaster. -/

namespace Sys2Proof.Machine.State

variable {s : State} {ps : List Nat}

theorem makeLive_writes {x : Nat} : s.writesOnly (s.makeLive x) [0x01C, 0x100, 0x102, 0x280] :=
  .after (.after (.mono mcgGrant_writes rfl) (.after (.mono tmapGrant_writes rfl) (.mono setPairState_writes rfl))) (.ite
    (.mono setPairState_writes rfl) (.refl _))

theorem replicaMismatch_writes {r : Nat} : s.writesOnly (s.replicaMismatch r) [0x01C] :=
  .ite (.refl _) (.ite (.after (irq_writes (by decide)) (wr_writes rfl)) (.after (.after (.ite (.after (irq_writes
    (by decide)) (wr_writes rfl)) (.refl _)) updRgm_writes) (.after (irq_writes (by decide)) (.after tally_writes
    (bump_writes rfl)))))

theorem demote_writes {p : Nat} : s.writesOnly (s.demote p) ps := updPlane_writes

theorem vote_writes {a b : Bool} : s.writesOnly (s.vote a b) [0x01C, 0x058, 0x100] :=
  .ite (.after updPlane_writes updPlane_writes) (.ite (.ite (.after (.mono (event_writes (by decide)) rfl) (.after
    (bump_writes rfl) demote_writes)) (.refl _)) (.ite (.ite (.after (.mono (grant_writes (by decide)) rfl) demote_writes)
    (.mono (grant_writes (by decide)) rfl)) (.ite (.mono (grant_writes (by decide)) rfl) (.refl _))))

theorem pairBeats_writes {a b : Bool} : s.writesOnly (s.pairBeats a b) [0x01C, 0x100, 0x102, 0x280] := by
  unfold pairBeats
  dsimp only
  split
  · exact .refl _
  · split
    · exact .ite (.after makeLive_writes updRgm_writes) (.ite makeLive_writes (.refl _))
    · exact .ite (.after makeLive_writes updRgm_writes) (.refl _)

theorem showPair_writes {x v : Nat} : s.writesOnly (s.showPair x v) [0x01C] := .ite (.refl _) setPairState_writes

theorem pairLost_writes {x : Nat} : s.writesOnly (s.pairLost x) [0x01C, 0x058, 0x100, 0x102, 0x280] :=
  .after (.ite (.after (.after (.mono (event_writes (by decide)) rfl) (bump_writes rfl)) (.ite (.mono makeLive_writes rfl)
    (.refl _))) (.refl _)) (.mono showPair_writes rfl)

theorem rgmHandover_writes : s.writesOnly s.rgmHandover [0x01C, 0x100] :=
  .ite (wr_writes rfl) (.ite (wr_writes rfl) (.ite (.after (wr_writes rfl) updRgm_writes) (.after (wr_writes rfl)
    handover_writes)))

theorem rgmSwapLive_writes : s.writesOnly s.rgmSwapLive [0x01C, 0x100, 0x102, 0x280] := by
  unfold rgmSwapLive
  split
  · exact wr_writes rfl
  · split
    · exact .after (wr_writes rfl) makeLive_writes
    · exact wr_writes rfl

theorem execReplicaMismatch_writes {r : Nat} : s.writesOut [0x01C] (execReplicaMismatch r s) :=
  .guardedIn (fun _ => .after replicaMismatch_writes begin_writes)

theorem execAuthorityClaim_writes {a b : Bool} : s.writesOut [0x01C, 0x058, 0x100] (execAuthorityClaim a b s) :=
  .nextIn (.after vote_writes begin_writes)

theorem execCrossPlaneHeartbeat_writes {p : Nat} : s.writesOut ps (execCrossPlaneHeartbeat p s) :=
  .guardedIn (fun _ => .after updPlane_writes begin_writes)

theorem execPairHeartbeat_writes {a b : Bool} : s.writesOut [0x01C, 0x100, 0x102, 0x280] (execPairHeartbeat a b s) :=
  .nextIn (.after pairBeats_writes begin_writes)

theorem execRgmHandover_writes {path : Nat} :
    s.writesOut [0x001, 0x01C, 0x021, 0x058, 0x060, 0x100] (execRgmHandover path s) := by
  refine .guarded fun hok => ?_
  have hpath : path < 8 := of_decide_eq_true hok
  exact .after (gateWrite_writes (fun _ => .mono rgmHandover_writes rfl) hpath rfl) begin_writes

theorem execRgmSwapLive_writes {path : Nat} :
    s.writesOut [0x001, 0x01C, 0x021, 0x058, 0x060, 0x100, 0x102, 0x280] (execRgmSwapLive path s) := by
  refine .guarded fun hok => ?_
  have hpath : path < 8 := of_decide_eq_true hok
  exact .after (gateWrite_writes (fun _ => .mono rgmSwapLive_writes rfl) hpath rfl) begin_writes

end Sys2Proof.Machine.State
end

section
/-! SUPPORT. The register frames of the journal. -/

namespace Sys2Proof.Machine.State

variable {s : State} {ps : List Nat}

theorem jnlLose_writes : s.writesOnly s.jnlLose [0x058] :=
  .after (irq_writes (by decide)) (.after tally_writes (.after (bump_writes rfl) set_jnl_writes))

theorem jnlPut_writes {e : JEnt} : s.writesOnly (s.jnlPut e) [0x058] :=
  .after (.after (.after (.after (.after (.after (.ite (irq_writes (by decide)) (.refl _)) (.ite (irq_writes (by decide))
    (.refl _))) tally_writes) set_jnl_writes) (wr_writes rfl)) (.ite (wr_writes rfl) (.refl _))) set_jnl_writes

theorem jnlWrite_writes : s.writesOnly s.jnlWrite [0x058] := by
  unfold jnlWrite
  dsimp only
  split
  · exact .refl _
  · exact .after (.ite jnlLose_writes jnlPut_writes) set_jnl_writes

theorem jnlTail_writes {v : Nat} : s.writesOnly (s.jnlTail v) [0x058] := .after set_jnl_writes (wr_writes rfl)

theorem execJournalEntryWrite_writes : s.writesOut [0x058] (execJournalEntryWrite s) :=
  .nextIn (.after jnlWrite_writes begin_writes)

theorem execJnlTailWrite_writes {path data : Nat} : s.writesOut [0x001, 0x021, 0x058, 0x060] (execJnlTailWrite path data s) := by
  refine .guarded fun hok => ?_
  have hpath : path < 8 := of_decide_eq_true hok
  exact .after (gateWrite_writes (fun _ => .mono jnlTail_writes rfl) hpath rfl) begin_writes

theorem execJnlDataRead_writes {path : Nat} : s.writesOut [0x001, 0x021, 0x058, 0x060] (execJnlDataRead path s) := by
  refine .guarded fun hok => ?_
  have hpath : path < 8 := of_decide_eq_true hok
  exact .after (gateRead_writes (fun _ => .after (.ite (.mono jnlTail_writes rfl) (.refl _)) answer_writes) hpath rfl)
    begin_writes

theorem execJnlSwWrite_writes {path data : Nat} : s.writesOut [0x001, 0x021, 0x058, 0x060] (execJnlSwWrite path data s) := by
  refine .guarded fun hok => ?_
  have hpath : path < 8 := of_decide_eq_true hok
  exact .after (gateWrite_writes (fun _ => .after stageLo_writes (.mono journalAt_writes rfl)) hpath rfl) begin_writes

end Sys2Proof.Machine.State
end

section
/-! SUPPORT. The register frames of the regulators. -/

namespace Sys2Proof.Machine.State

variable {s : State} {ps : List Nat}

theorem updPwr_writes {f : PwrState → PwrState} : s.writesOnly (s.updPwr f) ps := set_pwr_writes

theorem pmbSend_writes {r : Nat} {e : Nat → Bool → Bool → Emit} : s.writesOnly (s.pmbSend r e) ps :=
  .after emit_writes (.ite (.refl _) emit_writes)

theorem pmbRead_writes {r cmd : Nat} : s.writesOnly (s.pmbRead r cmd) ps := pmbSend_writes

theorem selfRefresh_writes : s.writesOnly s.selfRefresh ps := .ite (.refl _) (.after tally_writes updPwr_writes)

theorem regAlert_writes {l : List Nat} : s.writesOnly (s.regAlert l) [0x031, 0x058] :=
  .after (.foldl_lt (filter_lt range_lt) (fun _ hx0 _ => .after (.ite (.refl _) (.mono journalAt_writes rfl)) (.after
    (wr_writes (writable_nth 4 hx0 (by decide))) pmbRead_writes))) (irq_writes (by decide))

end Sys2Proof.Machine.State
end

section
/-! SUPPORT. The register frames of the management pairs. -/

namespace Sys2Proof.Machine.State

variable {s : State} {ps : List Nat}

theorem updMgt_writes {f : MgtState → MgtState} : s.writesOnly (s.updMgt f) ps := set_mgt_writes

theorem setMpair_writes {p : Nat} {x : MgtPair} : s.writesOnly (s.setMpair p x) ps := updMgt_writes

theorem pairHalt_writes {p cause pc0 pc1 : Nat} (hp : p < 2) :
    s.writesOnly (s.pairHalt p cause pc0 pc1) [0x011, 0x01C, 0x058, 0x100, 0x102, 0x280] :=
  .after (.after (.after (.mono pairLost_writes rfl) setMpair_writes) (.after (.mono (event_writes (by decide)) rfl)
    (bump_writes (writable_instance 2 hp (by decide))))) (.after (wr_writes (writable_instance 2 hp (by decide))) (.after
    (wr_writes (writable_instance 2 hp (by decide))) (wr_writes (writable_instance 2 hp (by decide)))))

theorem pairHaltCmd_writes {p : Nat} (hp : p < 2) :
    s.writesOnly (s.pairHaltCmd p) [0x011, 0x01C, 0x058, 0x100, 0x102, 0x280] :=
  .ite (.after (pairHalt_writes hp) set_free_writes) (.refl _)

theorem pairFault_writes {p cause pc0 pc1 corr : Nat} (hp : p < 2) :
    s.writesOnly (s.pairFault p cause pc0 pc1 corr) [0x011, 0x01C, 0x058, 0x100, 0x102, 0x280] :=
  .after (.after (pairHalt_writes hp) (.ite (.after tally_writes (bump_writes (writable_instance 2 hp (by decide)))) (.refl
    _))) (.after tally_writes (bumpBy_writes (writable_instance 2 hp (by decide))))

theorem wdtKick_writes {p pc0 pc1 : Nat} (hp : p < 2) :
    s.writesOnly (s.wdtKick p pc0 pc1) [0x011, 0x01C, 0x058, 0x100, 0x102, 0x280] :=
  .ite (.refl _) (.ite (pairHalt_writes hp) setMpair_writes)

theorem customerLoads_writes : s.writesOnly s.customerLoads [0x010] :=
  .after (.after (wr_writes rfl) (wr_writes rfl)) updMgt_writes

theorem pairStarts_writes {p : Nat} {i : Image} : s.writesOnly (s.pairStarts p i) [0x010, 0x01C] :=
  .after (.after (.mono showPair_writes rfl) setMpair_writes) (.ite (.mono customerLoads_writes rfl) (.refl _))

theorem pairReturns_writes {p : Nat} : s.writesOnly (s.pairReturns p) [0x010, 0x01C] := by
  unfold pairReturns
  split
  · exact .refl _
  · exact .ite (.after (irq_writes (by decide)) (.after pairStarts_writes (.ite cacheReads_writes (.refl _)))) (.refl _)

theorem pairRestart_writes {p : Nat} : s.writesOnly (s.pairRestart p) [0x010, 0x01C] :=
  .ite (.refl _) (.after pairReturns_writes setMpair_writes)

theorem mgtResult_writes {r : Nat} : s.writesOnly (s.mgtResult r) [0x010] := wr_writes rfl

theorem restartCmd_writes {p : Nat} (hp : p < 2) :
    s.writesOnly (s.restartCmd p) [0x010, 0x011, 0x01C, 0x058, 0x100, 0x102, 0x280] :=
  .ite (.mono mgtResult_writes rfl) (.ite (.mono mgtResult_writes rfl) (.after (.mono mgtResult_writes rfl) (.after (.mono
    pairReturns_writes rfl) (.mono (pairHaltCmd_writes hp) rfl))))

theorem senderGone_writes {path : Nat} : s.writesOnly (s.senderGone path) ps := set_pwr_writes

theorem pairOffNow_writes {p : Nat} : s.writesOnly (s.pairOffNow p) [0x01C] :=
  .after (.after (.after (.ite (.after senderGone_writes updMgt_writes) (.refl _)) (.ite (.refl _) senderGone_writes))
    setMpair_writes) showPair_writes

theorem stopB_writes : s.writesOnly s.stopB [0x010, 0x011, 0x01C, 0x058, 0x100, 0x102, 0x280] :=
  .ite (.mono mgtResult_writes rfl) (.after (.mono mgtResult_writes rfl) (.after (.mono pairOffNow_writes rfl) (.mono
    (pairHaltCmd_writes (by decide)) rfl)))

theorem customerFault_writes : s.writesOnly s.customerFault [0x010] :=
  .after (irq_writes (by decide)) (.after (wr_writes rfl) updMgt_writes)

theorem mboxRead_writes {a : Nat} : s.writesOnly (s.mboxRead a) [0x010] := by
  unfold mboxRead
  dsimp only
  split
  · exact emit_writes
  · exact .ite customerFault_writes (.after (.after (.after emit_writes setMpair_writes) updMgt_writes) set_free_writes)

theorem flashCmd_writes {op : Nat} : s.writesOnly (s.flashCmd op) [0x010] :=
  .ite (wr_writes rfl) (.ite (wr_writes rfl) (.after (wr_writes rfl) updMgt_writes))

theorem setFlashBuf_writes {bs : List Byte} : s.writesOnly (s.setFlashBuf bs) [0x010] :=
  .foldl_lt range_lt (fun _ hx0 _ => wr_writes (writable_nth 64 hx0 (by decide)))

theorem updFlash_writes {f : Tab Byte → Tab Byte} : s.writesOnly (s.updFlash f) ps := updMgt_writes

theorem flashErase_writes {a n : Nat} : s.writesOnly (s.flashErase a n) ps := updFlash_writes

theorem flashAct_writes {op a : Nat} {buf : List Byte} : s.writesOnly (s.flashAct op a buf) [0x010] := by
  unfold flashAct
  split
  · exact setFlashBuf_writes
  · exact updFlash_writes
  · exact flashErase_writes
  · exact flashErase_writes

theorem flashDone_writes : s.writesOnly s.flashDone [0x010] := by
  unfold flashDone
  split
  · exact .refl _
  · exact .after (wr_writes rfl) (.after (wr_writes rfl) (.after updMgt_writes flashAct_writes))

theorem evcSelect_writes {path c data : Nat} (hpath : path < 8) (hc : c < 64) :
    s.writesOnly (s.evcSelect path c data) [0x001, 0x021, 0x058, 0x060] :=
  gateWrite_writes (fun _ => .after (.any (wr_writes (writable_nth 64 hc (by decide)))) (.any (store_writes (stored_nth 64 hc
    (by decide))))) hpath rfl

theorem evcClear_writes {data : Nat} : s.writesOnly (s.evcClear data) ps :=
  .ite (.foldl_lt range_lt (fun _ hx0 _ => .any (wr_writes (writable_nth 64 hx0 (by decide))))) (.any (wr_writes
    (writable_nth 64 (by omega) (by decide))))

theorem evcWrap_writes {c : Nat} (hc : c < 64) : s.writesOnly (s.evcWrap c) ps := .ite (tallyAt_writes hc) (.refl _)

theorem execPairHeartbeatMiss_writes {p missed pc0 pc1 : Nat} :
    s.writesOut [0x011, 0x01C, 0x058, 0x100, 0x102, 0x280] (execPairHeartbeatMiss p missed pc0 pc1 s) := by
  refine .guardedIn fun hok => ?_
  simp only [Bool.and_eq_true, decide_eq_true_eq] at hok
  have hp : p < 2 := by omega
  exact .ite (.after (pairHalt_writes hp) begin_writes) begin_writes

theorem execPairHalt_writes {p cause corr : Nat} {pcs : Nat × Nat} :
    s.writesOut [0x011, 0x01C, 0x058, 0x100, 0x102, 0x280] (execPairHalt p cause corr pcs s) := by
  refine .guardedIn fun hok => ?_
  simp only [Bool.and_eq_true, decide_eq_true_eq] at hok
  have hp : p < 2 := by omega
  exact .ite (.after (pairFault_writes hp) begin_writes) begin_writes

theorem execWdtKick_writes {path p src data pc0 pc1 : Nat} :
    s.writesOut [0x001, 0x011, 0x01C, 0x021, 0x058, 0x060, 0x100, 0x102, 0x280] (execWdtKick path p src data pc0 pc1 s) := by
  refine .guarded fun hok => ?_
  simp only [Bool.and_eq_true, decide_eq_true_eq] at hok
  have hpath : path < 8 := by omega
  have hp : p < 2 := by omega
  exact .after (gateWrite_writes (fun _ => .ite (.mono (wdtKick_writes hp) rfl) (.refl _)) hpath rfl) begin_writes

theorem execPairWatchdogExpiry_writes {p pc0 pc1 : Nat} :
    s.writesOut [0x011, 0x01C, 0x058, 0x100, 0x102, 0x280] (execPairWatchdogExpiry p pc0 pc1 s) := by
  refine .guardedIn fun hok => ?_
  simp only [Bool.and_eq_true, decide_eq_true_eq] at hok
  have hp : p < 2 := by omega
  exact .ite (.after (pairHalt_writes hp) begin_writes) begin_writes

theorem execPairRestart_writes {p : Nat} : s.writesOut [0x010, 0x01C] (execPairRestart p s) :=
  .guardedIn (fun _ => .after pairRestart_writes begin_writes)

theorem execRestartA_writes {path : Nat} :
    s.writesOut [0x001, 0x010, 0x011, 0x01C, 0x021, 0x058, 0x060, 0x100, 0x102, 0x280] (execRestartA path s) := by
  refine .guarded fun hok => ?_
  have hpath : path < 8 := of_decide_eq_true hok
  exact .after (gateWrite_writes (fun _ => .mono (restartCmd_writes (by decide)) rfl) hpath rfl) begin_writes

theorem execRestartB_writes {path : Nat} :
    s.writesOut [0x001, 0x010, 0x011, 0x01C, 0x021, 0x058, 0x060, 0x100, 0x102, 0x280] (execRestartB path s) := by
  refine .guarded fun hok => ?_
  have hpath : path < 8 := of_decide_eq_true hok
  exact .after (gateWrite_writes (fun _ => .mono (restartCmd_writes (by decide)) rfl) hpath rfl) begin_writes

theorem execStopB_writes {path : Nat} :
    s.writesOut [0x001, 0x010, 0x011, 0x01C, 0x021, 0x058, 0x060, 0x100, 0x102, 0x280] (execStopB path s) := by
  refine .guarded fun hok => ?_
  have hpath : path < 8 := of_decide_eq_true hok
  exact .after (gateWrite_writes (fun _ => .mono stopB_writes rfl) hpath rfl) begin_writes

theorem execEcallYield_writes : s.writesOut ps (execEcallYield s) := .nextIn begin_writes

theorem execEcallSetHandler_writes {a1 : Nat} : s.writesOut ps (execEcallSetHandler a1 s) :=
  .guardedIn (fun _ => .ite (.after updMgt_writes begin_writes) begin_writes)

theorem execEcallIrqForward_writes {a1 a2 : Nat} : s.writesOut ps (execEcallIrqForward a1 a2 s) :=
  .guardedIn (fun _ => .ite (.after updMgt_writes begin_writes) begin_writes)

theorem execEcallMboxRead_writes {a1 : Nat} : s.writesOut [0x010] (execEcallMboxRead a1 s) :=
  .guardedIn (fun _ => .ite (.after mboxRead_writes begin_writes) begin_writes)

theorem execPairbFault_writes : s.writesOut [0x010] (execPairbFault s) :=
  .nextIn (.ite (.after customerFault_writes begin_writes) begin_writes)

theorem execFlashRead_writes {path : Nat} : s.writesOut [0x001, 0x010, 0x021, 0x058, 0x060] (execFlashRead path s) := by
  refine .guarded fun hok => ?_
  have hpath : path < 8 := of_decide_eq_true hok
  exact .after (gateWrite_writes (fun _ => .mono flashCmd_writes rfl) hpath rfl) begin_writes

theorem execFlashProgram_writes {path : Nat} : s.writesOut [0x001, 0x010, 0x021, 0x058, 0x060] (execFlashProgram path s) := by
  refine .guarded fun hok => ?_
  have hpath : path < 8 := of_decide_eq_true hok
  exact .after (gateWrite_writes (fun _ => .mono flashCmd_writes rfl) hpath rfl) begin_writes

theorem execFlashErase4k_writes {path : Nat} : s.writesOut [0x001, 0x010, 0x021, 0x058, 0x060] (execFlashErase4k path s) := by
  refine .guarded fun hok => ?_
  have hpath : path < 8 := of_decide_eq_true hok
  exact .after (gateWrite_writes (fun _ => .mono flashCmd_writes rfl) hpath rfl) begin_writes

theorem execFlashErase64k_writes {path : Nat} : s.writesOut [0x001, 0x010, 0x021, 0x058, 0x060] (execFlashErase64k path s) := by
  refine .guarded fun hok => ?_
  have hpath : path < 8 := of_decide_eq_true hok
  exact .after (gateWrite_writes (fun _ => .mono flashCmd_writes rfl) hpath rfl) begin_writes

theorem execFlashOpDone_writes : s.writesOut [0x010] (execFlashOpDone s) := .nextIn (.after flashDone_writes begin_writes)

theorem execEvcSelWrite_writes {path c data : Nat} :
    s.writesOut [0x001, 0x021, 0x058, 0x060] (execEvcSelWrite path c data s) := by
  refine .guarded fun hok => ?_
  simp only [Bool.and_eq_true, decide_eq_true_eq] at hok
  have hpath : path < 8 := by omega
  have hc : c < 64 := by omega
  exact .after (evcSelect_writes hpath hc) begin_writes

theorem execEvcClear_writes {path data : Nat} : s.writesOut [0x001, 0x021, 0x058, 0x060] (execEvcClear path data s) := by
  refine .guarded fun hok => ?_
  have hpath : path < 8 := of_decide_eq_true hok
  exact .after (gateWrite_writes (fun _ => evcClear_writes) hpath rfl) begin_writes

theorem execEvcFreeze_writes {path data : Nat} : s.writesOut [0x001, 0x021, 0x058, 0x060] (execEvcFreeze path data s) := by
  refine .guarded fun hok => ?_
  have hpath : path < 8 := of_decide_eq_true hok
  exact .after (gateWrite_writes (fun _ => .any (store_writes (by decide))) hpath rfl) begin_writes

theorem execEvcWrap_writes {c : Nat} : s.writesOut ps (execEvcWrap c s) := by
  refine .guardedIn fun hok => ?_
  have hc : c < 64 := of_decide_eq_true hok
  exact .after (evcWrap_writes hc) begin_writes

end Sys2Proof.Machine.State
end

section
/-! SUPPORT. The register frames of the resets. -/

namespace Sys2Proof.Machine.State

variable {s : State} {ps : List Nat}

theorem armReset_writes {path : Nat} : s.writesOnly (s.armReset path) [0x001] :=
  .ite (.after (wr_writes rfl) set_rst_writes) (wr_writes rfl)

theorem tempOne_writes {k : Nat} {raw : Int} (hk : k < 8) : s.writesOnly (s.tempOne k raw) [0x051] :=
  .after (.ite (.after set_csr_writes (.after (wr_writes rfl) (wr_writes rfl))) (.refl _)) (wr_writes (writable_nth 8 hk
    (by decide)))

theorem temperatures_writes {raw : List Int} : s.writesOnly (s.temperatures raw) [0x051, 0x058] :=
  .after (.after (.after (.foldl (fun _ _ => .mono (alarm_writes (by decide)) rfl)) set_csr_writes) (.ite (.refl _)
    (irq_writes (by decide)))) (.foldl_lt range_lt (fun _ hx0 _ => .mono (tempOne_writes hx0) rfl))

theorem execChipRstWarm_writes {path : Nat} : s.writesOut [0x001, 0x021, 0x058, 0x060] (execChipRstWarm path s) := by
  refine .guarded fun hok => ?_
  have hpath : path < 8 := of_decide_eq_true hok
  exact .after (gateWrite_writes (fun _ => .mono armReset_writes rfl) hpath rfl) begin_writes

theorem execTemperatureSample_writes {raw : List Int} : s.writesOut [0x051, 0x058] (execTemperatureSample raw s) :=
  .guardedIn (fun _ => .after temperatures_writes begin_writes)

end Sys2Proof.Machine.State
end

section
/-! SUPPORT. The register frames of the Ethernet MACs. -/

namespace Sys2Proof.Machine.State

variable {s : State} {ps : List Nat}

theorem updNet_writes {f : NetState → NetState} : s.writesOnly (s.updNet f) ps := set_net_writes

theorem updMac_writes {m : Nat} {f : EthMac → EthMac} : s.writesOnly (s.updMac m f) ps := updNet_writes

theorem setMacState_writes {m v : Nat} (hm : m < 4) : s.writesOnly (s.setMacState m v) [0x341] :=
  wr_writes (writable_instance 4 hm (by decide))

theorem macDrained_writes {m : Nat} (hm : m < 4) : s.writesOnly (s.macDrained m) [0x341] :=
  .ite (.after (irq_writes (by decide)) (setMacState_writes hm)) (.refl _)

theorem txOne_writes {e : Nat × Nat} {p : List Byte} {m : Nat} (hm : m < 4) : s.writesOnly (s.txOne e p m) [0x341] :=
  .ite updMac_writes (.ite (bump_writes (writable_instance 4 hm (by decide))) (bump_writes (writable_instance 4 hm
    (by decide))))

theorem ethUnit_writes {u : UnitMsg} : s.writesOnly (s.ethUnit u) [0x340, 0x341] := by
  unfold ethUnit
  dsimp only
  split
  · exact .after (irq_writes (by decide)) (bump_writes rfl)
  · exact .ite (.after (irq_writes (by decide)) (bump_writes rfl)) (.ite (.refl _) (.foldl_lt (filter_lt range_lt) (fun _ hx0
      _ => .mono (txOne_writes hx0) rfl)))

theorem pushStamp_writes {x : TxStamp} : s.writesOnly (s.pushStamp x) [0x340] :=
  .ite (.after (irq_writes (by decide)) (bump_writes rfl)) (.after (irq_writes (by decide)) updNet_writes)

theorem txSend_writes {m : Nat} (hm : m < 4) : s.writesOnly (s.txSend m) [0x340, 0x341] := by
  unfold txSend
  dsimp only
  split
  · exact .refl _
  · exact .after (.after (by
      split
      · exact .after (.mono (macDrained_writes hm) rfl) emit_writes
      · exact .ite (.after (.mono (macDrained_writes hm) rfl) emit_writes) (.ite (.after (.mono (macDrained_writes hm) rfl)
          emit_writes) (.after (.mono (macDrained_writes hm) rfl) (.after emit_writes (.mono pushStamp_writes rfl)))))
          (.after tally_writes (bump_writes (writable_instance 4 hm (by decide))))) updMac_writes

theorem txLost_writes {m : Nat} (hm : m < 4) : s.writesOnly (s.txLost m) [0x341] :=
  .after (macDrained_writes hm) (.after updMac_writes (bumpBy_writes (writable_instance 4 hm (by decide))))

theorem macUp_writes {m : Nat} (hm : m < 4) : s.writesOnly (s.macUp m) [0x341] :=
  .ite (.refl _) (.after (.after (.after (.after (irq_writes (by decide)) updMac_writes) (wr_writes (writable_instance 4 hm
    (by decide)))) (wr_writes (writable_instance 4 hm (by decide)))) (setMacState_writes hm))

theorem macDown_writes {m : Nat} {cut : Bool} (hm : m < 4) : s.writesOnly (s.macDown m cut) [0x341] := by
  unfold macDown
  extract_lets t t' t''
  have ht : s.writesOnly t [0x341] := updMac_writes
  have ht' : s.writesOnly t' [0x341] := .after (.ite (setMacState_writes hm) (.refl t)) ht
  have ht'' : s.writesOnly t'' [0x341] := by
    refine .ite ?_ ht'
    split
    · exact .after emit_writes ht'
    · exact ht'
  exact .ite (.after (irq_writes (by decide)) (.after (txLost_writes hm) ht'')) ht

theorem macDrains_writes {m : Nat} (hm : m < 4) : s.writesOnly (s.macDrains m) [0x341] :=
  .ite (.after (macDrained_writes hm) (.after tookFree_writes (.after updMac_writes (setMacState_writes hm)))) (.ite (.after
    (macDrained_writes hm) (setMacState_writes hm)) (.refl _))

theorem macStop_writes {m : Nat} (hm : m < 4) : s.writesOnly (s.macStop m) [0x341] :=
  .after (macDrains_writes hm) (wr_writes (writable_instance 4 hm (by decide)))

theorem macCfgWrite_writes {path m data : Nat} (hpath : path < 8) (hm : m < 4) :
    s.writesOnly (s.macCfgWrite path m data) [0x001, 0x021, 0x058, 0x060, 0x341] :=
  gateWrite_writes (fun _ => .after (.ite (.mono (macStop_writes hm) rfl) (.ite (.after (.ite (.refl _) (.mono
    (setMacState_writes hm) rfl)) (wr_writes (writable_instance 4 hm (by decide)))) (.refl _))) (store_writes
    (stored_instance 4 hm (by decide)))) hpath rfl

theorem clsDone_writes {r : Nat} : s.writesOnly (s.clsDone r) [0x345] := .after (nextIndex_writes rfl) (wr_writes rfl)

theorem clsRead_writes : s.writesOnly s.clsRead [0x345] :=
  .after clsDone_writes (.after (wr_writes rfl) (.after (wr_writes rfl) (wr_writes rfl)))

theorem clsWrite_writes : s.writesOnly s.clsWrite [0x345] :=
  .ite clsDone_writes (.ite clsDone_writes (.after clsDone_writes updNet_writes))

theorem egbDone_writes {r : Nat} : s.writesOnly (s.egbDone r) [0x346] := .after (nextIndex_writes rfl) (wr_writes rfl)

theorem egbRead_writes : s.writesOnly s.egbRead [0x346] := .after egbDone_writes (.after (wr_writes rfl) (wr_writes rfl))

theorem egbWrite_writes : s.writesOnly s.egbWrite [0x346] :=
  .ite egbDone_writes (.ite egbDone_writes (.after egbDone_writes updNet_writes))

theorem execEthEgressUnit_writes {u : UnitMsg} : s.writesOut [0x340, 0x341] (execEthEgressUnit u s) :=
  .nextIn (.after ethUnit_writes begin_writes)

theorem execEthFrameTransmit_writes {m : Nat} : s.writesOut [0x340, 0x341] (execEthFrameTransmit m s) := by
  refine .guardedIn fun hok => ?_
  have hm : m < 4 := of_decide_eq_true hok
  exact .ite (.after (txSend_writes hm) begin_writes) begin_writes

theorem execTxtsRead_writes {path : Nat} : s.writesOut [0x001, 0x021, 0x058, 0x060] (execTxtsRead path s) := by
  refine .guarded fun hok => ?_
  have hpath : path < 8 := of_decide_eq_true hok
  exact .after (gateRead_writes (fun _ => .after answer_writes updNet_writes) hpath rfl) begin_writes

theorem execEthLinkDown_writes {m : Nat} {cut : Bool} : s.writesOut [0x341] (execEthLinkDown m cut s) := by
  refine .guardedIn fun hok => ?_
  have hm : m < 4 := of_decide_eq_true hok
  exact .after (macDown_writes hm) begin_writes

theorem execEthLinkUp_writes {m : Nat} : s.writesOut [0x341] (execEthLinkUp m s) := by
  refine .guardedIn fun hok => ?_
  have hm : m < 4 := of_decide_eq_true hok
  exact .after (macUp_writes hm) begin_writes

theorem execMacDisable_writes {path m data : Nat} :
    s.writesOut [0x001, 0x021, 0x058, 0x060, 0x341] (execMacDisable path m data s) := by
  refine .guarded fun hok => ?_
  simp only [Bool.and_eq_true, decide_eq_true_eq] at hok
  have hpath : path < 8 := by omega
  have hm : m < 4 := by omega
  exact .after (macCfgWrite_writes hpath hm) begin_writes

theorem execMacEnable_writes {path m data : Nat} :
    s.writesOut [0x001, 0x021, 0x058, 0x060, 0x341] (execMacEnable path m data s) := by
  refine .guarded fun hok => ?_
  simp only [Bool.and_eq_true, decide_eq_true_eq] at hok
  have hpath : path < 8 := by omega
  have hm : m < 4 := by omega
  exact .after (macCfgWrite_writes hpath hm) begin_writes

theorem execEthClsRead_writes {path : Nat} : s.writesOut [0x001, 0x021, 0x058, 0x060, 0x345] (execEthClsRead path s) := by
  refine .guarded fun hok => ?_
  have hpath : path < 8 := of_decide_eq_true hok
  exact .after (gateWrite_writes (fun _ => .mono clsRead_writes rfl) hpath rfl) begin_writes

theorem execEthClsWrite_writes {path : Nat} : s.writesOut [0x001, 0x021, 0x058, 0x060, 0x345] (execEthClsWrite path s) := by
  refine .guarded fun hok => ?_
  have hpath : path < 8 := of_decide_eq_true hok
  exact .after (gateWrite_writes (fun _ => .mono clsWrite_writes rfl) hpath rfl) begin_writes

theorem execEthEgbRead_writes {path : Nat} : s.writesOut [0x001, 0x021, 0x058, 0x060, 0x346] (execEthEgbRead path s) := by
  refine .guarded fun hok => ?_
  have hpath : path < 8 := of_decide_eq_true hok
  exact .after (gateWrite_writes (fun _ => .mono egbRead_writes rfl) hpath rfl) begin_writes

theorem execEthEgbWrite_writes {path : Nat} : s.writesOut [0x001, 0x021, 0x058, 0x060, 0x346] (execEthEgbWrite path s) := by
  refine .guarded fun hok => ?_
  have hpath : path < 8 := of_decide_eq_true hok
  exact .after (gateWrite_writes (fun _ => .mono egbWrite_writes rfl) hpath rfl) begin_writes

end Sys2Proof.Machine.State
end

section
/-! SUPPORT. The register frames of storage. -/

namespace Sys2Proof.Machine.State

variable {s : State} {ps : List Nat}

theorem updSto_writes {f : StoState → StoState} : s.writesOnly (s.updSto f) ps := set_sto_writes

theorem setStoPort_writes {p : Nat} {x : StoPort} : s.writesOnly (s.setStoPort p x) ps := updSto_writes

theorem setRpState_writes {p v : Nat} (hp : p < 2) : s.writesOnly (s.setRpState p v) [0x311] :=
  wr_writes (writable_instance 2 hp (by decide))

theorem nvme_writes {p : Nat} {m : NvmeOut} : s.writesOnly (s.nvme p m) ps := emit_writes

theorem rpShut_writes {p : Nat} (hp : p < 2) : s.writesOnly (s.rpShut p) [0x311] :=
  .ite (.after (.after setStoPort_writes (.after (wr_writes (writable_instance 2 hp (by decide))) (.after (wr_writes
    (writable_instance 2 hp (by decide))) (.after (wr_writes (writable_instance 2 hp (by decide))) (setRpState_writes hp)))))
    (.ite nvme_writes (.refl _))) (.refl _)

theorem rpFail_writes {p cause : Nat} (hp : p < 2) : s.writesOnly (s.rpFail p cause) [0x311] :=
  .after (rpShut_writes hp) (.after (irq_writes (by decide)) (.after setStoPort_writes (.after (wr_writes (writable_instance
    2 hp (by decide))) (setRpState_writes hp))))

theorem fillEntry_writes {p k : Nat} {l : Option NsInfo} : s.writesOnly (s.fillEntry p k l) [0x313] := by
  unfold fillEntry
  split
  · exact .after (wr_writes (writable_bank rfl rfl)) (.after (wr_writes (writable_bank rfl rfl)) (.after (wr_writes
      (writable_bank rfl rfl)) (.after (wr_writes (writable_bank rfl rfl)) (.after (wr_writes (writable_bank rfl rfl))
      (wr_writes (writable_bank rfl rfl))))))
  · exact .after (wr_writes (writable_bank rfl rfl)) (.after (wr_writes (writable_bank rfl rfl)) (.after (wr_writes
      (writable_bank rfl rfl)) (.after (wr_writes (writable_bank rfl rfl)) (.after (wr_writes (writable_bank rfl rfl))
      (wr_writes (writable_bank rfl rfl))))))

theorem fillSpaces_writes {p : Nat} {l : List NsInfo} : s.writesOnly (s.fillSpaces p l) [0x313] :=
  .foldl (fun _ _ => fillEntry_writes)

theorem execControllerReadyTimeout_writes {p : Nat} : s.writesOut [0x311] (execControllerReadyTimeout p s) := by
  refine .guardedIn fun hok => ?_
  have hp : p < 2 := of_decide_eq_true hok
  exact .ite (.after (rpFail_writes hp) begin_writes) begin_writes

theorem execRpRescan_writes {path p : Nat} {spaces : List NsInfo} :
    s.writesOut [0x001, 0x021, 0x058, 0x060, 0x311, 0x313] (execRpRescan path p spaces s) := by
  refine .guarded fun hok => ?_
  simp only [Bool.and_eq_true, decide_eq_true_eq] at hok
  have hpath : path < 8 := by omega
  have hp : p < 2 := by omega
  exact .after (gateWrite_writes (fun _ => .ite (wr_writes (writable_instance 2 hp (by decide))) (.after (.mono
    fillSpaces_writes rfl) (wr_writes (writable_instance 2 hp (by decide))))) hpath rfl) begin_writes

theorem execAerMessage_writes {p : Nat} {uncorr : Bool} : s.writesOut [0x311] (execAerMessage p uncorr s) := by
  refine .guardedIn fun hok => ?_
  have hp : p < 2 := of_decide_eq_true hok
  exact .after (irq_writes (by decide)) (.after (bump_writes (writable_instance 2 hp (by split <;> decide))) begin_writes)

end Sys2Proof.Machine.State
end

section
/-! SUPPORT. The register frames of USB. -/

namespace Sys2Proof.Machine.State

variable {s : State} {ps : List Nat}

theorem updUsb_writes {f : UsbState → UsbState} : s.writesOnly (s.updUsb f) ps := set_usb_writes

theorem setEp_writes {e : Nat} {x : UsbEp} : s.writesOnly (s.setEp e x) ps := updUsb_writes

theorem setEpBuf_writes {e : Nat} {x : UsbEp} : s.writesOnly (s.setEpBuf e x) [0x351] :=
  .after (.after (wr_writes (writable_bank rfl rfl)) (wr_writes (writable_bank rfl rfl))) setEp_writes

theorem flipToggle_writes {e : Nat} : s.writesOnly (s.flipToggle e) [0x351] := wr_writes (writable_bank rfl rfl)

theorem usbDetach_writes : s.writesOnly s.usbDetach [0x350] :=
  .after (.after (.after (wr_writes rfl) (.after (wr_writes rfl) (wr_writes rfl))) (.after (wr_writes rfl) (.after (wr_writes
    rfl) (wr_writes rfl)))) updUsb_writes

theorem usbAttach_writes : s.writesOnly s.usbAttach [0x350] := .ite (.after (wr_writes rfl) updUsb_writes) (.refl _)

theorem usbDetachIfDone_writes : s.writesOnly s.usbDetachIfDone [0x350] := .ite usbDetach_writes (.refl _)

theorem epDrained_writes {e : Nat} : s.writesOnly (s.epDrained e) [0x350, 0x351] :=
  .ite (.after (.mono usbDetachIfDone_writes rfl) (.after (irq_writes (by decide)) (wr_writes (writable_bank rfl rfl))))
    (.refl _)

theorem epEmptied_writes {e : Nat} : s.writesOnly (s.epEmptied e) [0x350, 0x351] :=
  .after epDrained_writes (.mono setEpBuf_writes rfl)

theorem dropPacket_writes {e : Nat} : s.writesOnly (s.dropPacket e) [0x350, 0x351] :=
  .after (.after epEmptied_writes updUsb_writes) (.ite setIngress_writes (.refl _))

theorem flushEp_writes {e : Nat} : s.writesOnly (s.flushEp e) [0x350, 0x351] :=
  .ite (.refl _) (.after dropPacket_writes (bump_writes (writable_bank rfl rfl)))

theorem usbUnbound_writes : s.writesOnly s.usbUnbound [0x350] := .after (irq_writes (by decide)) (bump_writes rfl)

theorem usbBadUnit_writes : s.writesOnly s.usbBadUnit [0x350] := .after (irq_writes (by decide)) (bump_writes rfl)

theorem usbTake_writes {e : Nat} {data : List Byte} {last : Bool} : s.writesOnly (s.usbTake e data last) [0x350, 0x351] :=
  .after (.ite (wr_writes rfl) (.refl _)) (.mono setEpBuf_writes rfl)

theorem usbUnit_writes {u : UnitMsg} : s.writesOnly (s.usbUnit u) [0x350, 0x351] := by
  unfold usbUnit
  dsimp only
  split
  · exact .mono usbUnbound_writes rfl
  · exact .ite (.mono usbBadUnit_writes rfl) (.ite (bump_writes (writable_bank rfl rfl)) (.ite (.refl _) usbTake_writes))

theorem usbAcked_writes {e : Nat} : s.writesOnly (s.usbAcked e) [0x350, 0x351] := by
  unfold usbAcked
  dsimp only
  split
  · exact .refl _
  · exact .ite (.refl _) (.after (.ite epEmptied_writes (.after (.ite setEp_writes epEmptied_writes) (bumpWrap_writes
      (writable_bank rfl rfl)))) (.after tally_writes (.mono flipToggle_writes rfl)))

theorem usbFence_writes {u : UnitMsg} : s.writesOnly (s.usbFence u) [0x350, 0x351] := by
  unfold usbFence
  dsimp only
  split
  · exact .mono usbUnbound_writes rfl
  · exact .ite (.mono usbBadUnit_writes rfl) (.ite (bump_writes (writable_bank rfl rfl)) (.ite (.refl _) setEp_writes))

theorem usbResetUnit_writes {u : UnitMsg} : s.writesOnly (s.usbResetUnit u) [0x350, 0x351] := by
  unfold usbResetUnit
  dsimp only
  split
  · exact .mono usbUnbound_writes rfl
  · exact .ite (.mono usbBadUnit_writes rfl) (.ite (bump_writes (writable_bank rfl rfl)) (.after (.ite setEp_writes
      flushEp_writes) (.after (irq_writes (by decide)) (bump_writes (writable_bank rfl rfl)))))

theorem setHalt_writes {e : Nat} : s.writesOnly (s.setHalt e) [0x350, 0x351] :=
  .after (.ite flushEp_writes (.refl _)) (wr_writes (writable_bank rfl rfl))

theorem usbSuspend_writes {selective : Bool} : s.writesOnly (s.usbSuspend selective) [0x350] :=
  .ite (.refl _) (.ite (.ite (.refl _) updUsb_writes) (.after (.after (irq_writes (by decide)) (.after (bump_writes rfl)
    (wr_writes rfl))) updUsb_writes))

theorem portChanged_writes {n bit : Nat} : s.writesOnly (s.portChanged n bit) ps := updUsb_writes

theorem wakeSignal_writes : s.writesOnly s.wakeSignal ps := .after emit_writes updUsb_writes

theorem hostResume_writes : s.writesOnly s.hostResume [0x350] :=
  .ite (.refl _) (.after (.after (.after (.after (.ite (.after (.ite (.refl _) (bump_writes rfl)) (.after (irq_writes
    (by decide)) (bump_writes rfl))) (.refl _)) (.after (irq_writes (by decide)) updUsb_writes)) (.after (wr_writes rfl)
    (wr_writes rfl))) (.ite portChanged_writes (.refl _))) (.ite emit_writes (.refl _)))

theorem epDrains_writes {e : Nat} : s.writesOnly (s.epDrains e) [0x350, 0x351] :=
  .ite (.after epDrained_writes (wr_writes (writable_bank rfl rfl))) (.refl _)

theorem epStop_writes {e : Nat} : s.writesOnly (s.epStop e) [0x350, 0x351] :=
  .after epDrains_writes (wr_writes (writable_bank rfl rfl))

theorem epDrainEnd_writes {e : Nat} : s.writesOnly (s.epDrainEnd e) [0x350, 0x351] :=
  .ite (.refl _) (.after dropPacket_writes (bump_writes (writable_bank rfl rfl)))

theorem usbDrainAll_writes : s.writesOnly s.usbDrainAll [0x350, 0x351] := .foldl (fun _ _ => epStop_writes)

theorem usbCfgWrite_writes {path data : Nat} (hpath : path < 8) :
    s.writesOnly (s.usbCfgWrite path data) [0x001, 0x021, 0x058, 0x060, 0x350, 0x351] :=
  gateWrite_writes (fun _ => .after (.ite (.after (.mono usbDetachIfDone_writes rfl) (.after (.mono usbDrainAll_writes rfl)
    (wr_writes rfl))) (.ite (.refl _) (.after (.mono usbAttach_writes rfl) (wr_writes rfl)))) (store_writes (by decide)))
    hpath rfl

theorem hubEvent_writes : s.writesOnly s.hubEvent ps := .ite updUsb_writes (.refl _)

theorem resetGone_writes {n : Nat} : s.writesOnly (s.resetGone n) ps := updUsb_writes

theorem execUsbInUnit_writes {u : UnitMsg} : s.writesOut [0x350, 0x351] (execUsbInUnit u s) :=
  .nextIn (.after usbUnit_writes begin_writes)

theorem execUsbInAck_writes {e : Nat} : s.writesOut [0x350, 0x351] (execUsbInAck e s) :=
  .guardedIn (fun _ => .after usbAcked_writes begin_writes)

theorem execUsbFence_writes {u : UnitMsg} : s.writesOut [0x350, 0x351] (execUsbFence u s) :=
  .nextIn (.after usbFence_writes begin_writes)

theorem execUsbEndpointResetUnit_writes {u : UnitMsg} : s.writesOut [0x350, 0x351] (execUsbEndpointResetUnit u s) :=
  .nextIn (.after usbResetUnit_writes begin_writes)

theorem execUsbEndpointHalt_writes {e : Nat} : s.writesOut [0x350, 0x351] (execUsbEndpointHalt e s) :=
  .guardedIn (fun _ => .ite (.after setHalt_writes begin_writes) begin_writes)

theorem execUsbSuspend_writes : s.writesOut [0x350] (execUsbSuspend s) := .nextIn (.after usbSuspend_writes begin_writes)

theorem execUsbPort5Suspend_writes : s.writesOut [0x350] (execUsbPort5Suspend s) :=
  .nextIn (.after usbSuspend_writes begin_writes)

theorem execUsbWakeSignal_writes : s.writesOut ps (execUsbWakeSignal s) :=
  .nextIn (.ite (.after wakeSignal_writes begin_writes) begin_writes)

theorem execUsbHostResume_writes : s.writesOut [0x350] (execUsbHostResume s) :=
  .nextIn (.after hostResume_writes begin_writes)

theorem execUsbVbusChange_writes {present : Bool} : s.writesOut [0x350] (execUsbVbusChange present s) :=
  .nextIn (.after (.ite usbAttach_writes usbDetach_writes) (.after (wr_writes rfl) begin_writes))

theorem execUsbFunctionEnWrite_writes {path data : Nat} :
    s.writesOut [0x001, 0x021, 0x058, 0x060, 0x350, 0x351] (execUsbFunctionEnWrite path data s) := by
  refine .guarded fun hok => ?_
  have hpath : path < 8 := of_decide_eq_true hok
  exact .after (usbCfgWrite_writes hpath) begin_writes

theorem execUsbEpDrainTimeout_writes {e : Nat} : s.writesOut [0x350, 0x351] (execUsbEpDrainTimeout e s) :=
  .guardedIn (fun _ => .after epDrainEnd_writes begin_writes)

theorem execUsbOverCurrent_writes {n : Nat} : s.writesOut [0x352] (execUsbOverCurrent n s) := by
  refine .guardedIn fun hok => ?_
  have hn : n < 4 := of_decide_eq_true hok
  exact .after (.after hubEvent_writes (.after portChanged_writes (.after (irq_writes (by omega)) (.after (bump_writes
    (writable_nth 4 hn (by decide))) resetGone_writes)))) (.after (wr_writes (writable_nth 4 hn (by decide))) (.after
    (wr_writes (writable_nth 4 hn (by decide))) (.after (wr_writes (writable_nth 4 hn (by decide))) begin_writes)))

theorem execDownstreamPortConnect_writes {n : Nat} {connected : Bool} {speed : Nat} :
    s.writesOut [0x352] (execDownstreamPortConnect n connected speed s) := by
  refine .guardedIn fun hok => ?_
  simp only [Bool.and_eq_true, decide_eq_true_eq] at hok
  have hn : n < 4 := by omega
  exact .after (.ite (.refl _) (.after (.after portChanged_writes (.after (irq_writes (by omega)) (wr_writes (writable_nth 4
    hn (by decide))))) (.after resetGone_writes (wr_writes (writable_nth 4 hn (by decide)))))) begin_writes

end Sys2Proof.Machine.State
end

section
/-! SUPPORT. The register frames of the message router and the windows. -/

namespace Sys2Proof.Machine.State

variable {s : State} {ps : List Nat}

theorem mrtDone_writes {r : Nat} : s.writesOnly (s.mrtDone r) [0x328] := .after (nextIndex_writes rfl) (wr_writes rfl)

theorem mrtRead_writes : s.writesOnly s.mrtRead [0x328] := .after mrtDone_writes (.after (wr_writes rfl) (wr_writes rfl))

theorem mrtWrite_writes : s.writesOnly s.mrtWrite [0x328] :=
  .ite mrtDone_writes (.ite mrtDone_writes (.ite mrtDone_writes (.after mrtDone_writes updBrg_writes)))

theorem mrtClear_writes : s.writesOnly s.mrtClear [0x328] := .after mrtDone_writes updBrg_writes

theorem causeRead_writes {path : Nat} : s.writesOnly (s.causeRead path) ps := by
  unfold causeRead
  split
  · exact answer_writes
  · exact .after answer_writes updBrg_writes

theorem execMrtCauseRead_writes {path : Nat} : s.writesOut [0x001, 0x021, 0x058, 0x060] (execMrtCauseRead path s) := by
  refine .guarded fun hok => ?_
  have hpath : path < 8 := of_decide_eq_true hok
  exact .after (gateRead_writes (fun _ => causeRead_writes) hpath rfl) begin_writes

theorem execMrtRead_writes {path : Nat} : s.writesOut [0x001, 0x021, 0x058, 0x060, 0x328] (execMrtRead path s) := by
  refine .guarded fun hok => ?_
  have hpath : path < 8 := of_decide_eq_true hok
  exact .after (gateWrite_writes (fun _ => .mono mrtRead_writes rfl) hpath rfl) begin_writes

theorem execMrtWrite_writes {path : Nat} : s.writesOut [0x001, 0x021, 0x058, 0x060, 0x328] (execMrtWrite path s) := by
  refine .guarded fun hok => ?_
  have hpath : path < 8 := of_decide_eq_true hok
  exact .after (gateWrite_writes (fun _ => .mono mrtWrite_writes rfl) hpath rfl) begin_writes

theorem execMrtClear_writes {path : Nat} : s.writesOut [0x001, 0x021, 0x058, 0x060, 0x328] (execMrtClear path s) := by
  refine .guarded fun hok => ?_
  have hpath : path < 8 := of_decide_eq_true hok
  exact .after (gateWrite_writes (fun _ => .mono mrtClear_writes rfl) hpath rfl) begin_writes

end Sys2Proof.Machine.State
end

section
/-! SUPPORT. The register frames of the power states. -/

namespace Sys2Proof.Machine.State

variable {s : State} {ps : List Nat}

theorem alertLow_writes {l : List Nat} : s.writesOnly (s.alertLow l) [0x031, 0x058] := .ite regAlert_writes updPwr_writes

theorem execPmbusAlert_writes {st : List Nat} : s.writesOut [0x031, 0x058] (execPmbusAlert st s) :=
  .guardedIn (fun _ => .after alertLow_writes begin_writes)

theorem execAonTrim_writes {ppm : Int} : s.writesOut [0x032] (execAonTrim ppm s) :=
  .guardedIn (fun _ => .after (wr_writes rfl) begin_writes)

theorem execDramSelfRefreshEntry_writes : s.writesOut ps (execDramSelfRefreshEntry s) :=
  .nextIn (.after (.ite selfRefresh_writes (.refl _)) begin_writes)

end Sys2Proof.Machine.State
end

section
/-! SUPPORT. The register frame of every command whose pages are fixed, at the dispatch. -/

namespace Sys2Proof.Machine.State

variable {s : State} {ps qs : List Nat}

/-- The frame at the pages that the frame condition names for a command. -/
theorem writesOut.of_pages {i : Instr} {o : Host.Outcome State Fault Refusal} (hp : i.pages = some qs) (h : s.writesOut ps o)
    (hps : i.pages.all (fun qs => ps.all qs.contains) = true) : s.writesOut qs o := by
  rw [hp] at hps
  exact h.mono hps

theorem exec_writes (i : Instr) (hp : i.pages = some ps) : s.writesOut ps (exec i s) := by
  cases i with
  | unitIngress => exact .of_pages hp execUnitIngress_writes rfl
  | fenceArrival => exact .of_pages hp (execFenceArrival_writes (ps := [])) rfl
  | fenceTimeout => exact .of_pages hp execFenceTimeout_writes rfl
  | scrubPass => exact .of_pages hp execScrubPass_writes rfl
  | tmapReadA => exact .of_pages hp execTmapReadA_writes rfl
  | tmapReadB => exact .of_pages hp execTmapReadB_writes rfl
  | tmapStage => exact .of_pages hp execTmapStage_writes rfl
  | tmapCommit => exact .of_pages hp execTmapCommit_writes rfl
  | tmapCommitApply => exact .of_pages hp execTmapCommitApply_writes rfl
  | tmapCommitPairTimeout => exact .of_pages hp execTmapCommitPairTimeout_writes rfl
  | tmapDiscard => exact .of_pages hp execTmapDiscard_writes rfl
  | tmapReadStaged => exact .of_pages hp execTmapReadStaged_writes rfl
  | ackTimerExpiry => exact .of_pages hp (execAckTimerExpiry_writes (ps := [])) rfl
  | ackSend => exact .of_pages hp execAckSend_writes rfl
  | replayTimerExpiry => exact .of_pages hp execReplayTimerExpiry_writes rfl
  | creditReceived => exact .of_pages hp execCreditReceived_writes rfl
  | creditRefresh => exact .of_pages hp (execCreditRefresh_writes (ps := [])) rfl
  | ctlErr => exact .of_pages hp execCtlErr_writes rfl
  | capBlockSend => exact .of_pages hp (execCapBlockSend_writes (ps := [])) rfl
  | capTimeout => exact .of_pages hp execCapTimeout_writes rfl
  | linkDownDwell => exact .of_pages hp execLinkDownDwell_writes rfl
  | trainStepDone => exact .of_pages hp execTrainStepDone_writes rfl
  | trainStepTimeout => exact .of_pages hp execTrainStepTimeout_writes rfl
  | trainRetry => exact .of_pages hp (execTrainRetry_writes (ps := [])) rfl
  | healthSend => exact .of_pages hp (execHealthSend_writes (ps := [])) rfl
  | substReqRepeat => exact .of_pages hp (execSubstReqRepeat_writes (ps := [])) rfl
  | substReqReceived => exact .of_pages hp execSubstReqReceived_writes rfl
  | switchReceived => exact .of_pages hp execSwitchReceived_writes rfl
  | learningDone => exact .of_pages hp execLearningDone_writes rfl
  | laneSubstitute => exact .of_pages hp execLaneSubstitute_writes rfl
  | laneRequalify => exact .of_pages hp execLaneRequalify_writes rfl
  | laneRelearn => exact .of_pages hp execLaneRelearn_writes rfl
  | requalified => exact .of_pages hp execRequalified_writes rfl
  | altModeWrite => exact .of_pages hp execAltModeWrite_writes rfl
  | planeEnable => exact .of_pages hp execPlaneEnable_writes rfl
  | planeRestartBegin => exact .of_pages hp execPlaneRestartBegin_writes rfl
  | planeRestartCmd => exact .of_pages hp execPlaneRestartCmd_writes rfl
  | sheepdogSweepStart => exact .of_pages hp execSheepdogSweepStart_writes rfl
  | sheepdogVisit => exact .of_pages hp execSheepdogVisit_writes rfl
  | mcgRead => exact .of_pages hp execMcgRead_writes rfl
  | mcgStage => exact .of_pages hp execMcgStage_writes rfl
  | mcgCommit => exact .of_pages hp execMcgCommit_writes rfl
  | mcgCommitApply => exact .of_pages hp execMcgCommitApply_writes rfl
  | mcgCommitPairTimeout => exact .of_pages hp execMcgCommitPairTimeout_writes rfl
  | mcgDiscard => exact .of_pages hp execMcgDiscard_writes rfl
  | mcgReadStaged => exact .of_pages hp execMcgReadStaged_writes rfl
  | replicaMismatch => exact .of_pages hp execReplicaMismatch_writes rfl
  | authorityClaim => exact .of_pages hp execAuthorityClaim_writes rfl
  | pairHeartbeat => exact .of_pages hp execPairHeartbeat_writes rfl
  | pairHeartbeatMiss => exact .of_pages hp execPairHeartbeatMiss_writes rfl
  | pairHalt => exact .of_pages hp execPairHalt_writes rfl
  | rgmHandover => exact .of_pages hp execRgmHandover_writes rfl
  | rgmSwapLive => exact .of_pages hp execRgmSwapLive_writes rfl
  | parkScan => exact .of_pages hp (execParkScan_writes (ps := [])) rfl
  | carouselSlotEnd => exact .of_pages hp (execCarouselSlotEnd_writes (ps := [])) rfl
  | missDeadline => exact .of_pages hp execMissDeadline_writes rfl
  | refillBoundary => exact .of_pages hp execRefillBoundary_writes rfl
  | schQRead => exact .of_pages hp execSchQRead_writes rfl
  | schQWrite => exact .of_pages hp execSchQWrite_writes rfl
  | schAlRead => exact .of_pages hp execSchAlRead_writes rfl
  | schAlWrite => exact .of_pages hp execSchAlWrite_writes rfl
  | schAlReadPending => exact .of_pages hp execSchAlReadPending_writes rfl
  | schPolRead => exact .of_pages hp execSchPolRead_writes rfl
  | schPolWrite => exact .of_pages hp execSchPolWrite_writes rfl
  | schPolClearCnt => exact .of_pages hp execSchPolClearCnt_writes rfl
  | schRelSet => exact .of_pages hp execSchRelSet_writes rfl
  | schRelClr => exact .of_pages hp execSchRelClr_writes rfl
  | samplerVisit => exact .of_pages hp execSamplerVisit_writes rfl
  | schSmpRead => exact .of_pages hp execSchSmpRead_writes rfl
  | schSmpClear => exact .of_pages hp execSchSmpClear_writes rfl
  | histSelWrite => exact .of_pages hp execHistSelWrite_writes rfl
  | timNowRead => exact .of_pages hp execTimNowRead_writes rfl
  | timeSet => exact .of_pages hp execTimeSet_writes rfl
  | timeStep => exact .of_pages hp execTimeStep_writes rfl
  | timeSlew => exact .of_pages hp execTimeSlew_writes rfl
  | slewAbort => exact .of_pages hp execSlewAbort_writes rfl
  | timeCapture => exact .of_pages hp execTimeCapture_writes rfl
  | fadjWrite => exact .of_pages hp execFadjWrite_writes rfl
  | sourceQualified => exact .of_pages hp execSourceQualified_writes rfl
  | sourceDisqualified => exact .of_pages hp execSourceDisqualified_writes rfl
  | sourceHoldExpiry => exact .of_pages hp execSourceHoldExpiry_writes rfl
  | ptpQualWrite => exact .of_pages hp execPtpQualWrite_writes rfl
  | ptpTmo => exact .of_pages hp execPtpTmo_writes rfl
  | irigFrame => exact .of_pages hp execIrigFrame_writes rfl
  | irigFault => exact .of_pages hp execIrigFault_writes rfl
  | ppsEdge => exact .of_pages hp execPpsEdge_writes rfl
  | ppsFault => exact .of_pages hp execPpsFault_writes rfl
  | holdTimeExpiry => exact .of_pages hp execHoldTimeExpiry_writes rfl
  | exchangeOriginate => exact .of_pages hp (execExchangeOriginate_writes (ps := [])) rfl
  | timeSymbolReceived => exact .of_pages hp (execTimeSymbolReceived_writes (ps := [])) rfl
  | timeEchoReceived => exact .of_pages hp execTimeEchoReceived_writes rfl
  | exchangeTimeout => exact .of_pages hp execExchangeTimeout_writes rfl
  | asymTrimReceived => exact .of_pages hp execAsymTrimReceived_writes rfl
  | ppsOutRise => exact .of_pages hp (execPpsOutRise_writes (ps := [])) rfl
  | ppsOutFall => exact .of_pages hp (execPpsOutFall_writes (ps := [])) rfl
  | journalEntryWrite => exact .of_pages hp execJournalEntryWrite_writes rfl
  | jnlTailWrite => exact .of_pages hp execJnlTailWrite_writes rfl
  | jnlDataRead => exact .of_pages hp execJnlDataRead_writes rfl
  | jnlSwWrite => exact .of_pages hp execJnlSwWrite_writes rfl
  | modeSet => exact .of_pages hp execModeSet_writes rfl
  | rectRaw => exact .of_pages hp execRectRaw_writes rfl
  | rectTile => exact .of_pages hp execRectTile_writes rfl
  | cursor => exact .of_pages hp execCursor_writes rfl
  | flip => exact .of_pages hp execFlip_writes rfl
  | displayFence => exact .of_pages hp execDisplayFence_writes rfl
  | frameStart => exact .of_pages hp execFrameStart_writes rfl
  | psrStandby => exact .of_pages hp execPsrStandby_writes rfl
  | modeChangeDone => exact .of_pages hp execModeChangeDone_writes rfl
  | copyDone => exact .of_pages hp execCopyDone_writes rfl
  | fetchStart => exact .of_pages hp execFetchStart_writes rfl
  | fetchDramUncorr => exact .of_pages hp execFetchDramUncorr_writes rfl
  | latencyToleranceUpdate => exact .of_pages hp execLatencyToleranceUpdate_writes rfl
  | underrun => exact .of_pages hp execUnderrun_writes rfl
  | hpdPlug => exact .of_pages hp execHpdPlug_writes rfl
  | hpdUnplug => exact .of_pages hp execHpdUnplug_writes rfl
  | irqHpd => exact .of_pages hp execIrqHpd_writes rfl
  | outputTrainAttemptDone => exact .of_pages hp execOutputTrainAttemptDone_writes rfl
  | auxNativeRead => exact .of_pages hp execAuxNativeRead_writes rfl
  | auxNativeWrite => exact .of_pages hp execAuxNativeWrite_writes rfl
  | auxI2cRead => exact .of_pages hp execAuxI2cRead_writes rfl
  | auxI2cWrite => exact .of_pages hp execAuxI2cWrite_writes rfl
  | auxReply => exact .of_pages hp execAuxReply_writes rfl
  | auxTimeout => exact .of_pages hp execAuxTimeout_writes rfl
  | sourceDisable => exact .of_pages hp execSourceDisable_writes rfl
  | sourceDrainTimeout => exact .of_pages hp execSourceDrainTimeout_writes rfl
  | controllerReadyTimeout => exact .of_pages hp execControllerReadyTimeout_writes rfl
  | rpRescan => exact .of_pages hp execRpRescan_writes rfl
  | aerMessage => exact .of_pages hp execAerMessage_writes rfl
  | hbrSemRead => exact .of_pages hp execHbrSemRead_writes rfl
  | hbrSemRelease => exact .of_pages hp execHbrSemRelease_writes rfl
  | mrtCauseRead => exact .of_pages hp execMrtCauseRead_writes rfl
  | mrtRead => exact .of_pages hp execMrtRead_writes rfl
  | mrtWrite => exact .of_pages hp execMrtWrite_writes rfl
  | mrtClear => exact .of_pages hp execMrtClear_writes rfl
  | hostLinkUp => exact .of_pages hp execHostLinkUp_writes rfl
  | ethEgressUnit => exact .of_pages hp execEthEgressUnit_writes rfl
  | ethFrameTransmit => exact .of_pages hp execEthFrameTransmit_writes rfl
  | txtsRead => exact .of_pages hp execTxtsRead_writes rfl
  | ethLinkDown => exact .of_pages hp execEthLinkDown_writes rfl
  | ethLinkUp => exact .of_pages hp execEthLinkUp_writes rfl
  | macDisable => exact .of_pages hp execMacDisable_writes rfl
  | ethClsRead => exact .of_pages hp execEthClsRead_writes rfl
  | ethClsWrite => exact .of_pages hp execEthClsWrite_writes rfl
  | ethEgbRead => exact .of_pages hp execEthEgbRead_writes rfl
  | ethEgbWrite => exact .of_pages hp execEthEgbWrite_writes rfl
  | usbInUnit => exact .of_pages hp execUsbInUnit_writes rfl
  | usbInAck => exact .of_pages hp execUsbInAck_writes rfl
  | usbFence => exact .of_pages hp execUsbFence_writes rfl
  | usbEndpointResetUnit => exact .of_pages hp execUsbEndpointResetUnit_writes rfl
  | usbEndpointHalt => exact .of_pages hp execUsbEndpointHalt_writes rfl
  | usbSuspend => exact .of_pages hp execUsbSuspend_writes rfl
  | usbPort5Suspend => exact .of_pages hp execUsbPort5Suspend_writes rfl
  | usbWakeSignal => exact .of_pages hp (execUsbWakeSignal_writes (ps := [])) rfl
  | usbHostResume => exact .of_pages hp execUsbHostResume_writes rfl
  | usbVbusChange => exact .of_pages hp execUsbVbusChange_writes rfl
  | usbFunctionEnWrite => exact .of_pages hp execUsbFunctionEnWrite_writes rfl
  | usbEpDrainTimeout => exact .of_pages hp execUsbEpDrainTimeout_writes rfl
  | usbOverCurrent => exact .of_pages hp execUsbOverCurrent_writes rfl
  | engCmdqPush => exact .of_pages hp execEngCmdqPush_writes rfl
  | engRspRead => exact .of_pages hp execEngRspRead_writes rfl
  | engineSend => exact .of_pages hp execEngineSend_writes rfl
  | checkpointDoorbell => exact .of_pages hp execCheckpointDoorbell_writes rfl
  | ckptStale => exact .of_pages hp execCkptStale_writes rfl
  | engineWatchdog => exact .of_pages hp (execEngineWatchdog_writes (ps := [])) rfl
  | engineFault => exact .of_pages hp execEngineFault_writes rfl
  | engRestart => exact .of_pages hp execEngRestart_writes rfl
  | engineReloadDone => exact .of_pages hp execEngineReloadDone_writes rfl
  | engReload => exact .of_pages hp execEngReload_writes rfl
  | reloadComplete => exact .of_pages hp execReloadComplete_writes rfl
  | engineStart => exact .of_pages hp execEngineStart_writes rfl
  | engineDisable => exact .of_pages hp execEngineDisable_writes rfl
  | engineDrainTimeout => exact .of_pages hp execEngineDrainTimeout_writes rfl
  | engCacheLoad => exact .of_pages hp execEngCacheLoad_writes rfl
  | engCacheEvict => exact .of_pages hp execEngCacheEvict_writes rfl
  | engBindRead => exact .of_pages hp execEngBindRead_writes rfl
  | engBindWrite => exact .of_pages hp execEngBindWrite_writes rfl
  | wdtKick => exact .of_pages hp execWdtKick_writes rfl
  | pairWatchdogExpiry => exact .of_pages hp execPairWatchdogExpiry_writes rfl
  | pairRestart => exact .of_pages hp execPairRestart_writes rfl
  | restartA => exact .of_pages hp execRestartA_writes rfl
  | restartB => exact .of_pages hp execRestartB_writes rfl
  | stopB => exact .of_pages hp execStopB_writes rfl
  | ecallYield => exact .of_pages hp (execEcallYield_writes (ps := [])) rfl
  | ecallSetHandler => exact .of_pages hp (execEcallSetHandler_writes (ps := [])) rfl
  | ecallIrqForward => exact .of_pages hp (execEcallIrqForward_writes (ps := [])) rfl
  | ecallMboxRead => exact .of_pages hp execEcallMboxRead_writes rfl
  | pairbFault => exact .of_pages hp execPairbFault_writes rfl
  | flashRead => exact .of_pages hp execFlashRead_writes rfl
  | flashProgram => exact .of_pages hp execFlashProgram_writes rfl
  | flashErase4k => exact .of_pages hp execFlashErase4k_writes rfl
  | flashErase64k => exact .of_pages hp execFlashErase64k_writes rfl
  | flashOpDone => exact .of_pages hp execFlashOpDone_writes rfl
  | evcSelWrite => exact .of_pages hp execEvcSelWrite_writes rfl
  | evcClear => exact .of_pages hp execEvcClear_writes rfl
  | evcFreeze => exact .of_pages hp execEvcFreeze_writes rfl
  | evcWrap => exact .of_pages hp (execEvcWrap_writes (ps := [])) rfl
  | keyAuthRead => exact .of_pages hp execKeyAuthRead_writes rfl
  | keyAuthWrite => exact .of_pages hp execKeyAuthWrite_writes rfl
  | keyAuthLock => exact .of_pages hp execKeyAuthLock_writes rfl
  | provision => exact .of_pages hp execProvision_writes rfl
  | keyLoad => exact .of_pages hp execKeyLoad_writes rfl
  | keyClear => exact .of_pages hp execKeyClear_writes rfl
  | keyGenerate => exact .of_pages hp execKeyGenerate_writes rfl
  | keyWrap => exact .of_pages hp execKeyWrap_writes rfl
  | keyDerive => exact .of_pages hp execKeyDerive_writes rfl
  | keySign => exact .of_pages hp execKeySign_writes rfl
  | keyMac => exact .of_pages hp execKeyMac_writes rfl
  | keyReadPub => exact .of_pages hp execKeyReadPub_writes rfl
  | keyReadAttPub => exact .of_pages hp execKeyReadAttPub_writes rfl
  | keyCmdComplete => exact .of_pages hp execKeyCmdComplete_writes rfl
  | otpProgCodeHash => exact .of_pages hp execOtpProgCodeHash_writes rfl
  | otpProgDebugHash => exact .of_pages hp execOtpProgDebugHash_writes rfl
  | otpSetDbgNever => exact .of_pages hp execOtpSetDbgNever_writes rfl
  | otpRaiseSvn => exact .of_pages hp execOtpRaiseSvn_writes rfl
  | otpCommandDone => exact .of_pages hp execOtpCommandDone_writes rfl
  | tamperLock => exact .of_pages hp execTamperLock_writes rfl
  | attest => exact .of_pages hp execAttest_writes rfl
  | debugChallenge => exact .of_pages hp execDebugChallenge_writes rfl
  | debugRespond => exact .of_pages hp execDebugRespond_writes rfl
  | debugClose => exact .of_pages hp execDebugClose_writes rfl
  | debugNonceExpiry => exact .of_pages hp execDebugNonceExpiry_writes rfl
  | channelEnable => exact .of_pages hp execChannelEnable_writes rfl
  | channelDisable => exact .of_pages hp execChannelDisable_writes rfl
  | channelDirWrite => exact .of_pages hp execChannelDirWrite_writes rfl
  | startConditionsMet => exact .of_pages hp execStartConditionsMet_writes rfl
  | rampComplete => exact .of_pages hp execRampComplete_writes rfl
  | startTimeout => exact .of_pages hp execStartTimeout_writes rfl
  | enhanceDone => exact .of_pages hp execEnhanceDone_writes rfl
  | passDeviceTimeout => exact .of_pages hp execPassDeviceTimeout_writes rfl
  | instantTrip => exact .of_pages hp execInstantTrip_writes rfl
  | breakerTick => exact .of_pages hp execBreakerTick_writes rfl
  | autoRetry => exact .of_pages hp execAutoRetry_writes rfl
  | reverseCurrent => exact .of_pages hp execReverseCurrent_writes rfl
  | forwardRecovery => exact .of_pages hp execForwardRecovery_writes rfl
  | faultTimerExpiry => exact .of_pages hp execFaultTimerExpiry_writes rfl
  | powerGoodUpdate => exact .of_pages hp execPowerGoodUpdate_writes rfl
  | fetShort => exact .of_pages hp execFetShort_writes rfl
  | pdOverTemp => exact .of_pages hp execPdOverTemp_writes rfl
  | seatSettled => exact .of_pages hp execSeatSettled_writes rfl
  | inputOutOfRange => exact .of_pages hp execInputOutOfRange_writes rfl
  | channelSample => exact .of_pages hp execChannelSample_writes rfl
  | fusClear => exact .of_pages hp execFusClear_writes rfl
  | applyCurve => exact .of_pages hp execApplyCurve_writes rfl
  | setHeat => exact .of_pages hp execSetHeat_writes rfl
  | peakClr => exact .of_pages hp execPeakClr_writes rfl
  | energyClr => exact .of_pages hp execEnergyClr_writes rfl
  | preloadProgram => exact .of_pages hp execPreloadProgram_writes rfl
  | pdLinkUp => exact .of_pages hp execPdLinkUp_writes rfl
  | pdLinkLost => exact .of_pages hp execPdLinkLost_writes rfl
  | pdTimeCorrection => exact .of_pages hp (execPdTimeCorrection_writes (ps := [])) rfl
  | vinPdLow => exact .of_pages hp execVinPdLow_writes rfl
  | cpdEnableWrite => exact .of_pages hp execCpdEnableWrite_writes rfl
  | cpdSend => exact .of_pages hp execCpdSend_writes rfl
  | cpdTransmitStart => exact .of_pages hp (execCpdTransmitStart_writes (ps := [])) rfl
  | cpdGoodcrcReceived => exact .of_pages hp execCpdGoodcrcReceived_writes rfl
  | cpdRetryTimeout => exact .of_pages hp execCpdRetryTimeout_writes rfl
  | cpdCollision => exact .of_pages hp execCpdCollision_writes rfl
  | cpdRxRead => exact .of_pages hp execCpdRxRead_writes rfl
  | cpdResponseTimeout => exact .of_pages hp execCpdResponseTimeout_writes rfl
  | cpdSwapEnd => exact .of_pages hp execCpdSwapEnd_writes rfl
  | cpdHardReset => exact .of_pages hp execCpdHardReset_writes rfl
  | hardResetReceived => exact .of_pages hp execHardResetReceived_writes rfl
  | psHrExpiry => exact .of_pages hp execPsHrExpiry_writes rfl
  | srcRecoverExpiry => exact .of_pages hp execSrcRecoverExpiry_writes rfl
  | recoverMaxExpiry => exact .of_pages hp execRecoverMaxExpiry_writes rfl
  | cpdFrsSend => exact .of_pages hp execCpdFrsSend_writes rfl
  | autoFrs => exact .of_pages hp execAutoFrs_writes rfl
  | frsDetected => exact .of_pages hp execFrsDetected_writes rfl
  | cpdFrsConfirm => exact .of_pages hp execCpdFrsConfirm_writes rfl
  | frsTmo => exact .of_pages hp (execFrsTmo_writes (ps := [])) rfl
  | pmbusAlert => exact .of_pages hp execPmbusAlert_writes rfl
  | aonTrim => exact .of_pages hp execAonTrim_writes rfl
  | chipRstWarm => exact .of_pages hp execChipRstWarm_writes rfl
  | temperatureSample => exact .of_pages hp execTemperatureSample_writes rfl
  | dramSelfRefreshEntry => exact .of_pages hp (execDramSelfRefreshEntry_writes (ps := [])) rfl
  | downstreamPortConnect => exact .of_pages hp execDownstreamPortConnect_writes rfl
  | engineTakeEntry => exact .of_pages hp execEngineTakeEntry_writes rfl
  | engineWdtKick => exact .of_pages hp (execEngineWdtKick_writes (ps := [])) rfl
  | engineRspPost => exact .of_pages hp (execEngineRspPost_writes (ps := [])) rfl
  | engCacheLoadDone => exact .of_pages hp execEngCacheLoadDone_writes rfl
  | sourceEnable => exact .of_pages hp execSourceEnable_writes rfl
  | macEnable => exact .of_pages hp execMacEnable_writes rfl
  | crossPlaneHeartbeat => exact .of_pages hp (execCrossPlaneHeartbeat_writes (ps := [])) rfl
  | _ => cases hp

end Sys2Proof.Machine.State
end

section
namespace Sys2Proof.Proofs

open Sys2Proof.Machine Sys2Proof.Machine.State

/-- Settles O35: the dispatch of each command to an operation whose register frame has its pages. -/
theorem everyCommandWritesItsOwnPages : Obligations.EveryCommandWritesItsOwnPages := fun i _ t _ ht hp => exec_writes i hp t ht

end Sys2Proof.Proofs
end

end

section
/-! SUPPORT. What the loss of a link may write: it reaches the host bridge, whose semaphores and windows the state numbers,
and no control register of a page header below the planes' pages. -/

namespace Sys2Proof.Machine.State

variable {s t u : State} {f : Field} {i j n v : Nat}

/-- A register that is no control register of the header of a page below 0x100, or one of the event counters' page. -/
def beyondControls (k : Nat) : Bool :=
  decide (2 ^ 25 ≤ k) || decide (0x40 ≤ keyAddr k % 4096) || [0x010, 0x020, 0x024, 0x028, 0x02C].contains (keyAddr k % 4096) ||
    keyPage k == 0x014

theorem beyondControls_eq_false {k : Nat} : beyondControls k = false ↔ k < 2 ^ 25 ∧ keyAddr k % 4096 < 0x40 ∧
    keyAddr k % 4096 ∉ [0x010, 0x020, 0x024, 0x028, 0x02C] ∧ keyPage k ≠ 0x014 := by
  simp [beyondControls, and_assoc]

/-- The registers of page 0x100 and above, whatever their index. -/
theorem control_above (h : 0x100000 ≤ f.addr) : beyondControls (f.key i j) = true := by
  have hkey : 2 ^ 25 ≤ f.key i j := by
    unfold Field.key
    omega
  rw [beyondControls, decide_eq_true hkey]
  rfl

/-- The registers of a block of pages keep their offset, whatever the page. -/
theorem control_beyond (hi : f.si % 4096 = 0) (hj : f.sj % 4096 = 0) (hl : f.lsb / 32 = 0) (ho : 0x40 ≤ f.addr % 4096) :
    beyondControls (f.key i j) = true := by
  obtain ⟨a, ha⟩ := Nat.dvd_of_mod_eq_zero hi
  obtain ⟨b, hb⟩ := Nat.dvd_of_mod_eq_zero hj
  have hkey : f.key i j / 32 = f.addr + 4096 * (i * a + j * b) := by
    rw [Field.key, ha, hb, Nat.mul_add, Nat.mul_left_comm i, Nat.mul_left_comm j]
    omega
  have hoff : 0x40 ≤ keyAddr (f.key i j) % 4096 := by
    rw [keyAddr, hkey]
    omega
  simp [beyondControls, hoff]

namespace writesAt

/-- A register frame without the headers' family. -/
theorem of_writes {ps : List Nat} (h : s.writesOnly t ps) (hps : ps.contains 0x400 = false) : s.writesAt beyondControls t := by
  intro d k hk
  obtain ⟨-, hoff, hshared, h14⟩ := beyondControls_eq_false.mp hk
  refine h d k hshared h14 fun hm => ?_
  rw [keyFamily, if_pos hoff, ← List.elem_iff] at hm
  exact Bool.false_ne_true (hps.symm.trans hm)

theorem of_any (h : s.writesOnly t []) : s.writesAt beyondControls t := of_writes h rfl

end writesAt

theorem bumpBy_writesAt {p : Nat → Bool} (h : p (f.key i j) = true) : s.writesAt p (s.bumpBy f v i j) := .ite (wr_writesAt h) (.refl s)

theorem bumpWrap_writesAt {p : Nat → Bool} (h : p (f.key i j) = true) : s.writesAt p (s.bumpWrap f i j) := .ite (wr_writesAt h) (.refl s)

/-- The fold of a list of operations of one frame. -/
theorem writesAt.foldl_each {α : Type} {l : List α} {g : State → α → State} {p : Nat → Bool} (h : ∀ (v : State) (x : α), v.writesAt p (g v x)) :
    s.writesAt p (l.foldl g s) := .foldl fun x _ v => h v x

theorem discardOpen_writesAt {p h : Nat} : s.writesAt beyondControls (s.discardOpen p h) := by
  unfold discardOpen
  dsimp only
  split
  · exact .refl _
  · exact .after (.foldl_each (fun _ _ => .of_any dropMember_writes)) (.of_any unlinkVoqs_writes)

theorem timeLinkDown_writesAt (hn : n < 16) : s.writesAt beyondControls (s.timeLinkDown n) := by
  have hdelay : s.writesOnly (s.timeLinkDown n) [0x040, 0x042, 0x058] := by
    unfold timeLinkDown
    exact .after (.mono reselect_writes rfl) (.after (wr_writes (writable_nth 16 hn (by decide)))
      (.after (wr_writes (writable_nth 16 hn (by decide))) (.after (wr_writes (writable_nth 16 hn (by decide))) setTrunkTime_writes)))
  exact .of_writes hdelay rfl

theorem setReq_writesAt {t : Nat} {r : BrgReq} : s.writesAt beyondControls (s.setReq t r) := .of_any updBrg_writes

theorem tlpOut_writesAt {e : Emit} : s.writesAt beyondControls (s.tlpOut e) :=
  .after (.of_any tally_writes) (.of_any emit_writes)

theorem completeData_writesAt {id status : Nat} {locked : Bool} {fuel a : Nat} {bs : List Byte} :
    s.writesAt beyondControls (s.completeData id status locked fuel a bs) := by
  induction fuel generalizing s a bs with
  | zero => exact .refl s
  | succ fuel ih => exact .after (.ite (.refl _) ih) tlpOut_writesAt

theorem complete_writesAt {id status : Nat} {locked : Bool} : s.writesAt beyondControls (s.complete id status locked) :=
  tlpOut_writesAt

theorem owinMiss_writesAt : s.writesAt beyondControls s.owinMiss := bump_writesAt (control_above (by decide))

theorem winUnit_writesAt {w kind : Nat} {payload : List Byte} {tsw : Nat} :
    s.writesAt beyondControls (s.winUnit w kind payload tsw) :=
  .of_writes originUnitAt_writes rfl

theorem takeTag_writesAt {r : BrgReq} : s.writesAt beyondControls (s.takeTag r).1 := by
  unfold takeTag
  split
  · exact .refl _
  · exact .after setReq_writesAt (.of_any updBrg_writes)

theorem sendRead_writesAt {t : Nat} {r : BrgReq} : s.writesAt beyondControls (s.sendRead t r) :=
  .after winUnit_writesAt (.of_any updSch_writes)

theorem sendNow_writesAt {y : BrgWait} : s.writesAt beyondControls (s.sendNow y) := by
  unfold sendNow
  dsimp only
  split
  · exact winUnit_writesAt
  · exact .after winUnit_writesAt takeTag_writesAt
  · exact winUnit_writesAt
  · exact .after (bumpWrap_writesAt (control_above (by decide))) winUnit_writesAt
  · exact .after sendRead_writesAt takeTag_writesAt
  · exact .after sendRead_writesAt takeTag_writesAt

theorem semTake_writesAt {i emu path : Nat} : s.writesAt beyondControls (s.semTake i emu path) :=
  .after (wr_writesAt (control_above (by decide))) (.after (wr_writesAt (control_above (by decide))) (wr_writesAt
    (control_above (by decide))))

theorem semFree_writesAt {i : Nat} : s.writesAt beyondControls (s.semFree i) :=
  .after (wr_writesAt (control_above (by decide))) (.after (wr_writesAt (control_above (by decide))) (wr_writesAt
    (control_above (by decide))))

theorem aborted_writesAt {l : BrgSend} : s.writesAt beyondControls (s.aborted l) := by
  unfold aborted
  split
  · exact complete_writesAt
  · exact complete_writesAt
  · exact .refl _

theorem semLeft_writesAt {x : BrgSend} : s.writesAt beyondControls (s.semLeft x) := by
  unfold semLeft
  split
  · exact semFree_writesAt
  · exact .refl _

theorem submit_writesAt {x : BrgWait} : s.writesAt beyondControls (s.submit x) :=
  .ite (.after (bump_writesAt (control_above (by decide))) (.after semLeft_writesAt aborted_writesAt)) (.ite sendNow_writesAt
    (.of_any updBrg_writes))

theorem pumpSends_writesAt : s.writesAt beyondControls s.pumpSends :=
  .after (.foldl_each (fun _ _ => submit_writesAt)) (.of_any updBrg_writes)

theorem accepted_writesAt {x : BrgSend} : s.writesAt beyondControls (s.accepted x).1 := .of_any updBrg_writes

theorem acceptSend_writesAt {x : BrgSend} : s.writesAt beyondControls (s.acceptSend x) :=
  .after submit_writesAt accepted_writesAt

theorem semGo_writesAt {x : BrgWait} : s.writesAt beyondControls (s.semGo x) := by
  unfold semGo
  dsimp only
  exact .after (by
    split
    · exact .after submit_writesAt (.of_any updBrg_writes)
    · exact submit_writesAt) semTake_writesAt

theorem semAsk_writesAt {x : BrgSend} : s.writesAt beyondControls (s.semAsk x) :=
  .ite (.after (.of_any updBrg_writes) accepted_writesAt) (.after semGo_writesAt accepted_writesAt)

theorem unlockWin_writesAt {w : Nat} : s.writesAt beyondControls (s.unlockWin w) :=
  .ite (.refl _) (.after semFree_writesAt (.of_any updBrg_writes))

theorem unlockAll_writesAt : s.writesAt beyondControls s.unlockAll := by
  unfold unlockAll
  split
  · exact .refl _
  · exact .foldl_each (fun _ _ => unlockWin_writesAt)

theorem owinDrained_writesAt {w : Nat} : s.writesAt beyondControls (s.owinDrained w) :=
  .ite (.after (.of_any (irq_writes (by decide))) (wr_writesAt (control_above (by decide)))) (.refl _)

theorem freeTag_writesAt {t : Nat} {r : BrgReq} : s.writesAt beyondControls (s.freeTag t r) :=
  .after (.of_any updBrg_writes) setReq_writesAt

theorem unlockSettled_writesAt : s.writesAt beyondControls s.unlockSettled :=
  .ite (.after pumpSends_writesAt unlockAll_writesAt) (.refl _)

theorem afterEnd_writesAt {w : Nat} : s.writesAt beyondControls (s.afterEnd w) :=
  .after owinDrained_writesAt (.after unlockSettled_writesAt pumpSends_writesAt)

theorem npFail_writesAt {w status : Nat} : s.writesAt beyondControls (s.npFail w status) :=
  .after (.of_writes (event_writes (by decide)) rfl) (bump_writesAt (control_above (by decide)))

theorem torn_writesAt {r : BrgReq} : s.writesAt beyondControls (s.torn r) :=
  .after (.of_writes (event_writes (by decide)) rfl) (bump_writesAt (control_above (by decide)))

theorem failRead_writesAt {r : BrgReq} {status : Nat} {locked : Bool} :
    s.writesAt beyondControls (s.failRead r status locked) :=
  .ite completeData_writesAt complete_writesAt

theorem failReq_writesAt {r : BrgReq} {status : Nat} {quiet : Bool} : s.writesAt beyondControls (s.failReq r status quiet) := by
  unfold failReq
  split
  · exact .ite (.refl _) failRead_writesAt
  · exact .ite (.refl _) failRead_writesAt
  · exact npFail_writesAt
  · exact .after semFree_writesAt (.ite (.refl _) complete_writesAt)
  · exact .after semFree_writesAt (.after torn_writesAt (.ite (.refl _) complete_writesAt))

theorem endEarly_writesAt {quiet : Bool} {t : Nat} (hf : 0x100000 ≤ f.addr) : s.writesAt beyondControls (s.endEarly f quiet t) := by
  unfold endEarly
  split
  · exact .refl s
  next r =>
    refine .ite (.refl s) ?_
    extract_lets a b c
    have ha : s.writesAt beyondControls a := .after (bump_writesAt (control_above hf)) failReq_writesAt
    have hb : s.writesAt beyondControls b := .ite (.after (.of_any tally_writes) ha) ha
    have hc : s.writesAt beyondControls c := .after (.of_any updBrg_writes) hb
    exact .after afterEnd_writesAt (.after (.of_any (irq_writes (by decide))) (.after freeTag_writesAt hc))

theorem hostWrite_writesAt {off : Nat} {data : List (Option Byte)} {attr : Nat} :
    s.writesAt beyondControls (s.hostWrite off data attr) :=
  .ite owinMiss_writesAt (.ite (.ite acceptSend_writesAt acceptSend_writesAt) (.ite owinMiss_writesAt (.ite owinMiss_writesAt
    (.foldl_each (fun _ _ => acceptSend_writesAt)))))

theorem winRead_writesAt {off len host attr : Nat} : s.writesAt beyondControls (s.winRead off len host attr) :=
  .ite (.after owinMiss_writesAt complete_writesAt) (.ite complete_writesAt (.ite (.after (bump_writesAt (control_above
    (by decide))) complete_writesAt) acceptSend_writesAt))

theorem hostAtomic_writesAt {off op size operand compare host attr : Nat} :
    s.writesAt beyondControls (s.hostAtomic off op size operand compare host attr) :=
  .ite (.after owinMiss_writesAt complete_writesAt) (.ite complete_writesAt (.ite (.after (bump_writesAt (control_above
    (by decide))) complete_writesAt) semAsk_writesAt))

theorem hostLocked_writesAt {off len host attr : Nat} : s.writesAt beyondControls (s.hostLocked off len host attr) :=
  .ite (.after owinMiss_writesAt complete_writesAt) (.ite complete_writesAt (.ite (.after (bump_writesAt (control_above
    (by decide))) complete_writesAt) (.ite acceptSend_writesAt semAsk_writesAt)))

theorem hostUnlock_writesAt : s.writesAt beyondControls s.hostUnlock := .after unlockSettled_writesAt (.of_any updBrg_writes)

theorem hostRead_writesAt {space : HostSpace} {off len host attr : Nat} :
    s.writesAt beyondControls (s.hostRead space off len host attr) := by
  unfold hostRead
  dsimp only
  split
  · exact winRead_writesAt
  · exact .after (.of_any set_free_writes) completeData_writesAt
  · exact .after (.of_any set_free_writes) completeData_writesAt

theorem hostConfig_writesAt {bme mps mrrs : Nat} {msixEn : Bool} {conf : HostConf} :
    s.writesAt beyondControls (s.hostConfig bme mps mrrs msixEn conf) :=
  .after (.of_any msixFlush_writes) (.after (.of_any updBrg_writes) (.after (wr_writesAt (control_above (by decide))) (.after
    (wr_writesAt (control_above (by decide))) (wr_writesAt (control_above (by decide))))))

theorem hostVector_writesAt {v addr data : Nat} {masked : Bool} :
    s.writesAt beyondControls (s.hostVector v addr data masked) :=
  .after (.of_any msixFlush_writes) (.of_any updBrg_writes)

theorem hostTakes_writesAt {l : HostReq} : s.writesAt beyondControls (s.hostTakes l) := by
  unfold hostTakes
  split
  · exact hostWrite_writesAt
  · exact hostRead_writesAt
  · exact hostAtomic_writesAt
  · exact hostLocked_writesAt
  · exact hostUnlock_writesAt
  · exact hostConfig_writesAt
  · exact hostVector_writesAt

theorem hostPump_writesAt {fuel : Nat} : s.writesAt beyondControls (s.hostPump fuel) := by
  induction fuel generalizing s with
  | zero => exact .refl s
  | succ fuel ih =>
    unfold hostPump
    split
    · split
      · exact .ite (.refl s) (.after ih (.after hostTakes_writesAt (.of_any set_pwr_writes)))
      · exact .refl s
    · exact .refl s

theorem iwinDrained_writesAt {i : Nat} : s.writesAt beyondControls (s.iwinDrained i) :=
  .ite (.after (.of_any (irq_writes (by decide))) (wr_writesAt (control_above (by decide)))) (.refl _)

theorem answersEntered_writesAt : s.writesAt beyondControls s.answersEntered := .of_any updBrg_writes

theorem bridgeSettled_writesAt : s.writesAt beyondControls s.bridgeSettled :=
  .after (.after hostPump_writesAt (.foldl_each (fun _ _ => iwinDrained_writesAt))) (.after (.foldl_each (fun _ _ =>
    owinDrained_writesAt)) (.after unlockSettled_writesAt (.after pumpSends_writesAt answersEntered_writesAt)))

theorem lockLostAt_writesAt {w : Nat} : s.writesAt beyondControls (s.lockLostAt w) :=
  .after unlockWin_writesAt (.of_any updBrg_writes)

theorem bridgeTrunkDown_writesAt : s.writesAt beyondControls (s.bridgeTrunkDown n) := by
  have habort : ∀ (v : State) (x : BrgSend), v.writesAt beyondControls ((v.aborted x).bump R.HBR_ABT_DOWN) := fun _ _ =>
    .after (bump_writesAt (control_above (by decide))) aborted_writesAt
  have hend : ∀ (v : State) (t : Nat), v.writesAt beyondControls (v.endEarly R.HBR_ABT_DOWN false t) := fun _ _ =>
    endEarly_writesAt (by decide)
  unfold bridgeTrunkDown
  exact .after bridgeSettled_writesAt (.after (.foldl_each hend) (.after pumpSends_writesAt (.after (.foldl_each fun v x => habort v x.2.send)
    (.after (.of_any updBrg_writes) (.foldl_each fun _ _ => lockLostAt_writesAt)))))

theorem purgeUnit_writesAt {n p : Nat} {sentOf : Nat → Option Nat} {keep : Bool} {h : Nat} (hp : p < 2) :
    s.writesAt beyondControls (s.purgeUnit n p sentOf keep h) := by
  unfold purgeUnit
  split
  · exact .ite (.refl _) (.of_any dropMember_writes)
  · exact .after (.of_writes (downDisc_writes hp) rfl) (.of_any dropMember_writes)

theorem purgePlane_writesAt {n : Nat} {keep : Bool} {p : Nat} (hp : p < 2) :
    s.writesAt beyondControls (s.purgePlane n keep p) :=
  .after (.foldl_each (fun _ _ => purgeUnit_writesAt hp)) (.of_any updPlane_writes)

theorem purgePort_writesAt {n : Nat} {keep : Bool} : s.writesAt beyondControls (s.purgePort n keep) :=
  .after (.after (.after (.of_any updEgress_writes) (.of_any updTun_writes)) (.of_any updSch_writes)) (.after
    (purgePlane_writesAt (by decide)) (purgePlane_writesAt (by decide)))

theorem dropOpens_writesAt {n : Nat} : s.writesAt beyondControls (s.dropOpens n) :=
  .after (.of_any updLink_writes) (.foldl_each (fun _ _ => .foldl_each (fun _ _ => discardOpen_writesAt)))

theorem dropReservation_writesAt {n : Nat} : s.writesAt beyondControls (s.dropReservation n) :=
  .after (.of_any updSch_writes) (.foldl_each (fun _ _ => .of_any updPlane_writes))

theorem stallEnds_writesAt {n : Nat} : s.writesAt beyondControls (s.stallEnds n) := by
  unfold stallEnds
  split
  · exact .refl _
  · exact .after (.of_any updLink_writes) (bumpBy_writesAt (control_beyond rfl rfl rfl (by decide)))

theorem dropTraffic_writesAt : s.writesAt beyondControls (s.dropTraffic n) := by
  unfold dropTraffic
  extract_lets a b c
  have hb : s.writesAt beyondControls b :=
    .after (bumpBy_writesAt (control_beyond rfl rfl rfl (by decide))) stallEnds_writesAt
  have hc : s.writesAt beyondControls c := .after dropReservation_writesAt (.after dropOpens_writesAt (.after purgePort_writesAt hb))
  exact .after (.of_any updLink_writes) hc

theorem declareDown_writesAt {cause : Nat} (hn : n < 16) : s.writesAt beyondControls (s.declareDown n cause) := by
  unfold declareDown
  extract_lets a
  have ha : s.writesAt beyondControls a := .after (bump_writesAt (control_beyond rfl rfl rfl (by decide)))
    (.after (wr_writesAt (control_beyond rfl rfl rfl (by decide))) (wr_writesAt (control_beyond rfl rfl rfl (by decide))))
  exact .after bridgeTrunkDown_writesAt (.after (timeLinkDown_writesAt hn) (.after (.of_writes (event_writes (by decide)) rfl) ha))

theorem linkToDown_writesAt {n cause : Nat} (hn : n < 16) : s.writesAt beyondControls (s.linkToDown n cause) :=
  .after (.ite (.after dropTraffic_writesAt (declareDown_writesAt hn)) (.ite dropTraffic_writesAt (.refl _))) (.of_writes
    (enterDown_writes hn) rfl)

end Sys2Proof.Machine.State
end

section
/-! SUPPORT. The header of a page through its soft reset (R550). -/

namespace Sys2Proof.Machine.State

variable {s : State} {f : Field} {page : Nat}

/-- The fields of a page header that a soft reset leaves. -/
def controlFields : List Field :=
  [R.PAGE_CTL_EN, R.PAGE_CTL_LOCK, R.PAGE_IRQ_EN, R.PAGE_AUTH_RD, R.PAGE_AUTH_WR, R.PAGE_SCRATCH]

/-- The fields of a page header that a soft reset clears. -/
def clearedFields : List Field :=
  [R.ERR_CAPT0_VALID, R.ERR_CAPT1, R.ERR_CAPT2_COUNT, R.ERR_CAPT3_NS] ++ (List.range 32).map irqField

/-- A field of the header of every page. -/
def headerField (f : Field) : Prop := f.si = 0x1000 ∧ f.sj = 0 ∧ f.lsb < 32 ∧ f.addr < 0x40

theorem headerField.key (h : headerField f) (hp : page < 0x400) :
    keyPage (f.key page 0) = page ∧ keyAddr (f.key page 0) % 4096 = f.addr ∧ f.key page 0 = (f.addr + page * 4096) * 32 + f.lsb := by
  obtain ⟨hsi, hsj, hl, ha⟩ := h
  simp only [keyPage, keyAddr, Field.key, hsi, hsj]
  omega

theorem controlFields_header : ∀ f ∈ controlFields, headerField f ∧ f.addr ∉ [0x010, 0x020, 0x024, 0x028, 0x02C] ∧
    f.addr * 32 + f.lsb ≠ R.PAGE_CTL_SRST.addr * 32 + R.PAGE_CTL_SRST.lsb := by
  unfold headerField
  decide

theorem clearedFields_header : ∀ f ∈ clearedFields, headerField f ∧ f.addr ∈ [0x010, 0x020, 0x024, 0x028, 0x02C] := by
  unfold headerField
  decide

theorem clearedFields_resetAt (hf : f ∈ clearedFields) : f.resetAt page 0 = 0 := by
  have hconst : ∀ f ∈ clearedFields, f.rule = .const ∧ f.reset = 0 := by decide
  obtain ⟨hrule, hreset⟩ := hconst f hf
  rw [Field.resetAt, hrule]
  exact hreset

/-- No register of a page header is a counter. -/
theorem keyCounter_header {k : Nat} (h : keyAddr k % 4096 < 0x40) : keyCounter k = false := by
  have hreg : ∀ r ∈ headerRegs, ∀ f ∈ r.fields, (f.acc == Access.ctr) = false := by decide
  unfold keyCounter keyAcc
  split
  next f hf =>
    obtain ⟨x, hx, hfind⟩ := Option.bind_eq_some_iff.mp hf
    have hmem : x.reg ∈ headerRegs := by
      unfold placeAt at hx
      dsimp only at hx
      split at hx
      · cases hx
      · obtain ⟨r, hr, rfl⟩ := Option.map_eq_some_iff.mp hx
        exact List.mem_of_find?_eq_some hr
    exact hreg _ hmem f (List.mem_of_find?_eq_some hfind)
  next => rfl

theorem softResetHeader_rd_kept (hf : f ∈ controlFields) (hp : page < 0x400) : (s.softResetHeader page).rd f page = s.rd f page := by
  obtain ⟨hh, hoff, -⟩ := controlFields_header f hf
  obtain ⟨-, hk, -⟩ := hh.key hp
  have hout : (f.addr == 0x010 || (decide (0x020 ≤ f.addr) && decide (f.addr ≤ 0x02C))) = false :=
    (by decide : ∀ f ∈ controlFields, (f.addr == 0x010 || (decide (0x020 ≤ f.addr) && decide (f.addr ≤ 0x02C))) = false) f hf
  refine rd_eraseKeys_kept (p := fun k => keyPage k == page && (keyAddr k % 4096 == 0x010 ||
    (decide (0x020 ≤ keyAddr k % 4096) && decide (keyAddr k % 4096 ≤ 0x02C)))) ?_
  rw [hk, hout, Bool.and_false]

theorem softResetHeader_rd_cleared (hf : f ∈ clearedFields) (hp : page < 0x400) : (s.softResetHeader page).rd f page = 0 := by
  obtain ⟨hh, -⟩ := clearedFields_header f hf
  obtain ⟨hpage, hk, -⟩ := hh.key hp
  have hin : (f.addr == 0x010 || (decide (0x020 ≤ f.addr) && decide (f.addr ≤ 0x02C))) = true :=
    (by decide : ∀ f ∈ clearedFields, (f.addr == 0x010 || (decide (0x020 ≤ f.addr) && decide (f.addr ≤ 0x02C))) = true) f hf
  refine (rd_eraseKeys_erased (p := fun k => keyPage k == page && (keyAddr k % 4096 == 0x010 ||
    (decide (0x020 ≤ keyAddr k % 4096) && decide (keyAddr k % 4096 ≤ 0x02C)))) ?_).trans (clearedFields_resetAt hf)
  rw [hk, hin, hpage, Bool.and_true, beq_self_eq_true]

/-- No cleared or kept field shares the bit of SRST. -/
theorem headerField.key_ne_srst (h : headerField f) (hp : page < 0x400)
    (hne : f.addr * 32 + f.lsb ≠ R.PAGE_CTL_SRST.addr * 32 + R.PAGE_CTL_SRST.lsb) : f.key page 0 ≠ R.PAGE_CTL_SRST.key page 0 := by
  obtain ⟨-, -, hk⟩ := h.key hp
  obtain ⟨-, -, hk'⟩ := headerField.key (f := R.PAGE_CTL_SRST) (by unfold headerField; decide) hp
  rw [hk, hk']
  omega

theorem clearedFields_ne_srst : ∀ f ∈ clearedFields, f.addr * 32 + f.lsb ≠ R.PAGE_CTL_SRST.addr * 32 + R.PAGE_CTL_SRST.lsb := by
  decide

theorem softReset_rd_cleared (hf : f ∈ clearedFields) (hp : page < 0x400) : (s.softReset page).rd f page = 0 := by
  have hne := (clearedFields_header f hf).1.key_ne_srst hp (clearedFields_ne_srst f hf)
  rw [softReset, rd_wr_ne hne, softResetHeader_rd_cleared hf hp]

/-! ### The chapters' parts -/

/-- The number of a page below 0x100 among those of its block. -/
theorem pageRegs_instance : (∀ p < 0x100, 0x080 ≤ p → (pageRegs p).1 < 16) ∧ ∀ p < 0x073, 0x061 ≤ p → (pageRegs p).1 < 18 := by
  decide +kernel

/-- Away from the links' pages a soft reset touches no header, no DRAM and no link. -/
theorem softResetExtra_other (h : page < 0x080 ∨ 0x100 ≤ page) :
    s.writesOnly (s.softResetExtra page) [0x041, 0x051, 0x058, 0x061, 0x100] ∧ (s.softResetExtra page).dram = s.dram ∧
      (s.softResetExtra page).links = s.links := by
  unfold softResetExtra
  extract_lets i
  rw [if_neg (by omega)]
  split
  next h61 =>
    have hi : i < 18 := pageRegs_instance.2 page (by omega) h61.1
    exact ⟨.mono (peakClear_writes hi) rfl, rfl, rfl⟩
  split
  · exact ⟨updTun_writes, rfl, rfl⟩
  · exact ⟨wr_writes rfl, rfl, rfl⟩
  · exact ⟨wr_writes rfl, rfl, rfl⟩
  · exact ⟨updSch_writes, rfl, rfl⟩
  · exact ⟨updSch_writes, rfl, rfl⟩
  · exact ⟨.after (.foldl_lt (n := 3) (by decide) fun _ hc _ => wr_writes (writable_nth 3 hc (by decide))) updTim_writes, rfl, rfl⟩
  · exact ⟨.after (t := s.wr R.MON_JNL_TAIL (s.rd R.MON_JNL_HEAD)) (.of_regs rfl) (wr_writes rfl), rfl, rfl⟩
  · exact ⟨updNet_writes, rfl, rfl⟩
  · exact ⟨.after (t := (s.wr R.MON_TEMP_MAX_TEMP 0).wr R.MON_TEMP_MAX_SENSOR 0) (.of_regs rfl) (.after (wr_writes rfl) (wr_writes rfl)),
      rfl, rfl⟩
  · exact ⟨.refl s, rfl, rfl⟩

/-- On the links' pages it keeps the controls of every header below the planes' pages. -/
theorem softResetExtra_link (h : 0x080 ≤ page) (h' : page < 0x100) : s.writesAt beyondControls (s.softResetExtra page) := by
  have hi := pageRegs_instance.1 page h' h
  unfold softResetExtra
  extract_lets i
  rw [if_pos ⟨h, by omega⟩]
  split
  · exact linkToDown_writesAt hi
  · exact .of_writes (ps := [0x082]) (.foldl_lt (n := 3) (by decide) fun _ hk _ =>
      .after (wr_writes (writable_within 16 3 hi hk (by decide))) (wr_writes (writable_within 16 3 hi hk (by decide)))) rfl
  · exact .refl s

theorem softResetExtra_rd_control (hf : f ∈ controlFields) (hp : page < 0x400) : (s.softResetExtra page).rd f page = s.rd f page := by
  obtain ⟨hh, hoff, -⟩ := controlFields_header f hf
  obtain ⟨hpage, hk, hkey⟩ := hh.key hp
  have hlow : keyAddr (f.key page 0) % 4096 < 0x40 := hk ▸ hh.2.2.2
  by_cases hlink : 0x080 ≤ page ∧ page < 0x100
  · refine (softResetExtra_link hlink.1 hlink.2).rd (beyondControls_eq_false.mpr ⟨?_, hlow, hk ▸ hoff, by omega⟩)
    obtain ⟨-, -, hlsb, haddr⟩ := hh
    omega
  · by_cases h14 : page = 0x014
    · subst h14
      rfl
    · refine (softResetExtra_other (s := s) (by omega)).1 _ _ (hk ▸ hoff) (by omega) ?_
      rw [keyFamily, if_pos hlow]
      decide

/-- A page soft reset keeps the controls of the page's header. -/
theorem softReset_rd_control (hf : f ∈ controlFields) (hp : page < 0x400) : (s.softReset page).rd f page = s.rd f page := by
  obtain ⟨hh, hoff, hne⟩ := controlFields_header f hf
  obtain ⟨-, hk, -⟩ := hh.key hp
  have hctr : keyCounter (f.key page 0) = false := keyCounter_header (hk ▸ hh.2.2.2)
  have hcounters : (if keepsCounters page then s else s.eraseKeys (fun k => keyPage k == page && keyCounter k)).rd f page = s.rd f page := by
    split
    · rfl
    · exact rd_eraseKeys_kept (by rw [hctr, Bool.and_false])
  rw [softReset, rd_wr_ne (hh.key_ne_srst hp hne), softResetHeader_rd_kept hf hp, softResetExtra_rd_control hf hp, hcounters]

/-- The page's latches are released on every path. -/
theorem softReset_latched {path a : Nat} (ha : a < 2 ^ 22) (hpage : a / 4096 = page) : (s.softReset page).latched path a = 0 := by
  refine Tab.get_of_forall_ne fun e he hk => ?_
  have hkept := (List.mem_filter.mp he).2
  have hkey : (e.1 % 2 ^ 22 / 4096 == page) = true := beq_iff_eq.mpr (by
    rw [← hk, pairKey]
    omega)
  change (!(e.1 % 2 ^ 22 / 4096 == page)) = true at hkept
  rw [hkey] at hkept
  cases hkept

end Sys2Proof.Machine.State
end

section
namespace Sys2Proof.Proofs

open Sys2Proof.Machine Sys2Proof.Machine.State

/-- Settles O14: the header's part comes last and clears what it names; the chapter's part, the loss of a link among them, writes no control of the header. -/
theorem softResetClearsTheHeader : Obligations.SoftResetClearsTheHeader := by
  unfold Obligations.SoftResetClearsTheHeader
  intro s page hlist hs hb hd
  have hp := pageListed_lt hlist
  have hkept : ∀ f ∈ controlFields, (s.begin.softReset page).rd f page = s.rd f page := fun f hf => softReset_rd_control hf hp
  have hclear : ∀ f ∈ clearedFields, (s.begin.softReset page).rd f page = 0 := fun f hf => softReset_rd_cleared hf hp
  have hirq : ∀ b, b < 32 → (s.begin.softReset page).irqBit page b = false := fun b hb => by
    have hm : irqField b ∈ clearedFields := List.mem_append_right _ (List.mem_map_of_mem (List.mem_range.mpr hb))
    rw [irqBit, hclear _ hm]
    rfl
  refine ⟨_, exec_softResetAct hlist hs hb hd, hirq, hclear _ (by decide), hclear _ (by decide), hclear _ (by decide),
    hclear _ (by decide), rd_wr_same .., fun path a _ ha hpage => softReset_latched ha hpage, hkept _ (by decide), hkept _ (by decide),
    hkept _ (by decide), hkept _ (by decide), hkept _ (by decide), hkept _ (by decide), fun h => ?_⟩
  obtain ⟨-, hdram, hlinks⟩ := softResetExtra_other
    (s := if keepsCounters page then s.begin else s.begin.eraseKeys (fun k => keyPage k == page && keyCounter k)) h
  constructor
  · refine hdram.trans ?_
    split <;> rfl
  · refine hlinks.trans ?_
    split <;> rfl

end Sys2Proof.Proofs
end
